-- ==== Sys2Proof/Word.lean ====
section
/-! DEFINITION. The word types of the VX-3072 (R2: little-endian, bit 0 least significant) and the names of its units. -/

namespace Sys2Proof

/-- A byte of memory, of a packet or of a command. -/
abbrev Byte := BitVec 8
/-- A 32-bit lane of a vector register, an FP32 code, a 32-bit register word. -/
abbrev W32 := BitVec 32
/-- A bed, a bridge or a partition: 0 to 7 (R12, R16). -/
abbrev Bed := Fin 8
/-- A core within its bed (R12). -/
abbrev Core := Fin 384
/-- An Aelrel port (R17). -/
abbrev Port := Fin 16
/-- An HBM4 stack, its memory controller and its update unit: 4b + k (R192, R218). -/
abbrev Stack := Fin 32
/-- A DMA queue (R358). -/
abbrev Queue := Fin 16
/-- A hardware context of a core (R121). -/
abbrev Ctx := Fin 8

end Sys2Proof
end

