-- ==== Sys2Proof/Pages.lean ====
section
/-! DEFINITION. The register pages and fields of the register chapters (R28 to R31 and every register table): each page kind, each field with its name as the manual spells it. -/

namespace Sys2Proof

/-- The kinds of register page: the block types of R30 (a layer precision page has its own kind here and shares block type 0x0023 with the quantiser, R107), and the four per-core subpages seen through a core window (R39, R132's status pages). -/
inductive PageKind where
  | deviceGlobals
  | pageDirectory
  | controlProcessor
  | powerMgmt
  | bedSequencer
  | cluster
  | coreWindow
  | quantiser
  | layerPrecision
  | bridge
  | bridgeCache
  | regulators
  | updateUnit
  | memController
  | linkDie
  | port
  | reduction
  | pcie
  | keeper
  | security
  | recorder
  | mirror
  | coreSub0 | coreSub1 | coreSub2 | coreSub3
  deriving DecidableEq, Repr

/-- One page: its kind and its INSTANCE (R31). A core subpage has instance 384 × bed + core. -/
structure Page where
  kind : PageKind
  inst : Nat
  deriving DecidableEq, Repr

/-- Every register field of the manual, under the manual's own name (prefixed where two registers share it). -/
inductive Fld where
  | BLOCK_TYPE | INSTANCE | MINOR | MAJOR | RUN | TRAP_EN | CNT_CLR | RUNNING | STATE_ERR | AUTH_ERR | LOCK_ERR | LOCKED_COPY | EVT | EVT_EN
  | CAP_CODE | CAP_FRAME_LO | CAP_VALID | ERR_CORR | ERR_UNCORR | COMMIT_BIT | ABORT_BIT | OPEN_DIRTY | WAITING | APPLIED | APPLY_FRAME | LOCKED
  | UNLOCK | PART_LOG2 | PART_COUNT | DEVICE_TIME | TREF_EN | TREF_LOCKED | HOLDOVER | GROUP_ALIGNED | ALIGN_WARN | ALIGN_ERR | WIN_CORE
  | WIN_SUBPAGE | BAD_SEL | QZ_SNAP_VALID | QZ_SNAP_STEP | WATCH_SEL | WATCH_LAYER | NORM_EN | TRIP_EN | WATCH_ELEMS | WATCH_SAT | WATCH_ESC
  | WATCH_ESC_OVF | WATCH_MISFIT | WATCH_NORM | WATCH_EMA | WATCH_POISON | LP_SNAP_VALID | LP_SNAP_STEP | RETRY_STEPS | SAT_RATE_LOG2 | ALPHA_LOG2
  | ESC_OVF_MAX | NORM_FACTOR | WARMUP_STEPS | RECOVERY_STEPS | LAYER_SEL | LAYER_ST | LAYER_MODE | LAYER_SHIFT | BY_RETRY | STEPS_IN_STATE
  | LAST_SWITCH_STEP | CORE_FLAGS | NF_CAPT | SLIP_SEEN | CORE_ABANDONED | CTX_ACTIVE | SLOT_BUSY | NFC_VALID | NFC_KIND | NFC_SOURCE | NFC_CONTEXT
  | NFC_STREAM | NFC_SLOT | NFC_CYCLE | NFC_FRAME | NFC_OP | NFC_LAYER | NFC_ROW_BLK | NFC_COL_BLK | NFC_POS | SLIP_EVENTS | SLIP_CYCLES | CORR_STALL
  | CTX_RESETS | BLOCKS_ISSUED | CTX_STATE | CTX_STREAM | STALL_FRAMES | CTX_ENTRY | CL_FLAGS | CL_NF_ANY | CL_CAPT_MAP | FRAME_NUMBER | STEP_CNT
  | EPOCH_CNT | FRAME_US | FRAME_LOCKED | FRAMES_PER_STEP | SEQ_STATE | SWITCH_PENDING | FRAME_IN_STEP | ARM_ACTIVE | OVERRUN_CNT | REALIGN_CNT
  | SKIP_CNT | SLACK_MIN | ORIGIN_TIME | ORIGIN_FRAME | BED_FLAGS | BED_NF_ANY | NF_TRAP_EN | NF_LATCH_CORE | NF_LATCH_VALID | NF_CORES | BED_NF_STEP
  | LOCAL_GIB | BR_TRAINED | BR_SELF_REFRESH | SCRUB_BUSY | DEGRADED | ENC_EN | KEY_VALID | KEY_EPOCH | ADDR_FAULTS | FAULT_ADDR | GUARD_ACTIVE
  | EGRESS_DENY | DENY_ADDR | PINNED | DIRTY | HITS | MISSES | ALLOC_REFUSED | DAL_FREED | DAL_STALE | HOST_BUDGET | BUDGET_C | FAR_BUDGET
  | UPDATE_FRAME | OVERDRAW_C | CLIP_C | FAR_OVERDRAW | MC_TRAINED | RETRAINING | MC_SELF_REFRESH | HOT | TEMP | FENCED_MAP | UE_ADDR | RETRAIN_CNT
  | REFRESH_LATE | SCRUB_PASS | PASS_ACTIVE | PREPASS | ROLLING | EXACT | UU_LAYER | LAST_STEP | GROUP_SEL | GROUP_WORD | DECAY_EXCL | HELD_REC
  | STALE_BLK | SAT_STORE | ROLLED_BLK | MIRROR_KIB | CUT_DONE_STEP | WARD_STEP_A | WARD_STEP_B | WARD_A_VALID | WARD_B_VALID | WARD_REJECTED
  | DEVICE_ID | ID_VALID | REACHABLE | ROUTE_FRAME | TIME_REF_ID | PRIV_SEL | DRBG_READY | PRIV_ES_FAIL | LEDGER_STALL | RESEED_CNT | NOISED_PARTS
  | NOISE_SAT | NOISE_FAIL | LEDGER_STEP | FORCE_FALLBACK | NEAR_LOOPBACK | LINK_STATE | PORT_FENCED | POS_VALID | ENC_ACTIVE | LANES_UP | PLANE
  | SWITCH | SWITCH_PORT | SLOTS | C0_SLOTS | FEC_CORR | FEC_UNCORR | RETRY | HB_MISS | DOWN_CNT | GCM_FAIL | C0_LATE | CLEAR_DROP | UNROUTED
  | TX_SLOTS_C | PORT_ENC_EN | ENTRIES | RX_PARTS | LATE | POISON_DROP | POISON_FWD | STORE_FULL | BAD_PKT | SETTLED_STEP | SKIPPED | ROOT_PARTS
  | BACKUP_CERTS | VOTE_FAIL | LINK_GEN | LINK_WIDTH | BOOT_DONE | APERTURE_PART | APERTURE_BASE | DMAQ_SEL | DMAQ_EN | RING_LOG2 | DMAQ_PART
  | DMAQ_VECTOR | DMAQ_RING | DMAQ_CPL | DMAQ_TAIL | DMAQ_HEAD | DMAQ_IDLE | SEALED_SEQ | MBX_GO | MBX_HALT | MBX_STATUS | MBX_LEN | MBX_RSP_LEN
  | MBX_BUF | PM_STATE | PM_CAUSE | PLAN_POINT | PLAN_MODE | POINT_NOW | MODE_NOW | DEFER | FREQ_MHZ | CAP_W | CAP_ORDER | WATTS | COMPUTE_STEPS
  | MEMORY_STEPS | LINK_STEPS | TJ_MAX | THROTTLED | SENSOR | TRIM_STEPS | WORST_MON | DROOP_CNT | STRETCH_CYC | FORCED_CNT | ALERT_CNT | TEST_PWR
  | DOMAIN_ON | HOLDUP_V | HOLDUP_E | HOLDUP_CAP | HOLDUP_LOW_CNT | STORE_ACTIVE | STORE_KIND | OWNER_SET | OWNER_SLOT | FW_SLOT | FW_PENDING
  | SEC_ES_FAIL | SESSION_MAP | FUSE_COUNT | FW_VERSION | FW_SVN | SESSION_SEL | SESSION_STATE | MEM_KEYED | LINK_KEYED | SESSION_ID_LO
  | INGRESS_DENY | COARSE | IDENT_HASH | SERIAL | FROZEN | PROT_LOW | STORING | WAIT_HOLDUP | GEN_HEAD | PROT_HEAD | PROT_FREE | NEXT_SEQ
  | GEN_OLDEST | POWER_CYCLES | QUEUED_GEN | QUEUED_PROT | OP_SECONDS | DROPPED_CNT | REPEAT_CNT | SLOT_SEL | FREEZE | UNFREEZE | RECORD
  | PROT_MERGED | MET_READY | MET_FAULT | SEAL_CLOSED | OVERRANGE | STALE | SNAP_SEQ | TOTAL_MJ | AUX_MJ | UNATTRIB_MJ | BED_MJ | SW_VERSION | SW_CRC
  | AUDIT_CNT | SNAP_BAD
  deriving DecidableEq, Repr

end Sys2Proof
end

