-- ==== Sys2Proof/Syntax.lean ====
section
/-! DEFINITION. The commands that the block takes: one constructor of Instr per row of spec/opcode_table.json, with the operands that the row's rule names. The table gives no bits, so a command has no word. -/

namespace Sys2Proof

/-- Who writes a register (R5, R36, R283). -/
inductive Agent where
  | host | controlProcessor | armature | securityOwner
  deriving DecidableEq, Repr

/-- The path that a management command takes (R369); inside an SPDM secured session it is S-capable. -/
inductive Path where
  | mailbox
  | mctp
  | fabric (src : Nat)
  | secured (session : Nat)
  deriving DecidableEq, Repr

/-- The authorisation block of R285. -/
structure Auth where
  nonce : List Byte
  sig : List Byte
  deriving DecidableEq, Repr

/-- The frame of one management command (R369): its path, PARTITION byte, reserved byte, whether its payload has the command's length, and its authorisation block if it carries one. -/
structure Req where
  path : Path
  part : Nat
  reserved : Nat
  lenOk : Bool
  auth : Option Auth
  deriving DecidableEq, Repr

/-- A command as it stands in a buffer or packet: code, PARTITION, reserved byte, payload (R369). -/
structure RawCmd where
  code : Nat
  part : Nat
  reserved : Nat
  payload : List Byte
  deriving DecidableEq, Repr

/-- A fabric packet: the header of R232 and its payload. rsv tells whether any reserved bit of the header is nonzero. -/
structure Packet where
  dest : Nat
  src : Nat
  srcPart : Nat
  cls : Nat
  enc : Bool
  poison : Bool
  dormant : Bool
  rsv : Bool
  type : Nat
  hopCount : Nat
  hops : List Nat
  seq : Nat
  frameLo : Nat
  tf : List Byte
  payload : List Byte
  tag : List Byte
  deriving DecidableEq, Repr

/-- A DMA descriptor (R359); rsv tells whether a reserved field is nonzero. -/
structure DmaDesc where
  hostAddr : Nat
  devAddr : Nat
  len : Nat
  op : Nat
  irq : Bool
  rsv : Bool
  cookie : Nat
  deriving DecidableEq, Repr

/-- What the check code of R186 says of a line that is read. -/
inductive LineErr where
  | none | corrected | uncorrectable | sram
  deriving DecidableEq, Repr

/-- An access at a bridge (R169 to R176): requesting bed, traffic class, hint of R173, USES, device address, and whether it comes from the host side. -/
structure MemReq where
  bed : Bed
  cls : Nat
  hint : Nat
  uses : Nat
  addr : Nat
  host : Bool
  deriving DecidableEq, Repr

/-- Where a vector instruction runs (R125, R127, R130): bed, core, context, the issuing half (backward or forward), list entry, OP_ID, layer and cycle. -/
structure VWhere where
  bed : Bed
  core : Core
  ctx : Ctx
  backward : Bool
  entry : Nat
  opId : Nat
  layer : Nat
  cycle : Nat
  deriving DecidableEq, Repr

/-- The operands of a vector instruction (R145): DST, the three source codes and IMM. -/
structure VArgs where
  dst : Nat
  a : Nat
  b : Nat
  c : Nat
  imm : W32
  deriving DecidableEq, Repr

/-- The commands, in the order of the table. A default is the plain case: a 4-byte read, no slot asked for again, a packet with a good PEC. -/
inductive Instr where
  -- BAR0 and the register pages (R25 to R39, R389)
  | badAccess (off size : Nat) (write : Bool)
  | unimplementedAccess (off size : Nat) (write : Bool)
  | lowWordRead (off : Nat) (size : Nat := 4)
  | registerWrite (agent : Agent) (off size value : Nat)
  | directoryWrite (off size value : Nat)
  | ctlRunWrite (agent : Agent) (page : Page) (run : Bool)
  | cntClr (page : Page)
  | commit (page : Page)
  | abort (page : Page)
  | stagingSetFlush (page : Page)
  | pageLock (page : Page)
  | coreWindowAccess (bed : Bed) (off size : Nat) (write : Option Nat)
  | partCfgWrite (agent : Agent) (value : Nat)
  | layerStateWrite (bed : Bed) (value : Nat)
  | inactivePageWrite (bed : Bed) (off size : Nat)
  | groupWordWrite (unit : Stack) (word : Fin 8) (value : Nat)
  | brMapWrite (bridge : Bed) (value : Nat)
  | bridgeRunStop (bridge : Bed)
  | portRunWrite (port : Port) (run : Bool)
  | encCtlWrite (agent : Agent) (bridge : Bed) (enable : Bool)
  | bedRunStop (bed : Bed)
  | runWriteIgnored (bed : Bed)
  | mirrorWrite (off size value : Nat)
  | recordRead
  | freeze
  | unfreeze
  | freezeEffective
  | freezeTimeout
  | doorbell (queue : Queue) (tail : Nat) (descs : List (List Byte))
  | mbxGo
  | mbxHalt
  -- the tick (R134, R163)
  | frameTick (bed : Bed)
  | stepBoundary (bed : Bed)
  | precisionRetry (part : Bed) (layer : Nat)
  | precisionShiftReset (part : Bed) (layer : Nat)
  | changeForced (bed : Bed)
  | capRelease
  -- cores (R108 to R132)
  | matrixInstructionBlock (bed : Bed) (core : Core) (engine : Fin 3) (ready : Nat)
  | matrixBlockEnd (bed : Bed) (core : Core) (engine : Fin 3)
  | vectorInstructionBlock (bed : Bed) (core : Core) (backward : Bool) (ready : Nat)
  | vAdd (w : VWhere) (i : VArgs)
  | vSub (w : VWhere) (i : VArgs)
  | vMul (w : VWhere) (i : VArgs)
  | vFma (w : VWhere) (i : VArgs)
  | vMin (w : VWhere) (i : VArgs)
  | vMax (w : VWhere) (i : VArgs)
  | vAbs (w : VWhere) (i : VArgs)
  | vNeg (w : VWhere) (i : VArgs)
  | vCmplt (w : VWhere) (i : VArgs)
  | vCmpeq (w : VWhere) (i : VArgs)
  | vSel (w : VWhere) (i : VArgs)
  | vSqrt (w : VWhere) (i : VArgs)
  | vRcp (w : VWhere) (i : VArgs)
  | vRsqrt (w : VWhere) (i : VArgs)
  | vExp2 (w : VWhere) (i : VArgs)
  | vLog2 (w : VWhere) (i : VArgs)
  | vCvtInt32 (w : VWhere) (i : VArgs)
  | vCvtBf16 (w : VWhere) (i : VArgs)
  | vIadd (w : VWhere) (i : VArgs)
  | vAnd (w : VWhere) (i : VArgs)
  | vOr (w : VWhere) (i : VArgs)
  | vXor (w : VWhere) (i : VArgs)
  | vShl (w : VWhere) (i : VArgs)
  | vShr (w : VWhere) (i : VArgs)
  | vectorLoad (w : VWhere) (i : VArgs)
  | vectorStore (w : VWhere) (i : VArgs)
  | quantiseTile (bed : Bed) (core : Core)
  | nfTrap (bed : Bed)
  | contextStallTimeout (bed : Bed) (core : Core) (ctx : Ctx)
  | sequencerAckTimeout (bed : Bed)
  -- transfers and memory (R168 to R192)
  | transferLoad (bed : Bed) (core : Core) (ctx : Ctx)
  | transferPrefetch (bed : Bed) (core : Core) (ctx : Ctx)
  | transferRelease (bed : Bed) (core : Core) (ctx : Ctx)
  | transferDrop (bed : Bed) (core : Core) (ctx : Ctx)
  | transferComplete (bed : Bed) (core : Core) (ctx : Ctx)
  | lineRead (req : MemReq) (err : LineErr)
  | lineWrite (req : MemReq) (first : Nat) (data : List Byte) (poison : Bool)
  | scrubDone (bridge : Bed)
  | patrolScrub (stack : Stack) (addr : Nat) (err : LineErr) (passDone : Bool)
  | memoryTrainingCheck (stack : Stack) (channel : Fin 32) (ok : Bool)
  | channelRetrain (stack : Stack) (channel : Fin 32) (errors : Nat)
  | retrainEnd (stack : Stack) (channel : Fin 32) (ok : Bool)
  | refreshLate (stack : Stack) (channel : Fin 32)
  -- the parameter update (R193 to R218)
  | updateEntry (unit : Stack)
  | updatePrepass (unit : Stack)
  | unitStop (unit : Stack)
  -- the fabric (R219 to R245)
  | slotSend (port : Port) (slot : Nat)
  | slotReceive (port : Port) (corrected uncorrectable : Nat) (packet : Packet) (asked : Option Nat := none)
  | dataReceive (port : Port) (packet : Packet)
  | heartbeatReceive (port : Port) (packet : Packet)
  | heartbeatTimeout (port : Port)
  | timeRequestReceive (port : Port) (packet : Packet)
  | timeResponseReceive (port : Port) (packet : Packet)
  | groupAlignTimeout (part : Bed)
  | timeRefEdge
  | trefHoldoverTimeout
  | topologyReceive (port : Port) (packet : Packet)
  -- reduction and votes (R246 to R264)
  | reduceReceive (port : Port) (packet : Packet)
  | levelCutoff (part : Bed) (bucket step tile piece : Nat)
  | rootDeadline (part : Bed) (bucket step tile piece : Nat)
  | certReceive (port : Port) (packet : Packet)
  | voteDeadline (part : Bed) (code : Nat)
  -- cuttings, management packets, links
  | cuttingReceive (port : Port) (packet : Packet)
  | cutAckReceive (port : Port) (packet : Packet)
  | mgmtReceive (port : Port) (packet : Packet)
  | portRetrain (port : Port)
  | portTrainingTimeout (port : Port)
  | linkUp (port : Port)
  | d2dFlitRetry (link : Fin 11) (compute : Bool := false)
  | d2dTrainingLost (link : Fin 11)
  | d2dTrainingTimeout (link : Fin 11)
  -- private training (R265 to R282)
  | ledgerEntryWrite (part : Bed)
  | ledgerStall (part : Bed)
  | drbgReseed (part : Bed) (ok : Bool)
  | entropyHealthFail
  -- management commands (R371)
  | armatureLoad (req : Req) (addr len : Nat)
  | armatureActivate (req : Req) (armId startFrame startStep startEpoch startTime : Nat)
  | armatureUnload (req : Req) (armId : Nat)
  | graftPlan (req : Req) (memberHash step : Nat)
  | regrow (req : Req) (partner source cutStep : Nat) (partnerValid sourceHolds : Bool)
  | regrowReplay (part : Bed) (step : Nat)
  | getStatus (req : Req)
  | getNonce (req : Req)
  | readPower (req : Req)
  | setPowerState (req : Req) (target : Nat)
  | haltAndHold (req : Req)
  | evrRead (req : Req) (first : Nat)
  | evrFreeze (req : Req)
  | evrUnfreeze (req : Req)
  | evrClear (req : Req) (scope upToSeq : Nat)
  | ownerEnroll (req : Req) (keyHash : List Byte)
  | ownerRevoke (req : Req)
  | sessionOpen (req : Req) (payload : List Byte)
  | sessionClose (req : Req)
  | fwUpdate (req : Req) (image offset : Nat) (chunk : List Byte) (last : Bool)
  | fwCommit (req : Req)
  | pageUnlock (req : Req) (page : Page)
  | recoveryWrite (req : Req) (image offset : Nat) (chunk : List Byte) (last : Bool)
  | unknownCommand (req : Req) (code : Nat)
  | managementCommandTimeout (req : Req) (code phase : Nat)
  | setEndpointId (eid : Nat) (op : Nat := 0)
  | getEndpointId
  | getMctpVersionSupport (type : Nat := 0xFF)
  | getMessageTypeSupport
  | getVendorDefinedMessageSupport (selector : Nat := 0)
  -- SPDM (R287)
  | getVersion
  | getCapabilities
  | negotiateAlgorithms (offered : List Nat)
  | getDigests
  | getCertificate (slot offset len : Nat)
  | challenge (slot : Nat) (nonce : List Byte)
  | getMeasurements (index : Nat) (nonce : List Byte)
  | keyExchange (mutualAuth : Bool) (digest key : List Byte) (cert : List Byte := [])
  | finish (session : Nat) (verified : Bool)
  | endSession (session : Nat)
  | keyUpdate (session : Nat)
  | vendorDefinedRequest (session : Nat) (cmd : RawCmd)
  | spdmUnsupportedRequest (code : Nat)
  -- the host (R356 to R372)
  | bar2Read (off : Nat) (err : LineErr)
  | bar2Write (off : Nat) (data : List Byte) (ep : Bool)
  | dmaHostToDevice (queue : Queue) (data : List Byte)
  | dmaDeviceToHost (queue : Queue)
  | dmaSealedWrite (queue : Queue) (cipher tag : List Byte)
  | dmaCompletion (queue : Queue)
  | dmaDescriptorTimeout (queue : Queue) (moved : List Byte)
  | pcieConfigRequest (dword : Nat := 0) (write : Option Nat := none)
  | flr
  | deviceReset (sysReset : Bool)
  | powerUp
  | boot (complete : Bool := true)
  | cpWatchdogTimeout
  | cpRestartComplete
  | cpRestartLimit
  -- power, clocks, thermal (R300 to R318)
  | vinExcursion (millivolts : Nat)
  | inputOvercurrent (watts : Nat)
  | vauxLow
  | converterFault (modules : List Nat) (regulators : List Nat)
  | pwrAlert
  | floorExit
  | flowFault
  | flowFaultDormant
  | thermTrip (sensor celsius : Nat)
  | junctionSensorRead (sensor celsius : Nat)
  | throttleRestore
  | droopDetect (edges : Nat)
  | sustainedDroop
  | marginCheck (monitor : Nat) (below : Bool)
  | clustersOn
  | holdupSample (millivolts : Nat)
  | durableStoreStart (kind : Fin 4)
  | durableStoreComplete
  | durableStoreRetry (kind : Fin 4)
  -- the recorder (R337 to R355)
  | eventBatchStore
  | hours
  | opSecond
  | repeatSecond
  -- the metering island (R320 to R336)
  | meterReady
  | meterNotReady
  | attributionInterval (inputMicrojoule auxMicrojoule : Nat) (branches : List Nat) (milliamps : Nat)
  | metPulse
  | overrange (milliamps : Nat)
  | meterCommit (holdupMillivolts : Nat)
  | selfTestFail
  | snapshot (crcOk : Bool)
  | snapshotStale
  | sealChange (closed : Bool)
  | readEnergy (pec : Bool := true)
  | readStatus (pec : Bool := true)
  | readSwId (pec : Bool := true)
  | readAudit (index : Nat) (pec : Bool := true)
  | readCfg (pec : Bool := true)
  | cfgWrite (holdupMillifarad : Nat) (holdupMillivolts : Nat) (pec : Bool := true)
  | fwBegin (length milliamps : Nat) (pec : Bool := true)
  | fwChunk (offset : Nat) (data : List Byte) (pec : Bool := true)
  | fwEnd (holdupMillivolts : Nat) (milliamps : Nat := 0) (payload : List Byte := []) (pec : Bool := true)
  | islandUnknownCommand (code : Nat) (pec : Bool := true)
  -- the TAP (R385, R386)
  | bypass (opcode : Nat)
  | idcode
  | samplePreload (preload : Option (List Bool))
  | extest
  | extestPulse
  | extestTrain
  | clamp
  | highz
  | boardOtp (word : Nat)
  -- events added at the end of the table
  | vauxRise
  | vinRestore (millivolts : Nat)
  | keeperStop
  | flowFaultClear
  | d2dTrainingRecovered (link : Fin 11)
  | timeHoldEnd
  | stackHot (stack : Stack) (celsius : Nat)
  | powerTransitionComplete
  deriving DecidableEq, Repr

end Sys2Proof
end

