-- ==== Sys2Proof/Config.lean ====
section
/-! DEFINITION. What one device fixes (fuses, keys, silicon values) and what the manual leaves open, as constants without a body: nothing can be proved about their values, so a claim holds for every value. -/

namespace Sys2Proof.Config

/-! ### Identity of the part -/

/-- The fused serial number (R299 SERIAL). -/
opaque serial : BitVec 64
/-- SHA-384 of the identity public key, as 12 words (R299 IDENT_HASH). -/
opaque identHash : Nat → BitVec 32
/-- Methiri's JEP106 code in IDCODE (R386). -/
opaque jep106 : BitVec 11
/-- VERSION and SVN that a firmware image carries, and the firmware key under which its signature verifies, if any (R296). -/
opaque imageVersion : List Byte → Nat
@[inherit_doc imageVersion] opaque imageSvn : List Byte → Nat
@[inherit_doc imageVersion] opaque imageKey : List Byte → Option Nat
/-- Methiri's IANA enterprise number (R368). -/
opaque enterprise : BitVec 32
/-- The digest of the boot ROM, measurement 1 (R288). -/
opaque romDigest : List Byte
/-- The metering island's legally relevant code as delivered (R331), the P-384 verification key in its own ROM (R330), and how an island image frames its code and the signature over it. -/
opaque islandCode : List Byte
@[inherit_doc islandCode] opaque islandKey : List Byte
@[inherit_doc islandCode] opaque islandParts : List Byte → List Byte × List Byte

/-! ### Uninterpreted functions of external standards (log 9) -/

/-- SHA-384 (R147, R152, R284, R288, R348). -/
opaque sha384 : List Byte → List Byte
/-- AES-256-XTS of IEEE 1619 (R183): the ciphertext of a 64-byte data unit under a 512-bit key and a data-unit sequence number. -/
opaque aesXts : List Byte → Nat → List Byte → List Byte
/-- ECDSA P-384 verification: key hash, message, signature (R285, R289, R296). -/
opaque ecdsaOk : List Byte → List Byte → List Byte → Bool
/-- ECDSA P-384 signature with the identity key (R273, R286, R291). -/
opaque identitySign : List Byte → List Byte
/-- HKDF-Expand: key, info, length (R292). -/
opaque hkdf : List Byte → List Byte → Nat → List Byte
/-- HKDF-Extract: salt, input key material (R292). -/
opaque hkdfExtract : List Byte → List Byte → List Byte
/-- AES-256-GCM opening: key, nonce, additional data, ciphertext, tag; the plaintext when the tag verifies (R243, R361). -/
opaque gcmOpen : List Byte → Nat → List Byte → List Byte → List Byte → Option (List Byte)
/-- AES-256-GCM tag and ciphertext (R243, R291). -/
opaque gcmSeal : List Byte → Nat → List Byte → List Byte → List Byte × List Byte
/-- The shared x-coordinate of an ECDH exchange from a private scalar and a public key; the empty key stands for the base point, so that the result is the public key itself (R291). -/
opaque ecdh : List Byte → List Byte → List Byte

/-! ### Values that the manual leaves open (free values) -/

/-- A byte of device memory whose content the manual leaves undefined (R178, R192, R382): by generation and address. -/
opaque freeByte : Nat → Nat → BitVec 8
/-- A byte of a core's local store that nothing has written. -/
opaque freeLocal : Nat → Nat → BitVec 8
/-- Random bytes of the key generator or of a nonce (R285, R290, R291): by draw number. -/
opaque entropy : Nat → List Byte
/-- The two 64-bit words of the noise generator for one draw (R269, R270): by instantiation and draw number. -/
opaque drbg : Nat → Nat → BitVec 64 × BitVec 64
/-- The choice of RCP within 1 ulp (R126): an index into the admissible neighbours. -/
opaque rcpPick : BitVec 32 → Nat
/-- The choice of RSQRT within 1 ulp (R126). -/
opaque rsqrtPick : BitVec 32 → Nat
/-- Which of the codes within 2 ulp EXP2 of a finite operand gives (R126). -/
opaque exp2Pick : BitVec 32 → Nat
/-- Which of the codes within 2 ulp LOG2 of a positive finite operand gives (R126). -/
opaque log2Pick : BitVec 32 → Nat
/-- Methiri's PCI-SIG vendor ID (R356). -/
opaque vendorId : BitVec 16
/-- A word, or part of one, of configuration space that R356 does not define: as the PCIe base specification has it. -/
opaque configSpace : Nat → BitVec 32
/-- Whether the ward of a partition asks for its cutting in a frame (R217): no message is named that does. -/
opaque wardAsks : Nat → Nat → Bool
/-- The device address of line j of a ward's state, by device and line: the ward's own armature places it (R215, R217). -/
opaque wardLine : Nat → Nat → Nat
/-- The device that a partition is asked to be the source of, in a frame, with the step of its cutting (R217): no message is named that asks. -/
opaque sourceAsk : Nat → Nat → Option (Nat × Nat)
/-- pow_fp64 of R204: the FP64 code of beta to the power t. -/
opaque powFp64 : BitVec 32 → Nat → BitVec 64
/-- Which of the FP64 codes within 1 ulp an operation of R269 gives: 0 ln, 1 sqrt, 2 the angle 2π u2, 3 cos, 4 sin, 5 the product of a sample; by the codes of its operands. -/
opaque gaussPick : Nat → BitVec 64 → BitVec 64 → Nat
/-- The next rate correction of DEVICE_TIME in ppm from a measured offset in ns (R133, R234): the manual bounds it by ±100 ppm only. -/
opaque steer : Int → Int
/-- Whether another member's TREF_LOCKED is 1 in a frame: no message is named that tells it (R234). -/
opaque peerLocked : Nat → Nat → Bool
/-- CORR_req of a TIME sample, by the request's T1: no message field is named that brings it to the member (R234). -/
opaque corrReq : Nat → Int
/-- What an operand reads whose source code says unused (0xFF) in an operation that needs it (R145): by OP_ID. -/
opaque unusedSource : Nat → BitVec 32
/-- USES of a write under DISCARD_AFTER_LAST whose descriptor or packet names none (R173, R181, R233): by tensor id or SEQ; 1 is added modulo 255. -/
opaque storeUses : Nat → Nat
/-- What the quantiser writes for a NaN in an integer tensor (R61 states no value): by element. -/
opaque quantNan : Nat → Nat
/-- CVT to INT32 of a NaN (R126 states no value): by the operand. -/
opaque cvtNan : BitVec 32 → BitVec 32
/-- The group's state that a joiner starts from (R242), whose message the manual does not lay out: ORIGIN_TIME, ORIGIN_FRAME, the first frame of the planned step, EPOCH, and a layer's LAYER_STATE bits, by MEMBER_HASH and step. -/
opaque graftTime : Nat → Nat → BitVec 64
@[inherit_doc graftTime] opaque graftOrigin : Nat → Nat → BitVec 48
@[inherit_doc graftTime] opaque graftFrame : Nat → Nat → BitVec 48
@[inherit_doc graftTime] opaque graftEpoch : Nat → Nat → BitVec 16
@[inherit_doc graftTime] opaque graftLayer : Nat → Nat → Nat → BitVec 32
/-- Whether a device belongs to the group that a graft changes, as a joiner's graft state tells (R241, R242): by MEMBER_HASH and step. -/
opaque graftMember : Nat → Nat → Nat → Bool
/-- Mean input power as the keeper's sense measures it, in tenths of a watt: by draw (R298, R315). -/
opaque inputPower : Nat → Nat
/-- Whether an overdraw request finds an idle cycle in its frame or waits for the tick (R182): by draw. -/
opaque overdrawWaits : Nat → Bool
/-- A digest answer of SPDM parts that the manual takes from DSP0274: transcript by message. -/
opaque spdmTranscript : List Byte → List Byte

/-- What partner and source answer to a REGROW that arrives as a raw command (R217): the cutting's step, whether the partner holds a valid slot, whether the source holds every later step. -/
opaque regrowCut : Nat → Nat
@[inherit_doc regrowCut] opaque regrowPartner : Nat → Bool
@[inherit_doc regrowCut] opaque regrowSource : Nat → Bool
/-- The public key that an X.509 certificate carries (R287). -/
opaque certKey : List Byte → List Byte
/-- The X.509 certificate of SPDM slot 0 (R286). -/
opaque certificate : List Byte
/-- The boundary register (R386): how many cells, which of them belong to PCIe and Aelrel lanes, what a pin captures at a sample, the opcodes of the instructions by their number in the state. -/
opaque cellCount : BitVec 12
@[inherit_doc cellCount] opaque laneCell : Nat → Bool
@[inherit_doc cellCount] opaque pinCapture : Nat → Nat → Bool
@[inherit_doc cellCount] opaque tapOpcode : Nat → BitVec 8
/-- The MCTP version entries that DSP0236 gives the base protocol (R368). -/
opaque mctpVersions : Nat → List (BitVec 32)
/-- The command set number of Get Vendor Defined Message Support (R368). -/
opaque commandSet : BitVec 16
/-- An image's bytes so far are the whole image, as its own framing tells (R365). -/
opaque imageWhole : List Byte → Bool
/-- The host link has been in L0 for 100 ms before boot ends (R364). -/
opaque linkUp : Nat → Bool
/-- The first word of a capability in configuration space (R356). -/
opaque capPlace : Nat → BitVec 10

end Sys2Proof.Config
end

