-- ==== Sys2Proof/Machine/Bits.lean ====
section
/-! DEFINITION. Bit fields, little-endian byte strings (R2), saturating counters and the CRC-32C of R337. -/

namespace Sys2Proof.Machine

/-- Bits [lo + w - 1 : lo] of a number. -/
def bits (x lo w : Nat) : Nat := x / 2 ^ lo % 2 ^ w

/-- Bit n of a number. -/
def bitAt (x n : Nat) : Bool := x / 2 ^ n % 2 == 1

/-- 1 for true, 0 for false. -/
def b2n (b : Bool) : Nat := if b then 1 else 0

/-- A number as n bytes, the least significant first (R2). -/
def leBytes : Nat → Nat → List Byte
  | 0, _ => []
  | n + 1, x => BitVec.ofNat 8 x :: leBytes n (x / 256)

/-- The number that bytes spell, the least significant first (R2). -/
def leNat : List Byte → Nat
  | [] => 0
  | b :: t => b.toNat + 256 * leNat t

/-- The number in n bytes of a string from byte i; a byte beyond its end counts 0. -/
def fieldAt (bs : List Byte) (i n : Nat) : Nat := leNat ((bs.drop i).take n)

/-- The bytes of an ASCII string. -/
def ascii (t : String) : List Byte := t.toList.map fun c => BitVec.ofNat 8 c.toNat

/-- A list cut or filled with zero bytes to n bytes. -/
def padTo (n : Nat) (bs : List Byte) : List Byte := (bs ++ List.replicate (n - bs.length) 0).take n

/-- The two's complement value of the low w bits. -/
def sext (w x : Nat) : Int := if bitAt x (w - 1) then (bits x 0 w : Int) - 2 ^ w else bits x 0 w

/-- The low w bits of an integer in two's complement. -/
def wrap (w : Nat) (x : Int) : Nat := (x % (2 ^ w : Nat)).toNat

/-- A sum that stays at the all-ones value of w bits (the counters that saturate). -/
def satAdd (w a b : Nat) : Nat := min (a + b) (2 ^ w - 1)

/-- An integer clamped to a range. -/
def clampI (lo hi x : Int) : Int := max lo (min hi x)

/-- ⌈a ÷ b⌉. -/
def ceilDiv (a b : Nat) : Nat := (a + b - 1) / b

/-- Bytes xored in place. -/
def xorN (a b : Nat) : Nat := a ^^^ b

/-- One bit step of CRC-32C, reflected, polynomial 0x82F63B78 (R337: RFC 3720). -/
def crcBit (c : Nat) : Nat := if c % 2 = 1 then (c / 2) ^^^ 0x82F63B78 else c / 2

/-- One byte step of CRC-32C. -/
def crcByte (c : Nat) (b : Byte) : Nat :=
  crcBit (crcBit (crcBit (crcBit (crcBit (crcBit (crcBit (crcBit (c ^^^ b.toNat))))))))

/-- CRC-32C of a byte string (R337). -/
def crc32c (bs : List Byte) : Nat := bs.foldl crcByte 0xFFFFFFFF ^^^ 0xFFFFFFFF

/-- The 64-bit mixing of R74, R89 and R248. -/
def mix64 (z0 : Nat) : Nat :=
  let m := 2 ^ 64
  let z1 := ((z0 ^^^ (z0 / 2 ^ 30)) * 0xBF58476D1CE4E5B9) % m
  let z2 := ((z1 ^^^ (z1 / 2 ^ 27)) * 0x94D049BB133111EB) % m
  z2 ^^^ (z2 / 2 ^ 31)

/-- The hash of stochastic rounding (R74). -/
def srHash (seed step tensor idx : Nat) : Nat :=
  mix64 ((seed + (step * 2 ^ 32 + tensor) * 0x9E3779B97F4A7C15 + idx * 0xD1B54A32D192ED03) % 2 ^ 64)

/-- The index word of R75. -/
def srIndex (element domain sub : Nat) : Nat :=
  element % 2 ^ 48 * 2 ^ 16 + domain % 8 * 2 ^ 13 + sub % 2 ^ 13

/-- The 24 random bits h[63:40] of R73. -/
def srBits (h : Nat) : Nat := bits h 40 24

/-- Word w of the sign vector of a rotation (R89). -/
def signWord (seed w : Nat) : Nat := mix64 ((seed + (w + 1) * 0x9E3779B97F4A7C15) % 2 ^ 64)

/-- The contributor-set mix of one device id (R248). -/
def memberMix (id : Nat) : Nat := mix64 ((id + 1) * 0x9E3779B97F4A7C15 % 2 ^ 64)

/-- The contributor-set hash of a list of distinct device ids (R248). -/
def memberHash (ids : List Nat) : Nat := ids.foldl (fun a d => (a + memberMix d) % 2 ^ 64) 0

/-- An element put into a list before the first one that it may precede. -/
def insertBy {α : Type} (le : α → α → Bool) (x : α) : List α → List α
  | [] => [x]
  | y :: t => if le x y then x :: y :: t else y :: insertBy le x t

/-- A list in order; equal elements keep their order. -/
def sortBy {α : Type} (le : α → α → Bool) : List α → List α
  | [] => []
  | x :: t => insertBy le x (sortBy le t)

/-- Numbers in order, the first that differs deciding. -/
def lexBefore : List Nat → List Nat → Bool
  | x :: a, y :: b => decide (x < y) || (x == y && lexBefore a b)
  | _, _ => false

/-- The STEP before and after a STEP: 32 bits that wrap (R134). -/
def prevStep (n : Nat) : Nat := (n + (2 ^ 32 - 1)) % 2 ^ 32
@[inherit_doc prevStep] def nextStep (n : Nat) : Nat := (n + 1) % 2 ^ 32

/-- The number of 1 bits. -/
def popcount : Nat → Nat → Nat
  | 0, _ => 0
  | n + 1, x => x % 2 + popcount n (x / 2)

/-- ⌊log2 n⌋ of a positive number, 0 for 0. -/
def log2 (n : Nat) : Nat := Nat.log2 n

/-- The number of bits of n: 0 for 0 (R247). -/
def bitLen (n : Nat) : Nat := if n = 0 then 0 else Nat.log2 n + 1

/-- The number whose bit i says whether a test holds of i, for i below n. -/
def bitMap (n : Nat) (p : Nat → Bool) : Nat := (List.range n).foldl (fun a i => a + (if p i then 2 ^ i else 0)) 0

end Sys2Proof.Machine
end

