-- ==== Sys2Proof/Machine/Fields.lean ====
section
/-! DEFINITION. The register tables of the manual as one table: offset, bits, access, kind and reset of every field (R3, R5, R31 and the register table of each chapter). -/

namespace Sys2Proof.Machine

/-- Access codes of R3. -/
inductive Access where
  | ro | rw | w1c | w1s | wo
  deriving DecidableEq, Repr

/-- Kinds of R5; a read-only field has none (R31). -/
inductive FKind where
  | live | frame | quiescent | owner | none
  deriving DecidableEq, Repr

/-- One row of a register table: the page it is on (none: every page head), byte offset, lowest bit, width, access, kind, reset, and for an indexed register its count and stride. -/
structure FieldInfo where
  page : Option PageKind
  off : Nat
  lo : Nat
  width : Nat
  acc : Access
  kind : FKind
  reset : Nat
  count : Nat
  stride : Nat
  deriving DecidableEq, Repr

/-- The register tables (R19, R31, R39, R107, R132, R166, R167, R192, R218, R245, R264, R281, R282, R299, R318, R319, R336, R355, R375), field by field. -/
def fieldInfo : Fld → FieldInfo
  | .BLOCK_TYPE => ⟨none, 0x000, 0, 16, .ro, .none, 0, 1, 0⟩
  | .INSTANCE => ⟨none, 0x000, 16, 8, .ro, .none, 0, 1, 0⟩
  | .MINOR => ⟨none, 0x004, 0, 8, .ro, .none, 1, 1, 0⟩
  | .MAJOR => ⟨none, 0x004, 8, 8, .ro, .none, 1, 1, 0⟩
  | .RUN => ⟨none, 0x008, 0, 1, .rw, .live, 0, 1, 0⟩
  | .TRAP_EN => ⟨none, 0x008, 1, 1, .rw, .frame, 0, 1, 0⟩
  | .CNT_CLR => ⟨none, 0x008, 2, 1, .wo, .live, 0, 1, 0⟩
  | .RUNNING => ⟨none, 0x00C, 0, 1, .ro, .none, 0, 1, 0⟩
  | .STATE_ERR => ⟨none, 0x00C, 1, 1, .w1c, .live, 0, 1, 0⟩
  | .AUTH_ERR => ⟨none, 0x00C, 2, 1, .w1c, .live, 0, 1, 0⟩
  | .LOCK_ERR => ⟨none, 0x00C, 3, 1, .w1c, .live, 0, 1, 0⟩
  | .LOCKED_COPY => ⟨none, 0x00C, 4, 1, .ro, .none, 0, 1, 0⟩
  | .EVT => ⟨none, 0x010, 0, 32, .w1c, .live, 0, 1, 0⟩
  | .EVT_EN => ⟨none, 0x014, 0, 32, .rw, .live, 0, 1, 0⟩
  | .CAP_CODE => ⟨none, 0x018, 0, 16, .ro, .none, 0, 1, 0⟩
  | .CAP_FRAME_LO => ⟨none, 0x018, 16, 12, .ro, .none, 0, 1, 0⟩
  | .CAP_VALID => ⟨none, 0x018, 31, 1, .w1c, .live, 0, 1, 0⟩
  | .ERR_CORR => ⟨none, 0x01C, 0, 16, .ro, .none, 0, 1, 0⟩
  | .ERR_UNCORR => ⟨none, 0x01C, 16, 16, .ro, .none, 0, 1, 0⟩
  | .COMMIT_BIT => ⟨none, 0x020, 0, 1, .wo, .live, 0, 1, 0⟩
  | .ABORT_BIT => ⟨none, 0x020, 1, 1, .wo, .live, 0, 1, 0⟩
  | .OPEN_DIRTY => ⟨none, 0x024, 0, 1, .ro, .none, 0, 1, 0⟩
  | .WAITING => ⟨none, 0x024, 1, 2, .ro, .none, 0, 1, 0⟩
  | .APPLIED => ⟨none, 0x024, 3, 1, .w1c, .live, 0, 1, 0⟩
  | .APPLY_FRAME => ⟨none, 0x024, 16, 16, .ro, .none, 0, 1, 0⟩
  | .LOCKED => ⟨none, 0x028, 0, 1, .w1s, .live, 0, 1, 0⟩
  | .UNLOCK => ⟨none, 0x028, 1, 1, .wo, .owner, 0, 1, 0⟩
  | .PART_LOG2 => ⟨some .deviceGlobals, 0x040, 0, 2, .rw, .quiescent, 0, 1, 0⟩
  | .PART_COUNT => ⟨some .deviceGlobals, 0x040, 8, 4, .ro, .none, 1, 1, 0⟩
  | .DEVICE_TIME => ⟨some .deviceGlobals, 0x100, 0, 64, .ro, .none, 0, 1, 0⟩
  | .TREF_EN => ⟨some .deviceGlobals, 0x108, 0, 1, .rw, .quiescent, 0, 1, 0⟩
  | .TREF_LOCKED => ⟨some .deviceGlobals, 0x10C, 0, 1, .ro, .none, 0, 1, 0⟩
  | .HOLDOVER => ⟨some .deviceGlobals, 0x10C, 1, 1, .ro, .none, 0, 1, 0⟩
  | .GROUP_ALIGNED => ⟨some .deviceGlobals, 0x10C, 2, 1, .ro, .none, 0, 1, 0⟩
  | .ALIGN_WARN => ⟨some .deviceGlobals, 0x10C, 3, 1, .w1c, .live, 0, 1, 0⟩
  | .ALIGN_ERR => ⟨some .deviceGlobals, 0x10C, 16, 16, .ro, .none, 0, 1, 0⟩
  | .WIN_CORE => ⟨some .coreWindow, 0x040, 0, 9, .rw, .live, 0, 1, 0⟩
  | .WIN_SUBPAGE => ⟨some .coreWindow, 0x040, 16, 8, .rw, .live, 0, 1, 0⟩
  | .BAD_SEL => ⟨some .coreWindow, 0x044, 0, 1, .ro, .none, 0, 1, 0⟩
  | .QZ_SNAP_VALID => ⟨some .quantiser, 0x00C, 8, 1, .ro, .none, 0, 1, 0⟩
  | .QZ_SNAP_STEP => ⟨some .quantiser, 0x00C, 16, 16, .ro, .none, 0, 1, 0⟩
  | .WATCH_SEL => ⟨some .quantiser, 0x040, 0, 9, .rw, .live, 0, 1, 0⟩
  | .WATCH_LAYER => ⟨some .quantiser, 0x044, 0, 10, .rw, .quiescent, 0, 1, 0⟩
  | .NORM_EN => ⟨some .quantiser, 0x044, 10, 1, .rw, .quiescent, 0, 1, 0⟩
  | .TRIP_EN => ⟨some .quantiser, 0x044, 11, 1, .rw, .quiescent, 0, 1, 0⟩
  | .WATCH_ELEMS => ⟨some .quantiser, 0x048, 0, 64, .ro, .none, 0, 1, 0⟩
  | .WATCH_SAT => ⟨some .quantiser, 0x050, 0, 32, .ro, .none, 0, 1, 0⟩
  | .WATCH_ESC => ⟨some .quantiser, 0x054, 0, 32, .ro, .none, 0, 1, 0⟩
  | .WATCH_ESC_OVF => ⟨some .quantiser, 0x058, 0, 32, .ro, .none, 0, 1, 0⟩
  | .WATCH_MISFIT => ⟨some .quantiser, 0x05C, 0, 32, .ro, .none, 0, 1, 0⟩
  | .WATCH_NORM => ⟨some .quantiser, 0x060, 0, 32, .ro, .none, 0, 1, 0⟩
  | .WATCH_EMA => ⟨some .quantiser, 0x064, 0, 32, .ro, .none, 0, 1, 0⟩
  | .WATCH_POISON => ⟨some .quantiser, 0x068, 0, 32, .ro, .none, 0, 1, 0⟩
  | .LP_SNAP_VALID => ⟨some .layerPrecision, 0x00C, 8, 1, .ro, .none, 0, 1, 0⟩
  | .LP_SNAP_STEP => ⟨some .layerPrecision, 0x00C, 16, 16, .ro, .none, 0, 1, 0⟩
  | .RETRY_STEPS => ⟨some .layerPrecision, 0x040, 0, 16, .rw, .quiescent, 200, 1, 0⟩
  | .SAT_RATE_LOG2 => ⟨some .layerPrecision, 0x040, 16, 5, .rw, .quiescent, 12, 1, 0⟩
  | .ALPHA_LOG2 => ⟨some .layerPrecision, 0x040, 24, 4, .rw, .quiescent, 4, 1, 0⟩
  | .ESC_OVF_MAX => ⟨some .layerPrecision, 0x044, 0, 16, .rw, .quiescent, 16, 1, 0⟩
  | .NORM_FACTOR => ⟨some .layerPrecision, 0x044, 16, 8, .rw, .quiescent, 64, 1, 0⟩
  | .WARMUP_STEPS => ⟨some .layerPrecision, 0x048, 0, 16, .rw, .quiescent, 0, 1, 0⟩
  | .RECOVERY_STEPS => ⟨some .layerPrecision, 0x048, 16, 16, .rw, .quiescent, 50, 1, 0⟩
  | .LAYER_SEL => ⟨some .layerPrecision, 0x04C, 0, 10, .rw, .live, 0, 1, 0⟩
  | .LAYER_ST => ⟨some .layerPrecision, 0x050, 0, 2, .rw, .quiescent, 0, 1, 0⟩
  | .LAYER_MODE => ⟨some .layerPrecision, 0x050, 2, 2, .rw, .quiescent, 0, 1, 0⟩
  | .LAYER_SHIFT => ⟨some .layerPrecision, 0x050, 4, 3, .ro, .none, 0, 1, 0⟩
  | .BY_RETRY => ⟨some .layerPrecision, 0x050, 7, 1, .ro, .none, 0, 1, 0⟩
  | .STEPS_IN_STATE => ⟨some .layerPrecision, 0x050, 16, 16, .ro, .none, 0, 1, 0⟩
  | .LAST_SWITCH_STEP => ⟨some .layerPrecision, 0x054, 0, 32, .ro, .none, 0, 1, 0⟩
  | .CORE_FLAGS => ⟨some .coreSub0, 0x000, 0, 4, .w1c, .live, 0, 1, 0⟩
  | .NF_CAPT => ⟨some .coreSub0, 0x000, 4, 1, .ro, .none, 0, 1, 0⟩
  | .SLIP_SEEN => ⟨some .coreSub0, 0x000, 5, 1, .w1c, .live, 0, 1, 0⟩
  | .CORE_ABANDONED => ⟨some .coreSub0, 0x000, 6, 1, .w1c, .live, 0, 1, 0⟩
  | .CTX_ACTIVE => ⟨some .coreSub0, 0x000, 8, 8, .ro, .none, 0, 1, 0⟩
  | .SLOT_BUSY => ⟨some .coreSub0, 0x000, 16, 12, .ro, .none, 0, 1, 0⟩
  | .NFC_VALID => ⟨some .coreSub1, 0x000, 0, 1, .w1c, .live, 0, 1, 0⟩
  | .NFC_KIND => ⟨some .coreSub1, 0x000, 1, 1, .ro, .none, 0, 1, 0⟩
  | .NFC_SOURCE => ⟨some .coreSub1, 0x000, 2, 3, .ro, .none, 0, 1, 0⟩
  | .NFC_CONTEXT => ⟨some .coreSub1, 0x000, 5, 3, .ro, .none, 0, 1, 0⟩
  | .NFC_STREAM => ⟨some .coreSub1, 0x000, 8, 1, .ro, .none, 0, 1, 0⟩
  | .NFC_SLOT => ⟨some .coreSub1, 0x000, 16, 16, .ro, .none, 0, 1, 0⟩
  | .NFC_CYCLE => ⟨some .coreSub1, 0x004, 0, 18, .ro, .none, 0, 1, 0⟩
  | .NFC_FRAME => ⟨some .coreSub1, 0x008, 0, 48, .ro, .none, 0, 1, 0⟩
  | .NFC_OP => ⟨some .coreSub1, 0x010, 0, 32, .ro, .none, 0, 1, 0⟩
  | .NFC_LAYER => ⟨some .coreSub1, 0x014, 0, 10, .ro, .none, 0, 1, 0⟩
  | .NFC_ROW_BLK => ⟨some .coreSub1, 0x018, 0, 16, .ro, .none, 0, 1, 0⟩
  | .NFC_COL_BLK => ⟨some .coreSub1, 0x018, 16, 16, .ro, .none, 0, 1, 0⟩
  | .NFC_POS => ⟨some .coreSub1, 0x01C, 0, 12, .ro, .none, 0, 1, 0⟩
  | .SLIP_EVENTS => ⟨some .coreSub2, 0x000, 0, 32, .ro, .none, 0, 1, 0⟩
  | .SLIP_CYCLES => ⟨some .coreSub2, 0x004, 0, 32, .ro, .none, 0, 1, 0⟩
  | .CORR_STALL => ⟨some .coreSub2, 0x008, 0, 32, .ro, .none, 0, 1, 0⟩
  | .CTX_RESETS => ⟨some .coreSub2, 0x00C, 0, 16, .ro, .none, 0, 1, 0⟩
  | .BLOCKS_ISSUED => ⟨some .coreSub2, 0x010, 0, 64, .ro, .none, 0, 1, 0⟩
  | .CTX_STATE => ⟨some .coreSub3, 0x000, 0, 2, .ro, .none, 0, 8, 4⟩
  | .CTX_STREAM => ⟨some .coreSub3, 0x000, 2, 1, .ro, .none, 0, 8, 4⟩
  | .STALL_FRAMES => ⟨some .coreSub3, 0x000, 8, 8, .ro, .none, 0, 8, 4⟩
  | .CTX_ENTRY => ⟨some .coreSub3, 0x000, 16, 16, .ro, .none, 0, 8, 4⟩
  | .CL_FLAGS => ⟨some .cluster, 0x040, 0, 4, .ro, .none, 0, 1, 0⟩
  | .CL_NF_ANY => ⟨some .cluster, 0x040, 4, 1, .ro, .none, 0, 1, 0⟩
  | .CL_CAPT_MAP => ⟨some .cluster, 0x044, 0, 32, .ro, .none, 0, 3, 4⟩
  | .FRAME_NUMBER => ⟨some .bedSequencer, 0x040, 0, 48, .ro, .none, 0, 1, 0⟩
  | .STEP_CNT => ⟨some .bedSequencer, 0x048, 0, 32, .ro, .none, 0, 1, 0⟩
  | .EPOCH_CNT => ⟨some .bedSequencer, 0x04C, 0, 16, .ro, .none, 0, 1, 0⟩
  | .FRAME_US => ⟨some .bedSequencer, 0x050, 0, 7, .ro, .none, 16, 1, 0⟩
  | .FRAME_LOCKED => ⟨some .bedSequencer, 0x050, 7, 1, .ro, .none, 0, 1, 0⟩
  | .FRAMES_PER_STEP => ⟨some .bedSequencer, 0x050, 16, 16, .ro, .none, 1, 1, 0⟩
  | .SEQ_STATE => ⟨some .bedSequencer, 0x054, 0, 3, .ro, .none, 0, 1, 0⟩
  | .SWITCH_PENDING => ⟨some .bedSequencer, 0x054, 3, 1, .ro, .none, 0, 1, 0⟩
  | .FRAME_IN_STEP => ⟨some .bedSequencer, 0x054, 16, 16, .ro, .none, 0, 1, 0⟩
  | .ARM_ACTIVE => ⟨some .bedSequencer, 0x058, 0, 32, .ro, .none, 0, 1, 0⟩
  | .OVERRUN_CNT => ⟨some .bedSequencer, 0x05C, 0, 32, .ro, .none, 0, 1, 0⟩
  | .REALIGN_CNT => ⟨some .bedSequencer, 0x060, 0, 32, .ro, .none, 0, 1, 0⟩
  | .SKIP_CNT => ⟨some .bedSequencer, 0x064, 0, 32, .ro, .none, 0, 1, 0⟩
  | .SLACK_MIN => ⟨some .bedSequencer, 0x068, 0, 18, .ro, .none, 0, 1, 0⟩
  | .ORIGIN_TIME => ⟨some .bedSequencer, 0x070, 0, 64, .ro, .none, 0, 1, 0⟩
  | .ORIGIN_FRAME => ⟨some .bedSequencer, 0x078, 0, 48, .ro, .none, 0, 1, 0⟩
  | .BED_FLAGS => ⟨some .bedSequencer, 0x100, 0, 4, .ro, .none, 0, 1, 0⟩
  | .BED_NF_ANY => ⟨some .bedSequencer, 0x100, 4, 1, .ro, .none, 0, 1, 0⟩
  | .NF_TRAP_EN => ⟨some .bedSequencer, 0x104, 0, 1, .rw, .frame, 0, 1, 0⟩
  | .NF_LATCH_CORE => ⟨some .bedSequencer, 0x108, 0, 9, .ro, .none, 0, 1, 0⟩
  | .NF_LATCH_VALID => ⟨some .bedSequencer, 0x108, 15, 1, .ro, .none, 0, 1, 0⟩
  | .NF_CORES => ⟨some .bedSequencer, 0x108, 16, 9, .ro, .none, 0, 1, 0⟩
  | .BED_NF_STEP => ⟨some .bedSequencer, 0x10C, 0, 32, .ro, .none, 0, 1, 0⟩
  | .LOCAL_GIB => ⟨some .bridge, 0x040, 0, 8, .rw, .quiescent, 0, 1, 0⟩
  | .BR_TRAINED => ⟨some .bridge, 0x044, 0, 1, .ro, .none, 0, 1, 0⟩
  | .BR_SELF_REFRESH => ⟨some .bridge, 0x044, 1, 1, .ro, .none, 0, 1, 0⟩
  | .SCRUB_BUSY => ⟨some .bridge, 0x044, 2, 1, .ro, .none, 0, 1, 0⟩
  | .DEGRADED => ⟨some .bridge, 0x044, 3, 1, .ro, .none, 0, 1, 0⟩
  | .ENC_EN => ⟨some .bridge, 0x048, 0, 1, .rw, .owner, 0, 1, 0⟩
  | .KEY_VALID => ⟨some .bridge, 0x048, 1, 1, .ro, .none, 0, 1, 0⟩
  | .KEY_EPOCH => ⟨some .bridge, 0x048, 16, 16, .ro, .none, 0, 1, 0⟩
  | .ADDR_FAULTS => ⟨some .bridge, 0x04C, 0, 32, .ro, .none, 0, 1, 0⟩
  | .FAULT_ADDR => ⟨some .bridge, 0x050, 0, 64, .ro, .none, 0, 1, 0⟩
  | .GUARD_ACTIVE => ⟨some .bridge, 0x080, 0, 1, .ro, .none, 0, 1, 0⟩
  | .EGRESS_DENY => ⟨some .bridge, 0x084, 0, 32, .ro, .none, 0, 1, 0⟩
  | .DENY_ADDR => ⟨some .bridge, 0x088, 0, 64, .ro, .none, 0, 1, 0⟩
  | .PINNED => ⟨some .bridgeCache, 0x040, 0, 21, .ro, .none, 0, 1, 0⟩
  | .DIRTY => ⟨some .bridgeCache, 0x044, 0, 21, .ro, .none, 0, 1, 0⟩
  | .HITS => ⟨some .bridgeCache, 0x048, 0, 64, .ro, .none, 0, 1, 0⟩
  | .MISSES => ⟨some .bridgeCache, 0x050, 0, 64, .ro, .none, 0, 1, 0⟩
  | .ALLOC_REFUSED => ⟨some .bridgeCache, 0x058, 0, 32, .ro, .none, 0, 1, 0⟩
  | .DAL_FREED => ⟨some .bridgeCache, 0x05C, 0, 32, .ro, .none, 0, 1, 0⟩
  | .DAL_STALE => ⟨some .bridgeCache, 0x060, 0, 32, .ro, .none, 0, 1, 0⟩
  | .HOST_BUDGET => ⟨some .regulators, 0x040, 0, 24, .rw, .frame, 1024, 1, 0⟩
  | .BUDGET_C => ⟨some .regulators, 0x044, 0, 24, .ro, .none, 0, 3, 4⟩
  | .FAR_BUDGET => ⟨some .regulators, 0x050, 0, 24, .ro, .none, 0, 1, 0⟩
  | .UPDATE_FRAME => ⟨some .regulators, 0x054, 0, 1, .ro, .none, 0, 1, 0⟩
  | .OVERDRAW_C => ⟨some .regulators, 0x058, 0, 32, .ro, .none, 0, 4, 4⟩
  | .CLIP_C => ⟨some .regulators, 0x068, 0, 32, .ro, .none, 0, 4, 4⟩
  | .FAR_OVERDRAW => ⟨some .regulators, 0x078, 0, 32, .ro, .none, 0, 1, 0⟩
  | .MC_TRAINED => ⟨some .memController, 0x040, 0, 1, .ro, .none, 0, 1, 0⟩
  | .RETRAINING => ⟨some .memController, 0x040, 1, 1, .ro, .none, 0, 1, 0⟩
  | .MC_SELF_REFRESH => ⟨some .memController, 0x040, 2, 1, .ro, .none, 0, 1, 0⟩
  | .HOT => ⟨some .memController, 0x040, 3, 1, .ro, .none, 0, 1, 0⟩
  | .TEMP => ⟨some .memController, 0x040, 8, 8, .ro, .none, 0, 1, 0⟩
  | .FENCED_MAP => ⟨some .memController, 0x048, 0, 64, .ro, .none, 0, 1, 0⟩
  | .UE_ADDR => ⟨some .memController, 0x050, 0, 64, .ro, .none, 0, 1, 0⟩
  | .RETRAIN_CNT => ⟨some .memController, 0x058, 0, 16, .ro, .none, 0, 1, 0⟩
  | .REFRESH_LATE => ⟨some .memController, 0x05C, 0, 32, .ro, .none, 0, 1, 0⟩
  | .SCRUB_PASS => ⟨some .memController, 0x060, 0, 32, .ro, .none, 0, 1, 0⟩
  | .PASS_ACTIVE => ⟨some .updateUnit, 0x040, 0, 1, .ro, .none, 0, 1, 0⟩
  | .PREPASS => ⟨some .updateUnit, 0x040, 1, 1, .ro, .none, 0, 1, 0⟩
  | .ROLLING => ⟨some .updateUnit, 0x040, 2, 1, .ro, .none, 0, 1, 0⟩
  | .EXACT => ⟨some .updateUnit, 0x040, 3, 1, .ro, .none, 0, 1, 0⟩
  | .UU_LAYER => ⟨some .updateUnit, 0x040, 16, 10, .ro, .none, 0, 1, 0⟩
  | .LAST_STEP => ⟨some .updateUnit, 0x044, 0, 32, .ro, .none, 0, 1, 0⟩
  | .GROUP_SEL => ⟨some .updateUnit, 0x048, 0, 8, .rw, .live, 0, 1, 0⟩
  | .GROUP_WORD => ⟨some .updateUnit, 0x04C, 0, 32, .rw, .frame, 0, 8, 4⟩
  | .DECAY_EXCL => ⟨some .updateUnit, 0x070, 0, 32, .rw, .frame, 0, 8, 4⟩
  | .HELD_REC => ⟨some .updateUnit, 0x090, 0, 32, .ro, .none, 0, 1, 0⟩
  | .STALE_BLK => ⟨some .updateUnit, 0x094, 0, 32, .ro, .none, 0, 1, 0⟩
  | .SAT_STORE => ⟨some .updateUnit, 0x098, 0, 32, .ro, .none, 0, 1, 0⟩
  | .ROLLED_BLK => ⟨some .updateUnit, 0x09C, 0, 32, .ro, .none, 0, 1, 0⟩
  | .MIRROR_KIB => ⟨some .updateUnit, 0x0A0, 0, 32, .ro, .none, 0, 1, 0⟩
  | .CUT_DONE_STEP => ⟨some .updateUnit, 0x0A4, 0, 32, .ro, .none, 0, 1, 0⟩
  | .WARD_STEP_A => ⟨some .updateUnit, 0x0A8, 0, 32, .ro, .none, 0, 1, 0⟩
  | .WARD_STEP_B => ⟨some .updateUnit, 0x0AC, 0, 32, .ro, .none, 0, 1, 0⟩
  | .WARD_A_VALID => ⟨some .updateUnit, 0x0B0, 0, 1, .ro, .none, 0, 1, 0⟩
  | .WARD_B_VALID => ⟨some .updateUnit, 0x0B0, 1, 1, .ro, .none, 0, 1, 0⟩
  | .WARD_REJECTED => ⟨some .updateUnit, 0x0B0, 16, 16, .ro, .none, 0, 1, 0⟩
  | .DEVICE_ID => ⟨some .linkDie, 0x040, 0, 13, .ro, .none, 8191, 1, 0⟩
  | .ID_VALID => ⟨some .linkDie, 0x040, 15, 1, .ro, .none, 0, 1, 0⟩
  | .REACHABLE => ⟨some .linkDie, 0x044, 0, 14, .ro, .none, 0, 1, 0⟩
  | .ROUTE_FRAME => ⟨some .linkDie, 0x048, 0, 32, .ro, .none, 0, 1, 0⟩
  | .TIME_REF_ID => ⟨some .linkDie, 0x04C, 0, 13, .ro, .none, 8191, 1, 0⟩
  | .PRIV_SEL => ⟨some .linkDie, 0x080, 0, 3, .rw, .live, 0, 1, 0⟩
  | .DRBG_READY => ⟨some .linkDie, 0x084, 0, 1, .ro, .none, 0, 1, 0⟩
  | .PRIV_ES_FAIL => ⟨some .linkDie, 0x084, 1, 1, .ro, .none, 0, 1, 0⟩
  | .LEDGER_STALL => ⟨some .linkDie, 0x084, 2, 1, .ro, .none, 0, 1, 0⟩
  | .RESEED_CNT => ⟨some .linkDie, 0x088, 0, 64, .ro, .none, 0, 1, 0⟩
  | .NOISED_PARTS => ⟨some .linkDie, 0x090, 0, 32, .ro, .none, 0, 1, 0⟩
  | .NOISE_SAT => ⟨some .linkDie, 0x094, 0, 32, .ro, .none, 0, 1, 0⟩
  | .NOISE_FAIL => ⟨some .linkDie, 0x098, 0, 32, .ro, .none, 0, 1, 0⟩
  | .LEDGER_STEP => ⟨some .linkDie, 0x09C, 0, 32, .ro, .none, 0, 1, 0⟩
  | .FORCE_FALLBACK => ⟨some .port, 0x040, 0, 1, .rw, .quiescent, 0, 1, 0⟩
  | .NEAR_LOOPBACK => ⟨some .port, 0x040, 1, 1, .rw, .quiescent, 0, 1, 0⟩
  | .LINK_STATE => ⟨some .port, 0x044, 0, 3, .ro, .none, 0, 1, 0⟩
  | .PORT_FENCED => ⟨some .port, 0x044, 3, 1, .ro, .none, 0, 1, 0⟩
  | .POS_VALID => ⟨some .port, 0x044, 4, 1, .ro, .none, 0, 1, 0⟩
  | .ENC_ACTIVE => ⟨some .port, 0x044, 5, 1, .ro, .none, 0, 1, 0⟩
  | .LANES_UP => ⟨some .port, 0x044, 8, 8, .ro, .none, 0, 1, 0⟩
  | .PLANE => ⟨some .port, 0x048, 0, 4, .ro, .none, 0, 1, 0⟩
  | .SWITCH => ⟨some .port, 0x048, 4, 6, .ro, .none, 0, 1, 0⟩
  | .SWITCH_PORT => ⟨some .port, 0x048, 10, 7, .ro, .none, 0, 1, 0⟩
  | .SLOTS => ⟨some .port, 0x04C, 0, 12, .ro, .none, 0, 1, 0⟩
  | .C0_SLOTS => ⟨some .port, 0x04C, 16, 12, .ro, .none, 0, 1, 0⟩
  | .FEC_CORR => ⟨some .port, 0x050, 0, 64, .ro, .none, 0, 1, 0⟩
  | .FEC_UNCORR => ⟨some .port, 0x058, 0, 32, .ro, .none, 0, 1, 0⟩
  | .RETRY => ⟨some .port, 0x05C, 0, 32, .ro, .none, 0, 1, 0⟩
  | .HB_MISS => ⟨some .port, 0x060, 0, 32, .ro, .none, 0, 1, 0⟩
  | .DOWN_CNT => ⟨some .port, 0x064, 0, 16, .ro, .none, 0, 1, 0⟩
  | .GCM_FAIL => ⟨some .port, 0x068, 0, 32, .ro, .none, 0, 1, 0⟩
  | .C0_LATE => ⟨some .port, 0x06C, 0, 32, .ro, .none, 0, 1, 0⟩
  | .CLEAR_DROP => ⟨some .port, 0x070, 0, 32, .ro, .none, 0, 1, 0⟩
  | .UNROUTED => ⟨some .port, 0x074, 0, 32, .ro, .none, 0, 1, 0⟩
  | .TX_SLOTS_C => ⟨some .port, 0x078, 0, 32, .ro, .none, 0, 4, 4⟩
  | .PORT_ENC_EN => ⟨some .port, 0x088, 0, 1, .rw, .owner, 0, 1, 0⟩
  | .ENTRIES => ⟨some .reduction, 0x040, 0, 16, .ro, .none, 0, 1, 0⟩
  | .RX_PARTS => ⟨some .reduction, 0x044, 0, 32, .ro, .none, 0, 1, 0⟩
  | .LATE => ⟨some .reduction, 0x048, 0, 32, .ro, .none, 0, 1, 0⟩
  | .POISON_DROP => ⟨some .reduction, 0x04C, 0, 32, .ro, .none, 0, 1, 0⟩
  | .POISON_FWD => ⟨some .reduction, 0x050, 0, 32, .ro, .none, 0, 1, 0⟩
  | .STORE_FULL => ⟨some .reduction, 0x054, 0, 32, .ro, .none, 0, 1, 0⟩
  | .BAD_PKT => ⟨some .reduction, 0x058, 0, 32, .ro, .none, 0, 1, 0⟩
  | .SETTLED_STEP => ⟨some .reduction, 0x080, 0, 32, .ro, .none, 0, 1, 0⟩
  | .SKIPPED => ⟨some .reduction, 0x084, 0, 32, .ro, .none, 0, 1, 0⟩
  | .ROOT_PARTS => ⟨some .reduction, 0x088, 0, 32, .ro, .none, 0, 1, 0⟩
  | .BACKUP_CERTS => ⟨some .reduction, 0x08C, 0, 16, .ro, .none, 0, 1, 0⟩
  | .VOTE_FAIL => ⟨some .reduction, 0x090, 0, 16, .ro, .none, 0, 1, 0⟩
  | .LINK_GEN => ⟨some .pcie, 0x040, 0, 4, .ro, .none, 0, 1, 0⟩
  | .LINK_WIDTH => ⟨some .pcie, 0x040, 4, 6, .ro, .none, 0, 1, 0⟩
  | .BOOT_DONE => ⟨some .pcie, 0x040, 16, 1, .ro, .none, 0, 1, 0⟩
  | .APERTURE_PART => ⟨some .pcie, 0x044, 0, 3, .rw, .live, 0, 1, 0⟩
  | .APERTURE_BASE => ⟨some .pcie, 0x048, 20, 23, .rw, .live, 0, 1, 0⟩
  | .DMAQ_SEL => ⟨some .pcie, 0x050, 0, 4, .rw, .live, 0, 1, 0⟩
  | .DMAQ_EN => ⟨some .pcie, 0x054, 0, 1, .rw, .live, 0, 1, 0⟩
  | .RING_LOG2 => ⟨some .pcie, 0x054, 1, 4, .rw, .quiescent, 4, 1, 0⟩
  | .DMAQ_PART => ⟨some .pcie, 0x054, 8, 3, .rw, .quiescent, 0, 1, 0⟩
  | .DMAQ_VECTOR => ⟨some .pcie, 0x054, 16, 6, .rw, .quiescent, 0, 1, 0⟩
  | .DMAQ_RING => ⟨some .pcie, 0x058, 12, 52, .rw, .quiescent, 0, 1, 0⟩
  | .DMAQ_CPL => ⟨some .pcie, 0x060, 12, 52, .rw, .quiescent, 0, 1, 0⟩
  | .DMAQ_TAIL => ⟨some .pcie, 0x068, 0, 12, .rw, .live, 0, 1, 0⟩
  | .DMAQ_HEAD => ⟨some .pcie, 0x06C, 0, 12, .ro, .none, 0, 1, 0⟩
  | .DMAQ_IDLE => ⟨some .pcie, 0x06C, 16, 1, .ro, .none, 1, 1, 0⟩
  | .SEALED_SEQ => ⟨some .pcie, 0x070, 0, 64, .ro, .none, 0, 1, 0⟩
  | .MBX_GO => ⟨some .pcie, 0x078, 0, 1, .w1s, .live, 0, 1, 0⟩
  | .MBX_HALT => ⟨some .pcie, 0x078, 1, 1, .wo, .live, 0, 1, 0⟩
  | .MBX_STATUS => ⟨some .pcie, 0x078, 8, 8, .ro, .none, 0, 1, 0⟩
  | .MBX_LEN => ⟨some .pcie, 0x078, 16, 12, .rw, .live, 0, 1, 0⟩
  | .MBX_RSP_LEN => ⟨some .pcie, 0x07C, 0, 12, .ro, .none, 0, 1, 0⟩
  | .MBX_BUF => ⟨some .pcie, 0x800, 0, 32, .rw, .live, 0, 512, 4⟩
  | .PM_STATE => ⟨some .powerMgmt, 0x040, 0, 3, .ro, .none, 3, 1, 0⟩
  | .PM_CAUSE => ⟨some .powerMgmt, 0x040, 8, 4, .ro, .none, 0, 1, 0⟩
  | .PLAN_POINT => ⟨some .powerMgmt, 0x044, 0, 2, .rw, .frame, 0, 1, 0⟩
  | .PLAN_MODE => ⟨some .powerMgmt, 0x044, 2, 1, .rw, .frame, 0, 1, 0⟩
  | .POINT_NOW => ⟨some .powerMgmt, 0x048, 0, 2, .ro, .none, 0, 1, 0⟩
  | .MODE_NOW => ⟨some .powerMgmt, 0x048, 2, 1, .ro, .none, 0, 1, 0⟩
  | .DEFER => ⟨some .powerMgmt, 0x048, 4, 3, .ro, .none, 0, 1, 0⟩
  | .FREQ_MHZ => ⟨some .powerMgmt, 0x048, 16, 12, .ro, .none, 1800, 1, 0⟩
  | .CAP_W => ⟨some .powerMgmt, 0x04C, 0, 13, .rw, .frame, 4500, 1, 0⟩
  | .CAP_ORDER => ⟨some .powerMgmt, 0x04C, 16, 6, .rw, .frame, 36, 1, 0⟩
  | .WATTS => ⟨some .powerMgmt, 0x050, 0, 13, .ro, .none, 0, 1, 0⟩
  | .COMPUTE_STEPS => ⟨some .powerMgmt, 0x050, 16, 3, .ro, .none, 0, 1, 0⟩
  | .MEMORY_STEPS => ⟨some .powerMgmt, 0x050, 20, 3, .ro, .none, 0, 1, 0⟩
  | .LINK_STEPS => ⟨some .powerMgmt, 0x050, 24, 2, .ro, .none, 0, 1, 0⟩
  | .TJ_MAX => ⟨some .powerMgmt, 0x054, 0, 8, .ro, .none, 0, 1, 0⟩
  | .THROTTLED => ⟨some .powerMgmt, 0x054, 8, 1, .ro, .none, 0, 1, 0⟩
  | .SENSOR => ⟨some .powerMgmt, 0x054, 16, 7, .ro, .none, 0, 1, 0⟩
  | .TRIM_STEPS => ⟨some .powerMgmt, 0x058, 0, 6, .ro, .none, 0, 1, 0⟩
  | .WORST_MON => ⟨some .powerMgmt, 0x058, 16, 9, .ro, .none, 0, 1, 0⟩
  | .DROOP_CNT => ⟨some .powerMgmt, 0x05C, 0, 32, .ro, .none, 0, 1, 0⟩
  | .STRETCH_CYC => ⟨some .powerMgmt, 0x060, 0, 32, .ro, .none, 0, 1, 0⟩
  | .FORCED_CNT => ⟨some .powerMgmt, 0x064, 0, 16, .ro, .none, 0, 1, 0⟩
  | .ALERT_CNT => ⟨some .powerMgmt, 0x068, 0, 16, .ro, .none, 0, 1, 0⟩
  | .TEST_PWR => ⟨some .powerMgmt, 0x06C, 0, 1, .rw, .owner, 0, 1, 0⟩
  | .DOMAIN_ON => ⟨some .powerMgmt, 0x070, 0, 32, .ro, .none, 0, 3, 4⟩
  | .HOLDUP_V => ⟨some .keeper, 0x040, 0, 16, .ro, .none, 0, 1, 0⟩
  | .HOLDUP_E => ⟨some .keeper, 0x044, 0, 16, .ro, .none, 0, 1, 0⟩
  | .HOLDUP_CAP => ⟨some .keeper, 0x048, 0, 16, .ro, .none, 0, 1, 0⟩
  | .HOLDUP_LOW_CNT => ⟨some .keeper, 0x04C, 0, 32, .ro, .none, 0, 1, 0⟩
  | .STORE_ACTIVE => ⟨some .keeper, 0x050, 0, 1, .ro, .none, 0, 1, 0⟩
  | .STORE_KIND => ⟨some .keeper, 0x050, 1, 3, .ro, .none, 0, 1, 0⟩
  | .OWNER_SET => ⟨some .security, 0x040, 0, 1, .ro, .none, 0, 1, 0⟩
  | .OWNER_SLOT => ⟨some .security, 0x040, 1, 2, .ro, .none, 0, 1, 0⟩
  | .FW_SLOT => ⟨some .security, 0x040, 3, 1, .ro, .none, 0, 1, 0⟩
  | .FW_PENDING => ⟨some .security, 0x040, 4, 1, .ro, .none, 0, 1, 0⟩
  | .SEC_ES_FAIL => ⟨some .security, 0x040, 5, 1, .ro, .none, 0, 1, 0⟩
  | .SESSION_MAP => ⟨some .security, 0x040, 8, 8, .ro, .none, 0, 1, 0⟩
  | .FUSE_COUNT => ⟨some .security, 0x044, 0, 7, .ro, .none, 0, 1, 0⟩
  | .FW_VERSION => ⟨some .security, 0x048, 0, 32, .ro, .none, 0, 1, 0⟩
  | .FW_SVN => ⟨some .security, 0x04C, 0, 7, .ro, .none, 0, 1, 0⟩
  | .SESSION_SEL => ⟨some .security, 0x050, 0, 3, .rw, .live, 0, 1, 0⟩
  | .SESSION_STATE => ⟨some .security, 0x054, 0, 2, .ro, .none, 0, 1, 0⟩
  | .MEM_KEYED => ⟨some .security, 0x054, 2, 1, .ro, .none, 0, 1, 0⟩
  | .LINK_KEYED => ⟨some .security, 0x054, 3, 1, .ro, .none, 0, 1, 0⟩
  | .SESSION_ID_LO => ⟨some .security, 0x058, 0, 64, .ro, .none, 0, 1, 0⟩
  | .INGRESS_DENY => ⟨some .security, 0x060, 0, 32, .ro, .none, 0, 1, 0⟩
  | .COARSE => ⟨some .security, 0x064, 0, 1, .ro, .none, 0, 1, 0⟩
  | .IDENT_HASH => ⟨some .security, 0x080, 0, 32, .ro, .none, 0, 12, 4⟩
  | .SERIAL => ⟨some .security, 0x0B0, 0, 64, .ro, .none, 0, 1, 0⟩
  | .FROZEN => ⟨some .recorder, 0x040, 0, 1, .ro, .none, 0, 1, 0⟩
  | .PROT_LOW => ⟨some .recorder, 0x040, 1, 1, .ro, .none, 0, 1, 0⟩
  | .STORING => ⟨some .recorder, 0x040, 2, 1, .ro, .none, 0, 1, 0⟩
  | .WAIT_HOLDUP => ⟨some .recorder, 0x040, 3, 1, .ro, .none, 0, 1, 0⟩
  | .GEN_HEAD => ⟨some .recorder, 0x044, 0, 14, .ro, .none, 0, 1, 0⟩
  | .PROT_HEAD => ⟨some .recorder, 0x048, 0, 14, .ro, .none, 0, 1, 0⟩
  | .PROT_FREE => ⟨some .recorder, 0x04C, 0, 15, .ro, .none, 16384, 1, 0⟩
  | .NEXT_SEQ => ⟨some .recorder, 0x050, 0, 64, .ro, .none, 1, 1, 0⟩
  | .GEN_OLDEST => ⟨some .recorder, 0x058, 0, 64, .ro, .none, 0, 1, 0⟩
  | .POWER_CYCLES => ⟨some .recorder, 0x060, 0, 32, .ro, .none, 1, 1, 0⟩
  | .QUEUED_GEN => ⟨some .recorder, 0x064, 0, 13, .ro, .none, 0, 1, 0⟩
  | .QUEUED_PROT => ⟨some .recorder, 0x064, 16, 10, .ro, .none, 0, 1, 0⟩
  | .OP_SECONDS => ⟨some .recorder, 0x068, 0, 40, .ro, .none, 0, 1, 0⟩
  | .DROPPED_CNT => ⟨some .recorder, 0x070, 0, 32, .ro, .none, 0, 1, 0⟩
  | .REPEAT_CNT => ⟨some .recorder, 0x074, 0, 32, .ro, .none, 0, 1, 0⟩
  | .SLOT_SEL => ⟨some .recorder, 0x078, 0, 15, .rw, .live, 0, 1, 0⟩
  | .FREEZE => ⟨some .recorder, 0x07C, 0, 1, .w1s, .live, 0, 1, 0⟩
  | .UNFREEZE => ⟨some .recorder, 0x07C, 1, 1, .wo, .live, 0, 1, 0⟩
  | .RECORD => ⟨some .recorder, 0x080, 0, 32, .ro, .none, 0, 16, 4⟩
  | .PROT_MERGED => ⟨some .recorder, 0x0C0, 0, 32, .ro, .none, 0, 1, 0⟩
  | .MET_READY => ⟨some .mirror, 0x040, 0, 1, .ro, .none, 0, 1, 0⟩
  | .MET_FAULT => ⟨some .mirror, 0x040, 1, 1, .ro, .none, 0, 1, 0⟩
  | .SEAL_CLOSED => ⟨some .mirror, 0x040, 2, 1, .ro, .none, 0, 1, 0⟩
  | .OVERRANGE => ⟨some .mirror, 0x040, 3, 1, .ro, .none, 0, 1, 0⟩
  | .STALE => ⟨some .mirror, 0x040, 4, 1, .ro, .none, 0, 1, 0⟩
  | .SNAP_SEQ => ⟨some .mirror, 0x044, 0, 32, .ro, .none, 0, 1, 0⟩
  | .TOTAL_MJ => ⟨some .mirror, 0x048, 0, 64, .ro, .none, 0, 1, 0⟩
  | .AUX_MJ => ⟨some .mirror, 0x050, 0, 64, .ro, .none, 0, 1, 0⟩
  | .UNATTRIB_MJ => ⟨some .mirror, 0x058, 0, 64, .ro, .none, 0, 1, 0⟩
  | .BED_MJ => ⟨some .mirror, 0x060, 0, 64, .ro, .none, 0, 8, 8⟩
  | .SW_VERSION => ⟨some .mirror, 0x0A0, 0, 32, .ro, .none, 0, 1, 0⟩
  | .SW_CRC => ⟨some .mirror, 0x0A4, 0, 32, .ro, .none, 0, 1, 0⟩
  | .AUDIT_CNT => ⟨some .mirror, 0x0A8, 0, 32, .ro, .none, 0, 1, 0⟩
  | .SNAP_BAD => ⟨some .mirror, 0x0AC, 0, 32, .ro, .none, 0, 1, 0⟩

/-- All fields, in the order of the tables. -/
def allFields0 : List Fld :=
  [.BLOCK_TYPE, .INSTANCE, .MINOR, .MAJOR, .RUN, .TRAP_EN, .CNT_CLR, .RUNNING, .STATE_ERR, .AUTH_ERR, .LOCK_ERR, .LOCKED_COPY, .EVT, .EVT_EN, .CAP_CODE, .CAP_FRAME_LO, .CAP_VALID, .ERR_CORR, .ERR_UNCORR, .COMMIT_BIT, .ABORT_BIT, .OPEN_DIRTY, .WAITING, .APPLIED, .APPLY_FRAME, .LOCKED, .UNLOCK, .PART_LOG2, .PART_COUNT, .DEVICE_TIME, .TREF_EN, .TREF_LOCKED, .HOLDOVER, .GROUP_ALIGNED, .ALIGN_WARN, .ALIGN_ERR, .WIN_CORE, .WIN_SUBPAGE, .BAD_SEL, .QZ_SNAP_VALID, .QZ_SNAP_STEP, .WATCH_SEL, .WATCH_LAYER, .NORM_EN, .TRIP_EN, .WATCH_ELEMS, .WATCH_SAT, .WATCH_ESC, .WATCH_ESC_OVF, .WATCH_MISFIT, .WATCH_NORM, .WATCH_EMA, .WATCH_POISON, .LP_SNAP_VALID, .LP_SNAP_STEP, .RETRY_STEPS, .SAT_RATE_LOG2, .ALPHA_LOG2, .ESC_OVF_MAX, .NORM_FACTOR]
def allFields1 : List Fld :=
  [.WARMUP_STEPS, .RECOVERY_STEPS, .LAYER_SEL, .LAYER_ST, .LAYER_MODE, .LAYER_SHIFT, .BY_RETRY, .STEPS_IN_STATE, .LAST_SWITCH_STEP, .CORE_FLAGS, .NF_CAPT, .SLIP_SEEN, .CORE_ABANDONED, .CTX_ACTIVE, .SLOT_BUSY, .NFC_VALID, .NFC_KIND, .NFC_SOURCE, .NFC_CONTEXT, .NFC_STREAM, .NFC_SLOT, .NFC_CYCLE, .NFC_FRAME, .NFC_OP, .NFC_LAYER, .NFC_ROW_BLK, .NFC_COL_BLK, .NFC_POS, .SLIP_EVENTS, .SLIP_CYCLES, .CORR_STALL, .CTX_RESETS, .BLOCKS_ISSUED, .CTX_STATE, .CTX_STREAM, .STALL_FRAMES, .CTX_ENTRY, .CL_FLAGS, .CL_NF_ANY, .CL_CAPT_MAP, .FRAME_NUMBER, .STEP_CNT, .EPOCH_CNT, .FRAME_US, .FRAME_LOCKED, .FRAMES_PER_STEP, .SEQ_STATE, .SWITCH_PENDING, .FRAME_IN_STEP, .ARM_ACTIVE, .OVERRUN_CNT, .REALIGN_CNT, .SKIP_CNT, .SLACK_MIN, .ORIGIN_TIME, .ORIGIN_FRAME, .BED_FLAGS, .BED_NF_ANY, .NF_TRAP_EN, .NF_LATCH_CORE]
def allFields2 : List Fld :=
  [.NF_LATCH_VALID, .NF_CORES, .BED_NF_STEP, .LOCAL_GIB, .BR_TRAINED, .BR_SELF_REFRESH, .SCRUB_BUSY, .DEGRADED, .ENC_EN, .KEY_VALID, .KEY_EPOCH, .ADDR_FAULTS, .FAULT_ADDR, .GUARD_ACTIVE, .EGRESS_DENY, .DENY_ADDR, .PINNED, .DIRTY, .HITS, .MISSES, .ALLOC_REFUSED, .DAL_FREED, .DAL_STALE, .HOST_BUDGET, .BUDGET_C, .FAR_BUDGET, .UPDATE_FRAME, .OVERDRAW_C, .CLIP_C, .FAR_OVERDRAW, .MC_TRAINED, .RETRAINING, .MC_SELF_REFRESH, .HOT, .TEMP, .FENCED_MAP, .UE_ADDR, .RETRAIN_CNT, .REFRESH_LATE, .SCRUB_PASS, .PASS_ACTIVE, .PREPASS, .ROLLING, .EXACT, .UU_LAYER, .LAST_STEP, .GROUP_SEL, .GROUP_WORD, .DECAY_EXCL, .HELD_REC, .STALE_BLK, .SAT_STORE, .ROLLED_BLK, .MIRROR_KIB, .CUT_DONE_STEP, .WARD_STEP_A, .WARD_STEP_B, .WARD_A_VALID, .WARD_B_VALID, .WARD_REJECTED]
def allFields3 : List Fld :=
  [.DEVICE_ID, .ID_VALID, .REACHABLE, .ROUTE_FRAME, .TIME_REF_ID, .PRIV_SEL, .DRBG_READY, .PRIV_ES_FAIL, .LEDGER_STALL, .RESEED_CNT, .NOISED_PARTS, .NOISE_SAT, .NOISE_FAIL, .LEDGER_STEP, .FORCE_FALLBACK, .NEAR_LOOPBACK, .LINK_STATE, .PORT_FENCED, .POS_VALID, .ENC_ACTIVE, .LANES_UP, .PLANE, .SWITCH, .SWITCH_PORT, .SLOTS, .C0_SLOTS, .FEC_CORR, .FEC_UNCORR, .RETRY, .HB_MISS, .DOWN_CNT, .GCM_FAIL, .C0_LATE, .CLEAR_DROP, .UNROUTED, .TX_SLOTS_C, .PORT_ENC_EN, .ENTRIES, .RX_PARTS, .LATE, .POISON_DROP, .POISON_FWD, .STORE_FULL, .BAD_PKT, .SETTLED_STEP, .SKIPPED, .ROOT_PARTS, .BACKUP_CERTS, .VOTE_FAIL, .LINK_GEN, .LINK_WIDTH, .BOOT_DONE, .APERTURE_PART, .APERTURE_BASE, .DMAQ_SEL, .DMAQ_EN, .RING_LOG2, .DMAQ_PART, .DMAQ_VECTOR, .DMAQ_RING]
def allFields4 : List Fld :=
  [.DMAQ_CPL, .DMAQ_TAIL, .DMAQ_HEAD, .DMAQ_IDLE, .SEALED_SEQ, .MBX_GO, .MBX_HALT, .MBX_STATUS, .MBX_LEN, .MBX_RSP_LEN, .MBX_BUF, .PM_STATE, .PM_CAUSE, .PLAN_POINT, .PLAN_MODE, .POINT_NOW, .MODE_NOW, .DEFER, .FREQ_MHZ, .CAP_W, .CAP_ORDER, .WATTS, .COMPUTE_STEPS, .MEMORY_STEPS, .LINK_STEPS, .TJ_MAX, .THROTTLED, .SENSOR, .TRIM_STEPS, .WORST_MON, .DROOP_CNT, .STRETCH_CYC, .FORCED_CNT, .ALERT_CNT, .TEST_PWR, .DOMAIN_ON, .HOLDUP_V, .HOLDUP_E, .HOLDUP_CAP, .HOLDUP_LOW_CNT, .STORE_ACTIVE, .STORE_KIND, .OWNER_SET, .OWNER_SLOT, .FW_SLOT, .FW_PENDING, .SEC_ES_FAIL, .SESSION_MAP, .FUSE_COUNT, .FW_VERSION, .FW_SVN, .SESSION_SEL, .SESSION_STATE, .MEM_KEYED, .LINK_KEYED, .SESSION_ID_LO, .INGRESS_DENY, .COARSE, .IDENT_HASH, .SERIAL]
def allFields5 : List Fld :=
  [.FROZEN, .PROT_LOW, .STORING, .WAIT_HOLDUP, .GEN_HEAD, .PROT_HEAD, .PROT_FREE, .NEXT_SEQ, .GEN_OLDEST, .POWER_CYCLES, .QUEUED_GEN, .QUEUED_PROT, .OP_SECONDS, .DROPPED_CNT, .REPEAT_CNT, .SLOT_SEL, .FREEZE, .UNFREEZE, .RECORD, .PROT_MERGED, .MET_READY, .MET_FAULT, .SEAL_CLOSED, .OVERRANGE, .STALE, .SNAP_SEQ, .TOTAL_MJ, .AUX_MJ, .UNATTRIB_MJ, .BED_MJ, .SW_VERSION, .SW_CRC, .AUDIT_CNT, .SNAP_BAD]
@[inherit_doc allFields0]
def allFields : List Fld :=
  allFields0 ++ allFields1 ++ allFields2 ++ allFields3 ++ allFields4 ++ allFields5

/-- The block type codes of R30. -/
def pageCode : PageKind → Nat
  | .deviceGlobals => 0x0001
  | .pageDirectory => 0x0002
  | .controlProcessor => 0x0010
  | .powerMgmt => 0x0011
  | .bedSequencer => 0x0020
  | .cluster => 0x0021
  | .coreWindow => 0x0022
  | .quantiser => 0x0023
  | .layerPrecision => 0x0023
  | .bridge => 0x0030
  | .bridgeCache => 0x0031
  | .regulators => 0x0032
  | .updateUnit => 0x0033
  | .memController => 0x0034
  | .linkDie => 0x0040
  | .port => 0x0041
  | .reduction => 0x0042
  | .pcie => 0x0043
  | .keeper => 0x0050
  | .security => 0x0051
  | .recorder => 0x0052
  | .mirror => 0x0060
  | .coreSub0 | .coreSub1 | .coreSub2 | .coreSub3 => 0x0022

end Sys2Proof.Machine
end

