-- ==== Sys2Proof/Machine/Tab.lean ====
section
/-! DEFINITION. Sparse tables: lists of key and value pairs read by their first match, with a default for what is not listed. -/

namespace Sys2Proof.Machine

/-- A sparse table. An unlisted key reads as the default that the reader names. -/
abbrev Tab (κ α : Type) := List (κ × α)

variable {κ α : Type} [DecidableEq κ]

/-- The value at a key, if listed. -/
def Tab.find? : Tab κ α → κ → Option α
  | [], _ => none
  | (k', v) :: t, k => if k' = k then some v else Tab.find? t k

/-- The value at a key, or the default. -/
def Tab.get (t : Tab κ α) (k : κ) (d : α) : α := (Tab.find? t k).getD d

/-- The table with one key's value replaced, or added at its end. -/
def Tab.put : Tab κ α → κ → α → Tab κ α
  | [], k, v => [(k, v)]
  | (k', v') :: t, k, v => if k' = k then (k, v) :: t else (k', v') :: Tab.put t k v

/-- The table without a key. -/
def Tab.del (t : Tab κ α) (k : κ) : Tab κ α := t.filter fun e => decide (e.1 ≠ k)

/-- The table without the keys that satisfy a test. -/
def Tab.delIf (t : Tab κ α) (p : κ → Bool) : Tab κ α := t.filter fun e => !p e.1

end Sys2Proof.Machine
end

