-- ==== Sys2Proof/Machine/State.lean ====
section
/-! DEFINITION. The state of the block: every register field, memory, queue, counter, mode and pin that the manual gives the VX-3072, as plain data, and the state right after the keeper powers up. -/

namespace Sys2Proof.Machine

/-- Why a command stops. -/
inductive Fault where
  /-- Raised by a vector instruction that names a reserved source code, a DST beyond 63 or a reserved OP (R145, R147 reject such a program at load): the manual gives it no effect. Safe: the block stops where no hardware run exists. -/
  | illFormed
  deriving DecidableEq, Repr

/-- Why a command has no meaning. -/
inductive Refusal where
  /-- Raised only by an arm of exec for a command without a meaning yet. Safe: nothing can be proved about a run past it. -/
  | notModelled (mnemonic : String)
  deriving DecidableEq, Repr

/-- One register field of one page; idx selects the element of an indexed or selected register. -/
structure FieldKey where
  page : Page
  fld : Fld
  idx : Nat
  deriving DecidableEq, Repr

/-- What the block last answered on its buses. The model's own output latch. -/
structure Output where
  /-- Data of the last BAR0 or BAR2 read. -/
  rdata : Nat
  /-- EP of the last completion (R357), or Unsupported Request or Request Retry Status (R364). -/
  ep : Bool
  ur : Bool
  rrs : Bool
  /-- Status and data of the last command response (R40, R369). -/
  status : Nat
  data : List Byte
  /-- MSI-X vectors raised and host memory written, newest last (R359, R360). -/
  msix : List Nat
  hostWrites : List (Nat × List Byte)
  /-- Host memory that a queue fetched its descriptors from (R358), newest last. -/
  hostReads : List Nat
  deriving DecidableEq, Repr

/-- An access that found the high-word latch of R27: the register's page and offset, and the word. -/
structure Latch where
  page : Page
  off : Nat
  idx : Nat
  deriving DecidableEq, Repr

/-- The staging of one page (R32 to R34): the open set, the committed sets with the number of ticks each still skips, and how many of the oldest take effect without a tick (R33). -/
structure Staging where
  openSet : List (FieldKey × Nat)
  waiting : List (List (FieldKey × Nat) × Nat)
  due : Nat
  deriving DecidableEq, Repr

/-- The power states of R304. -/
inductive PowerState where
  | run | floor | hold | dormant | off
  deriving DecidableEq, Repr

/-- The causes that force Floor (R305, R313). -/
inductive FloorCause where
  | alert | vin | converter | droop
  deriving DecidableEq, Repr

/-- The time base beside DEVICE_TIME's register (R133, R138, R139). -/
structure TimeSt where
  now : Nat
  hold : Nat
  rate : Int
  trefLast : Option Nat
  alignFrames : Nat
  deriving DecidableEq, Repr

/-- Power, clock and thermal state that no register shows whole (R300 to R317). -/
structure PowerSt where
  power : PowerState
  transition : Option PowerState
  armed : Bool
  thermLatch : Bool
  thermTripPin : Bool
  causes : List FloorCause
  alertPin : Bool
  flowPin : Bool
  vin : Nat
  vauxOk : Bool
  keeperOn : Bool
  stage40 : Bool
  bootPhase : Nat
  recovery : Bool
  cpRestarting : Bool
  cpRestarts : List Nat
  resetLatch : Bool
  boost : Nat
  planPoint : Nat
  overCap : Bool
  thermSteps : Nat
  thermAt : Option Nat
  capStack : List Nat
  stretch : Bool
  stretchSeen : Bool
  suppressed : Bool
  droopAt : Nat
  wantFloorExit : Bool
  samples : List Nat
  deduct : Nat
  settle : Nat
  trim : Nat
  trimWaiting : Bool
  trimDue : Bool
  d2dDown : List Nat
  wedged : Bool
  /-- Firmware slots that failed in this boot (R297). -/
  bootFailed : List Nat
  /-- In reset with the 40 V stage up: a reset pin was asserted while the device was on, and neither power-up nor a loss of the stage has come since (R382, R388). -/
  inReset : Bool
  /-- The hottest sensor in °C as last read, in whatever power state (R314, R382). -/
  tj : Nat
  /-- DEVICE_TIME at which a sensor last read 90 °C or more (R310). -/
  hotAt : Option Nat
  deriving DecidableEq, Repr

/-- The anchor that Cold Frame keeps of an armature (R149): ARM_ID, digest, and the file's header and section table. -/
structure Anchor where
  armId : Nat
  digest : List Byte
  head : List Byte
  deriving DecidableEq, Repr

/-- A pending activation of a bed (R151, R153); from_ is the state it left, voted tells that the group's vote certified it (R152), anchor is what Cold Frame holds of it (R149). -/
structure Activation where
  slot : Nat
  armId : Nat
  startFrame : Nat
  startStep : Nat
  startEpoch : Nat
  setOrigin : Bool
  from_ : Nat
  running : Bool
  voted : Bool
  anchor : Option Anchor
  deriving DecidableEq, Repr

/-- A captured non-finite result (R130); payload holds NFC_CTL, NFC_CYCLE, NFC_OP, NFC_LAYER, NFC_TILE and NFC_POS as record 0x0541 carries them (R390). -/
structure Capture where
  core : Nat
  frame : Nat
  cycle : Nat
  payload : List Byte
  deriving DecidableEq, Repr

/-- What a bed holds beside its registers (R131, R135, R149 to R157); first is the frame that its first tick begins (R135, log 35), us the frame length that goes with the origin. -/
structure BedSt where
  origin : Bool
  started : Bool
  first : Nat
  us : Nat
  pend : Option Activation
  active : Option Nat
  anchor : Option Anchor
  stopping : Bool
  skipping : Bool
  heldUpdates : Bool
  trapped : Bool
  nfFirst : Option Capture
  nfCores : List Nat
  slackRun : Option Nat
  /-- Clock edges that droops have removed from the bed's frame (R154). -/
  stretched : Nat
  /-- Its sequencer was restarted, so that the realignment at the next tick writes no record of its own (R350, R351). -/
  restarted : Bool
  deriving DecidableEq, Repr

/-- A certified membership change that waits for its boundary (R160, R241): the members lost, or the MEMBER_HASH and step of a plan; the first frame at whose tick it may take effect. -/
structure Change where
  lost : List Nat
  graft : Option Nat
  notBefore : Nat
  step : Option Nat
  deriving DecidableEq, Repr

/-- What a partition holds (R99 to R104, R160, R213, R217, R241). -/
structure PartSt where
  member : Bool
  lost : List Nat
  changes : List Change
  graft : List (Nat × Nat)
  regrowing : Bool
  regrowFrom : Nat
  regrowSrc : Nat
  regrowStep : Nat
  tripped : List (Nat × Nat)
  moved : List (Nat × Nat)
  trips : List Nat
  /-- The running norm average of each watch slot (R98). -/
  averages : Tab Nat Nat
  recovery : Nat
  recoverNext : Bool
  jobSteps : Nat
  committed : Option Nat
  deriving DecidableEq, Repr

/-- One of the 64 armature slots of a partition's region (R147, R150). -/
structure ArmSlot where
  file : List Byte
  digest : List Byte
  deriving DecidableEq, Repr

/-- The bookkeeping of one accumulator slot outside the address map (R114). -/
structure SlotMeta where
  count : Nat
  /-- The partial count of the second Gram product of a norm-mode block (R118). -/
  gramCount : Nat
  spill : Nat
  abandoned : Bool
  busy : Bool
  deriving DecidableEq, Repr

/-- An instruction block in progress on an engine (R121, R124); ends holds the cycle at which each sub-tile completes (R111), order its place in the armature's issue order: frame in the step, START, engine; arm the slot of the armature that issued it, in which step, RNE(T_a × T_b) of R71, T of its output as Released keeps it, and the frame in which it began with that frame's cycles (R130). -/
structure Running where
  entry : Nat
  ctx : Nat
  opId : Nat
  layer : Nat
  blockOff : Nat
  endCycle : Nat
  ends : List Nat
  order : List Nat
  arm : Option Nat
  step : Nat
  scale : Nat
  tee : Nat × Nat
  frame : Nat
  cycles : Nat
  deriving DecidableEq, Repr

/-- A tile released to the quantiser (R115, R145): its output descriptor, tile, first accumulator slot or, when vector STOREs send it, the values received so far by tile index; poisoned by an ABANDONED slot (R124); RNE(T_a × T_b) of R71; the STEP of its release, and T of its descriptor and of the tensor's other blocking in that step (R82, R105); the time since which it waits for an exponent (R247); the place of the block that released it in the armature's issue order (R98); the slot of the armature that issued it. -/
structure Released where
  desc : Nat
  tileRow : Nat
  tileCol : Nat
  slot : Option Nat
  poisoned : Bool
  values : List (Nat × Nat)
  scale : Nat
  step : Nat
  tee : Nat × Nat
  since : Option Nat
  order : List Nat
  arm : Option Nat
  deriving DecidableEq, Repr

/-- The cores (R113 to R128); keys are 384 × bed + core and what stands beside it. -/
structure CoreSt where
  lstore : List Host.Cell
  scalars : Tab (Nat × Nat × Nat) W32
  vregs : Tab (Nat × Nat × Nat) W32
  slots : Tab (Nat × Nat) SlotMeta
  comp : Tab (Nat × Nat) Nat
  taint : List (Nat × Nat)
  skip : List (Nat × Nat)
  cursor : Tab (Nat × Nat) Nat
  endCyc : Tab (Nat × Nat) Nat
  running : Tab (Nat × Nat) Running
  xcursor : Tab (Nat × Nat) Nat
  xbusy : List (Nat × Nat)
  released : Tab Nat (List Released)
  /-- Watch counts by bed, slot and count: of the running step, and of the bed's last complete one until the control processor adds them (R97). -/
  watch : Tab (Nat × Nat × Nat) Nat
  watchDone : Tab (Nat × Nat × Nat) Nat
  /-- Block sums of squares by bed, core and slot, each tile's with its place in the issue order (R98); kept as the counts are. -/
  normPart : Tab (Nat × Nat × Nat) (List (List Nat × List Nat))
  normDone : Tab (Nat × Nat × Nat) (List (List Nat × List Nat))
  tscale : Tab (Nat × Nat) Nat
  amax : Tab (Nat × Nat) Nat
  /-- INT32 accumulations of each core that saturated (R61). -/
  intSats : Tab Nat Nat
  deriving DecidableEq, Repr

/-- A line pinned in a bridge cache (R174): uses left when it is DAL, data, dirty, tags, whether it was written in the running step (R177), and the class and bed of its last writer, which its write-back is metered against. -/
structure CacheLine where
  dal : Option Nat
  data : List Byte
  dirty : Bool
  poison : Bool
  rel : Bool
  written : Bool
  cls : Nat
  bed : Nat
  deriving DecidableEq, Repr

/-- Device memory behind the bridges (R169 to R191). Line numbers are device address ÷ 64. -/
structure MemSt where
  cells : List Host.Cell
  /-- Bridges whose unlisted bytes are the zeros of a scrub (R185). -/
  zeroed : List Nat
  /-- Counts the generations of undefined content; the model's own field. -/
  gen : Nat
  /-- The generation of a bridge's unlisted bytes. -/
  bridgeGen : Tab Nat Nat
  /-- Lines whose content is undefined (R178), with the generation. -/
  undef : Tab Nat Nat
  poison : List Nat
  rel : List Nat
  cache : Tab Nat CacheLine
  used : Tab (Nat × Nat) Nat
  farUsed : Tab Nat Nat
  /-- Bytes that do not yet fill a KiB: of OVERDRAW_Cn (0 to 3), FAR_OVERDRAW (4) and CLIP_Cn (8 + n). -/
  overRest : Tab (Nat × Nat) Nat
  /-- Overdraw requests of the frame that still wait, in lines: by bridge, and by class and requesting bed (8 × class + bed) (R182). -/
  waiting : Tab (Nat × Nat) Nat
  /-- Bridges and classes with overdraw served in the frame (R182). -/
  served : List (Nat × Nat)
  chErrors : Tab (Nat × Nat) Nat
  chFails : Tab (Nat × Nat) Nat
  chBusy : List (Nat × Nat)
  budgetZero : Bool
  denyCount : Tab Nat (Nat × Nat)
  deriving DecidableEq, Repr

/-- A pass entry that a unit runs (R201, R202): the step, the entry's index, the next state group, and the FP32 weights of the working tile in progress. -/
structure UnitRun where
  step : Nat
  entry : Nat
  next : Nat
  values : List Nat
  deriving DecidableEq, Repr

/-- The update units (R198 to R216). -/
structure UpdSt where
  /-- Group words and mask latched for a step, by partition and step (R198). -/
  latched : Tab (Nat × Nat) (Tab Nat Nat × List Nat)
  /-- Entries complete: partition, step, entry; the second for pre-passes. -/
  done : List (Nat × Nat × Nat)
  preDone : List (Nat × Nat × Nat)
  run : Tab Nat UnitRun
  stopReq : List Nat
  /-- W2 and U2 (FP64 codes) of a unit's records of a layer in a step, from the passes and from the pre-passes (R203). -/
  sums : Tab (Nat × Nat × Nat) (Nat × Nat)
  preSums : Tab (Nat × Nat × Nat) (Nat × Nat)
  /-- R of a partition's layer in a step (R203). -/
  ratio : Tab (Nat × Nat × Nat) Nat
  /-- Cutting bytes sent that do not yet fill a KiB of MIRROR_KIB. -/
  mirrorRest : Tab Nat Nat
  /-- Lines received of the step that a ward slot (0 A, 1 B) is filling (R216). -/
  wardLines : Tab (Nat × Nat) (Nat × List Nat)
  /-- Reserved codes that a unit read (R196). -/
  rsv : Tab Nat Nat
  deriving DecidableEq, Repr

/-- A link or device in the topology map (R226): plane, switch, port, device id, state 0 up, 1 dormant, 2 down. -/
structure TopoEntry where
  plane : Nat
  switch : Nat
  port : Nat
  dev : Nat
  state : Nat
  deriving DecidableEq, Repr

/-- The fabric ports (R219 to R245); sent holds the last 64 slots of a port with their numbers, counted from its link-up as its partner counts them (R220), looped the packets that NEAR_LOOPBACK brings back (R245), lastBeat the time of the last heartbeat (R237). A queued packet has a ticket in place of its SEQ, which it takes when it leaves; given holds, by partition and ticket, the SEQ of a packet whose other copy still waits (R231). -/
structure FabricSt where
  topo : List TopoEntry
  topoNew : Option (List TopoEntry)
  seq : Tab Nat Nat
  window : Tab (Nat × Nat × Nat) (Nat × List Nat)
  sent : Tab Nat (List (Nat × Packet))
  sentNo : Tab Nat Nat
  received : Tab Nat Nat
  retryDue : Tab Nat (List Packet)
  retryAsk : Tab Nat (List Nat)
  looped : Tab Nat (List Packet)
  lastBeat : Tab Nat Nat
  queue : Tab Nat (List Packet)
  attempts : Tab Nat Nat
  missed : Tab Nat Nat
  expect : Tab Nat Nat
  discards : Tab Nat Nat
  rejoin : List Nat
  ticket : Nat
  given : Tab (Nat × Nat) Nat
  deriving DecidableEq, Repr

/-- A part open at this device (R250, R251). -/
structure OpenPart where
  sums : List Int
  count : Nat
  hash : Nat
  own : Bool
  from_ : List Nat
  poisoned : Bool
  sat : Bool
  sentOn : Bool
  deriving DecidableEq, Repr

/-- A gradient certificate that this device holds (R256, R257), with the largest magnitude of its sums (R247). -/
structure Cert where
  count : Nat
  hash : Nat
  exp : Int
  poison : Bool
  sat : Bool
  noised : Bool
  amax : Nat
  deriving DecidableEq, Repr

/-- Key of one part of a vote: partition, vote code, contribution frame, the step it is about, part (R252, R260). -/
structure VoteKey where
  part : Nat
  code : Nat
  frame : Nat
  step : Nat
  piece : Nat
  deriving DecidableEq, Repr

/-- A sum of vote inputs: elements, COUNT, HASH (R250). -/
structure VoteSum where
  sums : List Int
  count : Nat
  hash : Nat
  deriving DecidableEq, Repr

/-- One part of a vote in progress (R261): its live members and ARITY, how many elements the part has (R253), for a close vote the buckets that its elements stand for, by step (R258), this member's own contribution, its children's inputs, its backup inputs, and the certificate it holds. -/
structure Vote where
  members : List Nat
  arity : Nat
  elems : Nat
  about : List (Nat × Nat)
  own : VoteSum
  got : VoteSum
  from_ : List Nat
  backup : VoteSum
  backupFrom : List Nat
  forwarded : Bool
  cert : Option VoteSum
  byBackup : Bool
  acted : Bool
  deriving DecidableEq, Repr

/-- What one partition keeps of a step whose buckets have opened (R249, R262, R272): the armature's file, the live members, the first frame, EPOCH; whether no step of the same job came before it; the buckets whose exponents start from EXP_INIT (R247); the members whose loss was certified since (R249); the states of the layers that are not in F4 (R143, R200); whether its job has ended, so that no unit runs its entries any more; what the noise ledger says of the step, DEVICE_TIME of the tick that settled it, and whether its ledger entry is composed and stored. -/
structure OpenStep where
  file : List Byte
  members : List Nat
  first : Nat
  epoch : Nat
  anew : Bool
  initial : List Nat
  lost : List Nat
  states : List (Nat × Nat)
  ended : Bool
  samples : Nat
  noised : List (Nat × List Byte)
  noiseSat : Nat
  noiseFail : Nat
  settledAt : Nat
  entered : Bool
  stored : Bool
  deriving DecidableEq, Repr

/-- Key of a part: partition, bucket, step, tile, part (R246). -/
structure PartKey where
  part : Nat
  bucket : Nat
  step : Nat
  tile : Nat
  piece : Nat
  deriving DecidableEq, Repr

/-- Exact gradient reduction and the votes (R246 to R264). expo holds E(s) by tile, its keys with part 0; lowQ counts received elements of −32,768 (R64). -/
structure RedSt where
  parts : Tab PartKey OpenPart
  certs : Tab PartKey Cert
  expo : Tab PartKey Int
  settled : Tab (Nat × Nat × Nat) Bool
  votes : Tab VoteKey Vote
  openStep : Tab (Nat × Nat) OpenStep
  lowQ : Nat
  deriving DecidableEq, Repr

/-- A record of the event recorder (R337). -/
structure Record where
  seq : Nat
  opSeconds : Nat
  flags : Nat
  code : Nat
  powerCycles : Nat
  frame : Nat
  source : Nat
  piece : Nat
  payload : List Byte
  deriving DecidableEq, Repr

/-- One partition's noise generator and ledger (R270 to R274): the instantiation, draws and generate requests, whether it stopped (R271), and the ledger entries that wait to be queued. -/
structure Noise where
  inst : Option Nat
  draws : Nat
  requests : Nat
  stopped : Bool
  waiting : List (Nat × List Record)
  deriving DecidableEq, Repr

/-- The event recorder (R337 to R348, R393). -/
structure RecSt where
  slots : Tab Nat Record
  queueGen : List Record
  queueProt : List Record
  pendProt : Tab Nat Record
  readMarks : List Nat
  perSecond : Tab (Nat × Nat) Nat
  dropFirst : Option Nat
  dropLast : Nat
  dropCount : Nat
  freezeAsked : Bool
  batch : List Record
  storedSeq : Nat
  storedOp : Nat
  storedCycles : Nat
  sinceBatch : Nat
  opNs : Nat
  storedMs : Nat
  auditWait : List (List Record)
  deriving DecidableEq, Repr

/-- The keys of one session (R292). -/
structure Keys where
  root : List Byte
  prk : List Byte
  memKey : List Byte
  linkKey : List Byte
  groupKey : List Byte
  inKey : List Byte
  deriving DecidableEq, Repr

/-- One partition's session (R289 to R295); peers holds, by device id, the draw of this side's ephemeral key and the peer's public key (R291). -/
structure Session where
  id : List Byte
  group : List Byte
  grantSeq : Nat
  roster : List (Nat × List Byte)
  rosterDigest : List Byte
  tenant : List Byte
  keys : Option Keys
  closing : Bool
  dormantScrub : Bool
  peers : Tab Nat (Nat × List Byte)
  deriving DecidableEq, Repr

/-- One SPDM secured session (R287). -/
structure SpdmSession where
  requester : List Byte
  mutualAuth : Bool
  established : Bool
  exportSecret : List Byte
  updates : Nat
  deriving DecidableEq, Repr

/-- A firmware slot (R296). -/
structure FwSlot where
  keeperImage : List Byte
  cpImage : List Byte
  version : Nat
  svn : Nat
  ok : Bool
  deriving DecidableEq, Repr

/-- A copy of the boot header in flash (R367): HDR_SEQ, ACTIVE, PENDING, ATTEMPTS. -/
structure BootHdr where
  seq : Nat
  active : Nat
  pending : Option Nat
  attempts : Nat
  deriving DecidableEq, Repr

/-- The keeper's security state (R283 to R297); headers holds the bytes of the two copies of the boot header in flash (R367), active, pending and attempts what the keeper works with. -/
structure SecSt where
  owners : List (List Byte × Bool)
  nonces : List (List Byte × Nat)
  draws : Nat
  sourceFailed : Bool
  sessions : Tab Nat Session
  spdm : Tab Nat SpdmSession
  negotiated : Bool
  flash : Tab Nat FwSlot
  headers : Tab Nat (List Byte)
  active : Nat
  pending : Option Nat
  attempts : Nat
  booted : Nat
  chunkBusy : Bool
  hdrWaiting : Bool
  bootedNew : Bool
  keyRevoked : List Nat
  measure4 : List Byte
  measure5 : Nat
  measure5Code : Option (List Byte)
  sfdpOk : Bool
  /-- Ephemeral keys that came, by partition and device, before this device's session was open (R291). -/
  earlyKeys : Tab (Nat × Nat) (List Byte)
  deriving DecidableEq, Repr

/-- A descriptor in flight (R362). -/
structure InFlight where
  desc : DmaDesc
  index : Nat
  status : Option Nat
  bytes : Nat
  seq : Nat
  deriving DecidableEq, Repr

/-- A host access to memory that waits for a flow fault to end (R312): partition, device address, the check code's verdict of a read, or the data of a write with its EP bit. -/
structure HostWait where
  part : Nat
  addr : Nat
  err : LineErr
  write : Option (List Byte × Bool)
  deriving DecidableEq, Repr

/-- The endpoint and the command paths (R356 to R371). -/
structure HostSt where
  inFlight : Tab Nat (List InFlight)
  ringTail : Tab Nat (List DmaDesc)
  eid : Nat
  /-- Host accesses that memory does not serve during a flow fault (R312), oldest first. -/
  waits : List HostWait
  /-- The link has been in L0 long enough to answer before BOOT_DONE (R364). -/
  linkL0 : Bool
  /-- Words of configuration space that the host has written (R356). -/
  config : Tab Nat Nat
  deriving DecidableEq, Repr

/-- An entry of the island's audit trail (R334). -/
structure Audit where
  index : Nat
  kind : Nat
  count : Nat
  seconds : Nat
  total : Nat
  old : Nat
  new : Nat
  deriving DecidableEq, Repr

/-- The metering island (R320 to R334). Energies in microjoule; tenths counts the 100 ms intervals of its operating time, sinceGood is DEVICE_TIME of the last good snapshot, mirrored the audit entries that the keeper has copied. -/
structure IslandSt where
  ready : Bool
  fault : Bool
  sealClosed : Bool
  ranged : Bool
  total : Nat
  aux : Nat
  unattrib : Nat
  beds : List Nat
  committed : Nat × Nat × Nat × List Nat
  holdupC : Nat
  version : Nat
  auditCnt : Nat
  audit : List Audit
  ring : List (Nat × Nat)
  tenths : Nat
  pulseCarry : Nat
  pulses : Nat
  load : Option Nat
  image : Tab Nat Byte
  code : Option (List Byte)
  milliamps : Nat
  sinceGood : Nat
  mirrored : Nat
  deriving DecidableEq, Repr

/-- The test access port (R385, R386): the loaded instruction (0 BYPASS, 1 IDCODE, 2 SAMPLE/PRELOAD, 3 EXTEST, 4 EXTEST_PULSE, 5 EXTEST_TRAIN, 6 CLAMP, 7 HIGHZ, 8 BOARD_OTP), the boundary cells, the board declaration word. -/
structure TapSt where
  instr : Nat
  cells : List Bool
  otp : Nat
  deriving DecidableEq, Repr

/-- The whole block. -/
structure State where
  pending : List Instr
  /-- Counts the free values taken; the model's own field. -/
  free : Nat
  out : Output
  regs : Tab FieldKey Nat
  latches : Tab Latch Nat
  /-- Counters as they stood at the owning bed's last tick (R298). -/
  coarse : Tab FieldKey Nat
  staging : Tab Page Staging
  /-- PART_LOG2 at the end of boot, when the page directory was fixed (R29). -/
  directory : Option Nat
  /-- Blocks that a write of 0 to CTL.RUN stops at the end of the current frame (R31). -/
  stops : List Page
  /-- Blocks that a write of 0 to CTL.RUN has stopped (R31). -/
  halted : List Page
  once : List (Nat × Nat × Nat)
  time : TimeSt
  pw : PowerSt
  beds : Tab Nat BedSt
  parts : Tab Nat PartSt
  arms : Tab (Nat × Nat) ArmSlot
  cores : CoreSt
  mem : MemSt
  upd : UpdSt
  fab : FabricSt
  red : RedSt
  noise : Tab Nat Noise
  evr : RecSt
  sec : SecSt
  host : HostSt
  isl : IslandSt
  tap : TapSt
  deriving DecidableEq, Repr

/-! ### Reset -/

/-- A bed at reset: IDLE without an origin (R135, R363). -/
def BedSt.reset : BedSt :=
  ⟨false, false, 0, 16, none, none, none, false, false, false, false, none, [], none, 0, false⟩
/-- A partition at reset. -/
def PartSt.reset : PartSt := ⟨false, [], [], [], false, 0, 0, 0, [], [], [], [], 0, false, 0, none⟩
/-- An accumulator slot at reset (R114). -/
def SlotMeta.reset : SlotMeta := ⟨0, 0, 0, false, false⟩
/-- A noise generator that is not instantiated (R270). -/
def Noise.reset : Noise := ⟨none, 0, 0, false, []⟩
/-- A partition without a session (R299). -/
def Session.reset : Session := ⟨[], [], 0, [], [], [], none, false, false, []⟩
/-- An empty staging (R34). -/
def Staging.reset : Staging := ⟨[], [], 0⟩
/-- A firmware slot that holds a verified image (log 4). -/
def FwSlot.reset : FwSlot := ⟨[], [], 0, 0, true⟩

/-- The block right after the keeper powers up (R133, R381, R392): VAUX and VIN_40 in their limits, both resets deasserted, power-up armed, the 40 V stage down; every register at its reset value (log 3, log 4). -/
def State.reset : State where
  pending := []
  free := 0
  out := ⟨0, false, false, false, 0, [], [], [], []⟩
  regs := [(⟨⟨.powerMgmt, 0⟩, .DOMAIN_ON, 2⟩, 0x3800)]
  latches := []
  coarse := []
  staging := []
  directory := none
  stops := []
  halted := []
  once := []
  time := ⟨0, 0, 0, none, 0⟩
  pw := {
    power := .off, transition := none, armed := true, thermLatch := false, thermTripPin := false,
    causes := [], alertPin := false, flowPin := false, vin := 40000, vauxOk := true, keeperOn := true,
    stage40 := false, bootPhase := 1, recovery := false, cpRestarting := false, cpRestarts := [],
    resetLatch := false, boost := 0, planPoint := 0, overCap := false, thermSteps := 0, thermAt := none, capStack := [], stretch := false,
    stretchSeen := false, suppressed := false, droopAt := 0, wantFloorExit := false, samples := [],
    deduct := 0, settle := 0, trim := 0, trimWaiting := false, trimDue := false, d2dDown := [], wedged := false, bootFailed := [],
    inReset := false, tj := 0, hotAt := none }
  beds := []
  parts := []
  arms := []
  cores := ⟨[], [], [], [], [], [], [], [], [], [], [], [], [], [], [], [], [], [], [], []⟩
  mem := {
    cells := [], zeroed := [], gen := 0, bridgeGen := [], undef := [], poison := [], rel := [], cache := [], used := [],
    farUsed := [], overRest := [], waiting := [], served := [], chErrors := [], chFails := [], chBusy := [], budgetZero := false,
    denyCount := [] }
  upd := ⟨[], [], [], [], [], [], [], [], [], [], []⟩
  fab := ⟨[], none, [], [], [], [], [], [], [], [], [], [], [], [], [], [], [], 0, []⟩
  red := ⟨[], [], [], [], [], [], 0⟩
  noise := []
  evr := {
    slots := [], queueGen := [], queueProt := [], pendProt := [], readMarks := [], perSecond := [],
    dropFirst := none, dropLast := 0, dropCount := 0, freezeAsked := false, batch := [],
    storedSeq := 1, storedOp := 0, storedCycles := 0, sinceBatch := 0, opNs := 0, storedMs := 0, auditWait := [] }
  sec := {
    owners := [], nonces := [], draws := 0, sourceFailed := false, sessions := [], spdm := [],
    negotiated := false, flash := [], headers := [(0, [1, 0, 0, 0, 0, 0, 0] ++ List.replicate 53 0 ++ [0x6A, 0xA1, 0xB0, 0x2F])], active := 0, pending := none, attempts := 0, booted := 0,
    chunkBusy := false, hdrWaiting := false, bootedNew := false, keyRevoked := [], measure4 := [], measure5 := 0, measure5Code := none, sfdpOk := true, earlyKeys := [] }
  host := ⟨[], [], 0, [], false, []⟩
  isl := {
    ready := false, fault := false, sealClosed := false, ranged := false, total := 0, aux := 0,
    unattrib := 0, beds := [0, 0, 0, 0, 0, 0, 0, 0], committed := (0, 0, 0, [0, 0, 0, 0, 0, 0, 0, 0]),
    holdupC := 100, version := 0, auditCnt := 0, audit := [], ring := [], tenths := 0, pulseCarry := 0,
    pulses := 0, load := none, image := [], code := none, milliamps := 0, sinceGood := 0, mirrored := 0 }
  tap := ⟨1, [], 0⟩

end Sys2Proof.Machine
end

