-- ==== Sys2Proof/Machine/Ops.lean ====
section
/-! DEFINITION. The named operations over registers: reading and writing a field, the page map of BAR0 (R28), running beds and partitions (R16, R33), event records (R337 to R350), staging sets (R32 to R38). -/

namespace Sys2Proof.Machine

/-! ### Fields -/

/-- The stored value of a field; an unlisted field holds its reset value. -/
def State.get (s : State) (p : Page) (f : Fld) (i : Nat := 0) : Nat :=
  s.regs.get ⟨p, f, i⟩ (fieldInfo f).reset

/-- The state with a field set; a value is cut to the field's width. -/
def State.put (s : State) (p : Page) (f : Fld) (v : Nat) (i : Nat := 0) : State :=
  { s with regs := s.regs.put ⟨p, f, i⟩ (v % 2 ^ (fieldInfo f).width) }

/-- A counter that saturates at its all-ones value, raised by n. -/
def State.bump (s : State) (p : Page) (f : Fld) (n : Nat := 1) (i : Nat := 0) : State :=
  s.put p f (satAdd (fieldInfo f).width (s.get p f i) n) i

/-- A one-bit field as a truth value. -/
def State.flag (s : State) (p : Page) (f : Fld) (i : Nat := 0) : Bool := s.get p f i == 1

/-- All indices of a set of fields of one page back at their reset values. -/
def State.resetFields (s : State) (p : Page) (fs : List Fld) : State :=
  { s with regs := s.regs.delIf fun k => decide (k.page = p) && fs.contains k.fld }

/-! ### Pages -/

/-- The device-globals page. -/
def pgGlobals : Page := ⟨.deviceGlobals, 0⟩
/-- The power-management page (R318). -/
def pgPower : Page := ⟨.powerMgmt, 0⟩
/-- The device control processor page. -/
def pgCp : Page := ⟨.controlProcessor, 0⟩
/-- The keeper page (R319). -/
def pgKeeper : Page := ⟨.keeper, 0⟩
/-- The security engine page (R299). -/
def pgSec : Page := ⟨.security, 0⟩
/-- The event recorder page (R355). -/
def pgRec : Page := ⟨.recorder, 0⟩
/-- The metering mirror page (R336). -/
def pgMirror : Page := ⟨.mirror, 0⟩
/-- The PCIe endpoint page (R375). -/
def pgPcie : Page := ⟨.pcie, 0⟩
/-- Bed b's sequencer page (R167). -/
def pgBed (b : Nat) : Page := ⟨.bedSequencer, b⟩
/-- Bed b's quantiser page (R107). -/
def pgQuant (b : Nat) : Page := ⟨.quantiser, b⟩
/-- The layer precision page at bed b (R107). -/
def pgLayer (b : Nat) : Page := ⟨.layerPrecision, b⟩
/-- Bridge b's page (R192). -/
def pgBridge (b : Nat) : Page := ⟨.bridge, b⟩
/-- Bridge b's cache page. -/
def pgCache (b : Nat) : Page := ⟨.bridgeCache, b⟩
/-- Bridge b's regulator page. -/
def pgReg (b : Nat) : Page := ⟨.regulators, b⟩
/-- Update unit u's page (R218). -/
def pgUnit (u : Nat) : Page := ⟨.updateUnit, u⟩
/-- Stack u's memory controller page. -/
def pgMc (u : Nat) : Page := ⟨.memController, u⟩
/-- Link die d's page (R245). -/
def pgLink (d : Nat) : Page := ⟨.linkDie, d⟩
/-- Port p's page (R245). -/
def pgPort (p : Nat) : Page := ⟨.port, p⟩
/-- Port p's reduction adder page (R264). -/
def pgRed (p : Nat) : Page := ⟨.reduction, p⟩
/-- A core's subpage k (R39, R132). -/
def pgCore (k : PageKind) (c : Nat) : Page := ⟨k, c⟩

/-- The global number of a core. -/
def coreNo (b c : Nat) : Nat := 384 * b + c

/-! ### Beds and partitions -/

/-- SEQ_STATE codes of R167. -/
def seqIdle : Nat := 0
@[inherit_doc seqIdle] def seqArmed : Nat := 1
@[inherit_doc seqIdle] def seqRunning : Nat := 2
@[inherit_doc seqIdle] def seqPaused : Nat := 3
@[inherit_doc seqIdle] def seqHeld : Nat := 4

/-- SEQ_STATE of a bed. -/
def State.seq (s : State) (b : Nat) : Nat := s.get (pgBed b) .SEQ_STATE

/-- A running bed: ARMED, RUNNING or PAUSED (R33). -/
def State.bedRuns (s : State) (b : Nat) : Bool := 1 ≤ s.seq b && s.seq b ≤ 3

/-- An armature runs on the bed (R134). -/
def State.runsArm (s : State) (b : Nat) : Bool := s.seq b == seqRunning || s.seq b == seqPaused

/-- A bed that is IDLE or HELD. -/
def State.bedQuiet (s : State) (b : Nat) : Bool := s.seq b == 0 || s.seq b == 4

/-- All beds. -/
def allBeds : List Nat := [0, 1, 2, 3, 4, 5, 6, 7]

/-- The lowest-numbered running bed (R33, R136). -/
def State.lowestRunning (s : State) : Option Nat := allBeds.find? s.bedRuns

/-- Any bed runs. -/
def State.anyBedRuns (s : State) : Bool := allBeds.any s.bedRuns

/-- The number of partitions in force: 1, 2, 4 or 8 (R16, R19). -/
def State.partCount (s : State) : Nat := 2 ^ s.get pgGlobals .PART_LOG2

/-- Beds per partition (R19). -/
def State.partSize (s : State) : Nat := 8 / s.partCount

/-- The partition of a bed (R19). -/
def State.partOf (s : State) (b : Nat) : Nat := b / s.partSize

/-- The lowest-numbered bed of a partition. -/
def State.partFirst (s : State) (p : Nat) : Nat := p * s.partSize

/-- The beds of a partition (R16, R19). -/
def State.partBeds (s : State) (p : Nat) : List Nat := allBeds.filter fun b => s.partOf b == p

/-- The ports of a partition: 2b and 2b + 1 of its beds (R17). -/
def State.partPorts (s : State) (p : Nat) : List Nat := (s.partBeds p).flatMap fun b => [2 * b, 2 * b + 1]

/-- The bed beside its registers. -/
def State.bed (s : State) (b : Nat) : BedSt := s.beds.get b BedSt.reset
/-- The state with a bed's own part changed. -/
def State.setBed (s : State) (b : Nat) (x : BedSt) : State := { s with beds := s.beds.put b x }
/-- The partition's own part. -/
def State.part (s : State) (p : Nat) : PartSt := s.parts.get p PartSt.reset
/-- The state with a partition's own part changed. -/
def State.setPart (s : State) (p : Nat) (x : PartSt) : State := { s with parts := s.parts.put p x }
/-- The session of a partition. -/
def State.session (s : State) (p : Nat) : Session := s.sec.sessions.get p Session.reset
/-- The state with a partition's session changed. -/
def State.setSession (s : State) (p : Nat) (x : Session) : State :=
  { s with sec := { s.sec with sessions := s.sec.sessions.put p x } }
/-- SESSION_STS.STATE: 0 closed, 1 opening, 2 open, 3 closing (R299). -/
def State.sessionState (s : State) (p : Nat) : Nat := s.get pgSec .SESSION_STATE p
/-- A session is open on the partition (R290). -/
def State.sessionOpen (s : State) (p : Nat) : Bool := s.sessionState p == 2
/-- Any partition has a session that is not closed. -/
def State.anySession (s : State) : Bool := allBeds.any fun p => s.sessionState p != 0
/-- Any partition has an open session (R19). -/
def State.anyOpen (s : State) : Bool := allBeds.any s.sessionOpen

/-- The bed whose counters a page reports: its own bed, else the lowest-numbered running bed (R33, R136). -/
def pageBed (p : Page) : Option Nat :=
  match p.kind with
  | .bedSequencer | .coreWindow | .quantiser => some p.inst
  | .cluster => some (p.inst / 4)
  | .coreSub0 | .coreSub1 | .coreSub2 | .coreSub3 => some (p.inst / 384)
  | .bridge | .bridgeCache | .regulators => some p.inst
  | .updateUnit | .memController => some (p.inst / 4)
  | .port | .reduction => some (p.inst / 2)
  | .layerPrecision | .deviceGlobals | .pageDirectory | .controlProcessor | .powerMgmt | .linkDie | .pcie
  | .keeper | .security | .recorder | .mirror => none

/-- The bed whose tick a page takes, while it is a running bed (R33). -/
def State.tickBed (s : State) (p : Page) : Option Nat :=
  match pageBed p with
  | some b => if s.bedRuns b then some b else none
  | none => s.lowestRunning

/-- FRAME_NUMBER as a page reports it (R136, R337); 0 when no bed has an origin. -/
def State.pageFrame (s : State) (p : Page) : Nat :=
  match pageBed p with
  | some b => if (s.bed b).origin then s.get (pgBed b) .FRAME_NUMBER else 0
  | none => match s.lowestRunning with
    | some b => s.get (pgBed b) .FRAME_NUMBER
    | none => 0

/-- The block runs with what it belongs to: RUN of the keeper, recorder, mirror and power pages reads 1 (R318, R319, R336, R355); bed pages run with their bed, bridge pages with their bridge's CTL.RUN, port pages with their port's (log 18); the globals while a bed runs or a session is open (R19), the endpoint with its selected queue (R375). -/
def State.runsWith (s : State) (p : Page) : Bool :=
  match p.kind with
  | .keeper | .recorder | .mirror => true
  | .powerMgmt => decide (6 ≤ s.pw.bootPhase)
  | .bedSequencer | .quantiser | .coreWindow => s.bedRuns p.inst
  | .cluster => s.bedRuns (p.inst / 4)
  | .coreSub0 | .coreSub1 | .coreSub2 | .coreSub3 => s.bedRuns (p.inst / 384)
  | .layerPrecision => (s.partBeds (s.partOf p.inst)).any s.bedRuns
  | .bridge | .bridgeCache | .regulators => s.flag (pgBridge p.inst) .RUN
  | .updateUnit | .memController => s.flag (pgBridge (p.inst / 4)) .RUN
  | .port | .reduction => s.flag (pgPort p.inst) .RUN
  | .deviceGlobals => s.anyBedRuns || s.anyOpen
  | .pcie => s.flag pgPcie .DMAQ_EN (s.get pgPcie .DMAQ_SEL)
  | .pageDirectory | .controlProcessor | .linkDie | .security => false

/-- CTL.RUN has stopped the page's block: until a 1 is written there it does no work (R31, log 18). -/
def State.halts (s : State) (p : Page) : Bool := s.halted.contains p

/-- RUNNING of a page's block: it runs with what it belongs to, or because CTL.RUN started it, and not once CTL.RUN has stopped it (R31, log 18). -/
def State.running (s : State) (p : Page) : Bool := !s.halts p && (s.runsWith p || s.flag p .RUNNING)

/-! ### Event records (R337 to R350) -/

/-- The range of a page's event codes (R349). -/
def codeRange : PageKind → Nat
  | .recorder => 0x0000
  | .deviceGlobals | .pageDirectory => 0x0100
  | .controlProcessor => 0x0200
  | .powerMgmt => 0x0300
  | .bedSequencer | .coreWindow => 0x0400
  | .cluster | .coreSub0 | .coreSub1 | .coreSub2 | .coreSub3 => 0x0500
  | .quantiser | .layerPrecision => 0x0600
  | .bridge | .bridgeCache | .regulators => 0x0700
  | .updateUnit => 0x0800
  | .memController => 0x0900
  | .linkDie | .port => 0x0A00
  | .reduction => 0x0B00
  | .pcie => 0x0C00
  | .keeper => 0x0D00
  | .security => 0x0E00
  | .mirror => 0x1000

/-- INSTANCE as PAGE_ID shows it: a layer precision page has 8 + b (R107), a core subpage its window's bed. -/
def pageInstance (p : Page) : Nat :=
  match p.kind with
  | .layerPrecision => 8 + p.inst
  | .coreSub0 | .coreSub1 | .coreSub2 | .coreSub3 => p.inst / 384
  | _ => p.inst

/-- SOURCE of a record: PAGE_ID[23:0] (R337). -/
def pageSource (p : Page) : Nat := pageCode p.kind + 65536 * (pageInstance p % 256)

/-- The codes stored in the protected region (R341). -/
def protectedCode (c : Nat) : Bool := c == 0x0001 || (0x0E00 ≤ c && c ≤ 0x0EFF) || c == 0x0F01 || c == 0x1001

/-- The three protected codes that keep 32 places (R342). -/
def keptCode (c : Nat) : Bool := c == 0x0E22 || c == 0x0E23 || c == 0x0001

/-- Records that report no error and so are not captured in ERR_CAP (log 12). -/
def noticeCode (c : Nat) : Bool :=
  [0x0001, 0x0002, 0x0004, 0x0005, 0x0006, 0x0140, 0x0141, 0x0341, 0x0423, 0x0721, 0x0824, 0x0A20, 0x0A21, 0x0B20,
   0x0C21, 0x0C22, 0x0E21, 0x0E22, 0x0E23, 0x0E40, 0x0F01, 0x1001].contains c

/-- Protected places that a code may use (R342). -/
def protLimit (c : Nat) : Nat := if keptCode c then 512 else 480

/-- The partition of a page, if it belongs to one (R345): its bed's, or the one whose layers it shows (R107). -/
def State.pagePart (s : State) (p : Page) : Option Nat :=
  if p.kind = .layerPrecision then some (s.partOf p.inst) else (pageBed p).map s.partOf

/-- A record of one event, without its SEQ (R337, R345): FLAGS [0] PROT, [2] HELD, [3] REDACTED. -/
def State.mkRecord (s : State) (code : Nat) (p : Page) (payload : List Byte) (frame : Nat) : Record :=
  let red := match s.pagePart p with
    | some q => s.sessionOpen q
    | none => false
  { seq := 0, opSeconds := s.get pgRec .OP_SECONDS,
    flags := b2n (protectedCode code) + 4 * b2n (s.flag pgRec .FROZEN && !protectedCode code) + 8 * b2n red,
    code := code, powerCycles := s.get pgRec .POWER_CYCLES, frame := frame, source := pageSource p, piece := 0,
    payload := padTo 30 payload }

/-- A record with the next SEQ placed in its queue (R340). -/
def State.enqueue (s : State) (r : Record) : State :=
  let r := { r with seq := s.get pgRec .NEXT_SEQ }
  let s := s.put pgRec .NEXT_SEQ (r.seq + 1)
  if protectedCode r.code then { s with evr := { s.evr with queueProt := s.evr.queueProt ++ [r] } }
  else { s with evr := { s.evr with queueGen := s.evr.queueGen ++ [r] } }

/-- ERR_CAP: the first error since VALID was last cleared (R31). -/
def State.capture (s : State) (code : Nat) (p : Page) (frame : Nat) : State :=
  if s.flag p .CAP_VALID || noticeCode code then s
  else ((s.put p .CAP_CODE code).put p .CAP_FRAME_LO (frame % 4096)).put p .CAP_VALID 1

/-- A general record queued, or dropped and counted for the next DROPPED record where no place is free (R343). -/
def State.queueGeneral (s : State) (r : Record) : State :=
  if s.evr.queueGen.length < 4096 then s.enqueue r
  else
    let s := { s with evr := { s.evr with
      dropFirst := some (s.evr.dropFirst.getD r.frame), dropLast := r.frame, dropCount := s.evr.dropCount + 1 } }
    (s.bump pgRec .DROPPED_CNT).put pgRec .EVT (s.get pgRec .EVT ||| 2)

/-- A general record under the limit of its pair (R344): beyond 64 queued in a second it is suppressed; one that finds no place does not count. -/
def State.postGeneral (s : State) (r : Record) : State :=
  let k := (r.source, r.code)
  let n := s.evr.perSecond.get k 0
  let counted := { s with evr := { s.evr with perSecond := s.evr.perSecond.put k (n + 1) } }
  if 64 ≤ n then counted.bump pgRec .REPEAT_CNT
  else if s.evr.queueGen.length < 4096 then counted.queueGeneral r
  else s.queueGeneral r

/-- A protected record (R342, R393): queued, or held in the pending place of its code, or merged into it. -/
def State.postProtected (s : State) (r : Record) : State :=
  if s.evr.queueProt.length < protLimit r.code && (keptCode r.code || s.evr.pendProt.isEmpty) then s.enqueue r
  else if (s.evr.pendProt.find? r.code).isSome then s.bump pgRec .PROT_MERGED
  else { s with evr := { s.evr with pendProt := s.evr.pendProt.put r.code r } }

/-- An event record of a page with its payload, at a given frame (R337); nothing is recorded while the keeper is without power. -/
def State.recordAt (s : State) (code : Nat) (p : Page) (payload : List Byte) (frame : Nat) : State :=
  if s.pw.keeperOn then
    let r := s.mkRecord code p payload frame
    let s := if protectedCode code then s.postProtected r else s.postGeneral r
    s.capture code p frame
  else s

/-- An event record of a page (R337). -/
def State.record (s : State) (code : Nat) (p : Page) (payload : List Byte := []) : State :=
  s.recordAt code p payload (s.pageFrame p)

/-- An EVT bit set, without a record of its own (R350). -/
def State.evt (s : State) (p : Page) (bit : Nat) : State := s.put p .EVT (s.get p .EVT ||| 2 ^ bit)

/-- The interrupt or trap request of a page: some EVT bit is set whose EVT_EN bit is 1 (R31). No row of the table reads it: the manual names neither a vector for it nor what a trap makes a sequencer do. -/
def State.pageRequest (s : State) (p : Page) : Bool := s.get p .EVT &&& s.get p .EVT_EN != 0
/-- With CTL.TRAP_EN the request of a page is a trap to the bed sequencer or control processor, else an interrupt (R31). -/
def State.pageTrap (s : State) (p : Page) : Bool := s.pageRequest p && s.flag p .TRAP_EN
@[inherit_doc State.pageTrap] def State.pageInterrupt (s : State) (p : Page) : Bool := s.pageRequest p && !s.flag p .TRAP_EN

/-- An EVT bit set with its record: local code 0x20 + bit (R350). -/
def State.raise (s : State) (p : Page) (bit : Nat) (payload : List Byte := []) : State :=
  (s.evt p bit).record (codeRange p.kind + 0x20 + bit) p payload

/-- A record of a common code 0xE0 to 0xFF in the page's range (R350). -/
def State.common (s : State) (p : Page) (loc : Nat) (payload : List Byte := []) : State :=
  s.record (codeRange p.kind + loc) p payload

/-- The state with something done once per key until the key is cleared (records "once per step"). -/
def State.onceDo (s : State) (k : Nat × Nat × Nat) (f : State → State) : State :=
  if s.once.contains k then s else { f s with once := k :: (f s).once }

/-! ### BAR0 (R28) -/

/-- The page and offset in it that a BAR0 offset reaches; none where no page is implemented. The layer precision pages of beds that are not their partition's lowest are inactive (R107). -/
def State.pageAt (s : State) (o : Nat) : Option (Page × Nat) :=
  let r := o % 0x1000
  if o < 0x1000 then some (pgGlobals, r)
  else if o < 0x10000 then some (⟨.pageDirectory, 0⟩, o - 0x1000)
  else if o < 0x1000000 then
    if o < 0x11000 then some (pgCp, r)
    else if o < 0x12000 then some (pgPower, r)
    else if 0x18000 ≤ o && o < 0x20000 then
      let b := (o - 0x18000) / 0x1000
      if s.partFirst (s.partOf b) = b then some (pgLayer b, r) else none
    else none
  else if o < 0x1800000 then
    let b := (o - 0x1000000) / 0x100000
    let q := (o - 0x1000000) % 0x100000 / 0x1000
    if q = 0 then some (pgBed b, r)
    else if q ≤ 4 then some (⟨.cluster, 4 * b + (q - 1)⟩, r)
    else if q = 8 then some (pgQuant b, r)
    else if q = 0xFF then some (⟨.coreWindow, b⟩, r)
    else none
  else if o < 0x2000000 then none
  else if o < 0x2800000 then
    let b := (o - 0x2000000) / 0x100000
    let q := (o - 0x2000000) % 0x100000 / 0x1000
    if q = 0 then some (pgBridge b, r)
    else if q = 1 then some (pgCache b, r)
    else if q = 2 then some (pgReg b, r)
    else if 4 ≤ q && q ≤ 7 then some (pgUnit (4 * b + (q - 4)), r)
    else if 8 ≤ q && q ≤ 11 then some (pgMc (4 * b + (q - 8)), r)
    else none
  else if o < 0x3000000 then none
  else if o < 0x3800000 then
    let d := (o - 0x3000000) / 0x400000
    let q := (o - 0x3000000) % 0x400000 / 0x1000
    if q = 0 then some (pgLink d, r)
    else if 0x10 ≤ q && q < 0x18 then some (pgPort (8 * d + (q - 0x10)), r)
    else if 0x20 ≤ q && q < 0x28 then some (pgRed (8 * d + (q - 0x20)), r)
    else if q = 0x30 && d = 0 then some (pgPcie, r)
    else none
  else if o < 0x3C00000 then
    if o < 0x3801000 then some (pgKeeper, r)
    else if o < 0x3802000 then some (pgSec, r)
    else if o < 0x3803000 then some (pgRec, r)
    else none
  else if o < 0x3C01000 then some (pgMirror, r)
  else none

/-- The BAR0 offset of a page (R28). -/
def pageBase (p : Page) : Nat :=
  match p.kind with
  | .deviceGlobals => 0
  | .pageDirectory => 0x1000
  | .controlProcessor => 0x10000
  | .powerMgmt => 0x11000
  | .layerPrecision => 0x18000 + 0x1000 * p.inst
  | .bedSequencer => 0x1000000 + 0x100000 * p.inst
  | .cluster => 0x1000000 + 0x100000 * (p.inst / 4) + 0x1000 * (p.inst % 4 + 1)
  | .quantiser => 0x1000000 + 0x100000 * p.inst + 0x8000
  | .coreWindow => 0x1000000 + 0x100000 * p.inst + 0xFF000
  | .coreSub0 | .coreSub1 | .coreSub2 | .coreSub3 => 0x1000000 + 0x100000 * (p.inst / 384) + 0xFF800
  | .bridge => 0x2000000 + 0x100000 * p.inst
  | .bridgeCache => 0x2000000 + 0x100000 * p.inst + 0x1000
  | .regulators => 0x2000000 + 0x100000 * p.inst + 0x2000
  | .updateUnit => 0x2000000 + 0x100000 * (p.inst / 4) + 0x4000 + 0x1000 * (p.inst % 4)
  | .memController => 0x2000000 + 0x100000 * (p.inst / 4) + 0x8000 + 0x1000 * (p.inst % 4)
  | .linkDie => 0x3000000 + 0x400000 * p.inst
  | .port => 0x3000000 + 0x400000 * (p.inst / 8) + 0x10000 + 0x1000 * (p.inst % 8)
  | .reduction => 0x3000000 + 0x400000 * (p.inst / 8) + 0x20000 + 0x1000 * (p.inst % 8)
  | .pcie => 0x3030000
  | .keeper => 0x3800000
  | .security => 0x3801000
  | .recorder => 0x3802000
  | .mirror => 0x3C00000

/-- The last read's data. -/
def State.answer (s : State) (d : Nat) (ep : Bool := false) : State :=
  { s with out := { s.out with rdata := d, ep := ep, ur := false, rrs := false } }

/-- Run or Floor: clusters are on and beds may run. -/
def State.inRun (s : State) : Bool := s.pw.power == .run || s.pw.power == .floor

/-- BAR accesses are answered once BOOT_DONE is 1 and while the endpoint's domain is on, and not after a lost die-to-die link (R11, R302, R364, R372). -/
def State.barUp (s : State) : Bool :=
  s.flag pgPcie .BOOT_DONE && !s.pw.wedged && (s.pw.power == .run || s.pw.power == .floor || s.pw.power == .hold)

/-- The metering mirror page is read even after a lost die-to-die link, while the endpoint answers (R353). -/
def State.mirrorUp (s : State) : Bool :=
  s.flag pgPcie .BOOT_DONE && (s.pw.power == .run || s.pw.power == .floor || s.pw.power == .hold)

/-- A BAR access: carried out while BARs are answered, else an Unsupported Request (R364). -/
def State.onBar (s : State) (f : State → State) : State :=
  if s.barUp then f s else { s with out := { s.out with rdata := 0, ep := false, ur := true } }

/-! ### Staging (R32 to R38) -/

/-- A page's staging sets. -/
def State.stagingOf (s : State) (p : Page) : Staging := s.staging.get p Staging.reset

/-- The state with a page's staging sets changed. -/
def State.setStaging (s : State) (p : Page) (x : Staging) : State := { s with staging := s.staging.put p x }

/-- The open set with one value staged; the last write to a field wins (R32). -/
def stageIn (l : List (FieldKey × Nat)) (k : FieldKey) (v : Nat) : List (FieldKey × Nat) :=
  (l.filter fun e => decide (e.1 ≠ k)) ++ [(k, v)]

/-- A value staged on a page (R32). -/
def State.stage (s : State) (p : Page) (k : FieldKey) (v : Nat) : State :=
  let x := s.stagingOf p
  s.setStaging p { x with openSet := stageIn x.openSet k v }

/-- ORDER names each code of R315 exactly once. -/
def orderOk (o : Nat) : Bool :=
  let a := bits o 0 2; let b := bits o 2 2; let c := bits o 4 2
  a < 3 && b < 3 && c < 3 && a != b && b != c && a != c

/-- One staged value taking effect (R33): CLK_PLAN.POINT 3 is read as 0, CAP_W is clamped, a bad ORDER is discarded (R315, R318), the first and the last with record 0xF6. -/
def State.applyOne (s : State) (k : FieldKey) (v : Nat) : State :=
  let payload := leBytes 4 (pageBase k.page + (fieldInfo k.fld).off) ++ leBytes 4 v
  match k.fld with
  | .PLAN_POINT => if v = 3 then (s.put k.page k.fld 0 k.idx).common k.page 0xF6 payload else s.put k.page k.fld v k.idx
  | .CAP_W => s.put k.page k.fld (max 1000 (min v 4500)) k.idx
  | .CAP_ORDER => if orderOk v then s.put k.page k.fld v k.idx else s.common k.page 0xF6 payload
  | _ => s.put k.page k.fld v k.idx

/-- A whole set taking effect on its page: APPLIED and APPLY_FRAME (R31). -/
def State.applySet (s : State) (p : Page) (set : List (FieldKey × Nat)) : State :=
  let s := set.foldl (fun s e => s.applyOne e.1 e.2) s
  (s.put p .APPLIED 1).put p .APPLY_FRAME (s.pageFrame p)

/-- Waiting sets after a tick: each skips one tick less. -/
def ageSets (l : List (List (FieldKey × Nat) × Nat)) : List (List (FieldKey × Nat) × Nat) := l.map fun w => (w.1, w.2 - 1)

/-- A page's tick (R33, R34): the oldest waiting set takes effect unless it skips this tick. -/
def State.tickPage (s : State) (p : Page) : State :=
  let x := s.stagingOf p
  match x.waiting with
  | [] => s
  | (set, 0) :: t => (s.setStaging p { x with waiting := ageSets t, due := x.due - 1 }).applySet p set
  | l => s.setStaging p { x with waiting := ageSets l }

/-- The waiting sets of a page for which no tick comes taking effect in commit order (R33). -/
def State.flushPage (s : State) (p : Page) : State :=
  let x := s.stagingOf p
  (x.waiting.take x.due).foldl (fun s w => s.applySet p w.1) (s.setStaging p { x with waiting := x.waiting.drop x.due, due := 0 })

/-- Every waiting set of the pages that take a bed's tick falls due without it, as when the bed stops being a running bed (R33). -/
def State.dueSets (s : State) (b : Nat) : State :=
  { s with staging := s.staging.map fun e => if s.tickBed e.1 = some b then (e.1, { e.2 with due := e.2.waiting.length }) else e }

/-- CTL.RUN stops a page's block (R31). -/
def State.halt (s : State) (p : Page) : State :=
  { s with stops := s.stops.filter (· != p), halted := p :: s.halted.filter (· != p) }.put p .RUNNING 0

/-- Blocks whose CTL.RUN was written 0 stop at the end of the frame of the bed whose tick they take (R31). -/
def State.endStops (s : State) (b : Nat) : State :=
  (s.stops.filter fun p => s.tickBed p == some b).foldl (fun t p => t.halt p) s

/-- DEVICE_TIME of the tick that begins a frame of a bed with an origin (R135). -/
def State.tickTime (s : State) (b n : Nat) : Nat :=
  let us := (s.bed b).us * 1000
  s.get (pgBed b) .ORIGIN_TIME + n * us - s.get (pgBed b) .ORIGIN_FRAME * us

/-- The frame that the bed's next tick begins: the first one before any tick, then the next one (R134, R135). -/
def State.nextFrame (s : State) (b : Nat) : Nat :=
  if (s.bed b).started then s.get (pgBed b) .FRAME_NUMBER + 1 else (s.bed b).first

/-- A COMMIT arrives less than 1 µs before the page's tick (R33). -/
def State.inGuard (s : State) (p : Page) : Bool :=
  match s.tickBed p with
  | some b => (s.bed b).origin && decide (s.tickTime b (s.nextFrame b) < s.time.now + 1000)
  | none => false

/-- A write that LOCK discards (R37): LOCK_ERR and record 0xF3 with offset and value. -/
def State.lockedOut (s : State) (p : Page) (off value : Nat) : State :=
  (s.put p .LOCK_ERR 1).common p 0xF3 (leBytes 4 (pageBase p + off) ++ leBytes 4 value)

/-- A host write to a kind L register of a page: an Unsupported Request while BARs are not answered, discarded while the page is locked (R37). -/
def State.hostWriteL (s : State) (p : Page) (off value : Nat) (f : State → State) : State :=
  s.onBar fun s => if s.flag p .LOCKED then s.lockedOut p off value else f s

/-- COMMIT (R33, R34): the open set begins to wait, for no tick where the block is stopped or the tick's bed does not run, or the COMMIT is refused while two sets wait. -/
def State.doCommit (s : State) (p : Page) : State :=
  let x := s.stagingOf p
  if 2 ≤ x.waiting.length then (s.put p .STATE_ERR 1).common p 0xF4 (leBytes 1 x.waiting.length)
  else
    let w := x.waiting ++ [(x.openSet, b2n (s.inGuard p))]
    s.setStaging p ⟨[], w, if !s.running p || (s.tickBed p).isNone then w.length else x.due⟩

/-- ABORT discards the open set (R31). -/
def State.doAbort (s : State) (p : Page) : State := s.setStaging p { s.stagingOf p with openSet := [] }

/-- LOCKED set: the page is locked and its open set discarded (R38). -/
def State.doLock (s : State) (p : Page) : State := (s.doAbort p).put p .LOCKED 1

/-- LOCKED cleared by the security owner (R38). -/
def State.doUnlock (s : State) (p : Page) : State := s.put p .LOCKED 0

/-! ### Responses of command interfaces (R40, R41, R350) -/

/-- Status codes of R40. -/
def stOk : Nat := 0x00
@[inherit_doc stOk] def stBadArg : Nat := 0x01
@[inherit_doc stOk] def stBadLen : Nat := 0x02
@[inherit_doc stOk] def stNotSupported : Nat := 0x03
@[inherit_doc stOk] def stBusy : Nat := 0x04
@[inherit_doc stOk] def stConflict : Nat := 0x0B
@[inherit_doc stOk] def stNotAuth : Nat := 0x0C
@[inherit_doc stOk] def stTimeout : Nat := 0x0D
@[inherit_doc stOk] def stHoldupLow : Nat := 0x0E
@[inherit_doc stOk] def stIntegrity : Nat := 0x0F
@[inherit_doc stOk] def stSealed : Nat := 0x10

/-- A response without a record. -/
def State.reply (s : State) (st : Nat) (data : List Byte := []) : State :=
  { s with out := { s.out with status := st, data := data } }

/-- The requester byte of R350. -/
def requester : Path → Nat
  | .mailbox => 0
  | .mctp => 1
  | .fabric _ => 2
  | .secured _ => 1

/-- A refusal: the status with its record 0xE0 + status in the range of the page that refused (R350); OK and BUSY write none. -/
def State.refuse (s : State) (p : Page) (st code : Nat) (path : Path) (arg : Nat := 0) : State :=
  let s := s.reply st
  if st = stOk || st = stBusy then s
  else s.common p (0xE0 + st) (leBytes 2 code ++ leBytes 1 (requester path) ++ [0] ++ leBytes 4 arg)

/-- The first status in the order of R41 whose condition holds. -/
def firstStatus : List (Bool × Nat) → Option Nat
  | [] => none
  | (true, st) :: _ => some st
  | (false, _) :: t => firstStatus t

/-- A fresh number for a free value (log 7). -/
def State.draw (s : State) : Nat × State := (s.free, { s with free := s.free + 1 })

end Sys2Proof.Machine
end

