-- ==== Sys2Proof/Machine/Arm.lean ====
section
/-! DEFINITION. The armature file (R140 to R146, R181, R391): header, section table, core bindings, issue lists, instruction blocks and tensor descriptors, read from the file's bytes. -/

namespace Sys2Proof.Machine

/-- An armature file. -/
abbrev File := List Byte

/-! ### Header (R140) and section table (R141) -/

/-- FLAGS (R140): [0] INFERENCE, [1] TEST, [2] LOCKED. -/
def armFlags (f : File) : Nat := fieldAt f 6 2
/-- LOCKED of the header. -/
def armLocked (f : File) : Bool := bitAt (armFlags f) 2
/-- INFERENCE of the header (R15). -/
def armInference (f : File) : Bool := bitAt (armFlags f) 0
/-- TEST of the header (R83). -/
def armTest (f : File) : Bool := bitAt (armFlags f) 1
/-- ARM_ID. -/
def armId (f : File) : Nat := fieldAt f 8 4
/-- TOTAL_LEN. -/
def armLen (f : File) : Nat := fieldAt f 12 4
/-- FRAME_US. -/
def armFrameUs (f : File) : Nat := fieldAt f 16 2
/-- FRAMES_PER_STEP. -/
def armFps (f : File) : Nat := fieldAt f 18 2
/-- SLACK_PERMILLE. -/
def armSlack (f : File) : Nat := fieldAt f 20 2
/-- CLOCK_POINT. -/
def armPoint (f : File) : Nat := fieldAt f 22 1
/-- BED_MASK. -/
def armMask (f : File) : Nat := fieldAt f 23 1
/-- GROUP_SIZE. -/
def armGroup (f : File) : Nat := fieldAt f 24 4
/-- MEMBER_HASH. -/
def armHash (f : File) : Nat := fieldAt f 28 8
/-- SECTION_COUNT. -/
def armSections (f : File) : Nat := fieldAt f 36 4

/-- The beds of BED_MASK, ascending. -/
def armBeds (f : File) : List Nat := allBeds.filter fun b => bitAt (armMask f) b

/-- An entry of the section table (R141). -/
structure Sec where
  type : Nat
  count : Nat
  off : Nat
  len : Nat
  deriving DecidableEq, Repr

/-- The n-th entry of the section table. -/
def secAt (f : File) (n : Nat) : Sec :=
  let o := 64 + 16 * n
  ⟨fieldAt f o 1, fieldAt f (o + 4) 4, fieldAt f (o + 8) 4, fieldAt f (o + 12) 4⟩

/-- The whole section table. -/
def secTable (f : File) : List Sec := (List.range (armSections f)).map (secAt f)

/-- The section of a type; an absent one has no items and no bytes. -/
def secOf (f : File) (ty : Nat) : Sec :=
  ((secTable f).find? fun x => x.type == ty).getD ⟨ty, 0, 0, 0⟩

/-- The file has a section of a type. -/
def hasSec (f : File) (ty : Nat) : Bool := (secTable f).any fun x => x.type == ty

/-- A field of a section: byte offset within the section. -/
def inSec (f : File) (ty o n : Nat) : Nat := fieldAt f ((secOf f ty).off + o) n

/-! ### Core bindings and issue lists (R142, R143) -/

/-- The position of a bed among the beds of BED_MASK. -/
def bedRank (f : File) (b : Nat) : Nat := ((armBeds f).filter (· < b)).length

/-- The core binding of a bed core. -/
def binding (f : File) (b c : Nat) : Nat := inSec f 0x02 (8 * (384 * bedRank f b + c)) 8
/-- LIST_GROUP of a bed core. -/
def listGroup (f : File) (b c : Nat) : Nat := bits (binding f b c) 0 16
/-- DESC_BIAS of a bed core. -/
def descBias (f : File) (b c : Nat) : Nat := bits (binding f b c) 32 32

/-- The index record of (list group, frame in step, engine). -/
def indexRec (f : File) (g fr e : Nat) : Nat := inSec f 0x03 (8 * ((g * armFps f + fr) * 5 + e)) 8
/-- OFFSET of an index record. -/
def recOff (r : Nat) : Nat := bits r 0 32
/-- COUNT of an index record. -/
def recCount (r : Nat) : Nat := bits r 32 16
/-- CTX_STREAM of a frame's record for engine 0. -/
def ctxStream (f : File) (g fr : Nat) : Nat := bits (indexRec f g fr 0) 48 8
/-- VSPLIT of a frame's record for engine 0. -/
def vsplit (f : File) (g fr : Nat) : Nat := bits (indexRec f g fr 0) 56 2

/-- An issue entry (R143). -/
structure Issue where
  start : Nat
  ctx : Nat
  wait : Nat
  layer : Nat
  mask : Nat
  opId : Nat
  blockOff : Nat
  deriving DecidableEq, Repr

/-- The fields of 16 bytes as an issue entry. -/
def issueOf (x : Nat) : Issue :=
  ⟨bits x 0 18, bits x 18 3, bits x 32 16, bits x 48 10, bits x 58 3, bits x 64 32, bits x 96 32⟩

/-- Entry k of a list. -/
def issueAt (f : File) (g fr e k : Nat) : Issue := issueOf (inSec f 0x03 (recOff (indexRec f g fr e) + 16 * k) 16)

/-- The whole list of a core's engine in a frame of the step. -/
def issueList (f : File) (g fr e : Nat) : List Issue :=
  (List.range (recCount (indexRec f g fr e))).map (issueAt f g fr e)

/-! ### Instruction blocks (R144, R145) -/

/-- A matrix instruction block (R144). -/
structure MatBlk where
  aDesc : Nat
  bDesc : Nat
  outDesc : Nat
  slot : Nat
  accMode : Bool
  endK : Bool
  release : Bool
  normMode : Bool
  rmaskEn : Bool
  bmaskEn : Bool
  tileRow : Nat
  tileCol : Nat
  kFirst : Nat
  kCount : Nat
  rmaskAddr : Nat
  bmaskAddr : Nat
  exLen : Nat
  normvAddr : Nat
  exFirst : Nat
  exCount : Nat
  aLocal : Nat
  bLocal : Nat
  deriving DecidableEq, Repr

/-- Word w of the pool block at an offset in 32-byte units. -/
def poolWord (f : File) (blk w : Nat) : Nat := inSec f 0x04 (32 * blk + 4 * w) 4

/-- The matrix block at an offset in 32-byte units (R144). -/
def matBlk (f : File) (o : Nat) : MatBlk :=
  let w0 := poolWord f o 0; let w1 := poolWord f o 1; let w2 := poolWord f o 2; let w3 := poolWord f o 3
  let w4 := poolWord f o 4; let w5 := poolWord f o 5; let w6 := poolWord f o 6; let w7 := poolWord f o 7
  { aDesc := bits w0 0 16, bDesc := bits w0 16 16, outDesc := bits w1 0 16, slot := bits w1 16 4,
    accMode := bitAt w1 20, endK := bitAt w1 21, release := bitAt w1 22, normMode := bitAt w1 23,
    rmaskEn := bitAt w1 24, bmaskEn := bitAt w1 25, tileRow := bits w2 0 16, tileCol := bits w2 16 16,
    kFirst := bits w3 0 16, kCount := bits w3 16 16, rmaskAddr := bits w4 0 16, bmaskAddr := bits w4 16 16,
    exLen := bits w5 0 9, normvAddr := bits w5 16 16, exFirst := bits w6 0 16, exCount := bits w6 16 16,
    aLocal := bits w7 0 16, bLocal := bits w7 16 16 }

/-- COUNT and PROG_OFF of the vector block at an offset in 32-byte units (R145). -/
def vecBlk (f : File) (o : Nat) : Nat × Nat := (bits (poolWord f o 0) 0 16, poolWord f o 1)

/-- Instruction k of a vector program at an offset in 16-byte units: OP and its operands (R145). -/
def vecInstr (f : File) (prog k : Nat) : Nat × VArgs :=
  let x := inSec f 0x04 (16 * (prog + k)) 16
  (bits x 0 8, ⟨bits x 8 8, bits x 16 8, bits x 24 8, bits x 32 8, BitVec.ofNat 32 (bits x 64 32)⟩)

/-! ### Tensor descriptors (R146, R391) -/

/-- A tensor descriptor (R146). -/
structure Desc where
  base : Nat
  side : Nat
  cal : Nat
  seed : Nat
  rotSeed : Nat
  tensorId : Nat
  tscale : Nat
  rows : Nat
  cols : Nat
  format : Nat
  policy : Nat
  headroom : Nat
  escMult : Nat
  rotSize : Nat
  rotSide : Nat
  watchSlot : Nat
  watchEn : Bool
  twoLevel : Nat
  axisCol : Bool
  release : Bool
  layer : Nat
  hint : Nat
  rLog : Nat
  cLog : Nat
  deriving DecidableEq, Repr

/-- Format codes of R42. -/
def fmtF4 : Nat := 0
@[inherit_doc fmtF4] def fmtG4 : Nat := 1
@[inherit_doc fmtF4] def fmtE4M3 : Nat := 2
@[inherit_doc fmtF4] def fmtE5M2 : Nat := 3
@[inherit_doc fmtF4] def fmtINT4 : Nat := 4
@[inherit_doc fmtF4] def fmtINT8 : Nat := 5
@[inherit_doc fmtF4] def fmtBF16 : Nat := 6
@[inherit_doc fmtF4] def fmtFP32 : Nat := 7
@[inherit_doc fmtF4] def fmtW40 : Nat := 8
@[inherit_doc fmtF4] def fmtI16 : Nat := 9

/-- Descriptor k of section 0x01. -/
def descAt (f : File) (k : Nat) : Desc :=
  let o := (secOf f 0x01).off + 64 * k
  let q := fieldAt f (o + 56) 4
  let r := fieldAt f (o + 60) 4
  { base := fieldAt f o 8, side := fieldAt f (o + 8) 8, cal := fieldAt f (o + 16) 8, seed := fieldAt f (o + 24) 8,
    rotSeed := fieldAt f (o + 32) 8, tensorId := fieldAt f (o + 40) 4, tscale := fieldAt f (o + 44) 4,
    rows := fieldAt f (o + 48) 4, cols := fieldAt f (o + 52) 4, format := bits q 0 4, policy := bits q 4 2,
    headroom := bits q 6 2, escMult := bits q 8 8, rotSize := bits q 16 3, rotSide := bits q 19 1,
    watchSlot := bits q 20 9, watchEn := bitAt q 29, twoLevel := bits q 30 2, axisCol := bitAt r 0,
    release := bitAt r 1, layer := bits r 2 10, hint := bits r 12 2, rLog := bits r 14 4, cLog := bits r 18 4 }

namespace Desc

/-- R_t and C_t (R391). -/
def rt (d : Desc) : Nat := 2 ^ d.rLog
@[inherit_doc Desc.rt] def ct (d : Desc) : Nat := 2 ^ d.cLog
/-- Positions of a tile. -/
def positions (d : Desc) : Nat := d.rt * d.ct
/-- Tiles along a row of tiles, and rows of tiles (R391). -/
def tilesC (d : Desc) : Nat := ceilDiv d.cols d.ct
@[inherit_doc Desc.tilesC] def tilesR (d : Desc) : Nat := ceilDiv d.rows d.rt
/-- The number of tiles. -/
def tiles (d : Desc) : Nat := d.tilesR * d.tilesC

/-- TILE_BYTES (R391). -/
def tileBytes (d : Desc) : Nat :=
  let p := d.positions
  if d.format ≤ 1 then 64 * ceilDiv p 112
  else if d.format ≤ 3 then 1024 * ceilDiv (ceilDiv p 32) 31
  else if d.format = fmtINT4 then 64 * ceilDiv p 128
  else if d.format = fmtINT8 then 64 * ceilDiv p 64
  else if d.format = fmtBF16 then 64 * ceilDiv p 32
  else if d.format = fmtFP32 then 64 * ceilDiv p 16
  else if d.format = fmtW40 then 64 * ceilDiv (5 * p) 64
  else 16448

/-- The tensor has side lists: ESC_MULT has an effect only on the 4-bit scaled formats (R54, R83). -/
def hasSide (d : Desc) : Bool := d.escMult != 0 && decide (d.format ≤ 1)

/-- Tile index of position (r, c) within a tile (R391). -/
def tileIndex (d : Desc) (r c : Nat) : Nat := if d.axisCol then c * d.rt + r else r * d.ct + c

/-- Row and column within a tile of a tile index. -/
def unIndex (d : Desc) (k : Nat) : Nat × Nat := if d.axisCol then (k % d.rt, k / d.rt) else (k / d.ct, k % d.ct)

/-- A position of tile (i, j) that lies outside ROWS × COLS (R391). -/
def padding (d : Desc) (i j k : Nat) : Bool :=
  let p := d.unIndex k
  decide (d.rows ≤ i * d.rt + p.1) || decide (d.cols ≤ j * d.ct + p.2)

/-- ELEMENT of R75: row × COLS + column over the whole tensor (R391). -/
def element (d : Desc) (i j k : Nat) : Nat :=
  let p := d.unIndex k
  (i * d.rt + p.1) * d.cols + (j * d.ct + p.2)

/-- Elements per block (R44, R46, R58, R61, R66). -/
def blockSize (d : Desc) : Nat := if d.format ≤ 1 || d.format = fmtINT4 then 16 else 32

end Desc

/-! ### Transfer entries (R181) -/

/-- A memory transfer entry (R181). -/
structure Transfer where
  start : Nat
  ctx : Nat
  op : Nat
  cls : Nat
  hint : Nat
  ovr : Bool
  desc : Nat
  loc : Nat
  tile : Nat
  count : Nat
  uses : Nat
  deriving DecidableEq, Repr

/-- The index record of (list group, frame in step) of section 0x05 (R180). -/
def xferRec (f : File) (g fr : Nat) : Nat := inSec f 0x05 (8 * (g * armFps f + fr)) 8

/-- The fields of 16 bytes as a transfer entry. -/
def xferOf (x : Nat) : Transfer :=
  ⟨bits x 0 18, bits x 18 3, bits x 21 3, bits x 24 2, bits x 26 2, bitAt x 28, bits x 32 16, bits x 48 16,
   bits x 64 32, bits x 96 16, bits x 112 8⟩

/-- Entry k of a core's transfer list. -/
def xferAt (f : File) (g fr k : Nat) : Transfer := xferOf (inSec f 0x05 (bits (xferRec f g fr) 0 32 + 16 * k) 16)

/-- The transfer list of a list group in a frame. -/
def xferList (f : File) (g fr : Nat) : List Transfer :=
  (List.range (bits (xferRec f g fr) 32 16)).map (xferAt f g fr)

/-- Word w of the budget record of a bed in a frame of the step: classes 0 to 2, FAR, UPDATE_FRAME (R180). -/
def budgetWord (f : File) (b fr w : Nat) : Nat :=
  let idx := 8 * ((secOf f 0x05).count * armFps f)
  let tab := 64 * ceilDiv idx 64
  inSec f 0x05 (tab + 32 * (bedRank f b * armFps f + fr) + 4 * w) 4

/-! ### Buckets (R254) and the member list -/

/-- BUCKET_COUNT. -/
def bucketCount (f : File) : Nat := inSec f 0x07 0 4
/-- MEMBER_OFF, within the section. -/
def memberOff (f : File) : Nat := inSec f 0x07 4 4
/-- VOTE_ARITY. -/
def voteArity (f : File) : Nat := inSec f 0x07 8 2
/-- The member list: GROUP_SIZE device ids; 0x1FFF stands for this device in a group of one. -/
def memberList (f : File) : List Nat := (List.range (armGroup f)).map fun i => inSec f 0x07 (memberOff f + 2 * i) 2

/-- A bucket entry (R254). -/
structure Bucket where
  deadline : Nat
  level : Nat
  certFrames : Nat
  arity : Nat
  drop : Bool
  divSum : Bool
  noise : Bool
  headroom : Nat
  expInit : Int
  src : Nat
  grad : Nat
  tiles : Nat
  rootBase : Nat
  deriving DecidableEq, Repr

/-- Entry k of the bucket table. -/
def bucketAt (f : File) (k : Nat) : Bucket :=
  let x := fun (o n : Nat) => inSec f 0x07 (64 + 32 * k + o) n
  { deadline := x 0 2, level := x 2 1, certFrames := x 3 1, arity := x 4 2, drop := bitAt (x 6 1) 0,
    divSum := bitAt (x 6 1) 1, noise := bitAt (x 6 1) 2, headroom := bits (x 6 1) 3 3, expInit := sext 8 (x 7 1),
    src := x 8 2, grad := x 10 2, tiles := x 12 4, rootBase := x 16 4 }

/-- Every bucket with its index. -/
def buckets (f : File) : List (Nat × Bucket) := (List.range (bucketCount f)).map fun k => (k, bucketAt f k)

/-! ### The update section (R199, R200) -/

/-- GROUP_OFF. -/
def updGroupOff (f : File) : Nat := inSec f 0x08 4 4
/-- T0. -/
def updT0 (f : File) : Nat := inSec f 0x08 8 4
/-- CUT_INTERVAL. -/
def cutInterval (f : File) : Nat := inSec f 0x08 12 2
/-- RETAIN_STEPS; 1 without section 0x08. -/
def retainSteps (f : File) : Nat := max 1 (inSec f 0x08 14 2)
/-- COMMIT_FRAME. -/
def commitFrame (f : File) : Nat := inSec f 0x08 16 2
/-- EXACT of MODE. -/
def updExact (f : File) : Bool := bitAt (inSec f 0x08 18 1) 0
/-- PARTNER and WARD. -/
def cutPartner (f : File) : Nat := bits (inSec f 0x08 20 2) 0 13
@[inherit_doc cutPartner] def cutWard (f : File) : Nat := bits (inSec f 0x08 22 2) 0 13
/-- CUT_BASE, CUT_SLOT_BYTES and WARD_BASE. -/
def cutBase (f : File) : Nat := inSec f 0x08 24 8
@[inherit_doc cutBase] def cutSlotBytes (f : File) : Nat := inSec f 0x08 32 8
@[inherit_doc cutBase] def wardBase (f : File) : Nat := inSec f 0x08 40 8
/-- NORM_TABLE and RATIO_RING. -/
def normTable (f : File) : Nat := inSec f 0x08 48 8
@[inherit_doc normTable] def ratioRing (f : File) : Nat := inSec f 0x08 56 8

/-- A pass entry (R200). -/
structure Pass where
  frame : Nat
  unit : Nat
  mask : Nat
  layer : Nat
  bucket : Nat
  state : Nat
  records : Nat
  grad : Nat
  work : Nat
  first : Nat
  deriving DecidableEq, Repr

/-- Pass entry k. -/
def passAt (f : File) (k : Nat) : Pass :=
  let x := fun (o n : Nat) => inSec f 0x08 (updGroupOff f + 8224 + 32 * k + o) n
  ⟨x 0 2, bits (x 2 1) 0 5, bits (x 3 1) 0 3, bits (x 4 2) 0 10, x 6 2, x 8 8, x 16 4, x 20 2, x 22 2, x 24 4⟩

/-- Every pass entry with its index. -/
def passes (f : File) : List (Nat × Pass) := (List.range (inSec f 0x08 0 4)).map fun k => (k, passAt f k)

/-- SLOT_BYTES of a reduced gradient: 16,448 bytes per tile, rounded up to 4 KiB (R200, R257). -/
def slotBytes (d : Desc) : Nat := 4096 * ceilDiv (16448 * d.tiles) 4096

/-- The retention slot of a reduced gradient for a step (R200, R257). -/
def retainBase (f : File) (d : Desc) (step : Nat) : Nat := d.base + step % retainSteps f * slotBytes d

/-! ### The armatures of a partition -/

/-- The armature slot of a partition. -/
def State.armSlot (s : State) (p k : Nat) : Option ArmSlot := s.arms.find? (p, k)

/-- The slot that holds an ARM_ID in a partition (R150). -/
def State.slotOfId (s : State) (p id : Nat) : Option Nat :=
  (List.range 64).find? fun k => match s.armSlot p k with
    | some a => armId a.file == id
    | none => false

/-- The file in a slot of a partition; empty when the slot is free. -/
def State.fileOf (s : State) (p k : Nat) : File := match s.armSlot p k with
  | some a => a.file
  | none => []

/-- The anchor of the armature in a slot (R149). -/
def State.anchorOf (s : State) (p k : Nat) : Option Anchor :=
  (s.armSlot p k).map fun a => ⟨armId a.file, a.digest, a.file.take (64 + 16 * armSections a.file)⟩

/-- The active armature of a bed; empty when none. -/
def State.armOf (s : State) (b : Nat) : File := match (s.bed b).active with
  | some k => s.fileOf (s.partOf b) k
  | none => []

/-- The bed whose ticks a partition's votes and buckets follow: its lowest-numbered bed with an active or pending armature, else its lowest-numbered bed (log 36). -/
def State.leadBed (s : State) (q : Nat) : Nat :=
  ((s.partBeds q).find? fun b => (s.bed b).active.isSome || (s.bed b).pend.isSome).getD (s.partFirst q)

/-- The active armature of a partition: that of its lowest-numbered bed with one. -/
def State.partArm (s : State) (p : Nat) : File :=
  match (s.partBeds p).find? fun b => (s.bed b).active.isSome with
  | some b => s.armOf b
  | none => []

/-- The pending armature of a bed; empty when none. -/
def State.armPending (s : State) (b : Nat) : File := match (s.bed b).pend with
  | some a => s.fileOf (s.partOf b) a.slot
  | none => []

/-- Any bed of the partition has the slot active or pending (R147, R371). -/
def State.slotInUse (s : State) (p k : Nat) : Bool :=
  (s.partBeds p).any fun b =>
    decide ((s.bed b).active = some k) ||
      (match (s.bed b).pend with
       | some a => a.slot == k
       | none => false)

/-- A descriptor that a core's lists name: index plus DESC_BIAS (R142). -/
def State.coreDesc (s : State) (b c k : Nat) : Desc :=
  let f := s.armOf b
  descAt f (k + descBias f b c)

/-- The armature in a slot of a bed's partition: the one that issued a block, which may still run, or wait as a tile, when another has become active. -/
def State.armIn (s : State) (b : Nat) (slot : Option Nat) : File := match slot with
  | some k => s.fileOf (s.partOf b) k
  | none => []

/-- A core's descriptor in an armature. -/
def coreDescIn (f : File) (b c k : Nat) : Desc := descAt f (k + descBias f b c)

end Sys2Proof.Machine
end

