-- ==== Sys2Proof/Machine/Memory.lean ====
section
/-! DEFINITION. Device memory (R169 to R192) and the local stores (R113): bytes in canonical form, lines with POISON and REL, the bridge cache, the regulators' metering, address faults. -/

namespace Sys2Proof.Machine

/-! ### Cells: strictly rising addresses -/

/-- The byte listed at an address. -/
def cellFind : List Host.Cell → Nat → Option Byte
  | [], _ => none
  | (a', b) :: t, a => if a' = a then some b else cellFind t a

/-- The list with a byte at an address. -/
def cellPut : List Host.Cell → Nat → Byte → List Host.Cell
  | [], a, b => [(a, b)]
  | (a', b') :: t, a, b =>
    if a < a' then (a, b) :: (a', b') :: t
    else if a = a' then (a, b) :: t
    else (a', b') :: cellPut t a b

/-- The list without the addresses that satisfy a test. -/
def cellDrop (l : List Host.Cell) (p : Nat → Bool) : List Host.Cell := l.filter fun c => !p c.1

/-- Every address exceeds a bound, and the addresses rise strictly. -/
def cellsFrom : List Host.Cell → Nat → Bool
  | [], _ => true
  | (a, _) :: t, lo => decide (lo ≤ a) && cellsFrom t (a + 1)

/-! ### Addresses (R169 to R172) -/

/-- HOME_BED of a device address. -/
def homeOf (a : Nat) : Nat := bits a 40 3
/-- OFFSET of a device address. -/
def offsetOf (a : Nat) : Nat := a % 2 ^ 40
/-- The line of a device address. -/
def lineOf (a : Nat) : Nat := a / 64
/-- HOME_BED of a line. -/
def lineHome (l : Nat) : Nat := homeOf (64 * l)
/-- Bytes behind one bridge: 144 GiB (R169). -/
def bridgeBytes : Nat := 0x2400000000
/-- Bytes of the armature region (R150). -/
def regionBytes : Nat := 0x18000000

/-- The address breaks R169. -/
def badAddr (a : Nat) : Bool := decide (2 ^ 43 ≤ a) || decide (bridgeBytes ≤ offsetOf a)

/-- The boundary B between the interleaved and the stack-local area (R171). -/
def State.areaB (s : State) (home : Nat) : Nat := (144 - s.get (pgBridge home) .LOCAL_GIB) * 2 ^ 30

/-- Stack within the bridge and pseudo-channel of an address (R171). -/
def State.stackPc (s : State) (a : Nat) : Nat × Nat :=
  let o := offsetOf a
  let b := s.areaB (homeOf a)
  let g := s.get (pgBridge (homeOf a)) .LOCAL_GIB
  if o < b then
    let x := o / 256
    (x % 4, bits x 2 6 ^^^ bits x 8 6)
  else
    let part := g * 2 ^ 28
    let x := (o - b) % part / 256
    ((o - b) / part, bits x 0 6 ^^^ bits x 6 6)

/-- The byte in its pseudo-channel that an address stands for (R171). -/
def State.pcByte (s : State) (a : Nat) : Nat :=
  let o := offsetOf a
  let b := s.areaB (homeOf a)
  let g := s.get (pgBridge (homeOf a)) .LOCAL_GIB
  if o < b then o / 65536 * 256 + o % 256 else (144 - g) * 2 ^ 22 + (o - b) % (g * 2 ^ 28) / 256 / 64 * 256 + o % 256

/-- The device-wide stack (and memory controller, and update unit) of an address. -/
def State.stackOf (s : State) (a : Nat) : Nat := 4 * homeOf a + (s.stackPc a).1

/-- The line lies in a fenced pseudo-channel (R189). -/
def State.fenced (s : State) (a : Nat) : Bool := bitAt (s.get (pgMc (s.stackOf a)) .FENCED_MAP) (s.stackPc a).2

/-- The address lies in the armature region of a partition (R150). -/
def State.inRegion (s : State) (a : Nat) : Bool :=
  homeOf a == s.partFirst (s.partOf (homeOf a)) && decide (offsetOf a < regionBytes)

/-- An access by a requester of bed b is an address fault (R170, R185, R192; R150 for the host side; log 18 for a stopped memory controller). -/
def State.faulty (s : State) (bed : Nat) (host : Bool) (a : Nat) : Bool :=
  badAddr a || s.partOf (homeOf a) != s.partOf bed || !s.flag (pgBridge (homeOf a)) .RUN ||
    s.flag (pgBridge (homeOf a)) .SCRUB_BUSY || s.halts (pgMc (s.stackOf a)) || (host && s.inRegion a)

/-- An address fault: counted, captured and recorded at the bridge that bits [42:40] name (R170, log 20). -/
def State.countFault (s : State) (a : Nat) : State :=
  let p := pgBridge (homeOf a)
  ((s.bump p .ADDR_FAULTS).put p .FAULT_ADDR a).raise p 0

/-! ### Bytes -/

/-- What an unlisted byte reads as: 0 behind a bridge that a scrub has cleared (R185), otherwise no value of the model's own. -/
def MemSt.unlisted (m : MemSt) (a : Nat) : Option Byte :=
  if m.zeroed.contains (homeOf a) && (Tab.find? m.undef (lineOf a)).isNone then some 0 else none

/-- The byte that memory holds, if the manual says which. -/
def MemSt.raw (m : MemSt) (a : Nat) : Option Byte :=
  match cellFind m.cells a with
  | some b => some b
  | none => m.unlisted a

/-- The generation of an address's undefined content. -/
def MemSt.genOf (m : MemSt) (a : Nat) : Nat :=
  match Tab.find? m.undef (lineOf a) with
  | some g => g
  | none => m.bridgeGen.get (homeOf a) 0

/-- The byte at an address; undefined content is a free value (R178, R192, R382). -/
def MemSt.byte (m : MemSt) (a : Nat) : Byte := (m.raw a).getD (Config.freeByte (m.genOf a) a)

/-- Bytes from an address. -/
def MemSt.bytes (m : MemSt) (a n : Nat) : List Byte := (List.range n).map fun i => m.byte (a + i)

/-- A byte stored: a byte equal to what the address reads as unlisted leaves no entry. -/
def MemSt.setByte (m : MemSt) (a : Nat) (b : Byte) : MemSt :=
  if m.unlisted a = some b then { m with cells := cellDrop m.cells (· == a) }
  else { m with cells := cellPut m.cells a b }

/-- Bytes stored from an address. -/
def MemSt.setBytes : MemSt → Nat → List Byte → MemSt
  | m, _, [] => m
  | m, a, b :: t => (m.setByte a b).setBytes (a + 1) t

/-- A list of numbers with one added or removed. -/
def setMark (l : List Nat) (x : Nat) (on : Bool) : List Nat :=
  if on then (if l.contains x then l else x :: l) else l.filter (· != x)

/-- A whole line written with its POISON and REL tags (R186, R275). -/
def MemSt.storeLine (m : MemSt) (l : Nat) (data : List Byte) (poison rel : Bool) : MemSt :=
  let m := { m with cells := cellDrop m.cells (fun a => lineOf a == l), undef := m.undef.del l }
  let m := m.setBytes (64 * l) (padTo 64 data)
  { m with poison := setMark m.poison l poison, rel := setMark m.rel l rel }

/-- A part of a line written by read-modify-write: a poisoned line stays poisoned (R186), the REL tag is cleared or set (R275). -/
def MemSt.patchLine (m : MemSt) (l first : Nat) (data : List Byte) (poison rel : Bool) : MemSt :=
  let m := m.setBytes (64 * l + first) (data.take (64 - first))
  { m with poison := setMark m.poison l (poison || m.poison.contains l), rel := setMark m.rel l rel }

/-- A line whose content becomes undefined (R178). -/
def MemSt.loseLine (m : MemSt) (l : Nat) : MemSt :=
  { m with cells := cellDrop m.cells (fun a => lineOf a == l), undef := m.undef.put l (m.gen + 1), gen := m.gen + 1 }

/-- A bridge's memory scrubbed to zeros, poison clear, every cache line freed without write-back (R185). -/
def MemSt.scrub (m : MemSt) (b : Nat) : MemSt :=
  { m with
    cells := cellDrop m.cells (fun a => homeOf a == b),
    undef := m.undef.delIf (fun l => lineHome l == b),
    zeroed := setMark m.zeroed b true,
    poison := m.poison.filter (fun l => lineHome l != b),
    rel := m.rel.filter (fun l => lineHome l != b),
    cache := m.cache.delIf (fun l => lineHome l == b) }

/-- A bridge's memory of undefined content (R192, R382). -/
def MemSt.forget (m : MemSt) (b : Nat) : MemSt :=
  { m with
    cells := cellDrop m.cells (fun a => homeOf a == b),
    undef := m.undef.delIf (fun l => lineHome l == b),
    zeroed := setMark m.zeroed b false,
    gen := m.gen + 1, bridgeGen := m.bridgeGen.put b (m.gen + 1),
    poison := m.poison.filter (fun l => lineHome l != b),
    rel := m.rel.filter (fun l => lineHome l != b),
    cache := m.cache.delIf (fun l => lineHome l == b) }

/-- The canonical form: addresses strictly rising, no entry equal to what its address reads as unlisted. -/
def MemSt.wf (m : MemSt) : Bool := cellsFrom m.cells 0 && m.cells.all fun c => m.unlisted c.1 != some c.2

/-- The bytes of a line in memory. -/
def MemSt.line (m : MemSt) (l : Nat) : List Byte := m.bytes (64 * l) 64

/-- The state with memory changed. -/
def State.setMem (s : State) (m : MemSt) : State := { s with mem := m }

/-! ### Regulators (R182) -/

/-- The budget of a class in force, in bytes: scaled by the memory throttle steps (R315), 0 for classes 1 to 3 in a flow fault (R312). -/
def State.budget (s : State) (b cls : Nat) : Nat :=
  let base := if cls = 3 then s.get (pgReg b) .HOST_BUDGET else s.get (pgReg b) .BUDGET_C cls
  let k := s.get pgPower .MEMORY_STEPS
  if cls = 0 then 1024 * base
  else if s.mem.budgetZero then 0 else 1024 * base * 3 ^ k / 4 ^ k

/-- n bytes added to a counter in KiB, which raises its EVT bit whenever it grows: served overdraw, or what a tick finds waiting. -/
def State.overdraw (s : State) (b key : Nat) (fld : Fld) (idx n bit : Nat) : State :=
  let r := s.mem.overRest.get (b, key) 0 + n
  let s := s.setMem { s.mem with overRest := s.mem.overRest.put (b, key) (r % 1024) }
  if 1024 ≤ r then (s.bump (pgReg b) fld (r / 1024) idx).raise (pgReg b) bit else s

/-- 64 bytes moved to or from the stacks of bridge b for a class and a requesting bed, in the budgets or as served overdraw (R182). -/
def State.moved (s : State) (b cls bed : Nat) : State :=
  let u := s.mem.used.get (b, cls) 0 + 64
  let f := s.mem.farUsed.get bed 0 + 64
  let ov := min 64 (u - s.budget b cls)
  let fr := if bed = b then 0 else min 64 (f - 1024 * s.get (pgReg bed) .FAR_BUDGET)
  let s := s.setMem { s.mem with used := s.mem.used.put (b, cls) u, farUsed := if bed = b then s.mem.farUsed else s.mem.farUsed.put bed f }
  let s := if 0 < max ov fr then s.overdraw b cls .OVERDRAW_C cls (max ov fr) 0 else s
  if 0 < fr then s.overdraw bed 4 .FAR_OVERDRAW 0 fr 0 else s

/-- A request is overdraw when it goes beyond its class budget or the FAR budget of its bed; class 0 is served whatever its budget (R182). -/
def State.isOverdraw (s : State) (b cls bed : Nat) : Bool :=
  cls != 0 && (decide (s.budget b cls < s.mem.used.get (b, cls) 0 + 64) ||
    bed != b && decide (1024 * s.get (pgReg bed) .FAR_BUDGET < s.mem.farUsed.get bed 0 + 64))

/-- Overdraw of a lower class waits at a bridge in the frame: no overdraw of this class is served before it (R182). -/
def State.mustWait (s : State) (b cls : Nat) : Bool := s.mem.waiting.any fun e => e.1.1 == b && decide (e.1.2 / 8 < cls)

/-- Overdraw of a higher class was served at a bridge in the frame: class 3 is clipped first, so this class is served too (R23, R182). -/
def State.mustServe (s : State) (b cls : Nat) : Bool := s.mem.served.any fun e => e.1 == b && decide (cls < e.2)

/-- Overdraw that an idle cycle of the frame serves. -/
def State.serveOver (s : State) (b cls bed : Nat) : State :=
  let s := s.moved b cls bed
  s.setMem { s.mem with served := if s.mem.served.contains (b, cls) then s.mem.served else (b, cls) :: s.mem.served }

/-- Overdraw that waits for the tick. -/
def State.delayOver (s : State) (b cls bed : Nat) : State :=
  s.setMem { s.mem with waiting := s.mem.waiting.put (b, 8 * cls + bed) (s.mem.waiting.get (b, 8 * cls + bed) 0 + 1) }

/-- A request of 64 bytes at the regulator of bridge b (R182): moved, or overdraw, none of which is served in a flow fault (R312). Whether overdraw finds an idle cycle in the frame is a free choice, but class 1 comes before class 2 before class 3 (R23). Stopped regulators neither count nor clip (R31, log 18). -/
def State.meter (s : State) (b cls bed : Nat) : State :=
  if s.halts (pgReg b) then s
  else if !s.isOverdraw b cls bed then s.moved b cls bed
  else if s.mem.budgetZero || s.mustWait b cls then s.delayOver b cls bed
  else if s.mustServe b cls then s.serveOver b cls bed
  else
    let t := { s with free := s.free + 1 }
    if Config.overdrawWaits s.free then t.delayOver b cls bed else t.serveOver b cls bed

/-- n requests of one kind at a regulator. -/
def State.meterN (s : State) (b cls bed : Nat) : Nat → State
  | 0 => s
  | n + 1 => (s.meter b cls bed).meterN b cls bed n

/-- REGULATOR_CLIP (R182): the size of the overdraw that a tick finds waiting goes to CLIP_Cn, and the requests compete under the budgets of the new frame, the lower classes first. -/
def State.clipWaiting (s : State) (b : Nat) : State :=
  let ws := sortBy (fun (x y : (Nat × Nat) × Nat) => decide (x.1.2 / 8 ≤ y.1.2 / 8)) (s.mem.waiting.filter fun e => e.1.1 == b)
  let s := s.setMem { s.mem with waiting := s.mem.waiting.delIf (fun k => k.1 == b), served := s.mem.served.filter fun e => e.1 != b }
  ws.foldl (fun s e => (s.overdraw b (8 + e.1.2 / 8) .CLIP_C (e.1.2 / 8) (64 * e.2) 1).meterN b (e.1.2 / 8) (e.1.2 % 8) e.2) s

/-! ### Ciphertext (R183) -/

/-- The XTS tweak of a line: its data-unit sequence number DA[42:6] (R183). -/
def lineTweak (l : Nat) : Nat := l % 2 ^ 37

/-- The memory key of a bridge's partition and session (R183, R292). -/
def State.memKey (s : State) (b : Nat) : List Byte := match (s.session (s.partOf b)).keys with
  | some k => k.memKey
  | none => []

/-- The 64 bytes that the stacks store for a line (R183): MemSt holds the plaintext, which is encrypted while ENC_EN is 1 (log 58). -/
def State.storedLine (s : State) (l : Nat) : List Byte :=
  let d := s.mem.line l
  if s.flag (pgBridge (lineHome l)) .ENC_EN then Config.aesXts (s.memKey (lineHome l)) (lineTweak l) d else d

/-! ### Lines from memory (R186, R189) -/

/-- A corrected error at a stack's controller (R186). -/
def State.corrected (s : State) (mc : Nat) : State := ((s.bump (pgMc mc) .ERR_CORR).raise (pgMc mc) 0)

/-- An uncorrectable line: rewritten with POISON set, counted and captured (R186). -/
def State.uncorrectable (s : State) (a : Nat) : State :=
  let mc := s.stackOf a
  let s := s.setMem { s.mem with poison := setMark s.mem.poison (lineOf a) true }
  ((s.bump (pgMc mc) .ERR_UNCORR).put (pgMc mc) .UE_ADDR (64 * lineOf a)).raise (pgMc mc) 1

/-- A line read from the stacks: bytes and poison, with its check code's verdict. -/
def State.stackRead (s : State) (a : Nat) (err : LineErr) : State × List Byte × Bool :=
  let l := lineOf a
  if s.fenced a then (s, s.mem.line l, true)
  else match err with
    | .corrected => (s.corrected (s.stackOf a), s.mem.line l, s.mem.poison.contains l)
    | .uncorrectable => (s.uncorrectable a, s.mem.line l, true)
    | .none => (s, s.mem.line l, s.mem.poison.contains l)
    | .sram => (s, s.mem.line l, s.mem.poison.contains l)

/-- A whole line written to the stacks; a fenced channel discards it (R189). -/
def State.stackWrite (s : State) (a : Nat) (data : List Byte) (poison rel : Bool) : State :=
  if s.fenced a then s else s.setMem (s.mem.storeLine (lineOf a) data poison rel)

/-- A partial line written to the stacks. -/
def State.stackPatch (s : State) (a first : Nat) (data : List Byte) (poison rel : Bool) : State :=
  if s.fenced a then s else s.setMem (s.mem.patchLine (lineOf a) first data poison rel)

/-! ### The bridge cache (R173 to R178) -/

/-- The set of a line: its number within the bridge, modulo 65,536 sets (log 19). -/
def cacheSet (l : Nat) : Nat := l % 65536

/-- PINNED and DIRTY of a bridge (R192). -/
def State.pinnedLines (s : State) (b : Nat) : Nat := (s.mem.cache.filter fun e => lineHome e.1 == b).length
@[inherit_doc State.pinnedLines] def State.dirtyLines (s : State) (b : Nat) : Nat :=
  (s.mem.cache.filter fun e => lineHome e.1 == b && e.2.dirty).length

/-- All 16 ways of the line's set are pinned (R175). -/
def State.setFull (s : State) (l : Nat) : Bool :=
  decide (16 ≤ (s.mem.cache.filter fun e => lineHome e.1 == lineHome l && cacheSet e.1 == cacheSet l).length)

/-- The state with a line's cache entry replaced. -/
def State.setCache (s : State) (l : Nat) (c : CacheLine) : State :=
  s.setMem { s.mem with cache := s.mem.cache.put l c }

/-- The state with a line's cache entry removed. -/
def State.freeCache (s : State) (l : Nat) : State := s.setMem { s.mem with cache := s.mem.cache.del l }

/-- A line freed at its last counted use: content undefined (R178), counted in DAL_FREED. -/
def State.dalFree (s : State) (l : Nat) : State :=
  ((s.freeCache l).setMem ((s.freeCache l).mem.loseLine l)).bump (pgCache (lineHome l)) .DAL_FREED

/-- A dirty line written back and freed (RELEASE, R174). -/
def State.releaseLine (s : State) (l : Nat) : State :=
  match Tab.find? s.mem.cache l with
  | none => s
  | some c =>
    let s := s.freeCache l
    if c.dirty then (s.stackWrite (64 * l) c.data c.poison c.rel) else s

/-- A line freed at a step boundary (R177): a dirty one is written back, which its last writer's class is metered for (log 76). -/
def State.staleLine (s : State) (l : Nat) (c : CacheLine) : State :=
  if c.dirty then (s.releaseLine l).meter (lineHome l) c.cls c.bed else s.releaseLine l

/-- A line freed without write-back (DROP, R174, R178). -/
def State.dropLine (s : State) (l : Nat) : State :=
  match Tab.find? s.mem.cache l with
  | none => s
  | some _ => let s := s.freeCache l; s.setMem (s.mem.loseLine l)

/-- An allocation that was refused: the access proceeds as STREAM (R175). -/
def State.refused (s : State) (b : Nat) : State := (s.bump (pgCache b) .ALLOC_REFUSED).raise (pgCache b) 0

/-- A read of a pinned line uses one count; at 0 the line is freed (R174). -/
def State.useLine (s : State) (l : Nat) (c : CacheLine) : State :=
  match c.dal with
  | none => s
  | some n => if n ≤ 1 then s.dalFree l else s.setCache l { c with dal := some (n - 1) }

/-- A read of a pinned line (R174, R177): the SRAM's error, then the line's use. -/
def State.serveHit (s : State) (r : MemReq) (err : LineErr) (c : CacheLine) : State × List Byte × Bool :=
  if err = .sram then
    let c := { c with poison := true }
    let s := ((s.raise (pgCache (homeOf r.addr)) 2).uncorrectable r.addr).setCache (lineOf r.addr) c
    (if r.cls = 3 then s else s.useLine (lineOf r.addr) c, c.data, c.poison)
  else (if r.cls = 3 then s else s.useLine (lineOf r.addr) c, c.data, c.poison)

/-- A line read from the stacks, pinned where the hint asks for it (R173 to R175) and the cache runs (R31, log 18). -/
def State.serveMiss (s : State) (r : MemReq) (d : List Byte) (p : Bool) : State :=
  let l := lineOf r.addr
  if r.cls = 3 || (r.hint != 1 && r.hint != 2) || s.halts (pgCache (homeOf r.addr)) then s
  else if s.setFull l then s.refused (homeOf r.addr)
  else if r.hint = 1 then s.setCache l ⟨none, d, false, p, s.mem.rel.contains l, false, r.cls, r.bed.val⟩
  else if r.uses ≤ 1 then s.dalFree l
  else s.setCache l ⟨some (r.uses - 1), d, false, p, s.mem.rel.contains l, false, r.cls, r.bed.val⟩

/-- A line that a bridge serves to a reader (R174 to R178, R186): data and poison. -/
def State.serveRead (s : State) (r : MemReq) (err : LineErr) : State × List Byte × Bool :=
  match Tab.find? s.mem.cache (lineOf r.addr) with
  | some c => (s.bump (pgCache (homeOf r.addr)) .HITS).serveHit r err c
  | none =>
    let x := ((s.bump (pgCache (homeOf r.addr)) .MISSES).meter (homeOf r.addr) r.cls r.bed.val).stackRead r.addr err
    (x.1.serveMiss r x.2.1 x.2.2, x.2.1, x.2.2)

/-- The DAL count after a write of a pinned line (R174). -/
def dalAfterWrite (hint uses : Nat) (old : Option Nat) : Option Nat :=
  if hint = 1 then none else if hint = 2 then some uses else old

/-- A line's bytes with some replaced. -/
def spliceLine (d : List Byte) (first : Nat) (x : List Byte) : List Byte :=
  (d.take first ++ x ++ d.drop (first + x.length)).take 64

/-- A line write that a bridge serves (R174, R175, R186); a whole line that allocates reaches no memory (R182, R192). rel tells whether the write carries the release mark (R275). -/
def State.serveWrite (s : State) (r : MemReq) (first : Nat) (data : List Byte) (poison rel : Bool) : State :=
  let l := lineOf r.addr
  let b := homeOf r.addr
  let full := decide (first = 0 ∧ 64 ≤ data.length)
  let hint := if r.cls = 3 then 0 else r.hint
  match Tab.find? s.mem.cache l with
  | some c =>
    (s.bump (pgCache b) .HITS).setCache l
      { dal := dalAfterWrite hint r.uses c.dal, data := spliceLine c.data first data, dirty := true,
        poison := poison || (c.poison && !full), rel := rel, written := true, cls := r.cls, bed := r.bed.val }
  | none =>
    let reach := fun (s : State) => (s.bump (pgCache b) .MISSES).meter b r.cls r.bed.val
    let stream := fun (s : State) =>
      if full then s.stackWrite r.addr data poison rel else s.stackPatch r.addr first data poison rel
    if (hint != 1 && hint != 2) || s.halts (pgCache b) then stream (reach s)
    else if s.setFull l then stream (reach (s.refused b))
    else
      let old := if full then (s, data, false) else (reach s).stackRead r.addr .none
      old.1.setCache l
        { dal := if hint = 2 then some r.uses else none, data := spliceLine (padTo 64 old.2.1) first data, dirty := true,
          poison := poison || old.2.2, rel := rel, written := true, cls := r.cls, bed := r.bed.val }

/-! ### Checked accesses (R170, R276, R294) -/

/-- The release-map ranges of an armature (R279): base and length. -/
def releaseRanges (f : File) : List (Nat × Nat) :=
  (List.range (inSec f 0x0B 0 4)).map fun i => (inSec f 0x0B (64 + 16 * i) 8, inSec f 0x0B (64 + 16 * i + 8) 4)

/-- The line lies in a range of the partition's release map (R276). -/
def State.inReleaseMap (s : State) (a : Nat) : Bool :=
  (releaseRanges (s.partArm (s.partOf (homeOf a)))).any fun r => decide (r.1 ≤ a ∧ a < r.1 + r.2)

/-- The line's REL tag (R275). -/
def State.relTag (s : State) (l : Nat) : Bool :=
  match Tab.find? s.mem.cache l with
  | some c => c.rel
  | none => s.mem.rel.contains l

/-- A host-side read that the egress guard denies (R276). -/
def State.guardDenies (s : State) (a : Nat) : Bool :=
  s.flag (pgBridge (homeOf a)) .GUARD_ACTIVE && !(s.relTag (lineOf a) && s.inReleaseMap a)

/-- A denied line: counted, captured, and recorded when it is the first of its request and at most 64 requests this second were recorded (R276). -/
def State.denyRead (s : State) (a : Nat) (first : Bool) : State :=
  let p := pgBridge (homeOf a)
  let s := (s.bump p .EGRESS_DENY).put p .DENY_ADDR (64 * lineOf a)
  let q := s.partOf (homeOf a)
  let c := s.mem.denyCount.get q (0, 0)
  if first && c.1 < 64 then
    (s.setMem { s.mem with denyCount := s.mem.denyCount.put q (c.1 + 1, c.2) }).raise p 3
  else s.evt p 3

/-- A host write into a partition with a session open: discarded, counted, recorded (R294, R276). kind: 0 BAR2, 1 unsealed DMA. -/
def State.denyWrite (s : State) (a kind : Nat) : State :=
  let q := s.partOf (homeOf a)
  let s := s.bump pgSec .INGRESS_DENY 1 q
  let c := s.mem.denyCount.get q (0, 0)
  if c.2 < 64 then
    (s.setMem { s.mem with denyCount := s.mem.denyCount.put q (c.1, c.2 + 1) }).record 0x0740 (pgBridge (homeOf a))
      (leBytes 8 a ++ leBytes 1 kind)
  else s

/-- A read of one line with every check: data and poison. first tells whether this is the first line of a host request. -/
def State.readLine (s : State) (r : MemReq) (err : LineErr := .none) (first : Bool := true) :
    State × List Byte × Bool :=
  if s.faulty r.bed.val r.host r.addr then (s.countFault r.addr, List.replicate 64 0, true)
  else if r.host && s.guardDenies r.addr then (s.denyRead r.addr first, List.replicate 64 0, false)
  else s.serveRead r err

/-- A write of one line with every address check. -/
def State.writeLine (s : State) (r : MemReq) (first : Nat) (data : List Byte) (poison rel : Bool := false) : State :=
  if s.faulty r.bed.val r.host r.addr then s.countFault r.addr
  else s.serveWrite r first data poison rel

/-- The lines that a span of n bytes from address a touches. -/
def spanLines (a n : Nat) : List Nat :=
  if n = 0 then [] else (List.range ((a + n - 1) / 64 - a / 64 + 1)).map fun i => a / 64 + i

/-- A span read by an engine of the device: its bytes and the lines that arrive poisoned. -/
def State.readSpan (s : State) (r : MemReq) (n : Nat) : State × List Byte × List Nat :=
  let x := (spanLines r.addr n).foldl (fun (acc : State × List Byte × List Nat) l =>
    let y := acc.1.readLine { r with addr := 64 * l }
    (y.1, acc.2.1 ++ y.2.1, if y.2.2 then acc.2.2 ++ [l] else acc.2.2)) (s, [], [])
  (x.1, (x.2.1.drop (r.addr % 64)).take n, x.2.2)

/-- A span written by an engine of the device, line by line. -/
def State.writeSpan (s : State) (r : MemReq) (data : List Byte) (poison rel : Bool := false) : State :=
  (spanLines r.addr data.length).foldl (fun s l =>
    let lo := max (64 * l) r.addr
    let hi := min (64 * l + 64) (r.addr + data.length)
    s.writeLine { r with addr := 64 * l } (lo - 64 * l) ((data.drop (lo - r.addr)).take (hi - lo)) poison rel) s

/-- A request of an engine of a bed: its class, hint and uses. -/
def engineReq (bed : Bed) (cls hint uses addr : Nat) : MemReq := ⟨bed, cls, hint, uses, addr, false⟩

/-- A bed number as an operand; numbers beyond 7 wrap. -/
def bedOf (b : Nat) : Bed := Fin.ofNat 8 b

/-! ### The host as a requester (R357, R358) -/

/-- A host-side access: class 3, STREAM (R176), charged to HOST_BUDGET of the bridge that it reaches and to no bed's FAR budget (R358). -/
def hostReq (a : Nat) : MemReq := ⟨bedOf (homeOf a), 3, 0, 0, a, true⟩

/-- A host-side access fails R170: also when the register names a partition that does not exist. -/
def State.hostFaulty (s : State) (part a : Nat) : Bool := decide (s.partCount ≤ part) || s.faulty (s.partFirst part) true a

/-- A host-side read of one line. -/
def State.hostRead (s : State) (part a : Nat) (err : LineErr) (first : Bool) : State × List Byte × Bool :=
  if s.hostFaulty part a then (s.countFault a, List.replicate 64 0, true) else s.readLine (hostReq a) err first

/-- A host-side write within one line; sealed tells whether it is a sealed DMA write, kind names the other two for the record (R294). -/
def State.hostWrite (s : State) (part a first : Nat) (data : List Byte) (poison sealed : Bool) (kind : Nat) : State :=
  if s.hostFaulty part a then s.countFault a
  else if !sealed && s.sessionOpen part then s.denyWrite a kind
  else s.writeLine (hostReq a) first data poison

/-- Memory serves no host access: every budget of classes 1 to 3 is held at 0 (R312). -/
def State.hostWaits (s : State) : Bool := s.mem.budgetZero

/-- A host access that waits for the flow fault to end (R312). -/
def State.hold (s : State) (w : HostWait) : State := { s with host := { s.host with waits := s.host.waits ++ [w] } }

/-- A BAR2 access served: a read answered with the bytes from its address to the end of the line, EP set and data 0 where it is poisoned or faults, a write within its line (R357). -/
def State.serveHost (s : State) (w : HostWait) : State := match w.write with
  | none =>
    let r := s.hostRead w.part w.addr w.err true
    r.1.answer (if r.2.2 then 0 else leNat (r.2.1.drop (w.addr % 64))) r.2.2
  | some x => s.hostWrite w.part w.addr (w.addr % 64) (x.1.take (64 - w.addr % 64)) x.2 false 0

/-- The waiting accesses served in order. -/
def State.serveWaits (s : State) : State :=
  s.host.waits.foldl State.serveHost { s with host := { s.host with waits := [] } }

/-! ### The armature region (R150, R176) -/

/-- A line as a read by the control processor finds it; the command that reads it uses and meters its lines (readSpan). -/
def State.peekLine (s : State) (l : Nat) : List Byte := match Tab.find? s.mem.cache l with
  | some c => c.data
  | none => s.mem.line l

/-- n bytes from a device address. -/
def State.peek (s : State) (a n : Nat) : List Byte := (((spanLines a n).flatMap s.peekLine).drop (a % 64)).take n

/-- A line reads poisoned: its tag, or a fenced channel (R186, R189). -/
def State.linePoisoned (s : State) (l : Nat) : Bool := match Tab.find? s.mem.cache l with
  | some c => c.poison
  | none => s.mem.poison.contains l || s.fenced (64 * l)

/-- The first device address of a partition's armature slot (R150). -/
def State.slotAddr (s : State) (p k : Nat) : Nat := s.partFirst p * 2 ^ 40 + k * 0x600000

/-- The lists of an armature copied from its slot of the region into a bed's list buffers: class-0 reads of that bed (R149, R174, R179; log 76). -/
def State.copyLists (s : State) (b slot : Nat) : State :=
  let q := s.partOf b
  (s.readSpan (engineReq (bedOf b) 0 0 0 (s.slotAddr q slot)) (s.fileOf q slot).length).1

/-- A slot's file as the region gives it back: a poisoned line of it reads as zeros (R149, R186, R189; log 93). -/
def State.fileRead (s : State) (p k : Nat) : File :=
  let n := (s.fileOf p k).length
  ((spanLines (s.slotAddr p k) n).flatMap fun l => if s.linePoisoned l then List.replicate 64 0 else s.peekLine l).take n

/-! ### Local stores (R113) -/

/-- Bytes of one core's local store: 160 KiB (R113). -/
def localBytes : Nat := 163840

/-- The key of a local byte: cores lie 2^18 apart. -/
def localKey (c a : Nat) : Nat := c * 2 ^ 18 + a

/-- A byte of a core's local store; a byte that nothing has written is a free value (log 6), and so is one beyond the 160 KiB, for which R113 gives none (DESIGN CHOICE, log 22). -/
def State.localByte (s : State) (c a : Nat) : Byte :=
  if localBytes ≤ a then Config.freeLocal c a else (cellFind s.cores.lstore (localKey c a)).getD (Config.freeLocal c a)

/-- Bytes of a core's local store. -/
def State.localBytesAt (s : State) (c a n : Nat) : List Byte := (List.range n).map fun i => s.localByte c (a + i)

/-- A number of n bytes in a core's local store. -/
def State.localNum (s : State) (c a n : Nat) : Nat := leNat (s.localBytesAt c a n)

/-- Cells with bytes stored from a key. -/
def cellsPut : List Host.Cell → Nat → List Byte → List Host.Cell
  | l, _, [] => l
  | l, a, b :: t => cellsPut (cellPut l a b) (a + 1) t

/-- Bytes stored in a core's local store; bytes beyond 160 KiB are dropped. -/
def State.localPut (s : State) (c a : Nat) (bs : List Byte) : State :=
  { s with cores := { s.cores with lstore := cellsPut s.cores.lstore (localKey c a) (bs.take (localBytes - a)) } }

end Sys2Proof.Machine
end

