-- ==== Sys2Proof/Machine/Cores.lean ====
section
/-! DEFINITION. What every core family shares: slots and ABANDONED (R114, R124), skipped and stopped entries (R155, R156) and context resets (R124). -/

namespace Sys2Proof.Machine

/-! ### Core state -/

/-- The state with the cores changed. -/
def State.setCores (s : State) (c : CoreSt) : State := { s with cores := c }

/-- An accumulator slot's bookkeeping. -/
def State.slot (s : State) (c k : Nat) : SlotMeta := s.cores.slots.get (c, k) SlotMeta.reset

/-- The state with a slot's bookkeeping changed. -/
def State.setSlot (s : State) (c k : Nat) (m : SlotMeta) : State :=
  s.setCores { s.cores with slots := s.cores.slots.put (c, k) m }

/-- Slots that a tile needs: ⌈p ÷ 1,024⌉ (R114). -/
def slotsNeeded (d : Desc) : Nat := ceilDiv d.positions 1024

/-- The slots of a tile free again (R115). -/
def State.freeSlots (s : State) (c k : Nat) (d : Desc) : State :=
  (List.range (slotsNeeded d)).foldl (fun s i => s.setSlot c (k + i) { s.slot c (k + i) with busy := false }) s

/-- ABANDONED set on n slots from k. -/
def State.abandon (s : State) (c k n : Nat) : State :=
  (List.range n).foldl (fun s i => s.setSlot c (k + i) { s.slot c (k + i) with abandoned := true }) s

/-- The completion counter of a context (R121). -/
def State.comp (s : State) (c x : Nat) : Nat := s.cores.comp.get (c, x) 0

/-- A context's completion counter advanced by 1. -/
def State.compUp (s : State) (c x : Nat) : State :=
  s.setCores { s.cores with comp := s.cores.comp.put (c, x) (s.comp c x + 1) }

/-- A context tainted for the rest of the step (R156). -/
def State.taint (s : State) (c x : Nat) : State :=
  if s.cores.taint.contains (c, x) then s else s.setCores { s.cores with taint := (c, x) :: s.cores.taint }

/-- The layer's precision state: 0 F4, 1 FP8, 2 BF16 (R102, R107). -/
def State.layerState (s : State) (b layer : Nat) : Nat :=
  s.get (pgLayer (s.partFirst (s.partOf b))) .LAYER_ST layer

/-- An entry whose STATE_MASK allows its layer's present state (R143). -/
def State.maskAllows (s : State) (b layer mask : Nat) : Bool := bitAt mask (s.layerState b layer)

/-- FRAME_IN_STEP of a bed. -/
def State.frameIn (s : State) (b : Nat) : Nat := s.get (pgBed b) .FRAME_IN_STEP

/-- The issue list of a core's engine in the current frame. -/
def State.coreList (s : State) (b c e : Nat) : List Issue :=
  let f := s.armOf b
  issueList f (listGroup f b c) (s.frameIn b) e

/-- The transfer list of a core in the current frame. -/
def State.coreXfers (s : State) (b c : Nat) : List Transfer :=
  let f := s.armOf b
  xferList f (listGroup f b c) (s.frameIn b)

/-- The clock edges that a stretcher held at 12 % removes from a bed's frame, whole ones (R311, log 98). -/
def State.heldEdges (s : State) (b : Nat) : Nat := 12 * (s.get pgPower .FREQ_MHZ * s.get (pgBed b) .FRAME_US) / 100

/-- Core clock edges of a bed's frame: FREQ_MHZ × FRAME_US without those that a stretched clock removes (R154). -/
def State.frameCycles (s : State) (b : Nat) : Nat := s.get pgPower .FREQ_MHZ * s.get (pgBed b) .FRAME_US - (s.bed b).stretched

/-- The next entry's index on an engine. -/
def State.cursor (s : State) (c e : Nat) : Nat := s.cores.cursor.get (c, e) 0

/-- The state with an engine's next entry index set. -/
def State.setCursor (s : State) (c e k : Nat) : State :=
  s.setCores { s.cores with cursor := s.cores.cursor.put (c, e) k }

/-- An operation on each core of a bed that has an active armature. -/
def State.onCores (s : State) (b : Nat) (g : State → Nat → State) : State :=
  if (s.armOf b).isEmpty then s else (List.range 384).foldl g s

/-! ### Tensor scales (R57, R104, R105) -/

/-- A warm-up or recovery step of the partition (R104). -/
def State.specialStep (s : State) (p : Nat) : Bool :=
  decide ((s.part p).jobSteps < s.get (pgLayer (s.partFirst p)) .WARMUP_STEPS) || decide (0 < (s.part p).recovery)

/-- Two-level scaling applies to a tensor in the current step (R104); to a tensor that is not block-scaled it never does (R83). -/
def State.twoLevelNow (s : State) (p : Nat) (d : Desc) : Bool :=
  decide (d.format ≤ 3) && (d.twoLevel == 2 || (d.twoLevel == 1 && s.specialStep p))

/-- Under which a bed's tensor scales stand: its partition with a locked armature, which the beds share, else 8 and the independent bed's number (R105, R136). -/
def State.jobOf (s : State) (b : Nat) : Nat := if armLocked (s.armOf b) then s.partOf b else 8 + b

/-- T of a tensor in the current step, as an FP32 code (R104, R105). -/
def State.tensorT (s : State) (b : Nat) (d : Desc) : Nat :=
  let p := s.partOf b
  if !s.twoLevelNow p d then 0x3F800000
  else if d.twoLevel = 2 && armTest (s.armOf b) then d.tscale
  else s.cores.tscale.get (s.jobOf b, d.tensorId) d.tscale

/-- The other blocking of a tensor: the descriptor of the same TENSOR_ID, format, extents and tile shape that is blocked along the other axis (R109; DEDUCED, log 92). -/
def secondCopy (f : File) (k : Nat) : Option Nat :=
  let d := descAt f k
  (List.range (secOf f 1).count).find? fun j =>
    let x := descAt f j
    x.tensorId == d.tensorId && x.format == d.format && x.rows == d.rows && x.cols == d.cols && x.rt == d.rt && x.ct == d.ct &&
      x.axisCol != d.axisCol

/-- T in the current step of a descriptor of a bed's armature, and of the tensor's other blocking. -/
def State.outT (s : State) (b k : Nat) : Nat × Nat :=
  let f := s.armOf b
  (s.tensorT b (descAt f k), match secondCopy f k with
    | some j => s.tensorT b (descAt f j)
    | none => 0x3F800000)

/-! ### Release (R115, R124) -/

/-- A tile handed to the core's quantiser. -/
def State.release (s : State) (c : Nat) (r : Released) : State :=
  s.setCores { s.cores with released := s.cores.released.put c (s.cores.released.get c [] ++ [r]) }

/-- The matrix block of an issue entry of a bed. -/
def State.blkOf (s : State) (b : Nat) (i : Issue) : MatBlk := matBlk (s.armOf b) i.blockOff

/-- The norm-vector entries of a block's examples set to NaN (R124: no partial result; DEDUCED, log 25). -/
def State.poisonNorms (s : State) (n : Nat) (m : MatBlk) : State :=
  (List.range m.exCount).foldl (fun s j => s.localPut n (m.normvAddr + 4 * (m.exFirst + j)) (leBytes 4 0x7FC00000)) s

/-- A matrix block of bed b's core c that is skipped or stopped: its slots get ABANDONED, and its tile is released if it carries RELEASE (R124, R156); a norm block that ends its K range leaves NaN in its entries. -/
def State.skipMatrix (s : State) (b c : Nat) (arm : Option Nat) (m : MatBlk) : State :=
  let f := s.armIn b arm
  let d := coreDescIn f b c m.outDesc
  let n := coreNo b c
  let s := s.abandon n m.slot (slotsNeeded d)
  if m.normMode then (if m.endK then s.poisonNorms n m else s)
  else
    if m.release then
      s.release n ⟨m.outDesc + descBias f b c, m.tileRow, m.tileCol, some m.slot, true, [], 0x3F800000,
        s.get (pgBed b) .STEP_CNT, (0x3F800000, 0x3F800000), none, [], arm⟩
    else s

/-- An entry skipped on an engine: counted; a matrix entry abandons its slots. -/
def State.skipEntry (s : State) (b c e : Nat) (i : Issue) : State :=
  if s.maskAllows b i.layer i.mask then
    let s := s.bump (pgBed b) .SKIP_CNT
    if e ≤ 2 then s.skipMatrix b c (s.bed b).active (s.blkOf b i) else s
  else s

/-- Every entry of an engine that has not begun in the frame skipped. -/
def State.skipEngine (s : State) (b c e : Nat) : State :=
  let l := s.coreList b c e
  let s := (l.drop (s.cursor (coreNo b c) e)).foldl (fun s i => s.skipEntry b c e i) s
  s.setCursor (coreNo b c) e l.length

/-- Transfers of a context begun in the frame. -/
def State.xcursor (s : State) (c x : Nat) : Nat := s.cores.xcursor.get (c, x) 0

/-- One DMA transfer skipped: its completion counter advances and its context is tainted (R156). -/
def State.skipXfer (s : State) (b c x : Nat) : State :=
  ((s.bump (pgBed b) .SKIP_CNT).compUp (coreNo b c) x).taint (coreNo b c) x

/-- Every transfer of a context that has not begun in the frame skipped. -/
def State.skipXfers (s : State) (b c x : Nat) : State :=
  let l := (s.coreXfers b c).filter (·.ctx == x)
  let s := (l.drop (s.xcursor (coreNo b c) x)).foldl (fun s _ => s.skipXfer b c x) s
  s.setCores { s.cores with xcursor := s.cores.xcursor.put (coreNo b c, x) l.length }

/-- Every forward-stream and backward-stream entry of a bed's frame that has not begun skipped (R155, R156). -/
def State.skipFrame (s : State) (b : Nat) : State :=
  s.onCores b fun s c =>
    let s := [0, 1, 2, 3, 4].foldl (fun s e => s.skipEngine b c e) s
    (List.range 8).foldl (fun s x => s.skipXfers b c x) s

/-- The running block of one engine stopped: a matrix block's slots get ABANDONED (R153, R156). -/
def State.stopEngine (s : State) (b c e : Nat) : State :=
  match Tab.find? s.cores.running (coreNo b c, e) with
  | none => s
  | some r =>
    let s := s.setCores { s.cores with running := s.cores.running.del (coreNo b c, e) }
    let s := s.bump (pgBed b) .SKIP_CNT
    let s := s.put (pgCore .coreSub3 (coreNo b c)) .CTX_STATE 0 r.ctx
    if e ≤ 2 then s.skipMatrix b c r.arm (matBlk (s.armIn b r.arm) r.blockOff) else s

/-- A transfer in progress of a context stopped as a skipped one. -/
def State.stopXfer (s : State) (b c x : Nat) : State :=
  if s.cores.xbusy.contains (coreNo b c, x) then
    let s := s.setCores { s.cores with xbusy := s.cores.xbusy.filter (· != (coreNo b c, x)) }
    s.skipXfer b c x
  else s

/-- Every block of a bed that still runs stopped (R153, R156). -/
def State.stopRunning (s : State) (b : Nat) : State :=
  s.onCores b fun s c =>
    let s := [0, 1, 2, 3, 4].foldl (fun s e => s.stopEngine b c e) s
    (List.range 8).foldl (fun s x => s.stopXfer b c x) s

/-- Some engine of the bed has an entry of the frame that runs or has not begun, or a transfer has not completed (R155); the entries of a context that was reset are skipped and so not waited for (R124). -/
def State.unfinished (s : State) (b : Nat) : Bool :=
  !(s.armOf b).isEmpty && (List.range 384).any fun c =>
    let n := coreNo b c
    ([0, 1, 2, 3, 4].any fun e =>
      (Tab.find? s.cores.running (n, e)).isSome ||
        ((s.coreList b c e).drop (s.cursor n e)).any fun i => !s.cores.skip.contains (n, i.ctx) && s.maskAllows b i.layer i.mask) ||
    ([3, 4].any fun e => decide (s.frameCycles b < s.cores.endCyc.get (n, e) 0)) ||
    (List.range 8).any fun x =>
      s.cores.xbusy.contains (n, x) ||
        decide (s.xcursor n x < ((s.coreXfers b c).filter (·.ctx == x)).length)

/-- The frame's cursors of a bed's cores back at the first entry (R122); running blocks keep the engine. A frame that a forced change opens is stretched throughout (R311). -/
def State.openFrame (s : State) (b : Nat) : State :=
  let mine := fun (c : Nat) => c / 384 == b
  let s := s.setBed b { s.bed b with stretched := if s.pw.suppressed then s.heldEdges b else 0 }
  s.setCores { s.cores with
    cursor := s.cores.cursor.delIf (fun k => mine k.1), endCyc := s.cores.endCyc.delIf (fun k => mine k.1),
    xcursor := s.cores.xcursor.delIf (fun k => mine k.1) }

/-- At a step start the completion counters are zeroed, taints and skipping contexts end (R124, R143, R156). -/
def State.openStep (s : State) (b : Nat) : State :=
  let mine := fun (c : Nat) => c / 384 == b
  let s := s.cores.skip.foldl (fun s k => if mine k.1 then s.put (pgCore .coreSub3 k.1) .CTX_STATE 0 k.2 else s) s
  s.setCores { s.cores with
    comp := s.cores.comp.delIf (fun k => mine k.1), taint := s.cores.taint.filter (fun k => !mine k.1),
    skip := s.cores.skip.filter (fun k => !mine k.1) }

/-- The stream of a context in the frame: 0 forward, 1 backward (R121, R142). -/
def State.ctxStreamOf (s : State) (b c x : Nat) : Nat :=
  let f := s.armOf b
  b2n (bitAt (ctxStream f (listGroup f b c) (s.frameIn b)) x)

/-- The engines of a stream: FE and the forward half, or BE-D, BE-W and the backward half (R121). -/
def streamEngines (st : Nat) : List Nat := if st = 0 then [0, 3] else [1, 2, 4]

/-- The entries of a context that a reset skips, in the order of their frames and START offsets: those of the rest of the step that have not begun and that STATE_MASK lets issue (R124, R143). -/
def State.skippedEntries (s : State) (b c x : Nat) : List Issue :=
  let f := s.armOf b
  (List.range (armFps f - s.frameIn b)).flatMap fun i =>
    sortBy (fun (a b : Issue) => decide (a.start ≤ b.start)) ([0, 1, 2, 3, 4].flatMap fun e =>
      ((issueList f (listGroup f b c) (s.frameIn b + i) e).drop (if i = 0 then s.cursor (coreNo b c) e else 0)).filter fun y =>
        y.ctx == x && s.maskAllows b y.layer y.mask)

/-- A context reset (R124): its running blocks stop, its later entries of the step are skipped, and CTX_RESETS counts. The payload holds core, context and the OP_ID of the first skipped entry. -/
def State.ctxReset (s : State) (b c x code : Nat) : State :=
  let n := coreNo b c
  let rest := (s.skippedEntries b c x).map (·.opId)
  let s := [0, 1, 2, 3, 4].foldl (fun s e =>
    match Tab.find? s.cores.running (n, e) with
    | some r => if r.ctx = x then s.stopEngine b c e else s
    | none => s) s
  let s := s.setCores { s.cores with
    skip := if s.cores.skip.contains (n, x) then s.cores.skip else (n, x) :: s.cores.skip }
  let s := (s.put (pgCore .coreSub3 n) .CTX_STATE 3 x).put (pgCore .coreSub3 n) .STALL_FRAMES 0 x
  let s := (s.bump (pgCore .coreSub2 n) .CTX_RESETS).put (pgCore .coreSub0 n) .CORE_ABANDONED 1
  s.record code (pgCore .coreSub0 n) (leBytes 2 c ++ leBytes 1 x ++ [0] ++ leBytes 4 (rest.headD 0))

end Sys2Proof.Machine
end

