-- ==== Sys2Proof/Machine/Hold.lean ====
section
/-! DEFINITION. Stops and transitions that several families share: beds leaving the running states (R153), Hold, Dormant, Floor and Off (R304, R305), the domain map (R302), scrubs (R185), the end of a session (R295). -/

namespace Sys2Proof.Machine

/-! ### Beds (R153) -/

/-- SEQ_STATE of a bed set; a bed that no longer runs reads CTL.RUN 0 (log 21), the sets that wait for its ticks fall due (R33), and the blocks that were to stop at the end of its frame stop (R31). -/
def State.setSeq (s : State) (b st : Nat) : State :=
  if st = seqIdle || st = seqHeld then (((s.dueSets b).endStops b).put (pgBed b) .SEQ_STATE st).put (pgBed b) .RUN 0
  else (s.put (pgBed b) .SEQ_STATE st).put (pgBed b) .RUN 1

/-- The bed's active armature shown in ARM_ACTIVE (R167). -/
def State.showArm (s : State) (b : Nat) : State := s.put (pgBed b) .ARM_ACTIVE (armId (s.armOf b))

/-- The bed's origin cleared (R135). -/
def State.clearOrigin (s : State) (b : Nat) : State :=
  let s := s.setBed b { s.bed b with origin := false, started := false }
  (s.put (pgBed b) .ORIGIN_TIME 0).put (pgBed b) .ORIGIN_FRAME 0

/-- A pending activation dropped: staged lists discarded, SWITCH_PENDING 0, an origin that it set cleared (R153). -/
def State.dropPending (s : State) (b : Nat) : State :=
  match (s.bed b).pend with
  | none => s
  | some a =>
    let s := (s.setBed b { s.bed b with pend := none }).put (pgBed b) .SWITCH_PENDING 0
    if a.setOrigin then s.clearOrigin b else s

/-- An ARMED bed left ARMED with its record (R153, R390). cause: 0 CTL.RUN, 1 Hold, 2 Dormant. -/
def State.cancelArmed (s : State) (b st cause : Nat) : State :=
  let id := match (s.bed b).pend with
    | some a => a.armId
    | none => 0
  ((s.dropPending b).setSeq b st).record 0x0441 (pgBed b) (leBytes 4 id ++ leBytes 1 cause)

/-- The update units of a bed asked to stop at their next state-group boundary (R202). -/
def State.askUnits (s : State) (b : Nat) : State :=
  { s with upd := { s.upd with
    stopReq := [0, 1, 2, 3].foldl (fun l k =>
      if s.flag (pgUnit (4 * b + k)) .PASS_ACTIVE then setMark l (4 * b + k) true else l) s.upd.stopReq } }

/-- The bed enters HELD: issue stops, running blocks stop with ABANDONED, the rest of the frame is skipped (R153). cause as for cancelArmed. -/
def State.holdBed (s : State) (b cause : Nat) : State :=
  if s.seq b = seqArmed then s.cancelArmed b seqHeld cause
  else if s.seq b = seqRunning || s.seq b = seqPaused then
    let s := ((s.stopRunning b).skipFrame b).askUnits b
    let s := (s.dropPending b).setSeq b seqHeld
    s.setBed b { s.bed b with stopping := false, skipping := false, heldUpdates := false }
  else s

/-- Every bed of a list enters HELD. -/
def State.holdBeds (s : State) (l : List Nat) (cause : Nat) : State := l.foldl (fun s b => s.holdBed b cause) s

/-- A stopping bed becomes IDLE at the end of its frame: unfinished entries are skipped and no armature is active (R153, log 21). -/
def State.idleBed (s : State) (b : Nat) : State :=
  let s := (((s.stopRunning b).skipFrame b).askUnits b).dropPending b
  let s := s.setSeq b seqIdle
  (s.setBed b { s.bed b with stopping := false, skipping := false, heldUpdates := false, active := none, anchor := none }).showArm b

/-- An armature slot freed (R150); beds that held it have no active armature. -/
def State.unloadSlot (s : State) (p k : Nat) : State :=
  let s := { s with arms := s.arms.del (p, k) }
  (s.partBeds p).foldl (fun s b =>
    if (s.bed b).active = some k then (s.setBed b { s.bed b with active := none, anchor := none }).showArm b else s) s

/-- Every armature of a partition unloaded. -/
def State.unloadAll (s : State) (p : Nat) : State := (List.range 64).foldl (fun s k => s.unloadSlot p k) s

/-! ### Membership of a lockstep group -/

/-- A member's partition leaves its group (R138, R162, R306); in Hold its ports send no heartbeats from then on. -/
def State.leaveGroup (s : State) (p : Nat) : State :=
  if (s.part p).member then
    let s := s.setPart p { s.part p with member := false }
    { s with fab := { s.fab with rejoin := setMark s.fab.rejoin p true } }
  else s

/-- Every partition leaves its group. -/
def State.leaveAll (s : State) : State := (List.range 8).foldl (fun s p => s.leaveGroup p) s

/-! ### Power states (R302, R304, R305) -/

/-- PM_STATE's code of a power state; Off shows the register's reset value (R318, log 23). -/
def pmCode : PowerState → Nat
  | .run => 1
  | .floor => 2
  | .hold => 3
  | .dormant => 4
  | .off => 3

/-- The domains that are on in a power state, as three words (R302); the last argument is TEST_PWR. -/
def domainWords (p : PowerState) (test : Bool) : Nat × Nat × Nat :=
  let t := if test then 0x8000 else 0
  match p with
  | .run | .floor => (0xFFFFFFFF, 0xFFFFFFFF, 0x7FFF + t)
  | .hold => (0, 0xFFFFFFFF, 0x7FFF + t)
  | .dormant => (0, 0xFF000000, 0x78FF + t)
  | .off => (0, 0, 0x3800)

/-- The domain map written (R318). -/
def State.setDomains (s : State) (w : Nat × Nat × Nat) : State :=
  ((s.put pgPower .DOMAIN_ON w.1 0).put pgPower .DOMAIN_ON w.2.1 1).put pgPower .DOMAIN_ON w.2.2 2

/-- The power state in force, with PM_STATE and the domain map (R302, R318). -/
def State.setPower (s : State) (p : PowerState) : State :=
  let s := { s with pw := { s.pw with power := p, transition := none } }
  (s.put pgPower .PM_STATE (pmCode p)).setDomains (domainWords p (s.flag pgPower .TEST_PWR))

/-- A transition begun: PM_STATE keeps the state being left until it completes (R305); CAUSE names its cause (R318). -/
def State.beginTransition (s : State) (p : PowerState) (cause : Nat) : State :=
  { s with pw := { s.pw with transition := some p } }.put pgPower .PM_CAUSE cause

/-- Entry to Hold (R305): from Run or Floor the issue stops, a group's partitions leave it (R306), and the clusters go off; during Hold to Run the clusters stop turning on. -/
def State.enterHold (s : State) (cause : Nat) : State :=
  if s.pw.transition = some .off then s
  else if s.inRun then
    if s.pw.transition = some .hold then s else ((s.holdBeds allBeds 1).leaveAll).beginTransition .hold cause
  else if s.pw.power = .hold && s.pw.transition = some .run then
    { s with pw := { s.pw with transition := none } }
  else s

/-- Power-up given up before boot has ended: the 40 V stage down with every domain of it, power-up disarmed (R300, R301, R304, R392). -/
def State.dropStage (s : State) (cause : Nat) : State :=
  ({ s with pw := { s.pw with
    stage40 := false, bootPhase := 1, recovery := false, armed := false, transition := none, causes := [], bootFailed := [], inReset := false } }.put
    pgPower .PM_CAUSE cause).setDomains (domainWords .off false)

/-- The 40 V stage shut down (R300, R301, R305): beds stop, and Off follows when started stores have finished; during power-up, boot and reset the stage goes down at once. -/
def State.enterOff (s : State) (cause : Nat) : State :=
  if s.pw.power = .off then (if s.pw.stage40 || s.pw.inReset then s.dropStage cause else s)
  else (s.holdBeds allBeds 1).leaveAll.beginTransition .off cause

/-- FREQ_MHZ of a clock point (R309). -/
def pointMhz (p : Nat) : Nat := if p = 0 then 1800 else if p = 1 then 1200 else 600

/-- The clock at a point in fixed mode. -/
def State.setPoint (s : State) (p : Nat) : State :=
  (s.put pgPower .POINT_NOW p).put pgPower .FREQ_MHZ (pointMhz p)

/-- A Floor cause arises (R305, R313, R378): in Run, Floor and Hold the clock goes to the Floor point at once and the event is counted; a Hold or Off in progress goes on (R305), and an end of Floor that waited for its tick is given up; a code other than 0 is the cause's own record. -/
def State.floorCause (s : State) (c : FloorCause) (cause code : Nat) (payload : List Byte := []) : State :=
  let s := { s with pw := { s.pw with causes := if s.pw.causes.contains c then s.pw.causes else c :: s.pw.causes } }
  if s.inRun || s.pw.power = .hold then
    let s := (s.setPoint 2).bump pgPower .ALERT_CNT
    let s := { s with pw := { s.pw with stretch := false, boost := 0, wantFloorExit := false } }
    let s := if s.pw.power = .run && s.pw.transition.isNone then (s.setPower .floor).put pgPower .PM_CAUSE cause else s
    if code = 0 then s.raise pgPower 0 else (s.evt pgPower 0).record code pgPower payload
  else if code = 0 then s else s.record code pgPower payload

/-- A Floor cause is clear. -/
def State.floorClear (s : State) (c : FloorCause) : State :=
  { s with pw := { s.pw with causes := s.pw.causes.filter (· != c) } }

/-! ### Scrubs (R185) and sessions (R295) -/

/-- A bridge's full scrub begins: zeros, poison clear, cache lines freed; the armature region erased and its armatures unloaded (R150, R185). SCRUB_BUSY reads 1 until SCRUB_DONE. -/
def State.startScrub (s : State) (b : Nat) : State :=
  let s := (s.setMem (s.mem.scrub b)).put (pgBridge b) .SCRUB_BUSY 1
  let p := s.partOf b
  if s.partFirst p = b then s.unloadAll p else s

/-- The pages that the engine holds locked in a session (R294). -/
def State.sessionPages (s : State) (p : Nat) : List Page :=
  (s.partBeds p).flatMap (fun b =>
    [pgBed b, pgQuant b, pgBridge b, pgCache b, pgReg b] ++
      [0, 1, 2, 3].flatMap (fun k => [pgUnit (4 * b + k), pgMc (4 * b + k)])) ++
  (s.partPorts p).flatMap fun q => [pgPort q, pgRed q]

/-- A descriptor in flight of a queue bound to the partition fails (R295). -/
def State.failDma (s : State) (p : Nat) : State :=
  let h := s.host.inFlight.map fun e =>
    if s.get pgPcie .DMAQ_PART e.1 = p then
      (e.1, e.2.map fun d => { d with status := some (d.status.getD stNotAuth) })
    else e
  { s with host := { s.host with inFlight := h } }

/-- TELEM_MODE.COARSE and SESSION_MAP follow the sessions (R298, R299). -/
def State.setSessionState (s : State) (p st : Nat) : State :=
  let s := s.put pgSec .SESSION_STATE st p
  let m := allBeds.foldl (fun a q => a + (if s.sessionState q = 0 then 0 else 2 ^ q)) 0
  (s.put pgSec .SESSION_MAP m).put pgSec .COARSE (b2n (allBeds.any s.sessionOpen))

/-- Keys zeroised: bridge and port slots and the Cold Frame copies (R295), ENC_EN cleared with them before the scrub that both start (R185, log 58); the noise generator erased, its queued ledger entries kept (R270, R272). -/
def State.eraseKeys (s : State) (p : Nat) : State :=
  let x := s.session p
  let s := s.setSession p { x with keys := none, closing := true }
  let s := (s.partBeds p).foldl (fun s b => (s.put (pgBridge b) .KEY_VALID 0).put (pgBridge b) .ENC_EN 0) s
  let s := (s.partPorts p).foldl (fun s q => s.put (pgPort q) .PORT_ENC_EN 0) s
  let s := (s.put pgSec .MEM_KEYED 0 p).put pgSec .LINK_KEYED 0 p
  let s := s.raise pgSec 3
  let n := s.noise.get p Noise.reset
  (({ s with noise := s.noise.put p { Noise.reset with waiting := n.waiting } }.put
    (pgLink 0) .DRBG_READY 0 p).put (pgLink 0) .RESEED_CNT 0 p)

/-- The attribution sum of a partition as it stands in the mirror, in mJ, as SESSION_OPEN and SESSION_CLOSE records carry it (R324; bytes 0 to 7, log 13). -/
def State.attribution (s : State) (p : Nat) : List Byte :=
  leBytes 8 ((s.partBeds p).foldl (fun a b => a + s.get pgMirror .BED_MJ b) 0)

/-- The end of a close: guards cleared, pages unlocked, SESSION_CLOSE raised (R295). GRANT_SEQ stays for the check of freshness (R289), the tenant for that of a second close. -/
def State.finishClose (s : State) (p : Nat) : State :=
  let s := (s.partBeds p).foldl (fun s b => s.put (pgBridge b) .GUARD_ACTIVE 0) s
  let s := (s.sessionPages p).foldl (fun s q => s.doUnlock q) s
  let x := s.session p
  let s := s.setSession p { Session.reset with grantSeq := x.grantSeq, tenant := x.tenant }
  let s := (s.setSessionState p 0).put pgSec .SESSION_ID_LO 0 p
  s.raise pgSec 2 (s.attribution p)

/-- Every bed of a partition enters HELD, an IDLE one too (R295). -/
def State.closeBeds (s : State) (p : Nat) : State :=
  (s.partBeds p).foldl (fun s b => if s.seq b = seqIdle then s.setSeq b seqHeld else s.holdBed b 1) s

/-- A session's close begins (R295): beds HELD, DMA failed, keys erased, the partition's bridges scrubbed; in Dormant the scrub waits for the bridges (R307). -/
def State.beginClose (s : State) (p : Nat) : State :=
  let s := (s.closeBeds p).failDma p
  let s := (s.eraseKeys p).setSessionState p 3
  if s.pw.power = .dormant then s.setSession p { s.session p with dormantScrub := true }
  else (s.partBeds p).foldl (fun s b => s.startScrub b) s

/-- A session ended by device reset or loss of VAUX: memory is lost with its domains, so no scrub is waited for (R295, R382). -/
def State.endSessionNow (s : State) (p : Nat) : State :=
  if s.sessionState p = 0 then s
  else
    let s := (s.closeBeds p).failDma p
    (s.eraseKeys p).finishClose p

/-- Every session ended at once. -/
def State.endSessions (s : State) : State := allBeds.foldl (fun s p => s.endSessionNow p) s

end Sys2Proof.Machine
end

