-- ==== Sys2Proof/Machine/Issue.lean ====
section
/-! DEFINITION. How an issue entry begins (R122, R123, R124, R143): the next entry of an engine, its begin cycle, the slip, and what the core's status shows of it. -/

namespace Sys2Proof.Machine

/-- The next entry of an engine that issues, with its index: entries that STATE_MASK excludes are passed over, entries of a context that is skipping are skipped (R124, R143). -/
def State.nextEntry (b c e : Nat) : List Issue → Nat → State → State × Option (Issue × Nat)
  | [], k, s => (s.setCursor (coreNo b c) e k, none)
  | i :: t, k, s =>
    if !s.maskAllows b i.layer i.mask then nextEntry b c e t (k + 1) s
    else if s.cores.skip.contains (coreNo b c, i.ctx) then nextEntry b c e t (k + 1) (s.skipEntry b c e i)
    else (s.setCursor (coreNo b c) e k, some (i, k))

/-- The cycle at which an entry begins: the latest of its START, the end of the engine's previous entry and the arrival of its completion count (R122). -/
def State.beginCycle (s : State) (n e : Nat) (i : Issue) (ready : Nat) : Nat :=
  max i.start (max (s.cores.endCyc.get (n, e) 0) (if i.wait = 0 then 0 else ready))

/-- A bed issues entries: RUNNING, in Run or Floor, with no stop waiting (R122, R153, R304). -/
def State.issues (s : State) (b : Nat) : Bool :=
  s.seq b == seqRunning && s.inRun && !(s.bed b).stopping && !(s.bed b).skipping

/-- A slip counted (R123). -/
def State.slip (s : State) (n d : Nat) : State :=
  if d = 0 then s
  else ((s.bump (pgCore .coreSub2 n) .SLIP_EVENTS).bump (pgCore .coreSub2 n) .SLIP_CYCLES d).put (pgCore .coreSub0 n) .SLIP_SEEN 1

/-- The bookkeeping of an entry that begins at a cycle and occupies its engine for len cycles. -/
def State.started (s : State) (b c e : Nat) (i : Issue) (k at_ len : Nat) : State :=
  let n := coreNo b c
  let s := s.slip n (at_ - i.start)
  let s := s.bump (pgCore .coreSub2 n) .BLOCKS_ISSUED
  let s := s.setCores { s.cores with
    cursor := s.cores.cursor.put (n, e) (k + 1), endCyc := s.cores.endCyc.put (n, e) (at_ + len) }
  let s := (s.put (pgCore .coreSub3 n) .CTX_ENTRY k i.ctx).put (pgCore .coreSub3 n) .STALL_FRAMES 0 i.ctx
  s.put (pgCore .coreSub3 n) .CTX_STATE 1 i.ctx

/-- The page of a core's cluster (R28). -/
def clusterPage (b c : Nat) : Page := ⟨.cluster, 4 * b + c / 96⟩

/-- The entry that may begin now on an engine, with its index and begin cycle: the bed issues, the core's cluster is not stopped, the engine is free, the completion count is reached, and the frame has not ended. -/
def State.dueEntry (s : State) (b c e ready : Nat) : State × Option (Issue × Nat × Nat) :=
  let n := coreNo b c
  if !s.issues b || s.halts (clusterPage b c) || (Tab.find? s.cores.running (n, e)).isSome then (s, none)
  else
    let r := State.nextEntry b c e ((s.coreList b c e).drop (s.cursor n e)) (s.cursor n e) s
    match r.2 with
    | none => (r.1, none)
    | some (i, k) =>
      let t := r.1.beginCycle n e i ready
      if r.1.comp n i.ctx < i.wait || r.1.frameCycles b ≤ t then (r.1, none) else (r.1, some (i, k, t))

end Sys2Proof.Machine
end

