-- ==== Sys2Proof/Machine/Float.lean ====
section
/-! DEFINITION. Number formats and their arithmetic (R42 to R80): every value is an exact fraction, computed exactly and then rounded once, to nearest even or stochastically. -/

namespace Sys2Proof.Machine

/-- A signed exact fraction num ÷ den with den above 0. -/
structure Q where
  num : Int
  den : Nat
  deriving DecidableEq, Repr

namespace Q

/-- An integer. -/
def ofInt (n : Int) : Q := ⟨n, 1⟩
/-- 2^e. -/
def pow2 (e : Int) : Q := if 0 ≤ e then ⟨(2 ^ e.toNat : Nat), 1⟩ else ⟨1, 2 ^ (-e).toNat⟩
/-- A fraction with common powers of two taken out, so that sums stay small. -/
def slim (x : Q) : Q :=
  let g := Nat.gcd x.num.natAbs x.den
  if g = 0 then x else ⟨x.num / g, x.den / g⟩
/-- Product. -/
def mul (a b : Q) : Q := ⟨a.num * b.num, a.den * b.den⟩
/-- Sum. -/
def add (a b : Q) : Q := slim ⟨a.num * b.den + b.num * a.den, a.den * b.den⟩
/-- Negation. -/
def neg (a : Q) : Q := ⟨-a.num, a.den⟩
/-- Difference. -/
def sub (a b : Q) : Q := add a (neg b)
/-- Quotient by a nonzero fraction. -/
def div (a b : Q) : Q := ⟨a.num * b.den * (if b.num < 0 then -1 else 1), a.den * b.num.natAbs⟩
/-- Magnitude. -/
def abs (a : Q) : Q := ⟨a.num.natAbs, a.den⟩
/-- a < b. -/
def lt (a b : Q) : Bool := a.num * b.den < b.num * a.den
/-- a ≤ b. -/
def le (a b : Q) : Bool := a.num * b.den ≤ b.num * a.den
/-- a = 0. -/
def isZero (a : Q) : Bool := a.num == 0
/-- a < 0. -/
def isNeg (a : Q) : Bool := a.num < 0
/-- ⌊a⌋. -/
def floor (a : Q) : Int := a.num / (a.den : Int)

end Q

/-- A binary interchange format: exponent bits and fraction bits. -/
structure Fmt where
  eb : Nat
  mb : Nat
  deriving DecidableEq, Repr

/-- Binary32 (R62). -/
def fp32 : Fmt := ⟨8, 23⟩
/-- BF16, the upper half of binary32 (R62). -/
def bf16 : Fmt := ⟨8, 7⟩
/-- W40 (R63). -/
def w40 : Fmt := ⟨8, 31⟩
/-- Binary64, in the norms and the noise (R203, R268). -/
def fp64 : Fmt := ⟨11, 52⟩

namespace Fmt

/-- The exponent bias. -/
def bias (f : Fmt) : Nat := 2 ^ (f.eb - 1) - 1
/-- The code of +infinity. -/
def infCode (f : Fmt) : Nat := (2 ^ f.eb - 1) * 2 ^ f.mb
/-- The sign bit as a number. -/
def signBit (f : Fmt) : Nat := 2 ^ (f.eb + f.mb)
/-- The default NaN: 0x7FC00000, 0x7FC0, 0x7FC0000000 (R62, R63). -/
def nan (f : Fmt) : Nat := f.infCode + 2 ^ (f.mb - 1)

end Fmt

/-- What a code of a format stands for. -/
inductive Num where
  | nan
  | inf (neg : Bool)
  | fin (neg : Bool) (mag : Q)
  deriving DecidableEq, Repr

namespace Num

/-- The exact signed value of a finite number, 0 of others. -/
def val : Num → Q
  | .fin n m => if n then m.neg else m
  | _ => ⟨0, 1⟩
/-- NaN or infinity. -/
def isSpecial : Num → Bool
  | .fin _ _ => false
  | _ => true

end Num

/-- The magnitude that a code below infinity stands for. -/
def Fmt.magOf (f : Fmt) (c : Nat) : Q :=
  let e := c / 2 ^ f.mb
  let m := c % 2 ^ f.mb
  if e = 0 then (Q.mul ⟨m, 1⟩ (Q.pow2 (1 - (f.bias : Int) - f.mb)))
  else Q.mul ⟨(2 ^ f.mb + m : Nat), 1⟩ (Q.pow2 ((e : Int) - f.bias - f.mb))

/-- Decoding (R62, R63). -/
def Fmt.dec (f : Fmt) (code : Nat) : Num :=
  let neg := decide (f.signBit ≤ code % (2 * f.signBit))
  let c := code % f.signBit
  if f.infCode < c then .nan
  else if c = f.infCode then .inf neg
  else .fin neg (f.magOf c)

/-- ⌊log2 (n ÷ d)⌋ for positive n and d. -/
def ilog2 (n d : Nat) : Int :=
  let e : Int := (Nat.log2 n : Int) - Nat.log2 d
  if 0 ≤ e then (if n < d * 2 ^ e.toNat then e - 1 else e)
  else (if n * 2 ^ (-e).toNat < d then e - 1 else e)

/-- The greatest code whose value is at most the magnitude n ÷ d, with exponents continued without bound, and the remainder as numerator and denominator of a unit in the last place. -/
def Fmt.floorCode (f : Fmt) (n d : Nat) : Nat × Nat × Nat :=
  if n = 0 then (0, 0, 1)
  else
    let emin : Int := 1 - (f.bias : Int)
    let e := max (ilog2 n d) emin
    let qe := e - f.mb
    let num := if 0 ≤ qe then n else n * 2 ^ (-qe).toNat
    let den := if 0 ≤ qe then d * 2 ^ qe.toNat else d
    let fl := num / den
    ((e - emin).toNat * 2 ^ f.mb + fl, num % den, den)

/-- Rounding of a magnitude to nearest even; a magnitude beyond the format gives infinity (R62). -/
def Fmt.rneMag (f : Fmt) (q : Q) : Nat :=
  let r := f.floorCode q.num.natAbs q.den
  let up := decide (r.2.2 < 2 * r.2.1) || (decide (r.2.2 = 2 * r.2.1) && r.1 % 2 == 1)
  min (r.1 + b2n up) f.infCode

/-- Rounding to nearest even of an exact value; a zero takes the given sign. -/
def Fmt.rne (f : Fmt) (q : Q) (zeroNeg : Bool := false) : Nat :=
  if q.isZero then (if zeroNeg then f.signBit else 0)
  else f.rneMag q.abs + (if q.isNeg then f.signBit else 0)

/-- Stochastic rounding of a nonzero exact value between adjacent codes with 24 random bits, exponents continued without bound: the code of the magnitude (R73). The lower neighbour of a negative value is the larger magnitude; beyond the last code top − 1, hi is the next magnitude with either sign. -/
def Fmt.srMag (f : Fmt) (top : Nat) (q : Q) (r : Nat) : Nat :=
  let c := f.floorCode q.num.natAbs q.den
  if c.2.1 = 0 then c.1
  else if q.isNeg && decide (c.1 + 1 < top) then (if r < (c.2.2 - c.2.1) * 2 ^ 24 / c.2.2 then c.1 else c.1 + 1)
  else if r < c.2.1 * 2 ^ 24 / c.2.2 then c.1 + 1 else c.1

/-- Stochastic rounding of an exact value between adjacent codes; what rounds beyond the format is an infinity (R73). -/
def Fmt.sr (f : Fmt) (q : Q) (r : Nat) : Nat :=
  if q.isZero then 0 else min (f.srMag f.infCode q r) f.infCode + (if q.isNeg then f.signBit else 0)

/-! ### Flags (R76, R129) -/

/-- The four flags INV, OVF, SAT, RSV of R129. -/
structure Flags where
  inv : Bool
  ovf : Bool
  sat : Bool
  rsv : Bool
  deriving DecidableEq, Repr

/-- No flag. -/
def Flags.none : Flags := ⟨false, false, false, false⟩
/-- Flags of either source (R129). -/
def Flags.or (a b : Flags) : Flags := ⟨a.inv || b.inv, a.ovf || b.ovf, a.sat || b.sat, a.rsv || b.rsv⟩
/-- The layout [0] INV, [1] OVF, [2] SAT, [3] RSV (R129). -/
def Flags.code (a : Flags) : Nat := b2n a.inv + 2 * b2n a.ovf + 4 * b2n a.sat + 8 * b2n a.rsv

/-- INV of a NaN result, OVF of an infinite one (R76). -/
def fp32Flags (c : Nat) : Flags :=
  let m := c % fp32.signBit
  ⟨decide (fp32.infCode < m), decide (m = fp32.infCode), false, false⟩

/-- The flags of a list of FP32 results (R76). -/
def listFlags (l : List Nat) : Flags := l.foldl (fun a c => a.or (fp32Flags c)) Flags.none

/-! ### FP32 arithmetic (R62, R77): operands and results are codes -/

/-- a + b, rounded to nearest even. -/
def addF (a b : Nat) : Nat :=
  match fp32.dec a, fp32.dec b with
  | .nan, _ => fp32.nan
  | _, .nan => fp32.nan
  | .inf x, .inf y => if x = y then fp32.infCode + (if x then fp32.signBit else 0) else fp32.nan
  | .inf x, _ => fp32.infCode + (if x then fp32.signBit else 0)
  | _, .inf y => fp32.infCode + (if y then fp32.signBit else 0)
  | .fin x p, .fin y q => fp32.rne (Q.add (Num.fin x p).val (Num.fin y q).val) (x && y)

/-- −a. -/
def negF (a : Nat) : Nat :=
  match fp32.dec a with
  | .nan => fp32.nan
  | _ => if a % (2 * fp32.signBit) < fp32.signBit then a % (2 * fp32.signBit) + fp32.signBit else a % fp32.signBit

/-- a − b. -/
def subF (a b : Nat) : Nat :=
  match fp32.dec b with
  | .nan => fp32.nan
  | _ => addF a (negF b)

/-- The exact product of two numbers, or the special result of R77: NaN, or an infinity with its sign. -/
def mulNum (a b : Num) : Num :=
  match a, b with
  | .nan, _ => .nan
  | _, .nan => .nan
  | .inf x, .inf y => .inf (x != y)
  | .inf x, .fin y q => if q.isZero then .nan else .inf (x != y)
  | .fin x p, .inf y => if p.isZero then .nan else .inf (x != y)
  | .fin x p, .fin y q => .fin (x != y) (Q.mul p q)

/-- A number rounded to a format to nearest even. -/
def Fmt.ofNum (f : Fmt) : Num → Nat
  | .nan => f.nan
  | .inf n => f.infCode + (if n then f.signBit else 0)
  | .fin n m => f.rne (Num.fin n m).val n

/-- a × b, rounded to nearest even. -/
def mulF (a b : Nat) : Nat := fp32.ofNum (mulNum (fp32.dec a) (fp32.dec b))

/-- a × b + c with one rounding. -/
def fmaF (a b c : Nat) : Nat :=
  match mulNum (fp32.dec a) (fp32.dec b), fp32.dec c with
  | .nan, _ => fp32.nan
  | _, .nan => fp32.nan
  | .inf x, .inf y => if x = y then fp32.infCode + (if x then fp32.signBit else 0) else fp32.nan
  | .inf x, _ => fp32.infCode + (if x then fp32.signBit else 0)
  | _, .inf y => fp32.infCode + (if y then fp32.signBit else 0)
  | .fin x p, .fin y q => fp32.rne (Q.add (Num.fin x p).val (Num.fin y q).val) (x && y)

/-- a ÷ b, rounded to nearest even (R204). -/
def divF (a b : Nat) : Nat :=
  match fp32.dec a, fp32.dec b with
  | .nan, _ => fp32.nan
  | _, .nan => fp32.nan
  | .inf _, .inf _ => fp32.nan
  | .inf x, .fin y _ => fp32.infCode + (if x != y then fp32.signBit else 0)
  | .fin x _, .inf y => if x != y then fp32.signBit else 0
  | .fin x p, .fin y q =>
    if q.isZero then (if p.isZero then fp32.nan else fp32.infCode + (if x != y then fp32.signBit else 0))
    else fp32.rne (Q.div (Num.fin x p).val (Num.fin y q).val) (x != y)

/-- ⌊√n⌋ by bisection on the bits, with fuel. -/
def isqrtAux : Nat → Nat → Nat → Nat
  | 0, r, _ => r
  | k + 1, r, n => if (r + 2 ^ k) * (r + 2 ^ k) ≤ n then isqrtAux k (r + 2 ^ k) n else isqrtAux k r n

/-- ⌊√n⌋. -/
def isqrt (n : Nat) : Nat := isqrtAux (Nat.log2 n / 2 + 1) 0 n

/-- The correctly rounded square root of a nonnegative fraction in a format: a scaled integer root with a sticky bit decides the rounding. -/
def Fmt.sqrtQ (f : Fmt) (q : Q) : Nat :=
  if q.isZero then 0
  else
    let n := q.num.natAbs
    let d := q.den
    let e := ilog2 n d
    let k := (f.mb + 4 : Int) - e / 2
    let num := if 0 ≤ k then n * 2 ^ (2 * k).toNat else n
    let den := if 0 ≤ k then d else d * 2 ^ (2 * (-k)).toNat
    let s := num / den
    let r := isqrt s
    let sticky := decide (r * r ≠ s) || decide (num % den ≠ 0)
    f.rneMag (Q.mul ⟨(2 * r + b2n sticky : Nat), 1⟩ (Q.pow2 (-k - 1)))

/-- The correctly rounded FP32 square root (R126). -/
def sqrtF (a : Nat) : Nat :=
  match fp32.dec a with
  | .nan => fp32.nan
  | .inf n => if n then fp32.nan else fp32.infCode
  | .fin n m => if m.isZero then a % (2 * fp32.signBit) else if n then fp32.nan else fp32.sqrtQ m

/-- One of the codes within the given units of an exact positive magnitude, chosen by an index: the neighbours of an inexact value, or the value and its neighbours when it is exact (R126 "at most n ulp"). -/
def nearCode (f : Fmt) (q : Q) (ulp pick : Nat) : Nat :=
  let r := f.floorCode q.num.natAbs q.den
  if r.2.1 = 0 then min (r.1 + pick % (2 * ulp + 1) - ulp) f.infCode
  else min (r.1 + 1 + pick % (2 * ulp) - ulp) f.infCode

/-- RCP within 1 ulp (R126); special results by IEEE 754-2019. -/
def rcpF (a : Nat) : Nat :=
  match fp32.dec a with
  | .nan => fp32.nan
  | .inf n => if n then fp32.signBit else 0
  | .fin n m =>
    (if m.isZero then fp32.infCode
     else nearCode fp32 (Q.div ⟨1, 1⟩ m) 1 (Config.rcpPick (BitVec.ofNat 32 a))) + (if n then fp32.signBit else 0)

/-- RSQRT within 1 ulp (R126): chosen between the neighbours of the root of the reciprocal. -/
def rsqrtF (a : Nat) : Nat :=
  match fp32.dec a with
  | .nan => fp32.nan
  | .inf n => if n then fp32.nan else 0
  | .fin n m =>
    if m.isZero then fp32.infCode + (if n then fp32.signBit else 0)
    else if n then fp32.nan
    else
      let c := fp32.sqrtQ (Q.div ⟨1, 1⟩ m)
      let v := fp32.magOf c
      let exact := decide (Q.mul (Q.mul v v) m = ⟨1, 1⟩) || (let p := Q.mul (Q.mul v v) m; decide (p.num = p.den))
      let excess := Q.lt ⟨1, 1⟩ (Q.mul (Q.mul v v) m)
      let k := Config.rsqrtPick (BitVec.ofNat 32 a)
      if exact then c + k % 3 - 1 else if excess then c - k % 2 else c + k % 2

/-- acc × 2^(f ÷ 2^k) in units of 2^−256 for f below 2^k, rounded down; c is 2^(2^−i) for the bits already taken. -/
def exp2Bits : Nat → Nat → Nat → Nat → Nat
  | 0, _, _, acc => acc
  | k + 1, c, f, acc =>
    let c := isqrt (c * 2 ^ 256)
    if 2 ^ k ≤ f then exp2Bits k c (f - 2 ^ k) (acc * c / 2 ^ 256) else exp2Bits k c f acc

/-- 2^x for a dyadic x, to 240 bits, with a sticky bit below them when x is no integer (log 10); x is kept within ±200, beyond every FP32 exponent. -/
def exp2Q (x : Q) : Q :=
  let i := x.floor
  if 200 ≤ i then Q.pow2 200
  else if i < -200 then Q.mul ⟨3, 2⟩ (Q.pow2 (-201))
  else
    let f := (x.num - i * x.den).toNat
    Q.mul ⟨(2 * exp2Bits (Nat.log2 x.den) (2 ^ 257) f (2 ^ 256) + b2n (decide (f ≠ 0)) : Nat), 1⟩ (Q.pow2 (i - 257))

/-- EXP2 within 2 ulp (R126); special results by IEEE 754-2019. -/
def exp2F (a : Nat) : Nat :=
  match fp32.dec a with
  | .nan => fp32.nan
  | .inf n => if n then 0 else fp32.infCode
  | .fin n m =>
    if m.isZero then 0x3F800000 else nearCode fp32 (exp2Q (Num.fin n m).val) 2 (Config.exp2Pick (BitVec.ofNat 32 a))

/-- k bits of log2 of y ÷ 2^256 in [1, 2) behind the bits acc, by repeated squaring. -/
def log2Bits : Nat → Nat → Nat → Nat
  | 0, _, acc => acc
  | k + 1, y, acc =>
    let z := y * y / 2 ^ 256
    if 2 ^ 257 ≤ z then log2Bits k (z / 2) (2 * acc + 1) else log2Bits k z (2 * acc)

/-- log2 of a positive dyadic m, to 160 bits, with a sticky bit below them when m is no power of two (log 10). -/
def log2Q (m : Q) : Q :=
  let n := m.num.natAbs
  let e := ilog2 n m.den
  let y := if 0 ≤ e then n * 2 ^ 256 / (m.den * 2 ^ e.toNat) else n * 2 ^ 256 * 2 ^ (-e).toNat / m.den
  if y = 2 ^ 256 then Q.ofInt e
  else ⟨e * 2 ^ 161 + (2 * log2Bits 160 y 0 + 1 : Nat), 2 ^ 161⟩

/-- ln of a positive dyadic, from its logarithm to base 2 and ln 2 to 256 bits (log 10). -/
def lnQ (m : Q) : Q :=
  Q.mul (log2Q m) ⟨80260960185991308862233904206310070533990667611589946606122867505419956976171, 2 ^ 256⟩

/-- 2π to 256 bits. -/
def twoPiQ : Q := ⟨727543153783532648560469885555459725306786754656784859917544302235877788932370, 2 ^ 256⟩

/-- Terms of the series of cos and sin, scaled by 2^256, from a term of power n on; x2 is the square of the argument. -/
def trigSum : Nat → Int → Int → Nat → Int
  | 0, _, _, _ => 0
  | k + 1, x2, term, n => term + trigSum k x2 (-(term * x2 / 2 ^ 256) / ((n + 1) * (n + 2) : Nat)) (n + 2)

/-- cos and sin of an angle up to 2π, to 240 bits (log 10). -/
def cosQ (x : Q) : Q :=
  let f := x.num * 2 ^ 256 / (x.den : Int)
  ⟨trigSum 64 (f * f / 2 ^ 256) (2 ^ 256) 0, 2 ^ 256⟩
@[inherit_doc cosQ] def sinQ (x : Q) : Q :=
  let f := x.num * 2 ^ 256 / (x.den : Int)
  ⟨trigSum 64 (f * f / 2 ^ 256) f 1, 2 ^ 256⟩

/-- An FP64 value within 1 ulp of an exact one, chosen by an index (R269). -/
def nearQ (q : Q) (pick : Nat) : Q :=
  let m := (fp64.dec (nearCode fp64 q.abs 1 pick)).val
  if q.isNeg then m.neg else m

/-- An FP64 value within 1 ulp of the root of an exact one, chosen by an index: the root's neighbours, with itself where it is exact (R269). -/
def nearRoot (q : Q) (pick : Nat) : Q :=
  let c := fp64.sqrtQ q
  let v := (fp64.dec c).val
  let w := Q.mul v v
  let k := if Q.lt w q then c + pick % 2 else if Q.lt q w then c - pick % 2 else c + pick % 3 - 1
  (fp64.dec k).val

/-- LOG2 within 2 ulp (R126): LOG2(0) is −infinity, of a negative number NaN. -/
def log2F (a : Nat) : Nat :=
  match fp32.dec a with
  | .nan => fp32.nan
  | .inf n => if n then fp32.nan else fp32.infCode
  | .fin n m =>
    if m.isZero then fp32.infCode + fp32.signBit
    else if n then fp32.nan
    else
      let q := log2Q m
      nearCode fp32 q.abs 2 (Config.log2Pick (BitVec.ofNat 32 a)) + (if q.isNeg then fp32.signBit else 0)

/-- FP32 to another format, to nearest even (R62, R63). -/
def convF (f : Fmt) (a : Nat) : Nat := f.ofNum (fp32.dec a)

/-- a < b, false when either is NaN. -/
def ltF (a b : Nat) : Bool :=
  match fp32.dec a, fp32.dec b with
  | .nan, _ => false
  | _, .nan => false
  | .inf x, .inf y => x && !y
  | .inf x, _ => x
  | _, .inf y => !y
  | .fin x p, .fin y q => Q.lt (Num.fin x p).val (Num.fin y q).val

/-- a = b as numbers, false when either is NaN. -/
def eqF (a b : Nat) : Bool :=
  match fp32.dec a, fp32.dec b with
  | .fin x p, .fin y q => !(Q.lt (Num.fin x p).val (Num.fin y q).val) && !(Q.lt (Num.fin y q).val (Num.fin x p).val)
  | .inf x, .inf y => x == y
  | _, _ => false

/-- The nearest integer, ties to even. -/
def Q.rneInt (q : Q) : Int :=
  let f := q.floor
  let r := 2 * (q.num - f * q.den)
  if r < q.den then f else if r = q.den then (if f % 2 = 0 then f else f + 1) else f + 1

/-! ### UE5M3 block scales (R48, R49) -/

/-- The value of a scale code (R48): zero and reserved codes read 0; 0xFF has no value here. -/
def ue5m3 (c : Nat) : Q :=
  if c < 8 then ⟨0, 1⟩ else Q.mul ⟨(8 + c % 8 : Nat), 8⟩ (Q.pow2 ((c / 8 : Nat) - 15 : Int))

/-- A reserved scale code (R48). -/
def scaleReserved (c : Nat) : Bool := decide (1 ≤ c ∧ c ≤ 7)

/-- The floor code of a positive value on the grid 0x08 to 0xFE and whether it is exact. -/
def ue5m3Floor (q : Q) : Nat × Nat × Nat :=
  (Fmt.mk 5 3).floorCode q.num.natAbs q.den

/-- The smallest code whose value is at least y, and whether it saturated (R49). -/
def ue5m3Up (y : Q) : Nat × Bool :=
  if y.isZero then (0, false)
  else if Q.le y (Q.pow2 (-14)) then (0x08, false)
  else if Q.lt ⟨114688, 1⟩ y then (0xFE, true)
  else
    let r := ue5m3Floor y
    (if r.2.1 = 0 then r.1 else r.1 + 1, false)

/-! ### Element formats (R44 to R47, R58, R60, R61) -/

/-- F4 magnitudes in units of one half (R44). -/
def f4Halves : Nat → Nat
  | 0 => 0 | 1 => 1 | 2 => 2 | 3 => 3 | 4 => 4 | 5 => 6 | 6 => 8 | _ => 12

/-- The value of an F4 code other than the escape (R44). -/
def f4Val (c : Nat) : Q := ⟨(f4Halves (c % 8) : Int) * (if c % 16 < 8 then 1 else -1), 2⟩

/-- The value of a G4 code other than the escape (R46). -/
def g4Val (c : Nat) : Q :=
  ⟨(if c % 8 = 0 then 0 else (2 ^ (c % 8 - 1) : Nat) : Int) * (if c % 16 < 8 then 1 else -1), 64⟩

/-- The F4 code of a magnitude to nearest, ties to the code whose bit 0 is 0; and whether it saturated (R45). -/
def f4Mag (m : Q) : Nat × Bool :=
  let h := fun (n d : Nat) => Q.le m ⟨n, d⟩
  let l := fun (n d : Nat) => Q.lt m ⟨n, d⟩
  if h 1 4 then (0, false) else if l 3 4 then (1, false) else if h 5 4 then (2, false)
  else if l 7 4 then (3, false) else if h 5 2 then (4, false) else if l 7 2 then (5, false)
  else if h 5 1 then (6, false) else (7, Q.lt ⟨6, 1⟩ m)

/-- F4 quantisation of y (R45): code and saturation. -/
def f4Enc (y : Q) : Nat × Bool :=
  let r := f4Mag y.abs
  (if r.1 = 0 then 0 else r.1 + (if y.isNeg then 8 else 0), r.2)

/-- G4 quantisation of y with 24 random bits (R47, R73), between the magnitudes that bracket |y|: code and saturation. -/
def g4Enc (y : Q) (r : Nat) : Nat × Bool :=
  let m := y.abs
  if y.isZero then (0, false)
  else if Q.lt ⟨1, 1⟩ m then (7 + (if y.isNeg then 8 else 0), true)
  else
    let k := if Q.lt m ⟨1, 64⟩ then 0 else (ilog2 m.num.natAbs m.den + 7).toNat
    let lo := (g4Val k)
    let hi := (g4Val (k + 1))
    if k = 7 then (7 + (if y.isNeg then 8 else 0), false)
    else
      let fr := Q.div (Q.sub m lo) (Q.sub hi lo)
      let c := if (r : Int) < (Q.mul fr ⟨2 ^ 24, 1⟩).floor then k + 1 else k
      (if c = 0 then 0 else c + (if y.isNeg then 8 else 0), false)

/-- E4M3 (R58): no infinity, NaN 0x7F and 0xFF. -/
def e4m3Dec (c : Nat) : Num :=
  let neg := decide (128 ≤ c % 256)
  if c % 128 = 127 then .nan else .fin neg ((Fmt.mk 4 3).magOf (c % 128))

/-- E5M2 (R58). -/
def e5m2Dec (c : Nat) : Num := (Fmt.mk 5 2).dec c

/-- FP8 quantisation to nearest even, saturating (R60): code and saturation. -/
def fp8Enc (e5 : Bool) (y : Q) : Nat × Bool :=
  let f : Fmt := if e5 then ⟨5, 2⟩ else ⟨4, 3⟩
  let top := if e5 then 0x7B else 0x7E
  let r := f.floorCode y.num.natAbs y.den
  let up := decide (r.2.2 < 2 * r.2.1) || (decide (r.2.2 = 2 * r.2.1) && r.1 % 2 == 1)
  let c := r.1 + b2n up
  let sat := Q.lt (f.magOf top) y.abs
  let m := if sat then top else min c top
  (if m = 0 then 0 else m + (if y.isNeg then 128 else 0), sat)

/-- The target that R84 gives a block maximum: formats F4, G4, E4M3, E5M2 by their code (R42). -/
def scaleTarget (format : Nat) (a : Q) : Q :=
  if format = 0 then Q.div a ⟨6, 1⟩
  else if format = 2 then Q.div a ⟨448, 1⟩
  else if format = 3 then Q.div a ⟨57344, 1⟩
  else a

/-- pow2_scale of R205: the code of 2^⌈log2 y⌉ clamped to 0x08 to 0xF8. -/
def pow2Scale (y : Q) : Nat :=
  if y.isZero then 0x08
  else
    let n := y.num.natAbs
    let fl := ilog2 n y.den
    let e := if Q.lt (Q.pow2 fl) y.abs then fl + 1 else fl
    let e := clampI (-14) 16 e
    ((e + 15).toNat) * 8

/-- Stochastic rounding on the E4M3 grid, saturating at ±448 (R205): code and saturation. -/
def e4m3Sr (y : Q) (r : Nat) : Nat × Bool :=
  if Q.lt ⟨448, 1⟩ y.abs then (0x7E + (if y.isNeg then 128 else 0), true)
  else
    let m := if y.isZero then 0 else (Fmt.mk 4 3).srMag 0x7F y r
    (if m = 0 then 0 else m + (if y.isNeg then 128 else 0), false)

/-- Stochastic rounding on the grid 0, 2^−14, ..., 114,688 of UE5M3 (R205): code and saturation. -/
def ue5m3Sr (y : Q) (r : Nat) : Nat × Bool :=
  if y.isZero then (0, false)
  else if Q.lt ⟨114688, 1⟩ y then (0xFE, true)
  else if Q.lt y (Q.pow2 (-14)) then
    (if (r : Int) < (Q.mul (Q.div y (Q.pow2 (-14))) ⟨2 ^ 24, 1⟩).floor then 0x08 else 0, false)
  else
    let c := ue5m3Floor y
    (if c.2.1 = 0 then c.1 else if r < c.2.1 * 2 ^ 24 / c.2.2 then c.1 + 1 else c.1, false)

/-- Stochastic rounding to an integer in hash domain 3, limited to ±32,767 (R64): value and saturation. -/
def i16Sr (y : Q) (r : Nat) : Int × Bool :=
  let f := y.floor
  let fr := Q.sub y (Q.ofInt f)
  let v := if fr.isZero then f else if (r : Int) < (Q.mul fr ⟨2 ^ 24, 1⟩).floor then f + 1 else f
  (clampI (-32767) 32767 v, Q.lt ⟨32767, 1⟩ y.abs)

end Sys2Proof.Machine
end

