-- ==== Sys2Proof/Machine/Flags.lean ====
section
/-! DEFINITION. Flags of a core (R76, R129), the first-non-finite capture (R130) and the bed's per-step latch (R131). -/

namespace Sys2Proof.Machine

/-! ### Flags and captures (R129 to R131) -/

/-- Flags raised on a core (R129). -/
def State.raiseFlags (s : State) (n : Nat) (fl : Flags) : State :=
  if fl.code = 0 then s else s.put (pgCore .coreSub0 n) .CORE_FLAGS (s.get (pgCore .coreSub0 n) .CORE_FLAGS ||| fl.code)

/-- What R130 captures of a result. -/
structure CapInfo where
  source : Nat
  ctx : Nat
  stream : Nat
  entry : Nat
  frame : Nat
  cycle : Nat
  opId : Nat
  layer : Nat
  rowBlk : Nat
  colBlk : Nat
  pos : Nat
  deriving DecidableEq, Repr

/-- NFC_CTL to NFC_POS of a capture as bytes 8 to 27 of record 0x0541 (R390). -/
def capPayload (kind : Nat) (i : CapInfo) : List Byte :=
  leBytes 4 (1 + 2 * kind + 4 * i.source + 32 * i.ctx + 256 * i.stream + 65536 * i.entry) ++ leBytes 4 (i.cycle % 2 ^ 18) ++
    leBytes 4 i.opId ++ leBytes 2 i.layer ++ leBytes 2 i.rowBlk ++ leBytes 2 i.colBlk ++ leBytes 2 i.pos

/-- A capture that comes before the bed's latched one: by (FRAME, CYCLE, core) (R131). -/
def captureBefore (a b : Capture) : Bool :=
  decide (a.frame < b.frame) || (a.frame == b.frame && (decide (a.cycle < b.cycle) || (a.cycle == b.cycle && decide (a.core < b.core))))

/-- A capture entered into the bed's per-step latch (R131); one of the same core and cycle replaces the capture that it replaced there (R130). -/
def State.latchCapture (s : State) (b : Nat) (c : Capture) : State :=
  let x := s.bed b
  s.setBed b { x with
    nfFirst := match x.nfFirst with
      | none => some c
      | some o => if captureBefore o c then some o else some c
    nfCores := setMark x.nfCores c.core true }

/-- A result comes before the capture that a core holds (R130): by frame, cycle, source, then position or lane. -/
def State.beforeHeld (s : State) (n : Nat) (i : CapInfo) : Bool :=
  let p := pgCore .coreSub1 n
  lexBefore [i.frame, i.cycle, i.source, i.pos]
    [s.get p .NFC_FRAME, s.get p .NFC_CYCLE, s.get p .NFC_SOURCE, s.get p .NFC_POS]

/-- An INV or OVF result of a core (R130): captured when no capture is held, or when it comes before the held one, whatever the order of the commands that form the two. -/
def State.captureNf (s : State) (b c : Nat) (fl : Flags) (i : CapInfo) : State :=
  let n := coreNo b c
  let p := pgCore .coreSub1 n
  if !(fl.inv || fl.ovf) || (s.flag p .NFC_VALID && !s.beforeHeld n i) then s
  else
    let s := (((s.put p .NFC_VALID 1).put p .NFC_KIND (b2n (!fl.inv))).put p .NFC_SOURCE i.source).put p .NFC_CONTEXT i.ctx
    let s := (((s.put p .NFC_STREAM i.stream).put p .NFC_SLOT i.entry).put p .NFC_CYCLE i.cycle).put p .NFC_FRAME i.frame
    let s := (((s.put p .NFC_OP i.opId).put p .NFC_LAYER i.layer).put p .NFC_ROW_BLK i.rowBlk).put p .NFC_COL_BLK i.colBlk
    (s.put p .NFC_POS i.pos).latchCapture b ⟨c, i.frame, i.cycle, capPayload (b2n (!fl.inv)) i⟩

/-- Flags and capture of one result. -/
def State.result (s : State) (b c : Nat) (fl : Flags) (i : CapInfo) : State :=
  (s.raiseFlags (coreNo b c) fl).captureNf b c fl i

end Sys2Proof.Machine
end

