-- ==== Sys2Proof/Machine/Tiles.lean ====
section
/-! DEFINITION. Reading tiles (R43 to R62, R187, R391): block scales, element codes, side lists, and what a poisoned line reads as. -/

namespace Sys2Proof.Machine

/-- An element without T (R43, R69): a code's value, or an escaped element with its side-list value. -/
inductive Elem where
  | code (v : Num)
  | esc (v : Num)
  deriving DecidableEq, Repr

/-- A block as an engine reads it: its effective scale code (0xFF poisoned) and its elements; blocks of formats without scales carry 0x78, which is 1.0. -/
structure Block where
  scale : Nat
  elems : List Elem
  deriving DecidableEq, Repr

/-- Bytes of one tile in local store: its span and, with escapes, its side list (R181). -/
def Desc.localSpan (d : Desc) : Nat := d.tileBytes + (if d.hasSide then 512 else 0)

/-- The nibble of element i of 4-bit block j of a sheaf (R50, R51). -/
def sheafCode (t : List Byte) (sh j i : Nat) : Nat := bits (fieldAt t (64 * sh + 9 * j + i / 2) 1) (4 * (i % 2)) 4

/-- The scale byte of a sheaf's block. -/
def sheafScale (t : List Byte) (sh j : Nat) : Nat := fieldAt t (64 * sh + 9 * j + 8) 1

/-- Escape codes in a block of a sheaf. -/
def blockEscapes (t : List Byte) (sh j : Nat) : Nat :=
  ((List.range 16).filter fun i => sheafCode t sh j i == 8).length

/-- An inconsistent sheaf (R52). -/
def sheafBad (t : List Byte) (sh : Nat) : Bool :=
  let n := bits (fieldAt t (64 * sh + 63) 1) 0 4
  let es := (List.range 7).map (blockEscapes t sh)
  decide (14 < n) || n != es.foldl (· + ·) 0 || es.any (2 < ·)

/-- The side-list entries of a tile: index and BF16 code (R54). -/
def sideEntries (t : List Byte) (d : Desc) : List (Nat × Nat) :=
  (List.range 128).map fun e => (fieldAt t (d.tileBytes + 4 * e) 2, fieldAt t (d.tileBytes + 4 * e + 2) 2)

/-- The side-list value of a tile index: the first entry with it, or 0 (R56). -/
def sideValue (t : List Byte) (d : Desc) (k : Nat) : Num :=
  match (sideEntries t d).find? fun e => e.1 == k with
  | some e => bf16.dec e.2
  | none => .fin false ⟨0, 1⟩

/-- A signed number as an element value. -/
def intNum (x : Int) : Num := .fin (decide (x < 0)) ⟨x.natAbs, 1⟩

/-- The value of a 4-bit code that is no escape. -/
def nibbleNum (format c : Nat) : Num :=
  let q := if format = fmtF4 then f4Val c else g4Val c
  .fin (decide (8 ≤ c)) q.abs

/-- Block q of a tile: elements with tile indices from q × blockSize (R50 to R61). -/
def tileBlock (d : Desc) (t : List Byte) (q : Nat) : Block :=
  if d.format ≤ 1 then
    let sh := q / 7
    let j := q % 7
    let s := if sheafBad t sh then 0xFF else sheafScale t sh j
    ⟨s, (List.range 16).map fun i =>
      let c := sheafCode t sh j i
      if c = 8 then .esc (sideValue t d (16 * q + i)) else .code (nibbleNum d.format c)⟩
  else if d.format = fmtE4M3 || d.format = fmtE5M2 then
    let g := q / 31
    let k := q % 31
    ⟨fieldAt t (1024 * g + 992 + k) 1, (List.range 32).map fun i =>
      let c := fieldAt t (1024 * g + 32 * k + i) 1
      .code (if c = 0x80 then .fin false ⟨0, 1⟩ else if d.format = fmtE4M3 then e4m3Dec c else e5m2Dec c)⟩
  else if d.format = fmtINT4 then
    ⟨0x78, (List.range 16).map fun i => .code (intNum (sext 4 (bits (fieldAt t (8 * q + i / 2) 1) (4 * (i % 2)) 4)))⟩
  else if d.format = fmtINT8 then
    ⟨0x78, (List.range 32).map fun i => .code (intNum (sext 8 (fieldAt t (32 * q + i) 1)))⟩
  else if d.format = fmtBF16 then ⟨0x78, [.code (bf16.dec (fieldAt t (2 * q) 2)), .code (bf16.dec (fieldAt t (2 * q + 2) 2))]⟩
  else ⟨0x78, []⟩

/-- The value of an element without T: v of an escape, e × s of a code (R69); a zero or reserved scale reads 0, a poisoned block NaN (R48). -/
def elemNum (scale : Nat) (e : Elem) : Num :=
  if scale = 0xFF then .nan
  else if scale < 8 then .fin false ⟨0, 1⟩
  else match e with
    | .esc v => v
    | .code v => mulNum v (.fin false (ue5m3 scale))

/-- The value without T of one tile index, for every format (R43, R62, R63); an I16 tensor in memory is a reduced gradient, S_i × 2^EXP of its part (R64, R257). -/
def tileElem (d : Desc) (t : List Byte) (k : Nat) : Num :=
  if d.format ≤ 3 then
    let b := tileBlock d t (k / d.blockSize)
    elemNum b.scale (b.elems.getD (k % d.blockSize) (.code (.fin false ⟨0, 1⟩)))
  else if d.format = fmtINT4 then intNum (sext 4 (bits (fieldAt t (k / 2) 1) (4 * (k % 2)) 4))
  else if d.format = fmtINT8 then intNum (sext 8 (fieldAt t k 1))
  else if d.format = fmtBF16 then bf16.dec (fieldAt t (2 * k) 2)
  else if d.format = fmtFP32 then fp32.dec (fieldAt t (4 * k) 4)
  else if d.format = fmtW40 then w40.dec (fieldAt t (5 * k) 5)
  else mulNum (intNum (sext 32 (fieldAt t (64 + 4 * k) 4))) (.fin false (Q.pow2 (sext 8 (fieldAt t (16 * (k / 1024) + 11) 1))))

/-! ### Faulty encodings (R48, R52, R56, R390) -/

/-- The faults of a tile's bytes: kind of record 0x0540 and the address of the line within span or side list. -/
def tileFaults (d : Desc) (t : List Byte) (tile : Nat) : List (Nat × Nat) :=
  let at_ := fun (o : Nat) => d.base + tile * d.tileBytes + 64 * (o / 64)
  if d.format ≤ 1 then
    let sheaves := List.range (ceilDiv d.positions 112)
    let res := sheaves.flatMap fun sh => (List.range 7).filterMap fun j =>
      if !sheafBad t sh && scaleReserved (sheafScale t sh j) then some (1, at_ (64 * sh)) else none
    let bad := sheaves.filterMap fun sh => if sheafBad t sh then some (2, at_ (64 * sh)) else none
    let es := if d.hasSide then (sideEntries t d).filter fun e => e.1 != 0xFFFF else []
    let isEsc := fun (k : Nat) => sheafCode t (k / 112) (k % 112 / 16) (k % 16) == 8
    let none3 := sheaves.flatMap fun sh => (List.range 112).filterMap fun i =>
      let k := 112 * sh + i
      if decide (k < d.positions) && !sheafBad t sh && decide (8 ≤ sheafScale t sh (i / 16)) && isEsc k
          && !(es.any fun e => e.1 == k) then some (3, at_ (64 * sh)) else none
    let sideLine := fun (n : Nat) => d.side + 512 * tile + 64 * (n / 16)
    let numbered := (List.range es.length).zip es
    let ent4 := numbered.filterMap fun e =>
      if decide (e.2.1 < d.positions) && isEsc e.2.1 then none else some (4, sideLine e.1)
    let dup5 := numbered.filterMap fun e =>
      if (es.take e.1).any fun x => x.1 == e.2.1 then some (5, sideLine e.1) else none
    res ++ bad ++ none3 ++ ent4 ++ dup5
  else if d.format ≤ 3 then
    (List.range (ceilDiv d.positions 32)).filterMap fun q =>
      if scaleReserved (fieldAt t (1024 * (q / 31) + 992 + q % 31) 1) then
        some (1, at_ (1024 * (q / 31) + 992 + q % 31)) else none
  else []

/-- The faults of a tile that a core reads: RSV set and record 0x0540 for each (R48, R52, R56). -/
def State.tileFaulted (s : State) (b c : Nat) (d : Desc) (t : List Byte) (tile : Nat) : State :=
  (tileFaults d t tile).foldl (fun s x =>
    (s.raiseFlags (coreNo b c) ⟨false, false, false, true⟩).record 0x0540 (pgCore .coreSub0 (coreNo b c))
      (leBytes 1 x.1 ++ [0] ++ leBytes 2 c ++ [0, 0, 0, 0] ++ leBytes 8 x.2)) s

/-! ### Poisoned lines as their consumer reads them (R187) -/

/-- Bytes with some replaced from an offset. -/
def splice (l : List Byte) (o : Nat) (x : List Byte) : List Byte := l.take o ++ x ++ l.drop (o + x.length)

/-- A sheaf whose seven blocks are poisoned. -/
def poisonSheaf : List Byte := (List.replicate 7 (List.replicate 8 (0 : Byte) ++ [0xFF])).flatten ++ [0]

/-- The bytes of a tile with some of its lines poisoned, as the consumer reads them: bad lists line numbers within the span, badSide those of the side list. -/
def poisonTile (d : Desc) (t : List Byte) (bad : List Nat) (badSide : Bool) : List Byte :=
  let t := bad.foldl (fun t l =>
    if d.format ≤ 1 then splice t (64 * l) poisonSheaf
    else if d.format ≤ 3 then
      let g := l / 16
      let k := l % 16
      let scales := if k = 15 then (List.range 32).filter fun q => (992 + q) / 64 == 15 && q < 31
        else [2 * k, 2 * k + 1].filter (· < 31)
      let scales := if k = 15 then scales ++ [30] else scales
      scales.foldl (fun t q => splice t (1024 * g + 992 + q) [0xFF]) t
    else if d.format = fmtBF16 then splice t (64 * l) ((List.replicate 32 (leBytes 2 bf16.nan)).flatten)
    else if d.format = fmtFP32 then splice t (64 * l) ((List.replicate 16 (leBytes 4 fp32.nan)).flatten)
    else splice t (64 * l) (List.replicate 64 0)) t
  if badSide && d.format ≤ 1 then
    (List.range (ceilDiv d.positions 112)).foldl (fun t sh =>
      (List.range 7).foldl (fun t j =>
        if blockEscapes t sh j = 0 then t else splice t (64 * sh + 9 * j + 8) [0xFF]) t) t
  else t

/-- The flag that a poisoned line raises in its reader: INV for floating formats, RSV for integers (R77, R187). -/
def poisonFlag (d : Desc) : Flags :=
  if d.format = fmtINT4 || d.format = fmtINT8 || d.format = fmtI16 then ⟨false, false, false, true⟩
  else ⟨true, false, false, false⟩

end Sys2Proof.Machine
end

