-- ==== Sys2Proof/Machine/Matrix.lean ====
section
/-! DEFINITION. The matrix engines (R66 to R72, R108 to R119): operands from local store, block dots, corrections, accumulation and spills, masks, per-example norm mode, and a block's begin and end. -/

namespace Sys2Proof.Machine

/-! ### Products and operands (R108, R109) -/

/-- The products of R108: forward, data gradient, weight gradient. -/
inductive Product where
  | fwd | dx | dw
  deriving DecidableEq, Repr

/-- Operand A's reduction index runs down its rows (R108). -/
def downA : Product → Bool
  | .fwd => false
  | .dx => false
  | .dw => true
/-- Operand B's reduction index runs down its rows (R108). -/
def downB : Product → Bool
  | .fwd => true
  | .dx => false
  | .dw => true

/-- Elements of one K-unit: a block, or two elements of BF16 (R110). -/
def unitSize (d : Desc) : Nat := if d.format = fmtBF16 then 2 else d.blockSize
/-- Cycles per K-unit (R110). -/
def unitCycles (d : Desc) : Nat := if d.format = fmtE4M3 || d.format = fmtE5M2 || d.format = fmtINT8 then 4 else 1
/-- Partials per K-unit: BF16 counts its two products (R72). -/
def unitPartials (d : Desc) : Nat := if d.format = fmtBF16 then 2 else 1
/-- An integer operand (R61). -/
def intFormat (d : Desc) : Bool := d.format == fmtINT4 || d.format == fmtINT8
/-- A block-scaled format (R42). -/
def scaledFormat (d : Desc) : Bool := decide (d.format ≤ 3)

/-- A block-scaled operand is blocked along the product's reduction axis, a rotated one rotated along it (R92, R109). -/
def axisOk (d : Desc) (down : Bool) : Bool := (!scaledFormat d && d.rotSize == 0) || d.axisCol == down

/-- Extent of an operand along the reduction axis, and across it. -/
def redExtent (d : Desc) (down : Bool) : Nat := if down then d.rows else d.cols
@[inherit_doc redExtent] def outExtent (d : Desc) (down : Bool) : Nat := if down then d.cols else d.rows
/-- Tile side of an operand along the reduction axis, and across it. -/
def redTile (d : Desc) (down : Bool) : Nat := if down then d.rt else d.ct
@[inherit_doc redTile] def outTile (d : Desc) (down : Bool) : Nat := if down then d.ct else d.rt

/-- The product that an engine forms: its own, or in an inference armature a forward product on BE-D or BE-W, which it is where its operands' blocking and extents are those of one (R15, R108; log 25). -/
def productOf (f : File) (e : Nat) (a b : Desc) : Product :=
  let fwd := axisOk a (downA .fwd) && axisOk b (downB .fwd) && redExtent a (downA .fwd) == redExtent b (downB .fwd)
  if e = 0 || (armInference f && fwd) then .fwd else if e = 1 then .dx else .dw

/-- One operand as a block reads it: its descriptor, axis, local address, K range in units and range across. -/
structure Operand where
  d : Desc
  down : Bool
  addr : Nat
  kFirst : Nat
  kCount : Nat
  oFirst : Nat
  oCount : Nat
  deriving DecidableEq, Repr

namespace Operand

/-- First and last tile of the operand along the reduction axis. -/
def kTiles (o : Operand) : Nat × Nat :=
  let u := unitSize o.d
  (o.kFirst * u / redTile o.d o.down, (min ((o.kFirst + o.kCount) * u) (redExtent o.d o.down) - 1) / redTile o.d o.down)
/-- First and last tile across; positions beyond the extent have none. -/
def oTiles (o : Operand) : Nat × Nat :=
  (o.oFirst / outTile o.d o.down, (min (o.oFirst + o.oCount) (outExtent o.d o.down) - 1) / outTile o.d o.down)
/-- The local address of a tile of the region: ascending along K, then across, each span followed by its side list (log 25). -/
def tileAddr (o : Operand) (kt ot : Nat) : Nat :=
  let n := o.oTiles.2 - o.oTiles.1 + 1
  o.addr + ((kt - o.kTiles.1) * n + (ot - o.oTiles.1)) * o.d.localSpan
/-- Tile number in the tensor (R391). -/
def tileNo (o : Operand) (kt ot : Nat) : Nat := if o.down then kt * o.d.tilesC + ot else ot * o.d.tilesC + kt
/-- Every tile of the region with its local address and tile number. -/
def tiles (o : Operand) : List (Nat × Nat) :=
  (List.range (o.kTiles.2 - o.kTiles.1 + 1)).flatMap fun i =>
    (List.range (o.oTiles.2 - o.oTiles.1 + 1)).map fun j =>
      (o.tileAddr (o.kTiles.1 + i) (o.oTiles.1 + j), o.tileNo (o.kTiles.1 + i) (o.oTiles.1 + j))

end Operand

/-- The tile of an operand that holds reduction index k at a position across, as local store holds it. -/
def State.operandTile (s : State) (n : Nat) (o : Operand) (pos k : Nat) : List Byte :=
  s.localBytesAt n (o.tileAddr (k / redTile o.d o.down) (pos / outTile o.d o.down)) o.d.localSpan

/-- The tile index of reduction index k at a position across (R391). -/
def Operand.index (o : Operand) (pos k : Nat) : Nat :=
  let ki := k % redTile o.d o.down
  let oi := pos % outTile o.d o.down
  if o.down then o.d.tileIndex ki oi else o.d.tileIndex oi ki

/-- K-unit k of an operand at a position across: a block with its scale and elements, each element without a scale from its own tile; beyond the extents it is zero (R391 padding). -/
def State.unitAt (s : State) (n : Nat) (o : Operand) (pos k : Nat) : Block :=
  let u := unitSize o.d
  if outExtent o.d o.down ≤ pos then ⟨0, List.replicate u (.code (.fin false ⟨0, 1⟩))⟩
  else if scaledFormat o.d then tileBlock o.d (s.operandTile n o pos (k * u)) (o.index pos (k * u) / u)
  else ⟨0x78, (List.range u).map fun i =>
    if redExtent o.d o.down ≤ k * u + i then .code (.fin false ⟨0, 1⟩)
    else .code (tileElem o.d (s.operandTile n o pos (k * u + i)) (o.index pos (k * u + i)))⟩

/-! ### One K-unit into one position (R66 to R72) -/

/-- The exact sum of two numbers, with the special results of R77. -/
def addNum (a b : Num) : Num :=
  match a, b with
  | .nan, _ => .nan
  | _, .nan => .nan
  | .inf x, .inf y => if x = y then .inf x else .nan
  | .inf x, _ => .inf x
  | _, .inf y => .inf y
  | .fin x p, .fin y q =>
    let v := Q.add (Num.fin x p).val (Num.fin y q).val
    .fin v.isNeg v.abs

/-- Two elements of a K-unit with their mask bit: true counts (R117). -/
abbrev Pairs := List (Elem × Elem × Bool)

/-- The elements of two blocks side by side under a row mask. -/
def pairUp (a b : Block) (mask : Nat → Bool) : Pairs :=
  (List.range a.elems.length).map fun i =>
    (a.elems.getD i (.code (.fin false ⟨0, 1⟩)), b.elems.getD i (.code (.fin false ⟨0, 1⟩)), mask i)

/-- The exact dot of the pairs in which neither element is escaped and the mask bit is 1 (R67, R117). -/
def dotNum (l : Pairs) : Num :=
  l.foldl (fun acc x => match x with
    | (.code p, .code q, true) => addNum acc (mulNum p q)
    | _ => acc) (.fin false ⟨0, 1⟩)

/-- The partial of a block pair (R68): NaN where a scale is 0xFF, 0 where one is zero or reserved, else the dot times both scales, rounded once. -/
def partialF (sa sb : Nat) (dot : Num) : Nat :=
  if sa = 0xFF || sb = 0xFF then fp32.nan
  else if sa < 8 || sb < 8 then 0
  else fp32.ofNum (mulNum dot (.fin false (Q.mul (ue5m3 sa) (ue5m3 sb))))

/-- Either element of an unmasked pair is escaped (R69). -/
def pairEscaped : Elem × Elem × Bool → Bool
  | (.code _, .code _, _) => false
  | (_, _, m) => m

/-- The corrections of a block pair in ascending element order (R69). -/
def correctionsF (sa sb : Nat) (l : Pairs) : List Nat :=
  (l.filter pairEscaped).map fun x => fp32.ofNum (mulNum (elemNum sa x.1) (elemNum sb x.2.1))

/-- The FP32 terms that one K-unit adds to acc, in order (R70, R72). -/
def unitTerms (d : Desc) (a b : Block) (mask : Nat → Bool) : List Nat :=
  let l := pairUp a b mask
  if d.format = fmtBF16 then
    l.map fun x => if x.2.2 then fp32.ofNum (mulNum (elemNum 0x78 x.1) (elemNum 0x78 x.2.1)) else 0
  else partialF a.scale b.scale (dotNum l) :: correctionsF a.scale b.scale l

/-- The exact integer dot of one K-unit (R61, R67). -/
def unitInt (a b : Block) (mask : Nat → Bool) : Int := (dotNum (pairUp a b mask)).val.floor

/-- What a position holds while a block runs: acc and sum codes, partials so far, spill number, INT32 saturations, flags, and the first non-finite result by its K-unit, whether a spill formed it, and its kind (R130). -/
structure Pos where
  acc : Nat
  sum : Nat
  count : Nat
  spill : Nat
  sats : Nat
  fl : Flags
  bad : Option (Nat × Bool × Flags)
  deriving DecidableEq, Repr

/-- A position with given acc, sum, partial count and spill number. -/
def Pos.of (acc sum count spill : Nat) : Pos := ⟨acc, sum, count, spill, 0, Flags.none, none⟩

/-- A result entered into a position's flags; the first INV or OVF is kept with its K-unit and whether it is a spill's. -/
def Pos.note (p : Pos) (m : Nat) (spilled : Bool) (f : Flags) : Pos :=
  { p with fl := p.fl.or f, bad := match p.bad with
      | some x => some x
      | none => if f.inv || f.ovf then some (m, spilled, f) else none }

/-- A spill (R70): sum takes the exact value of sum + acc, stochastically rounded; acc is an FP32 code, or an INT32 pattern. -/
def spillF (int : Bool) (sum acc r : Nat) : Nat :=
  let a := if int then intNum (sext 32 acc) else fp32.dec acc
  match addNum (fp32.dec sum) a with
  | .nan => fp32.nan
  | .inf n => fp32.infCode + (if n then fp32.signBit else 0)
  | .fin n m => fp32.sr (Num.fin n m).val r

/-- The key of a position's spills: seed, STEP, tensor id and element (R74, R75). -/
structure SpillKey where
  seed : Nat
  step : Nat
  tensor : Nat
  element : Nat
  deriving DecidableEq, Repr

/-- The random bits of spill number n (R70, R75: domain 1). -/
def SpillKey.random (k : SpillKey) (n : Nat) : Nat := srBits (srHash k.seed k.step k.tensor (srIndex k.element 1 n))

/-- A position spilled: acc zeroed, spill number advanced. -/
def Pos.doSpill (p : Pos) (int : Bool) (k : SpillKey) (m : Nat) : Pos :=
  let v := spillF int p.sum p.acc (k.random p.spill)
  ({ p with sum := v, acc := 0, spill := p.spill + 1 }).note m true (fp32Flags v)

/-- One more partial counted; every 4,096th spills (R70). -/
def Pos.counted (p : Pos) (int : Bool) (k : SpillKey) (m : Nat) : Pos :=
  let p := { p with count := p.count + 1 }
  if p.count % 4096 = 0 then p.doSpill int k m else p

/-- A term added to acc with its own flags (R70). -/
def Pos.addTerm (p : Pos) (m : Nat) (x : Nat) : Pos :=
  let p := p.note m false (fp32Flags x)
  let v := addF p.acc x
  ({ p with acc := v }).note m false (fp32Flags v)

/-- One K-unit of operands taken into a position. -/
def Pos.unit (p : Pos) (d : Desc) (k : SpillKey) (m : Nat) (a b : Block) (mask : Nat → Bool) : Pos :=
  if intFormat d then
    let v := sext 32 p.acc + unitInt a b mask
    let c := clampI (-2147483648) 2147483647 v
    (({ p with acc := wrap 32 c, sats := p.sats + b2n (decide (c ≠ v)) }).note m false ⟨false, false, decide (c ≠ v), false⟩).counted true k m
  else if d.format = fmtBF16 then
    (unitTerms d a b mask).foldl (fun p x => (p.addTerm m x).counted false k m) p
  else ((unitTerms d a b mask).foldl (fun p x => p.addTerm m x) p).counted false k m

/-! ### Masks (R117) -/

/-- Bit i of a mask that starts at a local byte address. -/
def State.localBit (s : State) (n addr i : Nat) : Bool := bitAt (s.localByte n (addr + i / 8)).toNat (i % 8)

/-- The K-units of a block that its block mask leaves (R117); mask bits are numbered along the whole reduction axis (log 25). -/
def State.unitsOf (s : State) (n : Nat) (m : MatBlk) : List Nat :=
  ((List.range m.kCount).map (· + m.kFirst)).filter fun k => !m.bmaskEn || s.localBit n m.bmaskAddr k

/-- The row mask of element i of K-unit k. -/
def State.rowMask (s : State) (n : Nat) (m : MatBlk) (u k i : Nat) : Bool :=
  !m.rmaskEn || s.localBit n m.rmaskAddr (k * u + i)

/-! ### A tile (R111 to R116) -/

/-- Address of acc of position j of a tile from a slot (R114). -/
def accAddr (slot j : Nat) : Nat := 0x10000 + (slot + j / 1024) * 0x2000 + 4 * (j % 1024)
/-- Address of sum of a position (R114). -/
def sumAddr (slot j : Nat) : Nat := accAddr slot j + 0x1000

/-- The operands of a block. -/
def State.operands (s : State) (b c e : Nat) (m : MatBlk) : Operand × Operand :=
  let da := s.coreDesc b c m.aDesc
  let db := s.coreDesc b c m.bDesc
  let o := s.coreDesc b c m.outDesc
  let p := productOf (s.armOf b) e da db
  (⟨da, downA p, m.aLocal, m.kFirst, m.kCount, m.tileRow * o.rt, o.rt⟩,
   ⟨db, downB p, m.bLocal, m.kFirst, m.kCount, m.tileCol * o.ct, o.ct⟩)

/-- Spills per position while count partials grow by n, and the end-of-K spill (R70). -/
def spillsOf (count n : Nat) (endK : Bool) : Nat :=
  (count + n) / 4096 - count / 4096 + b2n (endK && (count + n) % 4096 != 0)

/-- Cycles of one product of R × C positions without pipeline fill and stalls (R111). -/
def prodCycles (rows cols units cycles spills : Nat) : Nat := ceilDiv rows 8 * ceilDiv cols 8 * (units * cycles + spills)

/-- Cycles of an instruction block without stalls (R111). -/
def blockCycles (o x : Desc) (units spills : Nat) : Nat := prodCycles o.rt o.ct units (unitCycles x) spills + 12

/-- A product that a block forms: its operands, the first position across of each, its extents, the K-units that it takes and the row mask (R108, R111, R117). -/
structure MatProd where
  x : Operand
  y : Operand
  row : Nat
  col : Nat
  rows : Nat
  cols : Nat
  units : List Nat
  mask : Nat → Nat → Bool

/-- The sub-tiles of a product in row-major order (R111). -/
def MatProd.subs (p : MatProd) : List (Nat × Nat) :=
  (List.range (ceilDiv p.rows 8)).flatMap fun i => (List.range (ceilDiv p.cols 8)).map fun j => (i, j)

/-- The positions of a product in row-major order. -/
def MatProd.places (p : MatProd) : List (Nat × Nat) :=
  (List.range p.rows).flatMap fun i => (List.range p.cols).map fun j => (i, j)

/-- The partials of each position that the product's units form (R70, R72). -/
def MatProd.partials (p : MatProd) (units : Nat) : Nat := units * unitPartials p.x.d

/-- K-unit k of the operands of a position, element by element. -/
def State.pairsAt (s : State) (n : Nat) (p : MatProd) (r c k : Nat) : Pairs :=
  pairUp (s.unitAt n p.x (p.row + r) k) (s.unitAt n p.y (p.col + c) k) (p.mask k)

/-- The cycles for which one sub-tile waits for the corrections of a K-unit (R112): ⌈n ÷ 8⌉ − 1. An escape code counts whatever its block's scale is (DESIGN CHOICE, log 100). -/
def State.stallAt (s : State) (n : Nat) (p : MatProd) (sub : Nat × Nat) (k : Nat) : Nat :=
  let mine := p.places.filter fun x => x.1 / 8 == sub.1 && x.2 / 8 == sub.2
  ceilDiv ((mine.map fun x => ((s.pairsAt n p x.1 x.2 k).filter pairEscaped).length).foldl (· + ·) 0) 8 - 1

/-- Correction stall cycles of a sub-tile in some of its K-units. -/
def State.subStall (s : State) (n : Nat) (p : MatProd) (sub : Nat × Nat) (units : List Nat) : Nat :=
  (units.map (s.stallAt n p sub)).foldl (· + ·) 0

/-- Correction stall cycles of a product (R112). -/
def State.corrStall (s : State) (n : Nat) (p : MatProd) : Nat :=
  (p.subs.map fun sub => s.subStall n p sub p.units).foldl (· + ·) 0

/-- Cycles of one sub-tile, for positions with count partials before it (R111, R112). -/
def State.subCycles (s : State) (n : Nat) (p : MatProd) (count : Nat) (endK : Bool) (sub : Nat × Nat) : Nat :=
  p.units.length * unitCycles p.x.d + spillsOf count (p.partials p.units.length) endK + s.subStall n p sub p.units

/-- The cycle at which each sub-tile of a product completes. -/
def State.subEnds (s : State) (n : Nat) (p : MatProd) (count : Nat) (endK : Bool) (start : Nat) : List Nat :=
  (p.subs.foldl (fun (a : Nat × List Nat) sub =>
    let t := a.1 + s.subCycles n p count endK sub
    (t, a.2 ++ [t])) (start, [])).2

/-- The sub-tile of a position, by its place in row-major order (R111). -/
def subTileOf (cols r c : Nat) : Nat := (r / 8) * ceilDiv cols 8 + c / 8

/-- The cycle of a result of a position's u-th K-unit: the sub-tiles before it, then its own units, stalls and spills so far, a spill's own cycle where a spill formed it (R111, R130). -/
def State.resultCycle (s : State) (n : Nat) (p : MatProd) (count : Nat) (ends : List Nat) (start r c u : Nat) (spilled : Bool) : Nat :=
  let sub := subTileOf p.cols r c
  let before := if sub = 0 then start else ends.getD (sub - 1) start
  before + (u + 1) * unitCycles p.x.d + spillsOf count (p.partials u) false +
    s.subStall n p (r / 8, c / 8) (p.units.take (u + 1)) + b2n spilled

/-- A position after a product's K-units, without the end-of-K spill. -/
def State.posRun (s : State) (n : Nat) (p : MatProd) (key : SpillKey) (r c : Nat) (from_ : Pos) : Pos :=
  ((List.range p.units.length).zip p.units).foldl (fun q k =>
    q.unit p.x.d key k.1 (s.unitAt n p.x (p.row + r) k.2) (s.unitAt n p.y (p.col + c) k.2) (p.mask k.2)) from_

/-- The product of a matrix block outside norm mode. -/
def State.prodOf (s : State) (b c e : Nat) (m : MatBlk) : MatProd :=
  let n := coreNo b c
  let o := s.coreDesc b c m.outDesc
  let x := (s.operands b c e m).1
  { x := x, y := (s.operands b c e m).2, row := m.tileRow * o.rt, col := m.tileCol * o.ct, rows := o.rt, cols := o.ct,
    units := s.unitsOf n m, mask := s.rowMask n m (unitSize x.d) }

/-- The state of a position when a block begins: zero for FRESH, else what its slot holds (R115). -/
def State.posAt (s : State) (n : Nat) (m : MatBlk) (j : Nat) : Pos :=
  if m.accMode then
    Pos.of (s.localNum n (accAddr m.slot j) 4) (s.localNum n (sumAddr m.slot j) 4) (s.slot n m.slot).count (s.slot n m.slot).spill
  else Pos.of 0 0 0 0

/-- The spill key of a position (R70, R75): its element of the output tensor. -/
def spillKey (o : Desc) (step row col : Nat) : SpillKey := ⟨o.seed, step, o.tensorId, row * o.cols + col⟩

/-- A position's acc and sum written to its slot (R114). -/
def State.putPos (s : State) (n slot j : Nat) (p : Pos) : State :=
  (s.localPut n (accAddr slot j) (leBytes 4 p.acc)).localPut n (sumAddr slot j) (leBytes 4 p.sum)

/-- The frame and cycle of an instant that lies so many cycles after the tick of a frame of a length: cycles past the next tick belong to the next frame (R130). -/
def frameAt (frame len cycle : Nat) : Nat × Nat := if len = 0 then (frame, cycle) else (frame + cycle / len, cycle % len)

/-- The frame that a bed is in, and its cycles. -/
def State.frameNow (s : State) (b : Nat) : Nat × Nat := (s.get (pgBed b) .FRAME_NUMBER, s.frameCycles b)

/-- The capture information of a matrix result (R130), its cycle counted from the tick of the frame in which its block began. -/
def matCapture (e st : Nat) (i : Issue) (k : Nat) (fr : Nat × Nat) (cycle : Nat) (m : MatBlk) (j : Nat) : CapInfo :=
  { source := e, ctx := i.ctx, stream := st, entry := k, frame := (frameAt fr.1 fr.2 cycle).1, cycle := (frameAt fr.1 fr.2 cycle).2, opId := i.opId, layer := i.layer,
    rowBlk := m.tileRow, colBlk := m.tileCol, pos := j }

/-- The earlier of two non-finite results: by cycle, then position (R130). -/
def earlier (a b : Option (Nat × Nat × Flags)) : Option (Nat × Nat × Flags) :=
  match a, b with
  | none, y => y
  | x, none => x
  | some x, some y => if y.1 < x.1 || (y.1 == x.1 && y.2.1 < x.2.1) then some y else some x

/-- The faults of an operand's tiles flagged and recorded (R48, R52, R56). -/
def State.operandFaults (s : State) (b c : Nat) (o : Operand) : State :=
  o.tiles.foldl (fun s t =>
    s.tileFaulted b c o.d (s.localBytesAt (coreNo b c) t.1 o.d.localSpan) t.2) s

/-- The slots of a tile marked for a block: reset by FRESH, in use, ABANDONED for a tainted context (R115, R156). -/
def State.openSlots (s : State) (n ctx : Nat) (m : MatBlk) (o : Desc) : State :=
  (List.range (slotsNeeded o)).foldl (fun s i =>
    let x := s.slot n (m.slot + i)
    let x := if m.accMode then { x with busy := true } else { SlotMeta.reset with busy := true }
    s.setSlot n (m.slot + i) { x with abandoned := x.abandoned || s.cores.taint.contains (n, ctx) }) s

/-- INT32 accumulations that saturated counted (R61). -/
def State.countSats (s : State) (n k : Nat) : State :=
  if k = 0 then s else s.setCores { s.cores with intSats := s.cores.intSats.put n (s.cores.intSats.get n 0 + k) }

/-- The positions of a product after its K-units put into a slot: acc and sum, flags, saturations, and the first non-finite result captured; each position comes with its number in the slot and its capture's position. -/
def State.putAll (s : State) (b c e : Nat) (i : Issue) (k : Nat) (m : MatBlk) (p : MatProd) (count : Nat) (ends : List Nat) (start : Nat)
    (l : List ((Nat × Nat) × Nat × Nat × Pos)) : State :=
  let n := coreNo b c
  let t := l.foldl (fun t x => ((t.putPos n m.slot x.2.1 x.2.2.2).raiseFlags n x.2.2.2.fl).countSats n x.2.2.2.sats) s
  let bad := l.foldl (fun acc x => match x.2.2.2.bad with
    | none => acc
    | some (u, sp, f) => earlier acc (some (s.resultCycle n p count ends start x.1.1 x.1.2 u sp, x.2.2.1, f))) none
  match bad with
  | none => t
  | some (cyc, j, f) => t.captureNf b c f (matCapture e (b2n (e != 0)) i k (s.frameNow b) cyc m j)

/-- A matrix block's K-units run for its whole tile (R70, R111, R115): acc and sum of every position, the slot's partial count and spill number, flags, the first non-finite result, stall cycles. -/
def State.matrixRun (s : State) (b c e : Nat) (i : Issue) (k at_ : Nat) (m : MatBlk) : State :=
  let n := coreNo b c
  let o := s.coreDesc b c m.outDesc
  let p := s.prodOf b c e m
  let p0 := s.posAt n m 0
  let parts := p.partials p.units.length
  let all := p.places.map fun x =>
    let j := x.1 * o.ct + x.2
    (x, j, j, s.posRun n p (spillKey o (s.get (pgBed b) .STEP_CNT) (p.row + x.1) (p.col + x.2)) x.1 x.2 (s.posAt n m j))
  let t := ((s.operandFaults b c p.x).operandFaults b c p.y).openSlots n i.ctx m o
  let t := t.putAll b c e i k m p p0.count (s.subEnds n p p0.count m.endK (at_ + 12)) (at_ + 12) all
  let z := t.slot n m.slot
  let t := t.setSlot n m.slot { z with count := p0.count + parts, spill := p0.spill + ((p0.count + parts) / 4096 - p0.count / 4096) }
  t.bump (pgCore .coreSub2 n) .CORR_STALL (s.corrStall n p)

/-! ### Per-example norm mode (R118, R119; log 25) -/

/-- The operand of a Gram product: tokens across, reduction along its columns; the block's K range is clipped at the tensor's own. -/
def gramOperand (d : Desc) (addr : Nat) (m : MatBlk) : Operand :=
  let units := ceilDiv d.cols (unitSize d)
  ⟨d, false, addr, min m.kFirst units, min m.kCount (units - min m.kFirst units), m.exFirst * m.exLen, m.exCount * m.exLen⟩

/-- The Gram product of an operand for one example: EX_LEN × EX_LEN positions over the operand's K-units. -/
def gramProd (o : Operand) (len ex : Nat) : MatProd :=
  { x := o, y := o, row := ex * len, col := ex * len, rows := len, cols := len,
    units := (List.range o.kCount).map (· + o.kFirst), mask := fun _ _ => true }

/-- The operands whose Gram products a norm block forms: X, then dY. -/
def State.gramOperands (s : State) (b c : Nat) (m : MatBlk) : List Operand :=
  [gramOperand (s.coreDesc b c m.aDesc) m.aLocal m, gramOperand (s.coreDesc b c m.bDesc) m.bLocal m]

/-- The number in the block's slots of position (t, t') of the w-th Gram product of its i-th example: the products follow each other, and positions beyond the tile's slots begin again at the first (DESIGN CHOICE, log 25). -/
def gramPlace (m : MatBlk) (o : Desc) (i w t t' : Nat) : Nat :=
  ((2 * i + w) * (m.exLen * m.exLen) + t * m.exLen + t') % (1024 * slotsNeeded o)

/-- The partial count of the w-th Gram product in a slot. -/
def SlotMeta.gram (z : SlotMeta) (w : Nat) : Nat := if w = 0 then z.count else z.gramCount

/-- Each Gram operand's partial count and spill number as the block begins: the spills of the second product are numbered after the first's. -/
def gramStarts (z : SlotMeta) (m : MatBlk) (l : List Operand) : List (Operand × Nat × Nat) :=
  ((List.range l.length).zip l).map fun x =>
    let sp := fun (w : Nat) => match l[w]? with
      | some o => spillsOf (z.gram w) (o.kCount * unitPartials o.d) m.endK
      | none => 0
    (x.2, z.gram x.1, z.spill + (if x.1 = 0 then 0 else sp 0))

/-- The bookkeeping of the slots that a norm block finds: as reset for FRESH, else as they stand (R115). -/
def State.gramSlot (s : State) (n : Nat) (m : MatBlk) : SlotMeta := if m.accMode then s.slot n m.slot else SlotMeta.reset

/-- Cycles of a norm block (R111): both Gram products of every example. -/
def State.gramCycles (s : State) (b c : Nat) (m : MatBlk) : Nat :=
  let n := coreNo b c
  let l := gramStarts (s.gramSlot n m) m (s.gramOperands b c m)
  (List.range m.exCount).foldl (fun a i => l.foldl (fun a x =>
    let p := gramProd x.1 m.exLen (m.exFirst + i)
    (p.subs.map (s.subCycles n p x.2.1 m.endK)).foldl (· + ·) a) a) 12

/-- The entries of one Gram product of the block's i-th example: from zero at the start of a product's K range, else from their slots (R70, R115); seed, tensor id and ELEMENT of their spills are OUT_DESC's and (ex × EX_LEN + t) × EX_LEN + t' (DESIGN CHOICE, log 90). -/
def State.gramEntries (s : State) (b c : Nat) (m : MatBlk) (i w : Nat) (x : Operand × Nat × Nat) : List ((Nat × Nat) × Nat × Nat × Pos) :=
  let n := coreNo b c
  let o := s.coreDesc b c m.outDesc
  let ex := m.exFirst + i
  let p := gramProd x.1 m.exLen ex
  p.places.map fun q =>
    let j := gramPlace m o i w q.1 q.2
    let key : SpillKey := ⟨o.seed, s.get (pgBed b) .STEP_CNT, o.tensorId, (ex * m.exLen + q.1) * m.exLen + q.2⟩
    let from_ := if x.2.1 = 0 then Pos.of 0 0 0 x.2.2
      else Pos.of (s.localNum n (accAddr m.slot j) 4) (s.localNum n (sumAddr m.slot j) 4) x.2.1 x.2.2
    let r := s.posRun n p key q.1 q.2 from_
    (q, j, (q.1 * m.exLen + q.2) % 4096,
      if m.endK && r.count % 4096 != 0 then r.doSpill (intFormat x.1.d) key (p.units.length - 1) else r)

/-- g of one example (R118): the products of both Gram matrices, each with its tensor's T (R71), summed in ascending t, then t'; the flags that this raises. -/
def gramSum (ta tb : Nat) (a b : List Nat) : Nat × Flags :=
  (a.zip b).foldl (fun acc x =>
    let u := mulF (mulF ta ta) x.1
    let v := mulF (mulF tb tb) x.2
    let q := mulF u v
    let g := addF acc.1 q
    (g, acc.2.or (listFlags [mulF ta ta, mulF tb tb, u, v, q, g]))) (0, Flags.none)

/-- Norm-vector entries set FRESH counted for the partition's step (R272 SAMPLES). -/
def State.countSamples (s : State) (b n : Nat) : State :=
  let k := (s.partOf b, s.get (pgBed b) .STEP_CNT)
  match Tab.find? s.red.openStep k with
  | some o => { s with red := { s.red with openStep := s.red.openStep.put k { o with samples := o.samples + n } } }
  | none => s

/-- Both Gram products of a block's i-th example put into their slots, from a cycle on, and the cycle after them; the sums of each. -/
def State.gramPut (s u : State) (b c e : Nat) (iss : Issue) (k : Nat) (m : MatBlk) (i start : Nat) : State × Nat × List (List Nat) :=
  let n := coreNo b c
  let l := gramStarts (s.gramSlot n m) m (s.gramOperands b c m)
  ((List.range l.length).zip l).foldl (fun a x =>
    let p := gramProd x.2.1 m.exLen (m.exFirst + i)
    let es := s.gramEntries b c m i x.1 x.2
    let ends := s.subEnds n p x.2.2.1 m.endK a.2.1
    (a.1.putAll b c e iss k m p x.2.2.1 ends a.2.1 es, ends.getLastD a.2.1, a.2.2 ++ [es.map fun y => y.2.2.2.sum])) (u, start, [])

/-- n_e of one example (R118): set to 0 by FRESH, g added where the block ends the K range, NaN where a slot is ABANDONED (R124). -/
def State.normEntry (s : State) (b c e : Nat) (iss : Issue) (k cycle : Nat) (m : MatBlk) (j : Nat) (bad : Bool) (sums : List (List Nat)) : State :=
  let n := coreNo b c
  let addr := m.normvAddr + 4 * (m.exFirst + j)
  let s := if m.accMode then s else s.localPut n addr (leBytes 4 0)
  if !m.endK then s
  else
    let g := gramSum (s.tensorT b (s.coreDesc b c m.aDesc)) (s.tensorT b (s.coreDesc b c m.bDesc)) (sums.getD 0 []) (sums.getD 1 [])
    let v := if bad then fp32.nan else addF (s.localNum n addr 4) g.1
    (s.localPut n addr (leBytes 4 v)).result b c (g.2.or (fp32Flags v)) (matCapture e 1 iss k (s.frameNow b) cycle m j)

/-- A per-example norm block (R118): both Gram products of each example in the block's slots; where the block ends their K range, g enters the norm vector and the next product begins at zero. -/
def State.normRun (s : State) (b c e : Nat) (i : Issue) (k at_ : Nat) (m : MatBlk) : State :=
  let n := coreNo b c
  let o := s.coreDesc b c m.outDesc
  let l := s.gramOperands b c m
  let z0 := s.gramSlot n m
  let t := (l.foldl (fun (t : State) x => t.operandFaults b c x) s).countSamples b (if m.accMode then 0 else m.exCount)
  let t := t.openSlots n i.ctx m o
  let bad := (List.range (slotsNeeded o)).any fun j => (t.slot n (m.slot + j)).abandoned
  let r := (List.range m.exCount).foldl (fun (a : State × Nat) j =>
    let x := s.gramPut a.1 b c e i k m j a.2
    (x.1.normEntry b c e i k x.2.1 m j bad x.2.2, x.2.1)) (t, at_ + 12)
  let parts := fun (w : Nat) => match l[w]? with
    | some x => x.kCount * unitPartials x.d
    | none => 0
  let spills := fun (w : Nat) => spillsOf (z0.gram w) (parts w) m.endK
  let z := r.1.slot n m.slot
  let t := r.1.setSlot n m.slot { z with
    count := if m.endK then 0 else z0.count + parts 0, gramCount := if m.endK then 0 else z0.gramCount + parts 1,
    spill := z0.spill + spills 0 + spills 1 }
  t.bump (pgCore .coreSub2 n) .CORR_STALL ((List.range m.exCount).foldl (fun a j =>
    l.foldl (fun a x => a + s.corrStall n (gramProd x m.exLen (m.exFirst + j))) a) 0)

/-! ### Begin and end of a block -/

/-- MATRIX_INSTRUCTION_BLOCK (R111, R115, R122, R123): the engine's next entry begins, counts its slip, and runs its K-units; an infinite RNE(T_a × T_b) is a result of its own (R71, R76); with no entry due nothing happens (log 2). -/
def execMatrixInstructionBlock (bed : Bed) (core : Core) (engine : Fin 3) (ready : Nat) (s : State) :
    Host.Outcome State Fault Refusal :=
  let b := bed.val
  let c := core.val
  let e := engine.val
  let n := coreNo b c
  match s.dueEntry b c e ready with
  | (s, none) => .next s
  | (s, some (i, k, t)) =>
    let m := s.blkOf b i
    let p := s.prodOf b c e m
    let ends := if m.normMode then [] else s.subEnds n p (s.posAt n m 0).count m.endK (t + 12)
    let last := if m.normMode then t + s.gramCycles b c m else ends.getLastD (t + 12)
    let s := s.started b c e i k t (last - t)
    let tt := mulF (s.tensorT b p.x.d) (s.tensorT b p.y.d)
    let s := if m.normMode then s else s.result b c (fp32Flags tt) (matCapture e (b2n (e != 0)) i k (s.frameNow b) t m 0)
    let s := if m.normMode then s.normRun b c e i k t m else s.matrixRun b c e i k t m
    .next (s.setCores { s.cores with
      running := s.cores.running.put (n, e) ⟨k, i.ctx, i.opId, i.layer, i.blockOff, last, ends, [s.frameIn b, i.start, e],
        (s.bed b).active, s.get (pgBed b) .STEP_CNT, tt, s.outT b (m.outDesc + descBias (s.armOf b) b c), (s.frameNow b).1, (s.frameNow b).2⟩ })

/-- The end-of-K spill of every position of a tile (R70, R115). -/
def State.endSpill (s : State) (b c e : Nat) (r : Running) (m : MatBlk) : State :=
  let n := coreNo b c
  let o := coreDescIn (s.armIn b r.arm) b c m.outDesc
  let int := intFormat (coreDescIn (s.armIn b r.arm) b c m.aDesc)
  let z := s.slot n m.slot
  let t :=
    if z.count % 4096 = 0 then s
    else
      (List.range o.positions).foldl (fun t j =>
        let key := spillKey o r.step (m.tileRow * o.rt + j / o.ct) (m.tileCol * o.ct + j % o.ct)
        let p := (Pos.of (s.localNum n (accAddr m.slot j) 4) (s.localNum n (sumAddr m.slot j) 4) z.count z.spill).doSpill int key 0
        (t.putPos n m.slot j p).result b c p.fl
          (matCapture e (b2n (e != 0)) ⟨0, r.ctx, 0, r.layer, 0, r.opId, r.blockOff⟩ r.entry (r.frame, r.cycles)
            (r.ends.getD (subTileOf o.ct (j / o.ct) (j % o.ct)) r.endCycle) m j)) s
  let z := t.slot n m.slot
  t.setSlot n m.slot { z with spill := if z.count % 4096 = 0 then z.spill else z.spill + 1, count := 0 }

/-- MATRIX_BLOCK_END (R115): END_K takes the end-of-K spill and resets the partial count; RELEASE hands the tile to the quantiser, poisoned when a slot is ABANDONED (R124). With no block running nothing happens (log 2). -/
def execMatrixBlockEnd (bed : Bed) (core : Core) (engine : Fin 3) (s : State) : Host.Outcome State Fault Refusal :=
  let b := bed.val
  let c := core.val
  let e := engine.val
  let n := coreNo b c
  match Tab.find? s.cores.running (n, e) with
  | none => .next s
  | some r =>
    let s := s.setCores { s.cores with running := s.cores.running.del (n, e) }
    let s := s.put (pgCore .coreSub3 n) .CTX_STATE 0 r.ctx
    let f := s.armIn b r.arm
    let m := matBlk f r.blockOff
    if m.normMode then .next s
    else
      let s := if m.endK then s.endSpill b c e r m else s
      let o := coreDescIn f b c m.outDesc
      let bad := (List.range (slotsNeeded o)).any fun i => (s.slot n (m.slot + i)).abandoned
      if m.release then
        .next (s.release n ⟨m.outDesc + descBias f b c, m.tileRow, m.tileCol, some m.slot, bad, [], r.scale, r.step, r.tee, none, r.order, r.arm⟩)
      else .next s

end Sys2Proof.Machine
end

