-- ==== Sys2Proof/Machine/Clock.lean ====
section
/-! DEFINITION. The clock plan, boost, throttle and power cap at a tick (R309 to R315), and CAP_RELEASE. -/

namespace Sys2Proof.Machine

/-! ### What holds the clock (R21, R310) -/

/-- Free mode is available: no active armature is locked and no partition belongs to a lockstep group (R21). -/
def State.freeOk (s : State) : Bool :=
  allBeds.all fun b => !armLocked (s.armOf b) && !(s.part (s.partOf b)).member

/-- Boost steps taken away by the cap, and clock points taken by it: codes 0 and 4 of the throttle stack (R315). -/
def State.capBoost (s : State) : Nat := (s.pw.capStack.filter (· == 0)).length
@[inherit_doc State.capBoost] def State.capPoints (s : State) : Nat := (s.pw.capStack.filter (· == 4)).length

/-- The point that the clock should run at: the plan lowered by thermal and cap steps; Floor in Floor, and in Hold while a Floor cause persists (R304, R305, R313 to R315). -/
def State.wantPoint (s : State) : Nat :=
  if (s.pw.power = .floor && !(s.pw.wantFloorExit && s.pw.causes.isEmpty)) || (s.pw.power = .hold && !s.pw.causes.isEmpty) then 2
  else min 2 (s.pw.planPoint + s.pw.thermSteps + s.capPoints)

/-- The frequency that the clock should run at, in MHz. -/
def State.wantMhz (s : State) : Nat :=
  pointMhz s.wantPoint + (if s.wantPoint = 0 && s.flag pgPower .MODE_NOW then 50 * (s.pw.boost - s.capBoost) else 0)

/-- The throttle steps shown in PWR_NOW (R318) follow the stack. -/
def State.showSteps (s : State) : State :=
  let n := fun (c : Nat) => (s.pw.capStack.filter (· == c)).length
  ((s.put pgPower .COMPUTE_STEPS (n 0 + n 4)).put pgPower .MEMORY_STEPS (n 1)).put pgPower .LINK_STEPS (n 2)

/-- The state with the throttle stack changed. -/
def State.setStack (s : State) (l : List Nat) : State := { s with pw := { s.pw with capStack := l } }.showSteps

/-- The next throttle step of a resource code of R315, if it has one left: boost steps in free mode, then clock points; memory steps; link steps. -/
def State.capStep (s : State) (code : Nat) : Option Nat :=
  let n := fun (c : Nat) => (s.pw.capStack.filter (· == c)).length
  if code = 0 then
    if s.flag pgPower .MODE_NOW && decide (s.capBoost < s.pw.boost) then some 0
    else if s.pw.planPoint + s.pw.thermSteps + s.capPoints < 2 then some 4 else none
  else if code = 1 then (if n 1 < 4 then some 1 else none)
  else if code = 2 then (if n 2 < 2 then some 2 else none)
  else none

/-- The throttle step that the cap takes next: every step of the first resource in ORDER before the next (R315). -/
def State.nextCapStep (s : State) : Option Nat :=
  let o := s.get pgPower .CAP_ORDER
  [bits o 0 2, bits o 2 2, bits o 4 2].findSome? s.capStep

/-- Power above the cap, or input current above 125 A (R300, R315). -/
def State.overCap (s : State) : Bool := decide (s.get pgPower .CAP_W < s.get pgPower .WATTS) || s.pw.overCap

/-! ### The changes of one tick -/

/-- The boost conditions of R310 over the last 1 ms: mean power below 95 % of the cap, no reading of the hottest junction at 90 °C or more, no droop. -/
def State.boostOk (s : State) : Bool :=
  decide (100 * s.get pgPower .WATTS < 95 * s.get pgPower .CAP_W) && decide (s.get pgPower .TJ_MAX < 90) &&
    (match s.pw.hotAt with
      | some t => decide (t + 1000000 ≤ s.time.now)
      | none => true) &&
    decide (s.get pgPower .DROOP_CNT = 0 ∨ s.pw.droopAt + 1000000 ≤ s.time.now)

/-- The boost target after one tick in free mode: one step up or down (R310). -/
def State.nextBoost (s : State) : Nat :=
  if !s.flag pgPower .MODE_NOW then 0
  else if s.boostOk && s.pw.planPoint == 0 then min 5 (s.pw.boost + 1) else s.pw.boost - 1

/-- The plan in force: MODE fixed where free mode is not available, with PLAN_CLAMPED (R310); a point below a running armature's is recorded. -/
def State.takePlan (s : State) : State :=
  let s := if s.flag pgPower .PLAN_MODE && !s.freeOk then (s.put pgPower .PLAN_MODE 0).raise pgPower 6 else s
  let p := s.get pgPower .PLAN_POINT
  let fresh := s.pw.planPoint != p
  let s := { s with pw := { s.pw with planPoint := p } }.put pgPower .MODE_NOW (s.get pgPower .PLAN_MODE)
  if fresh then
    (allBeds.filter fun b => (s.seq b == seqRunning || s.seq b == seqPaused) && decide (armPoint (s.armOf b) < p)).foldl
      (fun s b => s.record 0x0341 pgPower (leBytes 1 p ++ leBytes 1 (armPoint (s.armOf b)) ++ leBytes 1 b)) s
  else s

/-- A throttle step taken for the cap, or CAP_EXHAUSTED where none is left (R315). -/
def State.takeCap (s : State) : State :=
  if !s.overCap then s
  else match s.nextCapStep with
    | some c => (s.setStack (s.pw.capStack ++ [c])).raise pgPower 3
    | none => s.raise pgPower 8

/-- The clock brought to where plan, throttles and boost ask for it; Floor ends here when its causes are clear (R305). -/
def State.setClock (s : State) : State :=
  let f := s.wantMhz
  let p := s.wantPoint
  let s := if s.pw.wantFloorExit && s.pw.causes.isEmpty && s.pw.power = .floor && s.pw.transition.isNone then s.setPower .run else s
  let s := { s with pw := { s.pw with wantFloorExit := false } }
  (s.put pgPower .POINT_NOW p).put pgPower .FREQ_MHZ f

/-- Everything that a tick may change of the clock and the throttles, carried out (R163 action 6). -/
def State.applyClock (s : State) : State :=
  let b := s.nextBoost
  let s := { s.takePlan with pw := { s.takePlan.pw with boost := if s.takePlan.flag pgPower .MODE_NOW then b else 0 } }
  { s.takeCap.setClock with pw := { s.takeCap.setClock.pw with overCap := false } }.put pgPower .DEFER 0

/-- A planned change is pending: a clock plan, free mode that is no longer available (R21), a boost step, a throttle step or the end of Floor (R311). -/
def State.clockPending (s : State) : Bool :=
  s.get pgPower .PLAN_POINT != s.pw.planPoint || s.get pgPower .PLAN_MODE != s.get pgPower .MODE_NOW ||
    (s.flag pgPower .MODE_NOW && !s.freeOk) || s.nextBoost != s.pw.boost || s.overCap || s.wantMhz != s.get pgPower .FREQ_MHZ ||
    (s.pw.wantFloorExit && s.pw.causes.isEmpty)

/-- The stretcher's marks at the tick that opens a frame: an engaged stretch less than 2 µs old goes on; forced tells whether the frame holds it at 12 % (R311). -/
def State.openStretch (s : State) (forced : Bool) : State :=
  let on := forced || (s.pw.stretch && decide (s.time.now < s.pw.droopAt + 2000))
  { s with pw := { s.pw with stretch := on, stretchSeen := on, suppressed := forced } }

/-- The pending change is forced: the eighth deferred tick (R311). -/
def State.forceDue (s : State) : Bool := s.clockPending && s.pw.stretchSeen && s.get pgPower .DEFER == 7

/-- The 1 ms mean input power, as the keeper's sense gives it (R315): a free value. -/
def State.sampleWatts (s : State) : State := s.draw.2.put pgPower .WATTS (Config.inputPower s.draw.1 / 10)

/-- The core-rail margin raised by one step, with a store of the trim to follow; MARGIN_LIMIT at 40 steps (R316). -/
def State.raiseTrim (s : State) : State :=
  let n := s.get pgPower .TRIM_STEPS + 1
  let s := { s.put pgPower .TRIM_STEPS n with pw := { s.pw with trimDue := false, trimWaiting := true } }
  if n = 40 then s.raise pgPower 9 else s

/-- The step of margin that a check asked for, at the next tick (R316). -/
def State.trimTick (s : State) : State := if s.pw.trimDue then s.raiseTrim else s

/-- Action 6 of a tick of the lowest-numbered running bed (R310, R311, R315): the change, its deferral, or the change forced, whose frame lacks 12 % of its edges. -/
def State.clockTick (s : State) : State :=
  if !s.clockPending then (s.put pgPower .DEFER 0).openStretch false
  else if !s.pw.stretchSeen then s.applyClock.openStretch false
  else if s.get pgPower .DEFER = 7 then
    let t := (s.applyClock.bump pgPower .FORCED_CNT).raise pgPower 5
    (t.bump pgPower .STRETCH_CYC (t.heldEdges (t.lowestRunning.getD 0))).openStretch true
  else ((s.bump pgPower .DEFER).raise pgPower 4).openStretch false

/-- CAP_RELEASE (R315): after 10 ms below 97 % of the cap the step taken last is released; a clock point follows at the next tick, at once where no bed runs. Not due, nothing happens (log 2). -/
def execCapRelease (s : State) : Host.Outcome State Fault Refusal :=
  if !s.pw.capStack.isEmpty && 100 * s.get pgPower .WATTS < 97 * s.get pgPower .CAP_W then
    let s := s.setStack s.pw.capStack.dropLast
    .next (if s.lowestRunning.isNone then s.setClock else s)
  else .next s

end Sys2Proof.Machine
end

