-- ==== Sys2Proof/Machine/Operands.lean ====
section
/-! DEFINITION. Operands of the vector engine (R125 to R128, R145): lanes, source codes, lane results with their flags and captures. -/

namespace Sys2Proof.Machine

/-! ### Lanes and registers -/

/-- The lanes that a half owns in the frame (R125, R142): VSPLIT 0 gives 0 to 31 forward and 32 to 63 backward, 1 all lanes to forward, 2 all lanes to backward. -/
def lanesOf (split : Nat) (backward : Bool) : List Nat :=
  if split = 1 then (if backward then [] else List.range 64)
  else if split = 2 then (if backward then List.range 64 else [])
  else if backward then (List.range 32).map (· + 32) else List.range 32

/-- The lanes of a half of a core in the current frame. -/
def State.lanes (s : State) (b c : Nat) (backward : Bool) : List Nat :=
  let f := s.armOf b
  lanesOf (vsplit f (listGroup f b c) (s.frameIn b)) backward

/-- A lane of a vector register. -/
def State.vreg (s : State) (n r l : Nat) : W32 := s.cores.vregs.get (n, r, l) 0

/-- The state with a lane of a vector register written. -/
def State.setVreg (s : State) (n r l : Nat) (v : W32) : State :=
  s.setCores { s.cores with vregs := s.cores.vregs.put (n, r, l) v }

/-- A scalar register of a context (R121). -/
def State.scalar (s : State) (n x k : Nat) : W32 := s.cores.scalars.get (n, x, k) 0

/-! ### Sources (R127, R145) -/

/-- A source code that R145 does not reserve. -/
def srcOk (code : Nat) : Bool :=
  decide (code ≤ 0x40) || (decide (0x48 ≤ code) && decide (code ≤ 0x50)) || code == 0xFF

/-- An instruction's register and source codes are none of the reserved ones. -/
def argsOk (i : VArgs) : Bool := decide (i.dst < 64) && srcOk i.a && srcOk i.b && srcOk i.c

/-- What a source reads in a lane (R127, R145); an operand whose code says unused is a free value (log 10). -/
def State.source (s : State) (w : VWhere) (i : VArgs) (code l : Nat) : Nat :=
  let n := coreNo w.bed.val w.core.val
  if code < 0x40 then (s.vreg n code l).toNat
  else if code = 0x40 then i.imm.toNat
  else if 0x48 ≤ code ∧ code ≤ 0x4F then (s.scalar n w.ctx.val (code - 0x48)).toNat
  else if code = 0x50 then s.localNum n (i.imm.toNat % 65536) 4
  else (Config.unusedSource w.opId).toNat

/-! ### Results (R76, R129, R130) -/

/-- What a lane forms: its 32 bits and its flags. -/
abbrev LaneResult := Nat × Flags

/-- A floating result: its own flags (R76). -/
def fpLane (c : Nat) : LaneResult := (c, fp32Flags c)

/-- An integer, bitwise or mask result raises no flag. -/
def intLane (c : Nat) : LaneResult := (c, Flags.none)

/-- The capture information of a vector result: source 3, or 4 for a load; a vector result names no output tile (log 13). -/
def vecCapture (w : VWhere) (frame source lane : Nat) : CapInfo :=
  { source := source, ctx := w.ctx.val, stream := b2n w.backward, entry := w.entry, frame := frame, cycle := w.cycle, opId := w.opId,
    layer := w.layer, rowBlk := 0, colBlk := 0, pos := lane }

/-- One lane's result written to DST with its flags and capture. -/
def State.laneOut (s : State) (w : VWhere) (i : VArgs) (source l : Nat) (r : LaneResult) : State :=
  (s.setVreg (coreNo w.bed.val w.core.val) i.dst l (BitVec.ofNat 32 r.1)).result w.bed.val w.core.val r.2
    (vecCapture w (s.get (pgBed w.bed.val) .FRAME_NUMBER) source l)

/-- A vector operation on every lane of the half: each lane's three sources are read before any lane is written, results in ascending lane order (R130). -/
def State.vectorOp (s : State) (w : VWhere) (i : VArgs) (f : Nat → Nat → Nat → LaneResult) : Host.Outcome State Fault Refusal :=
  if argsOk i then
    .next ((s.lanes w.bed.val w.core.val w.backward).foldl (fun t l =>
      t.laneOut w i 3 l (f (s.source w i i.a l) (s.source w i i.b l) (s.source w i i.c l))) s)
  else .fault .illFormed

end Sys2Proof.Machine
end

