-- ==== Sys2Proof/Machine/Vector.lean ====
section
/-! DEFINITION. The vector engine's instructions (R125 to R128, R145) and the vector instruction block that runs a program of them. -/

namespace Sys2Proof.Machine

/-! ### What one lane computes (R126) -/

/-- The lesser or greater operand: −0 counts below +0; a NaN operand gives the default NaN (R126; log 10). -/
def pickF (lesser : Bool) (a b : Nat) : Nat :=
  match fp32.dec a, fp32.dec b with
  | .nan, _ => fp32.nan
  | _, .nan => fp32.nan
  | _, _ =>
    let aFirst := ltF a b || (eqF a b && decide (fp32.signBit ≤ a))
    if aFirst = lesser then a else b

/-- The magnitude of a lane; a NaN gives the default NaN (R62). -/
def absF (a : Nat) : Nat :=
  match fp32.dec a with
  | .nan => fp32.nan
  | _ => a % fp32.signBit

/-- All ones for true (R145). -/
def maskOf (b : Bool) : Nat := if b then 0xFFFFFFFF else 0

/-- SEL: B where A is not zero as a pattern, else C; a selected NaN is the default NaN (R62, R145; log 10). -/
def selF (a b c : Nat) : Nat :=
  let x := if a = 0 then c else b
  match fp32.dec x with
  | .nan => fp32.nan
  | _ => x

/-- Conversion to INT32 (R126): to nearest even, saturating with SAT; a NaN gives a free value with INV (log 10). -/
def cvtInt (a : Nat) : LaneResult :=
  match fp32.dec a with
  | .nan => ((Config.cvtNan (BitVec.ofNat 32 a)).toNat, ⟨true, false, false, false⟩)
  | .inf n => (if n then 0x80000000 else 0x7FFFFFFF, ⟨false, false, true, false⟩)
  | .fin n m =>
    let v := (Num.fin n m).val.rneInt
    let r := clampI (-2147483648) 2147483647 v
    (wrap 32 r, ⟨false, false, decide (r ≠ v), false⟩)

/-- Conversion to BF16 (R126), held in the lane as the FP32 code of the BF16 value. -/
def cvtBf (a : Nat) : Nat := convF bf16 a * 65536

/-! ### LOAD and STORE (R128, R145) -/

/-- The descriptor that a vector LOAD or STORE names (R142, R145). -/
def State.vecDesc (s : State) (w : VWhere) (i : VArgs) : Desc :=
  s.coreDesc w.bed.val w.core.val (i.imm.toNat % 65536)

/-- The element that a lane takes: E + l, E the value of SRC_A (R145). -/
def State.vecElem (s : State) (w : VWhere) (i : VArgs) (l : Nat) : Nat := s.source w i i.a l + l

/-- The bytes of tile t of a descriptor whose tiles lie from a local address (log 22). -/
def State.localTile (s : State) (n base : Nat) (d : Desc) (t : Nat) : List Byte :=
  s.localBytesAt n (base + t * d.localSpan) d.localSpan

/-- A loaded element with T applied, as an FP32 code (R80, R128). -/
def loadElem (d : Desc) (tee : Nat) (t : List Byte) (k : Nat) : Nat :=
  fp32.ofNum (mulNum (tileElem d t k) (fp32.dec tee))

/-- The tiles that the lanes of a LOAD touch, each once. -/
def State.loadTiles (s : State) (w : VWhere) (i : VArgs) : List Nat :=
  let d := s.vecDesc w i
  ((s.lanes w.bed.val w.core.val w.backward).map fun l => s.vecElem w i l / d.positions).foldl
    (fun acc t => if acc.contains t then acc else acc ++ [t]) []

/-- A vector LOAD: every lane takes its element, dequantised exactly and scaled by T; reserved or inconsistent encodings of a touched tile, whichever of its blocks the lanes take, are flagged and recorded (R48, R52, R56, R128; DESIGN CHOICE, log 22). -/
def State.vecLoad (s : State) (w : VWhere) (i : VArgs) : State :=
  let b := w.bed.val
  let c := w.core.val
  let n := coreNo b c
  let d := s.vecDesc w i
  let base := i.imm.toNat / 65536
  let t := (s.loadTiles w i).foldl (fun u k => u.tileFaulted b c d (s.localTile n base d k) k) s
  (s.lanes b c w.backward).foldl (fun u l =>
    let e := s.vecElem w i l
    u.laneOut w i 4 l (fpLane (loadElem d (s.tensorT b d) (s.localTile n base d (e / d.positions)) (e % d.positions)))) t

/-- A released entry that vector STOREs still fill: same armature, descriptor and tile, no accumulator slot. -/
def storesTo (arm : Option Nat) (k row col : Nat) (r : Released) : Bool :=
  r.arm == arm && r.desc == k && r.tileRow == row && r.tileCol == col && r.slot.isNone

/-- Whether an entry of the quantiser's input holds its whole tile: a tile from a slot does, a stored one once every position inside ROWS × COLS has a value. -/
def releasedWhole (d : Desc) (r : Released) : Bool :=
  r.slot.isSome ||
    (List.range d.positions).all fun k => d.padding r.tileRow r.tileCol k || (r.values.any fun v => v.1 == k)

/-- A value put into the quantiser's input for position k of a tile; a tile that is already whole begins anew behind the others. -/
def feedTile (d : Desc) (step desc row col k v : Nat) (tee : Nat × Nat) (order : List Nat) (arm : Option Nat) : List Released → List Released
  | [] => [⟨desc, row, col, none, false, [(k, v)], 0x3F800000, step, tee, none, order, arm⟩]
  | r :: t =>
    if storesTo arm desc row col r && !releasedWhole d r then
      { r with values := (r.values.filter fun x => x.1 != k) ++ [(k, v)] } :: t
    else r :: feedTile d step desc row col k v tee order arm t

/-- The place of a vector instruction's block in the armature's issue order (R98): frame in the step, START, engine. -/
def State.vecOrder (s : State) (w : VWhere) : List Nat :=
  let e := if w.backward then 4 else 3
  [s.frameIn w.bed.val, match (s.coreList w.bed.val w.core.val e)[w.entry]? with
    | some i => i.start
    | none => 0, e]

/-- A vector STORE: lane l's value, from SRC_B, goes to the quantiser as element E + l (R145; that the value is SRC_B's is a DESIGN CHOICE, log 22); an element beyond the tensor goes nowhere. -/
def State.vecStore (s : State) (w : VWhere) (i : VArgs) : State :=
  let b := w.bed.val
  let n := coreNo b w.core.val
  let d := s.vecDesc w i
  let k := i.imm.toNat % 65536 + descBias (s.armOf b) b w.core.val
  (s.lanes b w.core.val w.backward).foldl (fun u l =>
    let e := s.vecElem w i l
    let t := e / d.positions
    if d.tiles ≤ t then u
    else u.setCores { u.cores with
      released := u.cores.released.put n
        (feedTile d (s.get (pgBed b) .STEP_CNT) k (t / d.tilesC) (t % d.tilesC) (e % d.positions) (s.source w i i.b l) (s.outT b k) (s.vecOrder w) (s.bed b).active
          (u.cores.released.get n [])) }) s

/-! ### The instructions -/

/-- ADD (R126): correctly rounded to nearest even. -/
def execVAdd (w : VWhere) (i : VArgs) (s : State) : Host.Outcome State Fault Refusal :=
  s.vectorOp w i fun a b _ => fpLane (addF a b)
/-- SUB (R126). -/
def execVSub (w : VWhere) (i : VArgs) (s : State) : Host.Outcome State Fault Refusal :=
  s.vectorOp w i fun a b _ => fpLane (subF a b)
/-- MUL (R126). -/
def execVMul (w : VWhere) (i : VArgs) (s : State) : Host.Outcome State Fault Refusal :=
  s.vectorOp w i fun a b _ => fpLane (mulF a b)
/-- FMA: A × B + C with one rounding (R126, R145). -/
def execVFma (w : VWhere) (i : VArgs) (s : State) : Host.Outcome State Fault Refusal :=
  s.vectorOp w i fun a b c => fpLane (fmaF a b c)
/-- MIN (R126). -/
def execVMin (w : VWhere) (i : VArgs) (s : State) : Host.Outcome State Fault Refusal :=
  s.vectorOp w i fun a b _ => fpLane (pickF true a b)
/-- MAX (R126). -/
def execVMax (w : VWhere) (i : VArgs) (s : State) : Host.Outcome State Fault Refusal :=
  s.vectorOp w i fun a b _ => fpLane (pickF false a b)
/-- ABS (R126). -/
def execVAbs (w : VWhere) (i : VArgs) (s : State) : Host.Outcome State Fault Refusal :=
  s.vectorOp w i fun a _ _ => fpLane (absF a)
/-- NEG (R126). -/
def execVNeg (w : VWhere) (i : VArgs) (s : State) : Host.Outcome State Fault Refusal :=
  s.vectorOp w i fun a _ _ => fpLane (negF a)
/-- CMPLT (R145). -/
def execVCmplt (w : VWhere) (i : VArgs) (s : State) : Host.Outcome State Fault Refusal :=
  s.vectorOp w i fun a b _ => intLane (maskOf (ltF a b))
/-- CMPEQ (R145). -/
def execVCmpeq (w : VWhere) (i : VArgs) (s : State) : Host.Outcome State Fault Refusal :=
  s.vectorOp w i fun a b _ => intLane (maskOf (eqF a b))
/-- SEL (R145). -/
def execVSel (w : VWhere) (i : VArgs) (s : State) : Host.Outcome State Fault Refusal :=
  s.vectorOp w i fun a b c => fpLane (selF a b c)
/-- SQRT (R126): correctly rounded; of a negative number NaN. -/
def execVSqrt (w : VWhere) (i : VArgs) (s : State) : Host.Outcome State Fault Refusal :=
  s.vectorOp w i fun a _ _ => fpLane (sqrtF a)
/-- RCP (R126): within 1 ulp. -/
def execVRcp (w : VWhere) (i : VArgs) (s : State) : Host.Outcome State Fault Refusal :=
  s.vectorOp w i fun a _ _ => fpLane (rcpF a)
/-- RSQRT (R126): within 1 ulp. -/
def execVRsqrt (w : VWhere) (i : VArgs) (s : State) : Host.Outcome State Fault Refusal :=
  s.vectorOp w i fun a _ _ => fpLane (rsqrtF a)
/-- EXP2 (R126): within 2 ulp. -/
def execVExp2 (w : VWhere) (i : VArgs) (s : State) : Host.Outcome State Fault Refusal :=
  s.vectorOp w i fun a _ _ => fpLane (exp2F a)
/-- LOG2 (R126): within 2 ulp; of 0 −infinity. -/
def execVLog2 (w : VWhere) (i : VArgs) (s : State) : Host.Outcome State Fault Refusal :=
  s.vectorOp w i fun a _ _ => fpLane (log2F a)
/-- CVT to INT32 (R126). -/
def execVCvtInt32 (w : VWhere) (i : VArgs) (s : State) : Host.Outcome State Fault Refusal :=
  s.vectorOp w i fun a _ _ => cvtInt a
/-- CVT to BF16 (R126). -/
def execVCvtBf16 (w : VWhere) (i : VArgs) (s : State) : Host.Outcome State Fault Refusal :=
  s.vectorOp w i fun a _ _ => fpLane (cvtBf a)
/-- IADD (R126): modulo 2^32. -/
def execVIadd (w : VWhere) (i : VArgs) (s : State) : Host.Outcome State Fault Refusal :=
  s.vectorOp w i fun a b _ => intLane ((a + b) % 2 ^ 32)
/-- AND (R126). -/
def execVAnd (w : VWhere) (i : VArgs) (s : State) : Host.Outcome State Fault Refusal :=
  s.vectorOp w i fun a b _ => intLane (a &&& b)
/-- OR (R126). -/
def execVOr (w : VWhere) (i : VArgs) (s : State) : Host.Outcome State Fault Refusal :=
  s.vectorOp w i fun a b _ => intLane (a ||| b)
/-- XOR (R126). -/
def execVXor (w : VWhere) (i : VArgs) (s : State) : Host.Outcome State Fault Refusal :=
  s.vectorOp w i fun a b _ => intLane (a ^^^ b)
/-- SHL (R126): A × 2^B modulo 2^32, 0 from 32 places on. -/
def execVShl (w : VWhere) (i : VArgs) (s : State) : Host.Outcome State Fault Refusal :=
  s.vectorOp w i fun a b _ => intLane (if b < 32 then a * 2 ^ b % 2 ^ 32 else 0)
/-- SHR, logical (R126, R145): 0 from 32 places on. -/
def execVShr (w : VWhere) (i : VArgs) (s : State) : Host.Outcome State Fault Refusal :=
  s.vectorOp w i fun a b _ => intLane (if b < 32 then a / 2 ^ b else 0)

/-- LOAD (R128, R145). -/
def execVectorLoad (w : VWhere) (i : VArgs) (s : State) : Host.Outcome State Fault Refusal :=
  if argsOk i then .next (s.vecLoad w i) else .fault .illFormed
/-- STORE (R128, R145). -/
def execVectorStore (w : VWhere) (i : VArgs) (s : State) : Host.Outcome State Fault Refusal :=
  if argsOk i then .next (s.vecStore w i) else .fault .illFormed

/-! ### Programs (R145) -/

/-- The instruction that an OP names (R145); any other OP is reserved. -/
def vecExec (op : Nat) : Option (VWhere → VArgs → State → Host.Outcome State Fault Refusal) :=
  if op = 0x01 then some execVAdd
  else if op = 0x02 then some execVSub
  else if op = 0x03 then some execVMul
  else if op = 0x04 then some execVFma
  else if op = 0x05 then some execVMin
  else if op = 0x06 then some execVMax
  else if op = 0x07 then some execVAbs
  else if op = 0x08 then some execVNeg
  else if op = 0x09 then some execVCmplt
  else if op = 0x0A then some execVCmpeq
  else if op = 0x0B then some execVSel
  else if op = 0x0C then some execVSqrt
  else if op = 0x0D then some execVRcp
  else if op = 0x0E then some execVRsqrt
  else if op = 0x0F then some execVExp2
  else if op = 0x10 then some execVLog2
  else if op = 0x11 then some execVCvtInt32
  else if op = 0x12 then some execVCvtBf16
  else if op = 0x13 then some execVIadd
  else if op = 0x14 then some execVAnd
  else if op = 0x15 then some execVOr
  else if op = 0x16 then some execVXor
  else if op = 0x17 then some execVShl
  else if op = 0x18 then some execVShr
  else if op = 0x20 then some execVectorLoad
  else if op = 0x21 then some execVectorStore
  else none

/-- Cycles that an instruction takes: 4 for SQRT, RCP, RSQRT, EXP2 and LOG2, else 1 (R126; LOAD and STORE by log 22). -/
def vecCycles (op : Nat) : Nat := if 0x0C ≤ op ∧ op ≤ 0x10 then 4 else 1

/-- Cycles of a whole program. -/
def programCycles (p : List (Nat × VArgs)) : Nat := p.foldl (fun a x => a + vecCycles x.1) 0

/-- A program run from a cycle, instruction by instruction; it stops where an instruction does. -/
def runProgram (w : VWhere) : Nat → List (Nat × VArgs) → State → Host.Outcome State Fault Refusal
  | _, [], s => .next s
  | t, (op, i) :: rest, s =>
    match vecExec op with
    | none => .fault .illFormed
    | some f =>
      match f { w with cycle := t } i s with
      | .next s' => runProgram w (t + vecCycles op) rest s'
      | .fault x => .fault x
      | .refused x => .refused x

/-- The program of a vector block of a file (R145). -/
def programOf (f : File) (o : Nat) : List (Nat × VArgs) :=
  (List.range (vecBlk f o).1).map fun k => vecInstr f (vecBlk f o).2 k

/-- VECTOR_INSTRUCTION_BLOCK (R122, R123, R145): the half's next entry begins, counts its slip and runs its program on its lanes; with no entry due nothing happens (log 2). -/
def execVectorInstructionBlock (bed : Bed) (core : Core) (backward : Bool) (ready : Nat) (s : State) :
    Host.Outcome State Fault Refusal :=
  let b := bed.val
  let c := core.val
  let e := if backward then 4 else 3
  match s.dueEntry b c e ready with
  | (s, none) => .next s
  | (s, some (i, k, t)) =>
    let p := programOf (s.armOf b) i.blockOff
    let w : VWhere := ⟨bed, core, Fin.ofNat 8 i.ctx, backward, k, i.opId, i.layer, t⟩
    match runProgram w t p (s.started b c e i k t (programCycles p)) with
    | .next s => .next (s.put (pgCore .coreSub3 (coreNo b c)) .CTX_STATE 0 i.ctx)
    | x => x

end Sys2Proof.Machine
end

