-- ==== Sys2Proof/Machine/Time.lean ====
section
/-! DEFINITION. DEVICE_TIME (R133), group alignment (R137, R138, R234) and TIME_REF (R139). -/

namespace Sys2Proof.Machine

/-- One nanosecond outside Off is operating time (R340). -/
def State.opTime (s : State) : State :=
  if s.pw.power = .off then s else { s with evr := { s.evr with opNs := s.evr.opNs + 1 } }

/-- DEVICE_TIME over one nanosecond (R133): a hold runs down, or the counter counts. -/
def State.count (s : State) : State :=
  if 0 < s.time.hold then { s with time := { s.time with hold := s.time.hold - 1 } }
  else { s with time := { s.time with now := (s.time.now + 1) % 2 ^ 64 } }

/-- One nanosecond passes (log 1); without the keeper nothing counts. -/
def State.idle (s : State) : State := if s.pw.keeperOn then s.count.opTime else s

/-- DEVICE_TIME moved at once by d ns: a step forward or a hold; every origin is cleared (R133). -/
def State.moveTime (s : State) (d : Int) : State :=
  if d = 0 then s
  else
    let s := if 0 < d then { s with time := { s.time with now := (s.time.now + d.toNat) % 2 ^ 64 } }
      else { s with time := { s.time with hold := s.time.hold + d.natAbs } }
    let s := allBeds.foldl (fun s b => s.clearOrigin b) s
    s.record 0x0140 pgGlobals (leBytes 8 (wrap 64 d))

/-- The rate steered by a measured offset, within ±100 ppm (R133). -/
def State.steerRate (s : State) (off : Int) : State :=
  { s with time := { s.time with rate := clampI (-100) 100 (Config.steer off) } }

/-- SEQ of every partition set to DEVICE_TIME (R231). -/
def State.seqFromTime (s : State) : State :=
  { s with fab := { s.fab with seq := (List.range 8).foldl (fun t p => t.put p s.time.now) s.fab.seq } }

/-- GROUP_ALIGNED set; its rise sets SEQ (R231). -/
def State.setAligned (s : State) (on : Bool) : State :=
  let rise := on && !s.flag pgGlobals .GROUP_ALIGNED
  let s := s.put pgGlobals .GROUP_ALIGNED (b2n on)
  if rise then s.seqFromTime else s

/-- The STEP that once-per-step limits of device-wide causes use: that of the lowest-numbered running bed. -/
def State.anyStep (s : State) : Nat :=
  match s.lowestRunning with
  | some b => s.get (pgBed b) .STEP_CNT
  | none => 0

/-- A measured offset from group time (R133, R138): shown, warned of once per step, counted beyond ±50 ns; it moves the counter at once when the device joins with no bed running, and steers the rate otherwise. -/
def State.alignOffset (s : State) (off : Int) : State :=
  if !s.anyBedRuns && !s.flag pgGlobals .GROUP_ALIGNED then
    ((s.moveTime off).put pgGlobals .ALIGN_ERR 0).setAligned true
  else
    let e := wrap 16 (clampI (-32767) 32767 off)
    let s := (s.put pgGlobals .ALIGN_ERR e).steerRate off
    let s := s.setAligned (decide (off.natAbs ≤ 10))
    let s := if 10 < off.natAbs then
        (s.put pgGlobals .ALIGN_WARN 1).onceDo (0x0142, s.anyStep, 0) fun s => s.record 0x0142 pgGlobals (leBytes 2 e)
      else s
    { s with time := { s.time with alignFrames := if 50 < off.natAbs then s.time.alignFrames + 1 else 0 } }

/-- TIME_CFG.TREF_EN written (R139): without it no edge is stamped, the bound is not held and HOLDOVER ends. -/
def State.setTref (s : State) (v : Nat) : State :=
  let s := s.put pgGlobals .TREF_EN v
  if v = 1 then s
  else ({ s with time := { s.time with trefLast := none } }.put pgGlobals .TREF_LOCKED 0).put pgGlobals .HOLDOVER 0

/-- The group time reference's TIME_REF phase error, added to its time messages while it is locked (R139). -/
def State.phaseError (s : State) : Int :=
  match s.time.trefLast with
  | some t =>
    let r := t % 1000000000
    if s.flag pgGlobals .TREF_LOCKED then (if 2 * r ≤ 1000000000 then -(r : Int) else 1000000000 - (r : Int)) else 0
  | none => 0

/-- HOLDOVER entered or left with its record (R139, R390). -/
def State.setHoldover (s : State) (on : Bool) : State :=
  if s.flag pgGlobals .HOLDOVER = on then s
  else (s.put pgGlobals .HOLDOVER (b2n on)).record 0x0141 pgGlobals (leBytes 1 (b2n on))

/-- GROUP_ALIGN_TIMEOUT (R138, R351): after 4 frames beyond ±50 ns the member leaves the group and enters Hold. -/
def execGroupAlignTimeout (part : Bed) (s : State) : Host.Outcome State Fault Refusal :=
  if 4 ≤ s.time.alignFrames then
    let s := { s with time := { s.time with alignFrames := 0 } }
    .next (((s.record 0x0111 pgGlobals).leaveGroup part.val).enterHold 7)
  else .next s

/-- TIME_REF_EDGE (R139): with TREF_EN set the edge is time-stamped and checked against the previous one, and DEVICE_TIME is moved or steered to it. -/
def execTimeRefEdge (s : State) : Host.Outcome State Fault Refusal :=
  if !s.flag pgGlobals .TREF_EN then .next s
  else
    let now := s.time.now
    let bad := match s.time.trefLast with
      | some t => decide (now < t + 1000000000 - 100000 ∨ t + 1000000000 + 100000 < now)
      | none => false
    let s := { s with time := { s.time with trefLast := some now } }
    if bad then .next ((s.put pgGlobals .TREF_LOCKED 0).setHoldover true)
    else
      let s := s.setHoldover false
      let r := now % 1000000000
      let off : Int := if 2 * r ≤ 1000000000 then -(r : Int) else 1000000000 - (r : Int)
      if off.natAbs ≤ 50 then .next ((s.put pgGlobals .TREF_LOCKED 1).steerRate off)
      else if s.anyBedRuns then .next ((s.put pgGlobals .TREF_LOCKED 0).steerRate off)
      else
        let s := { s with time := { s.time with trefLast := some ((now : Int) + off).toNat } }
        .next ((s.moveTime off).put pgGlobals .TREF_LOCKED 1)

/-- TREF_HOLDOVER_TIMEOUT (R139): no edge for 2.5 s. -/
def execTrefHoldoverTimeout (s : State) : Host.Outcome State Fault Refusal :=
  let quiet := match s.time.trefLast with
    | some t => decide (t + 2500000000 ≤ s.time.now)
    | none => true
  if s.flag pgGlobals .TREF_EN && quiet then .next ((s.put pgGlobals .TREF_LOCKED 0).setHoldover true) else .next s

/-- TIME_HOLD_END (R133): the d ns of a hold have passed and the counter counts on. -/
def execTimeHoldEnd (s : State) : Host.Outcome State Fault Refusal :=
  .next { s with time := { s.time with hold := 0 } }

end Sys2Proof.Machine
end

