-- ==== Sys2Proof/Machine/Fabric.lean ====
section
/-! DEFINITION. The Aelrel ports (R219 to R245): links and training, the topology map and routes, sending in slots, the receiver's checks, heartbeats, time messages. -/

namespace Sys2Proof.Machine

/-! ### Packets (R232, R233) -/

/-- TYPE codes of R232. -/
def tyData : Nat := 0
@[inherit_doc tyData] def tyHeartbeat : Nat := 1
@[inherit_doc tyData] def tyTime : Nat := 2
@[inherit_doc tyData] def tyTopology : Nat := 3
@[inherit_doc tyData] def tyReduce : Nat := 4
@[inherit_doc tyData] def tyCert : Nat := 5
@[inherit_doc tyData] def tyCutting : Nat := 6
@[inherit_doc tyData] def tyCutAck : Nat := 7
@[inherit_doc tyData] def tyMgmt : Nat := 8

/-- No device, or every device (R224). -/
def idNone : Nat := 0x1FFF

/-- HEARTBEAT, TIME and TOPOLOGY belong to one link: no window, no encryption (R231, R244). -/
def linkType (t : Nat) : Bool := decide (1 ≤ t ∧ t ≤ 3)

/-- The number in n bytes of TYPE_FIELDS, by header byte number. -/
def tfAt (p : Packet) (byte n : Nat) : Nat := fieldAt p.tf (byte - 28) n

/-- TYPE_FIELDS with bytes from a header byte number, the rest 0. -/
def tfWith (parts : List (Nat × List Byte)) : List Byte :=
  parts.foldl (fun l p => (l.take (p.1 - 28) ++ p.2 ++ l.drop (p.1 - 28 + p.2.length)).take 20) (List.replicate 20 0)

/-- The 64-byte header, with HOP_PTR 0 (R232). -/
def packetHeader (p : Packet) : List Byte :=
  leBytes 2 p.dest ++ leBytes 2 (p.src + 8192 * p.srcPart) ++
    leBytes 1 (p.cls + 4 * b2n p.enc + 8 * b2n p.poison + 16 * b2n p.dormant) ++ leBytes 1 p.type ++ [0] ++
    leBytes 1 p.hopCount ++ padTo 7 (p.hops.map (BitVec.ofNat 8)) ++ [0] ++ leBytes 8 p.seq ++ leBytes 2 p.frameLo ++
    leBytes 2 p.payload.length ++ padTo 20 p.tf ++ padTo 16 p.tag

/-- The additional data of R243: header bytes 0 to 5 and 7 to 47. -/
def packetAad (p : Packet) : List Byte := (packetHeader p).take 6 ++ ((packetHeader p).drop 7).take 41

/-- The GCM nonce of R243. -/
def packetNonce (p : Packet) : Nat := p.seq + 2 ^ 64 * (p.src + 8192 * p.srcPart)

/-- A packet of this device before it is routed: class, type, fields, payload. -/
def newPacket (dest src part cls ty : Nat) (poison : Bool) (tf payload : List Byte) : Packet :=
  { dest := dest, src := src, srcPart := part, cls := cls, enc := false, poison := poison, dormant := false, rsv := false,
    type := ty, hopCount := 0, hops := [], seq := 0, frameLo := 0, tf := padTo 20 tf, payload := payload,
    tag := List.replicate 16 0 }

/-! ### Ports and identity -/

/-- The state with the fabric's own part changed. -/
def State.setFab (s : State) (f : FabricSt) : State := { s with fab := f }

/-- This device's id (R224). -/
def State.myId (s : State) : Nat := s.get (pgLink 0) .DEVICE_ID

/-- LINK_STATE codes of R245. -/
def State.link (s : State) (p : Nat) : Nat := s.get (pgPort p) .LINK_STATE

/-- A port that carries traffic: up at either rate. -/
def State.portUp (s : State) (p : Nat) : Bool := s.link p == 2 || s.link p == 3

/-- The up ports of a partition with a valid position, ascending. -/
def State.upPorts (s : State) (q : Nat) : List Nat :=
  (s.partPorts q).filter fun p => s.portUp p && s.flag (pgPort p) .POS_VALID

/-- The partition of a port (R17). -/
def State.portPart (s : State) (p : Nat) : Nat := s.partOf (p / 2)

/-- FRAME_US in force for a port: its owning bed's, or 16 when that bed has no origin (R223, R237). -/
def State.portFrameUs (s : State) (p : Nat) : Nat :=
  if (s.bed (p / 2)).origin then (s.bed (p / 2)).us else 16

/-- S of a port at its present rate (R228). -/
def State.portSlots (s : State) (p : Nat) : Nat :=
  if s.link p = 2 then s.portFrameUs p * 200000 / 4160
  else if s.link p = 3 then s.portFrameUs p * 100000 / 4160
  else 0

/-! ### Routes (R226) -/

/-- A device port of a switch is up in the map. -/
def portListed (m : List TopoEntry) (plane sw port : Nat) : Bool :=
  m.any fun e => e.plane == plane && e.switch == sw && e.port == port && e.state == 0

/-- The switches that a switch reaches on a plane, each with its egress port, in ascending (switch, port) order: entries whose far end is a switch carry 8,192 + its number (log 31). -/
def neighbours (m : List TopoEntry) (plane sw : Nat) : List (Nat × Nat) :=
  (List.range 64).flatMap fun n =>
    (List.range 128).filterMap fun p =>
      if m.any fun e => e.plane == plane && e.switch == sw && e.port == p && e.state == 0 && e.dev == 8192 + n then
        some (n, p) else none

/-- A path of exactly so many switch hops, ties to the lowest switch and then the lowest egress port. -/
def pathOf (m : List TopoEntry) (plane dst : Nat) : Nat → Nat → Option (List Nat)
  | 0, _ => none
  | 1, sw => if sw = dst / 128 && portListed m plane sw (dst % 128) then some [dst % 128] else none
  | n + 1, sw => (neighbours m plane sw).findSome? fun x => (pathOf m plane dst n x.1).map (x.2 :: ·)

/-- The route from a port to a device: the shortest path of at most 7 hops. -/
def State.route (s : State) (p dst : Nat) : Option (List Nat) :=
  [1, 2, 3, 4, 5, 6, 7].findSome? fun n =>
    pathOf s.fab.topo (s.get (pgPort p) .PLANE) dst n (s.get (pgPort p) .SWITCH)

/-- REACHABLE: devices in the map. -/
def mapDevices (m : List TopoEntry) : Nat :=
  (m.foldl (fun (acc : List Nat) e => if e.dev < 8191 && !acc.contains e.dev then e.dev :: acc else acc) []).length

/-- Every port of a peer on the partition's planes is reported down or dormant (R239). -/
def State.peerLost (s : State) (q d : Nat) : Bool :=
  let planes := ((s.partPorts q).filter fun p => s.flag (pgPort p) .POS_VALID).map fun p => s.get (pgPort p) .PLANE
  let es := s.fab.topo.filter fun e => e.dev == d && planes.contains e.plane
  !es.isEmpty && es.all fun e => e.state != 0

/-! ### Sending (R220, R230, R231) -/

/-- A packet put into a port's queue. -/
def State.queueOn (s : State) (p : Nat) (k : Packet) : State :=
  s.setFab { s.fab with queue := s.fab.queue.put p (s.fab.queue.get p [] ++ [k]) }

/-- The next SEQ of a partition. -/
def State.takeSeq (s : State) (q : Nat) : Nat × State :=
  let n := s.fab.seq.get q 0
  (n, s.setFab { s.fab with seq := s.fab.seq.put q ((n + 1) % 2 ^ 64) })

/-- A packet of a partition to other devices: class 0 on its two lowest up ports, to leave with one SEQ, other classes on the lowest (R231; log 30). With no port up it is lost. -/
def State.send (s : State) (q dest cls ty : Nat) (tf payload : List Byte) (poison : Bool := false) : State :=
  let k := { newPacket dest s.myId q cls ty poison tf payload with seq := s.fab.ticket }
  ((s.upPorts q).take (if cls = 0 then 2 else 1)).foldl (fun s p => s.queueOn p k) (s.setFab { s.fab with ticket := s.fab.ticket + 1 })

/-- The other copy of a packet still waits at a port of its partition. -/
def State.twinWaits (s : State) (k : Packet) : Bool :=
  (s.partPorts k.srcPart).any fun p => (s.fab.queue.get p []).any fun x => x.srcPart == k.srcPart && x.seq == k.seq && !linkType x.type

/-- A packet that leaves takes its SEQ: the partition's next one, or that of its copy (R231, R293); one of a single link carries 0. -/
def State.numbered (s : State) (k : Packet) : State × Packet :=
  if linkType k.type then (s, { k with seq := 0 })
  else match s.fab.given.find? (k.srcPart, k.seq) with
    | some n => (s.setFab { s.fab with given := s.fab.given.del (k.srcPart, k.seq) }, { k with seq := n })
    | none =>
      let r := s.takeSeq k.srcPart
      let t := if s.twinWaits k then r.2.setFab { r.2.fab with given := r.2.fab.given.put (k.srcPart, k.seq) r.1 } else r.2
      (t, { k with seq := r.1 })

/-- A link key is installed: a group's GK with LINK_KEYED, LK outside any group (R245, R291, R292). -/
def State.linkInstalled (s : State) (q : Nat) : Bool := (s.session q).keys.isSome && ((s.session q).roster.isEmpty || s.flag pgSec .LINK_KEYED q)

/-- ENC_ACTIVE of a port: ENC_EN is 1 and a link key is installed (R245). -/
def State.encActive (s : State) (p : Nat) : Bool := s.flag (pgPort p) .PORT_ENC_EN && s.linkInstalled (s.portPart p)

/-- A message of the link-key agreement, codes 0xFF01 to 0xFF05 (R291, log 11). -/
def isAgreement (k : Packet) : Bool := k.type == tyMgmt && decide (0xFF01 ≤ tfAt k 28 2) && decide (tfAt k 28 2 ≤ 0xFF05)

/-- The packet belongs to a port's encrypted types (R243, R244); the agreement's messages, which come before their receiver's key, go in clear (DESIGN CHOICE, log 100). -/
def encType (k : Packet) : Bool := !linkType k.type && !isAgreement k

/-- The link key of a partition (R292); empty without a session. -/
def State.linkKey (s : State) (q : Nat) : List Byte := match (s.session q).keys with
  | some k => k.linkKey
  | none => []

/-- The group time reference's TIME_REF phase error as time messages carry it (R139). -/
def State.messageTime (s : State) : Nat := ((s.time.now : Int) + s.phaseError).toNat % 2 ^ 64

/-- What a TIME packet takes when it leaves: a request its send time T1, a response T3 (R234). -/
def State.stampTime (s : State) (k : Packet) : Packet :=
  if k.type ≠ tyTime then k
  else if tfAt k 28 1 % 2 = 0 then { k with tf := tfWith [(32, leBytes 8 s.time.now)] }
  else { k with payload := k.payload.take 8 ++ leBytes 8 s.messageTime }

/-- A packet with FRAME_LO, time stamps and its route from a port; none without a route (R226, R232, R234). -/
def State.routed (s : State) (p : Nat) (k : Packet) : Option Packet :=
  let k := s.stampTime { k with frameLo := s.pageFrame (pgPort p) % 65536 }
  if k.type = tyHeartbeat || k.type = tyTopology || k.dest = idNone then some k
  else (s.route p k.dest).map fun h => { k with hops := h, hopCount := h.length }

/-- A numbered packet encrypted where ENC_EN asks for it (R243). -/
def State.sealOut (s : State) (p : Nat) (k : Packet) : Packet :=
  if s.encActive p && encType k then
    let k := { k with enc := true }
    let c := Config.gcmSeal (s.linkKey (s.portPart p)) (packetNonce k) (packetAad { k with tag := [] }) k.payload
    { k with payload := c.1, tag := c.2 }
  else k

/-- A packet sent in a slot: numbered and kept among the last 64 (R220), counted in its class, brought back to the receiver under NEAR_LOOPBACK (R245). -/
def State.transmit (s : State) (p : Nat) (k : Packet) : State :=
  let n := s.fab.sentNo.get p 0
  let l := s.fab.sent.get p [] ++ [(n, k)]
  let s := s.setFab { s.fab with
    sent := s.fab.sent.put p (l.drop (l.length - 64)), sentNo := s.fab.sentNo.put p (n + 1), retryAsk := s.fab.retryAsk.del p }
  let s := if s.flag (pgPort p) .NEAR_LOOPBACK then s.setFab { s.fab with looped := s.fab.looped.put p (s.fab.looped.get p [] ++ [k]) } else s
  s.bump (pgPort p) .TX_SLOTS_C 1 (k.cls % 4)

/-- The partner asks for a slot again by its number (R220): due if it is among the last 64. -/
def State.askedFor (s : State) (p n : Nat) : State :=
  match (s.fab.sent.get p []).find? fun e => e.1 == n with
  | some e => s.setFab { s.fab with retryDue := s.fab.retryDue.put p (s.fab.retryDue.get p [] ++ [e.2]) }
  | none => s

/-- The slots that the armature plans for a port in the current frame, with their classes (R229). -/
def State.slotPlan (s : State) (p : Nat) : List (Nat × Nat) :=
  let b := p / 2
  let f := s.armOf b
  let rec_ := inSec f 0x06 (8 * ((2 * bedRank f b + p % 2) * armFps f + s.frameIn b)) 8
  (List.range (bits rec_ 32 16)).flatMap fun i =>
    let r := inSec f 0x06 (bits rec_ 0 32 + 4 * i) 4
    (List.range (bits r 12 12)).map fun n => (bits r 0 12 + n, bits r 24 2)

/-- The class planned for a slot; link throttle steps leave classes 1 to 3 the first half or quarter of their planned slots (R315). -/
def State.plannedClass (s : State) (p slot : Nat) : Option Nat :=
  let l := s.slotPlan p
  match l.find? fun x => x.1 == slot with
  | none => none
  | some x =>
    let same := l.filter fun y => y.2 == x.2
    let before := (same.filter fun y => y.1 < slot).length
    if x.2 = 0 || before < same.length / 2 ^ s.get pgPower .LINK_STEPS then some x.2 else none

/-- A packet may be injected now: window packets wait while a group member is not aligned or DEVICE_TIME holds (R133, R231); a port without a position carries only HEARTBEAT and TOPOLOGY (R225). -/
def State.mayInject (s : State) (p : Nat) (k : Packet) : Bool :=
  let q := s.portPart p
  if linkType k.type then s.flag (pgPort p) .POS_VALID || k.type != tyTime
  else s.flag (pgPort p) .POS_VALID && s.time.hold == 0 && !((s.part q).member && !s.flag pgGlobals .GROUP_ALIGNED)

/-- A TIME request goes in a reserved class-0 slot (R234), in any where no slot is planned. -/
def State.timeSlot (s : State) (p slot : Nat) (k : Packet) : Bool :=
  k.type != tyTime || tfAt k 28 1 % 2 == 1 || (s.slotPlan p).isEmpty || s.plannedClass p slot == some 0

/-- A retry goes in a slot of its class or of class 0 (R220), in any where no slot is planned. -/
def State.retrySlot (s : State) (p slot : Nat) (k : Packet) : Bool :=
  (s.slotPlan p).isEmpty || s.plannedClass p slot == some 0 || s.plannedClass p slot == some k.cls

/-- The HEARTBEAT of a port (R233, R237, R238). -/
def State.heartbeat (s : State) (p : Nat) : Packet :=
  let b := p / 2
  let q := s.portPart p
  { newPacket idNone s.myId q 0 tyHeartbeat false
      (tfWith [(28, leBytes 1 (s.portFrameUs p)), (29, leBytes 1 p), (32, leBytes 8 (s.get (pgBed b) .FRAME_NUMBER)),
        (40, leBytes 2 (s.get (pgBed b) .EPOCH_CNT))]) [] with dormant := s.pw.power == .dormant }

/-- The heartbeat sent (R232, R237). -/
def State.sendBeat (s : State) (p : Nat) : State := s.transmit p ((s.routed p (s.heartbeat p)).getD (s.heartbeat p))

/-- Heartbeats are sent: not by a partition that left its group while the device is in Hold (R306). -/
def State.beats (s : State) (p : Nat) : Bool := !(s.pw.power == .hold && s.fab.rejoin.contains (s.portPart p))

/-- The first packet of a queue that satisfies a test, and the queue without it. -/
def takeFirst (t : Packet → Bool) : List Packet → Option (Packet × List Packet)
  | [] => none
  | k :: r => if t k then some (k, r) else (takeFirst t r).map fun x => (x.1, k :: x.2)

/-- The packet that a slot carries, beside retries, with the queue left: a waiting class-0 packet, one of the planned class, then classes 1, 2, 3 (R230). -/
def State.pickPacket (s : State) (p slot : Nat) : Option (Packet × List Packet) :=
  let q := s.fab.queue.get p []
  let ok := fun (c : Nat) (k : Packet) => k.cls == c && s.mayInject p k && s.timeSlot p slot k
  let planned := match s.plannedClass p slot with
    | some c => [c]
    | none => []
  ([0] ++ planned ++ [1, 2, 3]).findSome? fun c => takeFirst (ok c) q

/-- A packet taken from the queue leaves in this slot with its SEQ, encrypted where that applies, or is discarded and counted without a route (R226, R231, R243). -/
def State.sendPicked (s : State) (p : Nat) (k : Packet) (rest : List Packet) : State :=
  let s := s.setFab { s.fab with queue := s.fab.queue.put p rest }
  match s.routed p k with
  | some k =>
    let x := s.numbered k
    x.1.transmit p (x.1.sealOut p x.2)
  | none => s.bump (pgPort p) .UNROUTED

/-! ### Receiving (R231, R232, R236, R243, R244) -/

/-- A packet discarded for a reserved TYPE or bit, counted (R232). -/
def State.countDiscard (s : State) (p : Nat) : State :=
  s.setFab { s.fab with discards := s.fab.discards.put p (s.fab.discards.get p 0 + 1) }

/-- The window of a sender at a partition: whether a SEQ is accepted, and the window after it (R231). -/
def windowAccept (w : Option (Nat × List Nat)) (seq : Nat) : Option (Nat × List Nat) :=
  match w with
  | none => some (seq, [])
  | some (hi, seen) =>
    if hi < seq then some (seq, (hi :: seen).filter fun x => seq ≤ x + 64)
    else if seq = hi || hi > seq + 64 || seen.contains seq then none
    else some (hi, seq :: seen)

/-- The packet opened: checked against ENC_EN, and decrypted when it carries ENC (R243, R244). -/
def State.openPacket (s : State) (p : Nat) (k : Packet) : State × Option Packet :=
  let pg := pgPort p
  if !encType k then (s, some k)
  else if !k.enc then
    if s.flag pg .PORT_ENC_EN then (s.bump pg .CLEAR_DROP, none) else (s, some k)
  else
    match (if s.encActive p then
        Config.gcmOpen (s.linkKey (s.portPart p)) (packetNonce k) (packetAad { k with tag := [] }) k.payload k.tag else none) with
    | some d => (s, some { k with payload := d })
    | none => ((s.bump pg .GCM_FAIL).raise pg 4, none)

/-- A class-0 packet of a device that arrives after its frame n + 1 (R236): HEARTBEAT and TOPOLOGY come from the switch, which has no frames. -/
def State.late0 (s : State) (p : Nat) (k : Packet) : Bool :=
  let d := (s.pageFrame (pgPort p) % 65536 + 65536 - k.frameLo % 65536) % 65536
  k.cls == 0 && (s.part (s.portPart p)).member && (!linkType k.type || k.type == tyTime) && decide (2 ≤ d ∧ d < 32768)

/-- A packet after its frame n + 1 counted (R236). -/
def State.countLate (s : State) (p : Nat) (k : Packet) : State :=
  if s.late0 p k then (s.bump (pgPort p) .C0_LATE).raise (pgPort p) 5 else s

/-- The bits of a TYPE_FIELDS byte that a TYPE uses, by header byte number (R233, R252). -/
def tfMask (ty byte : Nat) : Nat :=
  let on := fun (lo hi : Nat) => decide (lo ≤ byte ∧ byte ≤ hi)
  if ty = tyData then (if on 28 35 then 255 else if byte = 36 then 3 else 0)
  else if ty = tyHeartbeat then (if byte = 28 || on 32 41 then 255 else if byte = 29 then 15 else 0)
  else if ty = tyTime then (if on 32 47 then 255 else if byte = 28 then 1 else 0)
  else if ty = tyTopology then (if on 28 29 then 255 else 0)
  else if ty = tyReduce || ty = tyCert then (if on 28 33 || on 35 38 || on 40 47 then 255 else if byte = 34 then 63 else 0)
  else if ty = tyCutting then (if on 28 39 then 255 else 0)
  else if ty = tyCutAck then (if on 28 31 then 255 else 0)
  else if ty = tyMgmt then (if on 28 29 then 255 else 0)
  else 0

/-- A reserved bit of TYPE_FIELDS is nonzero (R233). -/
def tfReserved (k : Packet) : Bool := (List.range 20).any fun i => tfAt k (28 + i) 1 &&& (255 - tfMask k.type (28 + i)) != 0

/-- A received packet through the receiver's checks: the state, and the packet where its consumer gets it; after a lost die-to-die link nothing is taken (R11). -/
def State.takeIn (s : State) (p : Nat) (k : Packet) : State × Option Packet :=
  let q := s.portPart p
  if s.pw.wedged || !(s.portUp p || s.link p == 4) then (s, none)
  else if 8 < k.type || k.rsv || tfReserved k then (s.countDiscard p, none)
  else if !s.flag (pgPort p) .POS_VALID && k.type != tyHeartbeat && k.type != tyTopology then (s, none)
  else if !linkType k.type && k.dest != idNone && k.dest != s.myId then (s, none)
  else
    match s.openPacket p k with
    | (s, none) => (s, none)
    | (s, some k) =>
      if linkType k.type then (s.countLate p k, some k)
      else
        match windowAccept (s.fab.window.find? (q, k.src, k.srcPart)) k.seq with
        | none => (s, none)
        | some w =>
          let s := s.setFab { s.fab with window := s.fab.window.put (q, k.src, k.srcPart) w }
          (s.countLate p k, some k)

/-- A command that brings a packet of one type: the packet through the checks to its consumer; a packet of another type is not this command's (log 2). -/
def State.consume (s : State) (p : Nat) (k : Packet) (ty : Nat) (f : State → Packet → State) : Host.Outcome State Fault Refusal :=
  if k.type ≠ ty then .next s
  else match s.takeIn p k with
    | (s, some k) => .next (f s k)
    | (s, none) => .next s

/-! ### DATA (R233) -/

/-- A DATA packet written to its device address under its hint; a poisoned packet leaves poisoned lines. -/
def State.dataIn (s : State) (p : Nat) (k : Packet) : State :=
  let r : MemReq := ⟨bedOf (p / 2), k.cls % 4, tfAt k 36 1 % 4, 1 + Config.storeUses k.seq % 255, tfAt k 28 8, false⟩
  s.writeSpan r k.payload k.poison

/-- DATA_RECEIVE (R233). -/
def execDataReceive (port : Port) (packet : Packet) (s : State) : Host.Outcome State Fault Refusal :=
  s.consume port.val packet tyData fun s k => s.dataIn port.val k

/-! ### Heartbeats (R237, R238) -/

/-- Heartbeats missed since the last one: whole intervals expected that brought none, to the nearest (R237, log 81). -/
def State.beatsMissed (s : State) (p : Nat) : Nat :=
  match s.fab.lastBeat.find? p, s.fab.expect.find? p with
  | some t, some us => if us = 0 then 0 else (s.time.now - t + 500 * us) / (1000 * us) - 1
  | _, _ => 0

/-- A heartbeat ends a run of missed ones, which are counted, and sets the interval expected. -/
def State.heartbeatIn (s : State) (p : Nat) (k : Packet) : State :=
  (s.setFab { s.fab with
    missed := s.fab.missed.put p 0, expect := s.fab.expect.put p (tfAt k 28 1), lastBeat := s.fab.lastBeat.put p s.time.now }).bump
    (pgPort p) .HB_MISS (s.beatsMissed p)

/-- HEARTBEAT_RECEIVE (R237). -/
def execHeartbeatReceive (port : Port) (packet : Packet) (s : State) : Host.Outcome State Fault Refusal :=
  s.consume port.val packet tyHeartbeat fun s k => s.heartbeatIn port.val k

/-- What a port holds for its partner forgotten: slot numbers, retries, requests, loop; packets for a lost link are discarded (R236), those of one that trains wait. -/
def FabricSt.dropLink (f : FabricSt) (p : Nat) (lost : Bool) : FabricSt :=
  { f with
    sent := f.sent.del p, sentNo := f.sentNo.del p, received := f.received.del p, retryDue := f.retryDue.del p,
    retryAsk := f.retryAsk.del p, looped := f.looped.del p, lastBeat := f.lastBeat.del p,
    queue := if lost then f.queue.del p else f.queue }

/-- A port no longer up: no lanes; in state 0 its link is lost. -/
def State.portDown (s : State) (p st : Nat) : State :=
  ((s.setFab (s.fab.dropLink p (st == 0))).put (pgPort p) .LINK_STATE st).put (pgPort p) .LANES_UP 0

/-- HEARTBEAT_TIMEOUT (R237, R351): the third miss in a row; the partner is declared down. -/
def execHeartbeatTimeout (port : Port) (s : State) : Host.Outcome State Fault Refusal :=
  let p := port.val
  if !(s.portUp p || s.link p == 4) then .next s
  else
    let s := s.setFab { s.fab with missed := s.fab.missed.put p 3 }
    let s := ((s.bump (pgPort p) .HB_MISS 3).bump (pgPort p) .DOWN_CNT).portDown p 0
    .next (((s.evt (pgPort p) 6).evt (pgPort p) 0).record 0x0A10 (pgPort p))

/-! ### Time messages (R234) -/

/-- This device is the group's time reference. -/
def State.isTimeRef (s : State) : Bool :=
  s.get (pgLink 0) .TIME_REF_ID == s.myId && s.flag (pgLink 0) .ID_VALID

/-- A TIME request answered at once on the same port, with T1 echoed and T2 and T3. -/
def State.timeRequestIn (s : State) (p : Nat) (k : Packet) : State :=
  if !s.isTimeRef || tfAt k 28 1 % 2 = 1 then s
  else
    let t := leBytes 8 s.messageTime
    s.queueOn p (newPacket k.src s.myId (s.portPart p) 0 tyTime false
      (tfWith [(28, [1]), (32, leBytes 8 (tfAt k 32 8))]) (t ++ t))

/-- TIME_REQUEST_RECEIVE (R234). -/
def execTimeRequestReceive (port : Port) (packet : Packet) (s : State) : Host.Outcome State Fault Refusal :=
  s.consume port.val packet tyTime fun s k => s.timeRequestIn port.val k

/-- The members of the group that a partition joins: those of a loaded armature of a group that names this device; a partition that left its group, or is grafted into one, is not its reference (R133, log 24). -/
def State.joinGroup (s : State) (q : Nat) : List Nat :=
  match (List.range 64).findSome? fun k => match s.armSlot q k with
      | some a => if 1 < armGroup a.file && (memberList a.file).contains s.myId then some (memberList a.file) else none
      | none => none with
  | none => []
  | some l => if s.fab.rejoin.contains q || !(s.part q).graft.isEmpty || (s.part q).changes.any (fun c => c.graft.isSome)
      then l.filter (· != s.myId) else l

/-- The members whose time a partition follows: its group's live ones, or those of the group that it joins. -/
def State.timeGroup (s : State) (q : Nat) : List Nat :=
  if (s.part q).member then (memberList (s.partArm q)).filter fun d => !(s.part q).lost.contains d else s.joinGroup q

/-- The time reference of a group: the lowest-id member with TREF_LOCKED, else the lowest-id member (R234); of another member no message tells TREF_LOCKED, a free value. -/
def State.timeRef (s : State) (q : Nat) : Nat :=
  let l := s.timeGroup q
  let on := l.filter fun d => if d = s.myId then s.flag pgGlobals .TREF_LOCKED else Config.peerLocked d s.free
  let low := fun (x : List Nat) => x.foldl min (x.headD idNone)
  if on.isEmpty then low l else low on

/-- A TIME response: implausible corrections are dropped; else the offset, in whole ns, aligns DEVICE_TIME (R234, R138). -/
def State.timeResponseIn (s : State) (p : Nat) (k : Packet) : State :=
  let q := s.portPart p
  let t1 := tfAt k 32 8
  let lim : Int := (k.hopCount * 450 * 65536 : Nat)
  let resp := sext 64 (tfAt k 40 8)
  let req := Config.corrReq t1
  if tfAt k 28 1 % 2 = 0 || (s.timeGroup q).isEmpty || s.isTimeRef || lim < resp || lim < req then s
  else
    let t2 : Int := fieldAt k.payload 0 8
    let t3 : Int := fieldAt k.payload 8 8
    let off := (((t2 - t1) - (s.time.now - t3)) * 65536 - req + resp) / 131072
    s.alignOffset off

/-! ### Topology (R223 to R226) -/

/-- A port fenced: electrical idle until CTL.RUN is written 0 and then 1, or device reset (R221, R224). -/
def State.fencePort (s : State) (p : Nat) : State := ((s.portDown p 0).put (pgPort p) .PORT_FENCED 1).evt (pgPort p) 3

/-- POSITION_MISMATCH on a port's link die. -/
def State.mismatch (s : State) (p : Nat) : State := s.raise (pgLink (p / 8)) 1 (leBytes 1 p)

/-- All ports. -/
def allPorts : List Nat := List.range 16

/-- The (switch, port) pair that a port reports. -/
def State.position (s : State) (p : Nat) : Nat × Nat := (s.get (pgPort p) .SWITCH, s.get (pgPort p) .SWITCH_PORT)

/-- The device id derived from the lowest port with a valid position; ports that disagree are fenced (R224). -/
def State.deriveId (s : State) : State :=
  match allPorts.find? fun p => s.flag (pgPort p) .POS_VALID && !s.flag (pgPort p) .PORT_FENCED with
  | none => [0, 1].foldl (fun s d => (s.put (pgLink d) .ID_VALID 0).put (pgLink d) .DEVICE_ID idNone) s
  | some l =>
    let x := s.position l
    let s := [0, 1].foldl (fun s d => (s.put (pgLink d) .ID_VALID 1).put (pgLink d) .DEVICE_ID (x.1 * 128 + x.2)) s
    allPorts.foldl (fun s p =>
      if s.flag (pgPort p) .POS_VALID && !s.flag (pgPort p) .PORT_FENCED && s.position p != x then
        ((s.put (pgPort p) .POS_VALID 0).fencePort p).mismatch p
      else s) s

/-- A position report: plane, switch and switch port in payload bytes 0 to 2 (R222, R225; log 31). -/
def State.positionIn (s : State) (p : Nat) (k : Packet) : State :=
  let pl := fieldAt k.payload 0 1
  let sw := fieldAt k.payload 1 1
  let po := fieldAt k.payload 2 1
  if 15 < pl || 63 < sw || 127 < po then s
  else if sw = 63 && po = 127 then ((s.put (pgPort p) .POS_VALID 0).mismatch p).deriveId
  else
    let s := ((s.put (pgPort p) .PLANE pl).put (pgPort p) .SWITCH sw).put (pgPort p) .SWITCH_PORT po
    (s.put (pgPort p) .POS_VALID 1).deriveId

/-- The map with one report taken. -/
def mapPut (m : List TopoEntry) (e : TopoEntry) : List TopoEntry :=
  m.filter (fun x => !(x.plane == e.plane && x.switch == e.switch && x.port == e.port)) ++ [e]

/-- The updated map taken into use: ROUTE_FRAME as a page of no bed has its frame (R136), REACHABLE, MAP_CHANGED, and PEER_LOST for peers that any partition newly loses (R226, R227, R239, R245). -/
def State.applyTopo (s : State) : State :=
  match s.fab.topoNew with
  | none => s
  | some m =>
    let lostOf := fun (s : State) (q : Nat) => (List.range 8191).filter fun d => s.peerLost q d
    let was := (List.range s.partCount).map (lostOf s)
    let s := s.setFab { s.fab with topo := m, topoNew := none }
    let s := [0, 1].foldl (fun s d =>
      ((s.put (pgLink d) .ROUTE_FRAME (s.pageFrame (pgLink d))).put (pgLink d) .REACHABLE (mapDevices m)).raise (pgLink d) 0) s
    (List.range s.partCount).foldl (fun s q =>
      if (lostOf s q).all fun d => (was.getD q []).contains d then s else s.raise (pgLink (s.partFirst q / 4)) 2) s

/-- A port report: plane, switch, port in payload bytes 0 to 2, the far end in bytes 3 and 4; it takes effect at the next tick of a bed, at once where none ticks (R226, R227; log 31). -/
def State.reportIn (s : State) (k : Packet) : State :=
  let e : TopoEntry := ⟨fieldAt k.payload 0 1, fieldAt k.payload 1 1, fieldAt k.payload 2 1, fieldAt k.payload 3 2, tfAt k 29 1⟩
  let t := s.setFab { s.fab with topoNew := some (mapPut (s.fab.topoNew.getD s.fab.topo) e) }
  if allBeds.any fun b => (s.bed b).origin && (s.bed b).started then t else t.applyTopo

/-- A TOPOLOGY packet by its KIND (R233); identity records concern switches only. -/
def State.topologyIn (s : State) (p : Nat) (k : Packet) : State :=
  if tfAt k 28 1 = 1 then s.positionIn p k else if tfAt k 28 1 = 2 then s.reportIn k else s

/-- TOPOLOGY_RECEIVE (R223 to R226). -/
def execTopologyReceive (port : Port) (packet : Packet) (s : State) : Host.Outcome State Fault Refusal :=
  s.consume port.val packet tyTopology fun s k => s.topologyIn port.val k

/-! ### Links (R219 to R221, R223) -/

/-- The order code (00_scope, R1). -/
def orderCode : List Byte := ascii "MVX-3072-LQ"

/-- The identity record that a port sends when it comes up (R223). -/
def State.identity (s : State) (p : Nat) : Packet :=
  let mask := (s.partPorts (s.portPart p)).foldl (fun a x => a + 2 ^ x) 0
  newPacket idNone s.myId (s.portPart p) 0 tyTopology false (List.replicate 20 0)
    (leBytes 8 Config.serial.toNat ++ padTo 16 orderCode ++ leBytes 1 (s.portFrameUs p) ++ leBytes 2 mask)

/-- A port begins to train: attempt 1 at full rate, or attempt 3 at fall-back rate under FORCE_FALLBACK (R221). -/
def State.train (s : State) (p : Nat) : State :=
  let s := s.portDown p 1
  s.setFab { s.fab with attempts := s.fab.attempts.put p (if s.flag (pgPort p) .FORCE_FALLBACK then 3 else 1) }

/-- PORT_RETRAIN (R221): lost lock, or more than 1,024 uncorrectable codewords in 1 ms. -/
def execPortRetrain (port : Port) (s : State) : Host.Outcome State Fault Refusal :=
  .next (if s.portUp port.val then s.train port.val else s)

/-- PORT_TRAINING_TIMEOUT (R221, R351): the next attempt, then fall-back rate, then the fence. -/
def execPortTrainingTimeout (port : Port) (s : State) : Host.Outcome State Fault Refusal :=
  let p := port.val
  if s.link p ≠ 1 then .next s
  else
    let a := s.fab.attempts.get p 1
    let s := s.record 0x0A11 (pgPort p) (leBytes 1 a)
    if 3 ≤ a then .next (s.fencePort p)
    else .next (s.setFab { s.fab with attempts := s.fab.attempts.put p (a + 1) })

/-- LINK_UP (R221, R223): training completed; the port sends its identity. -/
def execLinkUp (port : Port) (s : State) : Host.Outcome State Fault Refusal :=
  let p := port.val
  if s.link p ≠ 1 then .next s
  else
    let fb := decide (3 ≤ s.fab.attempts.get p 1)
    let s := (s.put (pgPort p) .LINK_STATE (if fb then 3 else 2)).put (pgPort p) .LANES_UP 0xFF
    let s := s.setFab { s.fab with missed := s.fab.missed.put p 0, lastBeat := s.fab.lastBeat.put p s.time.now }
    let s := s.raise (pgPort p) 1
    let s := if fb then s.raise (pgPort p) 2 else s
    .next (s.queueOn p (s.identity p))

/-- The page of the die at the far end of a die-to-die link of the compute die (R10); links 0 to 7 end at bridges, 8 and 9 at the link dies, 10 at the keeper (log 33). -/
def d2dPage (l : Nat) : Page := if l < 8 then pgBridge l else if l < 10 then pgLink (l - 8) else pgKeeper

/-- D2D_FLIT_RETRY (R10): a flit recovered at its receiver; compute tells that the compute die received it, whose page is the device-globals page (log 33). -/
def execD2dFlitRetry (link : Fin 11) (s : State) (compute : Bool := false) : Host.Outcome State Fault Refusal :=
  .next (s.bump (if compute then pgGlobals else d2dPage link.val) .ERR_CORR)

/-- D2D_TRAINING_LOST (R11): the link begins to recover. -/
def execD2dTrainingLost (link : Fin 11) (s : State) : Host.Outcome State Fault Refusal :=
  .next { s with pw := { s.pw with d2dDown := setMark s.pw.d2dDown link.val true } }

/-- D2D_TRAINING_RECOVERED (R11). -/
def execD2dTrainingRecovered (link : Fin 11) (s : State) : Host.Outcome State Fault Refusal :=
  .next { s with pw := { s.pw with d2dDown := setMark s.pw.d2dDown link.val false } }

/-- D2D_TRAINING_TIMEOUT (R11, R351): Hold, with a record naming the link; from then on the device answers only the operations of R353. -/
def execD2dTrainingTimeout (link : Fin 11) (s : State) : Host.Outcome State Fault Refusal :=
  if s.pw.d2dDown.contains link.val then
    .next ({ s with pw := { s.pw with wedged := true } }.record 0x0110 pgGlobals (leBytes 1 link.val) |>.enterHold 7)
  else .next s

end Sys2Proof.Machine
end

