-- ==== Sys2Proof/Machine/Reduce.lean ====
section
/-! DEFINITION. Exact gradient reduction (R246 to R259): exponents, trees, contributions and partials, the root's noise and certificate, retention, settlement. -/

namespace Sys2Proof.Machine

/-! ### Trees (R249) -/

/-- The tree of a bucket's tile or of a vote: live members in ascending order, r, and ARITY. -/
structure Tree where
  members : List Nat
  r : Nat
  arity : Nat
  deriving DecidableEq, Repr

/-- G. -/
def treeSize (t : Tree) : Nat := t.members.length

/-- The rank of a device; none outside the tree. -/
def rankOf (t : Tree) (id : Nat) : Option Nat :=
  (t.members.findIdx? (· == id)).map fun p => (p + treeSize t - t.r) % treeSize t

/-- The device at a rank. -/
def idAt (t : Tree) (k : Nat) : Nat := t.members.getD ((k + t.r) % treeSize t) idNone

/-- The rank of a parent. -/
def parentOf (t : Tree) (k : Nat) : Nat := (k - 1) / t.arity

/-- The ranks of the children. -/
def childrenOf (t : Tree) (k : Nat) : List Nat :=
  (List.range (treeSize t)).filter fun j => 1 ≤ j && parentOf t j == k

/-- Parent steps to the root; the first argument bounds them. -/
def depthOf (t : Tree) : Nat → Nat → Nat
  | 0, _ => 0
  | n + 1, k => if k = 0 then 0 else depthOf t n (parentOf t k) + 1

/-- The depth of a rank. -/
def rankDepth (t : Tree) (k : Nat) : Nat := depthOf t (treeSize t) k

/-- The devices of a rank's children. -/
def childIds (t : Tree) (k : Nat) : List Nat := (childrenOf t k).map (idAt t)

/-- The tree of a bucket's tile. -/
def gradTree (o : OpenStep) (b : Bucket) (tile : Nat) : Tree :=
  ⟨o.members, (b.rootBase + tile) % max 1 o.members.length, b.arity⟩

/-! ### Widths and packing (R65, R253) -/

/-- The width code of a sum of n contributors; of none, code 0 (DESIGN CHOICE, log 90). -/
def widthCode (n : Nat) : Nat := if n ≤ 1 then 0 else if n ≤ 256 then 1 else if n ≤ 65536 then 2 else 3

/-- Bytes of an element of a width code. -/
def widthBytes (c : Nat) : Nat := c + 2

/-- Elements packed in a width. -/
def packSums (c : Nat) (l : List Int) : List Byte := l.flatMap fun x => leBytes (widthBytes c) (wrap (8 * widthBytes c) x)

/-- n elements unpacked from a payload. -/
def unpackSums (c n : Nat) (bs : List Byte) : List Int :=
  (List.range n).map fun i => sext (8 * widthBytes c) (fieldAt bs (widthBytes c * i) (widthBytes c))

/-- Sums added element by element. -/
def addSums (a b : List Int) : List Int := (List.range (max a.length b.length)).map fun i => a.getD i 0 + b.getD i 0

/-- TYPE_FIELDS of REDUCE and CERT (R252). -/
def reduceFields (bucket tile step width part : Nat) (sat noised : Bool) (exp : Int) (count hash : Nat) : List Byte :=
  tfWith [(28, leBytes 2 bucket), (30, leBytes 2 tile), (32, leBytes 2 step),
    (34, leBytes 1 (width + 4 * part + 16 * b2n sat + 32 * b2n noised)), (35, leBytes 1 (wrap 8 exp)),
    (36, leBytes 3 count), (40, leBytes 8 hash)]

/-- The state with the reduction changed. -/
def State.setRed (s : State) (r : RedSt) : State := { s with red := r }

/-- A partition's status page (R264). -/
def State.redPage (s : State) (q : Nat) : Page := pgRed (2 * s.partFirst q)

/-- The id under which this device stands in a member list (R254); the sole member of a group of one is 0x1FFF there, also in SUB of its I16 rounding (R75; DESIGN CHOICE, log 90). -/
def State.selfIn (s : State) (members : List Nat) : Nat := if members = [idNone] then idNone else s.myId

/-- The contributor-set hash of one contributor (R248); 0 for the sole member of a group of one (R254). -/
def contributorHash (id : Nat) : Nat := if id = idNone then 0 else memberMix id

/-- The step that is open in a partition, if it is. -/
def State.stepAt (s : State) (q step : Nat) : Option OpenStep := s.red.openStep.find? (q, step)

/-- Elements of part j of a tile of a descriptor (R246). -/
def partElems (d : Desc) (j : Nat) : Nat := min 1024 (d.positions - 1024 * j)

/-- Parts of a tile of a descriptor (R246). -/
def tileParts (d : Desc) : Nat := ceilDiv d.positions 1024

/-! ### Exponents (R247) -/

/-- A bucket's GRAD_DESC has another TENSOR_ID or tile count than the bucket at that index of the armature before. -/
def bucketDiffers (f g : File) (bucket : Nat) : Bool :=
  decide (bucketCount g ≤ bucket) ||
    (descAt f (bucketAt f bucket).grad).tensorId != (descAt g (bucketAt g bucket).grad).tensorId ||
    (bucketAt f bucket).tiles != (bucketAt g bucket).tiles

/-- The buckets of an armature whose exponents start from EXP_INIT in a step: all of them after an activation or a graft or without a step before, else those that differ (R247). -/
def State.initialBuckets (s : State) (q step : Nat) (f : File) (anew : Bool) : List Nat :=
  (List.range (bucketCount f)).filter fun k => anew || match s.stepAt q (prevStep step) with
    | none => true
    | some p => p.ended || bucketDiffers f p.file k

/-- E(s) of a tile, once it is known. -/
def State.expAt (s : State) (q bucket step tile : Nat) : Option Int :=
  match s.stepAt q step with
  | none => none
  | some o =>
    if o.initial.contains bucket then some (bucketAt o.file bucket).expInit
    else s.red.expo.find? ⟨q, bucket, step, tile, 0⟩

/-- The bucket of the step before has not settled, so that no tile is converted yet; the first step of a job has none to wait for (R247). -/
def State.bucketWaits (s : State) (q bucket step : Nat) : Bool :=
  match s.stepAt q step, s.stepAt q (prevStep step) with
  | some o, some p =>
    !o.anew && !p.ended && decide (bucket < bucketCount p.file) && (s.red.settled.find? (q, bucket, prevStep step)).isNone
  | _, _ => false

/-- E(s) with which a tile of a step is converted, once it may be (R247). -/
def State.expReady (s : State) (q bucket step tile : Nat) : Option Int :=
  if s.bucketWaits q bucket step then none else s.expAt q bucket step tile

/-- E(s + 1) from E(s) and the tile's certificates of step s. -/
def nextExp (e : Int) (headroom : Nat) (skipped : Bool) (cs : List Cert) : Int :=
  let a := cs.foldl (fun m c => max m c.amax) 0
  let n := cs.foldl (fun m c => min m c.count) (cs.headD ⟨0, 0, 0, true, false, false, 0⟩).count
  if skipped || cs.isEmpty || cs.any (·.poison) || a = 0 then e
  else clampI (-128) 127 (e + bitLen a - log2 n - 15 + headroom + b2n (cs.any (·.sat)))

/-! ### Opening a step (R249, R254) -/

/-- The live members of a partition's armature: its member list without the members whose loss was certified. -/
def State.liveMembers (s : State) (q : Nat) (f : File) : List Nat :=
  if armGroup f ≤ 1 then [idNone] else (memberList f).filter fun d => !(s.part q).lost.contains d

/-- The buckets of a step may still be open at the tick that begins a frame: every deadline comes before the step after the next one (R254). -/
def OpenStep.inFlight (o : OpenStep) (frame : Nat) : Bool :=
  decide (o.first ≤ frame ∧ frame < o.first + 2 * max 1 (armFps o.file))

/-- An armature holds a noise bucket (R272). -/
def hasNoise (f : File) : Bool := (buckets f).any fun b => b.2.noise

/-- What is kept of an earlier step when a step opens: buckets still in flight, a noised step without its ledger entry (R272), and in one job the steps that the retention ring reaches, whose update entries may still have to run (R201, R212, R262). -/
def State.keepsStep (s : State) (q step frame : Nat) (f : File) (anew : Bool) (t : Nat) : Bool :=
  t != step && match s.stepAt q t with
    | none => false
    | some o => o.inFlight frame || (hasNoise o.file && !o.entered) || (!anew && !o.ended && decide ((step + 2 ^ 32 - t) % 2 ^ 32 ≤ max 2 (retainSteps f) + 1))

/-- The layers of an armature's pass entries that are not in F4, with their states (R102, R200). -/
def State.layerStates (s : State) (q : Nat) (f : File) : List (Nat × Nat) :=
  (((passes f).map fun e => (e.2.layer, s.layerState (s.partFirst q) e.2.layer)).filter (·.2 != 0)).eraseDups

/-- The buckets of a step open at its first tick (R249): anew at the first step of a job or of a joiner, grafted where another device joins (R247). -/
def State.openBuckets (s : State) (q step frame epoch : Nat) (anew grafted : Bool) : State :=
  let f := s.partArm q
  let old := fun (p t : Nat) => p == q && !s.keepsStep q step frame f anew t
  let r := s.red
  let r := { r with
    parts := r.parts.delIf (fun k => old k.part k.step), certs := r.certs.delIf (fun k => old k.part k.step),
    expo := r.expo.delIf (fun k => old k.part k.step && (anew || k.step != step)),
    settled := r.settled.delIf (fun k => old k.1 k.2.2),
    openStep := Tab.put ((r.openStep.delIf fun k => old k.1 k.2).map fun e =>
        (e.1, { e.2 with ended := e.2.ended || (e.1.1 == q && anew) })) (q, step)
      { file := f, members := s.liveMembers q f, first := frame, epoch := epoch, anew := anew,
        initial := s.initialBuckets q step f (anew || grafted), lost := [], states := s.layerStates q f, ended := false,
        samples := 0, noised := [], noiseSat := 0, noiseFail := 0, settledAt := 0, entered := false, stored := false } }
  if f.isEmpty then s else s.setRed r

/-! ### Parts at this device (R250, R251, R255) -/

/-- A part that nothing has reached. -/
def OpenPart.empty : OpenPart := ⟨[], 0, 0, false, [], false, false, false⟩

/-- A part as it stands. -/
def State.partAt (s : State) (k : PartKey) : OpenPart := s.red.parts.get k OpenPart.empty

/-- The state with a part changed. -/
def State.setPartAt (s : State) (k : PartKey) (x : OpenPart) : State := s.setRed { s.red with parts := s.red.parts.put k x }

/-- Entries in use on each die: every part open at this device, of a bucket from its first part or input until it is sent on, of a vote until the member acts (R251, log 85). -/
def State.storeEntries (s : State) : Nat :=
  (s.red.parts.filter fun e => (e.2.own || !e.2.from_.isEmpty) && !e.2.sentOn).length +
    (s.red.votes.filter fun e => !e.2.acted).length

/-- Entries of one die's store: ⌊24 MiB ÷ 5,120⌋ (R251). -/
def storeLimit : Nat := 4915

/-- An arrival finds no free entry: the first input of a part that is not open yet, or one of those open beyond the store's size (R251). -/
def State.storeFull (s : State) (isOpen held : Bool) : Bool :=
  !held && decide (storeLimit ≤ s.storeEntries - b2n isOpen)

/-- A counter of the status page or of a port's page with its EVT bit. -/
def State.redCount (s : State) (p : Page) (f : Fld) (bit : Nat) : State := (s.bump p f).raise p bit

/-- An unpoisoned input added to a part. -/
def OpenPart.add (x : OpenPart) (sums : List Int) (count hash : Nat) (sat : Bool) : OpenPart :=
  { x with sums := addSums x.sums sums, count := x.count + count, hash := (x.hash + hash) % 2 ^ 64, sat := x.sat || sat }

/-! ### Noise (R268 to R271) -/

/-- τ: RNE_FP64(SIGMA × CLIP_C × 2^−EXP) as a number. -/
def noiseTau (f : File) (exp : Int) : Q :=
  let q := Q.mul (Q.mul (fp32.dec (inSec f 0x0B 8 4)).val (fp32.dec (inSec f 0x0B 12 4)).val) (Q.pow2 (-exp))
  (fp64.dec (fp64.rne q)).val

/-- u1 and u2 of two words of the generator: a and b are bits [63:11] of the words, u1 := (a + 1) × 2^−53, u2 := b × 2^−53 (R269). -/
def gaussUnit (w : BitVec 64 × BitVec 64) : Q × Q :=
  (⟨(bits w.1.toNat 11 53 + 1 : Nat), 2 ^ 53⟩, ⟨(bits w.2.toNat 11 53 : Nat), 2 ^ 53⟩)

/-- The choice of an operation of R269 on FP64 operands. -/
def gaussPickOf (op : Nat) (x y : Q) : Nat := Config.gaussPick op (BitVec.ofNat 64 (fp64.rne x)) (BitVec.ofNat 64 (fp64.rne y))

/-- The two samples of two words (R269): sqrt(−2 ln u1) × cos(2π u2) and sqrt(−2 ln u1) × sin(2π u2), where ln, sqrt, the angle, cos, sin and each product are FP64 operations within 1 ulp (log 10). -/
def gaussPair (w : BitVec 64 × BitVec 64) : Q × Q :=
  let u := gaussUnit w
  let l := nearQ (lnQ u.1) (gaussPickOf 0 u.1 u.1)
  let r := nearRoot (Q.mul ⟨2, 1⟩ l.abs) (gaussPickOf 1 l l)
  let t := nearQ (Q.mul twoPiQ u.2) (gaussPickOf 2 u.2 u.2)
  let mul := fun (x : Q) => nearQ (Q.mul r x) (gaussPickOf 5 r x)
  (mul (nearQ (cosQ t) (gaussPickOf 3 t t)), mul (nearQ (sinQ t) (gaussPickOf 4 t t)))

/-- The sample z of element i: two elements share a pair of words, the even one the cosine (R269). -/
def noiseSample (inst draws i : Nat) : Q :=
  let z := gaussPair (Config.drbg inst (draws + i / 2))
  if i % 2 = 0 then z.1 else z.2

/-- η: RNE(τ × z) (R268). -/
def noiseEta (tau z : Q) : Int := (Q.mul tau z).rneInt

/-- The noised sums and how many of them saturated (R268). -/
def noiseSums (tau : Q) (inst draws : Nat) (sums : List Int) : List Int × Nat :=
  let l := (List.range sums.length).map fun i => sums.getD i 0 + noiseEta tau (noiseSample inst draws i)
  let lim : Int := 2147483647
  (l.map (clampI (-lim) lim), (l.filter fun x => decide (x < -lim ∨ lim < x)).length)

/-- The noise generator of a partition. -/
def State.noiseOf (s : State) (q : Nat) : Noise := s.noise.get q Noise.reset

/-- The state with a partition's noise generator changed. -/
def State.setNoise (s : State) (q : Nat) (n : Noise) : State := { s with noise := s.noise.put q n }

/-- The open step of a partition changed. -/
def State.onStep (s : State) (q step : Nat) (g : OpenStep → OpenStep) : State :=
  match s.stepAt q step with
  | some o => s.setRed { s.red with openStep := s.red.openStep.put (q, step) (g o) }
  | none => s

/-- A part that could not be noised: counted, certified poisoned (R271). -/
def State.noiseFailed (s : State) (q step : Nat) : State :=
  (((s.bump (pgLink 0) .NOISE_FAIL 1 q).raise (pgLink 0) 4)).onStep q step fun o => { o with noiseFail := o.noiseFail + 1 }

/-! ### Retention (R212, R257) -/

/-- The 16-byte part record of a certificate with HELD set (R257). -/
def partRecord (c : Cert) : List Byte :=
  leBytes 8 c.hash ++ leBytes 3 c.count ++ leBytes 1 (wrap 8 c.exp) ++
    leBytes 4 (1 + 2 * b2n c.poison + 4 * b2n c.sat + 8 * b2n c.noised)

/-- The 4,096 bytes of a part's sums; those of a poisoned part and those beyond n read 0 (R257). -/
def partSums (c : Cert) (sums : List Int) : List Byte :=
  (List.range 1024).flatMap fun i => leBytes 4 (if c.poison then 0 else wrap 32 (sums.getD i 0))

/-- A certificate written into its retention slot with KEEP; the tile's first one of the step clears the rest of the tile (R212, R257). -/
def State.retain (s : State) (k : PartKey) (o : OpenStep) (c : Cert) (sums : List Int) : State :=
  let d := descAt o.file (bucketAt o.file k.bucket).grad
  let a := retainBase o.file d k.step + 16448 * k.tile
  let req := fun (x : Nat) => engineReq (bedOf (s.partFirst k.part)) 1 1 0 x
  let first := !(s.red.certs.any fun e => decide (e.1.part = k.part ∧ e.1.bucket = k.bucket ∧ e.1.step = k.step ∧ e.1.tile = k.tile))
  let t := if first then s.writeSpan (req a) (List.replicate 16448 0) else s
  let t := (t.writeSpan (req (a + 16 * k.piece)) (partRecord c)).writeSpan (req (a + 64 + 4096 * k.piece)) (partSums c sums)
  t.setRed { t.red with certs := t.red.certs.put k c }

/-- The largest magnitude of a list of sums. -/
def amaxOf (l : List Int) : Nat := l.foldl (fun m x => max m x.natAbs) 0

/-! ### Certification and forwarding (R250, R255, R256) -/

/-- The certificate of a part at its root with its sums: noise where the bucket asks for it; after a ledger stall no noise is written, so that the part is certified poisoned (R274, log 88). -/
def State.rootCert (s : State) (k : PartKey) (o : OpenStep) (x : OpenPart) : State × Cert × List Int :=
  let b := bucketAt o.file k.bucket
  let e := (s.expAt k.part k.bucket k.step k.tile).getD 0
  if x.count = 0 then (s, ⟨0, 0, 0, true, x.sat, false, 0⟩, [])
  else if x.poisoned then (s, ⟨x.count, x.hash, e, true, x.sat, false, 0⟩, [])
  else if !b.noise then (s, ⟨x.count, x.hash, e, false, x.sat, false, amaxOf x.sums⟩, x.sums)
  else
    let z := s.noiseOf k.part
    if s.flag (pgLink 0) .LEDGER_STALL k.part then (s, ⟨x.count, x.hash, e, true, x.sat, false, 0⟩, [])
    else match (if z.stopped then none else z.inst) with
    | none => (s.noiseFailed k.part k.step, ⟨x.count, x.hash, e, true, x.sat, false, 0⟩, [])
    | some i =>
      let r := noiseSums (noiseTau o.file e) i z.draws x.sums
      let c : Cert := ⟨x.count, x.hash, e, false, x.sat || decide (0 < r.2), true, amaxOf r.1⟩
      let s := s.setNoise k.part { z with draws := z.draws + 512, requests := z.requests + 2 }
      let s := (s.bump (pgLink 0) .NOISED_PARTS 1 k.part).bump (pgLink 0) .NOISE_SAT r.2 k.part
      (s.onStep k.part k.step fun o => { o with
        noised := o.noised ++ [(k.bucket * 2 ^ 20 + k.tile * 4 + k.piece, partRecord c)], noiseSat := o.noiseSat + r.2 }, c, r.1)

/-- The root certifies: one CERT to every other live member, its own copy retained. -/
def State.certify (s : State) (k : PartKey) (o : OpenStep) : State :=
  let x := s.partAt k
  let s := s.setPartAt k { x with sentOn := true }
  let r := s.rootCert k o x
  let c := r.2.1
  let w := if c.noised then 2 else widthCode c.count
  let me := s.selfIn o.members
  let tf := reduceFields k.bucket k.tile k.step w k.piece c.sat c.noised c.exp c.count c.hash
  let t := (o.members.filter (· != me)).foldl (fun t d =>
    t.send k.part d 1 tyCert tf (if c.poison then [] else packSums w r.2.2) c.poison) r.1
  (t.bump (t.redPage k.part) .ROOT_PARTS).retain k o c r.2.2

/-- A node forwards its part to its parent: poisoned under SKIP_STEP when an input is, counted in POISON_FWD at a node with children. -/
def State.forwardPart (s : State) (k : PartKey) (o : OpenStep) (t : Tree) (rank : Nat) : State :=
  let b := bucketAt o.file k.bucket
  let d := descAt o.file b.src
  let x := s.partAt k
  let s := s.setPartAt k { x with sentOn := true }
  let w := widthCode x.count
  let tf := reduceFields k.bucket k.tile k.step w k.piece x.sat false
    ((s.expAt k.part k.bucket k.step k.tile).getD 0) x.count x.hash
  let sums := (List.range (partElems d k.piece)).map fun i => x.sums.getD i 0
  let s := if x.poisoned && !(childrenOf t rank).isEmpty then s.bump (s.redPage k.part) .POISON_FWD else s
  s.send k.part (idAt t (parentOf t rank)) 1 tyReduce tf (if x.poisoned then [] else packSums w sums) x.poisoned

/-- A node sends its part on: the root certifies, another node forwards. -/
def State.sendOn (s : State) (k : PartKey) (o : OpenStep) (t : Tree) (rank : Nat) : State :=
  if rank = 0 then s.certify k o else s.forwardPart k o t rank

/-- A node that holds its own part and every child's input sends on. -/
def State.sendOnWhole (s : State) (k : PartKey) (o : OpenStep) (t : Tree) (rank : Nat) : State :=
  let x := s.partAt k
  if !x.sentOn && x.own && (childIds t rank).all x.from_.contains then s.sendOn k o t rank else s

/-- This member's own part reaches its node (R250, R255): late, poisoned, or added. -/
def State.ownPart (s : State) (k : PartKey) (o : OpenStep) (sums : List Int) (sat poison : Bool) : State :=
  let b := bucketAt o.file k.bucket
  let t := gradTree o b k.tile
  let me := s.selfIn o.members
  match rankOf t me with
  | none => s
  | some rank =>
    let x := { s.partAt k with own := true }
    let leaf := (childrenOf t rank).isEmpty && rank != 0
    if (s.partAt k).sentOn then s.redCount (s.redPage k.part) .LATE 0
    else
      let s :=
        if !poison then s.setPartAt k (x.add sums 1 (contributorHash me) sat)
        else if b.drop && !leaf then (s.setPartAt k x).redCount (s.redPage k.part) .POISON_DROP 1
        else s.setPartAt k { x with poisoned := true }
      s.sendOnWhole k o t rank

/-- The parts of a converted tile go to their nodes (R246): element values, which of them saturated, whether the tile is poisoned. A tile no bucket of an open step names goes nowhere. -/
def State.contribute (s : State) (q step desc tile : Nat) (qs : List Int) (sats : List Bool) (poison : Bool) : State :=
  match s.stepAt q step with
  | none => s
  | some o =>
    match (buckets o.file).find? fun b => b.2.src == desc with
    | none => s
    | some (k, b) =>
      let d := descAt o.file b.src
      (List.range (tileParts d)).foldl (fun s j =>
        let n := partElems d j
        s.ownPart ⟨q, k, step, tile, j⟩ o ((qs.drop (1024 * j)).take n) (((sats.drop (1024 * j)).take n).any id) poison) s

/-! ### Receiving (R250, R253) -/

/-- FRAME_NUMBER of a partition: that of its lead bed. -/
def State.partFrame (s : State) (q : Nat) : Nat := s.get (pgBed (s.leadBed q)) .FRAME_NUMBER

/-- The open step of a partition that a 16-bit STEP names. -/
def State.openOf (s : State) (q lo : Nat) : Option (Nat × OpenStep) :=
  (List.find? (fun e => decide (e.1.1 = q ∧ e.1.2 % 65536 = lo) && e.2.inFlight (s.partFrame q)) s.red.openStep).map
    fun e => (e.1.2, e.2)

/-- The key that a gradient packet names, where its bucket, tile and part exist in an open step. -/
def State.packetKey (s : State) (q : Nat) (k : Packet) : Option (PartKey × OpenStep) :=
  match s.openOf q (tfAt k 32 2) with
  | none => none
  | some (step, o) =>
    let b := bucketAt o.file (tfAt k 28 2)
    let j := bits (tfAt k 34 1) 2 2
    if bucketCount o.file ≤ tfAt k 28 2 || b.tiles ≤ tfAt k 30 2 || tileParts (descAt o.file b.src) ≤ j then none
    else some (⟨q, tfAt k 28 2, step, tfAt k 30 2, j⟩, o)

/-- The WIDTH of a packet is not the one its COUNT asks for, or is 3 (R253). -/
def widthBad (k : Packet) : Bool :=
  let w := bits (tfAt k 34 1) 0 2
  let n := tfAt k 36 3
  w == 3 || w != (if k.type = tyCert && bitAt (tfAt k 34 1) 5 then 2 else widthCode n)

/-- The EXP of a packet with a sum differs from E(s), or E(s) is not known (R253). -/
def State.expBad (s : State) (key : PartKey) (k : Packet) : Bool :=
  !k.poison && decide (0 < tfAt k 36 3) &&
    decide (s.expAt key.part key.bucket key.step key.tile ≠ some (sext 8 (tfAt k 35 1)))

/-- An element received of −32,768 reads as −32,767 (R64). -/
def readQ (w : Nat) (x : Int) : Int := if w = 0 then max x (-32767) else x

/-- The n elements of a payload in a width; those of −32,768 in WIDTH 0 are counted (R64, R253). -/
def State.takeSums (s : State) (w n : Nat) (payload : List Byte) : State × List Int :=
  let raw := unpackSums w n payload
  (s.setRed { s.red with lowQ := s.red.lowQ + (if w = 0 then (raw.filter (· == -32768)).length else 0) }, raw.map (readQ w))

/-- A REDUCE packet of a gradient bucket: checked, late, refused for a full store, dropped, or added (R250, R251, R253, R255). -/
def State.reduceIn (s : State) (port q : Nat) (k : Packet) : State :=
  let pg := pgRed port
  match s.packetKey q k with
  | none => s.redCount pg .BAD_PKT 3
  | some (key, o) =>
    let b := bucketAt o.file key.bucket
    let t := gradTree o b key.tile
    let x := s.partAt key
    match rankOf t (s.selfIn o.members) with
    | none => s.redCount pg .BAD_PKT 3
    | some rank =>
      if widthBad k || !(childIds t rank).contains k.src || x.from_.contains k.src || s.expBad key k then
        s.redCount pg .BAD_PKT 3
      else if x.sentOn then s.redCount pg .LATE 0
      else if s.storeFull x.own (!x.from_.isEmpty) then s.redCount pg .STORE_FULL 2
      else
        let x := { x with from_ := k.src :: x.from_ }
        let w := bits (tfAt k 34 1) 0 2
        let s :=
          if !k.poison then
            let y := s.takeSums w (partElems (descAt o.file b.src) key.piece) k.payload
            (y.1.setPartAt key (x.add y.2 (tfAt k 36 3) (tfAt k 40 8) (bitAt (tfAt k 34 1) 4))).bump pg .RX_PARTS
          else if b.drop then (s.setPartAt key x).redCount pg .POISON_DROP 1
          else s.setPartAt key { x with poisoned := true }
        s.sendOnWhole key o t rank

/-- A CERT packet of a gradient bucket: checked, late after settlement, or retained (R253, R257, R258). -/
def State.certIn (s : State) (port q : Nat) (k : Packet) : State :=
  let pg := pgRed port
  match s.packetKey q k with
  | none => s.redCount pg .BAD_PKT 3
  | some (key, o) =>
    let t := gradTree o (bucketAt o.file key.bucket) key.tile
    if widthBad k || idAt t 0 != k.src then s.redCount pg .BAD_PKT 3
    else if (s.red.settled.find? (q, key.bucket, key.step)).isSome then s.redCount pg .LATE 0
    else if (s.red.certs.find? key).isSome || s.expBad key k then s.redCount pg .BAD_PKT 3
    else
      let fl := tfAt k 34 1
      let y := if k.poison then (s, [])
        else s.takeSums (bits fl 0 2) (partElems (descAt o.file (bucketAt o.file key.bucket).src) key.piece) k.payload
      y.1.retain key o ⟨tfAt k 36 3, tfAt k 40 8, sext 8 (tfAt k 35 1), k.poison, bitAt fl 4, bitAt fl 5, amaxOf y.2⟩ y.2

/-! ### Deadlines (R250) -/

/-- The tick ending frame n of a bucket's step has come. -/
def State.frameEnded (s : State) (q : Nat) (o : OpenStep) (n : Nat) : Bool := decide (o.first + n + 1 ≤ s.partFrame q)

/-- A part that is due at this node by its depth is sent on with whatever it holds; root says which rank acts. -/
def State.cutoff (s : State) (q bucket step tile piece : Nat) (root : Bool) : State :=
  match s.stepAt q step with
  | none => s
  | some o =>
    let b := bucketAt o.file bucket
    let t := gradTree o b tile
    match rankOf t (s.selfIn o.members) with
    | none => s
    | some rank =>
      if bucketCount o.file ≤ bucket || b.tiles ≤ tile || tileParts (descAt o.file b.src) ≤ piece ||
          (rank == 0) != root || (!root && (childrenOf t rank).isEmpty) ||
          (s.partAt ⟨q, bucket, step, tile, piece⟩).sentOn ||
          !s.frameEnded q o (b.deadline - rankDepth t rank * b.level) then s
      else s.sendOn ⟨q, bucket, step, tile, piece⟩ o t rank

/-- LEVEL_CUTOFF (R250): an interior node forwards what it holds. Not due, nothing happens (log 2). -/
def execLevelCutoff (part : Bed) (bucket step tile piece : Nat) (s : State) : Host.Outcome State Fault Refusal :=
  .next (s.cutoff part.val bucket step tile piece false)

/-- ROOT_DEADLINE (R250, R256): the root certifies with whatever it holds. -/
def execRootDeadline (part : Bed) (bucket step tile piece : Nat) (s : State) : Host.Outcome State Fault Refusal :=
  .next (s.cutoff part.val bucket step tile piece true)

/-! ### Settlement (R258) -/

/-- The close frame of a bucket of an open step. -/
def closeFrame (o : OpenStep) (b : Bucket) : Nat := o.first + b.deadline + b.certFrames

/-- The steps of a partition whose buckets are kept, oldest first. -/
def State.openSteps (s : State) (q : Nat) : List (Nat × OpenStep) :=
  let l := (s.red.openStep.filter fun e => e.1.1 == q).map fun e => (e.1.2, e.2)
  sortBy (fun a b => decide (a.2.first ≤ b.2.first)) l

/-- The buckets of a step whose close frame is frame n, in table order (R258). -/
def closingOf (o : OpenStep) (n : Nat) : List Nat :=
  (buckets o.file).filterMap fun b => if closeFrame o b.2 = n then some b.1 else none

/-- The members that vote on a step's buckets: those it opened with, less the ones whose loss was certified since (R249). -/
def OpenStep.voters (o : OpenStep) : List Nat := o.members.filter fun d => !o.lost.contains d

/-- The close votes of frame n: for each set of live members with closing buckets its oldest step, and its elements' steps and buckets in order (R258, R262, log 86). -/
def State.closeVotes (s : State) (q n : Nat) : List (Nat × OpenStep × List (Nat × Nat)) :=
  let l := (s.openSteps q).filter fun e => !(closingOf e.2 n).isEmpty
  let about := fun (ms : List Nat) => (l.filter fun e => e.2.voters == ms).flatMap fun e => (closingOf e.2 n).map fun b => (e.1, b)
  (l.map fun e => e.2.voters).eraseDups.filterMap fun ms =>
    (l.find? fun e => e.2.voters == ms).map fun e => (e.1, e.2, about ms)

/-- This member's certificates of a tile, in part order. -/
def State.tileCerts (s : State) (q bucket step tile : Nat) : List Cert :=
  (List.range 4).filterMap fun j => s.red.certs.find? ⟨q, bucket, step, tile, j⟩

/-- This member holds every part certificate of a bucket and step. -/
def State.holdsAll (s : State) (q bucket step : Nat) : Bool :=
  match s.stepAt q step with
  | none => false
  | some o =>
    let b := bucketAt o.file bucket
    (List.range b.tiles).all fun t => (s.tileCerts q bucket step t).length == tileParts (descAt o.file b.src)

/-- Some part certificate of a bucket and step is poisoned. -/
def State.anyPoison (s : State) (q bucket step : Nat) : Bool :=
  s.red.certs.any fun e => decide (e.1.part = q ∧ e.1.bucket = bucket ∧ e.1.step = step) && e.2.poison

/-- The exponents of the step after, set when a bucket settles (R247). -/
def State.setNextExps (s : State) (q bucket step : Nat) (ok : Bool) : State :=
  match s.stepAt q step with
  | none => s
  | some o =>
    let b := bucketAt o.file bucket
    (List.range b.tiles).foldl (fun s t =>
      let e := (s.expAt q bucket step t).getD b.expInit
      let n := nextExp e b.headroom (!ok) (s.tileCerts q bucket step t)
      s.setRed { s.red with expo := s.red.expo.put ⟨q, bucket, nextStep step, t, 0⟩ n }) s

/-- Every bucket of a step has settled. -/
def State.stepSettled (s : State) (q step : Nat) (o : OpenStep) : Bool :=
  (buckets o.file).all fun b => (s.red.settled.find? (q, b.1, step)).isSome

/-- A bucket settles OK or skipped, once (R258, R264): a skipped one is counted and recorded. -/
def State.settle (s : State) (q bucket step : Nat) (ok : Bool) : State :=
  if (s.red.settled.find? (q, bucket, step)).isSome then s
  else
    let pg := s.redPage q
    let s := s.setNextExps q bucket step ok
    let s := s.setRed { s.red with settled := s.red.settled.put (q, bucket, step) ok }
    let s := if ok then s else ((s.bump pg .SKIPPED).evt pg 4).record 0x0B10 pg
    match s.stepAt q step with
    | some o =>
      if s.stepSettled q step o then
        (s.put pg .SETTLED_STEP step).onStep q step fun o => { o with settledAt := s.tickTime (s.leadBed q) (s.partFrame q) }
      else s
    | none => s

end Sys2Proof.Machine
end

