-- ==== Sys2Proof/Machine/Keys.lean ====
section
/-! DEFINITION. The key generator's draws (R292), SEQ at the installation of a link key (R293), and the link-key agreement of a group session (R291; messages of log 11). -/

namespace Sys2Proof.Machine

/-- n random bytes of the key generator (R292). -/
def State.drawBytes (s : State) (n : Nat) : List Byte × State :=
  (padTo n (Config.entropy s.sec.draws), { s with sec := { s.sec with draws := s.sec.draws + 1 } })

/-- SEQ of a partition set to DEVICE_TIME, as when a link key is installed (R293). -/
def State.seqNow (s : State) (p : Nat) : State := s.setFab { s.fab with seq := s.fab.seq.put p s.time.now }

/-! ### Who leads -/

/-- Codes of the key-agreement messages: a member's ephemeral key; the leader's with its signature; the member's signature; the sealed group key; a failed check. -/
def kaKey : Nat := 0xFF01
@[inherit_doc kaKey] def kaSigned : Nat := 0xFF02
@[inherit_doc kaKey] def kaProof : Nat := 0xFF03
@[inherit_doc kaKey] def kaGroup : Nat := 0xFF04
@[inherit_doc kaKey] def kaFailed : Nat := 0xFF05

/-- The partition takes its key from a group that it is to join: it left its group, or a graft is planned. -/
def State.joinsGroup (s : State) (p : Nat) : Bool :=
  s.fab.rejoin.contains p || !(s.part p).graft.isEmpty || (s.part p).changes.any fun c => c.graft.isSome

/-- The leader: the lowest-id roster member that is a current member; before any membership every roster member counts, a joiner itself does not (R291, log 82). -/
def State.keyLeader (s : State) (p : Nat) : Nat :=
  let ids := (s.session p).roster.map (·.1)
  let live :=
    if (s.part p).member then ids.filter fun d => (s.liveMembers p (s.partArm p)).contains d
    else if s.joinsGroup p then ids.filter fun d => d != s.myId && !s.peerLost p d
    else ids
  live.foldl min (live.headD idNone)

/-! ### Messages -/

/-- A key-agreement message to a device, in a class-0 MGMT packet. -/
def State.sendKa (s : State) (p dest code : Nat) (body : List Byte) : State :=
  s.send p dest 0 tyMgmt (tfWith [(28, leBytes 2 code)]) (leBytes 2 code ++ leBytes 1 p ++ [0] ++ body)

/-- The private scalar and the public key of an ephemeral draw. -/
def ephSecret (n : Nat) : List Byte := Config.entropy n
@[inherit_doc ephSecret] def ephPublic (n : Nat) : List Byte := padTo 96 (Config.ecdh (ephSecret n) [])

/-- What a side signs: GROUP_ID, both device ids, both ephemeral keys; the sender's first. -/
def kaSigInput (group : List Byte) (me peer : Nat) (mine theirs : List Byte) : List Byte :=
  group ++ leBytes 2 me ++ leBytes 2 peer ++ mine ++ theirs

/-- KEK of a leader and a member. -/
def kekOf (group shared : List Byte) (leader member : Nat) : List Byte :=
  Config.hkdf (Config.hkdfExtract group shared) (ascii "VLN-WRAP" ++ leBytes 2 leader ++ leBytes 2 member) 32

/-- A group's link key installed: only while GROUP_ALIGNED is 1 (R293). -/
def State.installLink (s : State) (p : Nat) (gk : List Byte) : State :=
  match (s.session p).keys with
  | none => s
  | some k =>
    if !s.flag pgGlobals .GROUP_ALIGNED then s
    else
      let s := s.setSession p { s.session p with keys := some { k with linkKey := gk, groupKey := gk } }
      (s.seqNow p).put pgSec .LINK_KEYED 1 p

/-- ENC_EN on the partition's ports. -/
def State.encPorts (s : State) (p : Nat) : State :=
  (s.partPorts p).foldl (fun s q => s.put (pgPort q) .PORT_ENC_EN 1) s

/-- AUTH_FAIL for a failed check of the agreement, here and, by a message, at the peer; the member stays unkeyed. -/
def State.kaFail (s : State) (p peer : Nat) : State := (s.raise pgSec 0).sendKa p peer kaFailed []

/-- Roster entry of a device: the hash of its identity key. -/
def State.rosterHash (s : State) (p d : Nat) : Option (List Byte) := ((s.session p).roster.find? fun e => e.1 == d).map (·.2)

/-- The leader answers a member's ephemeral key with its own, signed over both. -/
def State.sendSigned (s : State) (p src : Nat) : State :=
  match (s.session p).peers.find? src with
  | none => s
  | some (n, key) =>
    let sig := Config.identitySign (kaSigInput (s.session p).group s.myId src (ephPublic n) key)
    s.sendKa p src kaSigned (ephPublic n ++ padTo 96 sig)

/-- A member's ephemeral key kept with the draw of this side's own for it. -/
def State.notePeer (s : State) (p src : Nat) (key : List Byte) : State :=
  let n := s.sec.draws
  let s := { s with sec := { s.sec with draws := n + 1 } }
  s.setSession p { s.session p with peers := (s.session p).peers.put src (n, key) }

/-- The keys that came before this device's session was open: those of roster members are taken, any other fails its check (R291). -/
def State.takeEarly (s : State) (p : Nat) : State :=
  let l := s.sec.earlyKeys.filter fun e => e.1.1 == p
  let s := { s with sec := { s.sec with earlyKeys := s.sec.earlyKeys.delIf fun k => k.1 == p } }
  l.foldl (fun s e => if (s.rosterHash p e.1.2).isSome then s.notePeer p e.1.2 e.2 else s.kaFail p e.1.2) s

/-- The agreement begins: the leader draws GK and answers the keys that have come; every other member sends its ephemeral key to the leader. A leader alone in its roster encrypts at once. -/
def State.startKeying (s : State) (p : Nat) : State :=
  let lead := s.keyLeader p
  if lead = s.myId then
    let r := (s.takeEarly p).drawBytes 32
    let s := r.2.installLink p r.1
    let s := ((s.session p).peers.map (·.1)).foldl (fun s d => s.sendSigned p d) s
    if (s.session p).roster.length = 1 then s.encPorts p else s
  else
    let n := s.sec.draws
    let s := { s with sec := { s.sec with draws := n + 1 } }
    let s := s.setSession p { s.session p with peers := [(lead, (n, []))] }
    s.sendKa p lead kaKey (ephPublic n)

/-- A group session without its link key: the agreement begins once the device is aligned, anew where the leader has changed (R291, R293), or the group key that Cold Frame kept is installed again. -/
def State.tryKey (s : State) (p : Nat) : State :=
  let x := s.session p
  if !s.sessionOpen p || x.roster.isEmpty || s.flag pgSec .LINK_KEYED p || !s.flag pgGlobals .GROUP_ALIGNED ||
      !(x.peers.isEmpty || s.keyLeader p == s.myId || (x.peers.find? (s.keyLeader p)).isNone) then s
  else match x.keys with
    | some k => if k.groupKey.isEmpty then s.startKeying p else (s.installLink p k.groupKey).encPorts p
    | none => s

/-- A member's ephemeral key reaches the leader, which answers once it holds GK. -/
def State.kaKeyIn (s : State) (p src : Nat) (key : List Byte) : State :=
  if s.keyLeader p ≠ s.myId then s
  else
    let s := s.notePeer p src key
    if s.flag pgSec .LINK_KEYED p then s.sendSigned p src else s

/-- The leader's signed key reaches a member: checked against the roster, answered with the member's signature. -/
def State.kaSignedIn (s : State) (p src : Nat) (key sig hash : List Byte) : State :=
  match (s.session p).peers.find? src with
  | none => s
  | some (n, _) =>
    if Config.ecdsaOk hash (kaSigInput (s.session p).group src s.myId key (ephPublic n)) sig then
      let s := s.setSession p { s.session p with peers := (s.session p).peers.put src (n, key) }
      s.sendKa p src kaProof (padTo 96 (Config.identitySign (kaSigInput (s.session p).group s.myId src (ephPublic n) key)))
    else s.kaFail p src

/-- Every roster member but this one has proved its key. -/
def State.allKeyed (s : State) (p : Nat) : Bool :=
  (s.session p).roster.all fun e => e.1 == s.myId || ((s.session p).peers.find? e.1).isNone && (s.session p).peers.any (fun x => x.1 == e.1 + 8192)

/-- The member's signature reaches the leader: GK goes to it sealed under KEK with a zero nonce. A member served is kept under its id + 8,192; once every one is, the leader's ports encrypt (log 11). -/
def State.kaProofIn (s : State) (p src : Nat) (sig hash : List Byte) : State :=
  match (s.session p).peers.find? src, (s.session p).keys with
  | some (n, key), some k =>
    if Config.ecdsaOk hash (kaSigInput (s.session p).group src s.myId key (ephPublic n)) sig then
      let kek := kekOf (s.session p).group (Config.ecdh (ephSecret n) key) s.myId src
      let c := Config.gcmSeal kek 0 [] k.groupKey
      let s := s.sendKa p src kaGroup (c.1 ++ padTo 16 c.2)
      let s := s.setSession p { s.session p with peers := ((s.session p).peers.del src).put (src + 8192) (n, key) }
      if s.allKeyed p then s.encPorts p else s
    else s.kaFail p src
  | _, _ => s

/-- The sealed GK reaches a member: installed, ENC_EN on its ports, LINK_KEYED. -/
def State.kaGroupIn (s : State) (p src : Nat) (sealed : List Byte) : State :=
  match (s.session p).peers.find? src with
  | none => s
  | some (n, key) =>
    let kek := kekOf (s.session p).group (Config.ecdh (ephSecret n) key) src s.myId
    match Config.gcmOpen kek 0 [] (sealed.take 32) (sealed.drop 32) with
    | none => s.kaFail p src
    | some gk =>
      let s := s.installLink p gk
      if s.flag pgSec .LINK_KEYED p then s.encPorts p else s

/-- A key-agreement message: before this device's session is open a key waits for it; then one of a device outside the roster fails the check. -/
def State.keyMessage (s : State) (p src code : Nat) (body : List Byte) : State :=
  if !s.sessionOpen p then
    if code = kaKey then { s with sec := { s.sec with earlyKeys := s.sec.earlyKeys.put (p, src) (body.take 96) } } else s
  else if code = kaFailed then s.raise pgSec 0
  else match s.rosterHash p src with
    | none => s.kaFail p src
    | some h =>
      if code = kaKey then s.kaKeyIn p src (body.take 96)
      else if code = kaSigned then s.kaSignedIn p src (body.take 96) ((body.drop 96).take 96) h
      else if code = kaProof then s.kaProofIn p src (body.take 96) h
      else s.kaGroupIn p src (body.take 48)

/-- A joiner that had keyed a group of its own takes the key of the group that it joins (R291). -/
def State.keyAnew (s : State) (p : Nat) : State :=
  match (s.session p).keys with
  | none => s
  | some k =>
    if !s.sessionOpen p || (s.session p).roster.isEmpty then s
    else (s.setSession p { s.session p with keys := some { k with groupKey := [] }, peers := [] }).put pgSec .LINK_KEYED 0 p |>.tryKey p

/-! ### The time of the group (R133, R234) -/

/-- The time reference of the group that a partition belongs to or joins, shown by both link dies; the reference itself is aligned (R234, log 24). -/
def State.setTimeRef (s : State) (q : Nat) : State :=
  if (s.timeGroup q).isEmpty then s
  else
    let r := s.timeRef q
    let s := (s.put (pgLink 0) .TIME_REF_ID r).put (pgLink 1) .TIME_REF_ID r
    if s.isTimeRef then s.setAligned true else s

/-- A member's TIME request of the frame, or a joiner's (R133, R234); an aligned group session begins its key agreement. -/
def State.askTime (s : State) (q : Nat) : State :=
  let s := (s.setTimeRef q).tryKey q
  if (s.timeGroup q).isEmpty || s.isTimeRef then s
  else match (s.upPorts q).head? with
    | some p => s.queueOn p (newPacket (s.get (pgLink 0) .TIME_REF_ID) s.myId q 0 tyTime false [] [])
    | none => s

end Sys2Proof.Machine
end

