-- ==== Sys2Proof/Machine/Votes.lean ====
section
/-! DEFINITION. The votes (R100, R152, R213, R239, R241, R258, R260, R261): opening, contributions, planned slots, certificates, what each member does at the deadline; REDUCE_RECEIVE, CERT_RECEIVE and SLOT_SEND. -/

namespace Sys2Proof.Machine

/-! ### Codes (R260) -/

/-- Vote codes. -/
def vPrecision : Nat := 0xFFF0
@[inherit_doc vPrecision] def vLoss : Nat := 0xFFF1
@[inherit_doc vPrecision] def vActivation : Nat := 0xFFF2
@[inherit_doc vPrecision] def vCommit : Nat := 0xFFF3
@[inherit_doc vPrecision] def vGraft : Nat := 0xFFF4
@[inherit_doc vPrecision] def vClose : Nat := 0xFFF5

/-- No input. -/
def VoteSum.zero : VoteSum := ⟨[], 0, 0⟩

/-- Two sums together (R250). -/
def VoteSum.plus (a b : VoteSum) : VoteSum := ⟨addSums a.sums b.sums, a.count + b.count, (a.hash + b.hash) % 2 ^ 64⟩

/-- The tree of a vote: r 0 (R249). -/
def voteTree (v : Vote) : Tree := ⟨v.members, 0, v.arity⟩

/-- What a member holds for its parent: its own contribution and its children's inputs. -/
def voteHeld (v : Vote) : VoteSum := v.own.plus v.got

/-! ### Packets -/

/-- The TYPE_FIELDS of a vote packet (R252, R260). -/
def voteFields (k : VoteKey) (x : VoteSum) : List Byte :=
  reduceFields k.code k.piece k.step (widthCode x.count) 0 false false 0 x.count x.hash

/-- The payload of a vote packet: the part's elements (R253). -/
def votePayload (v : Vote) (x : VoteSum) : List Byte :=
  packSums (widthCode x.count) ((List.range v.elems).map fun i => x.sums.getD i 0)

/-- A vote packet sent to one device, or to all. -/
def State.sendVote (s : State) (k : VoteKey) (v : Vote) (ty dest : Nat) (x : VoteSum) : State :=
  s.send k.part dest 0 ty (voteFields k x) (votePayload v x)

/-- The state with a vote changed. -/
def State.setVote (s : State) (k : VoteKey) (v : Vote) : State := s.setRed { s.red with votes := s.red.votes.put k v }

/-! ### Opening (R249, R261) -/

/-- Where a rank's input goes: to its parent, and a depth-1 rank's to rank 1 besides. -/
def voteDests (t : Tree) (k : Nat) : List Nat :=
  if k = 0 then []
  else if parentOf t k = 0 && k != 1 then [idAt t 0, idAt t 1]
  else [idAt t (parentOf t k)]

/-- What a vote is: its partition, code, contribution frame and step, ARITY and live members; whether this member contributes, and the buckets that a close vote is about. -/
structure Ballot where
  part : Nat
  code : Nat
  frame : Nat
  step : Nat
  arity : Nat
  members : List Nat
  gives : Bool
  about : List (Nat × Nat)
  deriving DecidableEq, Repr

/-- A vote part opened with this member's elements: a leaf sends its contribution, rank 0 its own to rank 1. While the control processor restarts nothing is contributed (R352). -/
def State.openVote (s : State) (b : Ballot) (piece : Nat) (elems : List Int) : State :=
  let k : VoteKey := ⟨b.part, b.code, b.frame, b.step, piece⟩
  let me := s.selfIn b.members
  let t : Tree := ⟨b.members, 0, b.arity⟩
  match rankOf t me with
  | none => s
  | some rank =>
    let gives := b.gives && !s.pw.cpRestarting
    let own : VoteSum := if gives then ⟨elems, 1, contributorHash me⟩ else VoteSum.zero
    let v : Vote := ⟨b.members, b.arity, elems.length, (b.about.drop (1024 * piece)).take 1024, own, VoteSum.zero, [],
      VoteSum.zero, [], false, none, false, false⟩
    let s := s.setVote k v
    if !gives || b.members.length ≤ 1 then s
    else if rank = 0 then s.sendVote k v tyReduce (idAt t 1) own
    else if (childrenOf t rank).isEmpty then (voteDests t rank).foldl (fun s d => s.sendVote k v tyReduce d own) s
    else s

/-- The parts of a vote opened with all its elements. -/
def State.openParts (s : State) (b : Ballot) (elems : List Int) : State :=
  (List.range (ceilDiv elems.length 1024)).foldl (fun s j => s.openVote b j ((elems.drop (1024 * j)).take 1024)) s

/-- Elements 1 at some indices below n, 0 elsewhere. -/
def marks (n : Nat) (on : Nat → Bool) : List Int := (List.range n).map fun i => if on i then 1 else 0

/-- The votes of a partition whose bed runs its armature, as a member where that is a group's (R162, R260), at the tick that begins frame v: loss in every frame of a group, precision in the first frame of a step after a completed one, commit in COMMIT_FRAME, close in close frames. -/
def State.openRunVotes (s : State) (q v : Nat) : State :=
  let b := s.leadBed q
  let f := s.armOf b
  if f.isEmpty || !s.runsArm b || (decide (1 < armGroup f) && !(s.part q).member) then s
  else
    let ms := s.liveMembers q f
    let ar := max 1 (voteArity f)
    let step := s.get (pgBed b) .STEP_CNT
    let fr := s.frameIn b
    let s := if 1 < armGroup f then
        s.openParts ⟨q, vLoss, v, step, ar, ms, true, []⟩ (marks 8192 fun d => ms.contains d && d != s.myId && s.peerLost q d)
      else s
    let done := decide (0 < (s.part q).jobSteps)
    let s := if done && fr = 0 then
        s.openParts ⟨q, vPrecision, v, prevStep step, ar, ms, true, []⟩ (marks 1024 fun l => (s.part q).trips.contains l)
      else s
    let units := (passes f).map fun e => e.2.unit
    let s := if done && hasSec f 0x08 && fr = commitFrame f then
        s.openParts ⟨q, vCommit, v, prevStep step, ar, ms, true, []⟩
          (marks 1 fun _ => units.all fun u => s.get (pgUnit u) .LAST_STEP == step || s.get (pgUnit u) .LAST_STEP == prevStep step)
      else s
    s

/-- The close votes of a partition at the tick that begins frame v: one per membership with which the closing buckets opened (R258, R262). -/
def State.openCloseVotes (s : State) (q v : Nat) : State :=
  (s.closeVotes q v).foldl (fun s e =>
    s.openParts ⟨q, vClose, v, e.1, max 1 (voteArity e.2.1.file), e.2.1.voters, true, e.2.2⟩
      (e.2.2.map fun x => if s.holdsAll q x.2 x.1 then 1 else 0)) s

/-- The identifier of an activation: bytes 0 to 7 of SHA-384(digest ‖ START_FRAME ‖ START_STEP) (R152). -/
def activationId (digest : List Byte) (frame step : Nat) : List Byte :=
  (Config.sha384 (digest ++ leBytes 8 frame ++ leBytes 4 step)).take 8

/-- The pending activation of a partition with its slot and file: that of its lowest bed with one. -/
def State.pendOf (s : State) (q : Nat) : Option (Activation × ArmSlot) :=
  match (s.partBeds q).findSome? fun b => (s.bed b).pend with
  | none => none
  | some a => (s.armSlot q a.slot).map fun x => (a, x)

/-- The activation vote, in frame START_FRAME − 8 (R152). -/
def State.openActivationVote (s : State) (q v : Nat) : State :=
  match s.pendOf q with
  | none => s
  | some (a, x) =>
    if armGroup x.file ≤ 1 || a.startFrame ≠ v + 8 then s
    else
      let id := padTo 8 (activationId x.digest a.startFrame a.startStep)
      s.openParts ⟨q, vActivation, v, a.startStep, max 1 (voteArity x.file), s.liveMembers q x.file, true, []⟩
        ((id.map fun y => (y.toNat : Int)) ++ [1])

/-- The first frame of a later step of a partition whose lowest bed runs. -/
def State.stepFrame (s : State) (q step : Nat) : Nat :=
  let b := pgBed (s.leadBed q)
  s.get b .FRAME_NUMBER - s.get b .FRAME_IN_STEP +
    (step + 2 ^ 32 - s.get b .STEP_CNT) % 2 ^ 32 * s.get b .FRAMES_PER_STEP

/-- The slot of a partition's region that holds an armature for a MEMBER_HASH. -/
def State.slotOfHash (s : State) (q hash : Nat) : Option Nat :=
  (List.range 64).find? fun k => match s.armSlot q k with
    | some a => armHash a.file == hash
    | none => false

/-- The armature loaded for a MEMBER_HASH; empty when none is. -/
def State.fileOfHash (s : State) (q hash : Nat) : File := match s.slotOfHash q hash with
  | some k => s.fileOf q k
  | none => []

/-- A partition that a graft would bring into a group: without an active armature, or out of the group that it left (R162, R241, R306). -/
def State.joins (s : State) (q : Nat) : Bool := (s.partArm q).isEmpty || s.fab.rejoin.contains q

/-- The first frame of the step that a graft plan names: by this partition's counters, or by the graft state of a joiner (R242). -/
def State.graftStart (s : State) (q hash step : Nat) : Nat :=
  if s.joins q then (Config.graftFrame hash step).toNat else s.stepFrame q step

/-- A joiner is ready (R217, R241, R291): aligned, keyed in a group's session, its armature loaded, and regrown up to the step before B where a regrow was begun. -/
def State.joinReady (s : State) (q hash step : Nat) : Bool :=
  s.flag pgGlobals .GROUP_ALIGNED && (s.slotOfHash q hash).isSome &&
    (!s.sessionOpen q || (s.session q).roster.isEmpty || s.flag pgSec .LINK_KEYED q) &&
    (!(s.part q).regrowing || (s.part q).regrowStep == prevStep step)

/-- Two id lists together, ascending. -/
def unionIds (a b : List Nat) : List Nat := sortBy (fun x y => decide (x ≤ y)) (a ++ b.filter fun d => !a.contains d)

/-- The device ids of an armature's member list; a group of one is this device. -/
def State.memberIds (s : State) (f : File) : List Nat := if armGroup f ≤ 1 then [s.myId] else memberList f

/-- The union of the old members and the joiners of a plan; a joiner knows the old members from its graft state (R241, log 24). -/
def State.graftUnion (s : State) (q hash step : Nat) : List Nat :=
  unionIds (if s.joins q then (List.range 8191).filter (Config.graftMember hash step) else s.memberIds (s.partArm q))
    (memberList (s.fileOfHash q hash))

/-- The live members of a graft vote: the union without the devices whose loss was certified (R241, R249). -/
def State.graftMembers (s : State) (q hash step : Nat) : List Nat :=
  (s.graftUnion q hash step).filter fun d => !(s.part q).lost.contains d

/-- The graft vote of each plan, in frame (B's first frame − 8) (R241); a joiner that is not ready takes part without a contribution. -/
def State.openGraftVote (s : State) (q v : Nat) : State :=
  ((s.part q).graft.filter fun g => s.graftStart q g.1 g.2 == v + 8).foldl (fun s g =>
    let f := if s.joins q then s.fileOfHash q g.1 else s.partArm q
    s.openParts ⟨q, vGraft, v, g.2, max 1 (voteArity f), unionIds (s.graftMembers q g.1 g.2) (if s.joins q then [s.myId] else []),
      !s.joins q || s.joinReady q g.1 g.2, []⟩ [1]) s

/-- Every vote of a partition that opens at the tick that begins frame v; votes older than frame v − 3 are forgotten. -/
def State.openVotes (s : State) (q v : Nat) : State :=
  let s := s.setRed { s.red with votes := s.red.votes.delIf fun k => k.part == q && decide (k.frame + 3 ≤ v) }
  if !s.inRun || s.pw.transition.isSome then s
  else (((s.openRunVotes q v).openCloseVotes q v).openActivationVote q v).openGraftVote q v

/-! ### Planned slots (R261) -/

/-- The reserved class-0 slots of a port's frame beyond slot 0, ascending (R229). -/
def State.reserved (s : State) (p : Nat) : List Nat :=
  (List.range (s.portSlots p / 2)).filter fun n => n != 0 && s.plannedClass p n == some 0

/-- The slot in which a rank of a vote acts: interior nodes deepest first, then the root's certificate, then rank 1's; the last reserved slot serves again when they run out, and any slot where none is reserved (log 34). -/
def voteSlotDue (res : List Nat) (turn slot : Nat) : Bool :=
  match res with
  | [] => true
  | _ => res.getD turn (res.getLastD 0) == slot

/-- The deepest rank of a tree. -/
def treeDepth (t : Tree) : Nat := (List.range (treeSize t)).foldl (fun m k => max m (rankDepth t k)) 0

/-- A vote part's planned act of this member in a slot of frame v + 1: an interior node forwards, the root broadcasts its certificate, rank 1 its own if it holds none. -/
def State.voteAct (s : State) (k : VoteKey) (v : Vote) (res : List Nat) (slot : Nat) : State :=
  let t := voteTree v
  match rankOf t (s.selfIn v.members) with
  | none => s
  | some rank =>
    let d := treeDepth t
    let due := fun (turn : Nat) => voteSlotDue res turn slot
    let s :=
      if v.forwarded || treeSize t ≤ 1 then s
      else if rank = 0 then
        if due (d - 1) then
          let x := voteHeld v
          (s.setVote k { v with forwarded := true, cert := some (v.cert.getD x) }).sendVote k v tyCert idNone x
        else s
      else if !(childrenOf t rank).isEmpty && due (d - 1 - rankDepth t rank) then
        (voteDests t rank).foldl (fun s x => s.sendVote k v tyReduce x (voteHeld v)) (s.setVote k { v with forwarded := true })
      else s
    let v := s.red.votes.get k v
    if rank = 1 && v.cert.isNone && due d then
      let x := (voteHeld v).plus v.backup
      (s.setVote k { v with cert := some x, byBackup := true }).sendVote k v tyCert idNone x
    else s

/-- The votes of a partition that act in a slot of its lowest up port. -/
def State.voteSlot (s : State) (p slot : Nat) : State :=
  let q := s.portPart p
  if (s.upPorts q).head? = some p then
    let res := s.reserved p
    (s.red.votes.filter fun e => e.1.part == q && e.1.frame + 1 == s.partFrame q && !e.2.acted).foldl
      (fun s e => s.voteAct e.1 e.2 res slot) s
  else s

/-- Slot 0 of an up port: the heartbeat where the partition sends any; a partition without frames asks for the time of the group that it joins with it. -/
def State.slotZero (s : State) (p : Nat) : State :=
  let s := if s.beats p then s.sendBeat p else s
  if (s.bed (p / 2)).origin || (s.upPorts (s.portPart p)).head? ≠ some p then s else s.askTime (s.portPart p)

/-- Any other slot: a due retry (R220), or the first packet that may go (R230). -/
def State.slotOther (s : State) (p slot : Nat) : State :=
  let s := s.voteSlot p slot
  match takeFirst (s.retrySlot p slot) (s.fab.retryDue.get p []) with
  | some (k, rest) => ((s.setFab { s.fab with retryDue := s.fab.retryDue.put p rest }).transmit p k).bump (pgPort p) .RETRY
  | none =>
    match s.pickPacket p slot with
    | some (k, rest) => s.sendPicked p k rest
    | none => s

/-- SLOT_SEND (R230, R261): slot 0 carries the heartbeat; other slots a due retry or the first packet that may go. A dormant lane carries heartbeats only (R238). -/
def execSlotSend (port : Port) (slot : Nat) (s : State) : Host.Outcome State Fault Refusal :=
  let p := port.val
  .next (if s.link p = 4 then (if slot = 0 then s.sendBeat p else s)
    else if !s.portUp p || s.portSlots p ≤ slot then s
    else if slot = 0 then s.slotZero p
    else s.slotOther p slot)

/-! ### Receiving (R253, R261) -/

/-- The input that a vote packet carries, with the count of elements of −32,768 (R64). -/
def State.voteInput (s : State) (v : Vote) (k : Packet) : State × VoteSum :=
  let y := s.takeSums (bits (tfAt k 34 1) 0 2) v.elems k.payload
  (y.1, ⟨y.2, tfAt k 36 3, tfAt k 40 8⟩)

/-- The contribution frames that a FRAME_LO may belong to, newest first: the frame itself, and the one before (log 34). -/
def State.voteFrames (s : State) (q : Nat) (k : Packet) : List Nat :=
  [s.partFrame q, s.partFrame q - 1, s.partFrame q - 2].filter fun n => n % 65536 == k.frameLo % 65536

/-- The open vote part of a frame that a packet names by BUCKET, TILE and STEP (R252). -/
def State.voteNamed (s : State) (q f : Nat) (k : Packet) : Option (VoteKey × Vote) :=
  List.find? (fun e => decide (e.1.part = q ∧ e.1.code = tfAt k 28 2 ∧ e.1.frame = f ∧ e.1.piece = tfAt k 30 2 ∧
    e.1.step % 65536 = tfAt k 32 2)) s.red.votes

/-- The key of the open vote that a packet from a rank belongs to: a leaf's contribution and rank 0's own leave in frame v, everything else in frame v + 1 (log 34). -/
def State.voteKeyOf (s : State) (q : Nat) (k : Packet) : Option (VoteKey × Vote) :=
  (s.voteFrames q k).findSome? fun n =>
    let pick := fun (f : Nat) (early : Bool) =>
      match s.voteNamed q f k with
      | none => none
      | some e =>
        let t := voteTree e.2
        match rankOf t k.src with
        | none => none
        | some r =>
          let first := k.type == tyReduce && (r == 0 || (childrenOf t r).isEmpty)
          if first = early then some e else none
    match pick n true with
    | some x => some x
    | none => pick (n - 1) false

/-- A REDUCE packet of a vote: a child's input, or a backup input at rank 1. -/
def State.voteIn (s : State) (port q : Nat) (k : Packet) : State :=
  let pg := pgRed port
  match s.voteKeyOf q k with
  | none => s.redCount pg .BAD_PKT 3
  | some (key, v) =>
    let t := voteTree v
    match rankOf t (s.selfIn v.members), rankOf t k.src with
    | some me, some r =>
      let full := s.storeFull true (!v.from_.isEmpty || !v.backupFrom.isEmpty)
      let x := s.voteInput v k
      if widthBad k then s.redCount pg .BAD_PKT 3
      else if (childrenOf t me).contains r && !v.from_.contains k.src then
        if v.forwarded then s.redCount pg .LATE 0
        else if full then s.redCount pg .STORE_FULL 2
        else (x.1.setVote key { v with got := v.got.plus x.2, from_ := k.src :: v.from_ }).bump pg .RX_PARTS
      else if me = 1 && (r = 0 || parentOf t r = 0) && !v.backupFrom.contains k.src then
        if full then s.redCount pg .STORE_FULL 2
        else (x.1.setVote key { v with backup := v.backup.plus x.2, backupFrom := k.src :: v.backupFrom }).bump pg .RX_PARTS
      else s.redCount pg .BAD_PKT 3
    | _, _ => s.redCount pg .BAD_PKT 3

/-- A member leaves its group over a vote (R261, R351): counted, recorded, Hold; from then on it rejoins only by graft, also where the vote was that of its first activation. -/
def State.voteFail (s : State) (q : Nat) : State :=
  let pg := s.redPage q
  let s := (((s.bump pg .VOTE_FAIL).evt pg 5).record 0x0B11 pg).leaveGroup q
  ({ s with fab := { s.fab with rejoin := setMark s.fab.rejoin q true } }).enterHold 7

/-- A CERT packet of a vote: the first certificate is held; a second with different content before the end of frame v + 2 is a conflict, also of the vote that was to make this device a member. -/
def State.voteCertIn (s : State) (port q : Nat) (k : Packet) : State :=
  let pg := pgRed port
  match s.voteKeyOf q k with
  | none => s.redCount pg .BAD_PKT 3
  | some (key, v) =>
    let t := voteTree v
    let x := (s.voteInput v k).2
    if widthBad k || !((idAt t 0 == k.src) || (idAt t 1 == k.src)) then s.redCount pg .BAD_PKT 3
    else match v.cert with
      | none => if v.acted then s else (s.voteInput v k).1.setVote key { v with cert := some x, byBackup := idAt t 0 != k.src }
      | some y => if x = y || v.acted && !(s.part q).member && key.code != vActivation then s else s.voteFail q

/-- REDUCE_RECEIVE (R250, R261): a part or a vote input through the receiver's checks. -/
def execReduceReceive (port : Port) (packet : Packet) (s : State) : Host.Outcome State Fault Refusal :=
  s.consume port.val packet tyReduce fun s k =>
    if vPrecision ≤ tfAt k 28 2 then s.voteIn port.val (s.portPart port.val) k else s.reduceIn port.val (s.portPart port.val) k

/-- CERT_RECEIVE (R257, R258, R261): a gradient or vote certificate through the receiver's checks. -/
def execCertReceive (port : Port) (packet : Packet) (s : State) : Host.Outcome State Fault Refusal :=
  s.consume port.val packet tyCert fun s k =>
    if vPrecision ≤ tfAt k 28 2 then s.voteCertIn port.val (s.portPart port.val) k else s.certIn port.val (s.portPart port.val) k

/-! ### Acting on a certificate (R261) -/

/-- Indices below n whose element is 1 or more. -/
def onesOf (l : List Int) : List Nat := (List.range l.length).filter fun i => decide (1 ≤ l.getD i 0)

/-- Certified trips of step s (R100, R101). -/
def State.actPrecision (s : State) (q step : Nat) (l : List Int) : State :=
  let x := s.part q
  s.setPart q { x with tripped := x.tripped ++ (onesOf l).map fun i => (i, step) }

/-- Certified losses (R160, R239): a member that finds itself lost leaves the group and enters Hold. -/
def State.actLoss (s : State) (q v : Nat) (l : List Int) : State :=
  let ids := (onesOf l).filter fun d => decide (d < 8191) && !(s.part q).lost.contains d
  if ids.isEmpty then s
  else
    let x := s.part q
    let s := s.setPart q { x with lost := x.lost ++ ids, changes := x.changes ++ [⟨ids, none, v + 5, none⟩] }
    let s := s.setRed { s.red with openStep := s.red.openStep.map fun e =>
      (e.1, if e.1.1 = q then { e.2 with lost := e.2.lost ++ ids } else e.2) }
    if ids.contains s.myId then
      ((s.record 0x0A40 (pgLink (s.partFirst q / 4)) (leBytes 6 (v + 1))).leaveGroup q).enterHold 7
    else s

/-- A bed's pending activation refused by its vote (R152, R153): the bed is back in the state it left. -/
def State.refuseSwitch (s : State) (b : Nat) : State :=
  match (s.bed b).pend with
  | none => s
  | some a =>
    let s := s.dropPending b
    (if a.running then s else s.setSeq b a.from_).evt (pgBed b) 4

/-- The activation vote's outcome: certified by every member with this member's identifier, or refused (R152, R260). -/
def State.actActivation (s : State) (q : Nat) (c : VoteSum) : State :=
  match s.pendOf q with
  | none => s
  | some (a, x) =>
    let id := padTo 8 (activationId x.digest a.startFrame a.startStep)
    let same := decide (0 < c.count) && (List.range 8).all fun j => c.sums.getD j 0 == (c.count : Int) * ((id.getD j 0).toNat : Int)
    let beds := (s.partBeds q).filter fun b => (s.bed b).pend.isSome
    if c.count = armGroup x.file && same then
      beds.foldl (fun s b => match (s.bed b).pend with
        | some y => s.setBed b { s.bed b with pend := some { y with voted := true } }
        | none => s) s
    else
      (beds.foldl (fun s b => s.refuseSwitch b) s).record 0x0424 (pgBed (beds.headD (s.partFirst q)))

/-- The KEEP lines of a partition's reduced gradients of a step released (R212, R213). -/
def State.releaseGrads (s : State) (q step : Nat) : State :=
  let f := s.partArm q
  (buckets f).foldl (fun s b =>
    let d := descAt f b.2.grad
    (spanLines (retainBase f d step) (16448 * d.tiles)).foldl (fun s l =>
      match Tab.find? s.mem.cache l with
      | some c => if c.dal.isNone then s.releaseLine l else s
      | none => s) s) s

/-- Steps a member may release at the commit barrier of s: those after the last committed one that the ring still holds. -/
def uncommitted (last : Option Nat) (retain s : Nat) : List Nat :=
  (List.range retain).filterMap fun i =>
    let t := (s + 2 ^ 32 - i) % 2 ^ 32
    match last with
    | none => some t
    | some c => if (s + 2 ^ 32 - c) % 2 ^ 32 ≤ i then none else some t

/-- The commit vote's outcome (R213): the barrier of s and of every earlier step, or a roll-forward. -/
def State.actCommit (s : State) (q step : Nat) (sum : Int) : State :=
  let f := s.partArm q
  let x := s.part q
  if sum = (armGroup f : Int) then
    let s := (uncommitted x.committed (retainSteps f) step).foldl (fun s t => s.releaseGrads q t) s
    s.setPart q { s.part q with committed := some step }
  else s.setPart q { x with recoverNext := true }

/-- The graft vote's outcome (R241): the plan stands, or is refused on link die page bit 3. -/
def State.actGraft (s : State) (q v step : Nat) (count : Nat) : State :=
  match (s.part q).graft.find? fun g => g.2 == step with
  | none => s
  | some (hash, _) =>
    let x := s.part q
    let ok := decide (count = (s.graftUnion q hash step).length)
    let s := s.setPart q { x with
      graft := x.graft.filter fun g => g.2 != step, changes := x.changes ++ (if ok then [⟨[], some hash, v + 5, some step⟩] else []) }
    if ok then s else s.raise (pgLink (s.partFirst q / 4)) 3

/-- The close vote's outcome (R258): each closing bucket settles. -/
def State.actClose (s : State) (q : Nat) (l : List (Nat × Nat)) (c : VoteSum) : State :=
  ((List.range l.length).zip l).foldl (fun s e =>
    s.settle q e.2.2 e.2.1 (c.sums.getD e.1 0 == (c.count : Int) && !s.anyPoison q e.2.2 e.2.1)) s

/-- What a member does with a certified vote of frame v. -/
def State.actVote (s : State) (q code v step : Nat) (about : List (Nat × Nat)) (c : VoteSum) : State :=
  if code = vPrecision then s.actPrecision q step c.sums
  else if code = vLoss then s.actLoss q v c.sums
  else if code = vActivation then s.actActivation q c
  else if code = vCommit then s.actCommit q step (c.sums.getD 0 0)
  else if code = vGraft then s.actGraft q v step c.count
  else s.actClose q about c

/-- A vote whose outcome concerns this member: a group of one, an activation or graft, buckets in flight (R262), or a vote of the group it belongs to. -/
def State.votesIn (s : State) (q code : Nat) (v : Vote) : Bool :=
  decide (v.members.length ≤ 1) || code == vActivation || code == vGraft || code == vClose || (s.part q).member

/-- The parts of a vote in part order. -/
def State.voteParts (s : State) (q code frame step : Nat) : List (VoteKey × Vote) :=
  (List.range 8).filterMap fun j =>
    (s.red.votes.find? (⟨q, code, frame, step, j⟩ : VoteKey)).map fun v => (⟨q, code, frame, step, j⟩, v)

/-- The certificate of a part at the deadline: the one held, or in a group of one this member's own contribution (R261). -/
def certOf (v : Vote) : Option VoteSum := if v.members.length ≤ 1 then some v.own else v.cert

/-- The votes of a code on which this member acts at the tick that begins frame n, when frame v + 1 has ended: contribution frames and steps. -/
def State.voteDue (s : State) (q code n : Nat) : List (Nat × Nat) :=
  ((s.red.votes.filter fun e => decide (e.1.part = q ∧ e.1.code = code ∧ e.1.frame + 2 ≤ n) && !e.2.acted).map
    fun e => (e.1.frame, e.1.step)).eraseDups

/-- A device without the certificate of a vote at its deadline: a member, or one that its vote was to make a member, leaves (R261); a joiner's plan fails (R241), and a pruned device's buckets stay as they are. -/
def State.noCert (s : State) (q code v step : Nat) : State :=
  if (s.part q).member || code = vActivation then s.voteFail q
  else if code = vGraft then s.actGraft q v step 0
  else s

/-- The vote of a frame acted on: certificates of every part give the elements, else the member leaves (R261). -/
def State.closeVote (s : State) (q code frame step : Nat) : State :=
  let l := s.voteParts q code frame step
  let s := l.foldl (fun s e => s.setVote e.1 { e.2 with acted := true, cert := certOf e.2 }) s
  match l with
  | [] => s
  | (_, v) :: _ =>
    if !s.votesIn q code v then s
    else if l.all fun e => (certOf e.2).isSome then
      let cs := l.map fun e => (e.2, (certOf e.2).getD VoteSum.zero)
      let s := if l.any fun e => e.2.byBackup then s.bump (s.redPage q) .BACKUP_CERTS else s
      let c := (certOf v).getD VoteSum.zero
      s.actVote q code frame step (l.flatMap fun e => e.2.about)
        ⟨cs.flatMap fun x => (List.range x.1.elems).map fun i => x.2.sums.getD i 0, c.count, c.hash⟩
    else s.noCert q code frame step

/-- The vote codes in the order in which one tick acts on them (log 34). -/
def voteCodes : List Nat := [vPrecision, vLoss, vActivation, vCommit, vGraft, vClose]

/-- Every vote whose frame v + 1 ends at the tick that begins frame n acted on (R261). -/
def State.actVotes (s : State) (q n : Nat) : State :=
  voteCodes.foldl (fun s code => (s.voteDue q code n).foldl (fun s e => s.closeVote q code e.1 e.2) s) s

end Sys2Proof.Machine
end

