-- ==== Sys2Proof/Machine/Quant.lean ====
section
/-! DEFINITION. The quantiser (R78 to R97): norm, rotation, non-finite check, division by T, scales, escapes, encoding, counting and packing of a released tile; conversion to I16 for reduction (R64, R246). -/

namespace Sys2Proof.Machine

/-! ### Lists of lanes -/

/-- Consecutive groups of n elements. -/
def chunks {α : Type} (n : Nat) (l : List α) : List (List α) :=
  (List.range (ceilDiv l.length n)).map fun i => (l.drop (n * i)).take n

/-- An FP32 code that is neither infinite nor NaN. -/
def finiteF (c : Nat) : Bool := !(fp32.dec c).isSpecial

/-! ### Rotation (R79, R88 to R91) -/

/-- One butterfly stage at distance h: each sum and difference rounded to nearest even. -/
def butterfly (h : Nat) (l : List Nat) : List Nat :=
  (List.range l.length).map fun i =>
    if i / h % 2 = 0 then addF (l.getD i 0) (l.getD (i + h) 0) else subF (l.getD (i - h) 0) (l.getD i 0)

/-- Bit j of a tensor's sign vector (R89). -/
def rotSign (seed j : Nat) : Bool := bitAt (signWord seed (j / 64)) (j % 64)

/-- L of a rotation: log2 of the group size. -/
def rotL (d : Desc) : Nat := if d.rotSize = 0 then 0 else 3 + d.rotSize

/-- The signed inputs of a group of n = 2^L elements and what each butterfly stage gives (R79, R90); the stages run in ascending distance, from 1 on (DESIGN CHOICE, log 89). -/
def rotStages (d : Desc) (l : List Nat) : List (List Nat) :=
  let x := (List.range l.length).map fun j => if rotSign d.rotSeed j then negF (l.getD j 0) else l.getD j 0
  (List.range (rotL d)).foldl (fun a i => a ++ [butterfly (2 ^ i) (a.getLastD [])]) [x]

/-- One group of n = 2^L elements rotated (R90). -/
def rotateGroup (d : Desc) (l : List Nat) : List Nat :=
  let c := if d.rotSide = 0 then ceilDiv (rotL d) 2 else rotL d / 2
  ((rotStages d l).getLastD []).map fun x => mulF x (fp32.rne (Q.pow2 (-(c : Int))))

/-- A tile rotated in groups of consecutive tile indices, also where its extent along the axis is below n (DESIGN CHOICE, log 89); unrotated without ROT_SIZE. -/
def rotateTile (d : Desc) (l : List Nat) : List Nat :=
  if d.rotSize = 0 then l else (chunks (2 ^ rotL d) l).flatMap (rotateGroup d)

/-- The flags that a tile's rotation raises (R76, R77). -/
def rotFlags (d : Desc) (l : List Nat) : Flags :=
  if d.rotSize = 0 then Flags.none else listFlags ((chunks (2 ^ rotL d) l).flatMap fun g => (rotStages d g).flatten)

/-! ### One block (R84, R93 to R96) -/

/-- A quantised block: scale, codes, side-list values by element, what it counts, whether its scale saturated or a side-list value overflowed BF16. -/
structure QBlock where
  scale : Nat
  codes : List Nat
  side : List (Nat × Nat)
  sat : Nat
  ovf : Nat
  scaleSat : Bool
  sideInf : Bool
  budget : Bool
  deriving DecidableEq, Repr

/-- The value of an FP32 code that is finite. -/
def valF (c : Nat) : Q := (fp32.dec c).val

/-- A block's elements by descending magnitude, the lower index first among equals (R93). -/
def ranked (y : List Nat) : List (Nat × Q) :=
  sortBy (fun a b => Q.lt b.2 a.2 || (Q.le b.2 a.2 && decide (a.1 ≤ b.1)))
    ((List.range y.length).map fun i => (i, (valF (y.getD i 0)).abs))

/-- The magnitude at a rank, 0 beyond the block. -/
def rankMag (r : List (Nat × Q)) (k : Nat) : Q := match r[k]? with
  | some e => e.2
  | none => ⟨0, 1⟩

/-- The escape threshold above a scale: ESC_MULT × s (R83). -/
def escLimit (d : Desc) (s : Nat) : Q := Q.mul ⟨d.escMult, 4⟩ (ue5m3 s)

/-- The escape count under BLOCK_MAX (R93). -/
def escapeCount (d : Desc) (r : List (Nat × Q)) : Nat :=
  let s1 := (ue5m3Up (scaleTarget d.format (rankMag r 1))).1
  let s2 := (ue5m3Up (scaleTarget d.format (rankMag r 2))).1
  if d.escMult = 0 then 0
  else if s2 ≠ 0 && Q.lt (escLimit d s2) (rankMag r 1) then 2
  else if s1 ≠ 0 && Q.lt (escLimit d s1) (rankMag r 0) then 1
  else 0

/-- One element's code under a scale and whether it saturated (R45, R47, R60); a zero scale writes code 0. -/
def encodeElem (format s y rnd : Nat) : Nat × Bool :=
  if s = 0 then (0, false)
  else
    let q := Q.div (valF y) (ue5m3 s)
    if format = fmtF4 then f4Enc q
    else if format = fmtG4 then g4Enc q rnd
    else fp8Enc (format == fmtE5M2) q

/-- The largest magnitude of a format with an element's sign (R55). -/
def limitCode (y : Nat) : Nat := 7 + (if fp32.signBit ≤ y then 8 else 0)

/-- A finite block: outliers take the free side-list entries in rank order, the others are forced to the limit; the rest is encoded. -/
def encodeBlock (d : Desc) (s : Nat) (scaleSat : Bool) (out : List Nat) (free : Nat) (y : List Nat) (rnd : Nat → Nat) : QBlock :=
  let take := min (min out.length 2) free
  let esc := out.take take
  let forced := out.drop take
  let enc := (List.range y.length).map fun i =>
    if esc.contains i then (8, false) else if forced.contains i then (limitCode (y.getD i 0), false)
    else encodeElem d.format s (y.getD i 0) (rnd i)
  let side := esc.map fun i => (i, convF bf16 (y.getD i 0))
  { scale := s, codes := enc.map (·.1), side := side,
    sat := (enc.filter (·.2)).length, ovf := forced.length, scaleSat := scaleSat,
    sideInf := side.any fun e => e.2 % bf16.signBit == bf16.infCode,
    budget := decide (free < min out.length 2) }

/-- A block quantised (R78, R85, R93 to R95): cal is the calibrated scale, if the tile has one. -/
def quantBlock (d : Desc) (cal : Option Nat) (free : Nat) (padOnly : Bool) (y : List Nat) (rnd : Nat → Nat) : QBlock :=
  if !y.all finiteF then ⟨0xFF, List.replicate y.length 0, [], 0, 0, false, false, false⟩
  else if padOnly then ⟨0, List.replicate y.length 0, [], 0, 0, false, false, false⟩
  else
    let r := ranked y
    match cal with
    | none =>
      let c := if d.format ≤ 1 then escapeCount d r else 0
      let s := ue5m3Up (scaleTarget d.format (rankMag r c))
      encodeBlock d (if decide (0 < c) && s.1 = 0 then 0x08 else s.1) s.2 ((r.take c).map (·.1)) free y rnd
    | some s =>
      let out := if d.escMult = 0 || 1 < d.format then [] else (r.filter fun e => Q.lt (escLimit d s) e.2).map (·.1)
      encodeBlock d s false out free y rnd

/-- The blocks of a tile in ascending order, the side list's entries claimed as they come (R96). -/
def quantBlocks (d : Desc) (cal : Option Nat) (pad : Nat → Bool) (rnd : Nat → Nat) : Nat → Nat → List (List Nat) → List QBlock
  | _, _, [] => []
  | k, used, y :: t =>
    let n := d.blockSize
    let b := quantBlock d cal (128 - used) ((List.range n).all fun i => pad (n * k + i)) y fun i => rnd (n * k + i)
    b :: quantBlocks d cal pad rnd (k + 1) (used + b.side.length) t

/-! ### Packing (R50 to R54, R59, R61) -/

/-- The side list of a tile by ascending index (R54). -/
def sideOf (n : Nat) (bs : List QBlock) : List (Nat × Nat) :=
  ((List.range bs.length).zip bs).flatMap fun e =>
    (sortBy (fun (a b : Nat × Nat) => decide (a.1 ≤ b.1)) e.2.side).map fun x => (n * e.1 + x.1, x.2)

/-- The 512 bytes of a side list (R54). -/
def packSide (l : List (Nat × Nat)) : List Byte :=
  (List.range 128).flatMap fun i => match l[i]? with
    | some e => leBytes 2 e.1 ++ leBytes 2 e.2
    | none => leBytes 2 0xFFFF ++ leBytes 2 0

/-- Two codes to a byte, the even one low (R50). -/
def nibbles (l : List Nat) : List Byte :=
  (chunks 2 l).map fun p => BitVec.ofNat 8 (p.getD 0 0 % 16 + 16 * (p.getD 1 0 % 16))

/-- A sheaf of seven blocks with its control byte; before counts the side-list entries of earlier sheaves (R51). -/
def packSheaf (before : Nat) (bs : List QBlock) : List Byte :=
  let n := (bs.map fun b => b.side.length).foldl (· + ·) 0
  padTo 63 (bs.flatMap fun b => padTo 8 (nibbles b.codes) ++ leBytes 1 b.scale) ++
    leBytes 1 (n + 16 * (if n = 0 then 0 else before / 8))

/-- The sheaves of a tile. -/
def packSheaves : Nat → List (List QBlock) → List Byte
  | _, [] => []
  | before, g :: t => packSheaf before g ++ packSheaves (before + (g.map fun b => b.side.length).foldl (· + ·) 0) t

/-- An FP8 group of 31 blocks; unused blocks have scale 0 (R59). -/
def packGroup (bs : List QBlock) : List Byte :=
  padTo 992 (bs.flatMap fun b => padTo 32 (b.codes.map (BitVec.ofNat 8))) ++ padTo 32 (bs.map fun b => BitVec.ofNat 8 b.scale)

/-- The bytes of a block-scaled tile (R53, R59). -/
def packBlocks (d : Desc) (bs : List QBlock) : List Byte :=
  if d.format ≤ 1 then packSheaves 0 (chunks 7 bs) else (chunks 31 bs).flatMap packGroup

/-! ### Formats without scales (R61 to R63) -/

/-- An integer element limited to the symmetric range (R61): to nearest even (DESIGN CHOICE, log 89), a NaN free (log 28). -/
def intElem (lim : Int) (c : Nat) : Int × Bool :=
  match fp32.dec c with
  | .nan => (clampI (-lim) lim (sext 8 (Config.quantNan c)), false)
  | .inf n => (if n then -lim else lim, true)
  | .fin n m =>
    let v := (Num.fin n m).val.rneInt
    (clampI (-lim) lim v, decide (v < -lim ∨ lim < v))

/-- The bytes of a tile without scales, and how many elements saturated. -/
def packPlain (d : Desc) (y : List Nat) : List Byte × Nat :=
  if d.format = fmtINT4 then
    let q := y.map (intElem 7)
    (nibbles (q.map fun e => wrap 4 e.1), (q.filter (·.2)).length)
  else if d.format = fmtINT8 then
    let q := y.map (intElem 127)
    (q.map fun e => BitVec.ofNat 8 (wrap 8 e.1), (q.filter (·.2)).length)
  else if d.format = fmtBF16 then (y.flatMap fun c => leBytes 2 (convF bf16 c), 0)
  else if d.format = fmtW40 then (y.flatMap fun c => leBytes 5 (convF w40 c), 0)
  else (y.flatMap fun c => leBytes 4 (convF fp32 c), 0)

/-! ### Calibration (R85 to R87) -/

/-- The calibrated scale in force for an entry: none where the tile is uncalibrated; and whether the entry raises RSV (R85); an entry from a poisoned line too (DESIGN CHOICE, log 89). -/
def calScale (policy entry : Nat) (poisoned : Bool) : Option Nat × Bool :=
  if policy = 0 then (none, false)
  else if poisoned || scaleReserved entry || entry = 0xFF then (none, true)
  else if entry = 0 then (none, false)
  else (some entry, false)

/-- u_t: the scale for the largest magnitude over the blocks that are not written poisoned (R87). -/
def ownTarget (d : Desc) (blocks : List (List Nat)) : Nat :=
  let m := (blocks.filter fun b => b.all finiteF).flatten.foldl (fun (m : Q) c =>
    if Q.lt m (valF c).abs then (valF c).abs else m) ⟨0, 1⟩
  (ue5m3Up (scaleTarget d.format m)).1

/-- A tile of a calibrated policy misfits (R85, R87). -/
def misfits (cal : Option Nat) (u : Nat) : Bool :=
  if u = 0 then false
  else match cal with
    | none => true
    | some c => Q.lt (ue5m3 c) (ue5m3 u) || Q.lt (ue5m3 u) (Q.div (ue5m3 c) ⟨8, 1⟩)

/-- The entry written for the next step (R87). -/
def nextEntryOf (d : Desc) (entry u : Nat) (misfit : Bool) : Nat :=
  if d.policy = 2 && misfit then min 0xFE (u + 8 * d.headroom) else entry

/-- The address of tile t's entry in the copy of a step (R86). -/
def calAddr (d : Desc) (step t : Nat) : Nat := d.cal + 64 * ceilDiv d.tiles 64 * (step % 2) + t

/-! ### Counting (R97, R107) -/

/-- What one tile counts: ELEMS, SAT, ESC, ESC_OVF, MISFIT, POISON, and misfits under FALLBACK (R99). -/
def State.watchAdd (s : State) (b : Nat) (d : Desc) (counts : List Nat) : State :=
  if d.watchEn then
    s.setCores { s.cores with
      watch := ((List.range counts.length).zip counts).foldl (fun t e =>
        t.put (b, d.watchSlot, e.1) (t.get (b, d.watchSlot, e.1) 0 + e.2)) s.cores.watch }
  else s

/-- A quantiser event: its bit always, one record per watch slot, cause and step (R107; log 28). -/
def State.quantEvt (s : State) (b : Nat) (d : Desc) (step bit : Nat) (on : Bool) : State :=
  if !on then s
  else
    let s := s.evt (pgQuant b) bit
    if d.watchEn then
      s.onceDo (0x0620 + bit, 512 * b + d.watchSlot, step) fun s => s.record (0x0620 + bit) (pgQuant b)
    else s

/-- The running sums of a block's squares, in ascending element order (R98). -/
def sumsOf (l : List Nat) : List Nat := l.foldl (fun a v => a ++ [addF (a.getLastD 0) (mulF v v)]) []

/-- The norm watch of a tile (R98): the sum of squares of each block, kept with the tile's place in the core's issue order; formats without blocks take 32 elements (DESIGN CHOICE, log 89). An infinite or NaN square or sum raises the core's flags (R76, R77). -/
def State.watchNorm (s : State) (b c : Nat) (d : Desc) (order x : List Nat) : State :=
  let k := (b, c, d.watchSlot)
  if d.watchEn && s.flag (pgQuant b) .NORM_EN d.watchSlot then
    let l := (chunks d.blockSize x).map sumsOf
    let s := s.raiseFlags (coreNo b c) (listFlags (x.map (fun v => mulF v v) ++ l.flatten))
    s.setCores { s.cores with
      normPart := s.cores.normPart.put k (s.cores.normPart.get k [] ++ [(order, l.map fun p => p.getLastD 0)]) }
  else s

/-- The largest magnitude of a tensor in the step, for T (R105): FP32 codes without sign order as their magnitudes. -/
def State.watchAmax (s : State) (b : Nat) (d : Desc) (x : List Nat) : State :=
  let k := (s.jobOf b, d.tensorId)
  if s.twoLevelNow (s.partOf b) d then
    s.setCores { s.cores with amax := s.cores.amax.put k (x.foldl (fun m v => max m (v % fp32.signBit)) (s.cores.amax.get k 0)) }
  else s

/-! ### A tile (R81, R82) -/

/-- The released tile's values by tile index: RNE(RNE(T_a × T_b) × sum) of a slot (R71), or what STOREs sent; padding reads 0, a poisoned tile NaN elsewhere (R124, R391). -/
def State.tileValues (s : State) (n : Nat) (d : Desc) (r : Released) : List Nat :=
  (List.range d.positions).map fun k =>
    if d.padding r.tileRow r.tileCol k then 0
    else if r.poisoned then fp32.nan
    else match r.slot with
      | some m =>
        let p := d.unIndex k
        mulF r.scale (s.localNum n (sumAddr m (p.1 * d.ct + p.2)) 4)
      | none => match r.values.find? fun v => v.1 == k with
        | some v => v.2
        | none => 0

/-- The number of a released tile. -/
def tileOf (d : Desc) (r : Released) : Nat := r.tileRow * d.tilesC + r.tileCol

/-- Element indices that lie inside ROWS × COLS. -/
def liveElems (d : Desc) (r : Released) : Nat :=
  ((List.range d.positions).filter fun k => !d.padding r.tileRow r.tileCol k).length

/-- A quantiser's write of part of a tensor (R146, R173, R275). -/
def State.quantWrite (s : State) (b : Nat) (d : Desc) (addr : Nat) (bs : List Byte) (poison : Bool) : State :=
  s.writeSpan (engineReq (bedOf b) 2 d.hint (1 + Config.storeUses d.tensorId % 255) addr) bs poison (d.release && !poison)

/-- A block-scaled tile quantised and written, x ÷ T with T of the step of its release (R81, R82). -/
def State.quantScaled (s : State) (b c : Nat) (d : Desc) (r : Released) (x : List Nat) (tee : Nat) : State :=
  let t := tileOf d r
  let turned := rotFlags d x
  let x := rotateTile d x
  let s := s.watchAmax b d x
  let y := x.map fun v => divF v tee
  let blocks := chunks d.blockSize y
  let pad := d.padding r.tileRow r.tileCol
  let req := fun (a : Nat) => engineReq (bedOf b) 2 0 0 a
  let rd := if d.policy = 0 then (s, [], []) else s.readSpan (req (calAddr d r.step t)) 1
  let entry := fieldAt rd.2.1 0 1
  let cal := calScale d.policy entry (!rd.2.2.isEmpty)
  let s := rd.1
  let rnd := fun (k : Nat) => srBits (srHash d.seed r.step d.tensorId (srIndex (d.element r.tileRow r.tileCol k) 2 0))
  let bs := quantBlocks d cal.1 pad rnd 0 0 blocks
  let u := ownTarget d blocks
  let mis := d.policy != 0 && misfits cal.1 u
  let sum := fun (f : QBlock → Nat) => (bs.map f).foldl (· + ·) 0
  let sat := sum (·.sat)
  let esc := sum fun q => q.side.length
  let ovf := sum (·.ovf)
  let poi := sum fun q => b2n (q.scale == 0xFF)
  let s := if d.policy = 0 then s
    else s.writeSpan (req (calAddr d (r.step + 1) t)) (leBytes 1 (nextEntryOf d entry u mis))
  let s := s.quantWrite b d (d.base + t * d.tileBytes) (packBlocks d bs) false
  let s := if d.escMult = 0 || 1 < d.format then s
    else s.quantWrite b d (d.side + 512 * t) (packSide (sideOf d.blockSize bs)) false
  let fl := (turned.or (listFlags (x ++ y))).or ⟨false, bs.any (·.sideInf), decide (0 < sat) || bs.any (·.scaleSat), cal.2⟩
  let s := s.raiseFlags (coreNo b c) fl
  let s := s.watchAdd b d [liveElems d r, sat, esc, ovf, b2n mis, poi, b2n (mis && d.policy == 3)]
  let s := (s.quantEvt b d r.step 1 (decide (0 < ovf))).quantEvt b d r.step 3 (mis && d.policy != 2)
  (s.quantEvt b d r.step 4 (decide (0 < poi))).quantEvt b d r.step 5 (bs.any (·.budget))

/-- A tile of a format without scales converted and written; a poisoned integer tile carries the lines' poison (log 28). -/
def State.quantPlain (s : State) (b c : Nat) (d : Desc) (r : Released) (x : List Nat) : State :=
  let q := packPlain d x
  let int := intFormat d
  let s := s.quantWrite b d (d.base + tileOf d r * d.tileBytes) q.1 (int && r.poisoned)
  let out := listFlags (if d.format = fmtBF16 then x.map fun v => convF bf16 v * 65536 else x)
  let s := s.raiseFlags (coreNo b c) ⟨!int && out.inv, !int && out.ovf, decide (0 < q.2), false⟩
  s.watchAdd b d [liveElems d r, q.2, 0, 0, 0, 0]

/-- A tile converted to I16 under E and handed to its bucket (R64, R246); a tile with non-finite content goes poisoned (R78). -/
def State.quantI16 (s : State) (b c desc : Nat) (d : Desc) (r : Released) (x : List Nat) (e : Int) : State :=
  let q := s.partOf b
  let me := s.selfIn (s.liveMembers q (s.armIn b r.arm))
  let poison := !x.all finiteF
  let l := (List.range d.positions).map fun k =>
    i16Sr (Q.mul (valF (x.getD k 0)) (Q.pow2 (-e)))
      (srBits (srHash d.seed r.step d.tensorId (srIndex (d.element r.tileRow r.tileCol k) 3 me)))
  let sat := if poison then 0 else (l.filter (·.2)).length
  let s := s.raiseFlags (coreNo b c) ⟨false, false, decide (0 < sat), false⟩
  let s := s.watchAdd b d [liveElems d r, sat, 0, 0, 0, 0]
  s.contribute q r.step desc (tileOf d r) (if poison then [] else l.map (·.1)) (if poison then [] else l.map (·.2)) poison

/-- The bucket of an open step that a contribution descriptor feeds. -/
def State.bucketOf (s : State) (q step desc : Nat) : Option Nat :=
  match s.stepAt q step with
  | none => none
  | some o => ((buckets o.file).find? fun b => b.2.src == desc).map (·.1)

/-- The second copy of an accumulator tile quantised under its own descriptor, with its own scales and side list (R109). -/
def State.quantCopy (s : State) (b c : Nat) (r : Released) (d : Desc) (x : List Nat) : State :=
  (s.watchNorm b c d r.order x).quantScaled b c d r x r.tee.2

/-- A released tile quantised; a tensor with two blockings is written in both. -/
def State.quantTile (s : State) (b c : Nat) (r : Released) (e : Int) : State :=
  let t := s
  let n := coreNo b c
  let f := s.armIn b r.arm
  let d := descAt f r.desc
  let x := s.tileValues n d r
  let s := s.raiseFlags n (if r.slot.isSome && !r.poisoned then listFlags x else Flags.none)
  let s := match r.slot with
    | some m => s.freeSlots n m d
    | none => s
  let s := s.watchNorm b c d r.order x
  if d.format ≤ 3 then
    match secondCopy f r.desc with
    | some k => if r.slot.isSome then (s.quantScaled b c d r x r.tee.1).quantCopy b c r (descAt f k) (t.tileValues n (descAt f k) r)
      else s.quantScaled b c d r x r.tee.1
    | none => s.quantScaled b c d r x r.tee.1
  else if d.format = fmtI16 then s.quantI16 b c r.desc d r x e
  else s.quantPlain b c d r x

/-- The oldest whole tile in a quantiser's input, and the input without it. -/
def takeWhole (f : Option Nat → File) : List Released → Option (Released × List Released)
  | [] => none
  | r :: t => if releasedWhole (descAt (f r.arm) r.desc) r then some (r, t) else (takeWhole f t).map fun x => (x.1, r :: x.2)

/-- The input of a core's quantiser. -/
def State.setReleased (s : State) (n : Nat) (l : List Released) : State :=
  s.setCores { s.cores with released := s.cores.released.put n l }

/-- QUANTISE_TILE (R81, R247): the oldest whole tile is quantised; a gradient tile waits until its exponent is known, and the wait counts as a slip. With no tile, or while CTL.RUN has stopped the quantiser (R31), nothing happens (log 2). -/
def execQuantiseTile (bed : Bed) (core : Core) (s : State) : Host.Outcome State Fault Refusal :=
  let b := bed.val
  let c := core.val
  let n := coreNo b c
  let l := s.cores.released.get n []
  if s.halts (pgQuant b) then .next s
  else match takeWhole (s.armIn b) l with
  | none => .next s
  | some (r, rest) =>
    let q := s.partOf b
    let d := descAt (s.armIn b r.arm) r.desc
    if d.format = fmtI16 then
      match s.bucketOf q r.step r.desc with
      | none => .next (match r.slot with
        | some m => (s.setReleased n rest).freeSlots n m d
        | none => s.setReleased n rest)
      | some k =>
        match s.expReady q k r.step (tileOf d r) with
        | none => .next (s.setReleased n ({ r with since := some (r.since.getD s.time.now) } :: rest))
        | some e =>
          let wait := match r.since with
            | some t => (s.time.now - t) * s.get pgPower .FREQ_MHZ / 1000
            | none => 0
          .next (((s.slip n wait).setReleased n rest).quantTile b c r e)
    else .next ((s.setReleased n rest).quantTile b c r 0)

end Sys2Proof.Machine
end

