-- ==== Sys2Proof/Machine/Precision.lean ====
section
/-! DEFINITION. What a partition's precision state machine does at a step boundary (R97 to R105, R107): watch snapshots, norms, trips, tensor scales, layer states; and when a tick is due. -/

namespace Sys2Proof.Machine

/-! ### Watch slots (R97, R98) -/

/-- The snapshot registers of a watch slot in the order of its counts. -/
def watchFields : List Fld := [.WATCH_ELEMS, .WATCH_SAT, .WATCH_ESC, .WATCH_ESC_OVF, .WATCH_MISFIT, .WATCH_POISON]

/-- A core's running sums of its block sums in the armature's issue order, which two tiles of one block keep as they came (R98). -/
def coreSums (l : List (List Nat × List Nat)) : List Nat :=
  ((sortBy (fun (a b : List Nat × List Nat) => !lexBefore b.1 a.1) l).flatMap (·.2)).foldl (fun a v => a ++ [addF (a.getLastD 0) v]) []

/-- A core's partial norm (R98). -/
def coreNorm (l : List (List Nat × List Nat)) : Nat := (coreSums l).getLastD 0

/-- The slots that a bed counted in its last complete step. -/
def State.watched (s : State) (b : Nat) : List Nat :=
  (List.range 512).filter fun k => s.cores.watchDone.any fun e => e.1.1 == b && e.1.2.1 == k

/-- A count of a bed's slot in its last complete step. -/
def State.watchCount (s : State) (b slot k : Nat) : Nat := s.cores.watchDone.get (b, slot, k) 0

/-- The counts and block sums of a bed's running step become those of its last complete one; the next step counts from 0. -/
def State.closeWatch (s : State) (b : Nat) : State :=
  let c := s.cores
  s.setCores { c with
    watch := c.watch.delIf (fun k => k.1 == b), normPart := c.normPart.delIf (fun k => k.1 == b),
    watchDone := c.watchDone.delIf (fun k => k.1 == b) ++ c.watch.filter (fun e => e.1.1 == b),
    normDone := c.normDone.delIf (fun k => k.1 == b) ++ c.normPart.filter (fun e => e.1.1 == b) }

/-- The flags that a core's additions of its block sums raise (R76, R98). -/
def State.normFlags (s : State) (b : Nat) : State :=
  (s.cores.normDone.filter fun e => e.1.1 == b).foldl (fun s e => s.raiseFlags (coreNo b e.1.2.1) (listFlags (coreSums e.2))) s

/-- A bed's counts of the step become its snapshot (R97, R107). -/
def State.watchSnap (s : State) (b step : Nat) : State :=
  let p := pgQuant b
  let s := ((s.closeWatch b).normFlags b).resetFields p watchFields
  let s := (s.watched b).foldl (fun s k =>
    ((List.range 6).zip watchFields).foldl (fun s e =>
      s.put p e.2 (min (s.watchCount b k e.1) (2 ^ (fieldInfo e.2).width - 1)) k) s) s
  (s.put p .QZ_SNAP_VALID 1).put p .QZ_SNAP_STEP step

/-- A bed's partial norm of a slot: its core partials in ascending core order (R98). -/
def State.bedNorm (s : State) (b slot : Nat) : Option Nat :=
  let l := (List.range 384).filterMap fun c => (Tab.find? s.cores.normDone (b, c, slot)).map coreNorm
  match l with
  | [] => none
  | x :: t => some (t.foldl addF x)

/-- n_s of a slot: the bed partials in ascending bed order, then the square root (R98). -/
def State.partNorm (s : State) (beds : List Nat) (slot : Nat) : Option Nat :=
  match beds.filterMap fun b => s.bedNorm b slot with
  | [] => none
  | x :: t => some (sqrtF (t.foldl addF x))

/-- A norm jump: n_s exceeds NORM_FACTOR × a; nothing exceeds an infinity, and a NaN neither exceeds nor is exceeded (R98). -/
def normJump (n a factor : Nat) : Bool :=
  finiteF a && match fp32.dec n with
  | .nan => false
  | .inf _ => true
  | .fin _ m => Q.lt (Q.mul ⟨factor, 16⟩ (fp32.dec a).val) m

/-- The running average after a step that is no jump: one rounding of a + (n_s − a) × 2^−ALPHA_LOG2 (R98); from a first step that was not finite it is NaN. -/
def normAverage (n a alpha : Nat) : Nat :=
  let x := (fp32.dec a).val
  if finiteF a then fp32.rne (Q.add x (Q.mul (Q.sub (fp32.dec n).val x) (Q.pow2 (-(alpha : Int))))) else fp32.nan

/-- One slot's norm shown with its average on every bed of the partition (R98, R107); a jump raises NORM_JUMP on the layer page. Answers whether it jumped. -/
def State.normSlot (s : State) (q : Nat) (beds : List Nat) (slot : Nat) : State × Bool :=
  match s.partNorm beds slot with
  | none => (s, false)
  | some n =>
    let lp := pgLayer (s.partFirst q)
    let old := (s.part q).averages.find? slot
    let jump := match old with
      | some a => normJump n a (s.get lp .NORM_FACTOR)
      | none => false
    let a := match old with
      | none => n
      | some a => if jump || !finiteF n then a else normAverage n a (s.get lp .ALPHA_LOG2)
    let s := beds.foldl (fun s b => (s.put (pgQuant b) .WATCH_NORM n slot).put (pgQuant b) .WATCH_EMA a slot) s
    let s := s.setPart q { s.part q with averages := (s.part q).averages.put slot a }
    (if jump then s.raise lp 2 else s, jump)

/-- Every slot's norm; answers the slots that jumped. -/
def State.norms (s : State) (q : Nat) (beds : List Nat) : State × List Nat :=
  let s := beds.foldl (fun s b => s.resetFields (pgQuant b) [.WATCH_NORM]) s
  (List.range 512).foldl (fun (acc : State × List Nat) k =>
    let r := acc.1.normSlot q beds k
    (r.1, if r.2 then acc.2 ++ [k] else acc.2)) (s, [])

/-! ### Trips (R99) -/

/-- The slots of a layer with TRIP_EN set: bed and slot. -/
def State.tripSlots (s : State) (beds : List Nat) (layer : Nat) : List (Nat × Nat) :=
  beds.flatMap fun b => ((s.watched b).filter fun k =>
    s.flag (pgQuant b) .TRIP_EN k && s.get (pgQuant b) .WATCH_LAYER k == layer).map fun k => (b, k)

/-- The tests of R99 that a layer meets: SAT, ESC_OVF, a jump, a FALLBACK misfit. -/
def State.tripTests (s : State) (q : Nat) (beds jumps : List Nat) (layer : Nat) : List Bool :=
  let lp := pgLayer (s.partFirst q)
  let l := s.tripSlots beds layer
  let sum := fun (k : Nat) => l.foldl (fun a x => a + s.watchCount x.1 x.2 k) 0
  let jumped := beds.any fun b => jumps.any fun k =>
    s.flag (pgQuant b) .TRIP_EN k && s.get (pgQuant b) .WATCH_LAYER k == layer && (s.bedNorm b k).isSome
  [decide (sum 0 < sum 1 * 2 ^ s.get lp .SAT_RATE_LOG2), decide (s.get lp .ESC_OVF_MAX < sum 3), jumped, decide (0 < sum 6)]

/-- A warm-up step: one of the job's first WARMUP_STEPS (R104). -/
def State.warming (s : State) (q : Nat) : Bool :=
  decide ((s.part q).jobSteps < s.get (pgLayer (s.partFirst q)) .WARMUP_STEPS)

/-- The layers that trip in the step, with the layer page's events; none in a warm-up step. -/
def State.localTrips (s : State) (q : Nat) (beds jumps : List Nat) : State :=
  let lp := pgLayer (s.partFirst q)
  let r := (List.range 1024).foldl (fun (acc : State × List Nat) l =>
    let t := acc.1.tripTests q beds jumps l
    let s := if t.getD 0 false then acc.1.raise lp 0 else acc.1
    let s := if t.getD 1 false then s.raise lp 1 else s
    let s := if t.getD 3 false then s.raise lp 3 else s
    if t.any id then (s, acc.2 ++ [l]) else acc) (s, [])
  if s.warming q then s.setPart q { s.part q with trips := [] }
  else r.1.setPart q { r.1.part q with trips := r.2 }

/-! ### Tensor scales (R105) -/

/-- 2^⌈log2 amax⌉ clamped to 2^−126 … 2^127, as an FP32 code; amax a positive finite magnitude code. -/
def scaleOf (amax : Nat) : Nat :=
  let e := amax / 2 ^ 23
  let up := b2n (amax % 2 ^ 23 != 0)
  if e = 0 then 2 ^ 23 else min (e + up) 254 * 2 ^ 23

/-- The armature whose tensor scales stand under a key of State.jobOf. -/
def State.jobArm (s : State) (j : Nat) : File := if j < 8 then s.partArm j else s.armOf (j - 8)

/-- T of a tensor after a two-level step: unchanged after its first one (log 27). -/
def State.nextScale (s : State) (k : Nat × Nat) (amax : Nat) : State :=
  let f := s.jobArm k.1
  let put := fun (t : Nat) => s.setCores { s.cores with tscale := s.cores.tscale.put k t }
  match s.cores.tscale.find? k with
  | none =>
    let d := ((List.range (secOf f 0x01).count).map (descAt f)).find? fun d => d.tensorId == k.2
    put (match d with
      | some d => d.tscale
      | none => 0x3F800000)
  | some _ => if amax = 0 || !finiteF amax then s else put (scaleOf amax)

/-- Every tensor's T at the step boundary of a partition or of an independent bed. -/
def State.nextScales (s : State) (j : Nat) : State :=
  let l := s.cores.amax.filter fun e => e.1.1 == j
  let s := l.foldl (fun s e => s.nextScale e.1 e.2) s
  s.setCores { s.cores with amax := s.cores.amax.delIf fun k => k.1 == j }

/-! ### Layer states (R101 to R103) -/

/-- The STATE_MASKs of every issue and pass entry of an armature that names a layer. -/
def layerMasks (f : File) (layer : Nat) : List Nat :=
  let issues := (List.range (secOf f 0x03).count).flatMap fun g => (List.range (armFps f)).flatMap fun fr =>
    [0, 1, 2, 3, 4].flatMap fun e => ((issueList f g fr e).filter fun i => i.layer == layer).map (·.mask)
  issues ++ ((passes f).filter fun e => e.2.layer == layer).map fun e => e.2.mask

/-- The armature holds a variant of a layer for a state, or nothing names the layer (R103). -/
def hasVariant (f : File) (layer st : Nat) : Bool :=
  let l := layerMasks f layer
  l.isEmpty || l.any fun m => bitAt m st

/-- RETRY_STEPS, 0 read as 1 (R107). -/
def State.retrySteps (s : State) (lp : Page) : Nat := max 1 (s.get lp .RETRY_STEPS)

/-- A layer changed its state at a boundary after a step began: boundaries are named by the step that they begin. -/
def PartSt.movedSince (x : PartSt) (layer step : Nat) : Bool :=
  x.moved.any fun m => m.1 == layer && m.2 != step && decide ((m.2 + 2 ^ 32 - step) % 2 ^ 32 < 2 ^ 31)

/-- A certified trip applies to a layer: one whose step began before the layer last changed state is ignored (R101). -/
def State.tripApplies (s : State) (q layer : Nat) : Bool :=
  let x := s.part q
  x.tripped.any fun t => t.1 == layer && !x.movedSince layer t.2

/-- A retry is due at the boundary that ends a step (R102). -/
def State.retryDue (s : State) (lp : Page) (layer steps : Nat) : Bool :=
  s.get lp .LAYER_ST layer != 0 && steps == s.retrySteps lp * 2 ^ s.get lp .LAYER_SHIFT layer

/-- A layer's state set by its armature or the host: a change restarts STEPS_IN_STATE and is the layer's last switch (R107). -/
def State.moveState (s : State) (lp : Page) (layer st step : Nat) : State :=
  if s.get lp .LAYER_ST layer = st then s
  else ((s.put lp .LAYER_ST st layer).put lp .STEPS_IN_STATE 0 layer).put lp .LAST_SWITCH_STEP step layer

/-- The layer enters a state at the boundary that begins a step. -/
def State.enterLayer (s : State) (lp : Page) (layer st step byRetry shift : Nat) : State :=
  ((((s.put lp .LAYER_ST st layer).put lp .BY_RETRY byRetry layer).put lp .LAYER_SHIFT shift layer).put lp .STEPS_IN_STATE 0 layer).put
    lp .LAST_SWITCH_STEP step layer

/-- A layer changed its state at the boundary that begins a step: noted for the trips that were measured before (R101). -/
def State.noteMove (s : State) (q layer step : Nat) : State :=
  s.setPart q { s.part q with
    moved := (s.part q).moved.filter (fun m => decide ((step + 2 ^ 32 - m.2) % 2 ^ 32 < 8)) ++ [(layer, step)] }

/-- A layer moves to a state for which the armature holds a variant; otherwise it stays, with its record (R103). -/
def State.moveLayer (s : State) (q : Nat) (f : File) (layer st step byRetry shift : Nat) : State :=
  let lp := pgLayer (s.partFirst q)
  if hasVariant f layer st then
    (s.enterLayer lp layer st step byRetry shift).noteMove q layer step
  else s.record 0x0642 lp (leBytes 2 layer ++ leBytes 1 st)

/-- SHIFT after a trip (R102). -/
def State.tripShift (s : State) (lp : Page) (layer steps : Nat) : Nat :=
  let sh := s.get lp .LAYER_SHIFT layer
  if s.flag lp .BY_RETRY layer && decide (steps < s.retrySteps lp) then min (sh + 1) 4 else sh

/-- The precision state machine of a layer at the boundary that begins a step; steps is STEPS_IN_STATE with the step just completed counted (R102). Where a trip or a retry meets the F4 row that resets SHIFT, only the trip or retry acts (DESIGN CHOICE, log 91). -/
def State.evalLayer (s : State) (q : Nat) (f : File) (layer step : Nat) : State :=
  let lp := pgLayer (s.partFirst q)
  let s := s.bump lp .STEPS_IN_STATE 1 layer
  let n := s.get lp .STEPS_IN_STATE layer
  let st := s.get lp .LAYER_ST layer
  let trip := s.tripApplies q layer
  let due := s.retryDue lp layer n
  let reset := decide (st = 0 ∧ n = 4 * s.retrySteps lp)
  if s.get lp .LAYER_MODE layer = 1 then
    if trip || due then s.record 0x0641 lp (leBytes 2 layer ++ leBytes 1 (b2n (!trip)) ++ [0] ++ leBytes 4 step)
    else if reset then s.put lp .LAYER_SHIFT 0 layer else s
  else if trip then
    if 2 ≤ st then (s.put lp .STEPS_IN_STATE 0 layer).record 0x0640 lp (leBytes 2 layer ++ [0, 0] ++ leBytes 4 step)
    else s.moveLayer q f layer (st + 1) step 0 (s.tripShift lp layer n)
  else if due then s.moveLayer q f layer (st - 1) step 1 (s.get lp .LAYER_SHIFT layer)
  else if reset then s.put lp .LAYER_SHIFT 0 layer
  else s

/-- Every layer of a partition at the boundary that begins a step, unless CTL.RUN has stopped the layer precision page (R31); certified trips are then spent. Where the partition's beds are independent, the lead bed's armature is the one that has a variant or not (DESIGN CHOICE, log 36). -/
def State.evalLayers (s : State) (q step : Nat) : State :=
  let f := s.partArm q
  let s := if s.halts (pgLayer (s.partFirst q)) then s else (List.range 1024).foldl (fun s l => s.evalLayer q f l step) s
  s.setPart q { s.part q with tripped := [] }

/-! ### The tick (R134, R135) -/

/-- The bed's next tick has come. -/
def State.tickDue (s : State) (b : Nat) : Bool :=
  s.pw.keeperOn && (s.bed b).origin && decide (s.tickTime b (s.nextFrame b) ≤ s.time.now)

/-- The bed's next tick is a step boundary: it ends the step's last frame while an armature runs (R134). The tick at which a bed that CTL.RUN stops becomes IDLE is none, even where it ends the step's last frame, so that no step record is written there (DESIGN CHOICE, log 100). -/
def State.atBoundary (s : State) (b : Nat) : Bool :=
  s.runsArm b && !(s.bed b).stopping && decide (s.get (pgBed b) .FRAMES_PER_STEP ≤ s.frameIn b + 1)

end Sys2Proof.Machine
end

