-- ==== Sys2Proof/Machine/Tick.lean ====
section
/-! DEFINITION. The tick (R134, R163): overrun and realignment, staging, the step and epoch boundaries, switches, the clock, the new frame; the commands that a tick or a bed's timeouts give. -/

namespace Sys2Proof.Machine

/-! ### The closing frame (R155, R156) -/

/-- A context waits: a block of it runs, a transfer of it is in progress, or an entry of it has not begun. -/
def State.ctxWaits (s : State) (b c x : Nat) : Bool :=
  let n := coreNo b c
  s.cores.xbusy.contains (n, x) || [0, 1, 2, 3, 4].any fun e =>
    (match Tab.find? s.cores.running (n, e) with
      | some r => r.ctx == x
      | none => false) ||
    ((s.coreList b c e).drop (s.cursor n e)).any fun i => i.ctx == x && !s.cores.skip.contains (n, x) && s.maskAllows b i.layer i.mask

/-- The entries of reset contexts that stand next on a bed's engines skipped, with what they release (R124). -/
def State.passSkipped (s : State) (b : Nat) : State :=
  if s.cores.skip.isEmpty then s
  else s.onCores b fun s c => [0, 1, 2, 3, 4].foldl (fun s e =>
    (State.nextEntry b c e ((s.coreList b c e).drop (s.cursor (coreNo b c) e)) (s.cursor (coreNo b c) e) s).1) s

/-- STALL_FRAMES of every context at a tick (R124, R351). -/
def State.countStalls (s : State) (b : Nat) : State :=
  s.onCores b fun s c => (List.range 8).foldl (fun s x =>
    let p := pgCore .coreSub3 (coreNo b c)
    if s.ctxWaits b c x then
      (s.bump p .STALL_FRAMES 1 x).put p .CTX_STATE (if s.get p .CTX_STATE x = 3 then 3 else 2) x
    else s) s

/-- Realignment (R156): contexts with a running block are reset, every other block stops, the bed runs on. After a sequencer's restart, whose record stands for the same cause, its EVT bit writes none (R350, R351). -/
def State.realign (s : State) (b : Nat) : State :=
  let s := s.bump (pgBed b) .REALIGN_CNT
  let s := if (s.bed b).restarted then s.evt (pgBed b) 1 else s.raise (pgBed b) 1
  let s := s.onCores b fun s c => (List.range 8).foldl (fun s x =>
    if s.cores.running.any fun e => e.1.1 == coreNo b c && e.2.ctx == x then s.ctxReset b c x 0x0542 else s) s
  let s := (s.stopRunning b).setSeq b seqRunning
  s.setBed b { s.bed b with skipping := false, heldUpdates := false, restarted := false }

/-- An overrun (R155): counted, what has not begun is skipped, the update entries of the frame that opens are held. -/
def State.overrun (s : State) (b : Nat) : State :=
  let s := (((s.bump (pgBed b) .OVERRUN_CNT).raise (pgBed b) 0).skipFrame b).setSeq b seqPaused
  s.setBed b { s.bed b with skipping := true, heldUpdates := true }

/-- The last cycle at which a block of the bed's frame ends. -/
def State.lastEnd (s : State) (b : Nat) : Nat :=
  s.cores.endCyc.foldl (fun m e => if e.1.1 / 384 = b then max m e.2 else m) 0

/-- The least spare cycles of the step so far (R167 SLACK_MIN). -/
def State.noteSlack (s : State) (b : Nat) : State :=
  let x := s.bed b
  let spare := s.frameCycles b - s.lastEnd b
  s.setBed b { x with slackRun := some (match x.slackRun with
    | some m => min m spare
    | none => spare) }

/-- Action 1 of a tick, for a bed with a running armature. -/
def State.closeRun (s : State) (b : Nat) : State :=
  let s := ((s.passSkipped b).countStalls b).noteSlack b
  if (s.bed b).stopping then s.idleBed b
  else if s.seq b = seqPaused then s.realign b
  else if s.unfinished b then s.overrun b
  else s

/-! ### Counters as a session shows them (R298) -/

/-- The counters that the register chapters mark as coarsened. -/
def coarseFields : List Fld :=
  [.SLIP_EVENTS, .CTX_RESETS, .BLOCKS_ISSUED, .ADDR_FAULTS, .EGRESS_DENY, .HITS, .MISSES, .ALLOC_REFUSED, .DAL_FREED, .DAL_STALE,
   .OVERDRAW_C, .CLIP_C, .FAR_OVERDRAW, .RETRAIN_CNT, .REFRESH_LATE, .SCRUB_PASS, .HELD_REC, .STALE_BLK, .SAT_STORE,
   .ROLLED_BLK, .MIRROR_KIB, .WARD_REJECTED, .FEC_CORR, .FEC_UNCORR, .RETRY, .HB_MISS, .DOWN_CNT, .GCM_FAIL, .C0_LATE,
   .CLEAR_DROP, .UNROUTED, .TX_SLOTS_C, .RX_PARTS, .LATE, .POISON_DROP, .POISON_FWD, .STORE_FULL, .BAD_PKT, .SKIPPED,
   .ROOT_PARTS, .BACKUP_CERTS, .VOTE_FAIL, .PINNED, .DIRTY, .ERR_CORR, .ERR_UNCORR]

/-- A bed's counters as they stand at its tick. -/
def State.coarseSnap (s : State) (b : Nat) : State :=
  let mine := fun (k : FieldKey) => pageBed k.page == some b && coarseFields.contains k.fld
  { s with coarse := s.coarse.delIf mine ++ [(⟨pgCache b, .PINNED, 0⟩, s.pinnedLines b), (⟨pgCache b, .DIRTY, 0⟩, s.dirtyLines b)] ++
      s.regs.filter fun e => mine e.1 }

/-- Every page that has staging sets and takes the bed's tick ticks (R33, R163 action 2). -/
def State.tickPages (s : State) (b : Nat) : State :=
  (s.staging.map (·.1)).foldl (fun t p => if s.tickBed p = some b then t.tickPage p else t) s

/-! ### The step boundary of a bed (R97, R131, R177) -/

/-- The DAL lines of a bridge written in the step just ended with counts left: written back, freed, counted, with the cache page's event (R177, R192). -/
def State.dalStale (s : State) (b : Nat) : State :=
  let l := s.mem.cache.filter fun e => lineHome e.1 == b && e.2.written
  let t := l.foldl (fun s e => match e.2.dal with
    | some _ => (s.staleLine e.1 e.2).bump (pgCache b) .DAL_STALE
    | none => s.setCache e.1 { e.2 with written := false }) s
  if l.any fun e => e.2.dal.isSome then t.raise (pgCache b) 1 else t

/-- The bed's per-step non-finite record and latch (R131); cycle offsets read 0 in a session (R345). -/
def State.nfStep (s : State) (b step : Nat) : State :=
  let x := s.bed b
  let p := pgBed b
  let s := s.put p .BED_NF_STEP step
  match x.nfFirst with
  | none => ((s.put p .NF_LATCH_VALID 0).put p .NF_LATCH_CORE 0).put p .NF_CORES 0
  | some c =>
    let n := x.nfCores.length
    let s := ((s.put p .NF_LATCH_VALID 1).put p .NF_LATCH_CORE c.core).put p .NF_CORES n
    let body := if s.sessionOpen (s.partOf b) then c.payload.take 4 ++ [0, 0, 0, 0] ++ c.payload.drop 8 else c.payload
    let s := s.recordAt 0x0541 (pgCore .coreSub0 (coreNo b 0)) (leBytes 4 step ++ leBytes 2 c.core ++ leBytes 2 n ++ body) c.frame
    s.setBed b { s.bed b with nfFirst := none, nfCores := [], trapped := false }

/-- The rest of what a bed does at a step boundary beside its partition's part (R163 action 3): the non-finite record, STEP + 1, an independent bed's tensor scales (R105); a watch slot's records may be written anew (R107). -/
def State.bedBoundary (s : State) (b : Nat) : State :=
  let p := pgBed b
  let step := s.get p .STEP_CNT
  let s := ((s.nfStep b step).dalStale b).put p .SLACK_MIN ((s.bed b).slackRun.getD 0)
  let s := s.setBed b { s.bed b with slackRun := none }
  let s := { s with once := s.once.filter fun k => !(decide (0x0620 ≤ k.1 ∧ k.1 ≤ 0x0625) && k.2.1 / 512 == b) }
  let s := if armLocked (s.armOf b) then s else s.nextScales (8 + b)
  ((s.put p .STEP_CNT (nextStep step)).put p .FRAME_IN_STEP 0).openStep b

/-! ### The step boundary of a partition (R102 to R105, R198, R213) -/

/-- A partition's group table and mask as its lowest update unit's page holds them (R198). -/
def State.groupTable (s : State) (q : Nat) : Tab Nat Nat × List Nat :=
  let p := pgUnit (4 * s.partFirst q)
  ((s.regs.filter fun e => decide (e.1.page = p) && e.1.fld == .GROUP_WORD).map fun e => (e.1.idx, e.2),
   (List.range 8).map fun w => s.get p .DECAY_EXCL w)

/-- A layer's precision state in a step (R102, R200): as the step opened, or the present one. -/
def State.stateIn (s : State) (q step layer : Nat) : Nat := match s.stepAt q step with
  | some o => ((o.states.find? fun e => e.1 == layer).map (·.2)).getD 0
  | none => s.layerState (s.partFirst q) layer

/-- A pass entry's STATE_MASK allows its layer's state in a step (R200). -/
def State.passAllows (s : State) (q step : Nat) (e : Pass) : Bool := bitAt e.mask (s.stateIn q step e.layer)

/-- Every entry of an update unit that the layers' states allow is complete for a step (R200, R218). -/
def State.unitDone (s : State) (q : Nat) (f : File) (u step : Nat) : Bool :=
  (passes f).all fun e => e.2.unit != u || !s.passAllows q step e.2 || s.upd.done.contains (q, step, e.1)

/-- LAST_STEP of a unit whose entries are all complete (R218). -/
def State.creditUnit (s : State) (q : Nat) (f : File) (u step : Nat) : State :=
  if s.unitDone q f u step then s.put (pgUnit u) .LAST_STEP step else s

/-- LAST_STEP of every unit of a partition's pass list. -/
def State.creditUnits (s : State) (q step : Nat) : State :=
  (passes (s.partArm q)).foldl (fun s e => s.creditUnit q (s.partArm q) e.2.unit step) s

/-- What the update units keep of a partition's steps is forgotten when a job begins; the latched tables stay. -/
def State.forgetUpdates (s : State) (q : Nat) : State :=
  let u := s.upd
  let mine := fun (x : Nat) => s.partOf (x / 4) == q
  { s with upd := { u with
    done := u.done.filter fun k => k.1 != q, preDone := u.preDone.filter fun k => k.1 != q,
    run := u.run.delIf fun k => mine k, sums := u.sums.delIf fun k => mine k.1, preSums := u.preSums.delIf fun k => mine k.1,
    ratio := u.ratio.delIf fun k => k.1 == q } }

/-- The table and mask latched for a step that begins; those of the steps that the retention ring reaches, and the one before them, are kept (R198, R201, R214). -/
def State.latchGroups (s : State) (q step : Nat) : State :=
  let u := s.upd
  let old := fun (p t : Nat) => p == q && decide (max 2 (retainSteps (s.partArm q)) + 2 < (step + 2 ^ 32 - t) % 2 ^ 32)
  { s with once := s.once.filter (fun k => !(decide (0x0821 ≤ k.1 ∧ k.1 ≤ 0x0841) && old (k.2.1 / 1024) k.2.2)), upd := { u with
    latched := (u.latched.delIf fun k => old k.1 k.2).put (q, step) (s.groupTable q),
    done := u.done.filter fun k => !old k.1 k.2.1, preDone := u.preDone.filter fun k => !old k.1 k.2.1,
    sums := u.sums.delIf fun k => old (s.partOf (k.1 / 4)) k.2.2,
    preSums := u.preSums.delIf fun k => old (s.partOf (k.1 / 4)) k.2.2, ratio := u.ratio.delIf fun k => old k.1 k.2.2 } }

/-- The step that begins would reuse the retention slot of an uncommitted step (R213). -/
def State.retainFull (s : State) (q step : Nat) : Bool :=
  let f := s.partArm q
  let x := s.part q
  hasSec f 0x08 && decide (retainSteps f ≤ x.jobSteps) &&
    match x.committed with
    | none => true
    | some c => decide (retainSteps f < (step + 2 ^ 32 - c) % 2 ^ 32)

/-- Recovery steps left in the step that begins: the count runs down, a roll-forward starts it anew (R104, R213). -/
def nextRecovery (x : PartSt) (full : Nat) : Nat := if x.recoverNext then full else x.recovery - 1

/-- A reseed that cannot complete: the generator stops (R271, R390). -/
def State.reseedFail (s : State) (q : Nat) : State :=
  let s := (s.setNoise q { s.noiseOf q with stopped := true }).put (pgLink 0) .PRIV_ES_FAIL 1 q
  s.record 0x0F11 (pgLink 0) (leBytes 1 q)

/-- A reseed that succeeds: fresh words, the request count from 0; the source is well again. -/
def State.reseedOk (s : State) (q : Nat) : State :=
  let d := s.draw
  let n := d.2.noiseOf q
  let s := d.2.setNoise q { n with inst := some d.1, draws := 0, requests := 0, stopped := false }
  let s := { s with sec := { s.sec with sourceFailed := false } }
  (((s.bump (pgLink 0) .RESEED_CNT 1 q).put (pgLink 0) .PRIV_ES_FAIL 0 q).put (pgLink 0) .DRBG_READY 1 q).put pgSec .SEC_ES_FAIL 0

/-- The reseed that a stopped generator retries at each step boundary, by what the entropy source is known to do (R271, log 22). -/
def State.retryNoise (s : State) (q : Nat) : State :=
  if !(s.noiseOf q).stopped then s else if s.sec.sourceFailed then s.reseedFail q else s.reseedOk q

/-- The norm watch of a partition at its lead bed's step boundary, with the tests of R99 (R97, R98, R163 action 3): it comes after the totals and before the non-finite records. It uses the counts of each bed's last complete step, each once (log 91). -/
def State.partWatch (s : State) (q : Nat) : State :=
  let beds := s.partBeds q
  let r := s.norms q beds
  let s := r.1.localTrips q beds r.2
  s.setCores { s.cores with
    watchDone := s.cores.watchDone.delIf (fun k => s.partOf k.1 == q), normDone := s.cores.normDone.delIf (fun k => s.partOf k.1 == q) }

/-- What else a partition does at its lead bed's step boundary; step is the STEP that begins (R163 action 3). -/
def State.partBoundary (s : State) (q step : Nat) : State :=
  let beds := s.partBeds q
  let lp := pgLayer (s.partFirst q)
  let s := s.nextScales q
  let s := (s.put lp .LP_SNAP_VALID 1).put lp .LP_SNAP_STEP (prevStep step)
  let s := (s.creditUnits q (prevStep step)).evalLayers q step
  let x := s.part q
  let s := s.setPart q { x with
    jobSteps := x.jobSteps + 1, recovery := nextRecovery x (s.get lp .RECOVERY_STEPS), recoverNext := false }
  let s := (s.latchGroups q step).retryNoise q
  if s.retainFull q step then (s.holdBeds beds 1).raise (pgUnit (4 * s.partFirst q)) 6 else s

/-! ### Switches (R151, R153, R160, R163 actions 4 and 5) -/

/-- The fields that the pairs of section 0x09 may set: the armature-owned ones and the selectors that name their slot or layer (R107). -/
def ownedFields : List Fld :=
  [.WATCH_SEL, .WATCH_LAYER, .NORM_EN, .TRIP_EN, .RETRY_STEPS, .SAT_RATE_LOG2, .ALPHA_LOG2, .ESC_OVF_MAX, .NORM_FACTOR,
   .WARMUP_STEPS, .RECOVERY_STEPS, .LAYER_SEL, .LAYER_ST, .LAYER_MODE]

/-- The element of a register that a selector on its page shows (R107). -/
def State.ownedIndex (s : State) (p : Page) (f : Fld) : Nat :=
  match f with
  | .WATCH_LAYER | .NORM_EN | .TRIP_EN => s.get p .WATCH_SEL
  | .LAYER_ST | .LAYER_MODE => s.get p .LAYER_SEL
  | _ => 0

/-- A value written to an armature-owned field at the tick that begins a step; a layer's state moves with its switch step, and the change is one at a boundary (R101, R107). -/
def State.putOwned (s : State) (p : Page) (f : Fld) (v step : Nat) : State :=
  let k := s.ownedIndex p f
  if f = .LAYER_ST then
    let t := s.moveState p k v step
    if s.get p .LAYER_ST k = v then t else t.noteMove (s.partOf p.inst) k step
  else s.put p f v k

/-- One pair of section 0x09 written to a page that a test takes, the fields of the present state left out or not. -/
def State.writeOwned (s : State) (mine : Page → Bool) (states : Bool) (step off v : Nat) : State :=
  match s.pageAt off with
  | none => s
  | some (p, o) =>
    if mine p then
      ownedFields.foldl (fun s f =>
        let i := fieldInfo f
        if i.page = some p.kind && i.off = o && (states || f != .LAYER_ST) then s.putOwned p f (bits v i.lo i.width) step else s) s
    else s

/-- The pages that a bed writes from its armature's section 0x09 at its switch: its own quantiser page, and with its armature's lowest bed those that no bed of the armature owns (R36, R107, R163). -/
def State.ownsPage (s : State) (b : Nat) (f : File) (p : Page) : Bool :=
  (p.kind == .quantiser || p.kind == .layerPrecision) && s.partOf p.inst == s.partOf b &&
    (if p.kind == .quantiser && (armBeds f).contains p.inst then p.inst == b else (armBeds f).head? == some b)

/-- The pairs of an armature's section 0x09 in file order, written at a bed's switch to a step; a membership switch leaves the layers' states as they are (R103, log 87). -/
def State.writeAllOwned (s : State) (b : Nat) (f : File) (states : Bool) (step : Nat) : State :=
  (List.range (secOf f 0x09).count).foldl (fun s k =>
    s.writeOwned (s.ownsPage b f) states step (inSec f 0x09 (8 * k) 4) (inSec f 0x09 (8 * k + 4) 4)) s

/-- The group table and the mask take their initial contents from section 0x08 (R197, R198). -/
def State.loadGroups (s : State) (q : Nat) (f : File) : State :=
  if !hasSec f 0x08 then s
  else
    let p := pgUnit (4 * s.partFirst q)
    let s := s.resetFields p [.GROUP_WORD, .DECAY_EXCL]
    let s := (List.range 2048).foldl (fun s k =>
      let v := inSec f 0x08 (updGroupOff f + 4 * k) 4
      if v = 0 then s else s.put p .GROUP_WORD v k) s
    (List.range 8).foldl (fun s w => s.put p .DECAY_EXCL (inSec f 0x08 (updGroupOff f + 8192 + 4 * w) 4) w) s

/-- The counters zeroed at a switch tick at which an armature becomes active on a bed (R132, R167, R218, R264, R281). -/
def State.zeroCounters (s : State) (b : Nat) : State :=
  let q := s.partOf b
  let s := s.resetFields (pgBed b) [.OVERRUN_CNT, .REALIGN_CNT, .SKIP_CNT]
  let s := { s with regs := s.regs.delIf fun k => k.page.kind == .coreSub2 && k.page.inst / 384 == b }
  let s := [0, 1, 2, 3].foldl (fun s k =>
    s.resetFields (pgUnit (4 * b + k)) [.HELD_REC, .STALE_BLK, .SAT_STORE, .ROLLED_BLK, .MIRROR_KIB, .WARD_REJECTED]) s
  let s := [2 * b, 2 * b + 1].foldl (fun s p =>
    s.resetFields (pgRed p) [.RX_PARTS, .LATE, .POISON_DROP, .POISON_FWD, .STORE_FULL, .BAD_PKT]) s
  if s.partFirst q = b then
    let s := s.resetFields (s.redPage q) [.SKIPPED, .ROOT_PARTS, .BACKUP_CERTS, .VOTE_FAIL]
    ((s.put (pgLink 0) .NOISED_PARTS 0 q).put (pgLink 0) .NOISE_SAT 0 q).put (pgLink 0) .NOISE_FAIL 0 q
  else s

/-- The noise generator instantiated (R270): a fresh instantiation, or stopped with a failed attempt's record where the entropy source failed (R271, R390). -/
def State.seedNoise (s : State) (q : Nat) : State :=
  let s := s.put (pgLink 0) .RESEED_CNT 0 q
  if s.sec.sourceFailed then
    ((s.setNoise q { s.noiseOf q with inst := none }).put (pgLink 0) .DRBG_READY 0 q).reseedFail q
  else
    let d := s.draw
    ((d.2.setNoise q { d.2.noiseOf q with inst := some d.1, draws := 0, requests := 0, stopped := false }).put
      (pgLink 0) .DRBG_READY 1 q).put (pgLink 0) .PRIV_ES_FAIL 0 q

/-- FRAME_CFG from the active header; a new FRAME_US gives a new origin, this tick (R135, R167). -/
def State.setHeader (s : State) (b n : Nat) (f : File) : State :=
  let p := pgBed b
  let s := if (s.bed b).us = armFrameUs f then s
    else ((s.put p .ORIGIN_TIME (s.tickTime b n)).put p .ORIGIN_FRAME n).setBed b { s.bed b with us := armFrameUs f }
  ((s.put p .FRAME_US (armFrameUs f)).put p .FRAME_LOCKED (b2n (armLocked f))).put p .FRAMES_PER_STEP (armFps f)

/-- An armature becomes active on a bed at the tick that begins frame n, with the step's counters (R153, R160): SWITCH_DONE. A bed that this tick's overrun paused stays paused, so that its frame is skipped and it realigns (R155). -/
def State.switchBed (s : State) (b slot step epoch n : Nat) : State :=
  let q := s.partOf b
  let f := s.fileOf q slot
  let x := s.bed b
  let s := s.setBed b { x with
    active := some slot, anchor := s.anchorOf q slot, stopping := false,
    slackRun := none, nfFirst := none, nfCores := [], trapped := false }
  let s := s.setCores { s.cores with
    watch := s.cores.watch.delIf (fun k => k.1 == b), normPart := s.cores.normPart.delIf (fun k => k.1 == b) }
  let s := ((s.copyLists b slot).setHeader b n f).showArm b
  let s := s.zeroCounters b
  let p := pgBed b
  let s := ((s.put p .STEP_CNT step).put p .EPOCH_CNT epoch).put p .FRAME_IN_STEP 0
  let s := (s.setSeq b (if x.skipping then seqPaused else seqRunning)).openStep b
  let s := [0, 1, 2, 3].foldl (fun s k => s.put (pgUnit (4 * b + k)) .EXACT (b2n (updExact f))) s
  s.raise p 3

/-- Once-per-step marks of device-wide causes are those of the job of the lowest-numbered running bed, and a job that begins on it or below it begins them anew (R133, R390). -/
def State.newJob (s : State) (q : Nat) : State :=
  if (s.lowestRunning.map fun b => decide (s.partFirst q ≤ b)).getD true then { s with once := s.once.filter fun k => k.1 != 0x0142 } else s

/-- Tensor scales of a job that begins: T is the descriptor's value again (R105). -/
def State.dropScales (s : State) (j : Nat) : State :=
  s.setCores { s.cores with tscale := s.cores.tscale.delIf (fun k => k.1 == j), amax := s.cores.amax.delIf fun k => k.1 == j }

/-- What a partition's own part does when an armature becomes active: membership, group table, time reference; job tells that the switch came from IDLE or HELD, so that a job begins (R99, R104). -/
def State.switchPart (s : State) (q slot step : Nat) (job : Bool) : State :=
  let f := s.fileOf q slot
  let x := s.part q
  let s := s.setPart q { x with
    member := decide (1 < armGroup f),
    lost := x.lost.filter fun d => x.changes.any fun c => c.lost.contains d,
    trips := if job then [] else x.trips, tripped := if job then [] else x.tripped,
    moved := if job then [] else x.moved,
    jobSteps := if job then 0 else x.jobSteps, recovery := if job then 0 else x.recovery,
    committed := if job then none else x.committed }
  let s := if job then (s.forgetUpdates q).dropScales q else s
  let s := (if job then (s.newJob q).seedNoise q else s).setTimeRef q
  (s.loadGroups q f).latchGroups q step

/-- A planned activation at its tick (R152, R153): switched, or refused where the group did not certify it. -/
def State.activateAt (s : State) (b n : Nat) : State :=
  match (s.bed b).pend with
  | none => s
  | some a =>
    if a.startFrame ≠ n then s
    else
      let q := s.partOf b
      let f := s.fileOf q a.slot
      if 1 < armGroup f && !a.voted then (s.refuseSwitch b).record 0x0424 (pgBed b)
      else
        let lead := s.leadBed q == b
        let s := (s.setBed b { s.bed b with pend := none }).put (pgBed b) .SWITCH_PENDING 0
        let s := if a.running then s else s.dropScales (8 + b)
        let s := if lead then s.switchPart q a.slot a.startStep (!a.running) else s
        (s.switchBed b a.slot a.startStep a.startEpoch n).writeAllOwned b f true a.startStep

/-- The entry of the variant table for a MEMBER_HASH: ARM_ID and KIND (R160). -/
def variantOf (f : File) (hash : Nat) : Option (Nat × Nat) :=
  ((List.range (secOf f 0x0A).count).find? fun k => inSec f 0x0A (16 * k) 8 == hash).map fun k =>
    (inSec f 0x0A (16 * k + 8) 4, inSec f 0x0A (16 * k + 12) 1)

/-- The certified changes of a partition that take effect at the boundary that begins a step at frame n (R160). -/
def State.dueChanges (s : State) (q n step : Nat) : List Change :=
  (s.part q).changes.filter fun c => decide (c.notBefore ≤ n) && match c.step with
    | none => true
    | some t => decide ((step + 2 ^ 32 - t) % 2 ^ 32 < 2 ^ 31)

/-- The member lists that the planned changes among some changes name. -/
def State.planned (s : State) (q : Nat) (cs : List Change) : List (List Nat) :=
  cs.filterMap fun c => c.graft.map fun h => memberList (s.fileOfHash q h)

/-- The membership after the due changes (R160): the old one plus the devices that a plan adds, minus the pruned and the lost ones. -/
def State.newMembers (s : State) (q : Nat) (cs : List Change) : List Nat :=
  let old := s.memberIds (s.partArm q)
  let plans := s.planned q cs
  (plans.foldl unionIds old).filter fun d =>
    (!old.contains d || plans.all fun l => l.contains d) && !cs.any fun c => c.lost.contains d

/-- The slot and KIND of the variant for a membership; a single survivor's armature has MEMBER_HASH 0 (R140, R160). A variant that is not loaded is none. -/
def State.variantSlot (s : State) (q : Nat) (ids : List Nat) : Option (Nat × Nat) :=
  let f := s.partArm q
  match (variantOf f (memberHash ids)).orElse fun _ => if ids.length = 1 then variantOf f 0 else none with
  | none => none
  | some (id, kind) => (s.slotOfId q id).map fun k => (k, kind)

/-- The epoch boundary of a partition (R160, R161): EPOCH + 1 and the variant's armature; without one, or for a pruned device, HELD. -/
def State.epochBoundary (s : State) (q n step : Nat) : State :=
  match s.dueChanges q n step with
  | [] => s
  | cs =>
    let beds := (s.partBeds q).filter fun b => s.runsArm b
    let ids := s.newMembers q cs
    let v := s.variantSlot q ids
    let epoch := (s.get (pgBed (s.leadBed q)) .EPOCH_CNT + 1) % 65536
    let s := s.setPart q { s.part q with changes := (s.part q).changes.filter fun c => !cs.contains c }
    let s := beds.foldl (fun s b => s.put (pgBed b) .EPOCH_CNT epoch) s
    if !ids.contains s.myId then (s.holdBeds beds 1).setPart q { (s.holdBeds beds 1).part q with member := false }
    else match v with
      | none => (s.holdBeds beds 1).raise (pgBed (s.leadBed q)) 2
      | some (slot, kind) =>
        let s := s.switchPart q slot step false
        let s := if kind = 3 then s else s.setPart q { s.part q with recovery := s.get (pgLayer (s.partFirst q)) .RECOVERY_STEPS }
        beds.foldl (fun s b => (s.switchBed b slot step epoch n).writeAllOwned b (s.fileOf q slot) false step) s

/-- The certified plan by which a quiet partition joins a group at the tick that begins frame n, in Run or Floor (R242, R304): the change, MEMBER_HASH and step, and the slot of the armature. -/
def State.joinDue (s : State) (q n : Nat) : Option (Change × Nat × Nat × Nat) :=
  if !s.inRun || s.pw.transition.isSome || !s.joins q || (s.partBeds q).any (fun b => !s.bedQuiet b) then none
  else (s.part q).changes.findSome? fun c => match c.graft, c.step with
    | some h, some step =>
      if c.notBefore ≤ n && (Config.graftFrame h step).toNat == n then (s.slotOfHash q h).map fun k => (c, h, step, k) else none
    | _, _ => none

/-- A layer's state from the graft state of a joiner (R103, R242). -/
def State.graftLayer (s : State) (lp : Page) (h step l : Nat) : State :=
  let w := (Config.graftLayer h step l).toNat
  ((((s.put lp .LAYER_ST (w % 3) l).put lp .LAYER_MODE (bits w 2 2 % 2) l).put lp .LAYER_SHIFT (bits w 4 3 % 5) l).put
    lp .BY_RETRY (bits w 7 1) l).put lp .STEPS_IN_STATE (bits w 16 16) l

/-- A joiner's graft at B's first tick (R242): the group's STEP, EPOCH and layer states from its graft state. Losses of the group that it left before do not concern the new membership (R306). Its job has had at least a step and no warm-up steps are left to it (R104, log 24). -/
def State.joinGraft (s : State) (q n : Nat) : State :=
  match s.joinDue q n with
  | none => s
  | some (c, h, step, slot) =>
    let f := s.fileOf q slot
    let epoch := (Config.graftEpoch h step).toNat
    let lp := pgLayer (s.partFirst q)
    let beds := (armBeds f).filter fun b => s.partOf b == q
    let s := beds.foldl (fun s b => s.switchBed b slot step epoch n) (s.switchPart q slot step true)
    let s := beds.foldl (fun s b => s.writeAllOwned b f false step) s
    let s := (List.range 1024).foldl (fun s l => s.graftLayer lp h step l) s
    let s := s.setPart q { s.part q with
      lost := [], changes := (s.part q).changes.filter (fun x => x != c && x.graft.isSome), regrowing := false, jobSteps := max 1 (s.get lp .WARMUP_STEPS),
      recovery := s.get lp .RECOVERY_STEPS }
    s.setFab { s.fab with rejoin := setMark s.fab.rejoin q false }

/-! ### The new frame (R163 action 7) -/

/-- The bridge's budgets of the frame from section 0x05, and what was metered forgotten (R180, R182). -/
def State.newBudgets (s : State) (b : Nat) : State :=
  let s := s.setMem { s.mem with used := s.mem.used.delIf (fun k => k.1 == b), farUsed := s.mem.farUsed.del b }
  let f := s.armOf b
  if !s.runsArm b || !hasSec f 0x05 then s
  else
    let w := budgetWord f b (s.frameIn b)
    let p := pgReg b
    let s := [0, 1, 2].foldl (fun s c => s.put p .BUDGET_C (w c) c) s
    (s.put p .FAR_BUDGET (w 3)).put p .UPDATE_FRAME (w 4 % 2)

/-- The new frame at a regulator: its budgets, and the overdraw still waiting (R182). -/
def State.openBudgets (s : State) (b : Nat) : State := (s.newBudgets b).clipWaiting b

/-- The frame opens on a bed: engines at the first entry, a paused bed's forward and backward entries skipped (R155). -/
def State.openBed (s : State) (b : Nat) : State :=
  let s := (s.openFrame b).openBudgets b
  if s.seq b = seqPaused then s.skipFrame b else s

/-- Lines of the device sent to another device as DATA of class 2, to the addresses that a function gives; a poisoned line goes poisoned (R217, R233). -/
def State.streamLines (s : State) (q dest a len : Nat) (place : Nat → Nat) : State :=
  (List.range (len / 64)).foldl (fun s j =>
    let r := s.readSpan (engineReq (bedOf (s.partFirst q)) 2 0 0 (a + 64 * j)) 64
    r.1.send q dest 2 tyData (tfWith [(28, leBytes 8 (place j))]) r.2.1 (!r.2.2.isEmpty)) s

/-- The newest valid ward slot of a partition: 0 A, 1 B (R216, R217). -/
def State.newestWard (s : State) (q : Nat) : Option Nat :=
  let p := pgUnit (4 * s.partFirst q)
  let d := (s.get p .WARD_STEP_A + 2 ^ 32 - s.get p .WARD_STEP_B) % 2 ^ 32
  if s.flag p .WARD_A_VALID && (!s.flag p .WARD_B_VALID || decide (d < 2 ^ 31)) then some 0
  else if s.flag p .WARD_B_VALID then some 1 else none

/-- As a partner, the partition streams its newest valid slot into the ward's state when it is asked (R217, log 70). -/
def State.streamWard (s : State) (q n : Nat) : State :=
  let f := s.partArm q
  match s.newestWard q with
  | none => s
  | some k =>
    if hasSec f 0x08 && Config.wardAsks q n then
      s.streamLines q (cutWard f) (wardBase f + k * cutSlotBytes f) (cutSlotBytes f) (Config.wardLine (cutWard f))
    else s

/-- The committed steps after a cutting's step that the retention ring still holds, oldest first. -/
def sourceSteps (c last retain : Nat) : List Nat :=
  ((List.range (min retain ((last + 2 ^ 32 - c) % 2 ^ 32))).map fun i => (last + 2 ^ 32 - i) % 2 ^ 32).reverse

/-- One step's retention slots and ratio-ring entries streamed to a device of the same layout (R217). -/
def State.streamStep (s : State) (q : Nat) (f : File) (dest step : Nat) : State :=
  let s := ((buckets f).map (·.2.grad)).eraseDups.foldl (fun s g =>
    let d := descAt f g
    let a := retainBase f d step
    s.streamLines q dest a (16448 * d.tiles) fun j => a + 64 * j) s
  let a := ratioRing f + 8192 * (step % retainSteps f)
  s.streamLines q dest a 8192 fun j => a + 64 * j

/-- As a source, the partition streams the steps after the cutting's, as they are committed on the group (R217, log 70). -/
def State.streamSource (s : State) (q n : Nat) : State :=
  let f := s.partArm q
  match (s.part q).committed with
  | none => s
  | some last =>
    if !hasSec f 0x08 then s
    else match Config.sourceAsk q n with
      | none => s
      | some (dest, c) => (sourceSteps c last (retainSteps f)).foldl (fun s t => s.streamStep q f dest t) s

/-- What a partition does at its lead bed's tick once the frame is open: buckets at a step's first tick, votes, the time request, the streams of a regrow; anew tells that exponents start anew. -/
def State.openPart (s : State) (q n : Nat) (anew grafted : Bool) : State :=
  let b := s.leadBed q
  let s := if s.runsArm b && s.frameIn b = 0 then
      s.openBuckets q (s.get (pgBed b) .STEP_CNT) n (s.get (pgBed b) .EPOCH_CNT) anew grafted
    else s
  (((s.openVotes q n).askTime q).streamWard q n).streamSource q n

/-! ### One tick (R163) -/

/-- The beds that tick together with a bed: every due bed of its partition when the partition's armature is locked, which share one origin (R136), else the bed alone. -/
def State.tickBeds (s : State) (b : Nat) : List Nat :=
  let q := s.partOf b
  if armLocked (s.partArm q) || armLocked (s.armPending (s.leadBed q)) then
    (s.partBeds q).filter fun x => s.tickDue x && s.nextFrame x == s.nextFrame b
  else [b]

/-- Actions 1 and 2 of one bed: the frame closes, the tick counts, staging takes effect; and at a step boundary the totals of action 3 (R97). -/
def State.closeBed (s : State) (b n : Nat) (boundary : Bool) : State :=
  let s := if s.runsArm b then s.closeRun b else s
  let s := s.setBed b { s.bed b with started := true }
  let s := (((s.put (pgBed b) .FRAME_NUMBER n).coarseSnap b).endStops b).tickPages b
  if boundary && s.runsArm b then s.watchSnap b (s.get (pgBed b) .STEP_CNT) else s

/-- The rest of action 3 of one bed; without a step boundary the next frame of the step. -/
def State.countStep (s : State) (b : Nat) (boundary : Bool) : State :=
  if boundary && s.runsArm b then s.bedBoundary b
  else if s.runsArm b then s.put (pgBed b) .FRAME_IN_STEP (s.frameIn b + 1)
  else s

/-- The tick that begins frame n begins a job at this device: an activation from IDLE or HELD, or its own graft (R247). -/
def State.anewAt (s : State) (q n : Nat) : Bool :=
  (match (s.bed (s.leadBed q)).pend with
    | some a => !a.running && a.startFrame == n
    | none => false) || (s.joinDue q n).isSome

/-- Another device joins by graft at the boundary that begins frame n (R247): a due plan adds a device. -/
def State.graftsAt (s : State) (q n : Nat) : Bool :=
  let cs := s.dueChanges q n (nextStep (s.get (pgBed (s.leadBed q)) .STEP_CNT))
  (s.planned q cs).any fun l => l.any fun d => !(s.memberIds (s.partArm q)).contains d

/-- Actions 3 to 5 of the partition whose lead bed ticks; boundary tells that the tick is its step boundary. -/
def State.tickPart (s : State) (q n : Nat) (boundary : Bool) : State :=
  let b := s.leadBed q
  let step := s.get (pgBed b) .STEP_CNT
  let s := if boundary && s.runsArm b then s.partBoundary q step else s
  if boundary && s.runsArm b then s.epochBoundary q n step
  else s.joinGraft q n

/-- One tick of a bed and of those that tick with it (R163). -/
def State.tick (s : State) (b : Nat) : State :=
  let q := s.partOf b
  let n := s.nextFrame b
  let beds := s.tickBeds b
  let lead := beds.contains (s.leadBed q)
  let first := match s.lowestRunning with
    | some x => beds.contains x
    | none => false
  let edge := s.atBoundary (s.leadBed q)
  let t := beds.foldl (fun t x => t.closeBed x n (s.atBoundary x)) s
  let t := if lead && edge && t.runsArm (t.leadBed q) then t.partWatch q else t
  let t := beds.foldl (fun t x => t.countStep x (s.atBoundary x)) t
  let t := if lead then t.actVotes q n else t
  let anew := t.anewAt q n
  let grafted := edge && s.graftsAt q n
  let t := if lead then t.tickPart q n edge else t
  let t := beds.foldl (fun t x => t.activateAt x n) t
  let t := if first || (t.flag pgPower .MODE_NOW && !t.freeOk) then t.sampleWatts.clockTick.trimTick else t
  let t := (beds.foldl (fun t x => t.openBed x) t).applyTopo
  if lead then t.openPart q n anew grafted else t

/-- A tick that also meets a condition; otherwise nothing happens (log 2). -/
def State.tickIf (s : State) (b : Nat) (on : Bool) : State := if s.tickDue b && on then s.tick b else s

/-- FRAME_TICK (R134, R163): the bed's tick. Not due, nothing happens (log 2). -/
def execFrameTick (bed : Bed) (s : State) : Host.Outcome State Fault Refusal := .next (s.tickIf bed.val true)

/-- STEP_BOUNDARY (R134): the bed's tick, when it ends the step's last frame. -/
def execStepBoundary (bed : Bed) (s : State) : Host.Outcome State Fault Refusal := .next (s.tickIf bed.val (s.atBoundary bed.val))

/-- The tick of a partition's lead bed, when it also meets a condition. -/
def State.leadTick (s : State) (q : Nat) (on : Nat → Bool) : State := s.tickIf (s.leadBed q) (on (s.leadBed q))

/-- VOTE_DEADLINE (R261): the tick ending frame v + 1 of a vote of the code, at which the member acts on its certificate. Not due, nothing happens (log 2). -/
def execVoteDeadline (part : Bed) (code : Nat) (s : State) : Host.Outcome State Fault Refusal :=
  .next (s.leadTick part.val fun b => !(s.voteDue part.val code (s.nextFrame b)).isEmpty)

/-- A layer's event is due at the step boundary that is due: STEPS_IN_STATE with the step just completed counted meets it (R102). -/
def State.layerDue (s : State) (q layer b : Nat) (on : Page → Nat → Bool) : Bool :=
  let lp := pgLayer (s.partFirst q)
  s.atBoundary b && decide (layer < 1024) && on lp (satAdd 16 (s.get lp .STEPS_IN_STATE layer) 1)

/-- PRECISION_RETRY (R102): the step boundary at which a layer's retry is due; a trip that applies there wins. Not due, nothing happens (log 2). -/
def execPrecisionRetry (part : Bed) (layer : Nat) (s : State) : Host.Outcome State Fault Refusal :=
  .next (s.leadTick part.val fun b => s.layerDue part.val layer b fun lp n => s.retryDue lp layer n)

/-- PRECISION_SHIFT_RESET (R102): the step boundary at which a layer in F4 has completed 4 × RETRY_STEPS steps. Not due, nothing happens (log 2). -/
def execPrecisionShiftReset (part : Bed) (layer : Nat) (s : State) : Host.Outcome State Fault Refusal :=
  .next (s.leadTick part.val fun b => s.layerDue part.val layer b fun lp n =>
    s.get lp .LAYER_ST layer == 0 && n == 4 * s.retrySteps lp)

/-- CHANGE_FORCED (R311): the tick of the lowest running bed at which a clock change is deferred for the eighth time. -/
def execChangeForced (bed : Bed) (s : State) : Host.Outcome State Fault Refusal :=
  .next (s.tickIf bed.val (s.forceDue && s.lowestRunning == some bed.val))

/-! ### Traps and timeouts (R132, R351) -/

/-- NF_TRAP (R132): the bed's first capture of the step traps to its sequencer once; no engine is stopped, delayed or altered. Without NF_TRAP_EN or a capture nothing happens (log 2). -/
def execNfTrap (bed : Bed) (s : State) : Host.Outcome State Fault Refusal :=
  let x := s.bed bed.val
  if s.flag (pgBed bed.val) .NF_TRAP_EN && x.nfFirst.isSome && !x.trapped then .next (s.setBed bed.val { x with trapped := true })
  else .next s

/-- CONTEXT_STALL_TIMEOUT (R124, R351): a context whose STALL_FRAMES reached 2 is reset. -/
def execContextStallTimeout (bed : Bed) (core : Core) (ctx : Ctx) (s : State) : Host.Outcome State Fault Refusal :=
  if 2 ≤ s.get (pgCore .coreSub3 (coreNo bed.val core.val)) .STALL_FRAMES ctx.val then
    .next (s.ctxReset bed.val core.val ctx.val 0x0510)
  else .next s

/-- SEQUENCER_ACK_TIMEOUT (R351): the sequencer restarts with its lists, and the bed realigns at its next tick: until then its forward and backward entries are skipped as in a paused frame (R155). -/
def execSequencerAckTimeout (bed : Bed) (s : State) : Host.Outcome State Fault Refusal :=
  let b := bed.val
  if s.runsArm b then
    let s := s.record 0x0410 (pgBed b)
    let s := (s.skipFrame b).setSeq b seqPaused
    .next (s.setBed b { s.bed b with skipping := true, heldUpdates := true, restarted := true })
  else .next s

end Sys2Proof.Machine
end

