-- ==== Sys2Proof/Machine/UpdateRule.lean ====
section
/-! DEFINITION. The update rule (R193 to R197, R203 to R206, R209 to R211, R214): record blocks, parameter groups, one step of a block, the FP64 norms, the working copy's element flags. -/

namespace Sys2Proof.Machine

/-! ### FP64 -/

/-- The value of an FP64 code that is finite. -/
def val64 (c : Nat) : Q := (fp64.dec c).val

/-- a + x², the square and the sum each rounded to nearest even (R203). -/
def addSquare (a : Nat) (x : Num) : Nat := fp64.rne (Q.add (val64 a) (val64 (fp64.rne (Q.mul x.val x.val))))

/-- The sum of two FP64 codes. -/
def add64 (a b : Nat) : Nat := fp64.rne (Q.add (val64 a) (val64 b))

/-- RNE_FP32(sqrt(a ÷ b)), the quotient and the root in FP64 (R203). -/
def ratio64 (a b : Nat) : Nat := fp32.rne (val64 (fp64.sqrtQ (val64 (fp64.rne (Q.div (val64 a) (val64 b))))))

/-- 1.0 in FP32. -/
def oneF : Nat := 0x3F800000

/-- R from W2 and U2: 1.0 when either is 0 (R203). -/
def rawRatio (w2 u2 : Nat) : Nat := if (val64 w2).isZero || (val64 u2).isZero then oneF else ratio64 w2 u2

/-- pow_fp64 of R204, t above 0: exact where the power is an FP64 number, as that of 0 is for every t and another's only up to t = 1,074; else open (log 10). -/
def powFp64 (beta t : Nat) : Q :=
  let b := (fp32.dec beta).val
  let x : Q := ⟨b.num ^ t, b.den ^ t⟩
  let y := (fp64.dec (fp64.rne x)).val
  if b.isZero then ⟨0, 1⟩
  else if t ≤ 1074 && Q.le x y && Q.le y x then y else val64 (Config.powFp64 (BitVec.ofNat 32 beta) t).toNat

/-! ### Parameter groups (R197, R198) -/

/-- An entry of the parameter-group table, FP32 codes; excl is its DECAY_EXCL bit, clean tells that its reserved bits are 0. -/
structure Group where
  lr : Nat
  beta1 : Nat
  beta2 : Nat
  eps : Nat
  decay : Nat
  trustMax : Nat
  valid : Bool
  biasCorr : Bool
  frozen : Bool
  clean : Bool
  excl : Bool
  deriving DecidableEq, Repr

/-- Entry g of a table of words. -/
def groupAt (words : Tab Nat Nat) (excl : List Nat) (g : Nat) : Group :=
  let w := fun (k : Nat) => words.get (8 * g + k) 0
  { lr := w 0, beta1 := w 1, beta2 := w 2, eps := w 3, decay := w 4,
    trustMax := w 5, valid := bitAt (w 6) 0, biasCorr := bitAt (w 6) 1, frozen := bitAt (w 6) 2, clean := decide (w 6 < 8) && w 7 == 0, excl := bitAt (excl.getD (g / 32) 0) (g % 32) }

/-- λ: 0 under DECAY_EXCL (R204). -/
def Group.lam (g : Group) : Nat := if g.excl then 0 else g.decay

/-- Finite and at least 0. -/
def nonNeg (c : Nat) : Bool := finiteF c && !(valF c).isNeg

/-- VALID, and every constraint of R197 holds; the reserved bits of an entry are 0, of one that the host wrote too (R4, log 94). -/
def groupOk (g : Group) : Bool :=
  let unit := fun (c : Nat) => nonNeg c && Q.lt (valF c) ⟨1, 1⟩
  g.valid && g.clean && nonNeg g.lr && unit g.beta1 && unit g.beta2 && nonNeg g.eps && !(valF g.eps).isZero && nonNeg g.decay &&
    nonNeg g.trustMax

/-! ### Records and blocks (R193, R194) -/

/-- A record as a step works on it: W, M, V codes; its byte 7 as read; whether its line is poisoned; HELD, NF and SAT of the step; W before the step; u if the step updated it; the moments to store. -/
structure Rec where
  w : Nat
  m : Nat
  v : Nat
  b7 : Nat
  bad : Bool
  held : Bool
  nf : Bool
  sat : Bool
  before : Nat
  u : Option Nat
  mom : Option (Q × Q)
  deriving DecidableEq, Repr

/-- A record from its eight bytes (R193). -/
def recOf (bs : List Byte) (bad : Bool) : Rec :=
  let w := fieldAt bs 0 5
  ⟨w, fieldAt bs 5 1, fieldAt bs 6 1, fieldAt bs 7 1, bad, false, false, false, w, none, none⟩

/-- A record-block header (R194). -/
structure Hdr where
  mScale : Nat
  vScale : Nat
  group : Nat
  hflags : Nat
  stamp : Nat
  records : Nat
  deriving DecidableEq, Repr

/-- The header in 16 bytes. -/
def hdrOf (bs : List Byte) : Hdr :=
  ⟨fieldAt bs 0 1, fieldAt bs 1 1, fieldAt bs 2 1, fieldAt bs 3 1, fieldAt bs 4 4, fieldAt bs 8 2⟩

/-- The eight bytes of a header that the unit writes; bytes 8 to 15 stay. -/
def hdrBytes (h : Hdr) : List Byte :=
  leBytes 1 h.mScale ++ leBytes 1 h.vScale ++ leBytes 1 h.group ++ leBytes 1 h.hflags ++ leBytes 4 h.stamp

/-- What one step of an entry works with: STEP, T0, the hash's seed and tensor, GRAD_FIRST, the latched group of an index, R, SKIP_STEP, and g by record (none: its line is poisoned). -/
structure StepCtx where
  step : Nat
  t0 : Nat
  seed : Nat
  tensor : Nat
  first : Nat
  group : Nat → Group
  ratio : Nat
  skip : Bool
  grad : Nat → Option Nat

/-- The constants of update_block (R204). -/
structure Consts where
  c1 : Nat
  c2 : Nat
  ob1 : Nat
  ob2 : Nat
  d : Nat
  deriving DecidableEq, Repr

/-- min(TRUST_MAX, R), 1.0 when the trust ratio is disabled. -/
def trust (g : Group) (r : Nat) : Nat :=
  if (valF g.trustMax).isZero then oneF else if ltF g.trustMax r then g.trustMax else r

/-- The constants for a group at a step. -/
def constsOf (g : Group) (step t0 r : Nat) : Consts :=
  let t := (step + 2 ^ 32 - t0 % 2 ^ 32) % 2 ^ 32 + 1
  let c := fun (b : Nat) => if g.biasCorr then fp32.rne (Q.sub ⟨1, 1⟩ (powFp64 b t)) else oneF
  ⟨c g.beta1, c g.beta2, subF oneF g.beta1, subF oneF g.beta2, mulF g.lr (trust g r)⟩

/-- m and v of a record as numbers; none where a code or a scale is non-finite (R196). -/
def moments (h : Hdr) (r : Rec) : Option (Q × Q) :=
  let sc := fun (x : Nat) => ue5m3 (if scaleReserved x then 0x08 else x)
  if h.mScale = 0xFF || h.vScale = 0xFF || r.v = 0xFF || r.m % 128 = 0x7F then none
  else some (Q.mul (e4m3Dec r.m).val (sc h.mScale), Q.mul (if scaleReserved r.v then ⟨0, 1⟩ else ue5m3 r.v) (sc h.vScale))

/-- The reserved codes that a step reads in a block: its scales and its records' V (R196). -/
def reservedCodes (h : Hdr) (rs : List Rec) : Nat :=
  ([h.mScale, h.vScale] ++ (rs.filter fun r => !r.bad).map (·.v)).countP scaleReserved

/-- The random bits of a record in a domain (R74, R204). -/
def StepCtx.rnd (c : StepCtx) (n domain : Nat) : Nat := srBits (srHash c.seed c.step c.tensor (srIndex (c.first + n) domain 0))

/-- W − d × u stored in W40 with stochastic rounding; an infinite d gives the infinity or NaN of the difference. -/
def storeW (w d u rnd : Nat) : Nat :=
  match mulNum (fp32.dec d) (fp32.dec u) with
  | .nan => w40.nan
  | .inf n => w40.infCode + (if n then 0 else w40.signBit)
  | .fin n m => w40.sr (Q.sub (w40.dec w).val (Num.fin n m).val) rnd

/-- m2, v2 and u of a record from g (R204). -/
def momentStep (g : Group) (k : Consts) (w : Nat) (mv : Q × Q) (x : Nat) : Nat × Nat × Nat :=
  let m2 := fmaF g.beta1 (fp32.rne mv.1) (mulF k.ob1 x)
  let v2 := fmaF g.beta2 (fp32.rne mv.2) (mulF k.ob2 (mulF x x))
  let u := divF (divF m2 k.c1) (addF (sqrtF (divF v2 k.c2)) g.eps)
  (m2, v2, fmaF g.lam (fp32.ofNum (w40.dec w)) u)

/-- One record of a block whose group is in force (R196, R204, R210): updated, or held; one with a special code is held with NF whatever its gradient, and so is one whose new W would be a NaN, which no state record takes (R63, log 94). -/
def stepRec (c : StepCtx) (g : Group) (k : Consts) (h : Hdr) (n : Nat) (r : Rec) : Rec :=
  if r.bad then r
  else
    let old := moments h r
    let ok := old.isSome && !(w40.dec r.w).isSpecial
    match c.grad n with
    | none => { r with held := true, nf := !ok, mom := old }
    | some x =>
      let z := momentStep g k r.w (old.getD (⟨0, 1⟩, ⟨0, 1⟩)) x
      let w := storeW r.w k.d z.2.2 (c.rnd n 4)
      if ok && [x, z.1, z.2.1, z.2.2].all finiteF && w != w40.nan then
        { r with w := w, u := some z.2.2, mom := some (valF z.1, valF z.2.1) }
      else { r with held := true, nf := true, mom := old }

/-- The largest of a list of magnitudes. -/
def maxQ (l : List Q) : Q := l.foldl (fun m x => if Q.lt m x.abs then x.abs else m) ⟨0, 1⟩

/-- A record's moments stored under new scales (R204, R205); a poisoned line's records and non-finite moments stay. -/
def storeMoments (c : StepCtx) (ms vs n : Nat) (r : Rec) : Rec :=
  match r.mom with
  | none => r
  | some (m, v) =>
    let a := e4m3Sr (Q.div m (ue5m3 ms)) (c.rnd n 5)
    let b := ue5m3Sr (Q.div v (ue5m3 vs)) (c.rnd n 6)
    { r with m := a.1, v := b.1, sat := a.2 || b.2 }

/-- Records numbered from n0. -/
def mapRecs (n0 : Nat) (f : Nat → Rec → Rec) (rs : List Rec) : List Rec :=
  ((List.range rs.length).zip rs).map fun e => f (n0 + e.1) e.2

/-- A step of a block (R204, R210): its header and records, and whether its group is in force. -/
def stepBlock (c : StepCtx) (h : Hdr) (n0 : Nat) (rs : List Rec) : Hdr × List Rec × Bool :=
  let g := c.group h.group
  let rs := rs.map fun r => { r with held := false, nf := false, sat := false, before := r.w, u := none, mom := none }
  let h := { h with stamp := c.step, hflags := 0 }
  if c.skip then (h, rs, true)
  else if !groupOk g then (h, rs.map fun r => { r with held := !r.bad }, false)
  else if g.frozen then (h, rs, true)
  else
    let rs := mapRecs n0 (stepRec c g (constsOf g c.step c.t0 c.ratio) h) rs
    if rs.any fun r => r.u.isSome then
      let ms := pow2Scale (Q.div (maxQ (rs.filterMap fun r => r.mom.map (·.1))) ⟨448, 1⟩)
      let vs := pow2Scale (Q.div (maxQ (rs.filterMap fun r => r.mom.map (·.2))) ⟨65536, 1⟩)
      ({ h with mScale := ms, vScale := vs }, mapRecs n0 (storeMoments c ms vs) rs, true)
    else (h, rs, true)

/-- How a block leaves a pass (R209): as it was, held by its STAMP, or stepped. -/
inductive BlkWay where
  | same | stale | stepped
  deriving DecidableEq, Repr

/-- A block after its pass: how it went, its records after the roll-forward's first step (none without one) and whether its group was in force in that step, whether its group was in force in the step itself, its header and records. -/
structure BlkOut where
  way : BlkWay
  rolled : List Rec
  rolledOk : Bool
  groupOk : Bool
  hdr : Hdr
  recs : List Rec
  deriving DecidableEq, Repr

/-- A block's pass for a step (R209, R210, R214); prev is what step − 1 worked with. -/
def passBlock (c prev : StepCtx) (h : Hdr) (n0 : Nat) (rs : List Rec) : BlkOut :=
  let any := fun (rs : List Rec) => b2n (rs.any fun r => r.held || r.bad)
  if h.stamp = c.step then ⟨.same, [], true, true, h, rs⟩
  else if h.stamp = prevStep c.step then
    let x := stepBlock c h n0 rs
    ⟨.stepped, [], true, x.2.2, { x.1 with hflags := any x.2.1 }, x.2.1⟩
  else if h.stamp = prevStep (prevStep c.step) then
    let y := stepBlock prev h n0 rs
    let x := stepBlock c y.1 n0 y.2.1
    ⟨.stepped, y.2.1, y.2.2, x.2.2, { x.1 with hflags := any x.2.1 + 2 }, x.2.1⟩
  else ⟨.stale, [], true, true, { h with hflags := h.hflags ||| 1 }, rs⟩

/-! ### Norms (R203) -/

/-- W2 and U2 with one record added; pre tells that the weights before the step count. -/
def addNorms (pre : Bool) (a : Nat × Nat) (r : Rec) : Nat × Nat :=
  let w := w40.dec (if pre then r.before else r.w)
  if r.bad || w.isSpecial then a
  else (addSquare a.1 w, match r.u with
    | some u => addSquare a.2 (fp32.dec u)
    | none => a.2)

/-! ### The working copy (R206) -/

/-- The FP32 value that the working copy takes for a record; none of a poisoned line. -/
def workValue (r : Rec) : Nat := if r.bad then fp32.nan else fp32.ofNum (w40.dec r.w)

/-- The blocks of a working tile whose first values are known; the rest is filled with zeros. -/
def workBlocks (d : Desc) (vals : List Nat) : List QBlock :=
  let n := d.blockSize
  let l := vals ++ List.replicate ((n - vals.length % n) % n) 0
  quantBlocks d none (fun i => decide (vals.length ≤ i)) (fun _ => 0) 0 0 (chunks n l)

/-- A record's own element exceeded the limit, or was an outlier forced to it (R193). -/
def elemSat (d : Desc) (b : QBlock) (i x : Nat) : Bool :=
  b.scale != 0xFF && !(b.side.any fun e => e.1 == i) && (encodeElem d.format b.scale x 0).2

/-- WORK, which only F4 state has, and SAT of the own element, for element k of a tile (R193). -/
def workOf (f4 : Bool) (d : Desc) (bs : List QBlock) (vals : List Nat) (k : Nat) : Nat × Bool :=
  if 3 < d.format then (0, false)
  else match bs[k / d.blockSize]? with
    | none => (0, false)
    | some b =>
      let i := k % d.blockSize
      (if f4 && d.format == fmtF4 then b.codes.getD i 0 else 0, elemSat d b i (vals.getD k 0))

/-- Byte 7 of a stepped record: WORK, SAT, NF, HELD, ESC (R193). -/
def flagByte (r : Rec) (f4 : Bool) (w : Nat × Bool) : Nat :=
  w.1 + 16 * b2n (r.sat || w.2) + 32 * b2n r.nf + 64 * b2n r.held + 128 * b2n (f4 && w.1 == 8)

/-- The whole sheaves, FP8 groups or plain elements of a working tile, as offset and length, that elements lo to hi − 1 complete (R51, R53, R59, R206, log 95); a tile's last one ends with the tile. -/
def workSpans (d : Desc) (lo hi : Nat) : List (Nat × Nat) :=
  let whole := fun (elems bytes : Nat) => ((List.range (ceilDiv 4096 elems)).filter fun k =>
    decide (lo < min 4096 (elems * (k + 1))) && decide (min 4096 (elems * (k + 1)) ≤ hi)).map fun k => (bytes * k, bytes)
  if d.format ≤ 1 then whole 112 64
  else if d.format ≤ 3 then whole 992 1024
  else [(2 * lo, 2 * (hi - lo))]

/-- The bytes of a working tile and of its side list (R206). -/
def workTile (d : Desc) (vals : List Nat) : List Byte × List Byte :=
  let l := vals ++ List.replicate (4096 - vals.length) 0
  if d.format ≤ 3 then
    let bs := workBlocks d vals
    let n := d.blockSize
    let zero : QBlock := ⟨0, List.replicate n 0, [], 0, 0, false, false, false⟩
    (packBlocks d (bs ++ List.replicate (4096 / n - bs.length) zero), packSide (sideOf n bs))
  else ((packPlain d l).1, [])

end Sys2Proof.Machine
end

