-- ==== Sys2Proof/Machine/ArmLoad.lean ====
section
/-! DEFINITION. What ARMATURE_LOAD checks of a file (R140 to R148 and the load rules of the other chapters): one Bool per rule or table, joined in armOk; and the lengths of R147 in armLenOk. -/

namespace Sys2Proof.Machine

/-- Two spans of addresses share a byte. -/
def overlap (a n b m : Nat) : Bool := decide (a < b + m) && decide (b < a + n)

/-- No two elements of a list stand in a relation, the earlier first. -/
def noneOf {α : Type} (r : α → α → Bool) : List α → Bool
  | [] => true
  | x :: t => !t.any (r x) && noneOf r t

/-- The numbers below n all pass a test. -/
def allBelow (n : Nat) (p : Nat → Bool) : Bool := (List.range n).all p

/-! ### Lengths (R147) -/

/-- Neither TOTAL_LEN, the section table nor a section gives BAD_LEN (R147). -/
def armLenOk (f : File) (len : Nat) : Bool :=
  armLen f == len && decide (armLen f ≤ 6291456) && decide (64 + 16 * armSections f ≤ armLen f) &&
    (secTable f).all fun x => decide (x.off + x.len ≤ armLen f)

/-! ### Header and sections (R140, R141) -/

/-- The header's values (R140): beds gives the partition's beds. -/
def headerOk (f : File) (beds : List Nat) : Bool :=
  fieldAt f 0 4 == 0x54524D41 && fieldAt f 4 2 == 1 && decide (armFlags f < 8) && armId f != 0 &&
    decide (4 ≤ armFrameUs f ∧ armFrameUs f ≤ 64) && decide (1 ≤ armFps f) && decide (30 ≤ armSlack f ∧ armSlack f ≤ 250) &&
    decide (armPoint f ≤ 2) && decide (1 ≤ armGroup f ∧ armGroup f ≤ 8191) &&
    (decide (armGroup f ≠ 1) || armHash f == 0) && decide (5 ≤ armSections f ∧ armSections f ≤ 16) && fieldAt f 40 24 == 0 &&
    (if armLocked f then decide (armBeds f = beds)
     else (armBeds f).length == 1 && (armBeds f).all fun b => beds.contains b)

/-- COUNT that R141 requires of a section type. -/
def secCount (f : File) (ty : Nat) : Nat :=
  if ty = 0x01 then (secOf f 1).len / 64
  else if ty = 0x02 then 384 * (armBeds f).length
  else if ty = 0x04 then (secOf f 4).len / 16
  else if ty = 0x05 then (secOf f 3).count
  else if ty = 0x06 then 2 * (armBeds f).length * armFps f
  else if ty = 0x07 then bucketCount f
  else if ty = 0x08 then inSec f 0x08 0 4
  else if ty = 0x09 then (secOf f 9).len / 8
  else if ty = 0x0A then (secOf f 0x0A).len / 16
  else if ty = 0x0B then inSec f 0x0B 0 4
  else (secOf f ty).count

/-- Item size of the sections whose LENGTH is a multiple of it; 1 for the others. -/
def secItem (ty : Nat) : Nat :=
  if ty = 0x01 then 64 else if ty = 0x04 then 16 else if ty = 0x09 then 8 else if ty = 0x0A then 16 else 1

/-- The section table (R141): reserved bytes, types, alignment, uniqueness, the required types, COUNTs. -/
def sectionsOk (f : File) : Bool :=
  let t := secTable f
  (allBelow (armSections f) fun n => fieldAt f (64 + 16 * n + 1) 3 == 0) &&
    (t.all fun x => decide (1 ≤ x.type ∧ x.type ≤ 0x0B) && x.off % 64 == 0 && x.len % secItem x.type == 0 &&
      x.count == secCount f x.type) &&
    noneOf (fun x y => x.type == y.type) t && ([1, 2, 3, 4, 9].all fun ty => hasSec f ty) &&
    (decide (armGroup f = 1) || hasSec f 7) && decide ((secOf f 1).count ≤ 65536) &&
    decide (1 ≤ (secOf f 3).count ∧ (secOf f 3).count ≤ 4096) && decide (8 * (secOf f 2).count ≤ (secOf f 2).len) &&
    decide (40 * (secOf f 3).count * armFps f ≤ (secOf f 3).len)

/-! ### Bindings and lists (R142, R143) -/

/-- The cores of BED_MASK: bed and core number. -/
def armCores (f : File) : List (Nat × Nat) := (armBeds f).flatMap fun b => (List.range 384).map fun c => (b, c)

/-- List group and DESC_BIAS of every core, each pair once. -/
def boundPairs (f : File) : List (Nat × Nat) :=
  ((armCores f).map fun x => (listGroup f x.1 x.2, descBias f x.1 x.2)).eraseDups

/-- Every binding names a list group, its reserved bits 0 (R142). -/
def bindingsOk (f : File) : Bool :=
  (armCores f).all fun x => decide (listGroup f x.1 x.2 < (secOf f 3).count) && bits (binding f x.1 x.2) 16 16 == 0

/-- The raw 16 bytes of issue entry k. -/
def issueRaw (f : File) (g fr e k : Nat) : Nat := inSec f 0x03 (recOff (indexRec f g fr e) + 16 * k) 16

/-- Index record of (g, frame, engine): alignment, the list inside its section, the bits of R142. -/
def indexOk (f : File) (g fr e : Nat) : Bool :=
  let r := indexRec f g fr e
  recOff r % 16 == 0 && decide (recOff r + 16 * recCount r ≤ (secOf f 3).len) &&
    (if e = 0 then bits r 58 6 == 0 && decide (vsplit f g fr ≤ 2) else bits r 48 16 == 0)

/-- An instruction block of an engine lies inside the pool, with a vector block's program (R143, R145). -/
def blockInside (f : File) (e o : Nat) : Bool :=
  let len := (secOf f 4).len
  decide (32 * (o + 1) ≤ len) && (e < 3 || decide (16 * ((vecBlk f o).2 + (vecBlk f o).1) ≤ len))

/-- Every list of a group and every block that it names lies inside its section: all that is checked of a group no core binds (R148). -/
def groupInside (f : File) (g : Nat) : Bool :=
  allBelow (armFps f) fun fr => allBelow 5 fun e =>
    let r := indexRec f g fr e
    decide (recOff r + 16 * recCount r ≤ (secOf f 3).len) && (issueList f g fr e).all fun i => blockInside f e i.blockOff

/-- C of the header's CLOCK_POINT (R148). -/
def armCycles (f : File) : Nat := armFrameUs f * pointMhz (armPoint f)

/-- An issue entry (R143, R148): reserved bits, its context's stream, START. -/
def entryOk (f : File) (g fr e k : Nat) : Bool :=
  let x := issueRaw f g fr e k
  let i := issueOf x
  bits x 21 11 == 0 && bits x 61 3 == 0 && bitAt (ctxStream f g fr) i.ctx == (e == 1 || e == 2 || e == 4) &&
    decide (i.start < armCycles f)

/-! ### Instruction blocks (R66, R92, R108, R109, R115 to R118, R144, R145) -/

/-- The operand pairs of R66, by format code. -/
def pairOk (a b : Nat) : Bool :=
  (decide (a ≤ 1) && decide (b ≤ 1)) || (a == 2 && (b == 2 || b == 3)) || (a == 3 && b == 2) || (a == 4 && b == 4) ||
    (a == 5 && b == 5) || (a == 6 && b == 6)

/-- The product is the engine's own, or a forward product that an inference armature gives to BE-D or BE-W (R15, R108). -/
def productOk (f : File) (e : Nat) (a b o : Desc) : Bool :=
  let fits := fun (p : Product) =>
    redExtent a (downA p) == redExtent b (downB p) && o.rows == outExtent a (downA p) && o.cols == outExtent b (downB p)
  fits (productOf f e a b)

/-- The rotations of two operands agree (R92). -/
def rotationOk (a b : Desc) : Bool :=
  a.rotSize == b.rotSize && (a.rotSize == 0 || (a.rotSeed == b.rotSeed && a.rotSide != b.rotSide))

/-- K-units along a reduction extent. -/
def kUnits (d : Desc) (extent : Nat) : Nat := ceilDiv extent (unitSize d)

/-- A matrix block of per-example norm mode (R118): copies 1 of X and dY, unrotated, each multiplied by itself; no mask and no release in this mode (log 25). -/
def normOk (m : MatBlk) (e : Nat) (a b : Desc) : Bool :=
  e == 2 && decide (1 ≤ m.exLen ∧ m.exLen ≤ 256) && !m.rmaskEn && !m.bmaskEn && !m.release && pairOk a.format a.format &&
    pairOk b.format b.format && a.rotSize == 0 && b.rotSize == 0 && axisOk a false && axisOk b false && a.rows == b.rows &&
    decide (m.kFirst + m.kCount ≤ max (kUnits a a.cols) (kUnits b b.cols))

/-- A matrix block outside norm mode. -/
def plainOk (f : File) (m : MatBlk) (e : Nat) (a b o : Desc) : Bool :=
  let p := productOf f e a b
  m.exLen == 0 && m.normvAddr == 0 && m.exFirst == 0 && m.exCount == 0 && (e == 2 || (!m.rmaskEn && !m.bmaskEn)) &&
    (!m.release || m.endK) && pairOk a.format b.format && rotationOk a b && axisOk a (downA p) && axisOk b (downB p) &&
    productOk f e a b o && decide (m.kFirst + m.kCount ≤ kUnits a (redExtent a (downA p)))

/-- A matrix block that an engine of a core with a given bias runs. -/
def matOk (f : File) (bias e blk : Nat) : Bool :=
  let m := matBlk f blk
  let n := (secOf f 1).count
  let o := descAt f (m.outDesc + bias)
  bits (poolWord f blk 1) 26 6 == 0 && bits (poolWord f blk 5) 9 7 == 0 &&
    ([m.aDesc, m.bDesc, m.outDesc].all fun k => decide (k + bias < n)) && decide (1 ≤ m.kCount) &&
    decide (m.slot + slotsNeeded o ≤ 12) && decide (m.tileRow < o.tilesR) && decide (m.tileCol < o.tilesC) &&
    (m.rmaskEn || m.rmaskAddr == 0) && (m.bmaskEn || m.bmaskAddr == 0) &&
    (if m.normMode then normOk m e (descAt f (m.aDesc + bias)) (descAt f (m.bDesc + bias))
     else plainOk f m e (descAt f (m.aDesc + bias)) (descAt f (m.bDesc + bias)) o)

/-- A vector instruction (R92, R145): reserved bits, OP, operands, the descriptor of a LOAD or STORE; no LOAD of a rotated tensor; a STORE to one passes, since the quantiser rotates it (DESIGN CHOICE, log 22). -/
def vecInstrOk (f : File) (bias prog k : Nat) : Bool :=
  let x := inSec f 0x04 (16 * (prog + k)) 16
  let i := vecInstr f prog k
  let d := bits x 64 16 + bias
  bits x 40 24 == 0 && bits x 96 32 == 0 && (vecExec i.1).isSome && argsOk i.2 &&
    (decide (i.1 < 0x20) || decide (d < (secOf f 1).count)) && (i.1 != 0x20 || (descAt f d).rotSize == 0)

/-- A vector block (R145). -/
def vecOk (f : File) (bias blk : Nat) : Bool :=
  bits (poolWord f blk 0) 16 16 == 0 && ([2, 3, 4, 5, 6, 7].all fun w => poolWord f blk w == 0) &&
    allBelow (vecBlk f blk).1 fun k => vecInstrOk f bias (vecBlk f blk).2 k

/-- Every list of a bound group with a core's bias (R142 to R145). -/
def listsOk (f : File) (g bias : Nat) : Bool :=
  allBelow (armFps f) fun fr => allBelow 5 fun e =>
    indexOk f g fr e && allBelow (recCount (indexRec f g fr e)) fun k =>
      entryOk f g fr e k &&
        (if e < 3 then matOk f bias e (issueAt f g fr e k).blockOff else vecOk f bias (issueAt f g fr e k).blockOff)

/-! ### The walk of R148 -/

/-- What a walk carries within a frame: the rest of the three engines' lists, where each engine stands, and the slots' known partial counts. -/
structure Walk where
  lists : List (List Issue)
  ends : List Nat
  slots : Tab Nat Nat
  deriving DecidableEq, Repr

/-- Begin cycle of an engine's next block. -/
def Walk.begin (w : Walk) (e : Nat) : Option Nat :=
  match (w.lists.getD e []) with
  | [] => none
  | i :: _ => some (max i.start (w.ends.getD e 0))

/-- The engine whose next block begins first; FE before BE-D before BE-W on a tie. -/
def Walk.pick (w : Walk) : Option Nat :=
  [0, 1, 2].foldl (fun best e => match w.begin e, best with
    | none, x => x
    | some _, none => some e
    | some t, some b => if t < (w.begin b).getD 0 then some e else some b) none

/-- P of R111 in the walk, and the slot's count after the block. -/
def walkSpills (slots : Tab Nat Nat) (m : MatBlk) : Nat × Tab Nat Nat :=
  let u := m.kCount
  let after := fun (c : Nat) => (spillsOf c u m.endK, slots.put m.slot (if m.endK then 0 else c + u))
  if m.accMode then
    match slots.find? m.slot with
    | some c => after c
    | none => (ceilDiv u 4096 + b2n m.endK, slots)
  else after 0

/-- Cycles of a block in the walk, for P spills (R111, R148); a norm block forms both Gram products of its examples (log 25). -/
def walkCycles (f : File) (bias : Nat) (m : MatBlk) (spills : Nat) : Nat :=
  if m.normMode then
    m.exCount * ([(m.aDesc, m.aLocal), (m.bDesc, m.bLocal)].foldl (fun t x =>
      let o := gramOperand (descAt f (x.1 + bias)) x.2 m
      t + prodCycles m.exLen m.exLen o.kCount (unitCycles o.d) spills) 0) + 12
  else blockCycles (descAt f (m.outDesc + bias)) (descAt f (m.aDesc + bias)) m.kCount spills

/-- One block of the walk. -/
def Walk.next (f : File) (bias : Nat) (w : Walk) (e : Nat) : Walk :=
  match w.lists.getD e [] with
  | [] => w
  | i :: rest =>
    let m := matBlk f i.blockOff
    let p := walkSpills w.slots m
    let len := walkCycles f bias m p.1
    ⟨w.lists.set e rest, w.ends.set e ((w.begin e).getD 0 + len), p.2⟩

/-- A frame's matrix blocks, at most fuel of them. -/
def Walk.run (f : File) (bias : Nat) : Nat → Walk → Walk
  | 0, w => w
  | n + 1, w => match w.pick with
    | none => w
    | some e => Walk.run f bias n (w.next f bias e)

/-- The cycle at which a vector list ends. -/
def vecEnd (f : File) (l : List Issue) : Nat :=
  l.foldl (fun t i => max i.start t + programCycles (programOf f i.blockOff)) 0

/-- The layers' states in a walk: a state for each layer whose choice matters, F4 for the others. -/
abbrev Mix := List (Nat × Nat)

/-- The state of a layer in a mix. -/
def stateOf (x : Mix) (layer : Nat) : Nat := ((x.find? fun e => e.1 == layer).map (·.2)).getD 0

/-- The entries of a list that issue when the layers stand in a mix of states (R143). -/
def inState (x : Mix) (l : List Issue) : List Issue := l.filter fun i => bitAt i.mask (stateOf x i.layer)

/-- The states that a layer's entries tell apart: one state for each different set of entries that they let issue. -/
def layerChoices (l : List Issue) (layer : Nat) : List Nat :=
  let pat := fun (st : Nat) => (l.filter fun i => i.layer == layer).map fun i => bitAt i.mask st
  [0, 1, 2].foldl (fun a st => if a.any fun x => decide (pat x = pat st) then a else a ++ [st]) []

/-- Every issue entry of a list group, frame by frame and engine by engine. -/
def groupEntries (f : File) (g : Nat) : List Issue :=
  (List.range (armFps f)).flatMap fun fr => [0, 1, 2, 3, 4].flatMap fun e => issueList f g fr e

/-- Every mix of layer states that a group's entries tell apart. -/
def mixesOf (l : List Issue) : List Nat → List Mix
  | [] => [[]]
  | x :: t => (layerChoices l x).flatMap fun st => (mixesOf l t).map fun m => (x, st) :: m

/-- The mixes of layer states in which a group's lists are walked: the states of its layers are independent (R102, R143). -/
def groupMixes (f : File) (g : Nat) : List Mix :=
  let l := groupEntries f g
  mixesOf l (l.foldl (fun a i => if a.contains i.layer then a else a ++ [i.layer]) [])

/-- The last cycle by which every list must end (R148). -/
def walkLimit (f : File) : Nat := armCycles f * (1000 - armSlack f) / 1000

/-- One frame of the walk: its verdict and the slot counts after it. -/
def walkFrame (f : File) (g bias : Nat) (x : Mix) (fr : Nat) (slots : Tab Nat Nat) : Bool × Tab Nat Nat :=
  let l := fun (e : Nat) => inState x (issueList f g fr e)
  let w := Walk.run f bias ((l 0).length + (l 1).length + (l 2).length) ⟨[l 0, l 1, l 2], [0, 0, 0], slots⟩
  ((w.ends ++ [vecEnd f (l 3), vecEnd f (l 4)]).all fun t => decide (t ≤ walkLimit f), w.slots)

/-- The walk of a core's lists through the step's frames in one mix of layer states. -/
def walkMix (f : File) (g bias : Nat) (x : Mix) : Bool :=
  ((List.range (armFps f)).foldl (fun (acc : Bool × Tab Nat Nat) fr =>
    let r := walkFrame f g bias x fr acc.2
    (acc.1 && r.1, r.2)) (true, [])).1

/-- The walk of a core's lists as the engine would run them (R148): in whatever states the layers stand. -/
def walkOk (f : File) (g bias : Nat) : Bool := (groupMixes f g).all (walkMix f g bias)

/-! ### Weight-gradient tiles (R116, R119) -/

/-- A place where a BE-W block contributes to an output tile: the tile, the core, the layer, the states, RELEASE, END_K and norm mode. -/
structure Place where
  tile : Nat × Nat × Nat
  core : Nat
  layer : Nat
  mask : Nat
  release : Bool
  endK : Bool
  norm : Bool
  deriving DecidableEq, Repr

/-- Every place of use on BE-W, core by core in step order; forward products of an inference armature are none. -/
def places (f : File) : List Place :=
  (armCores f).flatMap fun x =>
    let g := listGroup f x.1 x.2
    let bias := descBias f x.1 x.2
    (List.range (armFps f)).flatMap fun fr => (issueList f g fr 2).filterMap fun i =>
      let m := matBlk f i.blockOff
      if m.normMode || productOf f 2 (descAt f (m.aDesc + bias)) (descAt f (m.bDesc + bias)) = .dw then
        some ⟨(m.outDesc + bias, m.tileRow, m.tileCol), coreNo x.1 x.2, i.layer, i.mask, m.release, m.endK, m.normMode⟩
      else none

/-- Two uses issue together in some states of their layers (R143). -/
def Place.meet (x y : Place) : Bool := x.layer != y.layer || x.mask &&& y.mask != 0

/-- Two uses break R116: one tile on two cores, or a use after the release where both issue. -/
def placeClash (x y : Place) : Bool :=
  !x.norm && !y.norm && decide (x.tile = y.tile) && (x.core != y.core || (x.release && x.meet y))

/-- A norm-mode block on a tile with more than one place of use breaks R119. -/
def normClash (l : List Place) (x : Place) : Bool :=
  x.norm && decide (2 ≤ (l.filter fun y => !y.norm && y.endK && decide (y.tile = x.tile) && y.meet x).length)

/-- R116 and R119. -/
def tilesOwned (f : File) : Bool :=
  let l := places f
  noneOf placeClash l && !l.any (normClash l)

/-! ### Descriptors (R42, R57, R83, R88, R92, R106, R146, R150, R173, R391) -/

/-- Descriptors that buckets name as SRC_DESC and as GRAD_DESC (R254). -/
def srcDescs (f : File) : List Nat := if hasSec f 7 then (buckets f).map (·.2.src) else []
@[inherit_doc srcDescs] def gradDescs (f : File) : List Nat := if hasSec f 7 then (buckets f).map (·.2.grad) else []

/-- A positive, finite, normal FP32 code (R57). -/
def tscaleOk (c : Nat) : Bool := decide (0x00800000 ≤ c ∧ c < 0x7F800000)

/-- The quantisation fields (R57, R83). -/
def quantFieldsOk (f : File) (d : Desc) : Bool :=
  d.cal % 64 == 0 && (d.policy != 0 || d.cal == 0) && decide (d.rotSize ≤ 4) &&
    (d.escMult == 0 || (d.format == 0 && decide (24 ≤ d.escMult)) || (d.format == 1 && decide (4 ≤ d.escMult)) ||
      decide (4 ≤ d.format)) &&
    (d.escMult != 0 || d.side == 0) && decide (d.twoLevel ≤ 2) && (d.twoLevel != 2 || armTest f) &&
    (if d.twoLevel = 0 then d.tscale == 0x3F800000 else tscaleOk d.tscale)

/-- Extent and tile extent along the block axis (R391). -/
def axisExtent (d : Desc) : Nat := if d.axisCol then d.rows else d.cols
@[inherit_doc axisExtent] def axisTile (d : Desc) : Nat := if d.axisCol then d.rt else d.ct

/-- Shape, tiles and rotation groups (R88, R391). -/
def shapeOk (d : Desc) : Bool :=
  decide (1 ≤ d.rows) && decide (1 ≤ d.cols) && decide (d.rLog + d.cLog ≤ 12) &&
    (decide (6 ≤ d.format) || decide (d.blockSize ≤ axisTile d)) &&
    (d.rotSize == 0 || axisExtent d % 2 ^ (d.rotSize + 3) == 0)

/-- The address ranges of a descriptor: tiles (every retention slot of a reduced gradient; none for a contribution, R246), side lists, calibration table. -/
def descRanges (f : File) (k : Nat) (d : Desc) : List (Nat × Nat) :=
  let body := if (srcDescs f).contains k then 0
    else if (gradDescs f).contains k then retainSteps f * slotBytes d else d.tiles * d.tileBytes
  [(d.base, body)] ++ (if d.hasSide then [(d.side, 512 * d.tiles)] else []) ++
    (if d.policy = 0 then [] else [(d.cal, 64 * ceilDiv d.tiles 64 + d.tiles)])

/-- A range touches the armature region of the partition whose lowest bed is b (R150). -/
def touchesRegion (b : Nat) (r : Nat × Nat) : Bool := decide (0 < r.2) && overlap r.1 r.2 (b * 2 ^ 40) regionBytes

/-- A release-marked descriptor's footprint and side lists lie within one range of the release map (R279); a contribution has no footprint (R246). -/
def releaseOk (f : File) (k : Nat) (d : Desc) : Bool :=
  !d.release || (d.rotSize == 0 && d.twoLevel == 0 && hasSec f 0x0B && (releaseRanges f).any fun r =>
    ((if (srcDescs f).contains k then [] else [(d.base, d.tiles * d.tileBytes)]) ++
      (if d.hasSide then [(d.side, 512 * d.tiles)] else [])).all fun x => decide (r.1 ≤ x.1 ∧ x.1 + x.2 ≤ r.1 + r.2))

/-- Descriptor k, for the partition whose lowest bed is b. -/
def descOk (f : File) (b k : Nat) : Bool :=
  let d := descAt f k
  decide (d.format ≤ 9) && bits (fieldAt f ((secOf f 1).off + 64 * k + 60) 4) 22 10 == 0 && d.hint != 3 && quantFieldsOk f d &&
    shapeOk d && (d.format != 9 || d.rotSize == 0) && releaseOk f k d && !(descRanges f k d).any (touchesRegion b)

/-! ### Transfers (R180, R181) -/

/-- The raw 16 bytes of transfer entry k. -/
def xferRaw (f : File) (g fr k : Nat) : Nat := inSec f 0x05 (bits (xferRec f g fr) 0 32 + 16 * k) 16

/-- A transfer entry of a core with a given bias (R173, R181). -/
def xferOk (f : File) (bias g fr k : Nat) : Bool :=
  let x := xferRaw f g fr k
  let t := xferOf x
  let d := descAt f (t.desc + bias)
  let dal := decide (t.op ≤ 1) && (if t.ovr then t.hint else d.hint) == 2
  bits x 29 3 == 0 && bits x 120 8 == 0 && decide (t.op ≤ 3) && t.cls != 3 && t.hint != 3 &&
    decide (t.desc + bias < (secOf f 1).count) && (t.op == 0 || t.loc == 0) && decide (1 ≤ t.count) &&
    decide (t.tile + t.count ≤ d.tiles) && (if dal then t.uses != 0 else t.uses == 0)

/-- An index record of section 0x05. -/
def xferRecOk (f : File) (g fr : Nat) : Bool :=
  let r := xferRec f g fr
  bits r 0 32 % 16 == 0 && bits r 48 16 == 0 && decide (bits r 0 32 + 16 * bits r 32 16 ≤ (secOf f 5).len)

/-- Where the budget table begins within section 0x05 (R180). -/
def budgetOff (f : File) : Nat := 64 * ceilDiv (8 * ((secOf f 5).count * armFps f)) 64

/-- The budget table (R180): inside the section, reserved bits 0. -/
def budgetsOk (f : File) : Bool :=
  let idx := 8 * ((secOf f 5).count * armFps f)
  decide (budgetOff f + 32 * ((armBeds f).length * armFps f) ≤ (secOf f 5).len) &&
    inSec f 0x05 idx (budgetOff f - idx) == 0 &&
    (armBeds f).all fun b => allBelow (armFps f) fun fr =>
      ([0, 1, 2, 3].all fun w => bits (budgetWord f b fr w) 24 8 == 0) && decide (budgetWord f b fr 4 < 2) &&
        ([5, 6, 7].all fun w => budgetWord f b fr w == 0)

/-- Section 0x05; the entries are checked for the groups that a core binds. -/
def transfersOk (f : File) : Bool :=
  !hasSec f 5 || (budgetsOk f && (allBelow (secOf f 5).count fun g => allBelow (armFps f) fun fr => xferRecOk f g fr) &&
    (boundPairs f).all fun x => allBelow (armFps f) fun fr => allBelow (bits (xferRec f x.1 fr) 32 16) fun k => xferOk f x.2 x.1 fr k)

/-! ### Slot plans (R229) -/

/-- A run: FIRST, LEN, CLASS. -/
def runAt (f : File) (off k : Nat) : Nat × Nat × Nat :=
  let x := inSec f 0x06 (off + 4 * k) 4
  (bits x 0 12, bits x 12 12, bits x 24 2)

/-- The plan of one port in one frame: index record r. -/
def planOk (f : File) (r : Nat) : Bool :=
  let x := inSec f 0x06 (8 * r) 8
  let off := bits x 0 32
  let n := bits x 32 16
  let runs := (List.range n).map (runAt f off)
  let S := armFrameUs f * 200000 / 4160
  let zero := runs.filter fun y => y.2.2 == 0
  bits x 48 16 == 0 && off % 4 == 0 && decide (off + 4 * n ≤ (secOf f 6).len) &&
    (allBelow n fun k => bits (inSec f 0x06 (off + 4 * k) 4) 26 6 == 0) &&
    (runs.all fun y => decide (1 ≤ y.2.1) && decide (y.1 + y.2.1 ≤ S) && y.2.2 != 3) &&
    noneOf (fun a b => overlap a.1 a.2.1 b.1 b.2.1) runs && (zero.any fun y => y.1 == 0) &&
    decide ((zero.map (·.2.1)).foldl (· + ·) 0 ≤ S / 4) && zero.all fun y => decide (y.1 + y.2.1 ≤ S / 2)

/-- Section 0x06. -/
def plansOk (f : File) : Bool :=
  !hasSec f 6 || (decide (8 * (secOf f 6).count ≤ (secOf f 6).len) && allBelow (secOf f 6).count fun r => planOk f r)

/-! ### Buckets and members (R106, R254, R258, R267) -/

/-- The member list (R254): strictly ascending ids with the header's hash, or the one entry 0x1FFF. -/
def membersOk (f : File) : Bool :=
  let l := memberList f
  decide (memberOff f + 2 * armGroup f ≤ (secOf f 7).len) &&
    (if armGroup f = 1 then decide (l = [0x1FFF])
     else (l.all fun x => decide (x ≤ 8190)) && ((l.zip l.tail).all fun x => decide (x.1 < x.2)) && memberHash l == armHash f)

/-- A bucket entry (R106, R254, R267). The tensor that travels is SRC_DESC's, so that TWO_LEVEL of GRAD_DESC is not asked to be 0 (DESIGN CHOICE, log 90). -/
def bucketOk (f : File) (k : Nat) : Bool :=
  let b := bucketAt f k
  let n := (secOf f 1).count
  let sd := descAt f b.src
  let gd := descAt f b.grad
  decide (1 ≤ b.level ∧ b.level ≤ 15) && decide (1 ≤ b.certFrames ∧ b.certFrames ≤ 15) &&
    decide (1 ≤ b.arity ∧ b.arity ≤ 8191) && decide (1 ≤ b.tiles ∧ b.tiles ≤ 65536) &&
    bits (inSec f 0x07 (64 + 32 * k + 6) 1) 6 2 == 0 && inSec f 0x07 (64 + 32 * k + 20) 12 == 0 && decide (b.src < n) &&
    decide (b.grad < n) && sd.format == 9 && gd.format == 9 && sd.tiles == b.tiles && gd.tiles == b.tiles &&
    sd.twoLevel == 0 && decide (b.deadline + b.certFrames + 1 < 2 * armFps f) &&
    (!b.noise || (b.divSum && hasSec f 0x0B))

/-- Close elements of two consecutive steps in one frame (R254, R258). -/
def closeOk (f : File) : Bool :=
  allBelow (armFps f) fun fr =>
    decide (((buckets f).filter fun b => (b.2.deadline + b.2.certFrames) % armFps f == fr).length ≤ 2048)

/-- Section 0x07. -/
def bucketsOk (f : File) : Bool :=
  !hasSec f 7 || (decide (bucketCount f ≤ 65280) && decide (64 + 32 * bucketCount f ≤ (secOf f 7).len) &&
    decide (1 ≤ voteArity f ∧ voteArity f ≤ 8191) && inSec f 0x07 10 54 == 0 && membersOk f &&
    (allBelow (bucketCount f) fun k => bucketOk f k) && noneOf (fun a b => a == b) (srcDescs f) && closeOk f)

/-! ### The update section (R195, R197, R199, R200, R206) -/

/-- The header (R199). -/
def updHeaderOk (f : File) : Bool :=
  updGroupOff f % 64 == 0 && decide (updGroupOff f + 8224 + 32 * (secOf f 8).count ≤ (secOf f 8).len) &&
    decide (cutInterval f ≤ 4096) && decide (2 * cutInterval f + 2 ≤ inSec f 0x08 14 2) && decide (commitFrame f < armFps f) &&
    decide (inSec f 0x08 18 1 < 2) && inSec f 0x08 19 1 == 0 && decide (inSec f 0x08 20 2 < 2 ^ 13) &&
    decide (inSec f 0x08 22 2 < 2 ^ 13) && cutSlotBytes f % 64 == 0

/-- A parameter-group entry (R197, R4): reserved bits 0, and the constraints if it is VALID. -/
def groupEntryOk (f : File) (g : Nat) : Bool :=
  let w := fun (k : Nat) => inSec f 0x08 (updGroupOff f + 32 * g + 4 * k) 4
  let e := groupAt ((List.range 8).map fun k => (8 * g + k, w k)) [] g
  bits (w 6) 3 29 == 0 && w 7 == 0 && (!e.valid || groupOk e)

/-- A state group lies in the stack-local area of the unit's own stack (R195). -/
def State.groupLocal (s : State) (u a : Nat) : Bool :=
  let inside := fun (x : Nat) => !badAddr x && homeOf x == u / 4 && decide (s.areaB (u / 4) ≤ offsetOf x) && s.stackOf x == u
  inside a && inside (a + 2111)

/-- A working copy that a pass entry names (R200, R206). -/
def workOk (f : File) (e : Pass) : Bool :=
  let w := descAt f e.work
  let d := descAt f e.grad
  e.work == 0xFFFF || (decide (e.work < (secOf f 1).count) && (w.format == 0 || w.format == 2 || w.format == 6) &&
    w.rotSize == 0 && w.twoLevel == 0 && w.policy == 0 && w.rows == d.rows && w.cols == d.cols && w.rLog == d.rLog &&
    w.cLog == d.cLog && w.axisCol == d.axisCol)

/-- Pass entry k (R195, R200, R206). -/
def State.passOk (s : State) (f : File) (k : Nat) : Bool :=
  let e := passAt f k
  let d := descAt f e.grad
  let x := fun (o n : Nat) => inSec f 0x08 (updGroupOff f + 8224 + 32 * k + o) n
  decide (x 2 1 < 32) && decide (x 3 1 < 8) && decide (x 4 2 < 1024) && x 28 4 == 0 && decide (e.frame < armFps f) &&
    (armBeds f).contains (e.unit / 4) && decide (1 ≤ e.records) && hasSec f 7 && decide (e.bucket < bucketCount f) &&
    e.grad == (bucketAt f e.bucket).grad && e.first % 4096 == 0 && e.state % 64 == 0 && d.rLog + d.cLog == 12 &&
    decide (e.first + e.records ≤ 4096 * d.tiles) && homeOf d.base == e.unit / 4 && workOk f e &&
    allBelow (ceilDiv e.records 256) fun g => s.groupLocal e.unit (e.state + 2112 * g)

/-- A line of memory holds records of an entry (R194). -/
def Pass.recLine (e : Pass) (a : Nat) : Bool :=
  let l := (a - e.state) % 2112 / 64
  decide (e.state ≤ a) && decide (1 ≤ l) && decide (256 * ((a - e.state) / 2112) + 8 * (l - 1) < e.records)

/-- Two entries cover one record (R200): a line with records of both, or an element number of one gradient in both. -/
def sameRecord (x y : Pass) : Bool :=
  !(allBelow (ceilDiv x.records 8) fun i => !y.recLine (x.state + 2112 * (i / 32) + 64 * (i % 32 + 1))) ||
    (x.grad == y.grad && overlap x.first x.records y.first y.records)

/-- The entry covers an update element number. -/
def Pass.covers (e : Pass) (n : Nat) : Bool := decide (e.first ≤ n ∧ n < e.first + e.records)

/-- The entries of a layer in a state. -/
def passesOf (f : File) (layer st : Nat) : List Pass :=
  ((passes f).map (·.2)).filter fun e => e.layer == layer && bitAt e.mask st

/-- A layer's entries for one state cover each position inside ROWS × COLS (R200). -/
def coverOk (f : File) (layer st : Nat) : Bool :=
  match passesOf f layer st with
  | [] => false
  | e :: t =>
    let d := descAt f e.grad
    allBelow d.tiles fun k => allBelow 4096 fun i =>
      d.padding (k / d.tilesC) (k % d.tilesC) i || (e :: t).any fun x => x.covers (4096 * k + i)

/-- Section 0x08. -/
def State.updatesOk (s : State) (f : File) : Bool :=
  !hasSec f 8 || (updHeaderOk f && (allBelow 256 fun g => groupEntryOk f g) &&
    (allBelow (secOf f 8).count fun k => s.passOk f k) &&
    noneOf (fun x y => x.2.layer == y.2.layer && x.2.bucket != y.2.bucket) (passes f) &&
    ([0, 1, 2].all fun st => noneOf sameRecord (((passes f).map (·.2)).filter fun e => bitAt e.mask st)) &&
    ((passes f).map (·.2.layer)).eraseDups.all fun l => coverOk f l 0 && coverOk f l 1 && coverOk f l 2)

/-! ### Register values, variants, the release map (R107, R141, R160, R267, R279) -/

/-- The bits of a register word that owned fields hold. -/
def ownedBits (kind : PageKind) (o : Nat) : Nat :=
  ownedFields.foldl (fun a f =>
    let i := fieldInfo f
    if i.page = some kind && i.off = o then a + (2 ^ i.width - 1) * 2 ^ i.lo else a) 0

/-- A pair of section 0x09 names an armature-owned register of the partition, sets no other bit, and gives STATE and MODE no reserved value (R107, R4). -/
def State.pairOwned (s : State) (q off v : Nat) : Bool :=
  match s.pageAt off with
  | none => false
  | some (p, o) =>
    let m := ownedBits p.kind o
    (p.kind = .quantiser || p.kind = .layerPrecision) && s.partOf p.inst == q && m != 0 && decide (v < 2 ^ 32) &&
      v &&& m == v && ownedFields.all fun f =>
        let i := fieldInfo f
        !(i.page = some p.kind && i.off = o) || (f = .LAYER_ST → bits v i.lo i.width ≠ 3) && (f = .LAYER_MODE → bits v i.lo i.width ≤ 1)

/-- Section 0x09. -/
def State.pairsOk (s : State) (q : Nat) (f : File) : Bool :=
  allBelow (secOf f 9).count fun k => s.pairOwned q (inSec f 0x09 (8 * k) 4) (inSec f 0x09 (8 * k + 4) 4)

/-- Section 0x0A (R160): KIND 1 to 3, reserved bits 0. -/
def variantsOk (f : File) : Bool :=
  !hasSec f 0x0A || allBelow (secOf f 0x0A).count fun k =>
    let kind := inSec f 0x0A (16 * k + 12) 1
    decide (1 ≤ kind ∧ kind ≤ 3) && inSec f 0x0A (16 * k + 13) 3 == 0

/-- A finite FP32 code above 0. -/
def positiveF (c : Nat) : Bool := nonNeg c && !(valF c).isZero

/-- SIGMA and CLIP_C (R279): positive when any bucket has NOISE, else 0. -/
def noiseOk (f : File) : Bool :=
  if hasSec f 7 && (buckets f).any (·.2.noise) then positiveF (inSec f 0x0B 8 4) && positiveF (inSec f 0x0B 12 4)
  else inSec f 0x0B 8 4 == 0 && inSec f 0x0B 12 4 == 0

/-- Section 0x0B (R279). -/
def State.releaseMapOk (s : State) (q : Nat) (f : File) : Bool :=
  !hasSec f 0x0B ||
    (decide (inSec f 0x0B 0 4 ≤ 256) && decide (64 + 16 * inSec f 0x0B 0 4 ≤ (secOf f 0x0B).len) && inSec f 0x0B 4 4 == 0 &&
      inSec f 0x0B 16 48 == 0 && noiseOk f &&
      (allBelow (inSec f 0x0B 0 4) fun i => inSec f 0x0B (64 + 16 * i + 12) 4 == 0) &&
      ((releaseRanges f).all fun r => r.1 % 4096 == 0 && r.2 % 4096 == 0 && decide (4096 ≤ r.2) && !badAddr r.1 &&
        !badAddr (r.1 + r.2 - 1) && homeOf r.1 == homeOf (r.1 + r.2 - 1) && s.partOf (homeOf r.1) == q) &&
      noneOf (fun x y => overlap x.1 x.2 y.1 y.2) (releaseRanges f))

/-! ### The whole check -/

/-- Every rule that R147 answers with BAD_ARG, for a load into partition q. -/
def State.armOk (s : State) (q : Nat) (f : File) : Bool :=
  headerOk f (s.partBeds q) && sectionsOk f && bindingsOk f &&
    (allBelow (secOf f 1).count fun k => descOk f (s.partFirst q) k) &&
    (allBelow (secOf f 3).count fun g => groupInside f g) &&
    ((boundPairs f).all fun x => listsOk f x.1 x.2 && walkOk f x.1 x.2) &&
    tilesOwned f && transfersOk f && plansOk f && bucketsOk f && s.updatesOk f && s.pairsOk q f && variantsOk f &&
    s.releaseMapOk q f

end Sys2Proof.Machine
end

