-- ==== Sys2Proof/Machine/Recorder.lean ====
section
/-! DEFINITION. The keeper's stores: hold-up energy and durable stores (R317), the event recorder's queues, batches, freezes and counters (R338 to R348, R393). -/

namespace Sys2Proof.Machine

/-! ### Hold-up energy (R317) -/

/-- V² in mV² from the last four samples, the lowest of them; 0 before there are four (log 43). -/
def samplesV2 (l : List Nat) : Nat := if l.length < 4 then 0 else l.foldl min (l.headD 0) * l.foldl min (l.headD 0)

/-- V² in force: after a store, the lowered one until four later samples are there. -/
def State.holdV2 (s : State) : Nat := if 0 < s.pw.settle then s.pw.deduct else samplesV2 s.pw.samples

/-- E in mJ: ½ × C × (V² − VMIN²), C in mF. -/
def State.holdE (s : State) : Nat := s.get pgKeeper .HOLDUP_CAP * (s.holdV2 - 2800 * 2800) / 2000000

/-- HOLDUP_V and HOLDUP_E shown. -/
def State.showHoldup (s : State) : State :=
  (s.put pgKeeper .HOLDUP_V (isqrt s.holdV2)).put pgKeeper .HOLDUP_E (min s.holdE 0xFFFF)

/-- HOLDUP_SAMPLE (R317): one sample of HOLDUP_SENSE, every 100 µs. -/
def execHoldupSample (millivolts : Nat) (s : State) : Host.Outcome State Fault Refusal :=
  if s.pw.keeperOn then
    .next { s with pw := { s.pw with samples := (millivolts :: s.pw.samples).take 4, settle := s.pw.settle - 1 } }.showHoldup
  else .next s

/-- Worst-case energy of a store in mJ: 0 event batch, 1 firmware chunk, 2 margin trim, 3 boot header. -/
def storeCost (kind : Nat) : Nat := if kind = 0 then 120 else if kind = 2 then 20 else 400

/-- The energy covers a store and the 40 mJ reserve. -/
def State.canStore (s : State) (kind : Nat) : Bool := decide (storeCost kind + 40 ≤ s.holdE)

/-- A store refused for lack of energy; HOLDUP_LOW's record is written when its bit rises (log 43). -/
def State.holdupLow (s : State) : State :=
  let s := s.bump pgKeeper .HOLDUP_LOW_CNT
  if bitAt (s.get pgKeeper .EVT) 0 then s else s.raise pgKeeper 0

/-- A store begins. -/
def State.beginStore (s : State) (kind : Nat) : State := (s.put pgKeeper .STORE_ACTIVE 1).put pgKeeper .STORE_KIND kind

/-- A store's worst case taken off V² until four more samples are there. -/
def State.spend (s : State) (kind : Nat) : State :=
  let v2 := s.holdV2 - ceilDiv (2000000 * storeCost kind) (max 1 (s.get pgKeeper .HOLDUP_CAP))
  { s with pw := { s.pw with deduct := v2, settle := 4 } }.showHoldup

/-! ### Slots (R341) -/

/-- The bytes of a record (R337). -/
def recordBytes (r : Record) : List Byte :=
  let b := leBytes 8 r.seq ++ leBytes 5 r.opSeconds ++ leBytes 1 r.flags ++ leBytes 2 r.code ++ leBytes 4 r.powerCycles ++
    leBytes 6 r.frame ++ leBytes 3 r.source ++ leBytes 1 r.piece ++ padTo 30 r.payload
  b ++ leBytes 4 (crc32c b)

/-- A slot's 64 bytes: zeros when empty. -/
def State.slotBytes (s : State) (k : Nat) : List Byte := match Tab.find? s.evr.slots k with
  | some r => recordBytes r
  | none => List.replicate 64 0

/-- The recorder's own part changed. -/
def State.setRec (s : State) (r : RecSt) : State := { s with evr := r }

/-- Slot numbers of the protected region begin here (R341). -/
def protBase : Nat := 16384

/-- Free protected slots. -/
def State.protFree (s : State) : Nat := 16384 - (s.evr.slots.filter fun e => protBase ≤ e.1).length

/-- The next free protected slot from PROT_HEAD on, numbered from 0. -/
def State.freeProt (s : State) : Option Nat :=
  let h := s.get pgRec .PROT_HEAD
  ((List.range 16384).map fun i => (h + i) % 16384).find? fun k => (Tab.find? s.evr.slots (protBase + k)).isNone

/-- One record written to its region (R338, R341): a general one over the oldest, a protected one into a free slot. -/
def State.storeRecord (s : State) (r : Record) : State :=
  if protectedCode r.code then
    match s.freeProt with
    | none => s
    | some k =>
      let s := s.setRec { s.evr with slots := s.evr.slots.put (protBase + k) r, readMarks := s.evr.readMarks.filter (· != protBase + k) }
      s.put pgRec .PROT_HEAD (k + 1)
  else
    let k := s.get pgRec .GEN_HEAD
    (s.setRec { s.evr with slots := s.evr.slots.put k r }).put pgRec .GEN_HEAD (k + 1)

/-- The first record of the ledger entry whose last one is given (R272, R339). -/
def State.entryHead (s : State) (r : Record) : Option Record :=
  (List.find? (fun e => decide (e.2.code = 0x0F01 ∧ e.2.piece = 0 ∧ e.2.seq + r.piece = r.seq)) s.evr.slots).map (·.2)

/-- What storing a ledger entry's last record shows: the step's entry is stored, LEDGER_STEP of its partition (R272, R281). -/
def State.noteLedger (s : State) (r : Record) : State :=
  if r.code = 0x0F01 && r.piece = 6 then
    match s.entryHead r with
    | none => s
    | some h =>
      let k := (fieldAt h.payload 10 2 % 8, fieldAt h.payload 4 4)
      let s := match s.red.openStep.find? k with
        | some o => { s with red := { s.red with openStep := s.red.openStep.put k { o with stored := true } } }
        | none => s
      s.put (pgLink 0) .LEDGER_STEP k.2 k.1
  else s

/-- PROT_LOW follows PROT_FREE (R341). -/
def State.checkProt (s : State) : State :=
  let low := decide (s.protFree < 2048)
  let was := s.flag pgRec .PROT_LOW
  let s := s.put pgRec .PROT_LOW (b2n low)
  if low && !was then s.raise pgRec 0 else s

/-! ### Queues (R342, R343, R393) -/

/-- The records of an entry of several records (R339). -/
def entryRecords (r : Record) (bytes : List Byte) : List Record :=
  (List.range (ceilDiv bytes.length 30)).map fun j =>
    { r with piece := j, flags := r.flags ||| (if j = 0 then 0 else 2), payload := padTo 30 ((bytes.drop (30 * j)).take 30) }

/-- Records queued one after the other. -/
def State.enqueueAll (s : State) (l : List Record) : State := l.foldl (fun s r => s.enqueue r) s

/-- Pending protected records queued in the order of their events while places are free (R393). -/
def State.feedPending (s : State) : State :=
  s.evr.pendProt.foldl (fun s e =>
    if s.evr.queueProt.length < protLimit e.1 then
      (s.setRec { s.evr with pendProt := s.evr.pendProt.del e.1 }).enqueue e.2
    else s) s

/-- The waiting ledger entries of a partition queued while seven places are free behind every pending record, and while 263 protected slots stay free behind the queue, so that no entry holds up the records that the 256 slots are kept for (R274, R341, R342). -/
def State.feedLedger (s : State) (q : Nat) : State :=
  (s.noise.get q Noise.reset).waiting.foldl (fun s e =>
    let n := s.noise.get q Noise.reset
    if s.evr.pendProt.isEmpty && s.evr.queueProt.length + 7 ≤ 480 && s.evr.queueProt.length + 263 ≤ s.protFree then
      { s with noise := s.noise.put q { n with waiting := n.waiting.filter (· != e) } }.enqueueAll e.2
    else s) s

/-- Audit-trail entries that wait in the metering mirror queued while two places are free behind every pending record (R342, R393). -/
def State.feedAudit (s : State) : State :=
  s.evr.auditWait.foldl (fun s e =>
    if s.evr.pendProt.isEmpty && s.evr.queueProt.length + 2 ≤ 480 then
      (s.setRec { s.evr with auditWait := s.evr.auditWait.drop 1 }).enqueueAll e
    else s) s

/-- One DROPPED record once places are free again, under the limit of its pair (R343, R344). -/
def State.feedDropped (s : State) : State :=
  match s.evr.dropFirst with
  | none => s
  | some f =>
    if s.evr.queueGen.length < 4096 then
      let r := s.mkRecord 0x0002 pgRec (leBytes 4 s.evr.dropCount ++ leBytes 6 f ++ leBytes 6 s.evr.dropLast) (s.pageFrame pgRec)
      (s.setRec { s.evr with dropFirst := none, dropCount := 0 }).postGeneral r
    else s

/-- Everything that waits at its source queued as far as places are free. -/
def State.feed (s : State) : State := (allBeds.foldl (fun s q => s.feedLedger q) s.feedPending.feedAudit).feedDropped

/-! ### Batches (R343) -/

/-- Free slots that a record needs to be stored: a ledger entry 263 and an audit entry 2, both whole (R339, R341). -/
def recordSlots (r : Record) : Nat :=
  if r.piece ≠ 0 then 1 else if r.code = 0x0F01 then 263 else if r.code = 0x1001 then 2 else 1

/-- The protected records at the queue's head that free slots can take, in the order of the queue (R341). -/
def storableProt : Nat → List Record → List Record
  | _, [] => []
  | free, r :: t =>
    if free < recordSlots r then [] else r :: storableProt (free - 1) t

/-- Entries whole: a batch of at most 16 records that does not end within an entry (R339). -/
def cutBatch (l : List Record) : List Record :=
  let n := if l.length ≤ 16 then l.length
    else ((List.range 17).reverse.find? fun k => match l[k]? with
      | some r => !bitAt r.flags 1
      | none => true).getD 0
  l.take n

/-- The next batch: the lowest SEQs of what may be stored; a frozen general region takes none (R347). -/
def State.nextBatch (s : State) : List Record :=
  let gen := if s.flag pgRec .FROZEN then [] else s.evr.queueGen
  cutBatch (sortBy (fun a b => decide (a.seq ≤ b.seq)) (gen ++ storableProt s.protFree s.evr.queueProt))

/-- The records of a batch, which keep their places until they are stored (R343). -/
def State.takeBatch (s : State) : State := s.setRec { s.evr with batch := s.nextBatch }

/-- A batch and the counters, with the remainder of OP_SECONDS in ms, written to MRAM; the places are free again (R340, R343). -/
def State.writeBatch (s : State) : State :=
  let b := s.evr.batch
  let s := b.foldl (fun s r => (s.storeRecord r).noteLedger r) s
  let next := b.foldl (fun m r => max m (r.seq + 1)) s.evr.storedSeq
  let s := s.setRec { s.evr with
    batch := [], queueGen := s.evr.queueGen.filter (fun r => !b.contains r), queueProt := s.evr.queueProt.filter (fun r => !b.contains r)
    storedSeq := next, storedOp := s.get pgRec .OP_SECONDS, storedCycles := s.get pgRec .POWER_CYCLES, storedMs := s.evr.opNs / 1000000
    sinceBatch := 0 }
  s.checkProt.feed

/-- A batch store begins. -/
def State.beginBatch (s : State) : State := ((s.takeBatch.beginStore 0).put pgRec .STORING 1).put pgRec .WAIT_HOLDUP 0

/-- A store of a kind waits to begin: records for a batch, a trim step (R316), the boot header (R367). A firmware chunk's store begins with its command. -/
def State.storeWaits (s : State) (kind : Nat) : Bool :=
  if kind = 0 then !s.nextBatch.isEmpty
  else if kind = 2 then s.pw.trimWaiting
  else if kind = 3 then s.sec.hdrWaiting
  else false

/-- An internal store that waits begins, or is refused for lack of energy (R317). -/
def State.tryStore (s : State) (kind : Nat) : State :=
  if !s.pw.keeperOn || s.flag pgKeeper .STORE_ACTIVE || !s.storeWaits kind then s
  else if !s.canStore kind then
    let s := if kind = 0 then s.put pgRec .WAIT_HOLDUP 1 else s
    s.holdupLow
  else if kind = 0 then s.beginBatch
  else s.beginStore kind

/-- DURABLE_STORE_START (R317): with nothing waiting, or a store in progress, nothing happens (log 2). -/
def execDurableStoreStart (kind : Fin 4) (s : State) : Host.Outcome State Fault Refusal := .next (s.tryStore kind.val)

/-- DURABLE_STORE_RETRY (R317): an internal store retried while HOLDUP_LOW is set. -/
def execDurableStoreRetry (kind : Fin 4) (s : State) : Host.Outcome State Fault Refusal :=
  .next (if bitAt (s.get pgKeeper .EVT) 0 then s.tryStore kind.val else s)

/-- EVENT_BATCH_STORE (R343): the batch begins if the energy allows, and its records are written. -/
def execEventBatchStore (s : State) : Host.Outcome State Fault Refusal :=
  let t := if s.evr.batch.isEmpty then s.tryStore 0 else s
  .next (if t.flag pgKeeper .STORE_ACTIVE && t.get pgKeeper .STORE_KIND == 0 && !t.evr.batch.isEmpty then t.writeBatch else t)

/-- The 64 bytes of a boot header (R367): HDR_SEQ, ACTIVE, PENDING (0 none, 1 A, 2 B), ATTEMPTS, and a CRC-32C over bytes 0 to 59. -/
def bootHdrBytes (h : BootHdr) : List Byte :=
  let b := leBytes 4 h.seq ++ leBytes 1 h.active ++ leBytes 1 ((h.pending.map (· + 1)).getD 0) ++ leBytes 1 h.attempts ++ List.replicate 53 0
  b ++ leBytes 4 (crc32c b)

/-- A copy as the ROM reads it: none where its CRC is not valid (R367). -/
def bootHdrOf (b : List Byte) : Option BootHdr :=
  if b.length = 64 ∧ fieldAt b 60 4 = crc32c (b.take 60) then
    some ⟨fieldAt b 0 4, fieldAt b 4 1, if fieldAt b 5 1 = 0 then none else some (fieldAt b 5 1 - 1), fieldAt b 6 1⟩
  else none

/-- The valid copy of two with the higher HDR_SEQ, and its number. -/
def newerHdr : Option BootHdr → Option BootHdr → Option (Nat × BootHdr)
  | some a, some b => some (if a.seq < b.seq then (1, b) else (0, a))
  | some a, none => some (0, a)
  | none, some b => some (1, b)
  | none, none => none

/-- The copy of the boot header in force (R367). -/
def State.bootHdr (s : State) : Option (Nat × BootHdr) := newerHdr (bootHdrOf (s.sec.headers.get 0 [])) (bootHdrOf (s.sec.headers.get 1 []))

/-- An update of the boot header writes the other copy with the next HDR_SEQ (R367). -/
def State.writeHdr (s : State) : State :=
  let h := s.bootHdr
  let k := (h.map fun x => 1 - x.1).getD 0
  let n := (h.map fun x => x.2.seq + 1).getD 1
  { s with sec := { s.sec with
    headers := s.sec.headers.put k (bootHdrBytes ⟨n % 2 ^ 32, s.sec.active, s.sec.pending, s.sec.attempts⟩), hdrWaiting := false } }

/-- The boot header as the ROM reads it (R363, R367); without a valid copy what the keeper holds stays (log 97). -/
def State.readHdr (s : State) : State :=
  match s.bootHdr with
  | none => s
  | some h => { s with sec := { s.sec with
      active := h.2.active, pending := h.2.pending, attempts := h.2.attempts } }.put pgSec .FW_PENDING (b2n h.2.pending.isSome)

/-- The flash address of a header copy, and of an image of a slot: 0 keeper, 1 control processor (R367). -/
def hdrAddr (copy : Nat) : Nat := 0x8000 * copy
@[inherit_doc hdrAddr] def imageAddr (slot image : Nat) : Nat := 0x01000000 * (1 + slot) + 0x00100000 * image

/-- The byte of flash at an address (R367): a header copy or an image of a slot; what the device has not written is none of its own. -/
def State.flashByte (s : State) (a : Nat) : Option Byte :=
  if a < 0x10000 then (s.sec.headers.get (a / 0x8000) [])[a % 0x8000]?
  else if a < 0x01000000 ∨ 0x03000000 ≤ a then none
  else
    let f := s.sec.flash.get (a / 0x01000000 - 1) FwSlot.reset
    let o := a % 0x01000000
    if o < 0x00100000 then f.keeperImage[o]? else f.cpImage[o - 0x00100000]?

/-- What a store of a kind leaves when it ends: a batch's records, the trim in MRAM, the boot header. -/
def State.storeDone (s : State) (kind : Nat) : State :=
  if kind = 0 then (if s.evr.batch.isEmpty then s else s.writeBatch).put pgRec .STORING 0
  else if kind = 1 then { s with sec := { s.sec with chunkBusy := false } }
  else if kind = 2 then { s with pw := { s.pw with trim := s.get pgPower .TRIM_STEPS, trimWaiting := false } }
  else s.writeHdr

/-- The store in progress, if any, completes; its worst case is taken off (R317). -/
def State.finishStore (s : State) : State :=
  if s.flag pgKeeper .STORE_ACTIVE then
    let k := s.get pgKeeper .STORE_KIND
    ((s.storeDone k).put pgKeeper .STORE_ACTIVE 0).spend k
  else s

/-- DURABLE_STORE_COMPLETE (R317): a store that has started always completes. -/
def execDurableStoreComplete (s : State) : Host.Outcome State Fault Refusal := .next s.finishStore

/-! ### Counters (R340, R344) -/

/-- OP_SECOND (R340): one whole second outside Off, taken off the time that has accumulated. -/
def execOpSecond (s : State) : Host.Outcome State Fault Refusal :=
  if s.pw.power = .off || !s.pw.keeperOn then .next s
  else .next ((s.setRec { s.evr with sinceBatch := s.evr.sinceBatch + 1, opNs := s.evr.opNs - 1000000000 }).bump pgRec .OP_SECONDS)

/-- HOURS (R340): 3,600 operating seconds without another batch. -/
def execHours (s : State) : Host.Outcome State Fault Refusal :=
  if 3600 ≤ s.evr.sinceBatch && !(s.evr.queueGen.any fun r => r.code == 0x0005) then .next (s.record 0x0005 pgRec) else .next s

/-- REPEAT_SECOND (R344): one REPEAT record per suppressed pair (without the limit of a pair of its own), and a new second for this limit and that of R276. -/
def execRepeatSecond (s : State) : Host.Outcome State Fault Refusal :=
  let t := (s.evr.perSecond.filter fun e => 64 < e.2).foldl (fun t e =>
    t.queueGeneral (t.mkRecord 0x0006 pgRec (leBytes 4 e.1.1 ++ leBytes 2 e.1.2 ++ [0, 0] ++ leBytes 4 (e.2 - 64)) (t.pageFrame pgRec))) s
  .next { t with evr := { t.evr with perSecond := [] }, mem := { t.mem with denyCount := [] } }

/-! ### Freezing (R347) -/

/-- FREEZE asked for: no effect while frozen. -/
def State.askFreeze (s : State) : State :=
  if s.flag pgRec .FROZEN then s else s.setRec { s.evr with freezeAsked := true }

/-- The freeze ended: queued general records may be stored again. -/
def State.endFreeze (s : State) : State :=
  ((s.setRec { s.evr with freezeAsked := false }).put pgRec .FROZEN 0).put pgRec .FREEZE 0

/-- FREEZE (R347): a write of 1 to FREEZE_CTL.FREEZE. -/
def execFreeze (s : State) : Host.Outcome State Fault Refusal := .next (s.hostWriteL pgRec 0x07C 1 State.askFreeze)

/-- UNFREEZE (R347): a write of 1 to FREEZE_CTL.UNFREEZE. -/
def execUnfreeze (s : State) : Host.Outcome State Fault Refusal := .next (s.hostWriteL pgRec 0x07C 2 State.endFreeze)

/-- FREEZE_EFFECTIVE (R347): once no batch is being stored. -/
def execFreezeEffective (s : State) : Host.Outcome State Fault Refusal :=
  if s.evr.freezeAsked && !s.flag pgRec .STORING then
    .next (((s.setRec { s.evr with freezeAsked := false }).put pgRec .FROZEN 1).put pgRec .FREEZE 1)
  else .next s

/-- FREEZE_TIMEOUT (R347, R351): 200 ms after the freeze took effect. -/
def execFreezeTimeout (s : State) : Host.Outcome State Fault Refusal :=
  if s.flag pgRec .FROZEN then .next ((s.endFreeze.evt pgRec 2).record 0x0003 pgRec) else .next s

/-- A protected slot that was read marked READ (R346). -/
def State.markRead (s : State) (k : Nat) : State :=
  if protBase ≤ k && (Tab.find? s.evr.slots k).isSome then s.setRec { s.evr with readMarks := setMark s.evr.readMarks k true } else s

/-- RECORD_READ (R346): RECORD_15 of the selected slot, and its READ mark. -/
def execRecordRead (s : State) : Host.Outcome State Fault Refusal :=
  .next (s.onBar fun s =>
    let k := s.get pgRec .SLOT_SEL
    (s.markRead k).answer (fieldAt (s.slotBytes k) 60 4))

end Sys2Proof.Machine
end

