-- ==== Sys2Proof/Machine/Ledger.lean ====
section
/-! DEFINITION. The noise ledger and the noise generators (R270 to R274, R292). -/

namespace Sys2Proof.Machine

/-- The signed bytes of a ledger entry (R272). -/
def State.ledgerBody (s : State) (q step : Nat) (o : OpenStep) : List Byte :=
  let l := (sortBy (fun (a b : Nat × List Byte) => decide (a.1 ≤ b.1)) o.noised).flatMap (·.2)
  leBytes 2 1 ++ leBytes 2 (if armGroup o.file ≤ 1 then idNone else s.myId) ++ leBytes 4 step ++ leBytes 2 o.epoch ++
    leBytes 2 q ++ leBytes 4 (armId o.file) ++ leBytes 4 (inSec o.file 0x0B 8 4) ++ leBytes 4 (inSec o.file 0x0B 12 4) ++
    leBytes 4 o.samples ++ leBytes 4 o.noised.length ++ leBytes 4 o.noiseSat ++ leBytes 4 o.noiseFail ++
    leBytes 8 (s.get (pgLink 0) .RESEED_CNT q) ++ padTo 16 (if o.noised.isEmpty then [] else Config.sha384 l) ++
    leBytes 8 Config.serial.toNat ++ leBytes 8 o.settledAt ++ List.replicate 16 0

/-- The whole 192 bytes with the identity key's signature (R273). -/
def State.ledgerEntry (s : State) (q step : Nat) (o : OpenStep) : List Byte :=
  s.ledgerBody q step o ++ padTo 96 (Config.identitySign (s.ledgerBody q step o))

/-- The oldest settled step of a partition that needs an entry and has none. -/
def State.ledgerDue (s : State) (q : Nat) : Option (Nat × OpenStep) :=
  List.find? (fun e => hasNoise e.2.file && !e.2.entered && s.stepSettled q e.1 e.2) (s.openSteps q)

/-- LEDGER_ENTRY_WRITE (R272): the step's entry composed, signed and queued, or left waiting for room (R274). Not due, nothing happens (log 2). -/
def execLedgerEntryWrite (part : Bed) (s : State) : Host.Outcome State Fault Refusal :=
  let q := part.val
  match s.ledgerDue q with
  | none => .next s
  | some (step, o) =>
    let n := s.noiseOf q
    let r := s.mkRecord 0x0F01 (pgLink 0) [] (s.pageFrame (pgLink 0))
    let t := s.setNoise q { n with waiting := n.waiting ++ [(step, entryRecords r (s.ledgerEntry q step o))] }
    .next ((t.onStep q step fun o => { o with entered := true }).feed)

/-- Step s + 2 has begun after a step s, in the same job or in one that went on from it (R274). -/
def State.twoLater (s : State) (q step : Nat) (o : OpenStep) : Bool :=
  match s.stepAt q (nextStep (nextStep step)) with
    | some x => decide (o.first < x.first)
    | none => false

/-- The entry of some noised step s is not stored at the first tick of step s + 2 (R274). -/
def State.ledgerLate (s : State) (q : Nat) : Bool :=
  !s.flag (pgLink 0) .LEDGER_STALL q &&
    (s.openSteps q).any fun e => hasNoise e.2.file && !e.2.stored && s.twoLater q e.1 e.2

/-- LEDGER_STALL (R274, R351): the device enters Hold and writes no further noise. Not due, nothing happens (log 2). -/
def execLedgerStall (part : Bed) (s : State) : Host.Outcome State Fault Refusal :=
  let q := part.val
  if s.ledgerLate q then
    let s := (s.put (pgLink 0) .LEDGER_STALL 1 q).evt (pgLink 0) 5
    .next ((s.record 0x0F10 (pgLink 0)).enterHold 8)
  else .next s

/-- DRBG_RESEED (R270, R271): ok tells whether the entropy source delivers. The reseed after 65,536 requests at once; that of a stopped generator at the step boundary that is due, whose tick this is. Not due, nothing happens (log 2). -/
def execDrbgReseed (part : Bed) (ok : Bool) (s : State) : Host.Outcome State Fault Refusal :=
  let q := part.val
  let n := s.noiseOf q
  .next (if n.stopped then
      if s.tickDue (s.leadBed q) && s.atBoundary (s.leadBed q) then
        ({ s with sec := { s.sec with sourceFailed := !ok } }).tick (s.leadBed q)
      else s
    else if 65536 ≤ n.requests then (if ok then s.reseedOk q else s.reseedFail q)
    else s)

/-- ENTROPY_HEALTH_FAIL (R271, R292): every instantiated generator stops; ES_FAIL. -/
def execEntropyHealthFail (s : State) : Host.Outcome State Fault Refusal :=
  if s.pw.keeperOn then
    let t := allBeds.foldl (fun t q =>
      if (t.noiseOf q).inst.isSome then
        (t.setNoise q { t.noiseOf q with stopped := true }).put (pgLink 0) .PRIV_ES_FAIL 1 q
      else t) s
    .next (({ t with sec := { t.sec with sourceFailed := true } }.put pgSec .SEC_ES_FAIL 1).raise pgSec 5)
  else .next s

end Sys2Proof.Machine
end

