-- ==== Sys2Proof/Machine/Session.lean ====
section
/-! DEFINITION. Confidential sessions (R289 to R293): keys derived and installed, the phases of an opening, and SCRUB_DONE, which ends the openings and closings that wait for a scrub. -/

namespace Sys2Proof.Machine

/-! ### Keys (R292) -/

/-- The keys of a session from its root, id and the export secret of the SPDM session that opens it. -/
def sessionKeys (p : Nat) (id root exportSecret : List Byte) : Keys :=
  let prk := Config.hkdfExtract id root
  { root := root, prk := prk, memKey := Config.hkdf prk (ascii "VLN-MEM" ++ leBytes 1 p) 64,
    linkKey := Config.hkdf prk (ascii "VLN-LINK") 32, groupKey := [],
    inKey := Config.hkdf exportSecret (ascii "VLN-INGRESS") 32 }

/-- SEALED_SEQ of a partition's 16 counters at 0, as when IN_KEY is installed (R361). -/
def State.clearSealed (s : State) (p : Nat) : State :=
  (List.range 16).foldl (fun s q => s.put pgPcie .SEALED_SEQ 0 (8 * q + p)) s

/-- The bridge key slots loaded and ENC_EN set, with the scrub that both start (R185, R290). -/
def State.keyBridges (s : State) (p : Nat) : State :=
  (s.partBeds p).foldl (fun s b =>
    (((s.put (pgBridge b) .KEY_VALID 1).bump (pgBridge b) .KEY_EPOCH).put (pgBridge b) .ENC_EN 1).startScrub b) s

/-! ### Opening (R290) -/

/-- Phases 1 to 4: roster, GRANT_SEQ and SESSION_ID stored, keys derived and installed, ENC_EN set, the scrub begun. Outside any group LK is the link key (R291, R293). -/
def State.beginSession (s : State) (p grantSeq : Nat) (group tenant exportSecret : List Byte) (roster : List (Nat × List Byte))
    (digest : List Byte) : State :=
  let id := s.drawBytes 16
  let root := id.2.drawBytes 48
  let keys := sessionKeys p id.1 root.1 exportSecret
  let s := root.2.setSession p
    { id := id.1, group := group, grantSeq := grantSeq, roster := roster, rosterDigest := digest, tenant := tenant,
      keys := some keys, closing := false, dormantScrub := false, peers := [] }
  let s := ((s.setSessionState p 1).put pgSec .MEM_KEYED 1 p).put pgSec .SESSION_ID_LO (leNat (id.1.take 8)) p
  let s := (s.clearSealed p).keyBridges p
  if roster.isEmpty then s.seqNow p else s

/-- Phases 5 and 6: the guard with its count of denied lines at 0 (R282), the locked pages, the noise generator, SESSION_OPEN; then the link-key agreement. -/
def State.finishOpen (s : State) (p : Nat) : State :=
  let s := (s.partBeds p).foldl (fun s b => (s.put (pgBridge b) .GUARD_ACTIVE 1).put (pgBridge b) .EGRESS_DENY 0) s
  let s := (s.sessionPages p).foldl (fun s q => s.doLock q) s
  (((s.seedNoise p).setSessionState p 2).raise pgSec 1 (s.attribution p)).tryKey p

/-- SCRUB_DONE (R185, R290, R295): SCRUB_BUSY clears; with the partition's last bridge done, a session that opens or closes goes on. Without a scrub nothing happens (log 2). -/
def execScrubDone (bridge : Bed) (s : State) : Host.Outcome State Fault Refusal :=
  let b := bridge.val
  if !s.flag (pgBridge b) .SCRUB_BUSY then .next s
  else
    let s := (s.put (pgBridge b) .SCRUB_BUSY 0).raise (pgBridge b) 1
    let p := s.partOf b
    if (s.partBeds p).any fun x => s.flag (pgBridge x) .SCRUB_BUSY then .next s
    else if s.sessionState p = 1 then .next (s.finishOpen p)
    else if s.sessionState p = 3 then .next (s.finishClose p)
    else .next s

end Sys2Proof.Machine
end

