-- ==== Sys2Proof/Machine/Power.lean ====
section
/-! DEFINITION. Power, clocks and thermal responses (R300 to R316), power states (R304 to R306, R392), resets and boot (R363, R372, R381, R382), and the control processor's restart (R352). -/

namespace Sys2Proof.Machine

/-! ### Inputs (R300, R301, R313, R392) -/

/-- The power part changed. -/
def State.setPw (s : State) (p : PowerSt) : State := { s with pw := p }

/-- The island's part changed. -/
def State.setIsl (s : State) (x : IslandSt) : State := { s with isl := x }

/-- An entry of the ring of 256: 1 seal change, 2 power failure, 3 OVERRANGE, 4 FAULT (R334). -/
def IslandSt.log (x : IslandSt) (kind : Nat) : IslandSt :=
  let l := x.ring ++ [(kind, x.tenths / 10)]
  { x with ring := l.drop (l.length - 256) }

/-- Energy of one impulse: 360 J in µJ (R325). -/
def pulseEnergy : Nat := 360000000

/-- Registers as they were last committed; of the committed TOTAL, what lies below a whole impulse is carried on (R325, R327, log 98). -/
def IslandSt.resume (x : IslandSt) : IslandSt :=
  { x with total := x.committed.1, aux := x.committed.2.1, unattrib := x.committed.2.2.1, beds := x.committed.2.2.2,
           pulseCarry := x.committed.1 % pulseEnergy }

/-- The island without power: what it did not commit is lost, and so are its flags and an image that had begun to arrive (R327, R328). -/
def IslandSt.powerLost (x : IslandSt) : IslandSt :=
  { x.resume with ready := false, fault := false, ranged := false, load := none, image := [], sinceGood := 0 }

/-- The 40 V stage is down: Off, and neither in power-up nor in reset (R304, R382). -/
def State.stageDown (s : State) : Bool := s.pw.power == .off && !s.pw.stage40 && !s.pw.inReset

/-- VIN_40 in mV is inside 36 to 44 V. -/
def vinOk (mv : Nat) : Bool := decide (36000 ≤ mv ∧ mv ≤ 44000)

/-- VIN_EXCURSION (R300): outside 36 to 44 V forces Floor, outside 32 to 48 V shuts the 40 V stage down; without the keeper's power the input is only as it is (R381). -/
def execVinExcursion (millivolts : Nat) (s : State) : Host.Outcome State Fault Refusal :=
  if vinOk millivolts then .next s
  else if !s.pw.keeperOn then .next (s.setPw { s.pw with vin := millivolts })
  else
    let t := s.setPw { s.pw with vin := millivolts }
    if millivolts < 32000 || 48000 < millivolts then .next (t.enterOff 2)
    else if s.stageDown then .next t
    else .next (t.floorCause .vin 2 0)

/-- VIN_RESTORE (R392): VIN_40 returns inside its range, which arms power-up and clears its Floor cause. -/
def execVinRestore (millivolts : Nat) (s : State) : Host.Outcome State Fault Refusal :=
  if vinOk millivolts && !vinOk s.pw.vin then
    .next ((s.setPw { s.pw with vin := millivolts, armed := true }).floorClear .vin)
  else .next s

/-- INPUT_OVERCURRENT (R300): treated as power above the cap at the next tick. -/
def execInputOvercurrent (watts : Nat) (s : State) : Host.Outcome State Fault Refusal :=
  if s.inRun then .next ((s.setPw { s.pw with overCap := true }).put pgPower .WATTS (min watts 8191)) else .next s

/-- VAUX_LOW (R300, R295, R334): sessions end with the loss of VAUX, the 40 V stage is shut down, and the island logs a power failure. -/
def execVauxLow (s : State) : Host.Outcome State Fault Refusal :=
  if s.pw.keeperOn && s.pw.vauxOk then
    .next (((s.setPw { s.pw with vauxOk := false }).setIsl (s.isl.log 2)).endSessions.enterOff 2)
  else .next s

/-- CONVERTER_FAULT (R301): each report recorded by name, Floor forced; two modules at once shut the stage down. With nothing reported the converters are well again. -/
def execConverterFault (modules : List Nat) (regulators : List Nat) (s : State) : Host.Outcome State Fault Refusal :=
  if s.stageDown then .next s
  else
    let down := decide (2 ≤ modules.length)
    let names := modules.map (· % 8) ++ regulators.map (fun r => 128 + r % 128)
    match names with
    | [] => .next (s.floorClear .converter)
    | x :: rest =>
      let pay := fun (n : Nat) => leBytes 1 n ++ leBytes 1 (b2n down)
      let t := s.floorCause .converter 3 0x0340 (pay x)
      let t := rest.foldl (fun t n => t.record 0x0340 pgPower (pay n)) t
      .next (if down then t.enterOff 3 else t)

/-- PWR_ALERT (R313): ignored outside Run, Floor and Hold (R378). -/
def execPwrAlert (s : State) : Host.Outcome State Fault Refusal :=
  if s.inRun || s.pw.power = .hold then .next ((s.setPw { s.pw with alertPin := true }).floorCause .alert 1 0) else .next s

/-- FLOOR_EXIT (R305, R311): every Floor cause has been clear for 1 ms; VIN_40 tells for itself. The planned point follows at a tick, at once where no bed runs. -/
def execFloorExit (s : State) : Host.Outcome State Fault Refusal :=
  if s.pw.causes.contains .vin || !(s.pw.power == .floor || s.pw.power == .hold) then .next s
  else
    let t := s.setPw { s.pw with causes := [], alertPin := false, wantFloorExit := s.pw.power == .floor }
    .next (if s.lowestRunning.isNone then t.setClock else t)

/-! ### Droop and margin (R311, R316) -/

/-- DROOP_DETECT (R154, R311): the stretcher engages unless its response is suppressed; edges counts the clock edges removed, which every bed's frame then lacks. -/
def execDroopDetect (edges : Nat) (s : State) : Host.Outcome State Fault Refusal :=
  if (s.inRun || s.pw.power = .hold) && !s.pw.suppressed then
    let t := s.setPw { s.pw with stretch := true, stretchSeen := true, droopAt := s.time.now }
    let t := (allBeds.filter fun b => (s.bed b).origin).foldl (fun (t : State) b => t.setBed b { t.bed b with stretched := (t.bed b).stretched + edges }) t
    .next ((t.bump pgPower .DROOP_CNT).bump pgPower .STRETCH_CYC edges)
  else .next s

/-- SUSTAINED_DROOP (R311): the stretcher is released and Floor forced; one record for the cause. -/
def execSustainedDroop (s : State) : Host.Outcome State Fault Refusal :=
  if (s.inRun || s.pw.power = .hold) && s.pw.stretch then .next ((s.floorCause .droop 4 0x0327).evt pgPower 7) else .next s

/-- MARGIN_CHECK (R316): the monitor with least slack; below its threshold the margin rises at the next tick, at once where no bed runs. -/
def execMarginCheck (monitor : Nat) (below : Bool) (s : State) : Host.Outcome State Fault Refusal :=
  if !s.inRun then .next s
  else
    let t := s.put pgPower .WORST_MON (monitor % 512)
    let n := t.get pgPower .TRIM_STEPS
    if !below || 40 ≤ n then .next t
    else .next (if s.lowestRunning.isNone then t.raiseTrim else t.setPw { t.pw with trimDue := true })

/-! ### Flow and thermal (R312, R314) -/

/-- FLOW_FAULT (R312): Hold, and the budgets of classes 1 to 3 at 0 while the pin is asserted; ignored in Dormant and Off (R378). -/
def execFlowFault (s : State) : Host.Outcome State Fault Refusal :=
  if s.inRun || s.pw.power = .hold then
    let t := (s.setPw { s.pw with flowPin := true }).setMem { s.mem with budgetZero := true }
    .next ((t.raise pgPower 1).enterHold 5)
  else .next s

/-- FLOW_FAULT_CLEAR (R312): the pin is released and memory serves what waited for it; the device stays where it is. -/
def execFlowFaultClear (s : State) : Host.Outcome State Fault Refusal :=
  .next ((s.setPw { s.pw with flowPin := false }).setMem { s.mem with budgetZero := false }).serveWaits

/-- The bridges made ready for self-refresh: every dirty line written back, every line freed (R191); then the entry to Dormant begins. -/
def State.enterDormant (s : State) (cause : Nat) : State :=
  ((s.mem.cache.map (·.1)).foldl (fun s l => s.releaseLine l) s).beginTransition .dormant cause

/-- FLOW_FAULT_DORMANT (R305, R312): the fault held for 5 s in Hold; a device that only a reset takes out of Hold stays (R352). -/
def execFlowFaultDormant (s : State) : Host.Outcome State Fault Refusal :=
  if s.pw.power = .hold && s.pw.flowPin && !s.pw.resetLatch && s.pw.transition.isNone && allBeds.all s.bedQuiet then .next (s.enterDormant 5)
  else .next s

/-- THERM_TRIP (R314): a comparator at 108 °C; the converters are disabled, in reset too, and the trip is latched. -/
def execThermTrip (sensor celsius : Nat) (s : State) : Host.Outcome State Fault Refusal :=
  if s.stageDown || celsius < 108 then .next s
  else
    let t := s.setPw { s.pw with thermLatch := true, thermTripPin := true, tj := celsius }
    let t := ((t.put pgPower .TJ_MAX (min celsius 255)).put pgPower .SENSOR sensor)
    .next ((t.record 0x0D40 pgKeeper (leBytes 1 sensor ++ leBytes 1 (min celsius 255))).enterOff 6)

/-- A thermal throttle step: boost steps go first in free mode, then one clock point, down to Floor (R314). -/
def State.thermStep (s : State) : State :=
  let s := s.setPw { s.pw with thermAt := some s.time.now }
  let s := if s.flag pgPower .MODE_NOW && 0 < s.pw.boost then s.setPw { s.pw with boost := s.pw.boost - 1 }
    else if s.pw.planPoint + s.pw.thermSteps < 2 then s.setPw { s.pw with thermSteps := s.pw.thermSteps + 1 } else s
  let s := if s.flag pgPower .THROTTLED then s else (s.put pgPower .THROTTLED 1).raise pgPower 2
  if s.lowestRunning.isNone then s.setClock else s

/-- JUNCTION_SENSOR_READ (R310, R314, R382): the hottest sensor, whose reading counts for the trip's release in every power state; at 98 °C or more a step at once and one for each further 1 ms. -/
def execJunctionSensorRead (sensor celsius : Nat) (s : State) : Host.Outcome State Fault Refusal :=
  let s := s.setPw { s.pw with tj := celsius, hotAt := if 90 ≤ celsius then some s.time.now else s.pw.hotAt }
  if s.pw.power = .off || s.pw.power = .dormant then .next s
  else
    let t := (s.put pgPower .TJ_MAX (min celsius 255)).put pgPower .SENSOR sensor
    if celsius < 98 then .next (t.setPw { t.pw with thermAt := none })
    else if !t.inRun then .next t
    else match t.pw.thermAt with
      | none => .next t.thermStep
      | some a => .next (if a + 1000000 ≤ t.time.now then t.thermStep else t)

/-- THROTTLE_RESTORE (R314): 10 ms at or below 95 °C restore one point. -/
def execThrottleRestore (s : State) : Host.Outcome State Fault Refusal :=
  if s.get pgPower .TJ_MAX ≤ 95 && s.flag pgPower .THROTTLED then
    let t := s.setPw { s.pw with thermSteps := s.pw.thermSteps - 1 }
    let t := if t.pw.thermSteps = 0 then t.put pgPower .THROTTLED 0 else t
    .next (if t.lowestRunning.isNone then t.setClock else t)
  else .next s

/-! ### What the switched-off domains lose (R302, R372, R382) -/

/-- Pages of domains that stay on with VAUX, or whose registers a later section resets by name. -/
def keptPage (k : PageKind) : Bool := k = .keeper || k = .recorder || k = .security || k = .mirror

/-- The clusters off: cores, local stores, vector registers and the cores' pages at reset, but for their locks (R38). -/
def State.wipeCores (s : State) : State :=
  { s with
    cores := { State.reset.cores with tscale := s.cores.tscale }
    regs := s.regs.delIf fun k => (k.page.kind == .cluster || k.page.kind == .coreSub0 || k.page.kind == .coreSub1 ||
      k.page.kind == .coreSub2 || k.page.kind == .coreSub3) && k.fld != .LOCKED }

/-- Everything in domains 0 to 74 at reset: registers, staging sets, beds, partitions, armatures, engines, queues; memory of undefined content (R372, R382). The margin keeps its steps, which never decrease while the keeper has power (R316), and ledger entries that wait for a place go on waiting (R393). -/
def State.wipeDevice (s : State) : State :=
  let s := allBeds.foldl (fun s b => s.setMem (s.mem.forget b)) s
  let m := s.mem
  let trim := s.get pgPower .TRIM_STEPS
  { s with
    regs := s.regs.delIf fun k => !keptPage k.page.kind
    latches := [], coarse := [], staging := [], directory := none, stops := [], halted := [], once := [], beds := [], parts := [], arms := []
    cores := State.reset.cores
    mem := { m with cache := [], used := [], farUsed := [], overRest := [], waiting := [], served := [], chErrors := [], chFails := [], chBusy := [], budgetZero := false, denyCount := [] }
    upd := State.reset.upd, fab := State.reset.fab, red := State.reset.red
    noise := s.noise.map fun (e : Nat × Noise) => (e.1, { Noise.reset with waiting := e.2.waiting })
    host := { State.reset.host with eid := s.host.eid }
    sec := { s.sec with chunkBusy := false } }.put pgPower .TRIM_STEPS trim

/-- The power part with the device down: causes, throttles, droop and control-processor marks cleared. -/
def PowerSt.down (p : PowerSt) : PowerSt :=
  { p with power := .off, transition := none, causes := [], alertPin := false, flowPin := false, stage40 := false, bootPhase := 1,
           recovery := false, cpRestarting := false, cpRestarts := [], resetLatch := false, boost := 0, planPoint := 0,
           overCap := false, thermSteps := 0, thermAt := none, capStack := [], stretch := false, stretchSeen := false,
           suppressed := false, trimDue := false, wantFloorExit := false, d2dDown := [], wedged := false, bootFailed := [], inReset := false }

/-- What Off leaves of the switched-off domains' registers: locks, which clear on device reset or UNLOCK alone (R38), fences and the counters of sealed descriptors, which clear on device reset alone (R189, R361), and the beds' origin and counters with the TIME_REF state, which Cold Frame holds (R135, R308). -/
def coldField (k : FieldKey) : Bool :=
  k.fld == .LOCKED || [Fld.SEALED_SEQ, .FENCED_MAP, .DEGRADED, .TREF_EN, .TREF_LOCKED, .HOLDOVER, .ORIGIN_TIME, .ORIGIN_FRAME, .FRAME_NUMBER, .FRAME_IN_STEP, .STEP_CNT, .EPOCH_CNT].contains k.fld

/-- What Off leaves of a bed: its origin (R135) and the anchor of its active armature, whose file the stacks lose (R308). -/
def BedSt.cold (x : BedSt) : BedSt := { BedSt.reset with anchor := x.anchor, origin := x.origin, started := x.started, first := x.first, us := x.us }

/-- Off reached (R304, R392): domains 75 to 77 stay on; power-up is disarmed. A partition count with an open session is kept for it (log 47). -/
def State.reachOff (s : State) : State :=
  let parts := if s.anySession then s.get pgGlobals .PART_LOG2 else 0
  let cause := s.get pgPower .PM_CAUSE
  let regs := s.regs.filter fun e => coldField e.1 && !keptPage e.1.page.kind
  let beds := s.beds.map fun e => (e.1, e.2.cold)
  let s := s.wipeDevice
  let s := { s with regs := s.regs ++ regs, beds := beds }
  let s := (s.setPw { s.pw.down with armed := false }).put pgPower .PM_CAUSE cause
  (s.put pgGlobals .PART_LOG2 parts).setDomains (domainWords .off false)

/-! ### Transitions (R303, R305, R306) -/

/-- Every bridge put to sleep: stacks in self-refresh, key slots clear (R191, R307). -/
def State.sleepBridges (s : State) : State :=
  allBeds.foldl (fun s b =>
    let s := (s.put (pgBridge b) .BR_SELF_REFRESH 1).put (pgBridge b) .KEY_VALID 0
    [0, 1, 2, 3].foldl (fun s k => s.put (pgMc (4 * b + k)) .MC_SELF_REFRESH 1) s) s

/-- Every bridge awake again with its partition's key (R191); a close run in Dormant begins its scrub (R307). -/
def State.wakeBridges (s : State) : State :=
  let s := allBeds.foldl (fun s b =>
    let key := (s.session (s.partOf b)).keys.isSome
    let s := (s.put (pgBridge b) .BR_SELF_REFRESH 0).put (pgBridge b) .KEY_VALID (b2n key)
    [0, 1, 2, 3].foldl (fun s k => s.put (pgMc (4 * b + k)) .MC_SELF_REFRESH 0) s) s
  allBeds.foldl (fun s p =>
    if (s.session p).dormantScrub then
      (s.partBeds p).foldl (fun s b => s.startScrub b) (s.setSession p { s.session p with dormantScrub := false })
    else s) s

/-- The file in a slot is the one that an anchor names (R149). -/
def State.anchored (s : State) (p k : Nat) (a : Anchor) : Bool := decide (Config.sha384 (s.fileRead p k) = a.digest)

/-- The copy and the check of R149 at Dormant exit, of the active and of a pending armature: the lists are read again from the region; a file whose digest differs from the anchor is unloaded, its bed left HELD, with a record. -/
def State.checkAnchor (s : State) (b : Nat) : State :=
  let p := s.partOf b
  let bad := fun (s : State) (k : Nat) (a : Anchor) =>
    if s.anchored p k a then s.copyLists b k
    else (((s.dropPending b).unloadSlot p k).setSeq b seqHeld).record 0x0440 (pgBed b) (leBytes 4 a.armId)
  let s := match (s.bed b).active, (s.bed b).anchor with
    | some k, some a => bad s k a
    | _, _ => s
  match (s.bed b).pend with
  | none => s
  | some x => match x.anchor with
    | some a => bad s x.slot a
    | none => s

/-- Ports: every up port on its dormant lane and a training one undriven; or, after a heartbeat with DORMANT clear on that lane, training again, with every other port that CTL.RUN lets (R238, R221, R378). -/
def State.dormantPorts (s : State) : State :=
  allPorts.foldl (fun s p => if s.portUp p then (s.put (pgPort p) .LINK_STATE 4).put (pgPort p) .LANES_UP 1
    else if s.link p = 1 then s.portDown p 0 else s) s
@[inherit_doc State.dormantPorts] def State.wakePorts (s : State) : State :=
  allPorts.foldl (fun s p => if s.link p = 4 then (if s.beats p then s.sendBeat p else s).train p
    else if s.link p = 0 && s.flag (pgPort p) .RUN && !s.flag (pgPort p) .PORT_FENCED then s.train p else s) s

/-- The host link lost, or a function-level reset (R372): queues disabled, their in-flight descriptors ending by their own commands, the mailbox cleared, APERTURE and configuration space reset. -/
def State.resetEndpoint (s : State) : State :=
  ({ s with host := { s.host with config := [] } }.resetFields pgPcie [.DMAQ_EN, .MBX_GO, .MBX_HALT, .MBX_STATUS, .MBX_LEN, .MBX_RSP_LEN, .MBX_BUF, .APERTURE_PART, .APERTURE_BASE]).raise pgPcie 2

/-- The host link as training leaves it: x16 at 64 GT/s (log 48). -/
def State.linkTrained (s : State) : State := (s.put pgPcie .LINK_GEN 6).put pgPcie .LINK_WIDTH 16

/-- POWER_TRANSITION_COMPLETE (R305): PM_STATE takes the new state; Off waits for a started store (R317). Dormant takes the host link down, which resets the endpoint, and its end brings it up again (R302, R372). The end of Hold to Run is CLUSTERS_ON, that of a power-up BOOT. -/
def execPowerTransitionComplete (s : State) : Host.Outcome State Fault Refusal :=
  match s.pw.transition with
  | none => .next s
  | some .run => .next s
  | some .floor => .next s
  | some .hold =>
    if s.pw.power = .off then .next s
    else if s.pw.power = .dormant then
      let t := (s.setPower .hold).wakeBridges.wakePorts.linkTrained
      .next (allBeds.foldl (fun t b => t.checkAnchor b) t)
    else .next (s.wipeCores.setPower .hold)
  | some .dormant =>
    let t := (s.sleepBridges.dormantPorts.setPower .dormant).resetEndpoint
    .next (({ t with host := { t.host with waits := [] } }.put pgPcie .LINK_GEN 0).put pgPcie .LINK_WIDTH 0)
  | some .off => .next (if s.flag pgKeeper .STORE_ACTIVE then s else s.reachOff)

/-- CLUSTERS_ON (R303, R305): Hold to Run ends; a Floor cause still active leads to Floor. -/
def execClustersOn (s : State) : Host.Outcome State Fault Refusal :=
  if s.pw.power = .hold && s.pw.transition = some .run then
    let t := s.setPower (if s.pw.causes.isEmpty then .run else .floor)
    .next t.setClock
  else .next s

/-- What SET_POWER_STATE answers and does (R305, R352): a device that only a reset takes out of Hold changes nothing; target codes are those of PM_STATE, 0 for Off (log 11). -/
def State.askPower (s : State) (target : Nat) : Nat × State :=
  if 5 ≤ target then (stBadArg, s)
  else if target = 0 then (if s.stageDown || s.pw.resetLatch then (stConflict, s) else (stOk, s.enterOff 0))
  else if s.pw.transition.isSome then (stBusy, s)
  else if target = 3 && s.inRun then (stOk, s.enterHold 0)
  else if target = 3 && s.pw.power = .dormant then (stOk, s.beginTransition .hold 0)
  else if target = 1 && s.pw.power = .hold && !s.pw.flowPin && !s.pw.resetLatch then (stOk, s.beginTransition .run 0)
  else if target = 4 && s.pw.power = .hold && allBeds.all s.bedQuiet && !s.pw.resetLatch then (stOk, s.enterDormant 0)
  else (stConflict, s)

/-! ### Power-up, reset and boot (R297, R363, R365, R381, R382, R392) -/

/-- POWER_UP (R381): the conditions of the third row hold, of which the release of both reset pins is what this command tells (log 98), and power-up is armed (R392); the transition to Hold is in progress until boot ends (R305), and the ROM reads the boot header (R363). -/
def execPowerUp (s : State) : Host.Outcome State Fault Refusal :=
  if s.pw.keeperOn && s.pw.vauxOk && s.pw.armed && s.pw.power = .off && !s.pw.stage40 && !s.pw.thermLatch && vinOk s.pw.vin &&
      s.isl.ready then
    .next (s.setPw { s.pw with stage40 := true, bootPhase := 3, thermTripPin := false, transition := some .hold, inReset := false }).readHdr
  else .next s

/-- A slot's images pass the ROM's checks (R296, R297). -/
def State.imageOk (s : State) (k : Nat) : Bool :=
  let f := s.sec.flash.get k FwSlot.reset
  f.ok && decide (s.get pgSec .FUSE_COUNT ≤ f.svn) && decide (f.keeperImage.length ≤ 1048576) &&
    decide (f.cpImage.length ≤ 3145728)

/-- A slot that failed is not tried again in this boot. -/
def State.markFailed (s : State) (k : Nat) : State := s.setPw { s.pw with bootFailed := k :: s.pw.bootFailed }

/-- The pending slot given up after two failed attempts (R297). -/
def State.fallBack (s : State) (k : Nat) : State :=
  (({ s with sec := { s.sec with pending := none } }.put pgSec .FW_PENDING 0).raise pgSec 4).markFailed k

/-- The slot that the ROM tries: the pending one while its attempt count is below 2, else the active one, else the other one; none once both have failed (R297, log 84). -/
def State.bootSlot (s : State) : Option Nat :=
  let rest := [s.sec.active, 1 - s.sec.active].find? fun k => !s.pw.bootFailed.contains k
  match s.sec.pending with
  | some k => if s.sec.attempts < 2 then some k else rest
  | none => rest

/-- A try failed: an attempt of the pending slot, the second of which gives it up; any other slot at once (R297). -/
def State.failSlot (s : State) (k : Nat) : State :=
  if s.sec.pending = some k then
    let n := s.sec.attempts + 1
    let s := { s with sec := { s.sec with attempts := n, hdrWaiting := true } }
    if n < 2 then s else s.fallBack k
  else s.markFailed k

/-- Bridges and ports as boot leaves them: trained, CTL.RUN 1, ports training (R192, R245, R363). -/
def State.bootPages (s : State) : State :=
  let s := allBeds.foldl (fun s b =>
    let s := (s.put (pgBridge b) .BR_TRAINED 1).put (pgBridge b) .RUN 1
    [0, 1, 2, 3].foldl (fun s k => s.put (pgMc (4 * b + k)) .MC_TRAINED 1) s) s
  let s := allPorts.foldl (fun s p => (s.put (pgPort p) .RUN 1).train p) s
  [⟨.pageDirectory, 0⟩, pgCp, pgLink 0, pgLink 1, pgSec].foldl (fun s p => s.put p .RUNNING 1) s

/-- A session that Cold Frame kept through Off has its keys, guard and locks again, and the scrub that the key's installation starts; a closing one runs its scrub now; a group's link key waits for alignment (R185, R293, R295, log 47). -/
def State.bootSession (s : State) (p : Nat) : State :=
  if s.sessionState p = 0 then s
  else if s.sessionState p = 3 then
    (s.partBeds p).foldl (fun s b => s.startScrub b) (s.setSession p { s.session p with dormantScrub := false })
  else
    let s := (s.partBeds p).foldl (fun s b =>
      ((((s.put (pgBridge b) .KEY_VALID 1).bump (pgBridge b) .KEY_EPOCH).put (pgBridge b) .ENC_EN 1).put (pgBridge b)
        .GUARD_ACTIVE (b2n (s.sessionOpen p))).startScrub b) s
    let s := if s.sessionOpen p then (s.sessionPages p).foldl (fun s q => s.doLock q) s else s
    (s.setSession p { s.session p with peers := [] }).put pgSec .LINK_KEYED 0 p

/-- The content of measurement 4 (R288): owner slot, FUSE_COUNT, partition count, revocation fuses of the firmware keys and of the owner slots. -/
def State.hardwareConfig (s : State) : List Byte :=
  leBytes 1 (s.get pgSec .OWNER_SLOT) ++ leBytes 1 (s.get pgSec .FUSE_COUNT) ++ leBytes 1 s.partCount ++
    leBytes 1 (s.sec.keyRevoked.foldl (fun a k => a + 2 ^ k) 0) ++ leBytes 1 (bitMap 4 fun k => (s.sec.owners.getD k ([], false)).2)

/-- A slot booted: measured, the page directory fixed, the BOOT record, PM_STATE Hold and BOOT_DONE 1 (R363). The host link is trained at x16, 64 GT/s (log 48). -/
def State.bootWith (s : State) (k : Nat) : State :=
  let f := s.sec.flash.get k FwSlot.reset
  let fresh := s.sec.pending == some k
  let s := { s with sec := { s.sec with
    booted := k, active := k, attempts := if fresh then 0 else s.sec.attempts, pending := if fresh then none else s.sec.pending,
    hdrWaiting := s.sec.hdrWaiting || fresh || s.sec.active != k, bootedNew := s.sec.bootedNew || fresh } }
  let s := ((s.put pgSec .FW_SLOT k).put pgSec .FW_VERSION f.version).put pgSec .FW_SVN f.svn
  let s := if fresh then s.put pgSec .FW_PENDING 0 else s
  let s := { s.bootPages with directory := some (s.get pgGlobals .PART_LOG2) }
  let s := (s.setPw { s.pw with bootPhase := 6 }).setPower .hold
  let s := allBeds.foldl (fun s p => s.bootSession p) s.seqFromTime
  let s := { s with sec := { s.sec with measure4 := s.hardwareConfig } }
  let s := s.linkTrained.put pgPcie .BOOT_DONE 1
  s.record 0x0004 pgRec (leBytes 4 (s.get pgRec .POWER_CYCLES) ++ leBytes 1 k)

/-- Recovery (R365): domain 72 off, so that the host sees no link. -/
def State.enterRecovery (s : State) : State :=
  ({ s with host := { s.host with linkL0 := false } }.setPw { s.pw with recovery := true }).put pgPower .DOMAIN_ON (s.get pgPower .DOMAIN_ON 2 &&& 0xFEFF) 2

/-- A try of a slot: booted when its images are accepted and its firmware reports boot complete; else the next try waits, or recovery where no slot is left. -/
def State.trySlot (s : State) (k : Nat) (complete : Bool) : State :=
  if s.imageOk k && complete then s.bootWith k
  else
    let t := s.failSlot k
    if t.bootSlot.isNone then t.enterRecovery else t

/-- BOOT (R297, R363, R365): with the 40 V stage up, one try of the ROM to boot into Hold; complete tells whether the firmware that it started reports boot complete. -/
def execBoot (s : State) (complete : Bool := true) : Host.Outcome State Fault Refusal :=
  if s.pw.power = .off && s.pw.stage40 && s.pw.bootPhase = 3 && !s.pw.recovery && s.pw.keeperOn then
    match (if s.sec.sfdpOk then s.bootSlot else none) with
    | some k => .next (s.trySlot k complete)
    | none => .next s.enterRecovery
  else .next s

/-- The security engine's registers at a device reset: everything but what fuses and flash give. -/
def State.resetSecurity (s : State) : State :=
  let s := s.resetFields pgSec [.SESSION_SEL, .SESSION_STATE, .MEM_KEYED, .LINK_KEYED, .SESSION_ID_LO, .INGRESS_DENY, .COARSE,
    .SESSION_MAP, .SEC_ES_FAIL, .RUNNING, .EVT, .EVT_EN, .STATE_ERR, .AUTH_ERR, .LOCK_ERR, .CAP_VALID, .CAP_CODE, .CAP_FRAME_LO,
    .TRAP_EN, .RUN, .LOCKED]
  { s with sec := { s.sec with spdm := [], negotiated := false, nonces := [], sourceFailed := false, earlyKeys := [] } }

/-- Domains that a reset leaves on where they are on: 56 to 72 and 78, with 75 to 77 (R382). -/
def resetDomains : Nat × Nat × Nat := (0, 0xFF000000, 0x79FF)

/-- DEVICE_RESET (R372, R382, R295): sessions end, a started store completes, everything but DEVICE_TIME, MRAM, fuses and the island is lost, every page unlocked (R38), SEQ takes DEVICE_TIME (R231); power-up is armed and boot restarts at phase 1. SYS_RESET_N also clears a latched trip while the hottest sensor reads below 90 °C. -/
def execDeviceReset (sysReset : Bool) (s : State) : Host.Outcome State Fault Refusal :=
  if !s.pw.keeperOn then .next s
  else
    let cool := decide (s.pw.tj < 90)
    let was := s.pw.inReset || s.pw.stage40 || s.pw.power != .off
    let on := fun (i : Nat) => s.get pgPower .DOMAIN_ON i
    let keep := (0, on 1 &&& resetDomains.2.1, on 2 &&& resetDomains.2.2)
    let t := s.endSessions
    let t := t.finishStore
    let latch := t.pw.thermLatch && !(sysReset && cool)
    let t := t.wipeDevice.resetSecurity.seqFromTime
    let t := { t with regs := t.regs.delIf fun k => k.fld == Fld.LOCKED }
    let t := t.setPw { t.pw.down with armed := true, thermLatch := latch, thermTripPin := latch, inReset := was }
    .next (t.setDomains keep)

/-! ### VAUX (R340, R343, R381, R384) -/

/-- Fields that keeper MRAM, fuses and one-time-programmable words keep without power. -/
def mramField (f : Fld) : Bool :=
  [Fld.OWNER_SET, .OWNER_SLOT, .FUSE_COUNT, .HOLDUP_CAP, .GEN_HEAD, .PROT_HEAD, .FW_PENDING].contains f

/-- KEEPER_STOP (R343, R384): below 2.70 V without VAUX the keeper, Cold Frame and the recorder stop; a store in progress completes (R317), queued records, READ marks and sessions are lost. -/
def execKeeperStop (s : State) : Host.Outcome State Fault Refusal :=
  if !s.pw.keeperOn || s.pw.vauxOk then .next s
  else
    let t := s.finishStore.wipeDevice
    let t := t.setPw { t.pw.down with
      armed := false, keeperOn := false, thermTripPin := false, samples := [], deduct := 0, settle := 0, trimWaiting := false }
    .next { t with
      regs := t.regs.delIf fun k => !mramField k.fld
      time := State.reset.time
      evr := { State.reset.evr with slots := t.evr.slots, storedSeq := t.evr.storedSeq, storedOp := t.evr.storedOp, storedCycles := t.evr.storedCycles, storedMs := t.evr.storedMs }
      sec := { t.sec with
        nonces := [], sourceFailed := false, sessions := [], spdm := [], negotiated := false, chunkBusy := false, earlyKeys := [] }
      noise := []
      isl := { t.isl.powerLost with mirrored := t.isl.mirrored - t.evr.auditWait.length }
      tap := { t.tap with instr := 1, cells := [] } }

/-- The keeper powers up (R133, R340, R381): DEVICE_TIME from 0, the counters from the last stored batch, POWER_CYCLES plus 1 (it saturates, R355). -/
def State.keeperUp (s : State) : State :=
  let s := s.setPw { s.pw with keeperOn := true, vauxOk := true, armed := true, thermTripPin := s.pw.thermLatch }
  let s := s.setDomains (domainWords .off false)
  let s := ((s.put pgRec .NEXT_SEQ s.evr.storedSeq).put pgRec .OP_SECONDS s.evr.storedOp).put pgRec .POWER_CYCLES (min (s.evr.storedCycles + 1) 0xFFFFFFFF)
  ((s.setRec { s.evr with opNs := 1000000 * s.evr.storedMs }).put pgPower .TRIM_STEPS s.pw.trim).checkProt

/-- VAUX_RISE (R381, R392): VAUX_3V3 inside its limits arms power-up, and powers the keeper up if it had stopped. -/
def execVauxRise (s : State) : Host.Outcome State Fault Refusal :=
  if !s.pw.keeperOn then .next s.keeperUp
  else if s.pw.vauxOk then .next s
  else .next (s.setPw { s.pw with vauxOk := true, armed := true })

/-! ### The control processor (R352, R372) -/

/-- CP_WATCHDOG_TIMEOUT (R352): the keeper restarts the complex. A command in progress on it is abandoned by MANAGEMENT_COMMAND_TIMEOUT. -/
def execCpWatchdogTimeout (s : State) : Host.Outcome State Fault Refusal :=
  if s.pw.bootPhase < 6 || s.pw.power = .dormant || s.pw.cpRestarting then .next s
  else
    let recent := s.pw.cpRestarts.filter fun t => decide (s.time.now < t + 10000000000)
    let t := s.setPw { s.pw with cpRestarting := true, cpRestarts := s.time.now :: recent }
    .next (t.record 0x0210 pgCp)

/-- CP_RESTART_COMPLETE (R352). -/
def execCpRestartComplete (s : State) : Host.Outcome State Fault Refusal := .next (s.setPw { s.pw with cpRestarting := false })

/-- CP_RESTART_LIMIT (R352): a third restart within 10 s; Hold until a reset. -/
def execCpRestartLimit (s : State) : Host.Outcome State Fault Refusal :=
  if 3 ≤ (s.pw.cpRestarts.filter fun t => decide (s.time.now < t + 10000000000)).length && !s.pw.resetLatch then
    .next (((s.setPw { s.pw with resetLatch := true }).record 0x0211 pgCp).enterHold 0)
  else .next s

end Sys2Proof.Machine
end

