-- ==== Sys2Proof/Machine/Command.lean ====
section
/-! DEFINITION. How a management command is taken (R40, R41, R285, R350, R353, R365, R369, R370), and the keeper's plain commands (R371): status, nonce, power, the recorder. -/

namespace Sys2Proof.Machine

/-! ### Taking a command -/

/-- What R371 says of a command: its code, S, whether it runs on the control processor, whether PARTITION must name a partition, whether the fabric path accepts it. -/
structure Cmd where
  code : Nat
  secured : Bool
  cp : Bool
  perPart : Bool
  fabric : Bool
  deriving DecidableEq, Repr

/-- The statuses in the order of R41. -/
def r41 : List Nat := [stNotAuth, stBadLen, stNotSupported, stBadArg, stSealed, stConflict, stBusy, stHoldupLow, stIntegrity, stTimeout]

/-- The first status in the order of R41 that applies. -/
def pickStatus (l : List (Bool × Nat)) : Option Nat := r41.find? fun st => l.any fun c => c.1 && c.2 == st

/-- The partition byte names a partition in force, or the whole device (0xFF). -/
def State.partOk (s : State) (c : Cmd) (part : Nat) : Bool := decide (part < s.partCount) || (!c.perPart && part == 0xFF)

/-- A device is a current member of the group of the partition that the byte names, or of any for 0xFF (R369). -/
def State.fabricMember (s : State) (part src : Nat) : Bool :=
  allBeds.any fun q => (part == q || part == 0xFF) && (s.part q).member && (s.liveMembers q (s.partArm q)).contains src

/-- The path is one of an SPDM secured session. -/
def isSecured : Path → Bool
  | .secured _ => true
  | _ => false
@[inherit_doc isSecured] def isFabric : Path → Bool
  | .fabric _ => true
  | _ => false

/-- The command reaches something that answers: in recovery only the ROM on the SMBus path, after a lost die-to-die link only the operations of R353; a secured session must be established, a fabric source a current member. -/
def State.reaches (s : State) (path : Path) (code part : Nat) : Bool :=
  s.pw.keeperOn && (!s.pw.wedged || [0x21, 0x40, 0x41, 0x42, 0x53].contains code) &&
    (!s.pw.recovery || (path == .mctp && [0x01, 0x40, 0x60].contains code)) &&
    match path with
    | .mailbox => s.barUp
    | .mctp => true
    | .secured k => match s.sec.spdm.find? k with
      | some x => x.established
      | none => false
    | .fabric src => s.fabricMember part src

/-- The domains of the control processor and the security engine are on (R302). -/
def State.cpOn (s : State) : Bool := decide (6 ≤ s.pw.bootPhase) && !(s.pw.power == .dormant || s.pw.power == .off)

/-- A reset or power-up goes on, or waits for its conditions. -/
def State.starting (s : State) : Bool := s.pw.power == .off && s.pw.armed

/-- What every command is checked for (R4, R41, R352, R369): the keeper's commands run in every power state; those of the control processor are BUSY in reset, power-up and Dormant (R378, R388) and in the wrong state in Off (R151, R354). -/
def State.common41 (s : State) (c : Cmd) (req : Req) : List (Bool × Nat) :=
  [(c.secured && !isSecured req.path, stNotAuth), (!req.lenOk, stBadLen), (isFabric req.path && !c.fabric, stNotSupported),
   (req.reserved != 0 || !s.partOk c req.part, stBadArg), (c.cp && s.pw.power == .off && !s.starting, stConflict),
   (c.cp && (!s.cpOn || s.pw.cpRestarting), stBusy)]

/-- What bytes 4 to 7 of a refusal's record hold (R350): for BAD_ARG the first failing argument, of the PARTITION byte, the reserved byte and the command's own argument; for STATE_CONFLICT PM_STATE, else the PARTITION byte (log 11). -/
def State.refusalArg (s : State) (c : Cmd) (req : Req) (arg st : Nat) : Nat :=
  if st = stConflict then s.get pgPower .PM_STATE
  else if st ≠ stBadArg || !s.partOk c req.part then req.part
  else if req.reserved ≠ 0 then req.reserved
  else arg

/-- A command refused: for want of authority with AUTH_FAIL (R285), for want of energy counted by the keeper (R317), else with the common record. -/
def State.turnDown (s : State) (c : Cmd) (req : Req) (authOk : Bool) (arg st : Nat) : State :=
  if st = stNotAuth && !authOk then (s.reply st).raise pgSec 0
  else if st = stHoldupLow then
    ((s.bump pgKeeper .HOLDUP_LOW_CNT).evt pgKeeper 0).refuse pgCp st c.code req.path (s.refusalArg c req arg st)
  else s.refuse pgCp st c.code req.path (s.refusalArg c req arg st)

/-- A command run (R41, R369): unanswered where nothing answers; refused with the first status that applies; else its effect. arg is the argument that fails where one of its own conditions is BAD_ARG. -/
def State.command (s : State) (c : Cmd) (req : Req) (authOk : Bool) (own : List (Bool × Nat)) (ok : State → State)
    (arg : Nat := 0) :
    Host.Outcome State Fault Refusal :=
  if !s.reaches req.path c.code req.part then .next s
  else match pickStatus ((!authOk, stNotAuth) :: s.common41 c req ++ own) with
    | some st => .next (s.turnDown c req authOk arg st)
    | none => .next (ok s)

/-- OK with data. -/
def State.done (s : State) (data : List Byte := []) : State := s.reply stOk data

/-! ### Authority (R284, R285) -/

/-- The active owner slot: the lowest-numbered one that is enrolled and not revoked. -/
def State.ownerSlot (s : State) : Option Nat := (List.range s.sec.owners.length).find? fun k => match s.sec.owners[k]? with
  | some o => !o.2
  | none => false

/-- The hash of the active owner's public key. -/
def State.ownerHash (s : State) : Option (List Byte) := (s.ownerSlot.bind fun k => s.sec.owners[k]?).map (·.1)

/-- The input that an authorisation block signs. -/
def authInput (code : Nat) (payload nonce : List Byte) : List Byte :=
  leBytes 2 code ++ payload ++ nonce ++ leBytes 8 Config.serial.toNat

/-- The authorisation block holds an unused nonce, at most 10 s old, and the owner's signature. -/
def State.authorised (s : State) (code : Nat) (payload : List Byte) (req : Req) : Bool :=
  match req.auth, s.ownerHash with
  | some a, some h =>
    s.sec.nonces.any (fun n => a.nonce == n.1 && decide (s.time.now ≤ n.2 + 10000000000)) &&
      Config.ecdsaOk h (authInput code payload a.nonce) a.sig
  | _, _ => false

/-- The nonce of a command that is carried out is used. -/
def State.useNonce (s : State) (req : Req) : State :=
  match req.auth with
  | some a => { s with sec := { s.sec with nonces := s.sec.nonces.filter fun n => a.nonce != n.1 } }
  | none => s

/-! ### Status, nonce and power (R285, R298, R371) -/

/-- The REGROW phase of a partition (R217): 0 none, 1 armatures missing, 2 nothing replayed yet, 4 replaying, 5 ready for its graft vote (log 11). -/
def State.regrowPhase (s : State) (q : Nat) : Nat :=
  let x := s.part q
  if !x.regrowing then 0
  else if (List.range 64).all fun k => (s.armSlot q k).isNone then 1
  else match x.graft.head? with
    | some g => if x.regrowStep = prevStep g.2 then 5 else if x.regrowStep = x.regrowFrom then 2 else 4
    | none => if x.regrowStep = x.regrowFrom then 2 else 4

/-- What GET_STATUS answers: PM_STATE (0 in Off), BOOT_DONE, SEQ_STATE per bed, REGROW phase per partition (log 11). -/
def State.statusData (s : State) : List Byte :=
  leBytes 1 (if s.pw.power = .off then 0 else pmCode s.pw.power) ++ leBytes 1 (s.get pgPcie .BOOT_DONE) ++
    allBeds.flatMap (fun b => leBytes 1 (s.seq b)) ++ allBeds.flatMap fun q => leBytes 1 (s.regrowPhase q)

/-- GET_STATUS (R371). -/
def execGetStatus (req : Req) (s : State) : Host.Outcome State Fault Refusal :=
  s.command ⟨0x01, false, false, false, true⟩ req true [] fun s => s.done s.statusData

/-- GET_NONCE (R285): 8 fresh bytes, valid for 10 s and one use; stale ones are forgotten. -/
def execGetNonce (req : Req) (s : State) : Host.Outcome State Fault Refusal :=
  s.command ⟨0x02, false, false, false, false⟩ req true [] fun s =>
    let r := s.drawBytes 8
    let l := r.2.sec.nonces.filter fun n => decide (s.time.now ≤ n.2 + 10000000000)
    { r.2 with sec := { r.2.sec with nonces := l ++ [(r.1, s.time.now)] } }.done r.1

/-- A mean power in tenths of a watt as a session shows it: the nearest multiple of 25 W, ties downward (R298). -/
def coarseWatts (t : Nat) : Nat := 25 * ((2 * t + 249) / 500)

/-- READ_POWER (R298, R371): W, coarsened while any session is open; the measured mean is a free value. -/
def execReadPower (req : Req) (s : State) : Host.Outcome State Fault Refusal :=
  s.command ⟨0x03, false, false, false, false⟩ req true [] fun s =>
    let t := Config.inputPower s.draw.1
    s.draw.2.done (leBytes 4 (if s.flag pgSec .COARSE then coarseWatts t else t / 10))

/-- SET_POWER_STATE (R305). -/
def execSetPowerState (req : Req) (target : Nat) (s : State) : Host.Outcome State Fault Refusal :=
  let r := s.askPower target
  s.command ⟨0x20, false, false, false, false⟩ req true [(r.1 != stOk, r.1)] (arg := target) fun s => (s.askPower target).2.done

/-- HALT_AND_HOLD (R353, R370, R371): never refused. -/
def execHaltAndHold (req : Req) (s : State) : Host.Outcome State Fault Refusal :=
  if s.reaches req.path 0x21 req.part then .next ((s.enterHold 0).done) else .next s

/-! ### The recorder (R346 to R348) -/

/-- The slots that EVR_READ returns: up to 4, none past 32,767. -/
def evrSlots (first : Nat) : List Nat := ([0, 1, 2, 3].map (first + ·)).filter (· < 32768)

/-- EVR_READ (R346): the slots as they stand, and the READ marks of protected ones. -/
def execEvrRead (req : Req) (first : Nat) (s : State) : Host.Outcome State Fault Refusal :=
  s.command ⟨0x40, false, false, false, true⟩ req true [(decide (32768 ≤ first), stBadArg)] (arg := first) fun s =>
    let l := evrSlots first
    (l.foldl (fun s k => s.markRead k) s).done (leBytes 1 l.length ++ [0, 0, 0] ++ l.flatMap s.slotBytes)

/-- EVR_FREEZE (R347). -/
def execEvrFreeze (req : Req) (s : State) : Host.Outcome State Fault Refusal :=
  s.command ⟨0x41, false, false, false, true⟩ req true [(s.flag pgRec .FROZEN, stBusy)] fun s => s.askFreeze.done

/-- EVR_UNFREEZE (R347). -/
def execEvrUnfreeze (req : Req) (s : State) : Host.Outcome State Fault Refusal :=
  s.command ⟨0x42, false, false, false, true⟩ req true [] fun s => s.endFreeze.done

/-- The stored records that a clear takes, in SEQ order, with their slots (R348). -/
def State.clearSet (s : State) (scope upTo : Nat) : List (Nat × Record) :=
  sortBy (fun a b => decide (a.2.seq ≤ b.2.seq))
    (s.evr.slots.filter fun e => if scope = 0 then e.1 < protBase else decide (protBase ≤ e.1) && decide (e.2.seq ≤ upTo))

/-- Records of the range without their READ mark; a queued one has none. -/
def State.unread (s : State) (upTo : Nat) : Bool :=
  (s.clearSet 1 upTo).any (fun e => !s.evr.readMarks.contains e.1) || s.evr.queueProt.any fun r => decide (r.seq ≤ upTo)

/-- The payload of a CLEAR record. -/
def clearPayload (scope owner : Nat) (l : List (Nat × Record)) : List Byte :=
  leBytes 1 scope ++ leBytes 1 owner ++ leBytes 8 ((l.map (·.2.seq)).headD 0) ++ leBytes 8 (l.foldl (fun _ e => e.2.seq) 0) ++
    padTo 12 (Config.sha384 (l.flatMap fun e => recordBytes e.2))

/-- The clear as one batch (R341, R348): the slots emptied, the CLEAR record queued in its kept place, and the protected queue stored in SEQ order up to it as far as slots are free; without a slot CLEAR waits in its place (log 99). -/
def State.clearSlots (s : State) (scope upTo : Nat) : State :=
  let l := s.clearSet scope upTo
  let r := s.mkRecord 0x0001 pgRec (clearPayload scope (s.get pgSec .OWNER_SLOT) l) (s.pageFrame pgRec)
  let s := (s.setRec { s.evr with
    slots := s.evr.slots.delIf fun k => l.any fun e => e.1 == k, readMarks := s.evr.readMarks.filter fun k => !l.any fun e => e.1 == k }).enqueue r
  (((s.setRec { s.evr with batch := storableProt s.protFree s.evr.queueProt }).writeBatch).evt pgRec 3).spend 0

/-- EVR_CLEAR (R348): a store in progress ends first. -/
def execEvrClear (req : Req) (scope upToSeq : Nat) (s : State) : Host.Outcome State Fault Refusal :=
  s.command ⟨0x43, true, false, false, false⟩ req (s.authorised 0x43 (leBytes 1 scope ++ leBytes 8 upToSeq) req)
    [(decide (2 ≤ scope), stBadArg),
     (s.flag pgRec .FROZEN || (scope == 1 && s.finishStore.unread upToSeq) || decide (s.get pgRec .NEXT_SEQ ≤ upToSeq), stConflict),
     (!s.finishStore.canStore 0, stHoldupLow)]
    (arg := scope) fun s => ((s.useNonce req).finishStore.clearSlots scope upToSeq).done

end Sys2Proof.Machine
end

