-- ==== Sys2Proof/Machine/Armature.lean ====
section
/-! DEFINITION. The commands of the control processor (R371): ARMATURE_LOAD, ARMATURE_ACTIVATE, ARMATURE_UNLOAD (R147 to R153), GRAFT_PLAN (R241), REGROW (R217). -/

namespace Sys2Proof.Machine

/-! ### Reading memory for a command (R176) -/

/-- Every line of a range may be read for a partition from the host's side (R170). -/
def State.rangeOk (s : State) (p a n : Nat) : Bool := (spanLines a n).all fun l => !s.faulty (s.partFirst p) true (64 * l)

/-! ### ARMATURE_LOAD (R147, R150) -/

/-- The lowest free armature slot. -/
def State.freeArmSlot (s : State) (p : Nat) : Option Nat := (List.range 64).find? fun k => (s.armSlot p k).isNone

/-- An armature of the partition with an ARM_ID is active or pending. -/
def State.armBusy (s : State) (p id : Nat) : Bool := match s.slotOfId p id with
  | some k => s.slotInUse p k
  | none => false

/-- The file read from its source, its lines written to the lowest free slot of the region, and held with its digest: class-0 reads and writes of the partition's lowest bed (R150, R174, R179, R186; log 76). -/
def State.holdArm (s : State) (p addr : Nat) (f : File) : State := match s.freeArmSlot p with
  | some k =>
    let b := bedOf (s.partFirst p)
    let t := (s.readSpan (engineReq b 0 0 0 addr) f.length).1.writeSpan (engineReq b 0 0 0 (s.slotAddr p k)) f
    { t with arms := t.arms.put (p, k) ⟨f, Config.sha384 f⟩ }
  | none => s

/-- ARMATURE_LOAD (R147): source faults are BAD_ARG, poisoned source lines INTEGRITY (log 49). -/
def execArmatureLoad (req : Req) (addr len : Nat) (s : State) : Host.Outcome State Fault Refusal :=
  let p := req.part
  let there := decide (len ≤ 6291456) && s.rangeOk p addr len
  let f := if there then s.peek addr len else []
  s.command ⟨0x10, false, true, true, false⟩ req true
    [(decide (6291456 < len) || (there && !armLenOk f len), stBadLen),
     (!there || (armLenOk f len && (!s.armOk p f || (s.freeArmSlot p).isNone)), stBadArg),
     (s.armBusy p (armId f), stConflict),
     ((spanLines addr len).any s.linePoisoned, stIntegrity)]
    (arg := addr) fun s => (s.holdArm p addr f).done

/-- ARMATURE_UNLOAD (R150, R371). -/
def execArmatureUnload (req : Req) (armId : Nat) (s : State) : Host.Outcome State Fault Refusal :=
  s.command ⟨0x12, false, true, true, false⟩ req true
    [((s.slotOfId req.part armId).isNone, stBadArg), (s.armBusy req.part armId, stConflict)]
    (arg := armId) fun s => (match s.slotOfId req.part armId with
      | some k => s.unloadSlot req.part k
      | none => s).done

/-! ### ARMATURE_ACTIVATE (R151 to R153, R291, R310) -/

/-- The operands of an activation. -/
structure Start where
  frame : Nat
  step : Nat
  epoch : Nat
  time : Nat
  deriving DecidableEq, Repr

/-- The operands fit the counters that they set (R134, R135). -/
def Start.fits (a : Start) : Bool :=
  decide (a.frame < 2 ^ 48) && decide (a.step < 2 ^ 32) && decide (a.epoch < 2 ^ 16) && decide (a.time < 2 ^ 64)

/-- The first frame of the step that a bed runs. -/
def State.stepBase (s : State) (b : Nat) : Nat := s.get (pgBed b) .FRAME_NUMBER - s.frameIn b

/-- The boundary, counted in steps from the present one, at which a pending membership change takes effect (R160). -/
def State.changeAfter (s : State) (b : Nat) (c : Change) : Nat :=
  let fps := max 1 (s.get (pgBed b) .FRAMES_PER_STEP)
  max (max 1 (ceilDiv (c.notBefore - s.stepBase b) fps)) (match c.step with
    | some t => (t + 2 ^ 32 - s.get (pgBed b) .STEP_CNT) % 2 ^ 32
    | none => 1)

/-- EPOCH as it will stand k steps on: one more for each boundary with a change (R160). -/
def State.epochAfter (s : State) (b k : Nat) : Nat :=
  let at_ := (((s.part (s.partOf b)).changes.map fun c => s.changeAfter b c).filter (· ≤ k)).eraseDups
  (s.get (pgBed b) .EPOCH_CNT + at_.length) % 65536

/-- START_FRAME begins a step of the armature that the bed runs, and STEP and EPOCH are what they will be then. -/
def State.startsStep (s : State) (b : Nat) (a : Start) : Bool :=
  let fps := max 1 (s.get (pgBed b) .FRAMES_PER_STEP)
  let k := (a.frame - s.stepBase b) / fps
  (a.frame - s.stepBase b) % fps == 0 && a.step == (s.get (pgBed b) .STEP_CNT + k) % 2 ^ 32 && a.epoch == s.epochAfter b k

/-- The conditions of R151 on one bed. -/
def State.startOk (s : State) (b : Nat) (a : Start) : Bool :=
  if !(s.bed b).origin then a.time % 1000 == 0 && decide (s.time.now + 1000000 ≤ a.time)
  else a.time == 0 && decide (s.get (pgBed b) .FRAME_NUMBER + 3 ≤ a.frame) && (!s.runsArm b || s.startsStep b a)

/-- The first argument of a start that fails on some bed, in the order of R371 (R350). -/
def State.startFailing (s : State) (beds : List Nat) (a : Start) : Nat :=
  let fps := fun b => max 1 (s.get (pgBed b) .FRAMES_PER_STEP)
  let k := fun b => (a.frame - s.stepBase b) / fps b
  let onArm := fun b => (s.bed b).origin && s.runsArm b
  if 2 ^ 48 ≤ a.frame || beds.any (fun b => ((s.bed b).origin && decide (a.frame < s.get (pgBed b) .FRAME_NUMBER + 3)) ||
      (onArm b && (a.frame - s.stepBase b) % fps b != 0)) then a.frame
  else if 2 ^ 32 ≤ a.step || beds.any (fun b => onArm b && a.step != (s.get (pgBed b) .STEP_CNT + k b) % 2 ^ 32) then a.step
  else if 2 ^ 16 ≤ a.epoch || beds.any (fun b => onArm b && a.epoch != s.epochAfter b (k b)) then a.epoch
  else a.time

/-- The tick of START_FRAME − 8 is still to come (R152). -/
def State.beforeVote (s : State) (b : Nat) (f : File) (a : Start) : Bool :=
  if (s.bed b).origin then decide (s.get (pgBed b) .FRAME_NUMBER + 8 < a.frame)
  else decide (8 ≤ a.frame) && decide (s.time.now + 8 * armFrameUs f * 1000 < a.time)

/-- What R152, R291 and R310 ask of a device before it activates an armature of a group or a locked one. -/
def State.groupOk (s : State) (p : Nat) (f : File) (a : Start) : Bool :=
  armGroup f ≤ 1 ||
    (s.flag (pgLink 0) .ID_VALID && (memberList f).contains s.myId && !(s.sessionOpen p && !s.flag pgSec .LINK_KEYED p) &&
      (armBeds f).all fun b => s.beforeVote b f a)

/-- A bed that cannot be armed: ARMED or pending (R153), or of a partition that must be grafted first (R162, R306). -/
def State.notArmable (s : State) (p b : Nat) : Bool :=
  s.seq b == seqArmed || (s.bed b).pend.isSome || s.fab.rejoin.contains p

/-- The state does not permit the activation. -/
def State.activateConflict (s : State) (p : Nat) (f : File) (a : Start) : Bool :=
  !s.inRun || s.pw.transition.isSome || (armBeds f).any (s.notArmable p) || !s.groupOk p f a ||
    (s.flag pgPower .MODE_NOW && (armLocked f || decide (1 < armGroup f)))

/-- A bed's origin set by its first activation (R135, R151); a group's bed ticks from its vote frame on (log 35). -/
def State.setOrigin (s : State) (b : Nat) (f : File) (a : Start) : State :=
  if (s.bed b).origin then s
  else
    let first := if armGroup f ≤ 1 then a.frame else a.frame - 8
    let s := s.setBed b { s.bed b with origin := true, started := false, first := first, us := armFrameUs f }
    (s.put (pgBed b) .ORIGIN_TIME a.time).put (pgBed b) .ORIGIN_FRAME a.frame

/-- A bed armed: the activation pending, SWITCH_PENDING 1, ARMED unless it runs (R151, R153). -/
def State.armBed (s : State) (slot : Nat) (f : File) (a : Start) (b : Nat) : State :=
  let x : Activation := ⟨slot, armId f, a.frame, a.step, a.epoch, !(s.bed b).origin, s.seq b, s.runsArm b, false, s.anchorOf (s.partOf b) slot⟩
  let s := s.setOrigin b f a
  let s := (s.setBed b { s.bed b with pend := some x }).put (pgBed b) .SWITCH_PENDING 1
  if x.running then s else s.setSeq b seqArmed

/-- ARMATURE_ACTIVATE (R151): every bed of the armature. -/
def execArmatureActivate (req : Req) (armId startFrame startStep startEpoch startTime : Nat) (s : State) :
    Host.Outcome State Fault Refusal :=
  let p := req.part
  let a : Start := ⟨startFrame, startStep, startEpoch, startTime⟩
  let slot := s.slotOfId p armId
  let f := s.fileOf p (slot.getD 64)
  s.command ⟨0x11, false, true, true, false⟩ req true
    [(slot.isNone || !a.fits || !(armBeds f).all (fun b => s.startOk b a), stBadArg), (s.activateConflict p f a, stConflict)]
    (arg := if slot.isNone then armId else s.startFailing (armBeds f) a) fun s => ((armBeds f).foldl (fun s b => s.armBed (slot.getD 64) f a b) s).done

/-! ### GRAFT_PLAN (R241, R242) and REGROW (R217) -/

/-- DEVICE_TIME of the tick of (B's first frame − 8), by the group's origin (R241, R242). -/
def graftVoteTime (f : File) (hash step : Nat) : Nat :=
  let us := armFrameUs f * 1000
  (Config.graftTime hash step).toNat + (Config.graftFrame hash step).toNat * us - ((Config.graftOrigin hash step).toNat + 8) * us

/-- A plan that comes too late, or for which the active armature has no variant (R241). A joiner has no armature running; it can tell only when aligned and with the planned armature loaded (log 24). -/
def State.planConflict (s : State) (q hash step : Nat) : Bool :=
  let f := s.partArm q
  let b := s.leadBed q
  if s.joins q then
    let g := s.fileOfHash q hash
    s.flag pgGlobals .GROUP_ALIGNED && !g.isEmpty && decide (graftVoteTime g hash step < s.time.now)
  else (variantOf f hash).isNone || decide (2 ^ 31 ≤ (step + 2 ^ 32 - s.get (pgBed b) .STEP_CNT) % 2 ^ 32) ||
    decide (s.graftStart q hash step ≤ s.get (pgBed b) .FRAME_NUMBER + 8)

/-- The group's origin taken by a joiner's quiet beds, so that they tick from the vote's frame on (R242). -/
def State.joinOrigin (s : State) (q hash step : Nat) : State :=
  let f := s.fileOfHash q hash
  ((armBeds f).filter fun b => s.partOf b == q && s.bedQuiet b).foldl (fun s b =>
    let s := s.setBed b { s.bed b with
      origin := true, started := false, first := (Config.graftFrame hash step).toNat - 8, us := armFrameUs f }
    (s.put (pgBed b) .ORIGIN_TIME (Config.graftTime hash step).toNat).put (pgBed b) .ORIGIN_FRAME
      (Config.graftOrigin hash step).toNat) s

/-- The plans of a partition that waits to join: those before their vote, and the certified ones. -/
def State.joinPlans (s : State) (q : Nat) : List (Nat × Nat) :=
  if !s.joins q then []
  else (s.part q).graft ++ (s.part q).changes.filterMap fun c => match c.graft, c.step with
    | some h, some t => some (h, t)
    | _, _ => none

/-- The origin of the group taken again after the time was adopted: a step or hold has cleared it (R133, R242). -/
def State.joinOrigins (s : State) : State :=
  allBeds.foldl (fun s q => match (s.joinPlans q).head? with
    | some g => if (s.bed (s.partFirst q)).origin then s else s.joinOrigin q g.1 g.2
    | none => s) s

/-- TIME_RESPONSE_RECEIVE (R133, R234): the offset steers or moves the time; a device that it aligns takes the origin of the group that it joins, and begins its key agreement (R242, R291). -/
def execTimeResponseReceive (port : Port) (packet : Packet) (s : State) : Host.Outcome State Fault Refusal :=
  s.consume port.val packet tyTime fun s k =>
    let t := s.timeResponseIn port.val k
    if t.flag pgGlobals .GROUP_ALIGNED then allBeds.foldl (fun t q => t.tryKey q) t.joinOrigins else t

/-- GRAFT_PLAN (R241): the plan kept for its vote; one for the same step replaces it. -/
def execGraftPlan (req : Req) (memberHash step : Nat) (s : State) : Host.Outcome State Fault Refusal :=
  let q := req.part
  s.command ⟨0x30, false, true, true, false⟩ req true
    [(decide (2 ^ 64 ≤ memberHash) || decide (2 ^ 32 ≤ step), stBadArg), (s.planConflict q memberHash step, stConflict)]
    (arg := if 2 ^ 64 ≤ memberHash then memberHash else step) fun s =>
      let s := s.setPart q { s.part q with graft := (s.part q).graft.filter (·.2 != step) ++ [(memberHash, step)] }
      (if s.joins q then (s.joinOrigin q memberHash step).keyAnew q else s).done

/-- The armature that a regrow replays: the active one, the graft plan's, else the first loaded one that has pass entries. -/
def State.regrowFile (s : State) (q : Nat) : File :=
  let a := s.partArm q
  if !a.isEmpty then a
  else match (s.part q).graft.head? with
    | some g => s.fileOfHash q g.1
    | none => ((List.range 64).findSome? fun k =>
        (s.armSlot q k).bind fun x => if hasSec x.file 0x08 then some x.file else none).getD []

/-- The source is a member of the group of the armature that the regrow replays (R217); with none loaded nothing is known of it (log 70). -/
def State.sourceMember (s : State) (q source : Nat) : Bool :=
  let f := s.regrowFile q
  f.isEmpty || decide (armGroup f ≤ 1) || (memberList f).contains source

/-- REGROW (R217): accepted, the partition regrows from the cutting's step on; what its units kept of the steps is forgotten. -/
def execRegrow (req : Req) (partner source cutStep : Nat) (partnerValid sourceHolds : Bool) (s : State) :
    Host.Outcome State Fault Refusal :=
  let q := req.part
  s.command ⟨0x31, false, true, true, false⟩ req true
    [(decide (8191 ≤ partner) || decide (8191 ≤ source) || decide (2 ^ 32 ≤ cutStep) || !s.sourceMember q source, stBadArg),
     (!partnerValid || !sourceHolds || s.anyBedRuns, stConflict)]
    (arg := if 8191 ≤ partner then partner else source) fun s => ((s.forgetUpdates q).setPart q { s.part q with
      regrowing := true, regrowFrom := cutStep, regrowSrc := source, regrowStep := cutStep }).done

end Sys2Proof.Machine
end

