-- ==== Sys2Proof/Machine/ConfigSpace.lean ====
section
/-! DEFINITION. PCIe configuration space as far as R356 defines it, in the words of the PCIe base specification (log 96): the type 0 header, the capabilities of the table and no other. -/

namespace Sys2Proof.Machine

/-- The capabilities that the table of R356 lists: power management (D3hot), PCI Express, MSI-X, Advanced Error Reporting, Data Object Exchange. -/
inductive Capability where
  | pm
  | express
  | msix
  | aer
  | doe
  deriving DecidableEq, Repr

/-- They stand in configuration space in this order: the three of the header's chain, then the extended ones. -/
def capabilities : List Capability := [.pm, .express, .msix, .aer, .doe]

/-- The first word of a capability: where is free, but the first extended one stands at word 64 (log 96). -/
def capWord : Capability → Nat
  | .pm => (Config.capPlace 0).toNat
  | .express => (Config.capPlace 1).toNat
  | .msix => (Config.capPlace 2).toNat
  | .aer => 64
  | .doe => (Config.capPlace 3).toNat

/-- Words that a capability takes. -/
def capWords : Capability → Nat
  | .pm => 2
  | .express => 15
  | .msix => 3
  | .aer => 18
  | .doe => 6

/-- The bits of a word that the table fixes, and a mask of those that the host may write. -/
structure ConfigBits where
  fixed : Nat
  writable : Nat
  deriving DecidableEq, Repr

/-- Words 0 to 15 (R356): identity, one function of header type 0, BAR0 of 64 MiB not prefetchable, BAR2 of 64 GiB prefetchable, both 64-bit; no further BAR, no expansion ROM, no INTx pin. -/
def headerWord (w : Nat) : ConfigBits := match w with
  | 0 => ⟨Config.vendorId.toNat + 0x3072 * 2 ^ 16, 0⟩
  | 1 => ⟨0x00100000, 0x0546⟩
  | 2 => ⟨(Config.configSpace 2).toNat % 256 + 0x120000 * 2 ^ 8, 0⟩
  | 3 => ⟨0, 0xFF⟩
  | 4 => ⟨0x4, 0xFC000000⟩
  | 5 => ⟨0, 0xFFFFFFFF⟩
  | 6 => ⟨0xC, 0⟩
  | 7 => ⟨0, 0xFFFFFFF0⟩
  | 11 => ⟨(Config.configSpace 11).toNat, 0⟩
  | 13 => ⟨4 * capWord .pm, 0⟩
  | 15 => ⟨0, 0xFF⟩
  | _ => ⟨0, 0⟩

/-- Word j of a capability (R356). PCI Express: 512 bytes of payload, FLR, x16 at 64 GT/s without ASPM, 10-bit tags, the link as it is; MSI-X: 64 vectors; D3hot is taken as a value and nothing more. Words with no part in the table are free. -/
def State.capabilityWord (s : State) (c : Capability) (j : Nat) : ConfigBits :=
  let free : ConfigBits := ⟨(Config.configSpace (capWord c + j)).toNat, 0⟩
  match c, j with
  | .pm, 0 => ⟨0x01 + 4 * capWord .express * 2 ^ 8 + 0x0003 * 2 ^ 16, 0⟩
  | .pm, _ => ⟨0x8, 0x3⟩
  | .express, 0 => ⟨0x10 + 4 * capWord .msix * 2 ^ 8 + 0x0002 * 2 ^ 16, 0⟩
  | .express, 1 => ⟨0x10008022, 0⟩
  | .express, 2 => ⟨0, 0x7FFF⟩
  | .express, 3 => ⟨0x00000106, 0⟩
  | .express, 4 => ⟨(s.get pgPcie .LINK_GEN + 16 * s.get pgPcie .LINK_WIDTH) * 2 ^ 16, 0⟩
  | .express, 9 => ⟨0x00030000, 0⟩
  | .express, 10 => ⟨0, 0x1000⟩
  | .express, 11 => ⟨0x7E, 0⟩
  | .express, 12 => ⟨0, 0xF⟩
  | .express, _ => ⟨0, 0⟩
  | .msix, 0 => ⟨0x11 + 63 * 2 ^ 16, 0xC0000000⟩
  | .aer, 0 => ⟨0x0001 + 2 * 2 ^ 16 + 4 * capWord .doe * 2 ^ 20, 0⟩
  | .doe, 0 => ⟨0x002E + 1 * 2 ^ 16, 0⟩
  | _, _ => free

/-- The capability that a word behind the header belongs to, if any: what lies outside reads 0, since nothing else is there (R356). -/
def capAt (w : Nat) : Option Capability := capabilities.find? fun c => decide (16 ≤ w ∧ capWord c ≤ w ∧ w < capWord c + capWords c)

/-- A word's bits. -/
def State.configBits (s : State) (w : Nat) : ConfigBits :=
  if w < 16 then headerWord w
  else match capAt w with
    | some c => s.capabilityWord c (w - capWord c)
    | none => ⟨0, 0⟩

/-- What the host has written to a word; until then its reset value, that of Device Control being 512 bytes a read request, relaxed ordering and no snoop (log 96). -/
def State.configWritten (s : State) (w : Nat) : Nat :=
  s.host.config.get w (if w = capWord .express + 2 ∧ capAt w = some .express then 0x2810 else 0)

/-- A word of configuration space as a read returns it. -/
def State.configWord (s : State) (w : Nat) : Nat :=
  let b := s.configBits w
  b.fixed ||| (s.configWritten w &&& b.writable)

/-- A word written: the writable bits are kept. Initiate Function Level Reset, bit 15 of Device Control, resets the function (R356, R372). -/
def State.writeConfig (s : State) (w v : Nat) : State :=
  if capAt w = some .express ∧ w = capWord .express + 2 ∧ bitAt v 15 = true then s.resetEndpoint
  else { s with host := { s.host with config := s.host.config.put w (v &&& (s.configBits w).writable) } }

end Sys2Proof.Machine
end

