-- ==== Sys2Proof/Machine/Transfer.lean ====
section
/-! DEFINITION. Memory transfers of the cores (R180, R181), single line accesses at a bridge (R170 to R178) and what the stack controllers do on their own (R168, R186 to R190). -/

namespace Sys2Proof.Machine

/-! ### Transfer entries (R181) -/

/-- The next transfer entry of a context that may begin: its bed issues, its cluster is not stopped (R31) and its queue is free. The entries that a context reset skips are those of the engines' lists: a transfer of the context still issues (DESIGN CHOICE, log 100). -/
def State.dueTransfer (s : State) (b c x : Nat) : Option Transfer :=
  let n := coreNo b c
  if s.issues b && !s.halts (clusterPage b c) && !s.cores.xbusy.contains (n, x) then ((s.coreXfers b c).filter (·.ctx == x))[s.xcursor n x]? else none

/-- An entry begun: its queue is busy until TRANSFER_COMPLETE. -/
def State.beginTransfer (s : State) (b c x : Nat) : State :=
  let n := coreNo b c
  s.setCores { s.cores with
    xcursor := s.cores.xcursor.put (n, x) (s.xcursor n x + 1), xbusy := (n, x) :: s.cores.xbusy }

/-- The hint in force of an entry (R181). -/
def xferHint (x : Transfer) (d : Desc) : Nat := if x.ovr then x.hint else d.hint

/-- Lines, numbered from 0 within a span, that arrive poisoned. -/
def badLines (base : Nat) (l : List Nat) : List Nat := l.map (· - lineOf base)

/-- One tile brought into local store: its span, then its side list; poisoned lines as their consumer reads them (R181, R187). -/
def State.loadTile (s : State) (b c : Nat) (x : Transfer) (d : Desc) (i : Nat) : State :=
  let n := coreNo b c
  let t := x.tile + i
  let a := d.base + t * d.tileBytes
  let r := s.readSpan (engineReq (bedOf b) x.cls (xferHint x d) x.uses a) d.tileBytes
  let sd := d.side + 512 * t
  let side := if d.hasSide then r.1.readSpan (engineReq (bedOf b) x.cls (xferHint x d) x.uses sd) 512 else (r.1, [], [])
  let bad := badLines a r.2.2
  let bytes := poisonTile d (r.2.1 ++ side.2.1) bad (!side.2.2.isEmpty)
  let s := side.1.localPut n (x.loc + i * d.localSpan) bytes
  if bad.isEmpty || d.format ≤ 3 then s else s.raiseFlags n (poisonFlag d)

/-- One tile read into the bridge cache. -/
def State.prefetchTile (s : State) (b : Nat) (x : Transfer) (d : Desc) (i : Nat) : State :=
  let t := x.tile + i
  let r := s.readSpan (engineReq (bedOf b) x.cls (xferHint x d) x.uses (d.base + t * d.tileBytes)) d.tileBytes
  if d.hasSide then (r.1.readSpan (engineReq (bedOf b) x.cls (xferHint x d) x.uses (d.side + 512 * t)) 512).1 else r.1

/-- Every line of an entry's tiles and side lists. -/
def xferLines (x : Transfer) (d : Desc) : List Nat :=
  (List.range x.count).flatMap fun i =>
    let t := x.tile + i
    spanLines (d.base + t * d.tileBytes) d.tileBytes ++ (if d.hasSide then spanLines (d.side + 512 * t) 512 else [])

/-- A pinned line freed for an engine: dirty data written back for RELEASE and metered, dropped for DROP (R174, R182). -/
def State.unpinLine (s : State) (b cls l : Nat) (drop : Bool) : State :=
  if s.faulty b false (64 * l) then s.countFault (64 * l)
  else if drop then s.dropLine l
  else match Tab.find? s.mem.cache l with
    | some c => if c.dirty then (s.releaseLine l).meter (lineHome l) cls b else s.releaseLine l
    | none => s

/-- A command that begins a context's next transfer entry if that entry has the operation. -/
def State.transfer (s : State) (bed : Bed) (core : Core) (ctx : Ctx) (op : Nat) (f : State → Transfer → Desc → State) :
    Host.Outcome State Fault Refusal :=
  let b := bed.val
  let c := core.val
  match s.dueTransfer b c ctx.val with
  | some x => if x.op = op then .next (f (s.beginTransfer b c ctx.val) x (s.coreDesc b c x.desc)) else .next s
  | none => .next s

/-- TRANSFER_LOAD (R181): tiles and their side lists into local store. -/
def execTransferLoad (bed : Bed) (core : Core) (ctx : Ctx) (s : State) : Host.Outcome State Fault Refusal :=
  s.transfer bed core ctx 0 fun s x d => (List.range x.count).foldl (fun s i => s.loadTile bed.val core.val x d i) s

/-- TRANSFER_PREFETCH (R181): tiles into the cache. -/
def execTransferPrefetch (bed : Bed) (core : Core) (ctx : Ctx) (s : State) : Host.Outcome State Fault Refusal :=
  s.transfer bed core ctx 1 fun s x d => (List.range x.count).foldl (fun s i => s.prefetchTile bed.val x d i) s

/-- TRANSFER_RELEASE (R174): dirty lines written back, pinned lines freed. -/
def execTransferRelease (bed : Bed) (core : Core) (ctx : Ctx) (s : State) : Host.Outcome State Fault Refusal :=
  s.transfer bed core ctx 2 fun s x d => (xferLines x d).foldl (fun s l => s.unpinLine bed.val x.cls l false) s

/-- TRANSFER_DROP (R174): pinned lines freed without write-back. -/
def execTransferDrop (bed : Bed) (core : Core) (ctx : Ctx) (s : State) : Host.Outcome State Fault Refusal :=
  s.transfer bed core ctx 3 fun s x d => (xferLines x d).foldl (fun s l => s.unpinLine bed.val x.cls l true) s

/-- TRANSFER_COMPLETE (R181): the context's completion counter advances by 1. With no entry in progress nothing happens (log 2). -/
def execTransferComplete (bed : Bed) (core : Core) (ctx : Ctx) (s : State) : Host.Outcome State Fault Refusal :=
  let n := coreNo bed.val core.val
  if s.cores.xbusy.contains (n, ctx.val) then
    .next ((s.setCores { s.cores with xbusy := s.cores.xbusy.filter (· != (n, ctx.val)) }).compUp n ctx.val)
  else .next s

/-! ### Single lines (R170, R174) -/

/-- LINE_READ (R170, R174, R186): what the requester gets stands in the output's data and EP. -/
def execLineRead (req : MemReq) (err : LineErr) (s : State) : Host.Outcome State Fault Refusal :=
  let r := s.readLine req err
  .next { r.1 with out := { r.1.out with data := r.2.1, ep := r.2.2 } }

/-- LINE_WRITE (R170, R174, R275): a host write into a partition with a session open is discarded (R294). -/
def execLineWrite (req : MemReq) (first : Nat) (data : List Byte) (poison : Bool) (s : State) :
    Host.Outcome State Fault Refusal :=
  if req.host && !s.faulty req.bed.val req.host req.addr && s.sessionOpen (s.partOf (homeOf req.addr)) then
    .next (s.denyWrite req.addr 1)
  else .next (s.writeLine req (first % 64) (data.take (64 - first % 64)) poison)

/-! ### Stack controllers (R168, R188 to R190) -/

/-- The memory interfaces run: in Run, Floor and Hold (R168, R302). -/
def State.memoryOn (s : State) : Bool := s.inRun || s.pw.power == .hold

/-- PATROL_SCRUB (R188): a line corrected or poisoned under R186; completed passes counted. -/
def execPatrolScrub (stack : Stack) (addr : Nat) (err : LineErr) (passDone : Bool) (s : State) :
    Host.Outcome State Fault Refusal :=
  if !s.memoryOn then .next s
  else
    let s := if badAddr addr || s.stackOf addr != stack.val then s else (s.stackRead addr err).1
    .next (if passDone then s.bump (pgMc stack.val) .SCRUB_PASS else s)

/-- A channel begins to retrain (R189). -/
def State.retrain (s : State) (u ch : Nat) : State :=
  let s := s.setMem { s.mem with chBusy := if s.mem.chBusy.contains (u, ch) then s.mem.chBusy else (u, ch) :: s.mem.chBusy }
  (s.bump (pgMc u) .RETRAIN_CNT).put (pgMc u) .RETRAINING 1

/-- MEMORY_TRAINING_CHECK (R189, R351): a failed check retrains the channel. -/
def execMemoryTrainingCheck (stack : Stack) (channel : Fin 32) (ok : Bool) (s : State) : Host.Outcome State Fault Refusal :=
  if ok || !s.memoryOn then .next s
  else .next (((s.retrain stack.val channel.val).evt (pgMc stack.val) 2).record 0x0910 (pgMc stack.val))

/-- CHANNEL_RETRAIN (R189): more than 16 parity or link errors within 1 ms. -/
def execChannelRetrain (stack : Stack) (channel : Fin 32) (errors : Nat) (s : State) : Host.Outcome State Fault Refusal :=
  if errors ≤ 16 || !s.memoryOn then .next s
  else
    let s := s.setMem { s.mem with chErrors := s.mem.chErrors.put (stack.val, channel.val) errors }
    .next ((s.retrain stack.val channel.val).raise (pgMc stack.val) 2)

/-- A channel fenced: both its pseudo-channels (R189; log 19). -/
def State.fenceChannel (s : State) (u ch : Nat) : State :=
  let s := s.put (pgMc u) .FENCED_MAP (s.get (pgMc u) .FENCED_MAP ||| 3 * 4 ^ ch)
  ((s.put (pgBridge (u / 4)) .DEGRADED 1).evt (pgBridge (u / 4)) 2).raise (pgMc u) 3

/-- RETRAIN_END (R189): the third failure in a row fences the channel; an earlier one retrains again. With no retrain under way nothing happens (log 2). -/
def execRetrainEnd (stack : Stack) (channel : Fin 32) (ok : Bool) (s : State) : Host.Outcome State Fault Refusal :=
  let u := stack.val
  let ch := channel.val
  if !s.mem.chBusy.contains (u, ch) then .next s
  else
    let n := if ok then 0 else s.mem.chFails.get (u, ch) 0 + 1
    let s := s.setMem { s.mem with chFails := s.mem.chFails.put (u, ch) n }
    if !ok && n < 3 then .next (s.bump (pgMc u) .RETRAIN_CNT)
    else
      let s := s.setMem { s.mem with chBusy := s.mem.chBusy.filter (· != (u, ch)), chErrors := s.mem.chErrors.put (u, ch) 0 }
      let s := s.put (pgMc u) .RETRAINING (b2n (s.mem.chBusy.any fun k => k.1 == u))
      .next (if ok then s else s.fenceChannel u ch)

/-- REFRESH_LATE (R190, R351). -/
def execRefreshLate (stack : Stack) (_channel : Fin 32) (s : State) : Host.Outcome State Fault Refusal :=
  .next (((s.bump (pgMc stack.val) .REFRESH_LATE).evt (pgMc stack.val) 4).record 0x0911 (pgMc stack.val))

/-- STACK_HOT (R168, R192): HOT above 85 °C. -/
def execStackHot (stack : Stack) (celsius : Nat) (s : State) : Host.Outcome State Fault Refusal :=
  let p := pgMc stack.val
  let hot := decide (85 < celsius)
  let was := s.flag p .HOT
  let s := (s.put p .TEMP celsius).put p .HOT (b2n hot)
  .next (if hot && !was then s.raise p 5 else s)

end Sys2Proof.Machine
end

