-- ==== Sys2Proof/Machine/Update.lean ====
section
/-! DEFINITION. The update units (R193 to R218): ready entries, state groups read and written back, norms and the ratio ring, cuttings sent, and the commands UPDATE_ENTRY, UPDATE_PREPASS, UNIT_STOP and REGROW_REPLAY. -/

namespace Sys2Proof.Machine

/-! ### What a pass works with (R198, R200, R203) -/

/-- The group table and mask latched for a step; those of the file before any boundary latched them. -/
def State.groupsOf (s : State) (q : Nat) (f : File) (step : Nat) : Nat → Group :=
  match s.upd.latched.find? (q, step) with
  | some l => groupAt l.1 l.2
  | none => groupAt ((List.range 2048).map fun k => (k, inSec f 0x08 (updGroupOff f + 4 * k) 4))
      ((List.range 8).map fun w => inSec f 0x08 (updGroupOff f + 8192 + 4 * w) 4)

/-- g of one element from its reduced tile's part record and sum (R204, R257). -/
def gradOf (sumMode : Bool) (recd : Nat) (sum : Nat) : Nat :=
  let n := if sumMode then 1 else bits recd 64 24
  let x := Q.mul ⟨sext 32 sum, 1⟩ (Q.pow2 (sext 8 (bits recd 88 8)))
  if n = 0 then fp32.nan else fp32.rne (Q.div x ⟨(n : Int), 1⟩)

/-- g of the 256 records of a state group from a step's retention slot; a poisoned line holds its elements, line 0 the whole tile (R200, R210, R257). -/
def State.readGrad (s : State) (b : Nat) (f : File) (e : Pass) (step g : Nat) : State × List (Option Nat) :=
  let d := descAt f e.grad
  let k := e.first + 256 * g
  let a := retainBase f d step + 16448 * (k / 4096)
  let i := k % 4096
  let h := s.readSpan (engineReq (bedOf b) 1 0 0 a) 64
  let r := h.1.readSpan (engineReq (bedOf b) 1 0 0 (a + 64 + 4 * i)) 1024
  let recd := fieldAt h.2.1 (16 * (i / 1024)) 16
  let sumMode := (bucketAt f e.bucket).divSum
  (r.1, (List.range 256).map fun n =>
    if !h.2.2.isEmpty || r.2.2.contains (lineOf (a + 64 + 4 * (i + n))) then none
    else some (gradOf sumMode recd (fieldAt r.2.1 (4 * n) 4)))

/-- R and SKIPPED of a layer in the ratio ring; none when its line is poisoned (R203, R214). -/
def State.readRing (s : State) (b : Nat) (f : File) (layer step : Nat) : State × Option (Nat × Bool) :=
  let r := s.readSpan (engineReq (bedOf b) 1 0 0 (ratioRing f + 8 * ((step % retainSteps f) * 1024 + layer))) 8
  (r.1, if r.2.2.isEmpty then some (fieldAt r.2.1 0 4, bitAt (fieldAt r.2.1 4 1) 0) else none)

/-- The context of an entry's step; no gradient is read for a skipped one. -/
def stepCtx (s : State) (q : Nat) (f : File) (e : Pass) (step ratio : Nat) (skip : Bool) (g : Nat) (grads : List (Option Nat)) : StepCtx :=
  let d := descAt f e.grad
  { step := step, t0 := updT0 f, seed := d.seed, tensor := d.tensorId, first := e.first, group := s.groupsOf q f step,
    ratio := ratio, skip := skip, grad := fun n => (grads.getD (n - 256 * g) none) }

/-! ### A state group (R194, R202, R209, R211) -/

/-- A state group as read: its address, bytes, and which of its lines are poisoned. -/
structure GroupIn where
  addr : Nat
  bytes : List Byte
  bad : List Nat
  deriving DecidableEq, Repr

/-- State group g of an entry read (R194). -/
def State.readGroup (s : State) (b : Nat) (e : Pass) (g : Nat) : State × GroupIn :=
  let a := e.state + 2112 * g
  let r := s.readSpan (engineReq (bedOf b) 1 0 0 a) 2112
  (r.1, ⟨a, r.2.1, badLines a r.2.2⟩)

/-- The header of block j. -/
def groupHdr (x : GroupIn) (j : Nat) : Hdr := hdrOf (x.bytes.drop (16 * j))

/-- The records of block j that the entry and the header say are in use (R194); with line 0 poisoned, which holds RECORDS, those of the entry (R206, R211). -/
def groupRecs (x : GroupIn) (e : Pass) (g j : Nat) : List Rec :=
  let n := min (if x.bad.contains 0 then 64 else min 64 (groupHdr x j).records) (e.records - (256 * g + 64 * j))
  (List.range n).map fun r => recOf (x.bytes.drop (64 + 512 * j + 8 * r)) (x.bad.contains (1 + 8 * j + r / 8))

/-- Blocks of a group that the entry covers. -/
def groupBlocks (e : Pass) (g : Nat) : Nat := min 4 (ceilDiv (e.records - 256 * g) 64)

/-- A block whose lines stay: its STAMP unreadable (R211). -/
def heldBlock (h : Hdr) (rs : List Rec) : BlkOut := ⟨.same, [], true, true, h, rs⟩

/-- Every block of a group through a step. -/
def passGroup (c prev : StepCtx) (x : GroupIn) (e : Pass) (g : Nat) : List BlkOut :=
  (List.range (groupBlocks e g)).map fun j =>
    let rs := groupRecs x e g j
    if x.bad.contains 0 then heldBlock (groupHdr x j) rs
    else passBlock c prev (groupHdr x j) (256 * g + 64 * j) rs

/-- Some block of the group is two steps behind, so that step − 1 must be known (R214). -/
def needsRoll (x : GroupIn) (e : Pass) (g step : Nat) : Bool :=
  !x.bad.contains 0 && (List.range (groupBlocks e g)).any fun j => (groupHdr x j).stamp == prevStep (prevStep step)

/-- The state after the gradients of step − 1 are read, with R of that step, whether its ring line is poisoned, and the gradients. -/
structure OldIn where
  st : State
  ratio : Nat
  lost : Bool
  grads : List (Option Nat)

/-- What step − 1 needs, read from its ring entry and its retained gradients; a poisoned ring line holds that step's records (log 41). -/
def State.readOld (s : State) (b : Nat) (f : File) (e : Pass) (step g : Nat) : OldIn :=
  let r := s.readRing b f e.layer step
  match r.2 with
  | none => ⟨r.1, oneF, false, []⟩
  | some y => if y.2 then ⟨r.1, y.1, true, []⟩ else ⟨(r.1.readGrad b f e step g).1, y.1, false, (r.1.readGrad b f e step g).2⟩

/-- A group through a step: what step − 1 needs is read only for a block behind. -/
def State.runGroup (s : State) (b : Nat) (f : File) (e : Pass) (step g ratio : Nat) (skip : Bool) :
    State × GroupIn × List BlkOut :=
  let q := s.partOf b
  let x := (s.readGroup b e g).2
  let gr := if skip then ((s.readGroup b e g).1, []) else (s.readGroup b e g).1.readGrad b f e step g
  let p := prevStep step
  let old := if needsRoll x e g step then gr.1.readOld b f e p g else ⟨gr.1, oneF, false, []⟩
  (old.st, x, passGroup (stepCtx s q f e step ratio skip g gr.2) (stepCtx s q f e p old.ratio old.lost g old.grads) x e g)

/-- Bytes replaced at an offset. -/
def spliceAt (l : List Byte) (o : Nat) (x : List Byte) : List Byte := l.take o ++ x ++ l.drop (o + x.length)

/-- The eight bytes of a record after its block's pass: its flags are those of the pass, or the old ones with HELD set (R209, R210). -/
def recBytes (way : BlkWay) (f4 : Bool) (r : Rec) (w : Nat × Bool) : List Byte :=
  leBytes 5 r.w ++ leBytes 1 r.m ++ leBytes 1 r.v ++
    leBytes 1 (if way = .stale then r.b7 ||| 64 else flagByte r f4 w)

/-- A group's bytes with one block's header and records written; a poisoned line's records stay. -/
def writeBlock (f4 : Bool) (work : Nat → Nat × Bool) (l : List Byte) (j : Nat) (o : BlkOut) : List Byte :=
  if o.way = .same then l
  else
    let l := spliceAt l (16 * j) (hdrBytes o.hdr)
    ((List.range o.recs.length).zip o.recs).foldl (fun l e =>
      if e.2.bad then l else spliceAt l (64 + 512 * j + 8 * e.1) (recBytes o.way f4 e.2 (work (64 * j + e.1)))) l

/-- The blocks of a pass with their numbers. -/
def numbered (os : List BlkOut) : List (Nat × BlkOut) := (List.range os.length).zip os

/-- The whole group's bytes after its pass; work gives WORK and the element's SAT by record of the group. -/
def groupBytes (f4 : Bool) (work : Nat → Nat × Bool) (x : GroupIn) (os : List BlkOut) : List Byte :=
  (numbered os).foldl (fun l e => writeBlock f4 work l e.1 e.2) x.bytes

/-- The lines of a group that its pass writes, lines 1 to 32 first and then line 0 (R202): those of rewritten blocks, and poisoned ones. -/
def groupLines (x : GroupIn) (os : List BlkOut) : List Nat :=
  let on := fun (l : Nat) => x.bad.contains l ||
    (numbered os).any fun e => e.2.way != .same && (l == 0 || (8 * e.1 + 1 ≤ l && l ≤ 8 * e.1 + 8))
  ((List.range 32).map (· + 1) ++ [0]).filter on

/-- The group written back (R202, R211). -/
def State.writeGroup (s : State) (b : Nat) (x : GroupIn) (bs : List Byte) (lines : List Nat) : State :=
  lines.foldl (fun s l => s.writeLine (engineReq (bedOf b) 1 0 0 (x.addr + 64 * l)) 0 ((bs.drop (64 * l)).take 64)
    (x.bad.contains l)) s

/-! ### What a pass counts (R209 to R211, R214, R218) -/

/-- A count raised without an event. -/
def State.countN (s : State) (p : Page) (f : Fld) (n : Nat) : State := if n = 0 then s else s.bump p f n

/-- One block's counters and events; a group not in force is recorded for the step that it was not in force in (R210, R390). -/
def State.countBlock (s : State) (u q layer step : Nat) (o : BlkOut) : State :=
  let p := pgUnit u
  let key := 1024 * q + layer
  let rs := o.rolled ++ (if o.way = .stepped then o.recs else [])
  let held := (rs.filter (·.held)).length
  let bad := (o.recs.filter (·.bad)).length
  let s := s.countN p .HELD_REC (held + bad)
  let s := if 0 < bad || rs.any (fun r => r.held && !r.nf) && o.groupOk && o.rolledOk then s.raise p 0 else s
  let s := if rs.any (·.nf) then s.raise p 2 else s
  let s := if o.way = .stale then (s.bump p .STALE_BLK).onceDo (0x0821, key, step) fun s => s.raise p 1 else s
  let s := if o.rolled.isEmpty then s
    else (s.bump p .ROLLED_BLK).onceDo (0x0823, key, step) fun s => s.raise p 3
  let no := fun (s : State) (ok : Bool) (t : Nat) => if ok then s
    else s.onceDo (0x0841, key, t) fun s => s.record 0x0841 p (leBytes 2 layer ++ leBytes 1 o.hdr.group ++ [0] ++ leBytes 4 t)
  no (no s o.rolledOk (prevStep step)) o.groupOk step

/-- A group's counters; a poisoned line 0 holds every record of the group (R211). -/
def State.countGroup (s : State) (u q layer step : Nat) (x : GroupIn) (e : Pass) (g : Nat) (os : List BlkOut) : State :=
  if x.bad.contains 0 then (s.bump (pgUnit u) .HELD_REC (min 256 (e.records - 256 * g))).raise (pgUnit u) 0
  else os.foldl (fun s o => s.countBlock u q layer step o) s

/-- SAT_STORE: stepped records whose SAT was set. -/
def satCount (work : Nat → Nat × Bool) (os : List BlkOut) : Nat :=
  ((numbered os).map fun e =>
    if e.2.way = .stepped then
      (((List.range e.2.recs.length).zip e.2.recs).filter fun r => !r.2.bad && (r.2.sat || (work (64 * e.1 + r.1)).2)).length
    else 0).foldl (· + ·) 0

/-- The reserved codes read in a group's blocks that the step is applied to (R196). -/
def groupRsv (x : GroupIn) (e : Pass) (g : Nat) (os : List BlkOut) : Nat :=
  ((numbered os).map fun o => if o.2.way = .stepped then reservedCodes (groupHdr x o.1) (groupRecs x e g o.1) else 0).foldl (· + ·) 0

/-- The count of reserved codes that a unit read; no register shows it (R196, log 94). -/
def State.countRsv (s : State) (u n : Nat) : State :=
  if n = 0 then s else { s with upd := { s.upd with rsv := s.upd.rsv.put u (s.upd.rsv.get u 0 + n) } }

/-! ### Norms and the ratio ring (R203) -/

/-- A unit's sums of a layer with a group's records added. -/
def sumGroup (pre : Bool) (a : Nat × Nat) (os : List BlkOut) : Nat × Nat :=
  os.foldl (fun a o => o.recs.foldl (addNorms pre) a) a

/-- The unit partials of a layer added in ascending unit index; none when no unit has any. -/
def unitSums (t : Tab (Nat × Nat × Nat) (Nat × Nat)) (units : List Nat) (layer step : Nat) : Nat × Nat :=
  match units.filterMap fun u => Tab.find? t (u, layer, step) with
  | [] => (0, 0)
  | x :: l => l.foldl (fun a y => (add64 a.1 y.1, add64 a.2 y.2)) x

/-- The update units of a partition, ascending (R19). -/
def State.partUnits (s : State) (q : Nat) : List Nat := (s.partBeds q).flatMap fun b => [4 * b, 4 * b + 1, 4 * b + 2, 4 * b + 3]

/-- The norm table's entry of a layer: W2, U2, R_LAST, NORM_STEP; none when nothing wrote it or its line is poisoned. -/
def State.readNorm (s : State) (b : Nat) (f : File) (layer : Nat) : State × Option (Nat × Nat × Nat × Nat) :=
  let a := normTable f + 32 * layer
  let known := (List.range 32).all fun i => (s.mem.raw (a + i)).isSome || (Tab.find? s.mem.cache (lineOf a)).isSome
  let r := s.readSpan (engineReq (bedOf b) 1 0 0 a) 32
  let x := fun (o n : Nat) => fieldAt r.2.1 o n
  (r.1, if known && r.2.2.isEmpty then some (x 0 8, x 8 8, x 16 4, x 20 4) else none)

/-- R in lagged mode (R203). -/
def laggedRatio (e : Option (Nat × Nat × Nat × Nat)) (step : Nat) : Nat :=
  match e with
  | none => oneF
  | some (w2, u2, last, at_) => if at_ = prevStep step then rawRatio w2 u2 else last

/-- R of a layer in a step, computed at the layer's first entry and recorded in the ratio ring with SKIPPED. -/
def State.layerRatio (s : State) (b : Nat) (f : File) (layer step : Nat) (skip : Bool) : State × Nat :=
  let q := s.partOf b
  match s.upd.ratio.find? (q, layer, step) with
  | some r => (s, r)
  | none =>
    let x := if updExact f then
        let n := unitSums s.upd.preSums (s.partUnits q) layer step
        (s, rawRatio n.1 n.2)
      else
        let n := s.readNorm b f layer
        (n.1, laggedRatio n.2 step)
    let s := x.1.writeSpan (engineReq (bedOf b) 1 0 0 (ratioRing f + 8 * ((step % retainSteps f) * 1024 + layer)))
      (leBytes 4 x.2 ++ leBytes 4 (b2n skip))
    ({ s with upd := { s.upd with ratio := s.upd.ratio.put (q, layer, step) x.2 } }, x.2)

/-- RHO after a pass (R203). -/
def rhoOf (exact : Bool) (old : Option (Nat × Nat × Nat × Nat)) (step u2 : Nat) : Nat :=
  if exact then oneF
  else match old with
    | none => fp32.nan
    | some (_, u1, _, at_) =>
      if at_ ≠ prevStep step then fp32.nan
      else if !(val64 u1).isZero then ratio64 u2 u1
      else if (val64 u2).isZero then oneF else fp32.infCode

/-- The norm table after a layer's pass: W2, U2, R_LAST, NORM_STEP, RHO (R203). -/
def State.writeNorm (s : State) (b : Nat) (f : File) (layer step r : Nat) : State :=
  let n := unitSums s.upd.sums (s.partUnits (s.partOf b)) layer step
  let old := s.readNorm b f layer
  old.1.writeSpan (engineReq (bedOf b) 1 0 0 (normTable f + 32 * layer))
    (leBytes 8 n.1 ++ leBytes 8 n.2 ++ leBytes 4 r ++ leBytes 4 step ++ leBytes 4 (rhoOf (updExact f) old.2 step n.2) ++ leBytes 4 0)

/-! ### Cuttings sent (R215) -/

/-- The addresses of a device's state groups in pass-entry order, each once. -/
def stateGroups (f : File) : List Nat :=
  ((passes f).flatMap fun e => (List.range (ceilDiv e.2.records 256)).map fun g => e.2.state + 2112 * g).foldl
    (fun l a => if l.contains a then l else l ++ [a]) []

/-- Cuttings are due in a step (R215). -/
def cutDue (f : File) (step : Nat) : Bool := cutInterval f != 0 && step % cutInterval f == 0 && cutPartner f != idNone

/-- A group's 33 lines mirrored to the partner. -/
def State.mirror (s : State) (u : Nat) (f : File) (step : Nat) (x : GroupIn) (bs : List Byte) : State :=
  if !cutDue f step then s
  else
    let o := 2112 * ((stateGroups f).findIdx (· == x.addr))
    let s := (List.range 33).foldl (fun s l =>
      s.send (s.partOf (u / 4)) (cutPartner f) 2 tyCutting (tfWith [(28, leBytes 4 step), (32, leBytes 8 (o + 64 * l))])
        ((bs.drop (64 * l)).take 64) (x.bad.contains l)) s
    let r := s.upd.mirrorRest.get u 0 + 2112
    ({ s with upd := { s.upd with mirrorRest := s.upd.mirrorRest.put u (r % 1024) } }).bump (pgUnit u) .MIRROR_KIB (r / 1024)

/-! ### The working copy (R206) -/

/-- The sheaves or groups of a working tile that elements lo to hi − 1 complete written whole, vals the tile's values so far, and its side list as far as it goes (R51, R206, log 95). -/
def State.writeWork (s : State) (b : Nat) (d : Desc) (tile : Nat) (vals : List Nat) (lo hi : Nat) : State :=
  let w := workTile d vals
  let wr := fun (s : State) (a : Nat) (bs : List Byte) => s.writeSpan (engineReq (bedOf b) 1 d.hint (1 + Config.storeUses d.tensorId % 255) a) bs false d.release
  let s := (workSpans d lo hi).foldl (fun s x => wr s (d.base + tile * d.tileBytes + x.1) ((w.1.drop x.1).take x.2)) s
  if d.escMult = 0 || 1 < d.format then s else wr s (d.side + 512 * tile) w.2

/-! ### One state group of an entry -/

/-- A state group of a pass entry read, updated, written and counted; vals are the values of the working tile in progress. Answers the values after it. -/
def State.passOne (s : State) (u : Nat) (f : File) (e : Pass) (step g ratio : Nat) (skip : Bool) (vals : List Nat) :
    State × List Nat :=
  let b := u / 4
  let q := s.partOf b
  let r := s.runGroup b f e step g ratio skip
  let x := r.2.1
  let os := r.2.2
  let d := descAt f e.work
  let has := e.work != 0xFFFF
  let old := if g % 16 = 0 then [] else vals
  let vals := old ++ os.flatMap fun o => o.recs.map workValue
  let bs := if has && d.format ≤ 3 then workBlocks d vals else []
  let f4 := s.stateIn q step e.layer == 0
  let work := fun (n : Nat) => if has then workOf f4 d bs vals (old.length + n) else (0, false)
  let bytes := groupBytes (has && f4 && d.format == fmtF4) work x os
  let s := r.1.writeGroup b x bytes (groupLines x os)
  let s := ((s.countGroup u q e.layer step x e g os).countN (pgUnit u) .SAT_STORE (satCount work os)).countRsv u
    (groupRsv x e g os)
  let s := s.put (pgUnit u) .ROLLING (b2n ((s.part q).regrowing || os.any fun o => !o.rolled.isEmpty))
  let k := (u, e.layer, step)
  let s := { s with upd := { s.upd with sums := s.upd.sums.put k (sumGroup false (s.upd.sums.get k (0, 0)) os) } }
  let s := s.mirror u f step x bytes
  let n := if e.records ≤ 256 * (g + 1) then 4096 else vals.length
  (if has then s.writeWork b d ((e.first + 256 * g) / 4096) vals old.length n else s, vals)

/-! ### Ready entries (R157, R201) -/

/-- A bucket of a step settled: some true when it is OK, some false under SKIP_STEP. -/
def State.settledAs (s : State) (q bucket step : Nat) : Option Bool := s.red.settled.find? (q, bucket, step)

/-- The layer's pre-pass has ended on every unit that holds it (R203). -/
def State.prepassed (s : State) (q : Nat) (f : File) (layer step : Nat) : Bool :=
  (passes f).all fun e => e.2.layer != layer || !s.passAllows q step e.2 || s.upd.preDone.contains (q, step, e.1)

/-- An entry of a unit is ready for a step (R201): its layer's state in that step allowed, not done, its frame's tick past, its bucket settled; entries of the frame that an overrun paused are held (R155). -/
def State.entryReady (s : State) (u : Nat) (step : Nat) (done : List (Nat × Nat × Nat)) (k : Nat) (e : Pass) : Bool :=
  let b := u / 4
  let q := s.partOf b
  let now := s.get (pgBed b) .STEP_CNT == step
  e.unit == u && s.passAllows q step e && !done.contains (q, step, k) &&
    (!now || decide (e.frame ≤ s.frameIn b)) && !(now && (s.bed b).heldUpdates && e.frame == s.frameIn b) &&
    (s.settledAs q e.bucket step).isSome

/-- The unit may work (R153, R202): its bed runs and is not stopping, its bridge runs, no stop is asked. -/
def State.unitMay (s : State) (u : Nat) : Bool :=
  s.inRun && s.runsArm (u / 4) && !(s.bed (u / 4)).stopping && s.flag (pgBridge (u / 4)) .RUN && !s.halts (pgUnit u) && !s.upd.stopReq.contains u

/-- The steps whose entries a unit may run, oldest first: no update work is ever skipped (R157, R201). -/
def State.unitSteps (s : State) (u : Nat) : List Nat :=
  ((s.openSteps (s.partOf (u / 4))).filter fun e => !e.2.ended).map (·.1)

/-- The file of an open step. -/
def State.stepFile (s : State) (q step : Nat) : File := match s.stepAt q step with
  | some o => o.file
  | none => []

/-- The next ready entry of a unit that satisfies a test: its step, index and entry, in list order. -/
def State.nextPass (s : State) (u : Nat) (done : List (Nat × Nat × Nat)) (ok : Nat → File → Pass → Bool) :
    Option (Nat × Nat × Pass) :=
  let q := s.partOf (u / 4)
  (s.unitSteps u).findSome? fun t =>
    ((passes (s.stepFile q t)).find? fun e => s.entryReady u t done e.1 e.2 && ok t (s.stepFile q t) e.2).map fun e => (t, e.1, e.2)

/-- A bucket's step is skipped (R210, R258). -/
def State.skipped (s : State) (q bucket step : Nat) : Bool := s.settledAs q bucket step == some false

/-! ### Commands -/

/-- The state with a unit's running entry set. -/
def State.setRun (s : State) (u : Nat) (r : Option UnitRun) : State :=
  { s with upd := { s.upd with run := match r with
    | some x => s.upd.run.put u x
    | none => s.upd.run.del u } }

/-- The layer is complete in a step: every entry that its state allows is done. -/
def State.layerDone (s : State) (q : Nat) (f : File) (layer step : Nat) : Bool :=
  (passes f).all fun e => e.2.layer != layer || !s.passAllows q step e.2 || s.upd.done.contains (q, step, e.1)

/-- An entry complete: the layer's norms when it was the last one and not skipped, and LAST_STEP (R203, R218). -/
def State.endPass (s : State) (u : Nat) (f : File) (k : Nat) (e : Pass) (step ratio : Nat) (skip : Bool) : State :=
  let q := s.partOf (u / 4)
  let s := { s with upd := { s.upd with done := (q, step, k) :: s.upd.done } }
  let s := ((s.setRun u none).put (pgUnit u) .PASS_ACTIVE 0).put (pgUnit u) .ROLLING 0
  let s := if s.layerDone q f e.layer step && !skip then s.writeNorm (u / 4) f e.layer step ratio else s
  s.creditUnit q f u step

/-- The next state group of a running entry. -/
def State.advance (s : State) (u : Nat) (r : UnitRun) (e : Pass) : State :=
  let b := u / 4
  let q := s.partOf b
  let f := s.stepFile q r.step
  let skip := s.skipped q e.bucket r.step
  let x := s.layerRatio b f e.layer r.step skip
  let y := (x.1.put (pgUnit u) .PASS_ACTIVE 1).put (pgUnit u) .UU_LAYER e.layer
  let z := y.passOne u f e r.step r.next x.2 skip r.values
  if e.records ≤ 256 * (r.next + 1) then z.1.endPass u f r.entry e r.step x.2 skip
  else z.1.setRun u (some { r with next := r.next + 1, values := z.2 })

/-- The entry that a unit runs, while its step is still open. -/
def State.runningPass (s : State) (u : Nat) : Option (UnitRun × Pass) :=
  match s.upd.run.find? u with
  | none => none
  | some r =>
    if (s.unitSteps u).contains r.step then
      ((passes (s.stepFile (s.partOf (u / 4)) r.step)).find? fun e => e.1 == r.entry).map fun e => (r, e.2)
    else none

/-- UPDATE_ENTRY (R201 to R206): one state group of the unit's running entry, or of the next ready one; in exact mode a layer waits for its pre-pass. With none ready nothing happens (log 2). -/
def execUpdateEntry (unit : Stack) (s : State) : Host.Outcome State Fault Refusal :=
  let u := unit.val
  let q := s.partOf (u / 4)
  if !s.unitMay u then .next s
  else match s.runningPass u with
    | some (r, e) => .next (s.advance u r e)
    | none =>
      match s.nextPass u s.upd.done (fun t f e => !updExact f || s.skipped q e.bucket t || s.prepassed q f e.layer t) with
      | some (t, k, e) => .next (s.advance u ⟨t, k, 0, []⟩ e)
      | none => .next s

/-- A pre-pass over an entry (R203): u and both norms, nothing written. -/
def State.prepass (s : State) (u : Nat) (f : File) (k : Nat) (e : Pass) (step : Nat) : State :=
  let q := s.partOf (u / 4)
  let key := (u, e.layer, step)
  let r := (List.range (ceilDiv e.records 256)).foldl (fun (a : State × Nat × Nat) g =>
    let y := a.1.runGroup (u / 4) f e step g oneF false
    (y.1, sumGroup true a.2 y.2.2)) (s, s.upd.preSums.get key (0, 0))
  let s := { r.1 with upd := { r.1.upd with preDone := (q, step, k) :: r.1.upd.preDone, preSums := r.1.upd.preSums.put key r.2 } }
  (s.put (pgUnit u) .UU_LAYER e.layer).put (pgUnit u) .PREPASS (b2n ((passes f).any fun x =>
    x.2.unit == u && x.2.layer == e.layer && s.passAllows q step x.2 && !s.upd.preDone.contains (q, step, x.1)))

/-- UPDATE_PREPASS (R203): the next entry's pre-pass in exact mode; a skipped layer needs none. Not due, nothing happens (log 2). -/
def execUpdatePrepass (unit : Stack) (s : State) : Host.Outcome State Fault Refusal :=
  let u := unit.val
  let q := s.partOf (u / 4)
  if !s.unitMay u then .next s
  else match s.nextPass u s.upd.preDone (fun t f e => updExact f && !s.skipped q e.bucket t) with
    | some (t, k, e) => .next (s.prepass u (s.stepFile q t) k e t)
    | none => .next s

/-- UNIT_STOP (R202): a unit that was asked to stop stops at a state-group boundary. Not asked, nothing happens (log 2). -/
def execUnitStop (unit : Stack) (s : State) : Host.Outcome State Fault Refusal :=
  let u := unit.val
  if s.upd.stopReq.contains u then
    let s := { s with upd := { s.upd with stopReq := setMark s.upd.stopReq u false } }
    let s := if s.runsArm (u / 4) then s else s.setRun u none
    .next (((s.put (pgUnit u) .PASS_ACTIVE 0).put (pgUnit u) .PREPASS 0).put (pgUnit u) .ROLLING 0)
  else .next s

/-! ### Regrowing (R217) -/

/-- An entry replayed for a step with the recorded R and SKIPPED; with a poisoned ring line it is left a step behind (log 41). -/
def State.replayEntry (s : State) (f : File) (k : Nat) (e : Pass) (step : Nat) : State :=
  let u := e.unit
  let ring := s.readRing (u / 4) f e.layer step
  match ring.2 with
  | none => ring.1
  | some y =>
    let r := (List.range (ceilDiv e.records 256)).foldl (fun (a : State × List Nat) g =>
      a.1.passOne u f e step g y.1 y.2 a.2) (ring.1, [])
    r.1.endPass u f k e step y.1 y.2

/-- REGROW_REPLAY (R217): the next step replayed over every entry that the layers' states allow; LAST_STEP and the norm table follow. Not the next step, nothing happens (log 2). -/
def execRegrowReplay (part : Bed) (step : Nat) (s : State) : Host.Outcome State Fault Refusal :=
  let q := part.val
  let f := s.regrowFile q
  if (s.part q).regrowing && step == nextStep (s.part q).regrowStep && hasSec f 0x08 then
    let s := (passes f).foldl (fun s e =>
      if s.passAllows q step e.2 && s.partOf (e.2.unit / 4) == q then s.replayEntry f e.1 e.2 step else s) s
    .next (s.setPart q { s.part q with regrowStep := step })
  else .next s

end Sys2Proof.Machine
end

