-- ==== Sys2Proof/Machine/Cutting.lean ====
section
/-! DEFINITION. Cuttings at the partner (R216) and their acknowledgement at the ward (R215, R218). -/

namespace Sys2Proof.Machine

/-- The update page that shows a partition's ward and cutting registers: its lowest unit's (log 42). -/
def State.wardPage (s : State) (q : Nat) : Page := pgUnit (4 * s.partFirst q)

/-- A cutting line discarded, counted and recorded (R216, R390). -/
def State.rejectCut (s : State) (q src off : Nat) : State :=
  let p := s.wardPage q
  (s.bump p .WARD_REJECTED).record 0x0840 p (leBytes 2 src ++ [0, 0] ++ leBytes 8 off)

/-- WARD_STEP and VALID of a ward slot: 0 A, 1 B. -/
def wardStep (k : Nat) : Fld := if k = 0 then .WARD_STEP_A else .WARD_STEP_B
@[inherit_doc wardStep] def wardValid (k : Nat) : Fld := if k = 0 then .WARD_A_VALID else .WARD_B_VALID

/-- The state with a ward slot's progress changed. -/
def State.setWard (s : State) (q k : Nat) (x : Option (Nat × List Nat)) : State :=
  { s with upd := { s.upd with wardLines := match x with
    | some v => s.upd.wardLines.put (q, k) v
    | none => s.upd.wardLines.del (q, k) } }

/-- The first line of a new cutting step for a slot: the slot becomes invalid; a slot still incomplete raises CUT_FAIL (R216). -/
def State.beginWard (s : State) (q k step : Nat) : State :=
  let p := s.wardPage q
  let torn := (s.upd.wardLines.find? (q, 1 - k)).isSome || (s.upd.wardLines.find? (q, k)).isSome
  let s := (s.setWard q (1 - k) none).setWard q k (some (step, []))
  let s := s.put p (wardValid k) 0
  if torn then s.raise p 5 else s

/-- One cutting line of a step, within the ward's region: written; when the slot is whole it is valid and acknowledged. -/
def State.wardLine (s : State) (port q : Nat) (f : File) (k : Packet) : State :=
  let step := tfAt k 28 4
  let off := tfAt k 32 8
  let n := step / max 1 (cutInterval f) % 2
  let p := s.wardPage q
  let r : MemReq := ⟨bedOf (port / 2), 2, 0, 0, wardBase f + n * cutSlotBytes f + off, false⟩
  let whole := s.flag p (wardValid n) && s.get p (wardStep n) == step
  let s := match s.upd.wardLines.find? (q, n) with
    | some w => if w.1 = step then s else s.beginWard q n step
    | none => if whole then s else s.beginWard q n step
  let s := s.writeSpan r k.payload k.poison
  match s.upd.wardLines.find? (q, n) with
  | none => s
  | some w =>
    let l := if w.2.contains off then w.2 else off :: w.2
    if cutSlotBytes f ≤ 64 * l.length then
      let s := ((s.setWard q n none).put p (wardValid n) 1).put p (wardStep n) step
      s.send q (cutWard f) 0 tyCutAck (tfWith [(28, leBytes 4 step)]) []
    else s.setWard q n (some (step, l))

/-- A CUTTING packet (R216). -/
def State.cuttingIn (s : State) (port : Nat) (k : Packet) : State :=
  let q := s.portPart port
  let f := s.partArm q
  let off := tfAt k 32 8
  if !hasSec f 0x08 || k.src != cutWard f || decide (cutSlotBytes f < off + k.payload.length) || off % 64 != 0 then
    s.rejectCut q k.src off
  else s.wardLine port q f k

/-- CUTTING_RECEIVE (R216). -/
def execCuttingReceive (port : Port) (packet : Packet) (s : State) : Host.Outcome State Fault Refusal :=
  s.consume port.val packet tyCutting fun s k => s.cuttingIn port.val k

/-- A CUT_ACK packet from the partner: CUT_DONE_STEP and CUT_DONE (R216, R218). -/
def State.cutAckIn (s : State) (port : Nat) (k : Packet) : State :=
  let q := s.portPart port
  if hasSec (s.partArm q) 0x08 && k.src == cutPartner (s.partArm q) then
    (s.put (s.wardPage q) .CUT_DONE_STEP (tfAt k 28 4)).raise (s.wardPage q) 4
  else s

/-- CUT_ACK_RECEIVE (R216). -/
def execCutAckReceive (port : Port) (packet : Packet) (s : State) : Host.Outcome State Fault Refusal :=
  s.consume port.val packet tyCutAck fun s k => s.cutAckIn port.val k

end Sys2Proof.Machine
end

