-- ==== Sys2Proof/Machine/Owner.lean ====
section
/-! DEFINITION. The security engine's commands (R284, R285, R289, R295 to R297), RECOVERY_WRITE (R365), what answers any other code (R371) and the 200 ms limit (R351). -/

namespace Sys2Proof.Machine

/-- The state with the security part changed. -/
def State.setSec (s : State) (x : SecSt) : State := { s with sec := x }

/-! ### Owner slots (R284) -/

/-- OWNER_SET and OWNER_SLOT follow the fuses. -/
def State.showOwner (s : State) : State :=
  (s.put pgSec .OWNER_SET (b2n s.ownerSlot.isSome)).put pgSec .OWNER_SLOT (s.ownerSlot.getD 0)

/-- OWNER_ENROLL (R284): the first slot needs no authority and no secured session. -/
def execOwnerEnroll (req : Req) (keyHash : List Byte) (s : State) : Host.Outcome State Fault Refusal :=
  let first := s.sec.owners.isEmpty
  s.command ⟨0x50, !first, false, false, false⟩ req (first || s.authorised 0x50 keyHash req)
    [(keyHash.length != 48, stBadLen), (decide (4 ≤ s.sec.owners.length), stConflict)]
    fun s =>
      let s := s.useNonce req
      (s.setSec { s.sec with owners := s.sec.owners ++ [(keyHash, false)] }).showOwner.done

/-- A later slot than the active one is enrolled. -/
def State.laterOwner (s : State) : Bool := match s.ownerSlot with
  | some k => decide (k + 1 < s.sec.owners.length)
  | none => false

/-- OWNER_REVOKE (R284). -/
def execOwnerRevoke (req : Req) (s : State) : Host.Outcome State Fault Refusal :=
  s.command ⟨0x51, true, false, false, false⟩ req (s.authorised 0x51 [] req) [(!s.laterOwner, stConflict)]
    fun s =>
      let s := s.useNonce req
      let k := s.ownerSlot.getD 0
      (s.setSec { s.sec with owners := s.sec.owners.modify k fun o => (o.1, true) }).showOwner.done

/-! ### Sessions (R289, R295) -/

/-- The SPDM session of a path. -/
def State.spdmOf (s : State) (path : Path) : Option SpdmSession := match path with
  | .secured k => s.sec.spdm.find? k
  | _ => none

/-- The requester of a secured session authenticated with a key of this hash (R287). -/
def State.isTenant (s : State) (path : Path) (hash : List Byte) : Bool := match s.spdmOf path with
  | some x => x.mutualAuth && x.requester == hash
  | none => false

/-- The grant of R289: the owner's signature, this device, this partition, a fresh GRANT_SEQ, the key of the SPDM session. -/
def State.grantOk (s : State) (p : Nat) (path : Path) (pay : List Byte) : Bool :=
  (match s.ownerHash with
    | some h => Config.ecdsaOk h (pay.take 64) ((pay.drop 64).take 96)
    | none => false) &&
  fieldAt pay 0 8 == Config.serial.toNat && fieldAt pay 8 1 == p && decide ((s.session p).grantSeq < fieldAt pay 12 4) &&
    s.isTenant path ((pay.drop 16).take 48)

/-- A roster as it stands in memory: 64 bytes an entry. -/
def rosterEntries (bs : List Byte) (n : Nat) : List (Nat × List Byte) :=
  (List.range n).map fun i => (fieldAt bs (64 * i) 2, (bs.drop (64 * i + 16)).take 48)

/-- Ids in ascending order. -/
def ascending : List Nat → Bool
  | a :: b :: t => decide (a < b) && ascending (b :: t)
  | _ => true

/-- The roster's checks: readable, its digest, ascending ids, reserved bytes 0 (R4, R289). -/
def State.rosterOk (s : State) (p : Nat) (pay : List Byte) : Bool :=
  let n := fieldAt pay 200 4
  let a := fieldAt pay 192 8
  let bs := if n ≤ 8191 then s.peek a (64 * n) else []
  decide (n ≤ 8191) && (n == 0 || s.rangeOk p a (64 * n)) && Config.sha384 bs == (pay.drop 208).take 48 &&
    ascending ((rosterEntries bs n).map (·.1)) && (List.range n).all (fun i => fieldAt bs (64 * i + 2) 14 == 0)

/-- Reserved bytes of the payload are 0 (R4). -/
def openReserved (pay : List Byte) : Bool := fieldAt pay 9 3 == 0 && fieldAt pay 204 4 == 0

/-- The argument of a payload that fails first: a reserved field, else the roster's address. -/
def openFailing (pay : List Byte) : Nat :=
  if fieldAt pay 9 3 ≠ 0 then fieldAt pay 9 3 else if fieldAt pay 204 4 ≠ 0 then fieldAt pay 204 4 else fieldAt pay 192 8

/-- A session may not open now: a scrub runs or, with a session opening or closing, is to run, the entropy source failed, or the protected queue is full (R185, R289, R292, R342). -/
def State.openBusy (s : State) (p : Nat) : Bool :=
  s.sessionState p == 1 || s.sessionState p == 3 || (s.partBeds p).any (fun b => s.flag (pgBridge b) .SCRUB_BUSY) || s.sec.sourceFailed ||
    !(decide (s.evr.queueProt.length < 480) && s.evr.pendProt.isEmpty)

/-- SESSION_OPEN (R289, R290): with the bridges and the key generator off it is the wrong state, in reset and power-up BUSY (log 98). -/
def execSessionOpen (req : Req) (payload : List Byte) (s : State) : Host.Outcome State Fault Refusal :=
  let p := req.part
  s.command ⟨0x52, true, false, true, false⟩ req (s.grantOk p req.path payload)
    [(payload.length != 256, stBadLen), (!openReserved payload || !s.rosterOk p payload, stBadArg),
     (s.sessionOpen p || (s.partBeds p).any (fun b => !s.bedQuiet b) || (!s.cpOn && !s.starting), stConflict), (!s.cpOn || s.openBusy p, stBusy)]
    (arg := openFailing payload) fun s =>
      let n := fieldAt payload 200 4
      let secret := match s.spdmOf req.path with
        | some x => x.exportSecret
        | none => []
      ((s.readSpan (engineReq (bedOf (s.partFirst p)) 0 0 0 (fieldAt payload 192 8)) (64 * n)).1.beginSession p (fieldAt payload 12 4) ((payload.drop 160).take 32) ((payload.drop 16).take 48) secret
        (rosterEntries (s.peek (fieldAt payload 192 8) (64 * n)) n) ((payload.drop 208).take 48)).done

/-- SESSION_CLOSE (R295, R307): by the session's tenant or the owner; in Off, where no bridge is on, the session ends at once. -/
def execSessionClose (req : Req) (s : State) : Host.Outcome State Fault Refusal :=
  let p := req.part
  s.command ⟨0x53, true, false, true, false⟩ req
    (s.isTenant req.path (s.session p).tenant || s.authorised 0x53 [] req)
    [(s.sessionState p == 0 || s.sessionState p == 3, stConflict)]
    fun s =>
      let s := s.useNonce req
      (if s.pw.power = .off then s.endSessionNow p else s.beginClose p).done

/-! ### Firmware (R296, R297) -/

/-- The most bytes of an image: 0 keeper, 1 control processor. -/
def imageLimit (image : Nat) : Nat := if image = 0 then 1048576 else 3145728

/-- Bytes written into an image at an offset: what lay behind them is gone. -/
def imageWrite (old : List Byte) (offset : Nat) (chunk : List Byte) : List Byte := padTo offset old ++ chunk

/-- A chunk written to a slot, which is no longer verified, as one store (R296, R317). -/
def State.writeChunk (s : State) (slot image offset : Nat) (chunk : List Byte) : State :=
  let f := s.sec.flash.get slot FwSlot.reset
  let f := if image = 0 then { f with keeperImage := imageWrite f.keeperImage offset chunk, ok := false }
    else { f with cpImage := imageWrite f.cpImage offset chunk, ok := false }
  let s := s.setSec { s.sec with flash := s.sec.flash.put slot f, chunkBusy := true }
  (if s.sec.pending = some slot then (s.setSec { s.sec with pending := none, hdrWaiting := true }).put pgSec .FW_PENDING 0 else s).beginStore 1

/-- One image verifies: signed under a firmware key that is not revoked, SVN at most 64 and at least FUSE_COUNT (R296, R297). -/
def State.imageGood (s : State) (img : List Byte) : Bool :=
  (match Config.imageKey img with
    | some k => decide (k < 4) && !s.sec.keyRevoked.contains k
    | none => false) &&
  decide (Config.imageSvn img ≤ 64) && decide (s.get pgSec .FUSE_COUNT ≤ Config.imageSvn img)

/-- A whole slot verifies. -/
def State.slotGood (s : State) (k : Nat) : Bool :=
  let f := s.sec.flash.get k FwSlot.reset
  s.imageGood f.keeperImage && s.imageGood f.cpImage && decide (f.keeperImage.length ≤ imageLimit 0) &&
    decide (f.cpImage.length ≤ imageLimit 1)

/-- A slot that verified, with the version and the lower SVN of its images. -/
def State.passSlot (s : State) (k : Nat) : State :=
  let f := s.sec.flash.get k FwSlot.reset
  let f := { f with version := Config.imageVersion f.cpImage, svn := min (Config.imageSvn f.keeperImage) (Config.imageSvn f.cpImage), ok := true }
  s.setSec { s.sec with flash := s.sec.flash.put k f }

/-- The slot marked pending, which the boot header stores (R297, R367). -/
def State.markPending (s : State) (k : Nat) : State :=
  (s.setSec { s.sec with pending := some k, attempts := 0, bootedNew := false, hdrWaiting := true }).put pgSec .FW_PENDING 1

/-- A chunk that would carry an image past its limit, or has no bytes or more than 1,024 (R296, R371). -/
def chunkLenBad (image offset : Nat) (chunk : List Byte) : Bool :=
  chunk.isEmpty || decide (1024 < chunk.length) || decide (imageLimit image < offset + chunk.length)

/-- What a FW_UPDATE signs beside its code and nonce (log 11). -/
def chunkPayload (image offset : Nat) (chunk : List Byte) (last : Bool) : List Byte :=
  leBytes 1 image ++ leBytes 1 (b2n last) ++ leBytes 4 offset ++ chunk

/-- FW_UPDATE (R296): the inactive slot in chunks; the last one has the whole slot verified. -/
def execFwUpdate (req : Req) (image offset : Nat) (chunk : List Byte) (last : Bool) (s : State) : Host.Outcome State Fault Refusal :=
  let slot := 1 - s.sec.active
  s.command ⟨0x54, true, false, false, false⟩ req (s.authorised 0x54 (chunkPayload image offset chunk last) req)
    [(chunkLenBad image offset chunk, stBadLen), (decide (2 ≤ image), stBadArg), (s.sec.chunkBusy, stConflict),
     (s.flag pgKeeper .STORE_ACTIVE, stBusy), (!s.canStore 1, stHoldupLow)]
    (arg := image) fun s =>
      let s := (s.useNonce req).writeChunk slot image offset chunk
      if !last then s.done
      else if s.slotGood slot then ((s.passSlot slot).markPending slot).done
      else s.refuse pgCp stIntegrity 0x54 req.path image

/-- FW_COMMIT (R297): fuses blown up to the active image's SVN. -/
def execFwCommit (req : Req) (s : State) : Host.Outcome State Fault Refusal :=
  s.command ⟨0x55, true, false, false, false⟩ req (s.authorised 0x55 [] req) [(!s.sec.bootedNew, stConflict)]
    fun s =>
      let s := s.useNonce req
      let svn := min 64 (s.sec.flash.get s.sec.active FwSlot.reset).svn
      (s.put pgSec .FUSE_COUNT (max (s.get pgSec .FUSE_COUNT) svn)).done

/-- A page of BAR0. -/
def State.isPage (s : State) (p : Page) : Bool := s.pageAt (pageBase p) == some (p, 0)

/-- PAGE_UNLOCK (R38, R285). -/
def execPageUnlock (req : Req) (page : Page) (s : State) : Host.Outcome State Fault Refusal :=
  s.command ⟨0x56, true, false, false, false⟩ req (s.authorised 0x56 (leBytes 4 (pageBase page)) req)
    [(!s.isPage page, stBadArg),
     ((match s.pagePart page with
        | some q => s.sessionOpen q
        | none => false), stConflict)]
    (arg := pageBase page) fun s => ((s.useNonce req).doUnlock page).done

/-- RECOVERY_WRITE (R365, R366): slot A in chunks; when it is complete and verifies, the ROM reboots. -/
def execRecoveryWrite (req : Req) (image offset : Nat) (chunk : List Byte) (last : Bool) (s : State) :
    Host.Outcome State Fault Refusal :=
  s.command ⟨0x60, false, false, false, false⟩ req true
    [(!s.pw.recovery || !s.sec.sfdpOk, stNotSupported), (chunkLenBad image offset chunk, stBadLen), (decide (2 ≤ image), stBadArg),
     (s.sec.chunkBusy || s.flag pgKeeper .STORE_ACTIVE, stBusy), (!s.canStore 1, stHoldupLow)]
    (arg := image) fun s =>
      let s := s.writeChunk 0 image offset chunk
      if !last then s.done
      else if s.slotGood 0 then
        let s := s.passSlot 0
        ((s.setSec { s.sec with active := 0, pending := none, hdrWaiting := true }).setPw { s.pw with recovery := false, bootPhase := 3, bootFailed := [] }).done
      else s.refuse pgCp stIntegrity 0x60 req.path image

/-! ### Any other code, and the time limit (R351, R371) -/

/-- The codes of R371. -/
def commandCodes : List Nat :=
  [0x01, 0x02, 0x03, 0x10, 0x11, 0x12, 0x20, 0x21, 0x30, 0x31, 0x40, 0x41, 0x42, 0x43, 0x50, 0x51, 0x52, 0x53, 0x54, 0x55, 0x56, 0x60]

/-- Commands marked S (R371): the first owner slot is enrolled outside a secured session (R284). -/
def State.securedCode (s : State) (code : Nat) : Bool :=
  [0x43, 0x51, 0x52, 0x53, 0x54, 0x55, 0x56].contains code || (code == 0x50 && !s.sec.owners.isEmpty)

/-- UNKNOWN_COMMAND (R371): a code that the table does not list. A listed one is not this command (log 2). -/
def execUnknownCommand (req : Req) (code : Nat) (s : State) : Host.Outcome State Fault Refusal :=
  if !s.reaches req.path code req.part || commandCodes.contains code then .next s
  else .next (s.refuse pgCp stNotSupported code req.path req.part)

/-- MANAGEMENT_COMMAND_TIMEOUT (R351): the command abandoned, what its completed phases did is kept; record 0x02ED names the last of them. -/
def execManagementCommandTimeout (req : Req) (code phase : Nat) (s : State) : Host.Outcome State Fault Refusal :=
  if !s.reaches req.path code req.part then .next s else .next (s.refuse pgCp stTimeout code req.path phase)

end Sys2Proof.Machine
end

