-- ==== Sys2Proof/Machine/Raw.lean ====
section
/-! DEFINITION. Commands as they stand in a buffer, a message or a packet (R369; payload layouts of log 11), the MCTP control commands (R368), and what arrives at a port (R220, R369): MGMT_RECEIVE and SLOT_RECEIVE. -/

namespace Sys2Proof.Machine

/-! ### Raw commands (R369) -/

/-- Bytes of an authorisation block: nonce and signature (R285). -/
def authBytes : Nat := 104

/-- The block at the end of a payload, if the payload is long enough for its body and a block. -/
def authOf (body : Nat) (pay : List Byte) : Option Auth :=
  if pay.length < body + authBytes then none
  else
    let b := pay.drop (pay.length - authBytes)
    some ⟨b.take 8, b.drop 8⟩

/-- A payload without its authorisation block. -/
def bodyOf (pay : List Byte) : List Byte := pay.take (pay.length - authBytes)

/-- The command's frame with a payload of exactly n bytes. -/
def plainReq (path : Path) (c : RawCmd) (n : Nat) : Req := ⟨path, c.part, c.reserved, c.payload.length == n, none⟩
/-- The command's frame with n bytes before its authorisation block. -/
def signedReq (path : Path) (c : RawCmd) (n : Nat) : Req :=
  ⟨path, c.part, c.reserved, c.payload.length == n + authBytes, authOf n c.payload⟩

/-- A command whose frame carries a firmware chunk: image, last flag, offset, chunk, and the block behind them. -/
def chunkReq (path : Path) (c : RawCmd) : Req := ⟨path, c.part, c.reserved, decide (6 + authBytes < c.payload.length), authOf 6 c.payload⟩

/-- The page that an offset names, or a page that does not exist. -/
def State.pageNamed (s : State) (off : Nat) : Page := match s.pageAt off with
  | some (p, 0) => p
  | _ => ⟨.deviceGlobals, 1⟩

/-- The commands of the security engine with their payloads. -/
def State.runOwner (s : State) (path : Path) (c : RawCmd) : Host.Outcome State Fault Refusal :=
  let p := c.payload
  if c.code = 0x43 then execEvrClear (signedReq path c 9) (fieldAt p 0 1) (fieldAt p 1 8) s
  else if c.code = 0x50 then
    if s.sec.owners.isEmpty then execOwnerEnroll (plainReq path c 48) p s else execOwnerEnroll (signedReq path c 48) (bodyOf p) s
  else if c.code = 0x51 then execOwnerRevoke (signedReq path c 0) s
  else if c.code = 0x52 then execSessionOpen (plainReq path c 256) p s
  else if c.code = 0x53 then execSessionClose (if p.isEmpty then plainReq path c 0 else signedReq path c 0) s
  else if c.code = 0x54 then
    execFwUpdate (chunkReq path c) (fieldAt p 0 1) (fieldAt p 2 4) ((bodyOf p).drop 6) (fieldAt p 1 1 != 0) s
  else if c.code = 0x55 then execFwCommit (signedReq path c 0) s
  else execPageUnlock (signedReq path c 4) (s.pageNamed (fieldAt p 0 4)) s

/-- RECOVERY_WRITE as it arrives (R371): an offset into slot A and up to 1,024 bytes. The slot is complete once both images are whole, which their own framing tells (log 84). -/
def State.runRecovery (s : State) (path : Path) (c : RawCmd) : Host.Outcome State Fault Refusal :=
  let o := fieldAt c.payload 0 4
  let image := if o < 0x00100000 then 0 else 1
  let off := o - 0x00100000 * image
  let d := c.payload.drop 4
  let f := s.sec.flash.get 0 FwSlot.reset
  let keeper := if image = 0 then imageWrite f.keeperImage off d else f.keeperImage
  let cp := if image = 1 then imageWrite f.cpImage off d else f.cpImage
  execRecoveryWrite ⟨path, c.part, c.reserved, decide (4 < c.payload.length), none⟩ image off d (Config.imageWhole keeper && Config.imageWhole cp) s

/-- REGROW as it arrives: what partner and source answer is free. -/
def State.runRegrow (s : State) (path : Path) (c : RawCmd) : Host.Outcome State Fault Refusal :=
  let n := s.draw.1
  execRegrow (plainReq path c 4) (fieldAt c.payload 0 2) (fieldAt c.payload 2 2) (Config.regrowCut n % 2 ^ 32) (Config.regrowPartner n)
    (Config.regrowSource n) s.draw.2

/-- A raw command run on a path (R369, R371). -/
def State.runRaw (s : State) (path : Path) (c : RawCmd) : Host.Outcome State Fault Refusal :=
  let p := c.payload
  let req := plainReq path c
  if c.code = 0x01 then execGetStatus (req 0) s
  else if c.code = 0x02 then execGetNonce (req 0) s
  else if c.code = 0x03 then execReadPower (req 0) s
  else if c.code = 0x10 then execArmatureLoad (req 12) (fieldAt p 0 8) (fieldAt p 8 4) s
  else if c.code = 0x11 then
    execArmatureActivate (req 24) (fieldAt p 0 4) (fieldAt p 4 6) (fieldAt p 10 4) (fieldAt p 14 2) (fieldAt p 16 8) s
  else if c.code = 0x12 then execArmatureUnload (req 4) (fieldAt p 0 4) s
  else if c.code = 0x20 then execSetPowerState (req 1) (fieldAt p 0 1) s
  else if c.code = 0x21 then execHaltAndHold (req 0) s
  else if c.code = 0x30 then execGraftPlan (req 12) (fieldAt p 0 8) (fieldAt p 8 4) s
  else if c.code = 0x31 then s.runRegrow path c
  else if c.code = 0x40 then execEvrRead (req 2) (fieldAt p 0 2) s
  else if c.code = 0x41 then execEvrFreeze (req 0) s
  else if c.code = 0x42 then execEvrUnfreeze (req 0) s
  else if c.code = 0x60 then s.runRecovery path c
  else if commandCodes.contains c.code then s.runOwner path c
  else execUnknownCommand (req p.length) c.code s

/-- A command as its bytes spell it (R369). -/
def rawOf (bs : List Byte) : RawCmd := ⟨fieldAt bs 0 2, fieldAt bs 2 1, fieldAt bs 3 1, bs.drop 4⟩

/-! ### MCTP control (R368) -/

/-- The management port's 7-bit SMBus address, and the bytes of a packet's payload (R368). -/
def mctpAddress : Nat := 0x4E
@[inherit_doc mctpAddress] def mctpUnit : Nat := 64

/-- A packet on the management port (DSP0236, DSP0237): SMBus address, message tag, first and last marks, sequence number modulo 4, payload. -/
structure MctpPacket where
  address : Nat
  tag : Nat
  first : Bool
  last : Bool
  seq : Nat
  payload : List Byte
  deriving DecidableEq, Repr

/-- The packets that follow a message's first one: the same tag, the next sequence number, whole units up to the last (R368). -/
def mctpRest (tag : Nat) : Nat → List MctpPacket → Option (List Byte)
  | _, [] => none
  | n, k :: l =>
    if k.address ≠ mctpAddress ∨ k.tag ≠ tag ∨ k.first = true ∨ k.seq ≠ n % 4 then none
    else if k.last then (if k.payload.length ≤ mctpUnit then some k.payload else none)
    else if k.payload.length = mctpUnit then (mctpRest tag (n + 1) l).map (k.payload ++ ·) else none

/-- A message assembled from its packets (R368); what does not fit together is no message. -/
def assembleMctp : List MctpPacket → Option (List Byte)
  | [] => none
  | k :: l =>
    if k.address ≠ mctpAddress ∨ k.first = false then none
    else if k.last then (if k.payload.length ≤ mctpUnit then some k.payload else none)
    else if k.payload.length = mctpUnit then (mctpRest k.tag (k.seq + 1) l).map (k.payload ++ ·) else none

/-- The control command that a control message spells: type 0x00, instance, command code, data (DSP0236, log 11). -/
def mctpControl (m : List Byte) : Option Instr :=
  if fieldAt m 0 1 ≠ 0x00 then none
  else if fieldAt m 2 1 = 0x01 then some (.setEndpointId (fieldAt m 4 1) (fieldAt m 3 1 % 4))
  else if fieldAt m 2 1 = 0x02 then some .getEndpointId
  else if fieldAt m 2 1 = 0x04 then some (.getMctpVersionSupport (fieldAt m 3 1))
  else if fieldAt m 2 1 = 0x05 then some .getMessageTypeSupport
  else if fieldAt m 2 1 = 0x06 then some (.getVendorDefinedMessageSupport (fieldAt m 3 1))
  else none

/-- An MCTP control message reaches the management port; after a lost die-to-die link nothing answers it (R11), nor does the ROM in recovery (R365). -/
def State.onMctp (s : State) (f : State → State) : Host.Outcome State Fault Refusal :=
  if s.pw.keeperOn && !s.pw.wedged && !s.pw.recovery then .next (f s) else .next s

/-- Set Endpoint ID (DSP0236, log 11): set or force an id that a device may have; the other operations and ids are invalid data. The answer tells that the id was accepted, the id, and that there is no pool. -/
def execSetEndpointId (eid : Nat) (s : State) (op : Nat := 0) : Host.Outcome State Fault Refusal :=
  s.onMctp fun s =>
    if op < 2 ∧ 8 ≤ eid ∧ eid ≤ 254 then { s with host := { s.host with eid := eid } }.done (leBytes 1 0 ++ leBytes 1 eid ++ leBytes 1 0)
    else s.reply 2

/-- Get Endpoint ID: the id, a simple endpoint with a dynamic id, no medium-specific information. -/
def execGetEndpointId (s : State) : Host.Outcome State Fault Refusal := s.onMctp fun s => s.done (leBytes 1 s.host.eid ++ [0, 0])

/-- The message types of R368. -/
def messageTypes : List Nat := [0x00, 0x05, 0x06, 0x7F]

/-- Get MCTP Version Support: the versions of the base specification (0xFF) or of a message type, as a count and entries; another type is not supported (0x80). -/
def execGetMctpVersionSupport (s : State) (type : Nat := 0xFF) : Host.Outcome State Fault Refusal :=
  s.onMctp fun s =>
    if type = 0xFF ∨ messageTypes.contains type then
      s.done (leBytes 1 (Config.mctpVersions type).length ++ (Config.mctpVersions type).flatMap fun v => leBytes 4 v.toNat)
    else s.reply 0x80

/-- Get Message Type Support: how many and which types beside control (R368). -/
def execGetMessageTypeSupport (s : State) : Host.Outcome State Fault Refusal :=
  s.onMctp fun s => s.done (leBytes 1 (messageTypes.drop 1).length ++ (messageTypes.drop 1).flatMap (leBytes 1))

/-- Get Vendor Defined Message Support: set 0 is the only one, in IANA format with Methiri's enterprise number and its command set; another selector is invalid data. -/
def execGetVendorDefinedMessageSupport (s : State) (selector : Nat := 0) : Host.Outcome State Fault Refusal :=
  s.onMctp fun s =>
    if selector = 0 then s.done ([0xFF, 1] ++ (leBytes 4 Config.enterprise.toNat).reverse ++ (leBytes 2 Config.commandSet.toNat).reverse)
    else s.reply 2

/-! ### Packets for the keeper (R291, R369) -/

/-- What a MGMT packet's sender is sent back in class 3: the status in byte 0, data from byte 4 (R228, R369). -/
def State.replyPacket (s : State) (q : Nat) (k : Packet) : State :=
  s.send q k.src 3 tyMgmt (tfWith [(28, leBytes 2 (tfAt k 28 2))]) (leBytes 1 s.out.status ++ [0, 0, 0] ++ s.out.data)

/-- A MGMT packet: a key-agreement message, or a command of a current member, which is answered (R291, R369); any other source is discarded. -/
def State.mgmtIn (s : State) (p : Nat) (k : Packet) : Host.Outcome State Fault Refusal :=
  let q := s.portPart p
  let c := { rawOf k.payload with code := tfAt k 28 2 }
  if kaKey ≤ c.code && c.code ≤ kaFailed then .next (s.keyMessage q k.src c.code c.payload)
  else if !s.reaches (.fabric k.src) c.code c.part then .next s
  else match s.runRaw (.fabric k.src) c with
    | .next t => .next (t.replyPacket q k)
    | .fault x => .fault x
    | .refused x => .refused x

/-- MGMT_RECEIVE (R369). -/
def execMgmtReceive (port : Port) (packet : Packet) (s : State) : Host.Outcome State Fault Refusal :=
  if packet.type ≠ tyMgmt then .next s
  else match s.takeIn port.val packet with
    | (s, some k) => s.mgmtIn port.val k
    | (s, none) => .next s

/-! ### Slots (R220) -/

/-- A whole slot's packet to its consumer by TYPE (R232). -/
def State.deliver (s : State) (port : Port) (k : Packet) : Host.Outcome State Fault Refusal :=
  if k.type = tyData then execDataReceive port k s
  else if k.type = tyHeartbeat then execHeartbeatReceive port k s
  else if k.type = tyTime then
    if tfAt k 28 1 % 2 = 0 then execTimeRequestReceive port k s else execTimeResponseReceive port k s
  else if k.type = tyTopology then execTopologyReceive port k s
  else if k.type = tyReduce then execReduceReceive port k s
  else if k.type = tyCert then execCertReceive port k s
  else if k.type = tyCutting then execCuttingReceive port k s
  else if k.type = tyCutAck then execCutAckReceive port k s
  else if k.type = tyMgmt then execMgmtReceive port k s
  else .next (s.takeIn port.val k).1

/-- What the receiver counts of a slot (R220, R245): its number, its codewords; a slot with an uncorrectable one is asked for again by its number with the next slot sent. asked is the number of a slot that the partner asks for again with it (log 83). -/
def State.countSlot (s : State) (p corrected uncorrectable : Nat) (asked : Option Nat) : State :=
  let n := s.fab.received.get p 0
  let s := s.setFab { s.fab with
    received := s.fab.received.put p (n + 1),
    retryAsk := if 0 < uncorrectable then s.fab.retryAsk.put p (s.fab.retryAsk.get p [] ++ [n]) else s.fab.retryAsk }
  let s := (s.bump (pgPort p) .FEC_CORR corrected).bump (pgPort p) .FEC_UNCORR uncorrectable
  match asked with
  | some k => s.askedFor p k
  | none => s

/-- SLOT_RECEIVE (R220, R245): the slot is counted; one with an uncorrectable codeword is discarded and asked for again; a whole one goes to its consumer. Under NEAR_LOOPBACK the port receives what it sent, oldest first, and nothing of its partner. -/
def execSlotReceive (port : Port) (corrected uncorrectable : Nat) (packet : Packet) (s : State) (asked : Option Nat := none) :
    Host.Outcome State Fault Refusal :=
  let p := port.val
  if !(s.portUp p || s.link p == 4) then .next s
  else if s.flag (pgPort p) .NEAR_LOOPBACK then
    match s.fab.looped.get p [] with
    | [] => .next s
    | k :: rest => State.deliver (s.setFab { s.fab with looped := s.fab.looped.put p rest }) port k
  else
    let t := s.countSlot p corrected uncorrectable asked
    if 0 < uncorrectable then .next t else t.deliver port packet

end Sys2Proof.Machine
end

