-- ==== Sys2Proof/Machine/HostIf.lean ====
section
/-! DEFINITION. The host side (R356 to R364, R369, R370, R372, R375): the BAR2 aperture, the DMA queues, the mailbox, configuration requests and function-level reset. -/

namespace Sys2Proof.Machine

/-! ### BAR2 (R357) -/

/-- The device address that an offset of BAR2 reaches. -/
def State.apertureAddr (s : State) (off : Nat) : Nat := s.get pgPcie .APERTURE_BASE * 2 ^ 20 + off

/-- The offset lies in BAR2: 64 GiB. -/
def inBar2 (off : Nat) : Bool := decide (off < 2 ^ 36)

/-- A BAR2 access served, or waiting in a flow fault (R312). -/
def State.hostAccess (s : State) (w : HostWait) : State := if s.hostWaits then s.hold w else s.serveHost w

/-- BAR2_READ (R357): the bytes from the offset to the end of its line; a poisoned or faulting read has EP set and data 0. -/
def execBar2Read (off : Nat) (err : LineErr) (s : State) : Host.Outcome State Fault Refusal :=
  if !inBar2 off then .next s
  else .next (s.onBar fun s => s.hostAccess ⟨s.get pgPcie .APERTURE_PART, s.apertureAddr off, err, none⟩)

/-- BAR2_WRITE (R357): a write within one line, by read-modify-write when it is partial; with EP set its line is stored with POISON set. -/
def execBar2Write (off : Nat) (data : List Byte) (ep : Bool) (s : State) : Host.Outcome State Fault Refusal :=
  if !inBar2 off then .next s
  else .next (s.onBar fun s => s.hostAccess ⟨s.get pgPcie .APERTURE_PART, s.apertureAddr off, .none, some (data, ep)⟩)

/-! ### DMA queues (R358 to R362) -/

/-- A descriptor as its 32 bytes spell it (R359). -/
def descOf (b : List Byte) : DmaDesc :=
  ⟨fieldAt b 0 8, fieldAt b 8 8, fieldAt b 16 4, fieldAt b 20 1, bitAt (fieldAt b 21 1) 0, fieldAt b 21 1 / 2 != 0 || fieldAt b 22 2 != 0,
    fieldAt b 24 8⟩

/-- The descriptors of a queue in flight, oldest first. -/
def State.flying (s : State) (q : Nat) : List InFlight := s.host.inFlight.get q []

/-- The queue's descriptors in flight replaced; IDLE follows (R375). -/
def State.setFlying (s : State) (q : Nat) (l : List InFlight) : State :=
  { s with host := { s.host with inFlight := s.host.inFlight.put q l } }.put pgPcie .DMAQ_IDLE (b2n l.isEmpty) q

/-- The partition that a queue is bound to. -/
def State.queuePart (s : State) (q : Nat) : Nat := s.get pgPcie .DMAQ_PART q

/-- The descriptor breaks the form of R359. -/
def descForm (d : DmaDesc) : Bool :=
  d.rsv || decide (2 < d.op) || d.hostAddr % 64 != 0 || d.devAddr % 64 != 0 || d.len % 64 != 0 || d.len == 0 ||
    decide ((if d.op = 2 then 1048576 else 16777216) < d.len)

/-- The first line of a descriptor's range that fails R170. -/
def State.descFault (s : State) (q : Nat) (d : DmaDesc) : Option Nat :=
  (spanLines d.devAddr d.len).find? fun l => s.hostFaulty (s.queuePart q) (64 * l)

/-- The descriptor breaks the form of R359, or a line of its range fails R170. -/
def State.descBad (s : State) (q : Nat) (d : DmaDesc) : Bool := descForm d || (s.descFault q d).isSome

/-- The status with which a descriptor ends before any line moves, in the order of R41 (R360). -/
def State.descStatus (s : State) (q : Nat) (d : DmaDesc) : Option Nat :=
  let open_ := s.sessionOpen (s.queuePart q)
  firstStatus [(d.op == 0 && open_, stNotAuth), (s.descBad q d, stBadArg), (d.op == 2 && !open_, stConflict)]

/-- The index of a queue's SEALED_SEQ for its bound partition (R361). -/
def State.sealedIdx (s : State) (q : Nat) : Nat := 8 * q + s.queuePart q

/-- A descriptor fetched from the ring and begun: checked, a range that fails R170 is one address fault at its first such line (R150, R170; log 20); every OP 2 one takes its SEALED_SEQ (R361); an unsealed write into a session is counted and recorded (R294). -/
def State.beginDesc (s : State) (q : Nat) (d : DmaDesc) : State :=
  let i := s.get pgPcie .DMAQ_HEAD q
  let k := s.get pgPcie .RING_LOG2 q
  let st := s.descStatus q d
  let n := s.get pgPcie .SEALED_SEQ (s.sealedIdx q)
  let s := { s with out := { s.out with hostReads := s.out.hostReads ++ [s.get pgPcie .DMAQ_RING q * 4096 + 32 * i] } }.put pgPcie .DMAQ_HEAD ((i + 1) % 2 ^ k) q
  let s := if d.op = 2 then s.put pgPcie .SEALED_SEQ (n + 1) (s.sealedIdx q) else s
  let s := if st = some stNotAuth then s.denyWrite d.devAddr 1 else s
  let s := if st = some stBadArg && !descForm d then
      match s.descFault q d with
      | some l => s.countFault (64 * l)
      | none => s
    else s
  s.setFlying q (s.flying q ++ [⟨d, i, st, 0, n⟩])

/-- Descriptors begun in ring order while the queue is enabled, the endpoint is not stopped (R31) and fewer than four are in flight (R362). -/
def State.fetch : Nat → State → Nat → State
  | 0, s, _ => s
  | n + 1, s, q =>
    match s.host.ringTail.get q [] with
    | [] => s
    | d :: t =>
      if s.flag pgPcie .DMAQ_EN q && !s.halts pgPcie && decide ((s.flying q).length < 4) then
        State.fetch n ({ s with host := { s.host with ringTail := s.host.ringTail.put q t } }.beginDesc q d) q
      else s

/-- The queue fetches what it may. -/
def State.runQueue (s : State) (q : Nat) : State := s.fetch 4 q

/-- TAIL written: the entries between the old and the new TAIL, as host memory holds them, wait for their fetch (R362, log 16). -/
def State.ring (s : State) (q tail : Nat) (descs : List (List Byte)) : State :=
  let k := 2 ^ s.get pgPcie .RING_LOG2 q
  let n := (tail % k + k - s.get pgPcie .DMAQ_TAIL q % k) % k
  let s := s.put pgPcie .DMAQ_TAIL tail q
  { s with host := { s.host with ringTail := s.host.ringTail.put q (s.host.ringTail.get q [] ++ (descs.take n).map descOf) } }.runQueue q

/-- DOORBELL (R362): a write to DMAQ_TAIL of the queue; a TAIL equal to the one held is no write (R389). -/
def execDoorbell (queue : Queue) (tail : Nat) (descs : List (List Byte)) (s : State) : Host.Outcome State Fault Refusal :=
  let v := tail % 2 ^ (fieldInfo .DMAQ_TAIL).width
  .next (if s.barUp && s.get pgPcie .DMAQ_TAIL queue.val = v then s
    else s.hostWriteL pgPcie 0x068 tail fun s => s.ring queue.val v descs)

/-- The first descriptor of a list with an operation that has not ended. -/
def firstDesc (op : Nat) (l : List InFlight) : Option InFlight := l.find? fun x => x.desc.op == op && x.status.isNone

/-- A descriptor in flight ended with a status and the bytes moved. -/
def endDesc (l : List InFlight) (x : InFlight) (st bytes : Nat) : List InFlight :=
  l.map fun y => if y.index = x.index then { y with status := some st, bytes := bytes } else y

/-- Whole lines stored from a device address by a DMA queue. -/
def State.dmaWrite (s : State) (part a : Nat) (data : List Byte) (sealed : Bool) : State :=
  (List.range (data.length / 64)).foldl (fun s i => s.hostWrite part (a + 64 * i) 0 ((data.drop (64 * i)).take 64) false sealed 1) s

/-- A device range read for the host, line by line, whose first denied line writes the request's record (R276); a poisoned line goes out as a poisoned write of zeros (R187, log 52). -/
def State.dmaRead (s : State) (part a len : Nat) : State × List Byte × Bool :=
  ((List.range (len / 64)).foldl (fun (x : (State × List Byte × Bool) × Bool) i =>
    let deny := !x.1.1.hostFaulty part (a + 64 * i) && x.1.1.guardDenies (a + 64 * i)
    let r := x.1.1.hostRead part (a + 64 * i) .none (!x.2)
    ((r.1, x.1.2.1 ++ (if r.2.2 then List.replicate 64 0 else r.2.1), x.1.2.2 || r.2.2), x.2 || deny)) ((s, [], false), false)).1

/-- The descriptor that a queue works on next with an operation: its effect; with nothing in flight, the endpoint without power, or memory that serves no host access (R312) no change (log 2). -/
def State.onDesc (s : State) (q op : Nat) (f : InFlight → State → State) : State :=
  match firstDesc op (s.flying q) with
  | some x => if s.barUp && !s.hostWaits then f x s else s
  | none => s

/-- DMA_HOST_TO_DEVICE (R359, R294): host memory's bytes stored in device memory. -/
def execDmaHostToDevice (queue : Queue) (data : List Byte) (s : State) : Host.Outcome State Fault Refusal :=
  .next (s.onDesc queue.val 0 fun x s =>
    let q := queue.val
    let part := s.queuePart q
    if s.sessionOpen part then (s.denyWrite x.desc.devAddr 1).setFlying q (endDesc (s.flying q) x stNotAuth 0)
    else
      let s := s.dmaWrite part x.desc.devAddr (padTo x.desc.len data) false
      s.setFlying q (endDesc (s.flying q) x stOk x.desc.len))

/-- DMA_DEVICE_TO_HOST (R276, R359): device memory's bytes written to the host through the egress guard. -/
def execDmaDeviceToHost (queue : Queue) (s : State) : Host.Outcome State Fault Refusal :=
  .next (s.onDesc queue.val 1 fun x s =>
    let q := queue.val
    let r := s.dmaRead (s.queuePart q) x.desc.devAddr x.desc.len
    let t := { r.1 with out := { r.1.out with hostWrites := r.1.out.hostWrites ++ [(x.desc.hostAddr, r.2.1)], ep := r.2.2 } }
    t.setFlying q (endDesc (t.flying q) x stOk x.desc.len))

/-- The IN_KEY of a partition's session (R292). -/
def State.inKey (s : State) (p : Nat) : List Byte := match (s.session p).keys with
  | some k => k.inKey
  | none => []

/-- The nonce of a sealed descriptor: SEALED_SEQ, above it the queue number (R361). -/
def sealedNonce (q seq : Nat) : Nat := seq + q * 2 ^ 64

/-- The additional data of a sealed descriptor: DEV_ADDR, LEN and queue number, as wide as the descriptor has them, the last one byte (R361, log 9). -/
def sealedAad (q : Nat) (d : DmaDesc) : List Byte := leBytes 8 d.devAddr ++ leBytes 4 d.len ++ leBytes 1 q

/-- DMA_SEALED_WRITE (R361): opened under IN_KEY; lines are written only when the tag verifies, else the descriptor ends with INTEGRITY. -/
def execDmaSealedWrite (queue : Queue) (cipher tag : List Byte) (s : State) : Host.Outcome State Fault Refusal :=
  .next (s.onDesc queue.val 2 fun x s =>
    let q := queue.val
    let part := s.queuePart q
    match Config.gcmOpen (s.inKey part) (sealedNonce q x.seq) (sealedAad q x.desc) (padTo x.desc.len cipher) tag with
    | none => s.setFlying q (endDesc (s.flying q) x stIntegrity 0)
    | some plain =>
      let s := s.dmaWrite part x.desc.devAddr (padTo x.desc.len plain) true
      s.setFlying q (endDesc (s.flying q) x stOk x.desc.len))

/-- The 16 bytes of a completion entry (R360). -/
def completionBytes (x : InFlight) (st : Nat) : List Byte :=
  leBytes 8 x.desc.cookie ++ leBytes 1 st ++ [0] ++ leBytes 2 x.index ++ leBytes 4 x.bytes

/-- A completion entry written into the completion ring, its vector raised if IRQ is set; DMA_FAIL for what did not end OK (a timeout has raised it already). -/
def State.complete (s : State) (q : Nat) (x : InFlight) (st : Nat) : State :=
  let a := s.get pgPcie .DMAQ_CPL q * 4096 + 16 * x.index
  let s := { s with out := { s.out with
    hostWrites := s.out.hostWrites ++ [(a, completionBytes x st)]
    msix := s.out.msix ++ (if x.desc.irq then [s.get pgPcie .DMAQ_VECTOR q] else []) } }
  if st = stOk || st = stTimeout then s else s.raise pgPcie 0

/-- DMA_COMPLETION (R360, R362): the oldest descriptor in flight, once it has ended; the queue then begins the next ones. -/
def execDmaCompletion (queue : Queue) (s : State) : Host.Outcome State Fault Refusal :=
  let q := queue.val
  match s.flying q with
  | [] => .next s
  | x :: t => match x.status with
    | none => .next s
    | some st => if s.barUp then .next (((s.setFlying q t).complete q x st).runQueue q) else .next s

/-- DMA_DESCRIPTOR_TIMEOUT (R351, R360): the oldest descriptor still running ends with TIMEOUT; the lines moved before the limit stay written, those of an OP 1 read through the egress guard; of an OP 2 none, whose tag was not verified (R361). -/
def execDmaDescriptorTimeout (queue : Queue) (moved : List Byte) (s : State) : Host.Outcome State Fault Refusal :=
  let q := queue.val
  match (s.flying q).find? fun x => x.status.isNone with
  | none => .next s
  | some x => if !s.barUp then .next s else
    let n := if s.hostWaits || x.desc.op == 2 then 0 else min (moved.length / 64 * 64) x.desc.len
    let r := s.dmaRead (s.queuePart q) x.desc.devAddr n
    let t := if x.desc.op = 1 then { r.1 with out := { r.1.out with hostWrites := r.1.out.hostWrites ++ [(x.desc.hostAddr, r.2.1)], ep := r.2.2 } }
      else s.dmaWrite (s.queuePart q) x.desc.devAddr (moved.take n) false
    .next (((t.setFlying q (endDesc (t.flying q) x stTimeout n)).evt pgPcie 0).record 0x0C10 pgPcie)

/-! ### The mailbox (R369, R370, R375) -/

/-- The request's bytes in MBX_BUF. -/
def State.mailboxBytes (s : State) : List Byte :=
  ((List.range 512).flatMap fun w => leBytes 4 (s.get pgPcie .MBX_BUF w)).take (s.get pgPcie .MBX_LEN)

/-- Bytes written to MBX_BUF from its start, in whole words. -/
def State.fillMailbox (s : State) (bs : List Byte) : State :=
  (List.range (ceilDiv bs.length 4)).foldl (fun s w => s.put pgPcie .MBX_BUF (fieldAt bs (4 * w) 4) w) s

/-- The response in MBX_BUF: status in byte 0, data from byte 4; GO clears, MBX_DONE is raised. -/
def State.mailboxDone (s : State) : State :=
  let bs := (leBytes 1 s.out.status ++ [0, 0, 0] ++ s.out.data).take 2048
  let s := ((s.fillMailbox bs).put pgPcie .MBX_STATUS s.out.status).put pgPcie .MBX_RSP_LEN bs.length
  (s.put pgPcie .MBX_GO 0).raise pgPcie 1

/-- The command in MBX_BUF run: a LEN outside 4 to 2,048 is a wrong length, but a command that needs a secured session is NOT_AUTHORISED first (R41, R369); one that nothing answers leaves GO set. While GO is set a command is in progress, and another is BUSY (R370). -/
def State.mailboxGo (s : State) : Host.Outcome State Fault Refusal :=
  if s.flag pgPcie .MBX_GO then .next ((s.reply stBusy).put pgPcie .MBX_STATUS stBusy) else
  let n := s.get pgPcie .MBX_LEN
  let c := rawOf s.mailboxBytes
  let s := s.put pgPcie .MBX_GO 1
  if (n < 4 || 2048 < n) && !(2 ≤ n && s.securedCode c.code) then .next (s.refuse pgCp stBadLen c.code .mailbox n).mailboxDone
  else if !s.reaches .mailbox c.code c.part then .next s
  else match s.runRaw .mailbox c with
    | .next t => .next t.mailboxDone
    | .fault x => .fault x
    | .refused x => .refused x

/-- MBX_GO (R369). -/
def execMbxGo (s : State) : Host.Outcome State Fault Refusal :=
  if !s.barUp || s.flag pgPcie .LOCKED then .next (s.onBar fun s => s.lockedOut pgPcie 0x078 1) else s.mailboxGo

/-- MBX_HALT (R370, R371): Hold at once, without a response in MBX_BUF; a write of kind L, which LOCK discards (R37, log 53). -/
def execMbxHalt (s : State) : Host.Outcome State Fault Refusal :=
  .next (s.hostWriteL pgPcie 0x078 2 fun s => s.enterHold 0)

/-! ### Configuration requests and FLR (R364, R372) -/

/-- The answer to a configuration request: Request Retry Status or a normal completion with its word. -/
def State.configAnswer (s : State) (retry : Bool) (word : Nat) : State :=
  { s with out := { s.out with rdata := if retry then 0 else word, ep := false, ur := false, rrs := retry } }

/-- The host link is up while boot goes on: whether it has been in L0 for 100 ms is free until it has (R364). -/
def State.linkDuringBoot (s : State) : State :=
  if s.host.linkL0 then s else { s.draw.2 with host := { s.draw.2.host with linkL0 := Config.linkUp s.draw.1 } }

/-- PCIE_CONFIG_REQUEST (R356, R364): a read or write of a word of configuration space; during boot Request Retry Status once the link is in L0, before that and where the host sees no link no answer. -/
def execPcieConfigRequest (s : State) (dword : Nat := 0) (write : Option Nat := none) : Host.Outcome State Fault Refusal :=
  if s.barUp then .next (match write with
    | none => s.configAnswer false (s.configWord dword)
    | some v => (s.writeConfig dword v).configAnswer false 0)
  else if s.pw.keeperOn && s.pw.power = .off && s.pw.stage40 && s.pw.armed && !s.pw.recovery then
    let t := s.linkDuringBoot
    .next (if t.host.linkL0 then t.configAnswer true 0 else t)
  else .next s

/-- FLR (R372): function-level reset, hot reset or link down. In-flight descriptors end by their own commands. -/
def execFlr (s : State) : Host.Outcome State Fault Refusal :=
  if s.flag pgPcie .BOOT_DONE && !(s.pw.power == .off || s.pw.power == .dormant) then .next s.resetEndpoint else .next s

end Sys2Proof.Machine
end

