-- ==== Sys2Proof/Machine/Regs.lean ====
section
/-! DEFINITION. Reading registers (R2 to R4, R25 to R31, R39, R298): which fields stand at an offset, what each reads as, the high-word latches, the page directory. -/

namespace Sys2Proof.Machine

/-! ### Which fields stand where -/

/-- The page has the 64-byte head of R31: all but the directory's and the core subpages. -/
def headed : PageKind → Bool
  | .pageDirectory | .coreSub0 | .coreSub1 | .coreSub2 | .coreSub3 => false
  | _ => true

/-- The element of an indexed register that an offset names. -/
def elemAt (i : FieldInfo) (o : Nat) : Option Nat :=
  let st := max 1 i.stride
  if i.off ≤ o ∧ (o - i.off) % st = 0 ∧ (o - i.off) / st < i.count then some ((o - i.off) / st) else none

/-- The field is on pages of a kind. -/
def onKind (k : PageKind) (i : FieldInfo) : Bool := match i.page with
  | none => headed k
  | some j => j == k

/-- The fields of the register at an offset of a page, each with its element. -/
def fieldsAt (k : PageKind) (o : Nat) : List (Fld × Nat) :=
  allFields.filterMap fun f => if onKind k (fieldInfo f) then (elemAt (fieldInfo f) o).map (f, ·) else none

/-- The register at an offset is wider than 32 bits (R27). -/
def wideAt (k : PageKind) (o : Nat) : Bool := (fieldsAt k o).any fun e => decide (32 < (fieldInfo e.1).lo + (fieldInfo e.1).width)

/-- The offset is the high word of a wide register. -/
def highWord (k : PageKind) (o : Nat) : Bool := decide (4 ≤ o) && wideAt k (o - 4)

/-- The partition's lowest-numbered update unit (R198). -/
def State.lowUnit (s : State) (u : Nat) : Page := pgUnit (4 * s.partFirst (s.partOf (u / 4)))

/-- The page is its partition's status page for buckets and votes (R264). -/
def State.statusPage (s : State) (p : Page) : Bool := p.inst == 2 * s.partFirst (s.partOf (p.inst / 2))

/-- The stored field that a field of a page shows: through the selectors of R107, R198, R281, R299 and R375; none where the page does not implement it (R264, R281). -/
def State.keyAt (s : State) (p : Page) (f : Fld) (e : Nat) : Option FieldKey :=
  match f with
  | .WATCH_LAYER | .NORM_EN | .TRIP_EN | .WATCH_ELEMS | .WATCH_SAT | .WATCH_ESC | .WATCH_ESC_OVF | .WATCH_MISFIT | .WATCH_NORM
  | .WATCH_EMA | .WATCH_POISON => some ⟨p, f, s.get p .WATCH_SEL⟩
  | .LAYER_ST | .LAYER_MODE | .LAYER_SHIFT | .BY_RETRY | .STEPS_IN_STATE | .LAST_SWITCH_STEP => some ⟨p, f, s.get p .LAYER_SEL⟩
  | .GROUP_WORD => some ⟨s.lowUnit p.inst, f, 8 * s.get p .GROUP_SEL + e⟩
  | .DECAY_EXCL => some ⟨s.lowUnit p.inst, f, e⟩
  | .PRIV_SEL => if p.inst = 0 then some ⟨p, f, 0⟩ else none
  | .DRBG_READY | .PRIV_ES_FAIL | .LEDGER_STALL | .RESEED_CNT | .NOISED_PARTS | .NOISE_SAT | .NOISE_FAIL | .LEDGER_STEP =>
    if p.inst = 0 then some ⟨p, f, s.get p .PRIV_SEL⟩ else none
  | .SETTLED_STEP | .SKIPPED | .ROOT_PARTS | .BACKUP_CERTS | .VOTE_FAIL => if s.statusPage p then some ⟨p, f, 0⟩ else none
  | .DMAQ_EN | .RING_LOG2 | .DMAQ_PART | .DMAQ_VECTOR | .DMAQ_RING | .DMAQ_CPL | .DMAQ_TAIL | .DMAQ_HEAD | .DMAQ_IDLE =>
    some ⟨p, f, s.get p .DMAQ_SEL⟩
  | .SEALED_SEQ => some ⟨p, f, s.sealedIdx (s.get p .DMAQ_SEL)⟩
  | .SESSION_STATE | .MEM_KEYED | .LINK_KEYED | .SESSION_ID_LO | .INGRESS_DENY => some ⟨p, f, s.get p .SESSION_SEL⟩
  | _ => some ⟨p, f, e⟩

/-! ### What a field reads as -/

/-- The core window's selection: the core's subpage, or none while BAD_SEL is 1 (R39, R132). -/
def State.windowPage (s : State) (b : Nat) : Option Page :=
  let w : Page := ⟨.coreWindow, b⟩
  let c := s.get w .WIN_CORE
  let k := s.get w .WIN_SUBPAGE
  if 383 < c then none
  else if k = 0 then some (pgCore .coreSub0 (coreNo b c))
  else if k = 1 then some (pgCore .coreSub1 (coreNo b c))
  else if k = 2 then some (pgCore .coreSub2 (coreNo b c))
  else if k = 3 then some (pgCore .coreSub3 (coreNo b c))
  else none

/-- FLAGS and NF_ANY of n cores from a global core number on (R132). -/
def State.flagsOf (s : State) (c n : Nat) : Nat := (List.range n).foldl (fun a i => a ||| s.get (pgCore .coreSub0 (c + i)) .CORE_FLAGS) 0
@[inherit_doc State.flagsOf] def State.captured (s : State) (c : Nat) : Bool := s.flag (pgCore .coreSub1 c) .NFC_VALID
@[inherit_doc State.flagsOf] def State.nfAny (s : State) (c n : Nat) : Bool := (List.range n).any fun i => s.captured (c + i)

/-- Contexts of a core with a block outstanding (R132). -/
def State.ctxActive (s : State) (c : Nat) : Nat := bitMap 8 fun x => (List.range 5).any fun e => match Tab.find? s.cores.running (c, e) with
  | some r => r.ctx == x
  | none => false

/-- SEQ of the oldest stored general record, 0 when there is none (R355). -/
def State.genOldest (s : State) : Nat := match (s.evr.slots.filter fun e => e.1 < protBase).map (·.2.seq) with
  | [] => 0
  | x :: t => t.foldl min x

/-- Class-0 slots reserved in a port's current frame (R229, R245). -/
def State.reserved0 (s : State) (p : Nat) : Nat := ((s.slotPlan p).filter fun x => x.2 == 0).length

/-- A counter as a session shows it: its value at the owning bed's last tick (R298). -/
def State.coarsened (s : State) (k : FieldKey) : Bool :=
  coarseFields.contains k.fld && (match s.pagePart k.page with
    | some q => s.sessionOpen q
    | none => false)

/-- Fields that read 0 while any session is open (R298). -/
def hiddenField : Fld → Bool
  | .SLIP_CYCLES | .CORR_STALL | .NFC_CYCLE | .SLACK_MIN => true
  | _ => false

/-- What stands behind a field that is not simply stored. -/
def State.live (s : State) (k : FieldKey) : Nat :=
  let p := k.page
  let n := p.inst
  match k.fld with
  | .BLOCK_TYPE => pageCode p.kind
  | .INSTANCE => pageInstance p
  | .RUN => if p.kind = .keeper || p.kind = .recorder || p.kind = .mirror || p.kind = .powerMgmt then b2n (s.running p) else s.get p .RUN
  | .RUNNING => b2n (s.running p)
  | .LOCKED_COPY => s.get p .LOCKED
  | .OPEN_DIRTY => b2n (!(s.stagingOf p).openSet.isEmpty)
  | .WAITING => (s.stagingOf p).waiting.length
  | .PART_COUNT => s.partCount
  | .DEVICE_TIME => s.time.now
  | .BAD_SEL => b2n (s.windowPage n).isNone
  | .NF_CAPT => b2n (s.captured n)
  | .CTX_ACTIVE => s.ctxActive n
  | .SLOT_BUSY => bitMap 12 fun i => (s.slot n i).busy
  | .CTX_STREAM => s.ctxStreamOf (n / 384) (n % 384) k.idx
  | .CL_FLAGS => s.flagsOf (96 * n) 96
  | .CL_NF_ANY => b2n (s.nfAny (96 * n) 96)
  | .CL_CAPT_MAP => bitMap 32 fun j => s.captured (96 * n + 32 * k.idx + j)
  | .BED_FLAGS => s.flagsOf (384 * n) 384
  | .BED_NF_ANY => b2n (s.nfAny (384 * n) 384)
  | .ENC_ACTIVE => b2n (s.encActive n)
  | .PINNED => s.pinnedLines n
  | .DIRTY => s.dirtyLines n
  | .SLOTS => s.portSlots n
  | .C0_SLOTS => s.reserved0 n
  | .ENTRIES => s.storeEntries
  | .PROT_FREE => s.protFree
  | .GEN_OLDEST => s.genOldest
  | .QUEUED_GEN => s.evr.queueGen.length
  | .QUEUED_PROT => s.evr.queueProt.length
  | .RECORD => fieldAt (s.slotBytes (s.get pgRec .SLOT_SEL)) (4 * k.idx) 4
  | .IDENT_HASH => (Config.identHash k.idx).toNat
  | .SERIAL => Config.serial.toNat
  | f => s.get p f k.idx

/-- What a stored field reads as (R3, R298): write-only fields 0, counters coarsened in a session. -/
def State.view (s : State) (k : FieldKey) : Nat :=
  if (fieldInfo k.fld).acc = .wo then 0
  else if s.flag pgSec .COARSE && hiddenField k.fld then 0
  else if s.coarsened k then s.coarse.get k (fieldInfo k.fld).reset
  else s.live k % 2 ^ (fieldInfo k.fld).width

/-- What a field of a page reads as; 0 where the page does not implement it (R4). -/
def State.fieldView (s : State) (p : Page) (f : Fld) (e : Nat) : Nat := match s.keyAt p f e with
  | some k => s.view k
  | none => 0

/-- The register at an offset of a page; reserved bits read 0 (R4). -/
def State.regValue (s : State) (p : Page) (o : Nat) : Nat :=
  (fieldsAt p.kind o).foldl (fun a e => a + s.fieldView p e.1 e.2 * 2 ^ (fieldInfo e.1).lo) 0

/-- A 32-bit word read (R27): a low word fills the latch, a high word shows it once it is filled. -/
def State.readWord (s : State) (p : Page) (o : Nat) : State × Nat :=
  if highWord p.kind o then (s, s.latches.get ⟨p, o - 4, 0⟩ (s.regValue p (o - 4) / 2 ^ 32))
  else
    let v := s.regValue p o
    (if wideAt p.kind o then { s with latches := s.latches.put ⟨p, o, 0⟩ (v / 2 ^ 32) } else s, v % 2 ^ 32)

/-! ### The page directory (R29) -/

/-- Pages of one bed, bridge and link die in ascending offset order (R28). -/
def bedPages (b : Nat) : List Page :=
  [pgBed b, ⟨.cluster, 4 * b⟩, ⟨.cluster, 4 * b + 1⟩, ⟨.cluster, 4 * b + 2⟩, ⟨.cluster, 4 * b + 3⟩, pgQuant b, ⟨.coreWindow, b⟩]
@[inherit_doc bedPages] def bridgePages (b : Nat) : List Page :=
  [pgBridge b, pgCache b, pgReg b] ++ [0, 1, 2, 3].map (fun k => pgUnit (4 * b + k)) ++ [0, 1, 2, 3].map fun k => pgMc (4 * b + k)
@[inherit_doc bedPages] def linkPages (d : Nat) : List Page :=
  [pgLink d] ++ (List.range 8).map (fun k => pgPort (8 * d + k)) ++ (List.range 8).map (fun k => pgRed (8 * d + k)) ++
    (if d = 0 then [pgPcie] else [])

/-- Every page that BAR0 implements with a partition count of 2^n, in ascending offset order (R28, R107). -/
def implementedPages (n : Nat) : List Page :=
  [pgGlobals, pgCp, pgPower] ++ (allBeds.filter fun b => b % (8 / 2 ^ n) == 0).map pgLayer ++ allBeds.flatMap bedPages ++
    allBeds.flatMap bridgePages ++ [0, 1].flatMap linkPages ++ [pgKeeper, pgSec, pgRec, pgMirror]

/-- A word of the page directory: PAGE_ID, then BAR0 offset; zeros behind the last entry and before the directory is fixed. -/
def State.directoryWord (s : State) (o : Nat) : Nat := match s.directory with
  | none => 0
  | some n => match (implementedPages n)[o / 8]? with
    | some p => if o % 8 < 4 then pageCode p.kind + 65536 * (pageInstance p % 256) else pageBase p
    | none => 0

/-! ### Reads of BAR0 (R25 to R29, R39) -/

/-- Record 0xF5 of a page: offset and size in bytes (R350). -/
def State.badOffset (s : State) (p : Page) (off size : Nat) : State := s.common p 0xF5 (leBytes 4 off ++ leBytes 4 size)

/-- The core window and the offset of the subpage that a page and offset of BAR0 reach (R39). -/
def inWindow (p : Page) (o : Nat) : Bool := p.kind == .coreWindow && decide (0x800 ≤ o)

/-- A word read of a page at an offset; RECORD_15 marks its slot (R346); PWR_NOW shows the mean of the last 1 ms as it then is where no tick samples it, and that of R298 in a session (R315, R318). -/
def State.readPage (s : State) (p : Page) (o : Nat) : State × Nat :=
  if p.kind = .pageDirectory then (s, s.directoryWord o)
  else if p = pgRec ∧ o = 0x0BC then ((s.markRead (s.get pgRec .SLOT_SEL)).readWord p o)
  else if p = pgPower ∧ o = 0x050 ∧ (s.flag pgSec .COARSE || s.lowestRunning.isNone) then
    let r := s.draw.2.readWord p o
    let w := Config.inputPower s.draw.1
    (r.1, r.2 - r.2 % 2 ^ 13 + (if s.flag pgSec .COARSE then coarseWatts w else w / 10) % 2 ^ 13)
  else s.readWord p o

/-- A read of 4 or 8 bytes of a page: an 8-byte read takes its words one after the other, low address first, so that a wide register is read at once (R27). -/
def State.readSize (s : State) (p : Page) (o size : Nat) : State × Nat :=
  let r := s.readPage p o
  if size = 4 then r
  else
    let q := r.1.readPage p (o + 4)
    (q.1, r.2 + q.2 * 2 ^ 32)

/-- A read of BAR0, through the core window where it lies there; one that reaches nothing returns 0 with one record (R26, R39). -/
def State.readBar (s : State) (off size : Nat) : State × Nat := match s.pageAt off with
  | none => (s.badOffset pgGlobals off size, 0)
  | some (p, o) =>
    if inWindow p o then match s.windowPage p.inst with
      | none => (s.badOffset p off size, 0)
      | some q => s.readSize q (o - 0x800) size
    else s.readSize p o size

/-- The access has a size or alignment that R25 does not accept. -/
def badAccess (off size : Nat) : Bool := !(size == 4 || size == 8) || off % size != 0

/-- BAR0_BAD_ACCESS (R25): a read returns 0, a write is discarded, and both are recorded. An access of good form is not this command (log 2). -/
def execBadAccess (off size : Nat) (write : Bool) (s : State) : Host.Outcome State Fault Refusal :=
  if !badAccess off size then .next s
  else .next (s.onBar fun s => let t := s.badOffset pgGlobals off size; if write then t else t.answer 0)

/-- The bed whose layer precision page an offset names (R107). -/
def layerBed (off : Nat) : Option Nat := if 0x18000 ≤ off ∧ off < 0x20000 then some ((off - 0x18000) / 0x1000) else none

/-- An access to an offset that no page implements: a write to an inactive layer precision page is recorded in that page's name, everything else in the globals' (R26, R107). -/
def State.unimplemented (s : State) (off size : Nat) (write : Bool) : State :=
  if !write then (s.badOffset pgGlobals off size).answer 0
  else match layerBed off with
    | some b => s.badOffset (pgLayer b) off size
    | none => s.badOffset pgGlobals off size

/-- BAR0_UNIMPLEMENTED_ACCESS (R26). An access that a page implements is not this command (log 2). -/
def execUnimplementedAccess (off size : Nat) (write : Bool) (s : State) : Host.Outcome State Fault Refusal :=
  if badAccess off size || (s.pageAt off).isSome then .next s else .next (s.onBar fun s => s.unimplemented off size write)

/-- LOW_WORD_READ (R25, R27): a read of BAR0 of 4 or 8 bytes; the low word of a wide register fills its latch. The mirror page is read after a lost die-to-die link too (R353). -/
def execLowWordRead (off : Nat) (s : State) (size : Nat := 4) : Host.Outcome State Fault Refusal :=
  if badAccess off size then .next s
  else
    let f := fun (s : State) => let r := s.readBar off size; r.1.answer r.2
    .next (if s.mirrorUp && (s.pageAt off).any (fun x => x.1 == pgMirror) then f s else s.onBar f)

end Sys2Proof.Machine
end

