-- ==== Sys2Proof/Machine/Bus.lean ====
section
/-! DEFINITION. Writing registers (R3 to R5, R19, R25 to R39, R107, R153, R192, R198, R245, R283, R330, R389): one register write with every check, and the commands that are particular writes. -/

namespace Sys2Proof.Machine

/-! ### What refuses a field (R5, R35 to R37, R107, R192, R245, R375) -/

/-- Fields that their chapter marks as armature-owned (R107). -/
def armatureOwned : Fld → Bool
  | .WATCH_LAYER | .NORM_EN | .TRIP_EN | .RETRY_STEPS | .SAT_RATE_LOG2 | .ALPHA_LOG2 | .ESC_OVF_MAX | .NORM_FACTOR
  | .WARMUP_STEPS | .RECOVERY_STEPS | .LAYER_ST | .LAYER_MODE => true
  | _ => false

/-- An armature runs on a bed of the page: the quantiser's bed, or any bed of the layer precision page's partition (R36). -/
def State.armatureRuns (s : State) (p : Page) : Bool :=
  let on := fun (b : Nat) => s.seq b == seqRunning || s.seq b == seqPaused
  if p.kind = .layerPrecision then (s.partBeds (s.partOf p.inst)).any on else on p.inst

/-- The field's block is running (R5, R35): TIME_CFG's block runs while any bed runs (R166), PART_CFG's while any bed runs or any session is open (R19), a DMA queue while it is enabled (R375). -/
def State.blockRuns (s : State) (k : FieldKey) : Bool :=
  if k.fld = .TREF_EN then s.anyBedRuns
  else if k.fld = .PART_LOG2 then s.anyBedRuns || s.anyOpen
  else if k.page.kind = .pcie then s.flag pgPcie .DMAQ_EN k.idx
  else s.running k.page

/-- A value that the field does not define and that is discarded (R107, R192, R375). -/
def undefinedValue (f : Fld) (v : Nat) : Bool := match f with
  | .LAYER_ST => v == 3
  | .LAYER_MODE => decide (2 ≤ v)
  | .LOCAL_GIB => v % 4 != 0 || decide (144 < v)
  | .RING_LOG2 => decide (v < 4) || decide (12 < v)
  | _ => false

/-- A write of 0 to CTL.RUN that is refused: a bridge while a bed of its partition is not IDLE (R192), a port while its bed is not IDLE (R245). -/
def State.stopRefused (s : State) (p : Page) : Bool :=
  if p.kind = .bridge then (s.partBeds (s.partOf p.inst)).any fun b => s.seq b != seqIdle
  else if p.kind = .port then s.seq (p.inst / 2) != seqIdle
  else false

/-- The page's LOCK discards the field: in the head CTL and COMMIT, outside it kinds L, F and Q (R37). -/
def lockable (f : Fld) : Bool :=
  let i := fieldInfo f
  i.kind != .owner && (if i.page.isNone then i.off == 0x008 || i.off == 0x020 else true)

/-- The local code with which a write of a field is refused, if it is: K first, then LOCK, then Q, armature ownership and refused stops, then undefined values (R389, log 55). The armature's writes of the fields that it owns meet neither LOCK nor Q (log 55). hp is the page whose LOCK holds, the window's for a core's field. -/
def State.refusalOf (s : State) (a : Agent) (hp : Page) (k : FieldKey) (v : Nat) : Option Nat :=
  let i := fieldInfo k.fld
  let own := a == .armature && armatureOwned k.fld
  if i.kind = .owner && a != .securityOwner then some 0xF2
  else if s.flag hp .LOCKED && lockable k.fld && !own then some 0xF3
  else if !own && ((armatureOwned k.fld && a == .host && s.armatureRuns k.page) || (i.kind == .quiescent && s.blockRuns k)) then
    some 0xF1
  else if k.fld = .RUN && v = 0 && s.stopRefused k.page then some 0xF1
  else if undefinedValue k.fld v then some 0xF6
  else none

/-- What a refused write leaves, once per cause: the STS bit and the record with offset and value (R31, R350, R389). -/
def State.noteRefusal (s : State) (hp : Page) (pay : List Byte) (code : Nat) : State :=
  let s := if code = 0xF1 then s.put hp .STATE_ERR 1
    else if code = 0xF2 then s.put hp .AUTH_ERR 1
    else if code = 0xF3 then s.put hp .LOCK_ERR 1
    else s
  s.common hp code pay

/-! ### What an accepted field does -/

/-- PART_LOG2 changed (R19, R107): armatures unloaded, origins cleared, layer precision pages and the reduction state reset. LOCKED of those pages stays, since it clears only on device reset or through UNLOCK (R38), and their open and waiting sets are gone with the reset (DESIGN CHOICE, log 80). -/
def State.setParts (s : State) (v : Nat) : State :=
  let s := allBeds.foldl (fun s p => s.unloadAll p) s
  let s := allBeds.foldl (fun s b => s.clearOrigin b) s
  { s with
    regs := s.regs.delIf fun (k : FieldKey) => (k.page.kind == PageKind.layerPrecision && k.fld != Fld.LOCKED) || [Fld.SETTLED_STEP, .SKIPPED, .ROOT_PARTS, .BACKUP_CERTS, .VOTE_FAIL].contains k.fld
    staging := s.staging.delIf fun (p : Page) => p.kind == PageKind.layerPrecision
    parts := [], red := { State.reset.red with lowQ := s.red.lowQ } }.put pgGlobals .PART_LOG2 v

/-- LOCAL_GIB changed: memory contents are undefined until written (R192), so that the files of an armature region there are gone (log 76). -/
def State.setLocalGib (s : State) (b v : Nat) : State :=
  let s := (s.setMem (s.mem.forget b)).put (pgBridge b) .LOCAL_GIB v
  if s.partFirst (s.partOf b) = b then s.unloadAll (s.partOf b) else s

/-- ENC_EN of a bridge changed: a full scrub begins (R185). -/
def State.setEnc (s : State) (b v : Nat) : State := (s.put (pgBridge b) .ENC_EN v).startScrub b

/-- ENC_EN of a port changed; ENC_ACTIVE follows it and the link key (R243, R245). -/
def State.setPortEnc (s : State) (p v : Nat) : State := s.put (pgPort p) .PORT_ENC_EN v

/-- TEST_PWR: domain 79 (R302, R318). -/
def State.setTestPower (s : State) (v : Nat) : State :=
  let w := s.get pgPower .DOMAIN_ON 2
  (s.put pgPower .TEST_PWR v).put pgPower .DOMAIN_ON (w % 2 ^ 15 + 2 ^ 15 * v) 2

/-- CTL.RUN of a bed's sequencer page written 0 (R153): an ARMED activation is cancelled; a running bed finishes its frame and then is IDLE. -/
def State.stopBed (s : State) (b : Nat) : State :=
  if s.seq b = seqArmed then s.cancelArmed b seqIdle 0
  else if s.seq b = seqRunning || s.seq b = seqPaused then
    ((s.setBed b { s.bed b with stopping := true }).askUnits b).put (pgBed b) .RUN 0
  else s

/-- CTL.RUN of a port page (R221, R245): 0 drives electrical idle; 1 clears a fence and trains. -/
def State.runPort (s : State) (p v : Nat) : State :=
  if v = 0 then (s.put (pgPort p) .RUN 0).portDown p 0 else ((s.put (pgPort p) .RUN 1).put (pgPort p) .PORT_FENCED 0).train p

/-- CTL.RUN of a page whose chapter gives it no own handling (R31): 1 starts the block and 0 stops it at the end of its frame, at once where no bed runs (log 18). -/
def State.runBlock (s : State) (p : Page) (v : Nat) : State :=
  let t := { s.put p .RUN v with stops := s.stops.filter (· != p) }
  if v = 1 then { t with halted := t.halted.filter (· != p) }.put p .RUNNING 1
  else if (s.tickBed p).isNone then t.halt p
  else { t with stops := p :: t.stops }

/-- CTL.RUN written: by the page's own handling (R153, R192, R245, R318, R319, R336, R355), else R31's. -/
def State.setCtlRun (s : State) (p : Page) (v : Nat) : State :=
  match p.kind with
  | .bedSequencer => if v = 0 then s.stopBed p.inst else s.record 0x0442 p
  | .port => s.runPort p.inst v
  | .bridge => s.put p .RUN v
  | .keeper | .recorder | .mirror | .powerMgmt => s
  | _ => s.runBlock p v

/-- An accepted value taking effect: staged for kind F, cleared or set bits for W1C and W1S, and the fields with an effect of their own. mask is the 1s written. MBX_CTL.GO is left to the command that it submits. -/
def State.applyField (s : State) (hp : Page) (k : FieldKey) (v mask : Nat) : State :=
  let n := k.page.inst
  match k.fld with
  | .RUN => s.setCtlRun k.page v
  | .CNT_CLR => (s.put hp .ERR_CORR 0).put hp .ERR_UNCORR 0
  | .COMMIT_BIT => s.doCommit hp
  | .ABORT_BIT => s.doAbort hp
  | .LOCKED => s.doLock hp
  | .UNLOCK => s.doUnlock hp
  | .PART_LOG2 => s.setParts v
  | .LOCAL_GIB => s.setLocalGib n v
  | .ENC_EN => s.setEnc n v
  | .PORT_ENC_EN => s.setPortEnc n v
  | .TEST_PWR => s.setTestPower v
  | .TREF_EN => s.setTref v
  | .DMAQ_EN => (s.put k.page .DMAQ_EN v k.idx).runQueue k.idx
  | .DMAQ_TAIL => s.ring k.idx v []
  | .MBX_GO => s
  | .MBX_HALT => s.enterHold 0
  | .LAYER_ST => s.moveState k.page k.idx v (s.get (pgBed (s.leadBed (s.partOf n))) .STEP_CNT)
  | .FREEZE => s.askFreeze
  | .UNFREEZE => s.endFreeze
  | f =>
    let i := fieldInfo f
    if i.kind = .frame then s.stage hp k v
    else if i.acc = .w1c then s.put k.page f (s.get k.page f k.idx - (s.get k.page f k.idx &&& mask)) k.idx
    else s.put k.page f v k.idx

/-! ### One register write (R389) -/

/-- The value that an RW field holds for R389: staged, else in effect. -/
def State.heldValue (s : State) (hp : Page) (k : FieldKey) : Nat :=
  let i := fieldInfo k.fld
  let now := s.live k % 2 ^ i.width
  if i.kind = .frame then
    (((s.stagingOf hp).openSet.find? fun e => decide (e.1 = k)).map (·.2)).getD now % 2 ^ i.width
  else now

/-- Bits [lo + n − 1 : lo] of a register, written with a value that stands at its place: what they make of a field's value, and the 1s written to it. -/
def fieldBits (i : FieldInfo) (lo n value old : Nat) : Nat × Nat :=
  let a := max i.lo lo
  let e := min (i.lo + i.width) (lo + n)
  if e ≤ a then (old, 0)
  else
    let part := bits value a (e - a) * 2 ^ (a - i.lo)
    (old - bits old (a - i.lo) (e - a) * 2 ^ (a - i.lo) + part, part)

/-- A field that a write touches: where it is stored, its new value, the 1s written. -/
structure Touch where
  key : FieldKey
  value : Nat
  mask : Nat
  deriving DecidableEq, Repr

/-- The update unit's page shows its table as a mirror: it is written on the partition's lowest unit only (R198). -/
def mirrorField (p : Page) (k : FieldKey) : Bool := (k.fld == .GROUP_WORD || k.fld == .DECAY_EXCL) && k.page != p

/-- The fields of a register that count as written (R389). -/
def State.touched (s : State) (hp p : Page) (o lo n value : Nat) : List Touch :=
  (fieldsAt p.kind o).filterMap fun e =>
    match s.keyAt p e.1 e.2 with
    | none => none
    | some k =>
      let i := fieldInfo e.1
      let r := fieldBits i lo n value (s.heldValue hp k)
      if i.acc = .ro || mirrorField p k then none
      else if i.acc = .rw then (if r.1 = s.heldValue hp k then none else some ⟨k, r.1, r.2⟩)
      else if r.2 = 0 then none
      else some ⟨k, r.1, r.2⟩

/-- Without COMMIT where ABORT is written too (R31). -/
def abortWins (l : List Touch) : List Touch :=
  if l.any fun t => t.key.fld == .ABORT_BIT then l.filter fun t => t.key.fld != .COMMIT_BIT else l

/-- A write of bits [lo + n − 1 : lo] of the register at an offset of a page: every touched field accepted or refused on its own, each cause noted once; a submitted mailbox command runs last. LOCKED 1 and UNLOCK 1 in one write of the security owner, whose order R38 leaves open, lock first and then unlock: the open set is gone, the page unlocked (DESIGN CHOICE, log 80). bar and word are the offset and the value that a record of the access shows. -/
def State.writeReg (s : State) (a : Agent) (hp p : Page) (bar word o lo n value : Nat) : Host.Outcome State Fault Refusal :=
  let l := s.touched hp p o lo n value
  let ok := abortWins (l.filter fun t => (s.refusalOf a hp t.key t.value).isNone)
  let codes := [0xF1, 0xF2, 0xF3, 0xF6].filter fun c => l.any fun t => s.refusalOf a hp t.key t.value == some c
  let pay := leBytes 4 bar ++ leBytes 4 word
  let t := ok.foldl (fun s t => s.applyField hp t.key t.value t.mask) s
  let t := codes.foldl (fun s c => s.noteRefusal hp pay c) t
  if ok.any fun t => t.key.fld == .MBX_GO then t.mailboxGo else .next t

/-- A 32-bit write to an offset of a page. -/
def State.writeWord (s : State) (a : Agent) (hp p : Page) (bar o value : Nat) : Host.Outcome State Fault Refusal :=
  if highWord p.kind o then s.writeReg a hp p bar value (o - 4) 32 32 (value % 2 ^ 32 * 2 ^ 32)
  else s.writeReg a hp p bar value o 0 32 (value % 2 ^ 32)

/-- A write of 4 or 8 bytes to a page: a wide register at once, two 32-bit registers one after the other, low address first (R27). -/
def State.writePage (s : State) (a : Agent) (hp p : Page) (bar o size value : Nat) : Host.Outcome State Fault Refusal :=
  if size = 4 then s.writeWord a hp p bar o value
  else if wideAt p.kind o then s.writeReg a hp p bar value o 0 64 (value % 2 ^ 64)
  else match s.writeWord a hp p bar o value with
    | .next t => t.writeWord a hp p (bar + 4) (o + 4) (value / 2 ^ 32)
    | .fault x => .fault x
    | .refused x => .refused x

/-- A write to the page directory: discarded and recorded (R29). -/
def State.dirWrite (s : State) (off size : Nat) : State := s.badOffset ⟨.pageDirectory, 0⟩ off size

/-- A write to the metering mirror page: discarded and recorded (R330, R390). -/
def State.mirrorNote (s : State) (off value : Nat) : State := s.record 0x1040 pgMirror (leBytes 4 off ++ leBytes 4 value)

/-- A write to BAR0. -/
def State.writeBar (s : State) (a : Agent) (off size value : Nat) : Host.Outcome State Fault Refusal :=
  if badAccess off size then .next (s.badOffset pgGlobals off size)
  else match s.pageAt off with
    | none => .next (s.unimplemented off size true)
    | some (p, o) =>
      if p.kind = .pageDirectory then .next (s.dirWrite off size)
      else if p.kind = .mirror then .next (s.mirrorNote off value)
      else if inWindow p o then match s.windowPage p.inst with
        | none => .next (s.badOffset p off size)
        | some q => s.writePage a p q off (o - 0x800) size value
      else s.writePage a p p off o size value

/-- A register access by an agent: the host reaches registers while BARs are answered (R364). -/
def State.onBus (s : State) (a : Agent) (f : State → Host.Outcome State Fault Refusal) : Host.Outcome State Fault Refusal :=
  if a = .host && !s.barUp then .next (s.onBar id) else f s

/-- The other RW fields of a register as they stand, each at its place: what a write that changes one field writes back. -/
def State.writtenBack (s : State) (p : Page) (o : Nat) (f : Fld) : Nat :=
  (fieldsAt p.kind o).foldl (fun a e => match s.keyAt p e.1 e.2 with
    | some k => if e.1 != f && (fieldInfo e.1).acc == .rw then a + s.heldValue p k * 2 ^ (fieldInfo e.1).lo else a
    | none => a) 0

/-- A write that gives one field a value and leaves the rest of its register as it is (1s for write-only and set bits). -/
def State.writeField (s : State) (a : Agent) (p : Page) (f : Fld) (v : Nat) (e : Nat := 0) : Host.Outcome State Fault Refusal :=
  let i := fieldInfo f
  let o := i.off + i.stride * e
  let w := v % 2 ^ i.width * 2 ^ i.lo
  s.onBus a fun s => s.writeReg a p p (pageBase p + o) (s.writtenBack p o f + w) o i.lo i.width w

/-! ### The commands -/

/-- REGISTER_WRITE (R389). -/
def execRegisterWrite (agent : Agent) (off size value : Nat) (s : State) : Host.Outcome State Fault Refusal :=
  s.onBus agent fun s => s.writeBar agent off size value

/-- DIRECTORY_WRITE (R29). An offset outside the directory is not this command (log 2). -/
def execDirectoryWrite (off size value : Nat) (s : State) : Host.Outcome State Fault Refusal :=
  if 0x1000 ≤ off ∧ off < 0x10000 then s.onBus .host fun s => s.writeBar .host off size value else .next s

/-- CTL_RUN_WRITE (R31). -/
def execCtlRunWrite (agent : Agent) (page : Page) (run : Bool) (s : State) : Host.Outcome State Fault Refusal :=
  if s.isPage page && page.kind != .mirror then s.writeField agent page .RUN (b2n run) else .next s

/-- CNT_CLR (R31). -/
def execCntClr (page : Page) (s : State) : Host.Outcome State Fault Refusal :=
  if s.isPage page && page.kind != .mirror then s.writeField .host page .CNT_CLR 1 else .next s

/-- COMMIT (R33, R34). -/
def execCommit (page : Page) (s : State) : Host.Outcome State Fault Refusal :=
  if s.isPage page && page.kind != .mirror then s.writeField .host page .COMMIT_BIT 1 else .next s

/-- ABORT (R33). -/
def execAbort (page : Page) (s : State) : Host.Outcome State Fault Refusal :=
  if s.isPage page && page.kind != .mirror then s.writeField .host page .ABORT_BIT 1 else .next s

/-- STAGING_SET_FLUSH (R33): the page's sets committed while its block was stopped or the bed whose tick it takes did not run, and the sets left when that bed stopped running, take effect in commit order; a clock plan is then in force at once where no bed runs (R310). -/
def execStagingSetFlush (page : Page) (s : State) : Host.Outcome State Fault Refusal :=
  let t := s.flushPage page
  .next (if page.kind = .powerMgmt && s.lowestRunning.isNone then t.takePlan.setClock else t)

/-- PAGE_LOCK (R38). -/
def execPageLock (page : Page) (s : State) : Host.Outcome State Fault Refusal :=
  if s.isPage page && page.kind != .mirror then s.writeField .host page .LOCKED 1 else .next s

/-- CORE_WINDOW_ACCESS (R39): offsets 0x800 to 0xFFF of a bed's core window page. -/
def execCoreWindowAccess (bed : Bed) (off size : Nat) (write : Option Nat) (s : State) : Host.Outcome State Fault Refusal :=
  if off < 0x800 ∨ 0x1000 ≤ off then .next s
  else
    let a := pageBase ⟨.coreWindow, bed.val⟩ + off
    match write with
    | some v => s.onBus .host fun s => s.writeBar .host a size v
    | none =>
      .next (s.onBar fun s =>
        if badAccess a size then (s.badOffset pgGlobals a size).answer 0
        else
          let r := s.readBar a size
          r.1.answer r.2)

/-- PART_CFG_WRITE (R19). -/
def execPartCfgWrite (agent : Agent) (value : Nat) (s : State) : Host.Outcome State Fault Refusal := s.writeField agent pgGlobals .PART_LOG2 value

/-- LAYER_STATE_WRITE (R107): STATE and MODE of the selected layer; the bed's page must be its partition's active one (log 2). -/
def execLayerStateWrite (bed : Bed) (value : Nat) (s : State) : Host.Outcome State Fault Refusal :=
  if s.isPage (pgLayer bed.val) then s.onBus .host fun s => s.writeBar .host (pageBase (pgLayer bed.val) + 0x050) 4 value else .next s

/-- INACTIVE_PAGE_WRITE (R107): a layer precision page of a bed that is not its partition's lowest. -/
def execInactivePageWrite (bed : Bed) (off size : Nat) (s : State) : Host.Outcome State Fault Refusal :=
  if s.isPage (pgLayer bed.val) || 0x1000 ≤ off then .next s
  else s.onBus .host fun s => s.writeBar .host (pageBase (pgLayer bed.val) + off) size 0

/-- GROUP_WORD_WRITE (R198): staged for the entry selected now. -/
def execGroupWordWrite (unit : Stack) (word : Fin 8) (value : Nat) (s : State) : Host.Outcome State Fault Refusal :=
  s.writeField .host (pgUnit unit.val) .GROUP_WORD value word.val

/-- BR_MAP_WRITE (R192). -/
def execBrMapWrite (bridge : Bed) (value : Nat) (s : State) : Host.Outcome State Fault Refusal :=
  s.writeField .host (pgBridge bridge.val) .LOCAL_GIB value

/-- BRIDGE_RUN_STOP (R192). -/
def execBridgeRunStop (bridge : Bed) (s : State) : Host.Outcome State Fault Refusal := s.writeField .host (pgBridge bridge.val) .RUN 0

/-- PORT_RUN_WRITE (R221, R245). -/
def execPortRunWrite (port : Port) (run : Bool) (s : State) : Host.Outcome State Fault Refusal :=
  s.writeField .host (pgPort port.val) .RUN (b2n run)

/-- ENC_CTL_WRITE (R185, R283). -/
def execEncCtlWrite (agent : Agent) (bridge : Bed) (enable : Bool) (s : State) : Host.Outcome State Fault Refusal :=
  s.writeField agent (pgBridge bridge.val) .ENC_EN (b2n enable)

/-- BED_RUN_STOP (R153). -/
def execBedRunStop (bed : Bed) (s : State) : Host.Outcome State Fault Refusal := s.writeField .host (pgBed bed.val) .RUN 0

/-- RUN_WRITE_IGNORED (R153, R389). -/
def execRunWriteIgnored (bed : Bed) (s : State) : Host.Outcome State Fault Refusal := s.writeField .host (pgBed bed.val) .RUN 1

/-- MIRROR_WRITE (R330): an offset of the mirror page. -/
def execMirrorWrite (off size value : Nat) (s : State) : Host.Outcome State Fault Refusal :=
  if 0x1000 ≤ off then .next s else s.onBus .host fun s => s.writeBar .host (pageBase pgMirror + off) size value

end Sys2Proof.Machine
end

