-- ==== Sys2Proof/Machine/Island.lean ====
section
/-! DEFINITION. The metering island (R320 to R334): energy, pulses, commits, snapshots to the keeper, the seal, and the commands of its own port. -/

namespace Sys2Proof.Machine

/-- The island is powered: VAUX is present, or the hold-up bank still carries it. -/
def State.islandOn (s : State) : Bool := s.pw.keeperOn

/-! ### Energy (R321 to R325) -/

/-- Energy shares of the beds: ⌊ΔE × B_b ÷ ΣB⌋, 0 when no branch drew anything (R323). -/
def shares (de : Nat) (branches : List Nat) : List Nat :=
  let b := [0, 1, 2, 3, 4, 5, 6, 7].map fun i => branches.getD i 0
  b.map fun x => de * x / b.sum

/-- Two lists added element by element; the first one's length. -/
def addEach : List Nat → List Nat → List Nat
  | a :: s, b :: t => (a + b) :: addEach s t
  | s, [] => s
  | [], _ => []

/-- Energy of an interval that counts: nothing at or below the starting current of 0.1 A (R321). -/
def countedEnergy (microjoule milliamps : Nat) : Nat := if milliamps ≤ 100 then 0 else microjoule

/-- An interval's energy taken: TOTAL, the beds, the rest to UNATTRIBUTED, AUX; an excursion above 130 A ends. -/
def IslandSt.interval (x : IslandSt) (input aux : Nat) (branches : List Nat) (milliamps : Nat) : IslandSt :=
  let de := countedEnergy input milliamps
  let sh := shares de branches
  { x with
    total := x.total + de, aux := x.aux + aux, beds := addEach x.beds sh, unattrib := x.unattrib + (de - sh.sum)
    pulseCarry := x.pulseCarry + de, tenths := x.tenths + 1, milliamps := milliamps
    ranged := x.ranged && decide (130000 < milliamps) }

/-- ATTRIBUTION_INTERVAL (R323): every 100 ms, while the island is ready and not in FAULT. -/
def execAttributionInterval (inputMicrojoule auxMicrojoule : Nat) (branches : List Nat) (milliamps : Nat) (s : State) :
    Host.Outcome State Fault Refusal :=
  if s.islandOn && s.isl.ready && !s.isl.fault then
    .next (s.setIsl (s.isl.interval inputMicrojoule auxMicrojoule branches milliamps))
  else .next s

/-- MET_PULSE (R325): with 360 J carried, one pulse; none in FAULT (R328). -/
def execMetPulse (s : State) : Host.Outcome State Fault Refusal :=
  if s.islandOn && s.isl.ready && !s.isl.fault && pulseEnergy ≤ s.isl.pulseCarry then
    .next (s.setIsl { s.isl with pulseCarry := s.isl.pulseCarry - pulseEnergy, pulses := s.isl.pulses + 1 })
  else .next s

/-- OVERRANGE (R321): above 130 A, logged once per excursion. -/
def execOverrange (milliamps : Nat) (s : State) : Host.Outcome State Fault Refusal :=
  if s.islandOn && s.isl.ready && decide (130000 < milliamps) then
    let x := { s.isl with milliamps := milliamps, ranged := true }
    .next (s.setIsl (if s.isl.ranged then x else x.log 3))
  else .next s

/-! ### Ready, commits, self-test (R326 to R328) -/

/-- METER_READY (R326): READY after power-up; the registers are already those of the last commit, and a FAULT of the self-test stands (R328). -/
def execMeterReady (s : State) : Host.Outcome State Fault Refusal :=
  if s.islandOn && !s.isl.ready then .next (s.setIsl { s.isl with ready := true }) else .next s

/-- METER_NOT_READY (R326): READY missing 1 s after VAUX rose. -/
def execMeterNotReady (s : State) : Host.Outcome State Fault Refusal :=
  if s.pw.keeperOn && s.pw.vauxOk && !s.isl.ready then .next (s.record 0x0D41 pgKeeper) else .next s

/-- Energy for a commit by the island's own sense: ½ × HOLDUP_C × (V² − 2.80²) ≥ 40 mJ (R327). -/
def IslandSt.canCommit (x : IslandSt) (millivolts : Nat) : Bool :=
  decide (80000000 ≤ x.holdupC * (millivolts * millivolts - 2800 * 2800))

/-- The registers committed. -/
def IslandSt.commit (x : IslandSt) : IslandSt := { x with committed := (x.total, x.aux, x.unattrib, x.beds) }

/-- METER_COMMIT (R327). -/
def execMeterCommit (holdupMillivolts : Nat) (s : State) : Host.Outcome State Fault Refusal :=
  if s.islandOn && s.isl.ready && !s.isl.fault && s.isl.canCommit holdupMillivolts then .next (s.setIsl s.isl.commit) else .next s

/-- SELF_TEST_FAIL (R328): FAULT, logged; the last committed registers stay readable. -/
def execSelfTestFail (s : State) : Host.Outcome State Fault Refusal :=
  if s.islandOn && !s.isl.fault then .next (s.setIsl ({ s.isl.resume with fault := true }.log 4)) else .next s

/-! ### Snapshots (R329, R288) -/

/-- CRC-32C over the code that the island runs (R331). -/
def codeCrc (code : Option (List Byte)) : Nat := crc32c (code.getD Config.islandCode)

/-- The island's software name, "VLN-MET". -/
def islandName : List Byte := [0x56, 0x4C, 0x4E, 0x2D, 0x4D, 0x45, 0x54]

/-- The software identification: name, VERSION, CRC (R331 READ_SW_ID, R288). -/
def swId (version : Nat) (code : Option (List Byte)) : List Byte := islandName ++ leBytes 4 version ++ leBytes 4 (codeCrc code)

/-- An audit entry's 32 bytes (R334; order of the rule's list, log 11). -/
def auditBytes (a : Audit) : List Byte :=
  let b := leBytes 2 a.index ++ leBytes 2 a.kind ++ leBytes 4 a.count ++ leBytes 4 a.seconds ++ leBytes 8 a.total ++ leBytes 4 a.old ++
    leBytes 4 a.new
  b ++ leBytes 4 (crc32c b)

/-- New audit entries become SEAL records in the mirror and are queued while the protected queue has room; the others wait with their own FRAME and counts (R342, R393). -/
def State.copyAudit (s : State) : State :=
  let r := s.mkRecord 0x1001 pgMirror [] (s.pageFrame pgMirror)
  let l := (s.isl.audit.drop s.isl.mirrored).map fun a => entryRecords r (auditBytes a)
  ((s.setIsl { s.isl with mirrored := s.isl.audit.length }).setRec { s.evr with auditWait := s.evr.auditWait ++ l }).feedAudit

/-- The snapshot installed whole in the mirror page (R336). -/
def State.mirrorPage (s : State) : State :=
  let x := s.isl
  let p := pgMirror
  let s := ((((s.put p .MET_READY (b2n x.ready)).put p .MET_FAULT (b2n x.fault)).put p .SEAL_CLOSED (b2n x.sealClosed)).put p .OVERRANGE
    (b2n x.ranged)).put p .STALE 0
  let s := ((s.put p .TOTAL_MJ (x.total / 1000)).put p .AUX_MJ (x.aux / 1000)).put p .UNATTRIB_MJ (x.unattrib / 1000)
  let s := allBeds.foldl (fun s b => s.put p .BED_MJ (x.beds.getD b 0 / 1000) b) s
  let s := ((s.put p .SW_VERSION x.version).put p .SW_CRC (codeCrc x.code)).put p .AUDIT_CNT x.auditCnt
  s.put p .SNAP_SEQ (s.get p .SNAP_SEQ + 1)

/-- Measurement 5 follows the software identification, with its record (R288). -/
def State.followVersion (s : State) : State :=
  let v := s.isl.version
  if s.sec.measure5 = v && s.sec.measure5Code = s.isl.code then s
  else { s with sec := { s.sec with measure5 := v, measure5Code := s.isl.code } }.record 0x0E40 pgSec (leBytes 4 s.sec.measure5 ++ leBytes 4 v)

/-- SNAPSHOT (R329): every 10 ms; one whose CRC fails is discarded and counted. -/
def execSnapshot (crcOk : Bool) (s : State) : Host.Outcome State Fault Refusal :=
  if !(s.pw.keeperOn && s.isl.ready) then .next s
  else if !crcOk then .next (s.bump pgMirror .SNAP_BAD)
  else .next ((s.mirrorPage.setIsl { s.isl with sinceGood := s.time.now }).followVersion.copyAudit)

/-- SNAPSHOT_STALE (R329): 100 ms without a good snapshot. -/
def execSnapshotStale (s : State) : Host.Outcome State Fault Refusal :=
  if s.pw.keeperOn && s.isl.sinceGood + 100000000 ≤ s.time.now then .next (s.put pgMirror .STALE 1) else .next s

/-- SEAL_CHANGE (R332): the strap sampled in another state. -/
def execSealChange (closed : Bool) (s : State) : Host.Outcome State Fault Refusal :=
  if s.islandOn && s.isl.sealClosed != closed then .next (s.setIsl ({ s.isl with sealClosed := closed }.log 1)) else .next s

/-! ### The port (R331, R333, R334) -/

/-- A port command: unanswered without power, ignored where its PEC is wrong; else the first status of R41 that applies, or its effect (R331). -/
def State.onPort (s : State) (pec : Bool) (bad : List (Bool × Nat)) (ok : State → State) : Host.Outcome State Fault Refusal :=
  if !(s.islandOn && pec) then .next s
  else match firstStatus bad with
    | some st => .next (s.reply st)
    | none => .next (ok s)

/-- READ_ENERGY: 88 bytes. -/
def execReadEnergy (s : State) (pec : Bool := true) : Host.Outcome State Fault Refusal :=
  s.onPort pec [] fun s => s.reply stOk
    (leBytes 8 (s.isl.total / 1000) ++ leBytes 8 (s.isl.aux / 1000) ++ leBytes 8 (s.isl.unattrib / 1000) ++
      allBeds.flatMap fun b => leBytes 8 (s.isl.beds.getD b 0 / 1000))

/-- MET_STS as the island knows it: READY, FAULT, SEAL_CLOSED, OVERRANGE. -/
def IslandSt.sts (x : IslandSt) : Nat := b2n x.ready + 2 * b2n x.fault + 4 * b2n x.sealClosed + 8 * b2n x.ranged

/-- READ_STATUS. -/
def execReadStatus (s : State) (pec : Bool := true) : Host.Outcome State Fault Refusal :=
  s.onPort pec [] fun s => s.reply stOk (leBytes 4 s.isl.sts ++ leBytes 4 (s.isl.tenths / 10))

/-- READ_SW_ID. -/
def execReadSwId (s : State) (pec : Bool := true) : Host.Outcome State Fault Refusal :=
  s.onPort pec [] fun s => s.reply stOk (swId s.isl.version s.isl.code)

/-- READ_AUDIT: BAD_ARG for an index not yet written. -/
def execReadAudit (index : Nat) (s : State) (pec : Bool := true) : Host.Outcome State Fault Refusal :=
  s.onPort pec [((s.isl.audit[index]?).isNone, stBadArg)] fun s =>
    s.reply stOk (leBytes 4 s.isl.auditCnt ++ (match s.isl.audit[index]? with
      | some a => auditBytes a
      | none => []))

/-- READ_CFG. -/
def execReadCfg (s : State) (pec : Bool := true) : Host.Outcome State Fault Refusal := s.onPort pec [] fun s => s.reply stOk (leBytes 2 s.isl.holdupC)

/-- A change counted and entered in the audit trail (R334). -/
def IslandSt.auditChange (x : IslandSt) (kind old new : Nat) : IslandSt :=
  let a : Audit := ⟨x.audit.length, kind, x.auditCnt + 1, x.tenths / 10, x.total / 1000, old, new⟩
  { x with auditCnt := x.auditCnt + 1, audit := x.audit ++ [a] }

/-- All 1,024 audit entries are used. -/
def IslandSt.auditFull (x : IslandSt) : Bool := decide (1024 ≤ x.audit.length)

/-- CFG_WRITE (R331, R333). -/
def execCfgWrite (holdupMillifarad : Nat) (holdupMillivolts : Nat) (s : State) (pec : Bool := true) : Host.Outcome State Fault Refusal :=
  s.onPort pec [(!decide (100 ≤ holdupMillifarad ∧ holdupMillifarad ≤ 10000), stBadArg), (s.isl.sealClosed, stSealed),
      (s.isl.auditFull, stConflict), (!s.isl.canCommit holdupMillivolts, stHoldupLow)]
    fun s =>
      (s.setIsl { s.isl.commit.auditChange 1 s.isl.holdupC holdupMillifarad with holdupC := holdupMillifarad }).reply stOk

/-- FW_BEGIN (R333): without load, that is, at or below 0.1 A. -/
def execFwBegin (length milliamps : Nat) (s : State) (pec : Bool := true) : Host.Outcome State Fault Refusal :=
  s.onPort pec [(s.isl.sealClosed, stSealed), (decide (100 < milliamps), stConflict)]
    fun s => (s.setIsl { s.isl with load := some length, image := [], milliamps := milliamps }).reply stOk

/-- A chunk lies outside the image that FW_BEGIN announced. -/
def IslandSt.outside (x : IslandSt) (offset n : Nat) : Bool := match x.load with
  | some l => decide (l < offset + n)
  | none => false

/-- Consecutive bytes of an image put from an offset on. -/
def Tab.putAll (t : Tab Nat Byte) : Nat → List Byte → Tab Nat Byte
  | _, [] => t
  | o, b :: bs => Tab.putAll (Tab.put t o b) (o + 1) bs

/-- FW_CHUNK: up to 240 bytes. -/
def execFwChunk (offset : Nat) (data : List Byte) (s : State) (pec : Bool := true) : Host.Outcome State Fault Refusal :=
  s.onPort pec [(decide (240 < data.length), stBadLen), (s.isl.outside offset data.length, stBadArg),
      (s.isl.sealClosed, stSealed), (s.isl.load.isNone, stConflict)]
    fun s => (s.setIsl { s.isl with image := s.isl.image.putAll offset data }).reply stOk

/-- The image that FW_BEGIN announced, once every byte of it has arrived. -/
def IslandSt.whole (x : IslandSt) : Option (List Byte) := (List.range (x.load.getD 0)).mapM x.image.find?

/-- The island accepts an image under the key in its own ROM alone (R330). -/
def islandVerifies (image : List Byte) : Bool :=
  Config.ecdsaOk Config.islandKey (Config.islandParts image).1 (Config.islandParts image).2

/-- The software switched to a verified image, with its audit entry (R333, R334). -/
def IslandSt.switch (x : IslandSt) (image : List Byte) : IslandSt :=
  let v := Config.imageVersion image % 2 ^ 32
  { x.auditChange 2 x.version v with version := v, code := some (Config.islandParts image).1 }

/-- FW_END (R330, R333, R334): the registers committed, the image that the island holds verified, the software switched. It takes no payload (R331); the island's sense reads the input current then. -/
def execFwEnd (holdupMillivolts milliamps : Nat) (payload : List Byte) (s : State) (pec : Bool := true) : Host.Outcome State Fault Refusal :=
  s.onPort pec [(!payload.isEmpty, stBadLen), (s.isl.sealClosed, stSealed), (s.isl.load.isNone || s.isl.auditFull, stConflict),
      (!s.isl.canCommit holdupMillivolts, stHoldupLow)]
    fun s =>
      let x := { s.isl.commit with load := none, image := [], milliamps := milliamps }
      match s.isl.whole.filter islandVerifies with
      | some image => (s.setIsl (x.switch image)).reply stOk
      | none => (s.setIsl x).reply stIntegrity

/-- The island's 7-bit SMBus address on MET_SCL and MET_SDA (R331). -/
def islandAddress : Nat := 0x5C

/-- The command that a transfer on the port spells (R331): the address, the command byte and the block payload, with the hold-up voltage and input current that the island senses. None for another address, which is not the island's. -/
def islandTransfer (address code : Nat) (payload : List Byte) (pec : Bool) (millivolts milliamps : Nat) : Option Instr :=
  if address ≠ islandAddress then none
  else if code = 0x01 then some (.readEnergy pec)
  else if code = 0x02 then some (.readStatus pec)
  else if code = 0x03 then some (.readSwId pec)
  else if code = 0x04 then some (.readAudit (fieldAt payload 0 2) pec)
  else if code = 0x05 then some (.readCfg pec)
  else if code = 0x10 then some (.cfgWrite (fieldAt payload 0 2) millivolts pec)
  else if code = 0x11 then some (.fwBegin (fieldAt payload 0 4) milliamps pec)
  else if code = 0x12 then some (.fwChunk (fieldAt payload 0 4) (payload.drop 4) pec)
  else if code = 0x13 then some (.fwEnd millivolts milliamps payload pec)
  else some (.islandUnknownCommand code pec)

/-- ISLAND_UNKNOWN_COMMAND (R331): any other code. A code that the table gives a command is not this one (log 2). -/
def execIslandUnknownCommand (code : Nat) (s : State) (pec : Bool := true) : Host.Outcome State Fault Refusal :=
  match islandTransfer islandAddress code [] pec 0 0 with
  | some (.islandUnknownCommand _ _) => s.onPort pec [] fun s => s.reply stNotSupported
  | _ => .next s

end Sys2Proof.Machine
end

