-- ==== Sys2Proof/Machine/Spdm.lean ====
section
/-! DEFINITION. The SPDM 1.3 responder (R286 to R288): its requests, the measurements, and the secured sessions that carry commands. Error and request codes are those of DSP0274 (log 50). -/

namespace Sys2Proof.Machine

/-! ### Responses -/

/-- An SPDM ERROR with its code in the status byte (log 11). -/
def State.spdmError (s : State) (code : Nat) : State := s.reply code

/-- SPDM error codes. -/
def spInvalidRequest : Nat := 0x01
@[inherit_doc spInvalidRequest] def spInvalidSession : Nat := 0x02
@[inherit_doc spInvalidRequest] def spUnexpected : Nat := 0x04
@[inherit_doc spInvalidRequest] def spDecrypt : Nat := 0x06
@[inherit_doc spInvalidRequest] def spUnsupported : Nat := 0x07
@[inherit_doc spInvalidRequest] def spSessionLimit : Nat := 0x0A

/-- An SPDM request reaches the security engine. -/
def State.onSpdm (s : State) (f : State → State) : Host.Outcome State Fault Refusal :=
  if s.pw.keeperOn && s.cpOn && !s.pw.wedged then .next (f s) else .next s

/-- The same once algorithms are negotiated. -/
def State.onNegotiated (s : State) (f : State → State) : Host.Outcome State Fault Refusal :=
  s.onSpdm fun s => if s.sec.negotiated then f s else s.spdmError spUnexpected

/-- A response signed with the identity key (R286). -/
def spdmSigned (nonce body : List Byte) : List Byte :=
  body ++ padTo 96 (Config.identitySign (Config.spdmTranscript (nonce ++ body)))

/-! ### Connection (R287) -/

/-- GET_VERSION: 1.3 alone; the connection starts anew. -/
def execGetVersion (s : State) : Host.Outcome State Fault Refusal :=
  s.onSpdm fun s => (s.setSec { s.sec with negotiated := false }).done [1, 0x00, 0x13]

/-- Flags of the nine capabilities of R287 at DSP0274's bits: CERT 1, CHAL 2, MEAS 4 (signed), MEAS_FRESH 5, ENCRYPT 6, MAC 7, MUT_AUTH 8, KEY_EX 9, KEY_UPD 14. -/
def spdmCaps : Nat := 2 ^ 1 + 2 ^ 2 + 2 ^ 4 + 2 ^ 5 + 2 ^ 6 + 2 ^ 7 + 2 ^ 8 + 2 ^ 9 + 2 ^ 14

/-- GET_CAPABILITIES. -/
def execGetCapabilities (s : State) : Host.Outcome State Fault Refusal := s.onSpdm fun s => s.done (leBytes 4 spdmCaps)

/-- The algorithms: 0 ECDSA P-384, 1 SHA-384, 2 secp384r1, 3 AES-256-GCM, 4 the SPDM key schedule (log 11). -/
def spdmAlgorithms : List Nat := [0, 1, 2, 3, 4]

/-- NEGOTIATE_ALGORITHMS: those of the five that the requester offers; with all five the connection is negotiated. -/
def execNegotiateAlgorithms (offered : List Nat) (s : State) : Host.Outcome State Fault Refusal :=
  s.onSpdm fun s =>
    (s.setSec { s.sec with negotiated := spdmAlgorithms.all offered.contains }).done
      ((spdmAlgorithms.filter offered.contains).flatMap (leBytes 1))

/-! ### Certificates (R286) -/

/-- GET_DIGESTS: slot 0 only. -/
def execGetDigests (s : State) : Host.Outcome State Fault Refusal :=
  s.onNegotiated fun s => s.done (leBytes 1 1 ++ padTo 48 (Config.sha384 Config.certificate))

/-- GET_CERTIFICATE: a part of slot 0's certificate with its length and the bytes that remain. -/
def execGetCertificate (slot offset len : Nat) (s : State) : Host.Outcome State Fault Refusal :=
  s.onNegotiated fun s =>
    if slot ≠ 0 then s.spdmError spUnsupported
    else if Config.certificate.length < offset then s.spdmError spInvalidRequest
    else
      let part := (Config.certificate.drop offset).take len
      s.done (leBytes 2 part.length ++ leBytes 2 (Config.certificate.length - offset - part.length) ++ part)

/-- CHALLENGE: answered with a signed response. -/
def execChallenge (slot : Nat) (nonce : List Byte) (s : State) : Host.Outcome State Fault Refusal :=
  s.onNegotiated fun s =>
    if slot ≠ 0 then s.spdmError spUnsupported
    else
      let r := s.drawBytes 32
      r.2.done (spdmSigned nonce (padTo 48 (Config.sha384 Config.certificate) ++ r.1))

/-! ### Measurements (R288) -/

/-- Digest of a partition's active armature; zeros when none. -/
def State.armDigest (s : State) (p : Nat) : List Byte :=
  match (s.partBeds p).find? fun b => (s.bed b).active.isSome with
  | none => List.replicate 48 0
  | some b => match (s.bed b).active.bind fun k => s.armSlot p k with
    | some a => padTo 48 a.digest
    | none => List.replicate 48 0

/-- Digest of a partition's open session; zeros when none. -/
def State.sessionDigest (s : State) (p : Nat) : List Byte :=
  let x := s.session p
  if s.sessionOpen p then padTo 48 (Config.sha384 (x.id ++ x.group ++ x.rosterDigest)) else List.replicate 48 0

/-- A measurement with its DMTF value type; none for an index that R288 does not list. -/
def State.measurement (s : State) (i : Nat) : Option (Nat × List Byte) :=
  let img := s.sec.flash.get s.sec.booted FwSlot.reset
  if i = 1 then some (0x00, padTo 48 Config.romDigest)
  else if i = 2 then some (0x01, padTo 48 (Config.sha384 img.keeperImage))
  else if i = 3 then some (0x01, padTo 48 (Config.sha384 img.cpImage))
  else if i = 4 then some (0x02, padTo 48 (Config.sha384 s.sec.measure4))
  else if i = 5 then some (0x01, padTo 48 (Config.sha384 (swId s.sec.measure5 s.sec.measure5Code)))
  else if 0x10 ≤ i ∧ i < 0x18 then some (0x03, s.armDigest (i - 0x10))
  else if 0x20 ≤ i ∧ i < 0x28 then some (0x03, s.sessionDigest (i - 0x20))
  else none

/-- Every index of R288. -/
def measureIndices : List Nat := [1, 2, 3, 4, 5] ++ allBeds.map (0x10 + ·) ++ allBeds.map (0x20 + ·)

/-- The blocks of a measurement response: index, value type, digest. -/
def State.measureBlocks (s : State) (l : List Nat) : List Byte := l.flatMap fun i => match s.measurement i with
  | some m => leBytes 1 i ++ leBytes 1 m.1 ++ m.2
  | none => []

/-- GET_MEASUREMENTS (R288): one index, or all of them for 0xFF, signed. -/
def execGetMeasurements (index : Nat) (nonce : List Byte) (s : State) : Host.Outcome State Fault Refusal :=
  s.onNegotiated fun s =>
    if index = 0xFF then s.done (spdmSigned nonce (s.measureBlocks measureIndices))
    else if (s.measurement index).isNone then s.spdmError spInvalidRequest
    else s.done (spdmSigned nonce (s.measureBlocks [index]))

/-! ### Secured sessions (R287, R292) -/

/-- The owner's secured session: without mutual authentication, or with the owner's key. -/
def State.ownerSpdm (s : State) (mutualAuth : Bool) (requester : List Byte) : Bool := !mutualAuth || s.ownerHash == some requester

/-- A secured session's number that is free: 8 for the owner, one of the others for each partition's tenant, at most 9 at once (R287). -/
def State.freeSpdm (s : State) (owner : Bool) : Option Nat :=
  (if owner then [8] else List.range s.partCount).find? fun k => (s.sec.spdm.find? k).isNone

/-- The requester's answers to the encapsulated GET_DIGESTS and GET_CERTIFICATE agree (R287). -/
def encapOk (digest cert : List Byte) : Bool := !cert.isEmpty && digest == Config.sha384 cert

/-- The hash of the requester's public key, as its certificate gives it. -/
def requesterHash (cert : List Byte) : List Byte := Config.sha384 (Config.certKey cert)

/-- KEY_EXCHANGE: a session begins. Under mutual authentication the device obtains the requester's certificate by encapsulated GET_DIGESTS and GET_CERTIFICATE, whose answers are digest and cert; where they disagree the exchange fails. -/
def execKeyExchange (mutualAuth : Bool) (digest key : List Byte) (s : State) (cert : List Byte := []) : Host.Outcome State Fault Refusal :=
  s.onNegotiated fun s =>
    let who := if mutualAuth then requesterHash cert else []
    if mutualAuth && !encapOk digest cert then s.spdmError spInvalidRequest
    else match s.freeSpdm (s.ownerSpdm mutualAuth who) with
    | none => s.spdmError spSessionLimit
    | some k =>
      let n := s.sec.draws
      let secret := Config.hkdfExtract (Config.spdmTranscript key) (Config.ecdh (ephSecret n) key)
      let x : SpdmSession := { requester := who, mutualAuth := mutualAuth, established := false, exportSecret := secret, updates := 0 }
      (s.setSec { s.sec with draws := n + 1, spdm := s.sec.spdm.put k x }).done (leBytes 1 k ++ spdmSigned key (ephPublic n))

/-- A request inside a secured session that is established. -/
def State.onSession (s : State) (k : Nat) (f : State → SpdmSession → State) : Host.Outcome State Fault Refusal :=
  s.onSpdm fun s => match s.sec.spdm.find? k with
    | some x => if x.established then f s x else s.spdmError spInvalidSession
    | none => s.spdmError spInvalidSession

/-- FINISH: the handshake ends; verified tells whether its checks, the requester's signature among them, pass. -/
def execFinish (session : Nat) (verified : Bool) (s : State) : Host.Outcome State Fault Refusal :=
  s.onSpdm fun s => match s.sec.spdm.find? session with
    | none => s.spdmError spInvalidSession
    | some x =>
      if x.established then s.spdmError spUnexpected
      else if verified then (s.setSec { s.sec with spdm := s.sec.spdm.put session { x with established := true } }).done
      else (s.setSec { s.sec with spdm := s.sec.spdm.del session }).spdmError spDecrypt

/-- END_SESSION: the session keys are erased (R292). -/
def execEndSession (session : Nat) (s : State) : Host.Outcome State Fault Refusal :=
  s.onSession session fun s _ => (s.setSec { s.sec with spdm := s.sec.spdm.del session }).done

/-- KEY_UPDATE: new session keys. -/
def execKeyUpdate (session : Nat) (s : State) : Host.Outcome State Fault Refusal :=
  s.onSession session fun s x =>
    (s.setSec { s.sec with spdm := s.sec.spdm.put session { x with updates := x.updates + 1 } }).done

/-- VENDOR_DEFINED_REQUEST (R287): a command inside an established secured session. -/
def execVendorDefinedRequest (session : Nat) (cmd : RawCmd) (s : State) : Host.Outcome State Fault Refusal :=
  match s.sec.spdm.find? session with
  | some x => if x.established then s.runRaw (.secured session) cmd else s.onSpdm fun s => s.spdmError spInvalidSession
  | none => s.onSpdm fun s => s.spdmError spInvalidSession

/-- The request codes that R287 supports. What carries its encapsulated requests belongs to KEY_EXCHANGE here (log 50). -/
def spdmCodes : List Nat := [0x81, 0x82, 0x83, 0x84, 0xE0, 0xE1, 0xE3, 0xE4, 0xE5, 0xE9, 0xEC, 0xFE]

/-- SPDM_UNSUPPORTED_REQUEST (R287): any other request. A supported one is not this command (log 2). -/
def execSpdmUnsupportedRequest (code : Nat) (s : State) : Host.Outcome State Fault Refusal :=
  if spdmCodes.contains code then .next s else s.onSpdm fun s => s.spdmError spUnsupported

end Sys2Proof.Machine
end

