-- ==== Sys2Proof/Machine/Tap.lean ====
section
/-! DEFINITION. The test access port (R386) and the board declaration (R385). -/

namespace Sys2Proof.Machine

/-- An instruction shifted into the TAP, which is powered with the keeper. -/
def State.onTap (s : State) (f : State → State) : Host.Outcome State Fault Refusal := if s.pw.keeperOn then .next (f s) else .next s

/-- The loaded instruction. -/
def State.setInstr (s : State) (n : Nat) : State := { s with tap := { s.tap with instr := n } }

/-- The opcode of a TAP instruction by its number: BOARD_OTP is 0x2A (R385), BYPASS all ones (IEEE 1149.1), the others are free (log 73). -/
def tapOpcode (n : Nat) : Nat := if n = 0 then 0xFF else if n = 8 then 0x2A else (Config.tapOpcode n).toNat

/-- The instruction that an opcode loads (R386): BYPASS for any that is not supported. -/
def tapInstr (opcode : Nat) : Nat := ([0, 8, 1, 2, 3, 4, 5, 6, 7].find? fun n => tapOpcode n == opcode).getD 0

/-- BYPASS (R386): also what any unsupported opcode loads; the opcode of another instruction is not this command (log 2). -/
def execBypass (opcode : Nat) (s : State) : Host.Outcome State Fault Refusal :=
  s.onTap fun s => if tapInstr opcode = 0 then s.setInstr 0 else s

/-- IDCODE's value: version 1, part 0x3072, Methiri's JEP106 code, 1. -/
def idcodeValue : Nat := 1 * 2 ^ 28 + 0x3072 * 2 ^ 12 + Config.jep106.toNat * 2 + 1

/-- IDCODE (R386). -/
def execIdcode (s : State) : Host.Outcome State Fault Refusal := s.onTap fun s => (s.setInstr 1).answer idcodeValue

/-- What the boundary cells capture: lane cells 0 unless the device is in Hold. -/
def State.capturePins (s : State) : List Bool :=
  (List.range Config.cellCount.toNat).map fun i =>
    if Config.laneCell i && s.pw.power != .hold then false else Config.pinCapture s.draw.1 i

/-- SAMPLE/PRELOAD (R386): the pins sampled, or the cells preloaded. -/
def execSamplePreload (preload : Option (List Bool)) (s : State) : Host.Outcome State Fault Refusal :=
  s.onTap fun s => match preload with
    | some l => { s.setInstr 2 with tap := { (s.setInstr 2).tap with cells := l } }
    | none => { s.draw.2.setInstr 2 with tap := { (s.draw.2.setInstr 2).tap with cells := s.capturePins } }

/-- The device is in Hold with every bed IDLE or HELD and no session open. -/
def State.testable (s : State) : Bool := s.pw.power == .hold && allBeds.all s.bedQuiet && !allBeds.any s.sessionOpen

/-- An instruction that drives pins: loaded when the device is testable, else BYPASS with a record (R386, R390). -/
def State.loadDriving (s : State) (n : Nat) : Host.Outcome State Fault Refusal :=
  s.onTap fun s =>
    if s.testable then s.setInstr n else (s.setInstr 0).record 0x0D43 pgKeeper (leBytes 1 (tapOpcode n))

/-- EXTEST (R386). -/
def execExtest (s : State) : Host.Outcome State Fault Refusal := s.loadDriving 3
/-- EXTEST_PULSE (R386). -/
def execExtestPulse (s : State) : Host.Outcome State Fault Refusal := s.loadDriving 4
/-- EXTEST_TRAIN (R386). -/
def execExtestTrain (s : State) : Host.Outcome State Fault Refusal := s.loadDriving 5
/-- CLAMP (R386). -/
def execClamp (s : State) : Host.Outcome State Fault Refusal := s.loadDriving 6
/-- HIGHZ (R386). -/
def execHighz (s : State) : Host.Outcome State Fault Refusal := s.loadDriving 7

/-- Why a board declaration is refused: 1 already written, 2 HOLDUP_MF out of range, 3 a reserved bit set; 0 when it is not. -/
def State.otpRefusal (s : State) (word : Nat) : Nat :=
  if bitAt s.tap.otp 63 then 1
  else if bits word 0 16 < 100 || 10000 < bits word 0 16 then 2
  else if bits word 32 31 ≠ 0 then 3
  else 0

/-- BOARD_OTP (R385): the word programmed once, with WRITTEN; HOLDUP_CAP shows HOLDUP_MF. -/
def execBoardOtp (word : Nat) (s : State) : Host.Outcome State Fault Refusal :=
  s.onTap fun s =>
    let s := s.setInstr 8
    let w := s.otpRefusal word
    if w ≠ 0 then s.record 0x0D42 pgKeeper (leBytes 1 w ++ List.replicate 7 0 ++ leBytes 8 word)
    else ({ s with tap := { s.tap with otp := word % 2 ^ 63 + 2 ^ 63 } }.put pgKeeper .HOLDUP_CAP (bits word 0 16)).showHoldup

end Sys2Proof.Machine
end

