-- ==== Sys2Proof/Machine/Dispatch.lean ====
section
/-! DEFINITION. The one dispatch over the commands: each arm calls its command's meaning. -/

namespace Sys2Proof.Machine

/-- A command's effect on everything but the queue. -/
def exec (i : Instr) (s : State) : Host.Outcome State Fault Refusal :=
  match i with
  | .badAccess off size write => Sys2Proof.Machine.execBadAccess off size write s
  | .unimplementedAccess off size write => Sys2Proof.Machine.execUnimplementedAccess off size write s
  | .lowWordRead off size => Sys2Proof.Machine.execLowWordRead off s size
  | .registerWrite agent off size value => Sys2Proof.Machine.execRegisterWrite agent off size value s
  | .directoryWrite off size value => Sys2Proof.Machine.execDirectoryWrite off size value s
  | .ctlRunWrite agent page run => Sys2Proof.Machine.execCtlRunWrite agent page run s
  | .cntClr page => Sys2Proof.Machine.execCntClr page s
  | .commit page => Sys2Proof.Machine.execCommit page s
  | .abort page => Sys2Proof.Machine.execAbort page s
  | .stagingSetFlush page => Sys2Proof.Machine.execStagingSetFlush page s
  | .pageLock page => Sys2Proof.Machine.execPageLock page s
  | .coreWindowAccess bed off size write => Sys2Proof.Machine.execCoreWindowAccess bed off size write s
  | .partCfgWrite agent value => Sys2Proof.Machine.execPartCfgWrite agent value s
  | .layerStateWrite bed value => Sys2Proof.Machine.execLayerStateWrite bed value s
  | .inactivePageWrite bed off size => Sys2Proof.Machine.execInactivePageWrite bed off size s
  | .groupWordWrite unit word value => Sys2Proof.Machine.execGroupWordWrite unit word value s
  | .brMapWrite bridge value => Sys2Proof.Machine.execBrMapWrite bridge value s
  | .bridgeRunStop bridge => Sys2Proof.Machine.execBridgeRunStop bridge s
  | .portRunWrite port run => Sys2Proof.Machine.execPortRunWrite port run s
  | .encCtlWrite agent bridge enable => Sys2Proof.Machine.execEncCtlWrite agent bridge enable s
  | .bedRunStop bed => Sys2Proof.Machine.execBedRunStop bed s
  | .runWriteIgnored bed => Sys2Proof.Machine.execRunWriteIgnored bed s
  | .mirrorWrite off size value => Sys2Proof.Machine.execMirrorWrite off size value s
  | .recordRead => Sys2Proof.Machine.execRecordRead s
  | .freeze => Sys2Proof.Machine.execFreeze s
  | .unfreeze => Sys2Proof.Machine.execUnfreeze s
  | .freezeEffective => Sys2Proof.Machine.execFreezeEffective s
  | .freezeTimeout => Sys2Proof.Machine.execFreezeTimeout s
  | .doorbell queue tail descs => Sys2Proof.Machine.execDoorbell queue tail descs s
  | .mbxGo => Sys2Proof.Machine.execMbxGo s
  | .mbxHalt => Sys2Proof.Machine.execMbxHalt s
  | .frameTick bed => Sys2Proof.Machine.execFrameTick bed s
  | .stepBoundary bed => Sys2Proof.Machine.execStepBoundary bed s
  | .precisionRetry part layer => Sys2Proof.Machine.execPrecisionRetry part layer s
  | .precisionShiftReset part layer => Sys2Proof.Machine.execPrecisionShiftReset part layer s
  | .changeForced bed => Sys2Proof.Machine.execChangeForced bed s
  | .capRelease => Sys2Proof.Machine.execCapRelease s
  | .matrixInstructionBlock bed core engine ready => Sys2Proof.Machine.execMatrixInstructionBlock bed core engine ready s
  | .matrixBlockEnd bed core engine => Sys2Proof.Machine.execMatrixBlockEnd bed core engine s
  | .vectorInstructionBlock bed core backward ready => Sys2Proof.Machine.execVectorInstructionBlock bed core backward ready s
  | .vAdd w x => Sys2Proof.Machine.execVAdd w x s
  | .vSub w x => Sys2Proof.Machine.execVSub w x s
  | .vMul w x => Sys2Proof.Machine.execVMul w x s
  | .vFma w x => Sys2Proof.Machine.execVFma w x s
  | .vMin w x => Sys2Proof.Machine.execVMin w x s
  | .vMax w x => Sys2Proof.Machine.execVMax w x s
  | .vAbs w x => Sys2Proof.Machine.execVAbs w x s
  | .vNeg w x => Sys2Proof.Machine.execVNeg w x s
  | .vCmplt w x => Sys2Proof.Machine.execVCmplt w x s
  | .vCmpeq w x => Sys2Proof.Machine.execVCmpeq w x s
  | .vSel w x => Sys2Proof.Machine.execVSel w x s
  | .vSqrt w x => Sys2Proof.Machine.execVSqrt w x s
  | .vRcp w x => Sys2Proof.Machine.execVRcp w x s
  | .vRsqrt w x => Sys2Proof.Machine.execVRsqrt w x s
  | .vExp2 w x => Sys2Proof.Machine.execVExp2 w x s
  | .vLog2 w x => Sys2Proof.Machine.execVLog2 w x s
  | .vCvtInt32 w x => Sys2Proof.Machine.execVCvtInt32 w x s
  | .vCvtBf16 w x => Sys2Proof.Machine.execVCvtBf16 w x s
  | .vIadd w x => Sys2Proof.Machine.execVIadd w x s
  | .vAnd w x => Sys2Proof.Machine.execVAnd w x s
  | .vOr w x => Sys2Proof.Machine.execVOr w x s
  | .vXor w x => Sys2Proof.Machine.execVXor w x s
  | .vShl w x => Sys2Proof.Machine.execVShl w x s
  | .vShr w x => Sys2Proof.Machine.execVShr w x s
  | .vectorLoad w x => Sys2Proof.Machine.execVectorLoad w x s
  | .vectorStore w x => Sys2Proof.Machine.execVectorStore w x s
  | .quantiseTile bed core => Sys2Proof.Machine.execQuantiseTile bed core s
  | .nfTrap bed => Sys2Proof.Machine.execNfTrap bed s
  | .contextStallTimeout bed core ctx => Sys2Proof.Machine.execContextStallTimeout bed core ctx s
  | .sequencerAckTimeout bed => Sys2Proof.Machine.execSequencerAckTimeout bed s
  | .transferLoad bed core ctx => Sys2Proof.Machine.execTransferLoad bed core ctx s
  | .transferPrefetch bed core ctx => Sys2Proof.Machine.execTransferPrefetch bed core ctx s
  | .transferRelease bed core ctx => Sys2Proof.Machine.execTransferRelease bed core ctx s
  | .transferDrop bed core ctx => Sys2Proof.Machine.execTransferDrop bed core ctx s
  | .transferComplete bed core ctx => Sys2Proof.Machine.execTransferComplete bed core ctx s
  | .lineRead req err => Sys2Proof.Machine.execLineRead req err s
  | .lineWrite req first data poison => Sys2Proof.Machine.execLineWrite req first data poison s
  | .scrubDone bridge => Sys2Proof.Machine.execScrubDone bridge s
  | .patrolScrub stack addr err passDone => Sys2Proof.Machine.execPatrolScrub stack addr err passDone s
  | .memoryTrainingCheck stack channel ok => Sys2Proof.Machine.execMemoryTrainingCheck stack channel ok s
  | .channelRetrain stack channel errors => Sys2Proof.Machine.execChannelRetrain stack channel errors s
  | .retrainEnd stack channel ok => Sys2Proof.Machine.execRetrainEnd stack channel ok s
  | .refreshLate stack channel => Sys2Proof.Machine.execRefreshLate stack channel s
  | .updateEntry unit => Sys2Proof.Machine.execUpdateEntry unit s
  | .updatePrepass unit => Sys2Proof.Machine.execUpdatePrepass unit s
  | .unitStop unit => Sys2Proof.Machine.execUnitStop unit s
  | .slotSend port slot => Sys2Proof.Machine.execSlotSend port slot s
  | .slotReceive port corrected uncorrectable packet asked => Sys2Proof.Machine.execSlotReceive port corrected uncorrectable packet s asked
  | .dataReceive port packet => Sys2Proof.Machine.execDataReceive port packet s
  | .heartbeatReceive port packet => Sys2Proof.Machine.execHeartbeatReceive port packet s
  | .heartbeatTimeout port => Sys2Proof.Machine.execHeartbeatTimeout port s
  | .timeRequestReceive port packet => Sys2Proof.Machine.execTimeRequestReceive port packet s
  | .timeResponseReceive port packet => Sys2Proof.Machine.execTimeResponseReceive port packet s
  | .groupAlignTimeout part => Sys2Proof.Machine.execGroupAlignTimeout part s
  | .timeRefEdge => Sys2Proof.Machine.execTimeRefEdge s
  | .trefHoldoverTimeout => Sys2Proof.Machine.execTrefHoldoverTimeout s
  | .topologyReceive port packet => Sys2Proof.Machine.execTopologyReceive port packet s
  | .reduceReceive port packet => Sys2Proof.Machine.execReduceReceive port packet s
  | .levelCutoff part bucket step tile piece => Sys2Proof.Machine.execLevelCutoff part bucket step tile piece s
  | .rootDeadline part bucket step tile piece => Sys2Proof.Machine.execRootDeadline part bucket step tile piece s
  | .certReceive port packet => Sys2Proof.Machine.execCertReceive port packet s
  | .voteDeadline part code => Sys2Proof.Machine.execVoteDeadline part code s
  | .cuttingReceive port packet => Sys2Proof.Machine.execCuttingReceive port packet s
  | .cutAckReceive port packet => Sys2Proof.Machine.execCutAckReceive port packet s
  | .mgmtReceive port packet => Sys2Proof.Machine.execMgmtReceive port packet s
  | .portRetrain port => Sys2Proof.Machine.execPortRetrain port s
  | .portTrainingTimeout port => Sys2Proof.Machine.execPortTrainingTimeout port s
  | .linkUp port => Sys2Proof.Machine.execLinkUp port s
  | .d2dFlitRetry link compute => Sys2Proof.Machine.execD2dFlitRetry link s compute
  | .d2dTrainingLost link => Sys2Proof.Machine.execD2dTrainingLost link s
  | .d2dTrainingTimeout link => Sys2Proof.Machine.execD2dTrainingTimeout link s
  | .ledgerEntryWrite part => Sys2Proof.Machine.execLedgerEntryWrite part s
  | .ledgerStall part => Sys2Proof.Machine.execLedgerStall part s
  | .drbgReseed part ok => Sys2Proof.Machine.execDrbgReseed part ok s
  | .entropyHealthFail => Sys2Proof.Machine.execEntropyHealthFail s
  | .armatureLoad req addr len => Sys2Proof.Machine.execArmatureLoad req addr len s
  | .armatureActivate req armId startFrame startStep startEpoch startTime => Sys2Proof.Machine.execArmatureActivate req armId startFrame startStep startEpoch startTime s
  | .armatureUnload req armId => Sys2Proof.Machine.execArmatureUnload req armId s
  | .graftPlan req memberHash step => Sys2Proof.Machine.execGraftPlan req memberHash step s
  | .regrow req partner source cutStep partnerValid sourceHolds => Sys2Proof.Machine.execRegrow req partner source cutStep partnerValid sourceHolds s
  | .regrowReplay part step => Sys2Proof.Machine.execRegrowReplay part step s
  | .getStatus req => Sys2Proof.Machine.execGetStatus req s
  | .getNonce req => Sys2Proof.Machine.execGetNonce req s
  | .readPower req => Sys2Proof.Machine.execReadPower req s
  | .setPowerState req target => Sys2Proof.Machine.execSetPowerState req target s
  | .haltAndHold req => Sys2Proof.Machine.execHaltAndHold req s
  | .evrRead req first => Sys2Proof.Machine.execEvrRead req first s
  | .evrFreeze req => Sys2Proof.Machine.execEvrFreeze req s
  | .evrUnfreeze req => Sys2Proof.Machine.execEvrUnfreeze req s
  | .evrClear req scope upToSeq => Sys2Proof.Machine.execEvrClear req scope upToSeq s
  | .ownerEnroll req keyHash => Sys2Proof.Machine.execOwnerEnroll req keyHash s
  | .ownerRevoke req => Sys2Proof.Machine.execOwnerRevoke req s
  | .sessionOpen req payload => Sys2Proof.Machine.execSessionOpen req payload s
  | .sessionClose req => Sys2Proof.Machine.execSessionClose req s
  | .fwUpdate req image offset chunk last => Sys2Proof.Machine.execFwUpdate req image offset chunk last s
  | .fwCommit req => Sys2Proof.Machine.execFwCommit req s
  | .pageUnlock req page => Sys2Proof.Machine.execPageUnlock req page s
  | .recoveryWrite req image offset chunk last => Sys2Proof.Machine.execRecoveryWrite req image offset chunk last s
  | .unknownCommand req code => Sys2Proof.Machine.execUnknownCommand req code s
  | .managementCommandTimeout req code phase => Sys2Proof.Machine.execManagementCommandTimeout req code phase s
  | .setEndpointId eid op => Sys2Proof.Machine.execSetEndpointId eid s op
  | .getEndpointId => Sys2Proof.Machine.execGetEndpointId s
  | .getMctpVersionSupport type => Sys2Proof.Machine.execGetMctpVersionSupport s type
  | .getMessageTypeSupport => Sys2Proof.Machine.execGetMessageTypeSupport s
  | .getVendorDefinedMessageSupport selector => Sys2Proof.Machine.execGetVendorDefinedMessageSupport s selector
  | .getVersion => Sys2Proof.Machine.execGetVersion s
  | .getCapabilities => Sys2Proof.Machine.execGetCapabilities s
  | .negotiateAlgorithms offered => Sys2Proof.Machine.execNegotiateAlgorithms offered s
  | .getDigests => Sys2Proof.Machine.execGetDigests s
  | .getCertificate slot offset len => Sys2Proof.Machine.execGetCertificate slot offset len s
  | .challenge slot nonce => Sys2Proof.Machine.execChallenge slot nonce s
  | .getMeasurements index nonce => Sys2Proof.Machine.execGetMeasurements index nonce s
  | .keyExchange mutualAuth digest key cert => Sys2Proof.Machine.execKeyExchange mutualAuth digest key s cert
  | .finish session verified => Sys2Proof.Machine.execFinish session verified s
  | .endSession session => Sys2Proof.Machine.execEndSession session s
  | .keyUpdate session => Sys2Proof.Machine.execKeyUpdate session s
  | .vendorDefinedRequest session cmd => Sys2Proof.Machine.execVendorDefinedRequest session cmd s
  | .spdmUnsupportedRequest code => Sys2Proof.Machine.execSpdmUnsupportedRequest code s
  | .bar2Read off err => Sys2Proof.Machine.execBar2Read off err s
  | .bar2Write off data ep => Sys2Proof.Machine.execBar2Write off data ep s
  | .dmaHostToDevice queue data => Sys2Proof.Machine.execDmaHostToDevice queue data s
  | .dmaDeviceToHost queue => Sys2Proof.Machine.execDmaDeviceToHost queue s
  | .dmaSealedWrite queue cipher tag => Sys2Proof.Machine.execDmaSealedWrite queue cipher tag s
  | .dmaCompletion queue => Sys2Proof.Machine.execDmaCompletion queue s
  | .dmaDescriptorTimeout queue moved => Sys2Proof.Machine.execDmaDescriptorTimeout queue moved s
  | .pcieConfigRequest dword write => Sys2Proof.Machine.execPcieConfigRequest s dword write
  | .flr => Sys2Proof.Machine.execFlr s
  | .deviceReset sysReset => Sys2Proof.Machine.execDeviceReset sysReset s
  | .powerUp => Sys2Proof.Machine.execPowerUp s
  | .boot complete => Sys2Proof.Machine.execBoot s complete
  | .cpWatchdogTimeout => Sys2Proof.Machine.execCpWatchdogTimeout s
  | .cpRestartComplete => Sys2Proof.Machine.execCpRestartComplete s
  | .cpRestartLimit => Sys2Proof.Machine.execCpRestartLimit s
  | .vinExcursion millivolts => Sys2Proof.Machine.execVinExcursion millivolts s
  | .inputOvercurrent watts => Sys2Proof.Machine.execInputOvercurrent watts s
  | .vauxLow => Sys2Proof.Machine.execVauxLow s
  | .converterFault modules regulators => Sys2Proof.Machine.execConverterFault modules regulators s
  | .pwrAlert => Sys2Proof.Machine.execPwrAlert s
  | .floorExit => Sys2Proof.Machine.execFloorExit s
  | .flowFault => Sys2Proof.Machine.execFlowFault s
  | .flowFaultDormant => Sys2Proof.Machine.execFlowFaultDormant s
  | .thermTrip sensor celsius => Sys2Proof.Machine.execThermTrip sensor celsius s
  | .junctionSensorRead sensor celsius => Sys2Proof.Machine.execJunctionSensorRead sensor celsius s
  | .throttleRestore => Sys2Proof.Machine.execThrottleRestore s
  | .droopDetect edges => Sys2Proof.Machine.execDroopDetect edges s
  | .sustainedDroop => Sys2Proof.Machine.execSustainedDroop s
  | .marginCheck monitor below => Sys2Proof.Machine.execMarginCheck monitor below s
  | .clustersOn => Sys2Proof.Machine.execClustersOn s
  | .holdupSample millivolts => Sys2Proof.Machine.execHoldupSample millivolts s
  | .durableStoreStart kind => Sys2Proof.Machine.execDurableStoreStart kind s
  | .durableStoreComplete => Sys2Proof.Machine.execDurableStoreComplete s
  | .durableStoreRetry kind => Sys2Proof.Machine.execDurableStoreRetry kind s
  | .eventBatchStore => Sys2Proof.Machine.execEventBatchStore s
  | .hours => Sys2Proof.Machine.execHours s
  | .opSecond => Sys2Proof.Machine.execOpSecond s
  | .repeatSecond => Sys2Proof.Machine.execRepeatSecond s
  | .meterReady => Sys2Proof.Machine.execMeterReady s
  | .meterNotReady => Sys2Proof.Machine.execMeterNotReady s
  | .attributionInterval inputMicrojoule auxMicrojoule branches milliamps => Sys2Proof.Machine.execAttributionInterval inputMicrojoule auxMicrojoule branches milliamps s
  | .metPulse => Sys2Proof.Machine.execMetPulse s
  | .overrange milliamps => Sys2Proof.Machine.execOverrange milliamps s
  | .meterCommit holdupMillivolts => Sys2Proof.Machine.execMeterCommit holdupMillivolts s
  | .selfTestFail => Sys2Proof.Machine.execSelfTestFail s
  | .snapshot crcOk => Sys2Proof.Machine.execSnapshot crcOk s
  | .snapshotStale => Sys2Proof.Machine.execSnapshotStale s
  | .sealChange closed => Sys2Proof.Machine.execSealChange closed s
  | .readEnergy pec => Sys2Proof.Machine.execReadEnergy s pec
  | .readStatus pec => Sys2Proof.Machine.execReadStatus s pec
  | .readSwId pec => Sys2Proof.Machine.execReadSwId s pec
  | .readAudit index pec => Sys2Proof.Machine.execReadAudit index s pec
  | .readCfg pec => Sys2Proof.Machine.execReadCfg s pec
  | .cfgWrite holdupMillifarad holdupMillivolts pec => Sys2Proof.Machine.execCfgWrite holdupMillifarad holdupMillivolts s pec
  | .fwBegin length milliamps pec => Sys2Proof.Machine.execFwBegin length milliamps s pec
  | .fwChunk offset data pec => Sys2Proof.Machine.execFwChunk offset data s pec
  | .fwEnd holdupMillivolts milliamps payload pec => Sys2Proof.Machine.execFwEnd holdupMillivolts milliamps payload s pec
  | .islandUnknownCommand code pec => Sys2Proof.Machine.execIslandUnknownCommand code s pec
  | .bypass opcode => Sys2Proof.Machine.execBypass opcode s
  | .idcode => Sys2Proof.Machine.execIdcode s
  | .samplePreload preload => Sys2Proof.Machine.execSamplePreload preload s
  | .extest => Sys2Proof.Machine.execExtest s
  | .extestPulse => Sys2Proof.Machine.execExtestPulse s
  | .extestTrain => Sys2Proof.Machine.execExtestTrain s
  | .clamp => Sys2Proof.Machine.execClamp s
  | .highz => Sys2Proof.Machine.execHighz s
  | .boardOtp word => Sys2Proof.Machine.execBoardOtp word s
  | .vauxRise => Sys2Proof.Machine.execVauxRise s
  | .vinRestore millivolts => Sys2Proof.Machine.execVinRestore millivolts s
  | .keeperStop => Sys2Proof.Machine.execKeeperStop s
  | .flowFaultClear => Sys2Proof.Machine.execFlowFaultClear s
  | .d2dTrainingRecovered link => Sys2Proof.Machine.execD2dTrainingRecovered link s
  | .timeHoldEnd => Sys2Proof.Machine.execTimeHoldEnd s
  | .stackHot stack celsius => Sys2Proof.Machine.execStackHot stack celsius s
  | .powerTransitionComplete => Sys2Proof.Machine.execPowerTransitionComplete s

end Sys2Proof.Machine
end

