-- ==== Sys2Proof/Safety.lean ====
section
/-! DEFINITION. What counts as a safe state and a safe run: memory and local stores in canonical form, the island's energy conserved, hard-wired fields as the manual says. -/

namespace Sys2Proof.Machine

/-- A command carried out with a next state. -/
def completes (o : Host.Outcome State Fault Refusal) : Bool := match o with
  | .next _ => true
  | .fault _ => false
  | .refused _ => false

/-- The island accounts for every microjoule (R322, R323): the eight beds and UNATTRIBUTED together are the total, in the registers and in the committed copy, and there is one register per bed. -/
def IslandSt.conserved (x : IslandSt) : Prop :=
  x.beds.length = 8 ∧ x.beds.sum + x.unattrib = x.total ∧
    x.committed.2.2.2.length = 8 ∧ x.committed.2.2.2.sum + x.committed.2.2.1 = x.committed.1

/-- A partition count that R16 allows is in force: PART_LOG2 of 0 to 3. -/
def State.partsLegal (s : State) : Prop := s.get pgGlobals .PART_LOG2 < 4

/-- Every staged value is one of a frame-committed field of the page whose staging sets hold it, and each page has one entry (R32 to R34). -/
def State.stagingLegal (s : State) : Prop :=
  (s.staging.map (·.1)).Nodup ∧ ∀ e ∈ s.staging, ∀ x ∈ e.2.openSet ++ e.2.waiting.flatMap (·.1),
    x.1.page = e.1 ∧ (fieldInfo x.1.fld).kind = .frame

/-- The canonical form of the local stores: addresses strictly rising (R113). -/
def State.localWf (s : State) : Bool := cellsFrom s.cores.lstore 0

/-- What every step keeps: the energy accounts. -/
def State.Inv (s : State) : Prop := s.isl.conserved

/-- A management command is answered and none of the checks that every command shares stands against it (R4, R41, R352, R369): it reaches something that answers, its length and reserved byte are right, PARTITION names something in force, its path may carry it, and what runs it is powered and ready. -/
def State.admits (s : State) (c : Cmd) (req : Req) : Prop := s.reaches req.path c.code req.part = true ∧ ∀ x ∈ s.common41 c req, x.1 = false

/-- A vector instruction's effect (R125, R126, R145): every lane of the issuing half holds in DST what f gives of the lane's three sources as they were before; other registers, lanes and cores, scalars, local stores and device memory stay. -/
def vectorGives (c : Instr) (w : VWhere) (i : VArgs) (f : Nat → Nat → Nat → Nat) (s : State) : Prop :=
  ∃ t : State, exec c s = .next t ∧
    (∀ l ∈ s.lanes w.bed.val w.core.val w.backward, t.vreg (coreNo w.bed.val w.core.val) i.dst l =
      BitVec.ofNat 32 (f (s.source w i i.a l) (s.source w i i.b l) (s.source w i i.c l))) ∧
    (∀ n r l, n ≠ coreNo w.bed.val w.core.val ∨ r ≠ i.dst ∨ l ∉ s.lanes w.bed.val w.core.val w.backward → t.vreg n r l = s.vreg n r l) ∧
    t.cores.scalars = s.cores.scalars ∧ t.cores.lstore = s.cores.lstore ∧ t.mem = s.mem ∧ t.pw = s.pw

/-- The vector instruction also leaves every register field and every bed as they were: none of its results raises a flag (R76). -/
def vectorQuiet (c : Instr) (s : State) : Prop := ∀ t : State, exec c s = .next t → t.regs = s.regs ∧ t.beds = s.beds

end Sys2Proof.Machine
end

