-- ==== Sys2Proof/Certificates/Slice0/Obligations.lean ====
section
/-! DEFINITION. The statements for the provers: what each command of the block does, by the rules of the manual that each names. -/

open Sys2Proof Sys2Proof.Machine

/-- A step carries out the command at the front of the queue, with the queue's rest. -/
def Obligations.StepRunsFront : Prop :=
  ∀ (c : Instr) (rest : List Instr) (s : State), s.pending = c :: rest → step s = exec c { s with pending := rest }

/-- The machine as reset leaves it meets every invariant stated below: the island's accounts (R322, R323), by which whatever counts is attributed to a bed or to UNATTRIBUTED; the canonical form of device memory and of the local stores; a partition count that R16 allows; staging that holds only frame-committed fields of its own page (R32). Which registers reset gives which value is the model's choice where the manual gives none (log 4). -/
def Obligations.ResetKeepsAccounts : Prop :=
  State.reset.Inv ∧ State.reset.mem.wf = true ∧ State.reset.localWf = true ∧ State.reset.partsLegal ∧ State.reset.stagingLegal

/-- Every step keeps the island's accounts (R322, R323): after any command, from any state whose counted energy is the sum of the beds' shares and UNATTRIBUTED, it still is, in the present and in the committed registers; and a step takes one command from the queue and adds none. -/
def Obligations.StepKeepsAccounts : Prop :=
  (∀ (s t : State), step s = .next t → s.Inv → t.Inv) ∧ (∀ (s t : State), step s = .next t → t.pending = s.pending.tail)

/-- Every step keeps device memory and the local stores in canonical form (R113, R170): addresses strictly rising, and in memory no listed byte that equals what an unlisted address reads as, so that equal memories are equal data. The form itself is the model's (log 6). -/
def Obligations.StepKeepsMemoryForms : Prop :=
  (∀ (s t : State), step s = .next t → s.mem.wf = true → t.mem.wf = true) ∧
  (∀ (s t : State), step s = .next t → s.localWf = true → t.localWf = true)

/-- Every step keeps the staging sets legal (R32, R34): each staged value is one of a frame-committed field of the page whose set holds it, and a page has one set of staging sets; with legal staging every step keeps a partition count that R16 allows, 1, 2, 4 or 8. -/
def Obligations.StepKeepsStagingAndParts : Prop :=
  (∀ (s t : State), step s = .next t → s.stagingLegal → t.stagingLegal) ∧
  (∀ (s t : State), step s = .next t → s.stagingLegal → s.partsLegal → t.partsLegal)

/-- The device's partitions (R16): 1, 2, 4 or 8 of equal size, each with the beds of the manual's table; there are no other groupings. -/
def Obligations.PartitionTable : Prop :=
  ∀ (s : State), s.partsLegal → (s.partCount = 1 ∨ s.partCount = 2 ∨ s.partCount = 4 ∨ s.partCount = 8) ∧
    (∀ q, (s.partBeds q).length = if q < s.partCount then 8 / s.partCount else 0) ∧
    (s.partCount = 1 → s.partBeds 0 = [0, 1, 2, 3, 4, 5, 6, 7]) ∧
    (s.partCount = 2 → s.partBeds 0 = [0, 1, 2, 3] ∧ s.partBeds 1 = [4, 5, 6, 7]) ∧
    (s.partCount = 4 → s.partBeds 0 = [0, 1] ∧ s.partBeds 1 = [2, 3] ∧ s.partBeds 2 = [4, 5] ∧ s.partBeds 3 = [6, 7]) ∧
    (s.partCount = 8 → ∀ b < 8, s.partBeds b = [b])

/-- F4 quantisation of a quotient y (R45): the code's value is the nearest of the table, a tie between two values goes to the code whose bit 0 is 0, a zero result is code 0 whatever the sign, and a magnitude above 6 becomes 6 with its sign and counts as a saturation. A block's elements are so quantised with y = x ÷ T over its scale. -/
def Obligations.F4Rounding : Prop :=
  (∀ (s x rnd : Nat), s ≠ 0 → encodeElem fmtF4 s x rnd = f4Enc (Q.div (valF x) (ue5m3 s))) ∧
  (∀ (y : Q), 0 < y.den → (f4Enc y).1 < 16 ∧ (f4Enc y).1 ≠ 8 ∧
    (∀ k < 16, k ≠ 8 → Q.le (Q.sub y (f4Val (f4Enc y).1)).abs (Q.sub y (f4Val k)).abs = true) ∧
    (∀ k < 16, k ≠ 8 → Q.le (Q.sub y (f4Val k)).abs (Q.sub y (f4Val (f4Enc y).1)).abs = true → k ≠ (f4Enc y).1 → (f4Enc y).1 % 2 = 0) ∧
    ((f4Val (f4Enc y).1).isZero = true → (f4Enc y).1 = 0) ∧
    ((f4Enc y).2 = true ↔ Q.lt ⟨6, 1⟩ y.abs = true) ∧
    (Q.lt ⟨6, 1⟩ y = true → (f4Enc y).1 = 7) ∧ (Q.lt y ⟨-6, 1⟩ = true → (f4Enc y).1 = 15))

/-- BAR0_BAD_ACCESS, BAR0_UNIMPLEMENTED_ACCESS, DIRECTORY_WRITE, MIRROR_WRITE, INACTIVE_PAGE_WRITE (R25, R26, R29, R107, R330, R350, R390): while BARs are answered each such access leaves one event record and, if it reads, data 0; a write changes no register. LOW_WORD_READ (R25, R27): the low word of a register wider than 32 bits reads and latches its high word in the same access; the high word reads as latched; a 32-bit register simply reads. DEVICE_TIME at 0x100 of the globals is such a register (R133); a 64-bit read takes it whole. Which page names an access outside every page is the model's choice (log 63), and so is that a high word read before any low word shows the register as it stands (log 74). -/
def Obligations.BadAccessesAndWideReads : Prop :=
  ((∀ (off size : Nat) (w : Bool) (s : State), s.barUp = true → ¬((size = 4 ∨ size = 8) ∧ off % size = 0) →
    exec (.badAccess off size w) s = .next (if w then s.common pgGlobals 0xF5 (leBytes 4 off ++ leBytes 4 size)
      else (s.common pgGlobals 0xF5 (leBytes 4 off ++ leBytes 4 size)).answer 0)) ∧
  (∀ (off size : Nat) (s : State), s.barUp = true → (size = 4 ∨ size = 8) → off % size = 0 → s.pageAt off = none →
    exec (.unimplementedAccess off size false) s = .next ((s.common pgGlobals 0xF5 (leBytes 4 off ++ leBytes 4 size)).answer 0)) ∧
  (∀ (off size : Nat) (s : State), s.barUp = true → (size = 4 ∨ size = 8) → off % size = 0 → s.pageAt off = none → ∃ q : Page,
    exec (.unimplementedAccess off size true) s = .next (s.common q 0xF5 (leBytes 4 off ++ leBytes 4 size)) ∧
    ((off < 0x18000 ∨ 0x20000 ≤ off) → q = pgGlobals)) ∧
  (∀ (off size value : Nat) (s : State), s.barUp = true → (size = 4 ∨ size = 8) → off % size = 0 → 0x1000 ≤ off → off < 0x10000 →
    exec (.directoryWrite off size value) s = .next (s.common ⟨.pageDirectory, 0⟩ 0xF5 (leBytes 4 off ++ leBytes 4 size))) ∧
  (∀ (off size value : Nat) (s : State), s.barUp = true → (size = 4 ∨ size = 8) → off % size = 0 → off < 0x1000 →
    exec (.mirrorWrite off size value) s = .next (s.record 0x1040 pgMirror (leBytes 4 (0x3C00000 + off) ++ leBytes 4 value))) ∧
  (∀ (b : Bed) (off size : Nat) (s : State), s.barUp = true → (size = 4 ∨ size = 8) → off % size = 0 → off < 0x1000 →
    s.partFirst (s.partOf b.val) ≠ b.val →
    exec (.inactivePageWrite b off size) s =
      .next (s.common (pgLayer b.val) 0xF5 (leBytes 4 (0x18000 + 0x1000 * b.val + off) ++ leBytes 4 size)))) ∧
  ((∀ (off o : Nat) (p : Page) (s : State), s.barUp = true → off % 4 = 0 → s.pageAt off = some (p, o) →
    p ≠ pgRec → p ≠ pgPower → p.kind ≠ .pageDirectory → inWindow p o = false →
    exec (.lowWordRead off 4) s = .next (
      if highWord p.kind o then s.answer (s.latches.get ⟨p, o - 4, 0⟩ (s.regValue p (o - 4) / 2 ^ 32))
      else if wideAt p.kind o then
        { s with latches := s.latches.put ⟨p, o, 0⟩ (s.regValue p o / 2 ^ 32) }.answer (s.regValue p o % 2 ^ 32)
      else s.answer (s.regValue p o % 2 ^ 32))) ∧
  (∀ (s : State), s.barUp = true →
    exec (.lowWordRead 0x100 4) s = .next (
      { s with latches := s.latches.put ⟨pgGlobals, 0x100, 0⟩ (s.time.now % 2 ^ 64 / 2 ^ 32) }.answer (s.time.now % 2 ^ 32)) ∧
    exec (.lowWordRead 0x100 8) s = .next (
      { s with latches := s.latches.put ⟨pgGlobals, 0x100, 0⟩ (s.time.now % 2 ^ 64 / 2 ^ 32) }.answer (s.time.now % 2 ^ 64))))

/-- CNT_CLR, COMMIT, ABORT, PAGE_LOCK on any page with a head (R31, R32, R33, R38): the error counters are cleared; the open set begins to wait, for no tick where the block is stopped or its tick's bed does not run, or is dropped; the page is locked and its open set dropped. Writes that are refused leave their status bit and one record with offset and value (R34, R37, R153, R185, R350, R389): a third COMMIT, CNT_CLR of a locked page, ENC_CTL by the host, CTL.RUN of a bed written 1. -/
def Obligations.HeadCommandsAndRefusals : Prop :=
  (∀ (p : Page) (s : State), s.isPage p = true → p.kind ≠ .mirror → p.kind ≠ .pageDirectory → s.barUp = true →
    (s.flag p .LOCKED = false → exec (.cntClr p) s = .next ((s.put p .ERR_CORR 0).put p .ERR_UNCORR 0)) ∧
    (s.flag p .LOCKED = false → (s.stagingOf p).waiting.length < 2 → exec (.commit p) s =
      .next (s.setStaging p ⟨[], (s.stagingOf p).waiting ++ [((s.stagingOf p).openSet, b2n (s.inGuard p))],
        if s.running p = false ∨ s.tickBed p = none then (s.stagingOf p).waiting.length + 1 else (s.stagingOf p).due⟩)) ∧
    (s.flag p .LOCKED = false → exec (.abort p) s = .next (s.setStaging p { s.stagingOf p with openSet := [] })) ∧
    exec (.pageLock p) s = .next ((s.setStaging p { s.stagingOf p with openSet := [] }).put p .LOCKED 1)) ∧
  ((∀ (p : Page) (s : State), s.isPage p = true → p.kind ≠ .mirror → p.kind ≠ .pageDirectory → s.barUp = true → s.flag p .LOCKED = false →
    2 ≤ (s.stagingOf p).waiting.length →
    exec (.commit p) s = .next ((s.put p .STATE_ERR 1).common p 0xF4 (leBytes 1 (s.stagingOf p).waiting.length))) ∧
  (∀ (p : Page) (s : State), s.isPage p = true → p.kind ≠ .mirror → p.kind ≠ .pageDirectory → s.barUp = true → s.flag p .LOCKED = true →
    exec (.cntClr p) s = .next ((s.put p .LOCK_ERR 1).common p 0xF3
      (leBytes 4 (pageBase p + 8) ++ leBytes 4 (s.heldValue p ⟨p, .RUN, 0⟩ + 2 * s.heldValue p ⟨p, .TRAP_EN, 0⟩ + 4)))) ∧
  (∀ (b : Bed) (s : State), s.barUp = true → s.get (pgBridge b.val) .ENC_EN = 0 →
    exec (.encCtlWrite .host b true) s = .next ((s.put (pgBridge b.val) .AUTH_ERR 1).common (pgBridge b.val) 0xF2
      (leBytes 4 (pageBase (pgBridge b.val) + 0x048) ++ leBytes 4 1))) ∧
  (∀ (b : Bed) (s : State), s.barUp = true → s.flag (pgBed b.val) .LOCKED = false → s.get (pgBed b.val) .RUN = 0 →
    exec (.runWriteIgnored b) s = .next (s.record 0x0442 (pgBed b.val))))

/-- REGISTER_WRITE (R4, R5, R27, R31, R32, R132, R389): a live RW field takes its new value at once, a staged one enters the page's open set, a write that changes no field changes nothing. EVT_EN of any page with a head is live; HOST_BUDGET of a bridge's regulator page is staged. Of a W1C field exactly the bits written 1 are cleared (EVT, ERR_CAP.VALID, a core's FLAGS), of a W1S field a 1 sets it with its effect (LOCK) and a 0 does nothing. STAGING_SET_FLUSH, CORE_WINDOW_ACCESS (R33, R39): the waiting sets for which no tick is to come take effect in commit order; the window shows the selected core's subpage, and while BAD_SEL is 1 every access leaves one record, a read answers 0. -/
def Obligations.FieldWritesFlushAndWindow : Prop :=
  ((∀ (off v : Nat) (p : Page) (s : State), s.barUp = true → off % 4 = 0 → s.pageAt off = some (p, 0x014) → p.kind ≠ .mirror →
    p.kind ≠ .pageDirectory → v < 2 ^ 32 → v ≠ s.get p .EVT_EN % 2 ^ 32 →
    exec (.registerWrite .host off 4 v) s = .next (s.put p .EVT_EN v)) ∧
  (∀ (off : Nat) (p : Page) (s : State), s.barUp = true → off % 4 = 0 → s.pageAt off = some (p, 0x014) → p.kind ≠ .mirror →
    p.kind ≠ .pageDirectory → exec (.registerWrite .host off 4 (s.get p .EVT_EN % 2 ^ 32)) s = .next s) ∧
  (∀ (b : Bed) (v : Nat) (s : State), s.barUp = true → s.flag (pgReg b.val) .LOCKED = false → v < 2 ^ 24 →
    v ≠ s.heldValue (pgReg b.val) ⟨pgReg b.val, .HOST_BUDGET, 0⟩ →
    exec (.registerWrite .host (0x2002040 + 0x100000 * b.val) 4 v) s = .next (s.stage (pgReg b.val) ⟨pgReg b.val, .HOST_BUDGET, 0⟩ v)) ∧
  (∀ (off v : Nat) (p : Page) (s : State), s.barUp = true → off % 4 = 0 → s.pageAt off = some (p, 0x010) → p.kind ≠ .mirror →
    p.kind ≠ .pageDirectory → v < 2 ^ 32 → s.flag p .LOCKED = false → exec (.registerWrite .host off 4 v) s =
    .next (if v = 0 then s else s.put p .EVT (s.get p .EVT - (s.get p .EVT &&& v)))) ∧
  (∀ (off v : Nat) (p : Page) (s : State), s.barUp = true → off % 4 = 0 → s.pageAt off = some (p, 0x018) → p.kind ≠ .mirror →
    p.kind ≠ .pageDirectory → v < 2 ^ 32 → s.flag p .LOCKED = false → exec (.registerWrite .host off 4 v) s =
    .next (if bitAt v 31 then s.put p .CAP_VALID (s.get p .CAP_VALID - (s.get p .CAP_VALID &&& 1)) else s)) ∧
  (∀ (b : Bed) (v : Nat) (q : Page) (s : State), s.barUp = true → s.windowPage b.val = some q → q.kind = .coreSub0 →
    s.flag ⟨.coreWindow, b.val⟩ .LOCKED = false → v < 16 → exec (.coreWindowAccess b 0x800 4 (some v)) s =
    .next (if v = 0 then s else s.put q .CORE_FLAGS (s.get q .CORE_FLAGS - (s.get q .CORE_FLAGS &&& v)))) ∧
  (∀ (off : Nat) (p : Page) (s : State), s.barUp = true → off % 4 = 0 → s.pageAt off = some (p, 0x028) → p.kind ≠ .mirror →
    p.kind ≠ .pageDirectory → s.flag p .LOCKED = false → exec (.registerWrite .host off 4 0) s = .next s ∧
    exec (.registerWrite .host off 4 1) s = .next ((s.setStaging p { s.stagingOf p with openSet := [] }).put p .LOCKED 1))) ∧
  ((∀ (p : Page) (s : State), p.kind ≠ .powerMgmt →
    exec (.stagingSetFlush p) s = .next (((s.stagingOf p).waiting.take (s.stagingOf p).due).foldl (fun t w => t.applySet p w.1)
      (s.setStaging p { s.stagingOf p with waiting := (s.stagingOf p).waiting.drop (s.stagingOf p).due, due := 0 }))) ∧
  (∀ (s : State), s.lowestRunning = none → exec (.stagingSetFlush pgPower) s = .next ((s.flushPage pgPower).takePlan.setClock)) ∧
  (∀ (b : Bed) (off size : Nat) (s : State), s.barUp = true → 0x800 ≤ off → off < 0x1000 → (size = 4 ∨ size = 8) → off % size = 0 →
    s.windowPage b.val = none →
    exec (.coreWindowAccess b off size none) s = .next ((s.common ⟨.coreWindow, b.val⟩ 0xF5
      (leBytes 4 (0x10FF000 + 0x100000 * b.val + off) ++ leBytes 4 size)).answer 0) ∧
    ∀ v, exec (.coreWindowAccess b off size (some v)) s = .next (s.common ⟨.coreWindow, b.val⟩ 0xF5
      (leBytes 4 (0x10FF000 + 0x100000 * b.val + off) ++ leBytes 4 size))) ∧
  (∀ (b : Bed) (off : Nat) (q : Page) (s : State), s.barUp = true → 0x800 ≤ off → off < 0x1000 → off % 4 = 0 →
    s.windowPage b.val = some q → highWord q.kind (off - 0x800) = false → wideAt q.kind (off - 0x800) = false →
    exec (.coreWindowAccess b off 4 none) s = .next (s.answer (s.regValue q (off - 0x800) % 2 ^ 32))))

/-- CTL.RUN (R31, R153, R192, R221, R245): on a page without own handling 1 starts the block, and 0 stops it at once where no bed's frame is to end; a bed that runs finishes its frame, a port goes to electrical idle or trains, a bridge stops while every bed of its partition is IDLE and refuses otherwise. What such a block's RUNNING starts and stops is the model's choice (log 18). -/
def Obligations.RunWrites : Prop :=
  (∀ (p : Page) (run : Bool) (s : State), s.isPage p = true →
    p.kind ∉ [PageKind.pageDirectory, .bedSequencer, .port, .bridge, .keeper, .recorder, .mirror, .powerMgmt] → s.barUp = true →
    s.flag p .LOCKED = false → s.get p .RUN = 1 - b2n run → (run = true ∨ s.tickBed p = none) →
    exec (.ctlRunWrite .host p run) s =
      .next ({ s.put p .RUN (b2n run) with
        stops := s.stops.filter (· != p)
        halted := (if run then [] else [p]) ++ s.halted.filter (· != p) }.put p .RUNNING (b2n run))) ∧
  (∀ (b : Bed) (s : State), s.barUp = true → s.flag (pgBed b.val) .LOCKED = false → s.get (pgBed b.val) .RUN = 1 →
    (s.seq b.val = seqRunning ∨ s.seq b.val = seqPaused) →
    exec (.bedRunStop b) s = .next (((s.setBed b.val { s.bed b.val with stopping := true }).askUnits b.val).put (pgBed b.val) .RUN 0)) ∧
  (∀ (b : Bed) (s : State), s.barUp = true → s.flag (pgBridge b.val) .LOCKED = false → s.get (pgBridge b.val) .RUN = 1 →
    (∀ c ∈ s.partBeds (s.partOf b.val), s.seq c = seqIdle) →
    exec (.bridgeRunStop b) s = .next (s.put (pgBridge b.val) .RUN 0)) ∧
  (∀ (b : Bed) (s : State), s.barUp = true → s.flag (pgBridge b.val) .LOCKED = false → s.get (pgBridge b.val) .RUN = 1 →
    (∃ c ∈ s.partBeds (s.partOf b.val), s.seq c ≠ seqIdle) →
    exec (.bridgeRunStop b) s = .next ((s.put (pgBridge b.val) .STATE_ERR 1).common (pgBridge b.val) 0xF1
      (leBytes 4 (pageBase (pgBridge b.val) + 8) ++ leBytes 4 (2 * s.heldValue (pgBridge b.val) ⟨pgBridge b.val, .TRAP_EN, 0⟩)))) ∧
  (∀ (q : Port) (s : State), s.barUp = true → s.flag (pgPort q.val) .LOCKED = false → s.get (pgPort q.val) .RUN = 0 →
    exec (.portRunWrite q true) s = .next (((s.put (pgPort q.val) .RUN 1).put (pgPort q.val) .PORT_FENCED 0).train q.val)) ∧
  (∀ (q : Port) (s : State), s.barUp = true → s.flag (pgPort q.val) .LOCKED = false → s.get (pgPort q.val) .RUN = 1 →
    s.seq (q.val / 2) = seqIdle →
    exec (.portRunWrite q false) s = .next ((s.put (pgPort q.val) .RUN 0).portDown q.val 0))

/-- PART_CFG_WRITE, BR_MAP_WRITE, ENC_CTL_WRITE, LAYER_STATE_WRITE, GROUP_WORD_WRITE (R5, R19, R107, R185, R192, R198): each stores its field; a change of a layer's STATE restarts STEPS_IN_STATE and is its last switch; a change of the map makes a bridge's memory undefined, and unloads the armatures whose region lies there (log 76), a change of ENC_EN by the security owner starts a full scrub, a change of the partition count makes the partitions new and clears every bed's origin. -/
def Obligations.ConfigurationWrites : Prop :=
  (∀ (v : Nat) (s : State), s.barUp = true → v < 4 → v ≠ s.get pgGlobals .PART_LOG2 % 4 → s.flag pgGlobals .LOCKED = false →
    s.anyBedRuns = false → s.anyOpen = false → exec (.partCfgWrite .host v) s = .next (s.setParts v)) ∧
  (∀ (v : Nat) (s : State), v < 4 → (s.setParts v).get pgGlobals .PART_LOG2 = v ∧ (s.setParts v).parts = [] ∧
    ∀ b < 8, ((s.setParts v).bed b).origin = false ∧ (s.setParts v).get (pgBed b) .ORIGIN_TIME = 0 ∧
      (s.setParts v).get (pgBed b) .ORIGIN_FRAME = 0) ∧
  (∀ (b : Bed) (v : Nat) (s : State), s.barUp = true → v ≤ 144 → v % 4 = 0 → v ≠ s.get (pgBridge b.val) .LOCAL_GIB % 256 →
    s.flag (pgBridge b.val) .LOCKED = false → s.running (pgBridge b.val) = false → ∀ u : State,
    u = (s.setMem (s.mem.forget b.val)).put (pgBridge b.val) .LOCAL_GIB v →
    exec (.brMapWrite b v) s = .next (if u.partFirst (u.partOf b.val) = b.val then u.unloadAll (u.partOf b.val) else u)) ∧
  (∀ (b : Bed) (s : State), s.get (pgBridge b.val) .ENC_EN = 0 →
    exec (.encCtlWrite .securityOwner b true) s = .next ((s.put (pgBridge b.val) .ENC_EN 1).startScrub b.val)) ∧
  (∀ (b : Bed) (v : Nat) (s : State), s.barUp = true → s.partFirst (s.partOf b.val) = b.val → v < 3 →
    s.get (pgLayer b.val) .LAYER_MODE (s.get (pgLayer b.val) .LAYER_SEL) = 0 → s.flag (pgLayer b.val) .LOCKED = false →
    s.running (pgLayer b.val) = false →
    v ≠ s.get (pgLayer b.val) .LAYER_ST (s.get (pgLayer b.val) .LAYER_SEL) % 4 →
    exec (.layerStateWrite b v) s = .next (((s.put (pgLayer b.val) .LAYER_ST v (s.get (pgLayer b.val) .LAYER_SEL)).put (pgLayer b.val)
      .STEPS_IN_STATE 0 (s.get (pgLayer b.val) .LAYER_SEL)).put (pgLayer b.val) .LAST_SWITCH_STEP
      (s.get (pgBed (s.leadBed (s.partOf b.val))) .STEP_CNT) (s.get (pgLayer b.val) .LAYER_SEL))) ∧
  (∀ (u : Stack) (w : Fin 8) (v : Nat) (s : State), s.barUp = true → s.flag (pgUnit u.val) .LOCKED = false → v < 2 ^ 32 →
    s.lowUnit u.val = pgUnit u.val →
    v ≠ s.heldValue (pgUnit u.val) ⟨pgUnit u.val, .GROUP_WORD, 8 * s.get (pgUnit u.val) .GROUP_SEL + w.val⟩ →
    exec (.groupWordWrite u w v) s =
      .next (s.stage (pgUnit u.val) ⟨pgUnit u.val, .GROUP_WORD, 8 * s.get (pgUnit u.val) .GROUP_SEL + w.val⟩ v))

/-- FREEZE, UNFREEZE, FREEZE_EFFECTIVE, FREEZE_TIMEOUT, RECORD_READ (R346, R347, R351): a freeze is asked for, takes effect between batches, ends by UNFREEZE or after its time with record 0x0003; reading RECORD_15 marks a stored protected slot READ. OP_SECOND, HOURS, REPEAT_SECOND (R340, R344): a second outside Off is counted and taken off the time that has accumulated; 3,600 of them without another batch give record 0x0005; a new second begins for every limit of records, after one REPEAT record for each suppressed pair. -/
def Obligations.RecorderFreezeAndSeconds : Prop :=
  ((∀ (s : State), s.barUp = true → s.flag pgRec .LOCKED = false → s.flag pgRec .FROZEN = false →
    exec .freeze s = .next { s with evr := { s.evr with freezeAsked := true } }) ∧
  (∀ (s : State), s.barUp = true → s.flag pgRec .LOCKED = false → s.flag pgRec .FROZEN = true → exec .freeze s = .next s) ∧
  (∀ (s : State), s.barUp = true → s.flag pgRec .LOCKED = false →
    exec .unfreeze s = .next (({ s with evr := { s.evr with freezeAsked := false } }.put pgRec .FROZEN 0).put pgRec .FREEZE 0)) ∧
  (∀ (s : State), s.evr.freezeAsked = true → s.flag pgRec .STORING = false →
    exec .freezeEffective s = .next (({ s with evr := { s.evr with freezeAsked := false } }.put pgRec .FROZEN 1).put pgRec .FREEZE 1)) ∧
  (∀ (s : State), s.flag pgRec .FROZEN = true → exec .freezeTimeout s = .next
    ((((({ s with evr := { s.evr with freezeAsked := false } }.put pgRec .FROZEN 0).put pgRec .FREEZE 0)).evt pgRec 2).record 0x0003 pgRec)) ∧
  (∀ (s : State), s.barUp = true → ∃ t, exec .recordRead s = .next t ∧
    t.out.rdata = fieldAt (s.slotBytes (s.get pgRec .SLOT_SEL)) 60 4 ∧
    (∀ r, 16384 ≤ s.get pgRec .SLOT_SEL → Tab.find? s.evr.slots (s.get pgRec .SLOT_SEL) = some r → s.get pgRec .SLOT_SEL ∈ t.evr.readMarks) ∧
    { t with out := s.out, evr := { t.evr with readMarks := s.evr.readMarks } } = s)) ∧
  ((∀ (s : State), s.pw.keeperOn = true → s.pw.power ≠ .off → exec .opSecond s =
    .next ({ s with evr := { s.evr with sinceBatch := s.evr.sinceBatch + 1, opNs := s.evr.opNs - 1000000000 } }.bump pgRec .OP_SECONDS)) ∧
  (∀ (s : State), 3600 ≤ s.evr.sinceBatch → (∀ r ∈ s.evr.queueGen, r.code ≠ 0x0005) → exec .hours s = .next (s.record 0x0005 pgRec)) ∧
  (∀ (s : State), ∃ t, exec .repeatSecond s = .next t ∧ t.evr.perSecond = [] ∧ t.mem = { s.mem with denyCount := [] } ∧
    ((∀ e ∈ s.evr.perSecond, e.2 ≤ 64) → t.evr.queueGen = s.evr.queueGen) ∧
    (∀ l, l = s.evr.perSecond.filter (fun e => decide (64 < e.2)) → s.evr.queueGen.length + l.length ≤ 4096 →
      s.get pgRec .NEXT_SEQ + l.length < 2 ^ 64 → ∃ rs, t.evr.queueGen = s.evr.queueGen ++ rs ∧ rs.length = l.length ∧
      t.get pgRec .NEXT_SEQ = s.get pgRec .NEXT_SEQ + l.length ∧
      ∀ i r e, rs[i]? = some r → l[i]? = some e → r.code = 0x0006 ∧ r.source = pageSource pgRec ∧ r.seq = s.get pgRec .NEXT_SEQ + i ∧
        r.payload = leBytes 4 e.1.1 ++ leBytes 2 e.1.2 ++ [0, 0] ++ leBytes 4 (e.2 - 64) ++ List.replicate 18 0)))

/-- What an event leaves (R31, R337, R340, R343, R349): while the keeper is powered, with fewer than 64 events of the pair in this second and a free place, a general record enters the queue's end with the next SEQ, carrying code, page, frame and payload, and the page's ERR_CAP holds it if it is an error and the first since VALID was cleared. -/
def Obligations.EventRecordsAreQueued : Prop :=
  ∀ (s : State) (code : Nat) (p : Page) (pay : List Byte), s.pw.keeperOn = true → protectedCode code = false →
    s.evr.perSecond.get (pageSource p, code) 0 < 64 → s.evr.queueGen.length < 4096 → p ≠ pgRec → pay.length ≤ 30 →
    (s.record code p pay).evr.queueGen = s.evr.queueGen ++ [{ s.mkRecord code p pay (s.pageFrame p) with seq := s.get pgRec .NEXT_SEQ }] ∧
    (s.record code p pay).get pgRec .NEXT_SEQ = (s.get pgRec .NEXT_SEQ + 1) % 2 ^ 64 ∧
    (s.record code p pay).evr.queueProt = s.evr.queueProt ∧ (s.record code p pay).evr.slots = s.evr.slots ∧
    (s.flag p .CAP_VALID = false → noticeCode code = false → code < 65536 →
      (s.record code p pay).get p .CAP_CODE = code ∧ (s.record code p pay).get p .CAP_VALID = 1 ∧
      (s.record code p pay).get p .CAP_FRAME_LO = s.pageFrame p % 4096) ∧
    (s.flag p .CAP_VALID = true → (s.record code p pay).get p .CAP_CODE = s.get p .CAP_CODE) ∧
    (s.mkRecord code p pay (s.pageFrame p)).code = code ∧ (s.mkRecord code p pay (s.pageFrame p)).source = pageSource p ∧
    (s.mkRecord code p pay (s.pageFrame p)).frame = s.pageFrame p ∧ (s.mkRecord code p pay (s.pageFrame p)).payload.take pay.length = pay

/-- HOLDUP_SAMPLE, DURABLE_STORE_START, DURABLE_STORE_RETRY, DURABLE_STORE_COMPLETE, EVENT_BATCH_STORE (R317, R340, R343): the last four samples are kept; a store that waits begins if the energy covers its worst case and the 40 mJ reserve, and is counted as HOLDUP_LOW otherwise; one in progress completes; a batch is taken while its records keep their places, and its store writes them and the counters, with the milliseconds of the second that has begun. -/
def Obligations.DurableStores : Prop :=
  (∀ (mv : Nat) (s : State), s.pw.keeperOn = true → ∃ t, exec (.holdupSample mv) s = .next t ∧
    t.pw.samples = (mv :: s.pw.samples).take 4 ∧ t.pw.settle = s.pw.settle - 1 ∧
    t.get pgKeeper .HOLDUP_V = isqrt t.holdV2 % 65536 ∧ t.get pgKeeper .HOLDUP_E = min t.holdE 65535 ∧
    { t with pw := s.pw, regs := s.regs } = s) ∧
  (∀ (k : Fin 4) (s : State), s.pw.keeperOn = true → s.flag pgKeeper .STORE_ACTIVE = false → s.storeWaits k.val = true →
    storeCost k.val + 40 ≤ s.holdE → k.val ≠ 0 →
    exec (.durableStoreStart k) s = .next ((s.put pgKeeper .STORE_ACTIVE 1).put pgKeeper .STORE_KIND k.val)) ∧
  (∀ (k : Fin 4) (s : State), s.pw.keeperOn = true → s.flag pgKeeper .STORE_ACTIVE = false → s.storeWaits k.val = true →
    s.holdE < storeCost k.val + 40 → k.val ≠ 0 → bitAt (s.get pgKeeper .EVT) 0 = false →
    exec (.durableStoreStart k) s = .next ((s.bump pgKeeper .HOLDUP_LOW_CNT).raise pgKeeper 0)) ∧
  (∀ (k : Fin 4) (s : State), s.pw.keeperOn = true → s.flag pgKeeper .STORE_ACTIVE = false → s.storeWaits k.val = true →
    storeCost k.val + 40 ≤ s.holdE → k.val ≠ 0 → bitAt (s.get pgKeeper .EVT) 0 = true →
    exec (.durableStoreRetry k) s = .next ((s.put pgKeeper .STORE_ACTIVE 1).put pgKeeper .STORE_KIND k.val)) ∧
  (∀ (s : State), s.pw.keeperOn = true → s.flag pgKeeper .STORE_ACTIVE = false → s.nextBatch ≠ [] → 160 ≤ s.holdE →
    exec (.durableStoreStart 0) s = .next (((s.takeBatch.beginStore 0).put pgRec .STORING 1).put pgRec .WAIT_HOLDUP 0) ∧
    s.takeBatch = { s with evr := { s.evr with batch := s.nextBatch } }) ∧
  (∀ (s : State), s.flag pgKeeper .STORE_ACTIVE = true → s.get pgKeeper .STORE_KIND = 2 → ∃ t, exec .durableStoreComplete s = .next t ∧
    t.pw.trim = s.get pgPower .TRIM_STEPS ∧ t.get pgKeeper .STORE_ACTIVE = 0 ∧ t.pw.trimWaiting = false ∧ t.pw.settle = 4 ∧
    t.pw.deduct = s.holdV2 - ceilDiv 40000000 (max 1 (s.get pgKeeper .HOLDUP_CAP)) ∧ { t with pw := s.pw, regs := s.regs } = s) ∧
  (∀ (s : State), s.flag pgKeeper .STORE_ACTIVE = true → s.get pgKeeper .STORE_KIND = 0 → s.evr.batch ≠ [] →
    exec .eventBatchStore s = .next s.writeBatch) ∧
  (∀ (r : Record) (s : State), s.evr.batch = [r] → protectedCode r.code = false → r.code ≠ 0x0F01 →
    s.writeBatch.evr.slots.find? (s.get pgRec .GEN_HEAD) = some r ∧ s.writeBatch.evr.storedSeq = max s.evr.storedSeq (r.seq + 1) ∧
    s.writeBatch.evr.storedOp = s.get pgRec .OP_SECONDS ∧ s.writeBatch.evr.storedCycles = s.get pgRec .POWER_CYCLES ∧
    s.writeBatch.evr.storedMs = s.evr.opNs / 1000000 ∧ ∀ x ∈ s.evr.queueGen, x ≠ r → x ∈ s.writeBatch.evr.queueGen)

/-- BAR2_READ, BAR2_WRITE (R170, R294, R312, R357, R358): an access inside the aperture goes to the device address behind it as a class-3 request of the bridge that it reaches, to its own bytes and to the end of its line; one that fails R170 is counted and reads 0 with EP; a host write into a partition with an open session is denied; in a flow fault memory serves none, and the access waits. DOORBELL (R37, R359, R362): the write completes on every unlocked page: TAIL takes its new value and the entries between the old and the new one, decoded from their 32 bytes, wait behind those before them; while the queue is enabled, the endpoint runs and fewer than four descriptors are in flight they begin in ring order, each fetched from its place in the ring, and a queue that is not enabled begins none. A locked page discards the write. That an access waits and is not refused in a flow fault is the model's choice (log 98). -/
def Obligations.HostAccesses : Prop :=
  ((∀ (off : Nat) (err : LineErr) (s : State), off < 2 ^ 36 → s.barUp = true → s.hostWaits = false →
    s.hostFaulty (s.get pgPcie .APERTURE_PART) (s.apertureAddr off) = false →
    ∀ r, r = s.readLine (hostReq (s.apertureAddr off)) err true →
    exec (.bar2Read off err) s = .next (r.1.answer (if r.2.2 then 0 else leNat (r.2.1.drop (s.apertureAddr off % 64))) r.2.2)) ∧
  (∀ (off : Nat) (err : LineErr) (s : State), off < 2 ^ 36 → s.barUp = true → s.hostWaits = false →
    s.hostFaulty (s.get pgPcie .APERTURE_PART) (s.apertureAddr off) = true →
    exec (.bar2Read off err) s = .next ((s.countFault (s.apertureAddr off)).answer 0 true)) ∧
  (∀ (off : Nat) (data : List Byte) (ep : Bool) (s : State), off < 2 ^ 36 → s.barUp = true → s.hostWaits = false →
    exec (.bar2Write off data ep) s = .next (
    if s.hostFaulty (s.get pgPcie .APERTURE_PART) (s.apertureAddr off) then s.countFault (s.apertureAddr off)
    else if s.sessionOpen (s.get pgPcie .APERTURE_PART) then s.denyWrite (s.apertureAddr off) 0
    else s.writeLine (hostReq (s.apertureAddr off)) (s.apertureAddr off % 64) (data.take (64 - s.apertureAddr off % 64)) ep)) ∧
  (∀ (off : Nat) (err : LineErr) (data : List Byte) (ep : Bool) (s : State), off < 2 ^ 36 → s.barUp = true → s.hostWaits = true →
    exec (.bar2Read off err) s = .next (s.hold ⟨s.get pgPcie .APERTURE_PART, s.apertureAddr off, err, none⟩) ∧
    exec (.bar2Write off data ep) s = .next (s.hold ⟨s.get pgPcie .APERTURE_PART, s.apertureAddr off, .none, some (data, ep)⟩)) ∧
  (∀ (w : HostWait) (s : State), s.hold w = { s with host := { s.host with waits := s.host.waits ++ [w] } })) ∧
  ((∀ (q : Queue) (tail : Nat) (descs : List (List Byte)) (s : State), s.barUp = true → s.flag pgPcie .LOCKED = false → ∃ t : State,
    exec (.doorbell q tail descs) s = .next t ∧ t.get pgPcie .DMAQ_TAIL q.val = tail % 2 ^ 12 ∧
    (t.flying q.val).map (·.desc) ++ t.host.ringTail.get q.val [] =
      (s.flying q.val).map (·.desc) ++ s.host.ringTail.get q.val [] ++ (descs.take
      ((tail % 2 ^ 12 % 2 ^ s.get pgPcie .RING_LOG2 q.val + 2 ^ s.get pgPcie .RING_LOG2 q.val -
        s.get pgPcie .DMAQ_TAIL q.val % 2 ^ s.get pgPcie .RING_LOG2 q.val) % 2 ^ s.get pgPcie .RING_LOG2 q.val)).map descOf ∧
    (s.get pgPcie .DMAQ_TAIL q.val ≠ tail % 2 ^ 12 → s.flag pgPcie .DMAQ_EN q.val = true → s.halts pgPcie = false →
      t.host.ringTail.get q.val [] = [] ∨ 4 ≤ (t.flying q.val).length) ∧
    (s.flag pgPcie .DMAQ_EN q.val = false ∨ s.halts pgPcie = true →
      t.host.inFlight = s.host.inFlight ∧ { t with regs := s.regs, host := s.host } = s)) ∧
  (∀ (q : Queue) (tail : Nat) (descs : List (List Byte)) (s : State), s.barUp = true → s.flag pgPcie .LOCKED = true →
    s.get pgPcie .DMAQ_TAIL q.val ≠ tail % 2 ^ 12 → exec (.doorbell q tail descs) s =
    .next ((s.put pgPcie .LOCK_ERR 1).common pgPcie 0xF3 (leBytes 4 (pageBase pgPcie + 0x068) ++ leBytes 4 tail))) ∧
  (∀ (q : Queue) (bytes : List Byte) (s : State), s.barUp = true → s.flag pgPcie .LOCKED = false → s.halts pgPcie = false →
    s.flag pgPcie .DMAQ_EN q.val = true → s.host.ringTail.get q.val [] = [] → s.flying q.val = [] → s.get pgPcie .RING_LOG2 q.val = 4 →
    s.get pgPcie .DMAQ_TAIL q.val = 0 → s.descStatus q.val (descOf bytes) = none → (descOf bytes).op = 1 →
    ∃ t : State, exec (.doorbell q 1 [bytes]) s = .next t ∧ t.flying q.val = [⟨descOf bytes, s.get pgPcie .DMAQ_HEAD q.val, none, 0,
      s.get pgPcie .SEALED_SEQ (s.sealedIdx q.val)⟩] ∧ t.get pgPcie .DMAQ_HEAD q.val = (s.get pgPcie .DMAQ_HEAD q.val + 1) % 16 ∧
    t.out.hostReads = s.out.hostReads ++ [s.get pgPcie .DMAQ_RING q.val * 4096 + 32 * s.get pgPcie .DMAQ_HEAD q.val] ∧
    t.host.ringTail.get q.val [] = [] ∧ t.get pgPcie .DMAQ_IDLE q.val = 0) ∧
  (∀ (bytes : List Byte), (descOf bytes).hostAddr = fieldAt bytes 0 8 ∧ (descOf bytes).devAddr = fieldAt bytes 8 8 ∧
    (descOf bytes).len = fieldAt bytes 16 4 ∧ (descOf bytes).op = fieldAt bytes 20 1 ∧ (descOf bytes).irq = bitAt (fieldAt bytes 21 1) 0 ∧
    (descOf bytes).cookie = fieldAt bytes 24 8 ∧
    ((descOf bytes).rsv = true ↔ fieldAt bytes 21 1 / 2 ≠ 0 ∨ fieldAt bytes 22 2 ≠ 0)))

/-- DMA_HOST_TO_DEVICE, DMA_DEVICE_TO_HOST, DMA_SEALED_WRITE (R294, R312, R359, R361): the oldest unended descriptor of the operation moves its lines and ends OK; unsealed data for a partition with an open session moves nothing and ends NOT_AUTHORISED; sealed data is written only if its tag verifies, else the descriptor ends INTEGRITY; in a flow fault none moves. DMA_COMPLETION, DMA_DESCRIPTOR_TIMEOUT (R351, R360, R362): completions appear in ring order, an unended descriptor keeping those behind it back, with cookie, status, index and bytes in the completion ring, the queue's vector if the descriptor asks for it and DMA_FAIL if it did not end OK; a timeout ends the oldest unended descriptor with TIMEOUT and keeps whole lines that had moved, none of a sealed write, whose tag was not verified. -/
def Obligations.DmaMovesAndEnds : Prop :=
  ((∀ (q : Queue) (data : List Byte) (x : InFlight) (s : State), firstDesc 0 (s.flying q.val) = some x → s.barUp = true → s.hostWaits = false →
    s.sessionOpen (s.queuePart q.val) = false → exec (.dmaHostToDevice q data) s =
      .next ((s.dmaWrite (s.queuePart q.val) x.desc.devAddr (padTo x.desc.len data) false).setFlying q.val
        (endDesc ((s.dmaWrite (s.queuePart q.val) x.desc.devAddr (padTo x.desc.len data) false).flying q.val) x 0 x.desc.len))) ∧
  (∀ (q : Queue) (data : List Byte) (x : InFlight) (s : State), firstDesc 0 (s.flying q.val) = some x → s.barUp = true → s.hostWaits = false →
    s.sessionOpen (s.queuePart q.val) = true → ∃ t : State, exec (.dmaHostToDevice q data) s = .next t ∧ t.mem.cells = s.mem.cells ∧
    t.flying q.val = endDesc (s.flying q.val) x 0x0C 0) ∧
  (∀ (q : Queue) (x : InFlight) (s : State), firstDesc 1 (s.flying q.val) = some x → s.barUp = true → s.hostWaits = false →
    ∃ (t : State) (data : List Byte) (bad : Bool), exec (.dmaDeviceToHost q) s = .next t ∧ (s.dmaRead (s.queuePart q.val) x.desc.devAddr x.desc.len).2 = (data, bad) ∧
    t.out.hostWrites = (s.dmaRead (s.queuePart q.val) x.desc.devAddr x.desc.len).1.out.hostWrites ++ [(x.desc.hostAddr, data)] ∧ t.out.ep = bad ∧
    t.mem = (s.dmaRead (s.queuePart q.val) x.desc.devAddr x.desc.len).1.mem ∧ t.flying q.val = endDesc (s.flying q.val) x 0 x.desc.len) ∧
  (∀ (q : Queue) (cipher tag : List Byte) (x : InFlight) (s : State), firstDesc 2 (s.flying q.val) = some x → s.barUp = true → s.hostWaits = false →
    ∃ t : State, exec (.dmaSealedWrite q cipher tag) s = .next t ∧
    match Config.gcmOpen (s.inKey (s.queuePart q.val)) (x.seq + q.val * 2 ^ 64) (leBytes 8 x.desc.devAddr ++ leBytes 4 x.desc.len ++ leBytes 1 q.val)
      (padTo x.desc.len cipher) tag with
    | none => t.mem = s.mem ∧ t.flying q.val = endDesc (s.flying q.val) x 0x0F 0
    | some plain => t.mem = (s.dmaWrite (s.queuePart q.val) x.desc.devAddr (padTo x.desc.len plain) true).mem ∧
      t.flying q.val = endDesc (s.flying q.val) x 0 x.desc.len) ∧
  (∀ (q : Queue) (data cipher tag : List Byte) (s : State), s.hostWaits = true → exec (.dmaHostToDevice q data) s = .next s ∧
    exec (.dmaDeviceToHost q) s = .next s ∧ exec (.dmaSealedWrite q cipher tag) s = .next s)) ∧
  ((∀ (q : Queue) (x : InFlight) (st : Nat) (s : State), s.flying q.val = [x] → x.status = some st → s.barUp = true →
    s.host.ringTail.get q.val [] = [] → st ≠ 0 → st ≠ 0x0D → x.desc.irq = true → ∃ t : State, exec (.dmaCompletion q) s =
      .next (t.raise pgPcie 0) ∧ t.flying q.val = [] ∧ t.get pgPcie .DMAQ_IDLE q.val = 1 ∧
    t.out.msix = s.out.msix ++ [s.get pgPcie .DMAQ_VECTOR q.val] ∧
    t.out.hostWrites = s.out.hostWrites ++ [(s.get pgPcie .DMAQ_CPL q.val * 4096 + 16 * x.index,
      leBytes 8 x.desc.cookie ++ leBytes 1 st ++ [0] ++ leBytes 2 x.index ++ leBytes 4 x.bytes)]) ∧
  (∀ (q : Queue) (x : InFlight) (s : State), s.flying q.val = [x] → x.status = some 0 → s.barUp = true →
    s.host.ringTail.get q.val [] = [] → x.desc.irq = false → ∃ t : State, exec (.dmaCompletion q) s = .next t ∧ t.flying q.val = [] ∧
    t.out.msix = s.out.msix ∧ t.evr = s.evr ∧
    t.out.hostWrites = s.out.hostWrites ++ [(s.get pgPcie .DMAQ_CPL q.val * 4096 + 16 * x.index, completionBytes x 0)]) ∧
  (∀ (q : Queue) (x : InFlight) (rest : List InFlight) (st : Nat) (s : State), s.flying q.val = x :: rest → x.status = some st → s.barUp = true →
    s.host.ringTail.get q.val [] = [] → ∃ t : State, exec (.dmaCompletion q) s = .next t ∧ t.flying q.val = rest ∧
    t.out.msix = s.out.msix ++ (if x.desc.irq then [s.get pgPcie .DMAQ_VECTOR q.val] else []) ∧
    t.out.hostWrites = s.out.hostWrites ++ [(s.get pgPcie .DMAQ_CPL q.val * 4096 + 16 * x.index, completionBytes x st)]) ∧
  (∀ (q : Queue) (x : InFlight) (rest : List InFlight) (s : State), s.flying q.val = x :: rest → x.status = none →
    exec (.dmaCompletion q) s = .next s) ∧
  (∀ (q : Queue) (moved : List Byte) (x : InFlight) (s : State), s.flying q.val = [x] → x.status = none → s.barUp = true → x.desc.op = 2 →
    ∃ t : State, exec (.dmaDescriptorTimeout q moved) s = .next ((t.evt pgPcie 0).record 0x0C10 pgPcie) ∧ t.mem = s.mem ∧
    t.flying q.val = [{ x with status := some 0x0D, bytes := 0 }]) ∧
  (∀ (q : Queue) (moved : List Byte) (x : InFlight) (s : State), s.flying q.val = [x] → x.status = none → s.barUp = true →
    s.hostWaits = false → x.desc.op = 1 →
    ∃ t : State, exec (.dmaDescriptorTimeout q moved) s = .next ((t.evt pgPcie 0).record 0x0C10 pgPcie) ∧
    t.flying q.val = [{ x with status := some 0x0D, bytes := min (moved.length / 64 * 64) x.desc.len }] ∧
    t.out.hostWrites = (s.dmaRead (s.queuePart q.val) x.desc.devAddr (min (moved.length / 64 * 64) x.desc.len)).1.out.hostWrites ++
      [(x.desc.hostAddr, (s.dmaRead (s.queuePart q.val) x.desc.devAddr (min (moved.length / 64 * 64) x.desc.len)).2.1)] ∧
    t.mem = (s.dmaRead (s.queuePart q.val) x.desc.devAddr (min (moved.length / 64 * 64) x.desc.len)).1.mem))

/-- MBX_GO, MBX_HALT, PCIE_CONFIG_REQUEST, FLR (R41, R356, R364, R369 to R372): a command of 4 to 2,048 bytes in the mailbox runs, whatever its code, and its response stands in MBX_BUF with GO 0 and MBX_DONE raised; another length is BAD_LEN, but NOT_AUTHORISED where the code needs a secured session; a command that finds GO set is BUSY; MBX_HALT on an unlocked page enters Hold at once; a configuration request is answered with its word, BAR0 of 64 MiB and BAR2 of 64 GiB taking their addresses and no other BAR or ROM, or with Request Retry Status once the link is in L0 until boot is done; a function-level reset leaves its registers and configuration space at reset and raises its event. The words of the header are those of the base specification (log 96), and that GO stands until a command ends is the model's reading (log 56). -/
def Obligations.HostPortCommands : Prop :=
  (∀ (s : State), s.barUp = true → s.flag pgPcie .LOCKED = false → s.flag pgPcie .MBX_GO = false → 4 ≤ s.get pgPcie .MBX_LEN → s.get pgPcie .MBX_LEN ≤ 2048 →
    s.reaches .mailbox (rawOf s.mailboxBytes).code (rawOf s.mailboxBytes).part = true → ∃ t : State,
    (s.put pgPcie .MBX_GO 1).runRaw .mailbox (rawOf s.mailboxBytes) = .next t ∧ exec .mbxGo s = .next t.mailboxDone) ∧
  (∀ (s : State), s.barUp = true → s.flag pgPcie .LOCKED = false → s.flag pgPcie .MBX_GO = false → (s.get pgPcie .MBX_LEN < 4 ∨ 2048 < s.get pgPcie .MBX_LEN) →
    (s.get pgPcie .MBX_LEN < 2 ∨ s.securedCode (rawOf s.mailboxBytes).code = false) →
    exec .mbxGo s = .next (((s.put pgPcie .MBX_GO 1).refuse pgCp 0x02 (rawOf s.mailboxBytes).code .mailbox (s.get pgPcie .MBX_LEN)).mailboxDone)) ∧
  (∀ (s : State), s.barUp = true → s.flag pgPcie .LOCKED = false → s.flag pgPcie .MBX_GO = true →
    exec .mbxGo s = .next ((s.reply 0x04).put pgPcie .MBX_STATUS 0x04)) ∧
  (∀ (s : State), s.barUp = true → s.flag pgPcie .LOCKED = false → s.flag pgPcie .MBX_GO = false → 2048 < s.get pgPcie .MBX_LEN →
    s.pw.keeperOn = true → s.pw.recovery = false → s.securedCode (rawOf s.mailboxBytes).code = true → ∃ t : State,
    exec .mbxGo s = .next t ∧ t.get pgPcie .MBX_STATUS = 0x0C ∧ t.get pgPcie .MBX_GO = 0) ∧
  (∀ (s : State), s.mailboxDone.get pgPcie .MBX_GO = 0 ∧ s.mailboxDone.get pgPcie .MBX_STATUS = s.out.status % 256 ∧
    bitAt (s.mailboxDone.get pgPcie .EVT) 1 = true) ∧
  (∀ (s : State), s.barUp = true → s.flag pgPcie .LOCKED = false → exec .mbxHalt s = .next (s.enterHold 0)) ∧
  (∀ (s : State), s.barUp = true → s.flag pgPcie .LOCKED = true → exec .mbxHalt s =
    .next ((s.put pgPcie .LOCK_ERR 1).common pgPcie 0xF3 (leBytes 4 (pageBase pgPcie + 0x078) ++ leBytes 4 2))) ∧
  (∀ (s : State), s.barUp = false → exec .mbxHalt s = .next { s with out := { s.out with rdata := 0, ep := false, ur := true } }) ∧
  (∀ (d : Nat) (s : State), s.barUp = true → exec (.pcieConfigRequest d) s =
    .next { s with out := { s.out with rdata := s.configWord d, ep := false, ur := false, rrs := false } }) ∧
  (∀ (s : State), s.configWord 0 / 2 ^ 16 = 0x3072 ∧ s.configWord 2 / 2 ^ 8 = 0x120000 ∧ s.configWord 8 = 0 ∧ s.configWord 9 = 0 ∧
    s.configWord 10 = 0 ∧ s.configWord 12 = 0) ∧
  (∀ (v : Nat) (s : State), s.barUp = true → ∃ t4 t5 t6 t7 : State, exec (.pcieConfigRequest 4 (some v)) s = .next t4 ∧
    exec (.pcieConfigRequest 5 (some v)) s = .next t5 ∧ exec (.pcieConfigRequest 6 (some v)) s = .next t6 ∧
    exec (.pcieConfigRequest 7 (some v)) s = .next t7 ∧ t4.configWord 4 = 0x4 ||| (v &&& 0xFC000000) ∧ t5.configWord 5 = v &&& 0xFFFFFFFF ∧
    t6.configWord 6 = 0xC ∧ t7.configWord 7 = v &&& 0xFFFFFFF0 ∧ t4.regs = s.regs ∧ t6.regs = s.regs) ∧
  (∀ (d : Nat) (w : Option Nat) (s : State), s.barUp = false → s.pw.keeperOn = true → s.pw.power = .off → s.pw.stage40 = true →
    s.pw.armed = true → s.pw.recovery = false → s.host.linkL0 = true →
    exec (.pcieConfigRequest d w) s = .next { s with out := { s.out with rdata := 0, ep := false, ur := false, rrs := true } }) ∧
  (∀ (s : State), s.barUp = true → ∃ t : State, exec .flr s = .next (t.raise pgPcie 2) ∧ { t with regs := s.regs, host := s.host } = s ∧
    t.host = { s.host with config := [] } ∧
    (∀ q < 8, t.get pgPcie .DMAQ_EN q = 0) ∧ t.get pgPcie .MBX_GO = 0 ∧ t.get pgPcie .APERTURE_BASE = 0 ∧ t.get pgPcie .APERTURE_PART = 0 ∧
    ∀ p f i, p ≠ pgPcie → t.get p f i = s.get p f i)

/-- GET_STATUS, GET_NONCE, READ_POWER, SET_POWER_STATE, HALT_AND_HOLD (R285, R298, R305, R353, R370, R371): what each answers and does once nothing stands against it. The status data's layout is the model's choice (log 11); the mean input power is a free value. EVR_READ, EVR_FREEZE, EVR_UNFREEZE, EVR_CLEAR, UNKNOWN_COMMAND, MANAGEMENT_COMMAND_TIMEOUT (R346 to R348, R351, R371): the slots as they stand, at most four; a freeze asked for or ended; with the owner's signature the range is cleared, without it AUTH_FAIL; any other code is NOT_SUPPORTED; an abandoned command is recorded as 0x02ED with its last phase. -/
def Obligations.StatusAndRecorderCommands : Prop :=
  ((∀ (req : Req) (s : State), s.admits ⟨0x01, false, false, false, true⟩ req → exec (.getStatus req) s = .next (s.reply 0 s.statusData)) ∧
  (∀ (req : Req) (s : State), s.admits ⟨0x02, false, false, false, false⟩ req → ∃ t : State, exec (.getNonce req) s = .next t ∧
    t.out.status = 0 ∧ t.out.data.length = 8 ∧ t.sec.nonces = (s.sec.nonces.filter fun n => decide (s.time.now ≤ n.2 + 10000000000)) ++
      [(t.out.data, s.time.now)] ∧ t.sec.draws = s.sec.draws + 1 ∧
    { t with out := s.out, sec := { t.sec with nonces := s.sec.nonces, draws := s.sec.draws } } = s) ∧
  (∀ (req : Req) (s : State), s.admits ⟨0x03, false, false, false, false⟩ req → ∃ t : State, exec (.readPower req) s = .next t ∧
    t.out.status = 0 ∧ { t with out := s.out, free := s.free } = s ∧
    (s.flag pgSec .COARSE = false → t.out.data = leBytes 4 (Config.inputPower s.free / 10)) ∧
    (s.flag pgSec .COARSE = true → ∃ w, t.out.data = leBytes 4 w ∧ w % 25 = 0 ∧
      2 * Config.inputPower s.free ≤ 20 * w + 250 ∧ 20 * w < 2 * Config.inputPower s.free + 250)) ∧
  (∀ (req : Req) (s : State), s.admits ⟨0x20, false, false, false, false⟩ req → s.inRun = true → s.pw.transition = none →
    exec (.setPowerState req 3) s = .next ((s.enterHold 0).reply 0)) ∧
  (∀ (req : Req) (s : State), s.admits ⟨0x20, false, false, false, false⟩ req → s.pw.power = .hold → s.pw.transition = none →
    s.pw.flowPin = false → s.pw.resetLatch = false → exec (.setPowerState req 1) s = .next ((s.beginTransition .run 0).reply 0)) ∧
  (∀ (req : Req) (s : State), s.admits ⟨0x20, false, false, false, false⟩ req → s.pw.power ≠ .off →
    s.pw.resetLatch = false → exec (.setPowerState req 0) s = .next ((s.enterOff 0).reply 0)) ∧
  (∀ (req : Req) (target : Nat) (s : State), s.admits ⟨0x20, false, false, false, false⟩ req → s.pw.power = .hold → s.pw.transition = none →
    s.pw.resetLatch = true → target ∈ [0, 1, 4] → exec (.setPowerState req target) s =
    .next ((s.reply 0x0B).common pgCp 0xEB (leBytes 2 0x20 ++ leBytes 1 (requester req.path) ++ [0] ++ leBytes 4 (s.get pgPower .PM_STATE)))) ∧
  (∀ (req : Req) (s : State), s.reaches req.path 0x21 req.part = true → exec (.haltAndHold req) s = .next ((s.enterHold 0).reply 0))) ∧
  ((∀ (req : Req) (first : Nat) (s : State), s.admits ⟨0x40, false, false, false, true⟩ req → first < 32765 →
    ∃ t : State, exec (.evrRead req first) s = .next t ∧ t.out.status = 0 ∧
    t.out.data = [4, 0, 0, 0] ++ s.slotBytes first ++ s.slotBytes (first + 1) ++ s.slotBytes (first + 2) ++ s.slotBytes (first + 3) ∧
    t.evr.slots = s.evr.slots ∧ { t with out := s.out, evr := { t.evr with readMarks := s.evr.readMarks } } = s) ∧
  (∀ (req : Req) (s : State), s.admits ⟨0x41, false, false, false, true⟩ req → s.flag pgRec .FROZEN = false →
    exec (.evrFreeze req) s = .next ({ s with evr := { s.evr with freezeAsked := true } }.reply 0)) ∧
  (∀ (req : Req) (s : State), s.admits ⟨0x42, false, false, false, true⟩ req → exec (.evrUnfreeze req) s =
    .next ((({ s with evr := { s.evr with freezeAsked := false } }.put pgRec .FROZEN 0).put pgRec .FREEZE 0).reply 0)) ∧
  (∀ (req : Req) (upTo : Nat) (s : State), s.admits ⟨0x43, true, false, false, false⟩ req → s.flag pgRec .FROZEN = false →
    upTo < s.get pgRec .NEXT_SEQ → s.finishStore.canStore 0 = true → s.flag pgKeeper .STORE_ACTIVE = false →
    exec (.evrClear req 0 upTo) s = .next (if s.authorised 0x43 ([0] ++ leBytes 8 upTo) req then
      ((s.useNonce req).clearSlots 0 upTo).reply 0 else (s.reply 0x0C).raise pgSec 0)) ∧
  (∀ (req : Req) (code : Nat) (s : State), s.reaches req.path code req.part = true → code ∉ [0x01, 0x02, 0x03, 0x10, 0x11, 0x12, 0x20, 0x21,
      0x30, 0x31, 0x40, 0x41, 0x42, 0x43, 0x50, 0x51, 0x52, 0x53, 0x54, 0x55, 0x56, 0x60] →
    exec (.unknownCommand req code) s = .next ((s.reply 0x03).common pgCp 0xE3
      (leBytes 2 code ++ leBytes 1 (requester req.path) ++ [0] ++ leBytes 4 req.part))) ∧
  (∀ (req : Req) (code phase : Nat) (s : State), s.reaches req.path code req.part = true →
    exec (.managementCommandTimeout req code phase) s = .next ((s.reply 0x0D).common pgCp 0xED
      (leBytes 2 code ++ leBytes 1 (requester req.path) ++ [0] ++ leBytes 4 phase))))

/-- A refused command changes nothing but its answer and its record (R40, R41, R350): statuses apply in the order of R41, a wrong length before a bad argument; OK and BUSY write no record; a BAD_ARG record shows the argument that failed. Shown for GET_STATUS, EVR_READ and EVR_FREEZE. -/
def Obligations.RefusalOrder : Prop :=
  (∀ (req : Req) (s : State), s.reaches req.path 0x01 req.part = true → req.lenOk = false →
    exec (.getStatus req) s = .next ((s.reply 0x02).common pgCp 0xE2
      (leBytes 2 0x01 ++ leBytes 1 (requester req.path) ++ [0] ++ leBytes 4 req.part))) ∧
  (∀ (req : Req) (first : Nat) (s : State), s.admits ⟨0x40, false, false, false, true⟩ req → 32768 ≤ first →
    exec (.evrRead req first) s = .next ((s.reply 0x01).common pgCp 0xE1
      (leBytes 2 0x40 ++ leBytes 1 (requester req.path) ++ [0] ++ leBytes 4 first))) ∧
  (∀ (req : Req) (first : Nat) (s : State), s.reaches req.path 0x40 req.part = true → req.lenOk = false → 32768 ≤ first →
    exec (.evrRead req first) s = .next ((s.reply 0x02).common pgCp 0xE2
      (leBytes 2 0x40 ++ leBytes 1 (requester req.path) ++ [0] ++ leBytes 4 req.part))) ∧
  (∀ (req : Req) (s : State), s.admits ⟨0x41, false, false, false, true⟩ req → s.flag pgRec .FROZEN = true →
    exec (.evrFreeze req) s = .next (s.reply 0x04)) ∧
  (∀ (req : Req) (s : State), s.reaches req.path 0x01 req.part = false → exec (.getStatus req) s = .next s)

/-- ARMATURE_LOAD, ARMATURE_UNLOAD, ARMATURE_ACTIVATE, GRAFT_PLAN, REGROW (R147, R150 to R153, R217, R241): a file that passes every check is held in the lowest free slot; an armature that is neither active nor pending leaves its slot; an accepted activation arms every bed of the armature; a plan is kept for its vote; regrowing begins at the cutting's step. -/
def Obligations.ArmatureCommands : Prop :=
  (∀ (req : Req) (addr len k : Nat) (s : State), s.admits ⟨0x10, false, true, true, false⟩ req → len ≤ 6291456 →
    s.rangeOk req.part addr len = true → armLenOk (s.peek addr len) len = true → s.armOk req.part (s.peek addr len) = true →
    s.freeArmSlot req.part = some k → s.armBusy req.part (armId (s.peek addr len)) = false → (spanLines addr len).any s.linePoisoned = false →
    exec (.armatureLoad req addr len) s = .next ((s.holdArm req.part addr (s.peek addr len)).reply 0)) ∧
  (∀ (p addr k : Nat) (f : File) (s : State), s.freeArmSlot p = some k →
    (s.holdArm p addr f).arms = s.arms.put (p, k) ⟨f, Config.sha384 f⟩ ∧ (s.holdArm p addr f).beds = s.beds ∧
    ∀ l, l ∉ spanLines addr f.length → l ∉ spanLines (s.slotAddr p k) f.length →
      (s.holdArm p addr f).mem.line l = s.mem.line l ∧ (s.holdArm p addr f).peekLine l = s.peekLine l) ∧
  (∀ (req : Req) (id k : Nat) (s : State), s.admits ⟨0x12, false, true, true, false⟩ req → s.slotOfId req.part id = some k →
    s.slotInUse req.part k = false → exec (.armatureUnload req id) s = .next ((s.unloadSlot req.part k).reply 0)) ∧
  (∀ (req : Req) (id k frame step epoch time : Nat) (s : State), s.admits ⟨0x11, false, true, true, false⟩ req →
    s.slotOfId req.part id = some k → frame < 2 ^ 48 → step < 2 ^ 32 → epoch < 2 ^ 16 → time < 2 ^ 64 →
    (∀ b ∈ armBeds (s.fileOf req.part k), s.startOk b ⟨frame, step, epoch, time⟩ = true) →
    s.activateConflict req.part (s.fileOf req.part k) ⟨frame, step, epoch, time⟩ = false →
    exec (.armatureActivate req id frame step epoch time) s = .next (((armBeds (s.fileOf req.part k)).foldl
      (fun t b => t.armBed k (s.fileOf req.part k) ⟨frame, step, epoch, time⟩ b) s).reply 0)) ∧
  (∀ (slot : Nat) (f : List Byte) (a : Start) (b : Nat) (s : State), s.runsArm b = false → (s.armBed slot f a b).seq b = seqArmed ∧
    (s.armBed slot f a b).get (pgBed b) .SWITCH_PENDING = 1 ∧ (s.armBed slot f a b).get (pgBed b) .RUN = 1 ∧
    ∃ x, ((s.armBed slot f a b).bed b).pend = some x ∧ x.slot = slot ∧ x.startFrame = a.frame ∧ x.startStep = a.step ∧ x.startEpoch = a.epoch) ∧
  (∀ (req : Req) (hash step : Nat) (s : State), s.admits ⟨0x30, false, true, true, false⟩ req → hash < 2 ^ 64 → step < 2 ^ 32 →
    s.planConflict req.part hash step = false →
    (s.joins req.part = false → exec (.graftPlan req hash step) s = .next ((s.setPart req.part { s.part req.part with
      graft := (s.part req.part).graft.filter (fun g => g.2 != step) ++ [(hash, step)] }).reply 0)) ∧
    ∃ t : State, exec (.graftPlan req hash step) s = .next t ∧ t.out.status = 0 ∧ (hash, step) ∈ (t.part req.part).graft) ∧
  (∀ (req : Req) (partner source cut : Nat) (s : State), s.admits ⟨0x31, false, true, true, false⟩ req → partner < 8191 → source < 8191 →
    cut < 2 ^ 32 → s.sourceMember req.part source = true → s.anyBedRuns = false →
    exec (.regrow req partner source cut true true) s = .next (((s.forgetUpdates req.part).setPart req.part
      { s.part req.part with regrowing := true, regrowFrom := cut, regrowSrc := source, regrowStep := cut }).reply 0)) ∧
  (∀ (req : Req) (partner source cut : Nat) (v h : Bool) (s : State), s.admits ⟨0x31, false, true, true, false⟩ req →
    s.sourceMember req.part source = false →
    exec (.regrow req partner source cut v h) s = .next (s.refuse pgCp 0x01 0x31 req.path (if 8191 ≤ partner then partner else source)))

/-- OWNER_ENROLL, OWNER_REVOKE, SESSION_OPEN, SESSION_CLOSE, FW_UPDATE, FW_COMMIT, PAGE_UNLOCK, RECOVERY_WRITE (R38, R284, R285, R289, R295 to R297, R365): each takes effect under the authority that it needs and is refused with AUTH_FAIL otherwise; a session is closed by its tenant or by the owner; the last chunk has the whole slot verified: it is pending, or in recovery booted anew, or the command ends INTEGRITY; the first owner slot and recovery need no authority. -/
def Obligations.SecurityCommands : Prop :=
  (∀ (req : Req) (h : List Byte) (s : State), s.admits ⟨0x50, false, false, false, false⟩ req → s.sec.owners = [] → h.length = 48 →
    exec (.ownerEnroll req h) s = .next (({ s.useNonce req with sec := { (s.useNonce req).sec with owners := [(h, false)] } }.showOwner).reply 0)) ∧
  (∀ (req : Req) (h : List Byte) (s : State), s.admits ⟨0x50, true, false, false, false⟩ req → s.sec.owners ≠ [] → s.sec.owners.length < 4 →
    h.length = 48 → exec (.ownerEnroll req h) s = .next (if s.authorised 0x50 h req then
      ({ s.useNonce req with sec := { (s.useNonce req).sec with owners := s.sec.owners ++ [(h, false)] } }.showOwner).reply 0
      else (s.reply 0x0C).raise pgSec 0)) ∧
  (∀ (req : Req) (k : Nat) (s : State), s.admits ⟨0x51, true, false, false, false⟩ req → s.ownerSlot = some k → k + 1 < s.sec.owners.length →
    exec (.ownerRevoke req) s = .next (if s.authorised 0x51 [] req then
      ({ s.useNonce req with sec := { (s.useNonce req).sec with owners := s.sec.owners.modify k fun o => (o.1, true) } }.showOwner).reply 0
      else (s.reply 0x0C).raise pgSec 0)) ∧
  (∀ (req : Req) (pay : List Byte) (s : State), s.admits ⟨0x52, true, false, true, false⟩ req → pay.length = 256 → openReserved pay = true →
    s.sessionState req.part = 0 → (∀ b ∈ s.partBeds req.part, s.bedQuiet b = true) → s.openBusy req.part = false →
    s.cpOn = true → exec (.sessionOpen req pay) s = .next (if !s.grantOk req.part req.path pay then (s.reply 0x0C).raise pgSec 0
      else if !s.rosterOk req.part pay then s.refuse pgCp 0x01 0x52 req.path (fieldAt pay 192 8)
      else ((s.readSpan (engineReq (bedOf (s.partFirst req.part)) 0 0 0 (fieldAt pay 192 8)) (64 * fieldAt pay 200 4)).1.beginSession req.part (fieldAt pay 12 4) ((pay.drop 160).take 32) ((pay.drop 16).take 48)
        (match s.spdmOf req.path with | some x => x.exportSecret | none => [])
        (rosterEntries (s.peek (fieldAt pay 192 8) (64 * fieldAt pay 200 4)) (fieldAt pay 200 4)) ((pay.drop 208).take 48)).reply 0)) ∧
  (∀ (req : Req) (s : State), s.admits ⟨0x53, true, false, true, false⟩ req → (s.sessionState req.part = 1 ∨ s.sessionState req.part = 2) →
    s.pw.power ≠ .off →
    exec (.sessionClose req) s = .next (if s.isTenant req.path (s.session req.part).tenant = true ∨ s.authorised 0x53 [] req = true then
      ((s.useNonce req).beginClose req.part).reply 0 else (s.reply 0x0C).raise pgSec 0)) ∧
  (∀ (req : Req) (s : State), s.admits ⟨0x53, true, false, true, false⟩ req → (s.sessionState req.part = 1 ∨ s.sessionState req.part = 2) →
    s.pw.power = .off →
    exec (.sessionClose req) s = .next (if s.isTenant req.path (s.session req.part).tenant = true ∨ s.authorised 0x53 [] req = true then
      ((s.useNonce req).endSessionNow req.part).reply 0 else (s.reply 0x0C).raise pgSec 0)) ∧
  (∀ (req : Req) (image offset : Nat) (chunk : List Byte) (s : State), s.admits ⟨0x54, true, false, false, false⟩ req → image < 2 →
    chunkLenBad image offset chunk = false → s.sec.chunkBusy = false → s.flag pgKeeper .STORE_ACTIVE = false → s.canStore 1 = true →
    exec (.fwUpdate req image offset chunk false) s = .next (if s.authorised 0x54 (chunkPayload image offset chunk false) req then
      ((s.useNonce req).writeChunk (1 - s.sec.active) image offset chunk).reply 0 else (s.reply 0x0C).raise pgSec 0)) ∧
  (∀ (req : Req) (image offset : Nat) (chunk : List Byte) (s t : State), s.admits ⟨0x54, true, false, false, false⟩ req → image < 2 →
    chunkLenBad image offset chunk = false → s.sec.chunkBusy = false → s.flag pgKeeper .STORE_ACTIVE = false → s.canStore 1 = true →
    t = (s.useNonce req).writeChunk (1 - s.sec.active) image offset chunk →
    exec (.fwUpdate req image offset chunk true) s = .next (if !s.authorised 0x54 (chunkPayload image offset chunk true) req then
      (s.reply 0x0C).raise pgSec 0
      else if t.slotGood (1 - s.sec.active) then ((t.passSlot (1 - s.sec.active)).markPending (1 - s.sec.active)).reply 0
      else t.refuse pgCp 0x0F 0x54 req.path image)) ∧
  (∀ (k : Nat) (s : State), ((s.passSlot k).markPending k).sec.pending = some k ∧ ((s.passSlot k).markPending k).get pgSec .FW_PENDING = 1 ∧
    ((s.passSlot k).markPending k).sec.active = s.sec.active ∧
    (((s.passSlot k).markPending k).sec.flash.get k FwSlot.reset).ok = true ∧
    (((s.passSlot k).markPending k).sec.flash.get k FwSlot.reset).svn =
      min (Config.imageSvn (s.sec.flash.get k FwSlot.reset).keeperImage) (Config.imageSvn (s.sec.flash.get k FwSlot.reset).cpImage)) ∧
  (∀ (req : Req) (s : State), s.admits ⟨0x55, true, false, false, false⟩ req → s.sec.bootedNew = true →
    exec (.fwCommit req) s = .next (if s.authorised 0x55 [] req then
      ((s.useNonce req).put pgSec .FUSE_COUNT (max (s.get pgSec .FUSE_COUNT) (min 64 (s.sec.flash.get s.sec.active FwSlot.reset).svn))).reply 0
      else (s.reply 0x0C).raise pgSec 0)) ∧
  (∀ (req : Req) (p : Page) (s : State), s.admits ⟨0x56, true, false, false, false⟩ req → s.isPage p = true →
    (∀ q, s.pagePart p = some q → s.sessionState q ≠ 2) →
    exec (.pageUnlock req p) s = .next (if s.authorised 0x56 (leBytes 4 (pageBase p)) req then
      ((s.useNonce req).put p .LOCKED 0).reply 0 else (s.reply 0x0C).raise pgSec 0)) ∧
  (∀ (req : Req) (image offset : Nat) (chunk : List Byte) (s : State), s.admits ⟨0x60, false, false, false, false⟩ req → s.pw.recovery = true →
    s.sec.sfdpOk = true → image < 2 → chunkLenBad image offset chunk = false → s.sec.chunkBusy = false →
    s.flag pgKeeper .STORE_ACTIVE = false → s.canStore 1 = true →
    exec (.recoveryWrite req image offset chunk false) s = .next ((s.writeChunk 0 image offset chunk).reply 0) ∧
    ((s.writeChunk 0 image offset chunk).slotGood 0 = false → exec (.recoveryWrite req image offset chunk true) s =
      .next ((s.writeChunk 0 image offset chunk).refuse pgCp 0x0F 0x60 req.path image)) ∧
    ((s.writeChunk 0 image offset chunk).slotGood 0 = true → ∃ t : State, exec (.recoveryWrite req image offset chunk true) s = .next t ∧
      t.out.status = 0 ∧ t.sec.active = 0 ∧ t.sec.pending = none ∧ t.pw.recovery = false ∧ t.pw.bootPhase = 3 ∧
      (t.sec.flash.get 0 FwSlot.reset).ok = true))

/-- SET_ENDPOINT_ID, GET_ENDPOINT_ID, GET_MCTP_VERSION_SUPPORT, GET_MESSAGE_TYPE_SUPPORT, GET_VENDOR_DEFINED_MESSAGE_SUPPORT (R368): the control commands that the management port answers on keeper power outside recovery. Codes, fields and which ids Set Endpoint ID takes are DSP0236's (log 11). MGMT_RECEIVE (R291, R369): a command from a member runs and its answer goes back to the sender; any other source is discarded; key-agreement messages go to the engine. -/
def Obligations.MctpAndManagementPackets : Prop :=
  (∀ (s : State), s.pw.keeperOn = true → s.pw.wedged = false → s.pw.recovery = false →
    (∀ eid op, op < 2 → 8 ≤ eid → eid ≤ 254 → exec (.setEndpointId eid op) s =
      .next ({ s with host := { s.host with eid := eid } }.reply 0 (leBytes 1 0 ++ leBytes 1 eid ++ leBytes 1 0))) ∧
    (∀ eid op, (2 ≤ op ∨ eid < 8 ∨ 254 < eid) → exec (.setEndpointId eid op) s = .next (s.reply 2)) ∧
    exec .getEndpointId s = .next (s.reply 0 (leBytes 1 s.host.eid ++ [0, 0])) ∧
    (∀ type ∈ [0xFF, 0x00, 0x05, 0x06, 0x7F], exec (.getMctpVersionSupport type) s = .next (s.reply 0
      (leBytes 1 (Config.mctpVersions type).length ++ (Config.mctpVersions type).flatMap fun v => leBytes 4 v.toNat))) ∧
    (∀ type, type ∉ [0xFF, 0x00, 0x05, 0x06, 0x7F] → exec (.getMctpVersionSupport type) s = .next (s.reply 0x80)) ∧
    exec .getMessageTypeSupport s = .next (s.reply 0 [3, 0x05, 0x06, 0x7F]) ∧
    exec (.getVendorDefinedMessageSupport 0) s = .next (s.reply 0
      ([0xFF, 1] ++ (leBytes 4 Config.enterprise.toNat).reverse ++ (leBytes 2 Config.commandSet.toNat).reverse)) ∧
    ∀ selector, selector ≠ 0 → exec (.getVendorDefinedMessageSupport selector) s = .next (s.reply 2)) ∧
  ((∀ (p : Port) (k m : Packet) (s u : State), k.type = tyMgmt → s.takeIn p.val k = (u, some m) →
    (kaKey ≤ tfAt m 28 2 ∧ tfAt m 28 2 ≤ kaFailed) → exec (.mgmtReceive p k) s =
    .next (u.keyMessage (u.portPart p.val) m.src (tfAt m 28 2) (rawOf m.payload).payload)) ∧
  (∀ (p : Port) (k m : Packet) (s u : State), k.type = tyMgmt → s.takeIn p.val k = (u, some m) →
    ¬ (kaKey ≤ tfAt m 28 2 ∧ tfAt m 28 2 ≤ kaFailed) →
    u.reaches (.fabric m.src) (tfAt m 28 2) (rawOf m.payload).part = false → exec (.mgmtReceive p k) s = .next u) ∧
  (∀ (p : Port) (k m : Packet) (s u : State), k.type = tyMgmt → s.takeIn p.val k = (u, some m) → tfAt m 28 2 = 0x01 →
    u.reaches (.fabric m.src) 0x01 (rawOf m.payload).part = true → ∃ t : State,
    exec (.getStatus ⟨.fabric m.src, (rawOf m.payload).part, (rawOf m.payload).reserved, (rawOf m.payload).payload.length == 0, none⟩) u = .next t ∧
    exec (.mgmtReceive p k) s = .next (t.send (u.portPart p.val) m.src 3 tyMgmt (tfWith [(28, leBytes 2 (tfAt m 28 2))])
      (leBytes 1 t.out.status ++ [0, 0, 0] ++ t.out.data))))

/-- The SPDM responder (R286 to R288, R292): the connection's requests, certificate, challenge and measurements, signed with the identity key; a session begins unestablished, FINISH with good checks establishes it, END_SESSION erases its keys, KEY_UPDATE renews them; under mutual authentication the requester's certificate is obtained first; a command inside an established session runs as on its own path; every other request is unsupported. Error codes are those of DSP0274 (log 50). A command as its bytes spell it (R287, R369, R371): inside an established secured session GET_STATUS is answered with its data, and an unknown code NOT_SUPPORTED. -/
def Obligations.SpdmAndSecuredSessions : Prop :=
  (∀ (s : State), s.pw.keeperOn = true → s.cpOn = true → s.pw.wedged = false →
    exec .getVersion s = .next ({ s with sec := { s.sec with negotiated := false } }.reply 0 [1, 0x00, 0x13]) ∧
    exec .getCapabilities s = .next (s.reply 0 (leBytes 4 17398)) ∧
    (∀ offered, exec (.negotiateAlgorithms offered) s =
      .next ({ s with sec := { s.sec with negotiated := [0, 1, 2, 3, 4].all offered.contains } }.reply 0
        (([0, 1, 2, 3, 4].filter offered.contains).flatMap (leBytes 1)))) ∧
    (s.sec.negotiated = true → exec .getDigests s = .next (s.reply 0 (leBytes 1 1 ++ padTo 48 (Config.sha384 Config.certificate)))) ∧
    (s.sec.negotiated = true → ∀ len, exec (.getCertificate 0 0 len) s = .next (s.reply 0 (leBytes 2 (min len Config.certificate.length) ++
      leBytes 2 (Config.certificate.length - min len Config.certificate.length) ++ Config.certificate.take len))) ∧
    (s.sec.negotiated = true → ∀ nonce, exec (.challenge 0 nonce) s = .next ({ s with sec := { s.sec with draws := s.sec.draws + 1 } }.reply 0
      (spdmSigned nonce (padTo 48 (Config.sha384 Config.certificate) ++ padTo 32 (Config.entropy s.sec.draws))))) ∧
    (s.sec.negotiated = true → ∀ slot, slot ≠ 0 → (∀ off len, exec (.getCertificate slot off len) s = .next (s.reply 0x07)) ∧
      ∀ nonce, exec (.challenge slot nonce) s = .next (s.reply 0x07)) ∧
    (s.sec.negotiated = true → ∀ nonce i m, i ≠ 0xFF → s.measurement i = some m →
      exec (.getMeasurements i nonce) s = .next (s.reply 0 (spdmSigned nonce (leBytes 1 i ++ leBytes 1 m.1 ++ m.2)))) ∧
    (s.sec.negotiated = true → ∀ (ma : Bool) digest cert key k, (ma = true → encapOk digest cert = true) →
      s.freeSpdm (s.ownerSpdm ma (if ma then requesterHash cert else [])) = some k → ∃ t : State, exec (.keyExchange ma digest key cert) s = .next t ∧
      t.out.status = 0 ∧ t.sec.draws = s.sec.draws + 1 ∧ ∃ x : SpdmSession, t.sec.spdm = s.sec.spdm.put k x ∧ x.established = false ∧
        x.requester = (if ma then requesterHash cert else []) ∧ x.mutualAuth = ma) ∧
    (s.sec.negotiated = true → ∀ digest cert key, encapOk digest cert = false → exec (.keyExchange true digest key cert) s = .next (s.reply 0x01)) ∧
    (∀ k x, s.sec.spdm.find? k = some x → x.established = false →
      exec (.finish k true) s = .next ({ s with sec := { s.sec with spdm := s.sec.spdm.put k { x with established := true } } }.reply 0)) ∧
    (∀ k x, s.sec.spdm.find? k = some x → x.established = true →
      exec (.endSession k) s = .next ({ s with sec := { s.sec with spdm := s.sec.spdm.del k } }.reply 0) ∧
      exec (.keyUpdate k) s = .next ({ s with sec := { s.sec with spdm := s.sec.spdm.put k { x with updates := x.updates + 1 } } }.reply 0) ∧
      ∀ cmd, exec (.vendorDefinedRequest k cmd) s = s.runRaw (.secured k) cmd) ∧
    (∀ code, code ∉ [0x81, 0x82, 0x83, 0x84, 0xE0, 0xE1, 0xE3, 0xE4, 0xE5, 0xE9, 0xEC, 0xFE] →
      exec (.spdmUnsupportedRequest code) s = .next (s.reply 0x07))) ∧
  (∀ (k : Nat) (x : SpdmSession) (s : State), s.pw.keeperOn = true → s.pw.wedged = false → s.pw.recovery = false →
    s.sec.spdm.find? k = some x → x.established = true →
    (∀ part, (part < s.partCount ∨ part = 0xFF) → exec (.vendorDefinedRequest k ⟨0x01, part, 0, []⟩) s = .next (s.reply 0 s.statusData)) ∧
    (∀ part pay, exec (.vendorDefinedRequest k ⟨0x7F, part, 0, pay⟩) s = .next ((s.reply 0x03).common pgCp 0xE3
      (leBytes 2 0x7F ++ leBytes 1 1 ++ [0] ++ leBytes 4 part))))

/-- VIN_EXCURSION, VIN_RESTORE, INPUT_OVERCURRENT, VAUX_LOW, VAUX_RISE (R300, R381, R392): outside 36 to 44 V Floor is forced, outside 32 to 48 V the 40 V stage goes down; the return inside arms power-up and clears the cause; power above the cap is noted for the next tick; losing VAUX ends sessions, is logged by the island and leads to Off; VAUX inside its limits arms power-up again, and a keeper that powers up takes its counters from the last stored batch, POWER_CYCLES plus 1 up to its limit, with PROT_LOW as PROT_FREE is (R340, R341, R355; that PROT_LOW is raised anew is log 98's). -/
def Obligations.SupplyEvents : Prop :=
  (∀ (mv : Nat) (s : State), s.pw.keeperOn = true → (mv < 32000 ∨ 48000 < mv) →
    exec (.vinExcursion mv) s = .next ({ s with pw := { s.pw with vin := mv } }.enterOff 2)) ∧
  (∀ (mv : Nat) (s : State), s.pw.keeperOn = true → (s.pw.power ≠ .off ∨ s.pw.stage40 = true) → 32000 ≤ mv → mv ≤ 48000 →
    (mv < 36000 ∨ 44000 < mv) →
    exec (.vinExcursion mv) s = .next ({ s with pw := { s.pw with vin := mv } }.floorCause .vin 2 0)) ∧
  (∀ (mv : Nat) (s : State), (mv < 36000 ∨ 44000 < mv) → s.pw.power = .run → s.pw.transition = none → s.pw.keeperOn = true →
    32000 ≤ mv → mv ≤ 48000 → ∃ t : State, exec (.vinExcursion mv) s = .next t ∧ t.pw.power = .floor ∧ FloorCause.vin ∈ t.pw.causes ∧ t.get pgPower .PM_STATE = 2 ∧
      t.get pgPower .PM_CAUSE = 2 ∧ t.get pgPower .FREQ_MHZ = 600) ∧
  (∀ (mv : Nat) (s : State), 36000 ≤ mv → mv ≤ 44000 → (s.pw.vin < 36000 ∨ 44000 < s.pw.vin) → exec (.vinRestore mv) s =
    .next { s with pw := { s.pw with vin := mv, armed := true, causes := s.pw.causes.filter (· != .vin) } }) ∧
  (∀ (w : Nat) (s : State), s.inRun = true →
    exec (.inputOvercurrent w) s = .next ({ s with pw := { s.pw with overCap := true } }.put pgPower .WATTS (min w 8191))) ∧
  (∀ (s : State), s.pw.keeperOn = true → s.pw.vauxOk = true →
    exec .vauxLow s = .next ({ s with pw := { s.pw with vauxOk := false }, isl := s.isl.log 2 }.endSessions.enterOff 2)) ∧
  (∀ (s : State), s.pw.keeperOn = true → s.pw.vauxOk = false →
    exec .vauxRise s = .next { s with pw := { s.pw with vauxOk := true, armed := true } }) ∧
  (∀ (s : State), s.pw.keeperOn = false → ∃ t : State, exec .vauxRise s = .next t ∧ t.pw.keeperOn = true ∧ t.pw.vauxOk = true ∧
    t.pw.armed = true ∧ t.get pgRec .POWER_CYCLES = min (s.evr.storedCycles + 1) 0xFFFFFFFF ∧
    t.get pgRec .OP_SECONDS = s.evr.storedOp % 2 ^ 40 ∧ t.evr.opNs = 1000000 * s.evr.storedMs ∧
    t.get pgRec .PROT_LOW = b2n (decide (s.protFree < 2048)) ∧
    (2048 ≤ s.protFree → t.get pgRec .NEXT_SEQ = s.evr.storedSeq % 2 ^ 64)) ∧
  (∀ (mv : Nat) (s : State), (mv < 36000 ∨ 44000 < mv) → s.pw.keeperOn = false → exec (.vinExcursion mv) s =
    .next { s with pw := { s.pw with vin := mv } })

/-- CONVERTER_FAULT, PWR_ALERT, FLOOR_EXIT, FLOW_FAULT, FLOW_FAULT_CLEAR, FLOW_FAULT_DORMANT, THERM_TRIP (R301, R305, R311 to R314, R390): each report is recorded by name and forces Floor, two modules Off; an alert forces Floor; when every cause has been clear the planned point may return; a flow fault enters Hold with budgets 0 until it clears, when memory serves the access that waited (log 98), and Dormant after its time in Hold; a trip at 108 °C or more is latched and leads to Off. -/
def Obligations.ProtectiveStops : Prop :=
  (∀ (m : Nat) (s : State), (s.pw.power ≠ .off ∨ s.pw.stage40 = true) → exec (.converterFault [m] []) s =
    .next (s.floorCause .converter 3 0x0340 (leBytes 1 (m % 8) ++ leBytes 1 0))) ∧
  (∀ (m n : Nat) (s : State), (s.pw.power ≠ .off ∨ s.pw.stage40 = true) → exec (.converterFault [m, n] []) s =
    .next (((s.floorCause .converter 3 0x0340 (leBytes 1 (m % 8) ++ leBytes 1 1)).record 0x0340 pgPower
      (leBytes 1 (n % 8) ++ leBytes 1 1)).enterOff 3)) ∧
  (∀ (r : Nat) (s : State), (s.pw.power ≠ .off ∨ s.pw.stage40 = true) → exec (.converterFault [] [r]) s =
    .next (s.floorCause .converter 3 0x0340 (leBytes 1 (128 + r % 128) ++ leBytes 1 0))) ∧
  (∀ (s : State), (s.inRun = true ∨ s.pw.power = .hold) →
    exec .pwrAlert s = .next ({ s with pw := { s.pw with alertPin := true } }.floorCause .alert 1 0)) ∧
  (∀ (s : State), FloorCause.vin ∉ s.pw.causes → s.pw.power = .floor → s.lowestRunning.isSome = true → exec .floorExit s =
    .next { s with pw := { s.pw with causes := [], alertPin := false, wantFloorExit := true } }) ∧
  (∀ (s : State), (s.inRun = true ∨ s.pw.power = .hold) → exec .flowFault s = .next
    (({ s with pw := { s.pw with flowPin := true }, mem := { s.mem with budgetZero := true } }.raise pgPower 1).enterHold 5)) ∧
  (∀ (s : State), s.host.waits = [] →
    exec .flowFaultClear s = .next { s with pw := { s.pw with flowPin := false }, mem := { s.mem with budgetZero := false } }) ∧
  (∀ (w : HostWait) (s u : State), s.host.waits = [w] → u = { s with
      pw := { s.pw with flowPin := false }, mem := { s.mem with budgetZero := false }, host := { s.host with waits := [] } } →
    exec .flowFaultClear s = .next (match w.write with
      | none => (u.hostRead w.part w.addr w.err true).1.answer (if (u.hostRead w.part w.addr w.err true).2.2 then 0
          else leNat ((u.hostRead w.part w.addr w.err true).2.1.drop (w.addr % 64))) (u.hostRead w.part w.addr w.err true).2.2
      | some x => u.hostWrite w.part w.addr (w.addr % 64) (x.1.take (64 - w.addr % 64)) x.2 false 0)) ∧
  (∀ (s : State), s.pw.power = .hold → s.pw.flowPin = true → s.pw.transition = none → s.pw.resetLatch = false → (∀ b ∈ allBeds, s.bedQuiet b = true) →
    exec .flowFaultDormant s = .next (s.enterDormant 5)) ∧
  (∀ (sensor c : Nat) (s : State), (s.pw.power ≠ .off ∨ s.pw.stage40 = true) → 108 ≤ c → ∃ t : State, exec (.thermTrip sensor c) s = .next (t.enterOff 6) ∧
    t.pw.thermLatch = true ∧ t.pw.thermTripPin = true ∧ t.get pgPower .TJ_MAX = min c 255 ∧
    (s.pw.keeperOn = true → s.evr.perSecond.get (pageSource pgKeeper, 0x0D40) 0 < 64 → s.evr.queueGen.length < 4096 →
      ∃ r, t.evr.queueGen = s.evr.queueGen ++ [r] ∧ r.code = 0x0D40 ∧ r.payload = leBytes 1 sensor ++ leBytes 1 (min c 255) ++
        List.replicate 28 0))

/-- DROOP_DETECT, SUSTAINED_DROOP, MARGIN_CHECK, JUNCTION_SENSOR_READ, THROTTLE_RESTORE (R311, R314, R316): a droop engages the stretcher and is counted; a sustained one forces Floor with record 0x0327; a monitor below its threshold costs one trim step, at most 40; at 98 °C a throttle step is taken, and one is given back at or below 95 °C. CHANGE_FORCED and CAP_RELEASE (R311, R315): the eighth deferred tick makes the planned change under suppression and counts it; a mean below 97 % of the cap gives back the throttle step taken last. -/
def Obligations.DroopMarginClock : Prop :=
  ((∀ (n : Nat) (s : State), (s.inRun = true ∨ s.pw.power = .hold) → s.pw.suppressed = false → ∃ t : State, exec (.droopDetect n) s = .next t ∧
    t.pw = { s.pw with stretch := true, stretchSeen := true, droopAt := s.time.now } ∧
    t.get pgPower .DROOP_CNT = satAdd 32 (s.get pgPower .DROOP_CNT) 1 ∧ t.get pgPower .STRETCH_CYC = satAdd 32 (s.get pgPower .STRETCH_CYC) n ∧
    (∀ b < 8, t.bed b = if (s.bed b).origin then { s.bed b with stretched := (s.bed b).stretched + n } else s.bed b) ∧
    ∀ p f i, p ≠ pgPower → t.get p f i = s.get p f i) ∧
  (∀ (s : State), (s.inRun = true ∨ s.pw.power = .hold) → s.pw.stretch = true → exec .sustainedDroop s = .next ((s.floorCause .droop 4 0x0327).evt pgPower 7)) ∧
  (∀ (m : Nat) (s : State), s.inRun = true → s.get pgPower .TRIM_STEPS < 40 → s.lowestRunning ≠ none →
    exec (.marginCheck m true) s = .next ((s.put pgPower .WORST_MON (m % 512)).setPw { s.pw with trimDue := true })) ∧
  (∀ (m : Nat) (s : State), s.inRun = true → s.get pgPower .TRIM_STEPS < 39 → s.lowestRunning = none → exec (.marginCheck m true) s =
    .next (((s.put pgPower .WORST_MON (m % 512)).put pgPower .TRIM_STEPS (s.get pgPower .TRIM_STEPS + 1)).setPw
      { s.pw with trimDue := false, trimWaiting := true })) ∧
  (∀ (s : State), s.pw.trimDue = true → s.get pgPower .TRIM_STEPS = 39 → s.trimTick =
    ((s.put pgPower .TRIM_STEPS 40).setPw { s.pw with trimDue := false, trimWaiting := true }).raise pgPower 9) ∧
  (∀ (m : Nat) (s : State), s.inRun = true → exec (.marginCheck m false) s = .next (s.put pgPower .WORST_MON (m % 512))) ∧
  (∀ (sensor c : Nat) (s : State), s.pw.power ≠ .off → s.pw.power ≠ .dormant → c < 98 → exec (.junctionSensorRead sensor c) s =
    .next (((s.put pgPower .TJ_MAX (min c 255)).put pgPower .SENSOR sensor).setPw
      { s.pw with thermAt := none, tj := c, hotAt := if 90 ≤ c then some s.time.now else s.pw.hotAt })) ∧
  (∀ (sensor c : Nat) (s : State), (s.pw.power = .off ∨ s.pw.power = .dormant) → exec (.junctionSensorRead sensor c) s =
    .next (s.setPw { s.pw with tj := c, hotAt := if 90 ≤ c then some s.time.now else s.pw.hotAt })) ∧
  (∀ (sensor c : Nat) (s : State), s.inRun = true → 98 ≤ c → s.pw.thermAt = none →
    exec (.junctionSensorRead sensor c) s = .next ((((s.setPw { s.pw with tj := c, hotAt := some s.time.now }).put pgPower .TJ_MAX
      (min c 255)).put pgPower .SENSOR sensor).thermStep)) ∧
  (∀ (s : State), s.flag pgPower .MODE_NOW = false → s.pw.planPoint + s.pw.thermSteps < 2 → s.thermStep.pw.thermSteps = s.pw.thermSteps + 1 ∧
    s.thermStep.get pgPower .THROTTLED = 1) ∧
  (∀ (s : State), s.get pgPower .TJ_MAX ≤ 95 → s.get pgPower .THROTTLED = 1 → s.pw.thermSteps = 1 → s.lowestRunning.isSome = true →
    exec .throttleRestore s = .next ({ s with pw := { s.pw with thermSteps := 0 } }.put pgPower .THROTTLED 0))) ∧
  ((∀ (b : Bed) (s : State), s.tickDue b.val = true → s.lowestRunning = some b.val → s.staging = [] → s.partsLegal → s.pw.stretchSeen = true →
    s.get pgPower .DEFER = 7 → s.get pgPower .PLAN_POINT ≠ s.pw.planPoint → ∃ t : State, exec (.changeForced b) s = .next t ∧
    t.get pgPower .FORCED_CNT = satAdd 16 (s.get pgPower .FORCED_CNT) 1 ∧ t.get pgPower .DEFER = 0 ∧
    t.pw.planPoint = s.get pgPower .PLAN_POINT ∧ t.pw.suppressed = true) ∧
  (∀ (s : State), s.pw.capStack ≠ [] → 100 * s.get pgPower .WATTS < 97 * s.get pgPower .CAP_W → ∃ t : State,
    exec .capRelease s = .next t ∧ t.pw.capStack = s.pw.capStack.dropLast ∧
    (s.lowestRunning ≠ none → t.get pgPower .FREQ_MHZ = s.get pgPower .FREQ_MHZ ∧ t.pw = { s.pw with capStack := s.pw.capStack.dropLast }) ∧
    ∀ p f i, p ≠ pgPower → t.get p f i = s.get p f i))

/-- POWER_UP, BOOT, CLUSTERS_ON, POWER_TRANSITION_COMPLETE, DEVICE_RESET, KEEPER_STOP (R303 to R305, R343, R363, R365, R372, R381, R382, R392): the 40 V stage comes up when every condition holds; the header read names the slots; the accepted slot boots into Hold with BOOT_DONE 1; a pending slot is tried twice before the other is, and recovery begins when neither boots (how tries are counted is log 84's); transitions complete; a reset loses everything but what the keeper, fuses, MRAM and the island keep; a keeper without power keeps its stores alone, the one in progress completed, and the island its last commit. That the release of both reset pins is what POWER_UP tells is the model's choice (log 98). -/
def Obligations.PowerAndBoot : Prop :=
  (∀ (s : State), s.pw.keeperOn = true → s.pw.vauxOk = true → s.pw.armed = true → s.pw.power = .off → s.pw.stage40 = false →
    s.pw.thermLatch = false → 36000 ≤ s.pw.vin → s.pw.vin ≤ 44000 → s.isl.ready = true →
    exec .powerUp s =
      .next (s.setPw { s.pw with stage40 := true, bootPhase := 3, thermTripPin := false, transition := some .hold, inReset := false }).readHdr) ∧
  (∀ (h : Nat × BootHdr) (s : State), s.bootHdr = some h → s.readHdr.sec.active = h.2.active ∧ s.readHdr.sec.pending = h.2.pending ∧
    s.readHdr.sec.attempts = h.2.attempts ∧ s.readHdr.pw = s.pw) ∧
  (∀ (s : State), s.pw.keeperOn = true → s.pw.power = .off → s.pw.stage40 = true → s.pw.bootPhase = 3 → s.pw.recovery = false →
    s.sec.pending = none → s.sec.sfdpOk = true → s.sec.active ∉ s.pw.bootFailed → s.imageOk s.sec.active = true → ∃ t : State,
    exec (.boot true) s = .next t ∧ t.pw.power = .hold ∧
    t.pw.bootPhase = 6 ∧ t.get pgPower .PM_STATE = 3 ∧ t.get pgPcie .BOOT_DONE = 1 ∧ t.directory = some (s.get pgGlobals .PART_LOG2) ∧
    t.sec.booted = s.sec.active ∧ ∀ b < 8, t.get (pgBridge b) .BR_TRAINED = 1 ∧ t.get (pgBridge b) .RUN = 1) ∧
  (∀ (s : State), s.pw.keeperOn = true → s.pw.power = .off → s.pw.stage40 = true → s.pw.bootPhase = 3 → s.pw.recovery = false →
    (s.sec.sfdpOk = false → ∀ c, ∃ t : State, exec (.boot c) s = .next t ∧ t.pw = { s.pw with recovery := true } ∧
      t.get pgPower .DOMAIN_ON 2 = s.get pgPower .DOMAIN_ON 2 &&& 0xFEFF ∧ t.sec = s.sec) ∧
    (s.sec.sfdpOk = true → ∀ c k, (s.imageOk k = false ∨ c = false) →
      (s.sec.pending = some k → s.sec.attempts = 0 →
        exec (.boot c) s = .next { s with sec := { s.sec with attempts := 1, hdrWaiting := true } }) ∧
      (s.sec.pending = some k → s.sec.attempts = 1 → ∃ t : State, exec (.boot c) s = .next t ∧ t.sec.pending = none ∧
        t.get pgSec .FW_PENDING = 0 ∧ k ∈ t.pw.bootFailed ∧ t.sec.active = s.sec.active) ∧
      (s.sec.pending = none → s.pw.bootFailed = [] → s.sec.active = k →
        exec (.boot c) s = .next { s with pw := { s.pw with bootFailed := [k] } }) ∧
      (s.sec.pending = none → s.pw.bootFailed = [s.sec.active] → k = 1 - s.sec.active →
        ∃ t : State, exec (.boot c) s = .next t ∧ t.pw = { s.pw with bootFailed := [k, s.sec.active], recovery := true } ∧
          t.get pgPower .DOMAIN_ON 2 = s.get pgPower .DOMAIN_ON 2 &&& 0xFEFF ∧ t.host.linkL0 = false))) ∧
  (∀ (s : State), s.pw.power = .hold → s.pw.transition = some .run → s.pw.causes = [] → ∃ t : State, exec .clustersOn s = .next t ∧
    t.pw.power = .run ∧ t.pw.transition = none ∧ t.get pgPower .PM_STATE = 1) ∧
  (∀ (s : State), (s.pw.power = .run ∨ s.pw.power = .floor) → s.pw.transition = some .hold →
    exec .powerTransitionComplete s = .next (s.wipeCores.setPower .hold)) ∧
  (∀ (s : State), s.pw.transition = some .off → s.flag pgKeeper .STORE_ACTIVE = false → ∃ t : State,
    exec .powerTransitionComplete s = .next t ∧ t.pw.power = .off ∧ t.pw.armed = false ∧ t.pw.stage40 = false ∧ t.arms = [] ∧
    (∀ b, t.bed b = (s.bed b).cold) ∧ (∀ b, t.get (pgBed b) .FRAME_NUMBER = s.get (pgBed b) .FRAME_NUMBER ∧
      t.get (pgBed b) .ORIGIN_TIME = s.get (pgBed b) .ORIGIN_TIME ∧ t.get (pgBed b) .LOCKED = s.get (pgBed b) .LOCKED) ∧
    t.isl = s.isl ∧ t.evr = s.evr) ∧
  (∀ (r : Bool) (s : State), s.pw.keeperOn = true → ∃ t : State, exec (.deviceReset r) s = .next t ∧ t.pw.power = .off ∧ t.pw.armed = true ∧
    t.pw.bootPhase = 1 ∧ t.beds = [] ∧ t.arms = [] ∧ t.staging = [] ∧ t.isl = s.isl ∧ t.time = s.time ∧ t.get pgPcie .BOOT_DONE = 0 ∧
    (∀ p i, t.get p .LOCKED i = 0) ∧
    (s.flag pgKeeper .STORE_ACTIVE = false → t.evr.slots = s.evr.slots) ∧
    t.pw.thermLatch = (s.pw.thermLatch && !(r && decide (s.pw.tj < 90)))) ∧
  (∀ (s : State), s.pw.keeperOn = true → s.pw.vauxOk = false → ∃ t : State, exec .keeperStop s = .next t ∧ t.pw.keeperOn = false ∧
    t.evr.slots = s.finishStore.evr.slots ∧ t.evr.storedSeq = s.finishStore.evr.storedSeq ∧ (s.flag pgKeeper .STORE_ACTIVE = false → s.finishStore = s) ∧ t.evr.queueGen = [] ∧ t.evr.queueProt = [] ∧ t.evr.readMarks = [] ∧ t.sec.sessions = [] ∧
    t.sec.owners = s.sec.owners ∧ t.time.now = 0 ∧ t.isl.ready = false ∧ t.isl.committed = s.isl.committed ∧
    (t.isl.total, t.isl.aux, t.isl.unattrib, t.isl.beds) = s.isl.committed ∧ t.isl.fault = false ∧ t.isl.load = none)

/-- CP_WATCHDOG_TIMEOUT, CP_RESTART_COMPLETE, CP_RESTART_LIMIT (R352): the keeper restarts the control processor with record 0x0210; a third restart within 10 s enters Hold until a reset. NF_TRAP, CONTEXT_STALL_TIMEOUT, SEQUENCER_ACK_TIMEOUT (R124, R132, R351): a trap marks only the bed; a context that stalled for two frames is reset: its blocks stop, it skips for the rest of the step, and CTX_RESETS counts; a sequencer that does not acknowledge restarts with its bed PAUSED until it realigns. -/
def Obligations.TrapsTimeoutsRestarts : Prop :=
  ((∀ (s : State), 6 ≤ s.pw.bootPhase → s.pw.power ≠ .dormant → s.pw.cpRestarting = false → exec .cpWatchdogTimeout s =
    .next ({ s with pw := { s.pw with cpRestarting := true, cpRestarts := s.time.now ::
      (s.pw.cpRestarts.filter fun t => decide (s.time.now < t + 10000000000)) } }.record 0x0210 pgCp)) ∧
  (∀ (s : State), exec .cpRestartComplete s = .next { s with pw := { s.pw with cpRestarting := false } }) ∧
  (∀ (s : State), s.pw.resetLatch = false → 3 ≤ (s.pw.cpRestarts.filter fun t => decide (s.time.now < t + 10000000000)).length →
    exec .cpRestartLimit s = .next (({ s with pw := { s.pw with resetLatch := true } }.record 0x0211 pgCp).enterHold 0))) ∧
  ((∀ (b : Bed) (s : State), s.flag (pgBed b.val) .NF_TRAP_EN = true → (s.bed b.val).nfFirst.isSome = true → (s.bed b.val).trapped = false →
    exec (.nfTrap b) s = .next (s.setBed b.val { s.bed b.val with trapped := true })) ∧
  (∀ (b : Bed) (c : Core) (x : Ctx) (s : State), 2 ≤ s.get (pgCore .coreSub3 (coreNo b.val c.val)) .STALL_FRAMES x.val → ∃ t : State,
    exec (.contextStallTimeout b c x) s = .next t ∧ t.get (pgCore .coreSub3 (coreNo b.val c.val)) .CTX_STATE x.val = 3 ∧
    t.get (pgCore .coreSub3 (coreNo b.val c.val)) .STALL_FRAMES x.val = 0 ∧
    t.get (pgCore .coreSub2 (coreNo b.val c.val)) .CTX_RESETS = satAdd 16 (s.get (pgCore .coreSub2 (coreNo b.val c.val)) .CTX_RESETS) 1 ∧
    t.get (pgCore .coreSub0 (coreNo b.val c.val)) .CORE_ABANDONED = 1 ∧ t.cores.skip.contains (coreNo b.val c.val, x.val) = true ∧
    (∀ e < 5, ∀ r, Tab.find? t.cores.running (coreNo b.val c.val, e) = some r → r.ctx ≠ x.val) ∧ t.beds = s.beds ∧ t.mem = s.mem) ∧
  (∀ (b : Bed) (s : State), s.runsArm b.val = true → ∃ t : State, exec (.sequencerAckTimeout b) s = .next t ∧ t.seq b.val = seqPaused ∧
    (t.bed b.val).skipping = true ∧ (t.bed b.val).heldUpdates = true ∧ (t.bed b.val).pend = (s.bed b.val).pend ∧
    (t.bed b.val).active = (s.bed b.val).active ∧ t.get (pgBed b.val) .STEP_CNT = s.get (pgBed b.val) .STEP_CNT ∧
    ∀ x < 8, x ≠ b.val → t.seq x = s.seq x))

/-- MET_PULSE, OVERRANGE, METER_COMMIT, SELF_TEST_FAIL, METER_READY, METER_NOT_READY, SEAL_CHANGE (R321, R325 to R328, R332, R334): a pulse for each 360 J; an excursion above 130 A logged once; a commit copies the registers when the energy allows; a failed self-test shows the last commit, is logged and stops the pulses, and changes nothing outside the island; READY touches no register and leaves FAULT as it is. -/
def Obligations.IslandEvents : Prop :=
  (∀ (s : State), s.pw.keeperOn = true → s.isl.ready = true → s.isl.fault = false → 360000000 ≤ s.isl.pulseCarry → exec .metPulse s =
    .next { s with isl := { s.isl with pulseCarry := s.isl.pulseCarry - 360000000, pulses := s.isl.pulses + 1 } }) ∧
  (∀ (ma : Nat) (s : State), s.pw.keeperOn = true → s.isl.ready = true → 130000 < ma → s.isl.ring.length < 256 → exec (.overrange ma) s =
    .next { s with isl := { s.isl with milliamps := ma, ranged := true, ring := if s.isl.ranged then s.isl.ring
      else s.isl.ring ++ [(3, s.isl.tenths / 10)] } }) ∧
  (∀ (mv : Nat) (s : State), s.pw.keeperOn = true → s.isl.ready = true → s.isl.fault = false →
    80000000 ≤ s.isl.holdupC * (mv * mv - 7840000) → exec (.meterCommit mv) s =
    .next { s with isl := { s.isl with committed := (s.isl.total, s.isl.aux, s.isl.unattrib, s.isl.beds) } }) ∧
  (∀ (s : State), s.pw.keeperOn = true → s.isl.fault = false → ∃ t : State, exec .selfTestFail s = .next t ∧ t.isl.fault = true ∧
    (t.isl.total, t.isl.aux, t.isl.unattrib, t.isl.beds) = s.isl.committed ∧ t.isl.committed = s.isl.committed ∧
    t.isl.ring = (s.isl.ring ++ [(4, s.isl.tenths / 10)]).drop (s.isl.ring.length + 1 - 256) ∧ { t with isl := s.isl } = s) ∧
  (∀ (s : State), s.isl.fault = true → exec .metPulse s = .next s) ∧
  (∀ (s : State), s.pw.keeperOn = true → s.isl.ready = false → ∃ t : State, exec .meterReady s = .next t ∧ t.isl.ready = true ∧
    t.isl = { s.isl with ready := true } ∧ { t with isl := s.isl } = s) ∧
  (∀ (s : State), s.pw.keeperOn = true → s.pw.vauxOk = true → s.isl.ready = false → exec .meterNotReady s = .next (s.record 0x0D41 pgKeeper)) ∧
  (∀ (c : Bool) (s : State), s.pw.keeperOn = true → s.isl.sealClosed = !c → s.isl.ring.length < 256 → exec (.sealChange c) s =
    .next { s with isl := { s.isl with sealClosed := c, ring := s.isl.ring ++ [(1, s.isl.tenths / 10)] } })

/-- ATTRIBUTION_INTERVAL (R321 to R323): energy at or below the starting current does not count; each bed gets its share of what counts, rounded down; the rest is UNATTRIBUTED; AUX counts on its own. For a counted interval of 1,000,003 µJ over branches of 1 A and 2 A the shares are 333,334 and 666,668 µJ. SNAPSHOT, SNAPSHOT_STALE (R329, R336): a good snapshot shows READY, FAULT, seal, OVERRANGE, the energies in mJ, the software identification and the audit count in the mirror page, clears STALE and counts in SNAP_SEQ; a bad one is only counted; 100 ms without a good one set STALE. READ_ENERGY, READ_STATUS, READ_SW_ID, READ_AUDIT, READ_CFG and unknown codes on the island's port (R331, R334). The order of an audit entry's bytes is the model's reading (log 11). -/
def Obligations.AttributionSnapshotsAndReads : Prop :=
  ((∀ (input aux : Nat) (br : List Nat) (ma : Nat) (s : State), s.pw.keeperOn = true → s.isl.ready = true → s.isl.fault = false → 100 < ma →
    s.isl.beds.length = 8 → ∃ t : State, exec (.attributionInterval input aux br ma) s = .next t ∧ t.isl.total = s.isl.total + input ∧
    t.isl.aux = s.isl.aux + aux ∧ (∀ b < 8, t.isl.beds[b]? = some (s.isl.beds.getD b 0 + input * br.getD b 0 / (br.take 8).sum)) ∧
    t.isl.unattrib + t.isl.beds.sum = s.isl.unattrib + s.isl.beds.sum + input ∧ t.isl.tenths = s.isl.tenths + 1 ∧
    t.isl.committed = s.isl.committed ∧ { t with isl := s.isl } = s) ∧
  (∀ (input aux : Nat) (br : List Nat) (ma : Nat) (s : State), s.pw.keeperOn = true → s.isl.ready = true → s.isl.fault = false → ma ≤ 100 →
    s.isl.beds.length = 8 → ∃ t : State, exec (.attributionInterval input aux br ma) s = .next t ∧ t.isl.total = s.isl.total ∧
    t.isl.beds = s.isl.beds ∧ t.isl.unattrib = s.isl.unattrib ∧ t.isl.aux = s.isl.aux + aux) ∧
  shares 1000003 [1000, 2000, 0, 0, 0, 0, 0, 0] = [333334, 666668, 0, 0, 0, 0, 0, 0]) ∧
  ((∀ (s : State), s.pw.keeperOn = true → s.isl.ready = true → exec (.snapshot false) s = .next (s.bump pgMirror .SNAP_BAD)) ∧
  (∀ (s : State), s.pw.keeperOn = true → s.isl.ready = true → s.isl.version = s.sec.measure5 → s.isl.code = s.sec.measure5Code →
    s.isl.mirrored = s.isl.audit.length → s.evr.auditWait = [] → ∃ t : State, exec (.snapshot true) s = .next t ∧
    t.get pgMirror .TOTAL_MJ = s.isl.total / 1000 % 2 ^ 64 ∧ t.get pgMirror .AUX_MJ = s.isl.aux / 1000 % 2 ^ 64 ∧
    t.get pgMirror .UNATTRIB_MJ = s.isl.unattrib / 1000 % 2 ^ 64 ∧
    (∀ b < 8, t.get pgMirror .BED_MJ b = s.isl.beds.getD b 0 / 1000 % 2 ^ 64) ∧
    t.get pgMirror .AUDIT_CNT = s.isl.auditCnt % 2 ^ 32 ∧ t.get pgMirror .SNAP_SEQ = (s.get pgMirror .SNAP_SEQ + 1) % 2 ^ 32 ∧
    t.get pgMirror .SW_VERSION = s.isl.version % 2 ^ 32 ∧ t.get pgMirror .SW_CRC = crc32c (s.isl.code.getD Config.islandCode) % 2 ^ 32 ∧
    t.get pgMirror .MET_READY = 1 ∧ t.get pgMirror .MET_FAULT = b2n s.isl.fault ∧ t.get pgMirror .OVERRANGE = b2n s.isl.ranged ∧
    t.get pgMirror .STALE = 0 ∧ t.get pgMirror .SEAL_CLOSED = b2n s.isl.sealClosed ∧
    t.isl = { s.isl with sinceGood := s.time.now } ∧ (∀ p f i, p ≠ pgMirror → t.get p f i = s.get p f i) ∧
    { t with isl := s.isl, regs := s.regs } = s) ∧
  (∀ (s : State), s.pw.keeperOn = true → s.isl.sinceGood + 100000000 ≤ s.time.now → exec .snapshotStale s = .next (s.put pgMirror .STALE 1))) ∧
  (∀ (s : State), s.pw.keeperOn = true →
    exec .readEnergy s = .next (s.reply 0 (leBytes 8 (s.isl.total / 1000) ++ leBytes 8 (s.isl.aux / 1000) ++ leBytes 8 (s.isl.unattrib / 1000) ++
      allBeds.flatMap fun b => leBytes 8 (s.isl.beds.getD b 0 / 1000))) ∧
    exec .readStatus s = .next (s.reply 0 (leBytes 4 (b2n s.isl.ready + 2 * b2n s.isl.fault + 4 * b2n s.isl.sealClosed + 8 * b2n s.isl.ranged) ++
      leBytes 4 (s.isl.tenths / 10))) ∧
    exec .readSwId s = .next (s.reply 0 ([0x56, 0x4C, 0x4E, 0x2D, 0x4D, 0x45, 0x54] ++ leBytes 4 s.isl.version ++
      leBytes 4 (crc32c (s.isl.code.getD Config.islandCode)))) ∧
    (∀ i a, s.isl.audit[i]? = some a → exec (.readAudit i) s = .next (s.reply 0 (leBytes 4 s.isl.auditCnt ++ auditBytes a))) ∧
    (∀ i, s.isl.audit.length ≤ i → exec (.readAudit i) s = .next (s.reply 0x01)) ∧
    exec .readCfg s = .next (s.reply 0 (leBytes 2 s.isl.holdupC)) ∧
    (∀ code, code ∉ [0x01, 0x02, 0x03, 0x04, 0x05, 0x10, 0x11, 0x12, 0x13] → exec (.islandUnknownCommand code) s = .next (s.reply 0x03)))

/-- CFG_WRITE, FW_BEGIN, FW_CHUNK, FW_END (R331, R333, R334): refused with SEALED while the seal is closed; with it open, each does its part: the configuration change commits the registers and enters the audit trail, new software is loaded in chunks without load, is refused under load, and, once the whole image verifies under the island's own key, takes over with an audit entry, while a bad signature or a missing byte leaves the old one; FW_END with a payload, for which it has no place, is a wrong length; a transaction with a bad PEC does nothing. -/
def Obligations.IslandChanges : Prop :=
  (∀ (mf mv : Nat) (s : State), s.pw.keeperOn = true → 100 ≤ mf → mf ≤ 10000 → s.isl.sealClosed = true →
    exec (.cfgWrite mf mv) s = .next (s.reply 0x10)) ∧
  (∀ (mf mv : Nat) (s : State), s.pw.keeperOn = true → 100 ≤ mf → mf ≤ 10000 → s.isl.sealClosed = false → s.isl.audit.length < 1024 →
    80000000 ≤ s.isl.holdupC * (mv * mv - 7840000) → ∃ t : State, exec (.cfgWrite mf mv) s = .next t ∧ t.isl.holdupC = mf ∧
    t.isl.auditCnt = s.isl.auditCnt + 1 ∧ t.isl.committed = (s.isl.total, s.isl.aux, s.isl.unattrib, s.isl.beds) ∧ t.out.status = 0 ∧
    t.isl.audit = s.isl.audit ++ [⟨s.isl.audit.length, 1, s.isl.auditCnt + 1, s.isl.tenths / 10, s.isl.total / 1000, s.isl.holdupC, mf⟩] ∧
    { t with isl := s.isl, out := s.out } = s) ∧
  (∀ (n ma : Nat) (s : State), s.pw.keeperOn = true → s.isl.sealClosed = false → ma ≤ 100 → exec (.fwBegin n ma) s =
    .next ({ s with isl := { s.isl with load := some n, image := [], milliamps := ma } }.reply 0)) ∧
  (∀ (n ma : Nat) (s : State), s.pw.keeperOn = true → s.isl.sealClosed = false → 100 < ma →
    exec (.fwBegin n ma) s = .next (s.reply 0x0B)) ∧
  (∀ (off n : Nat) (d : List Byte) (s : State), s.pw.keeperOn = true → s.isl.sealClosed = false → s.isl.load = some n →
    d.length ≤ 240 → off + d.length ≤ n → exec (.fwChunk off d) s = .next ({ s with isl := { s.isl with image := s.isl.image.putAll off d } }.reply 0)) ∧
  (∀ (mv ma n : Nat) (image : List Byte) (s : State), s.pw.keeperOn = true → s.isl.sealClosed = false → s.isl.load = some n →
    s.isl.audit.length < 1024 → 80000000 ≤ s.isl.holdupC * (mv * mv - 7840000) → image.length = n →
    (∀ i < n, Tab.find? s.isl.image i = image[i]?) → ∃ t : State, exec (.fwEnd mv ma) s = .next t ∧ t.isl.load = none ∧ t.isl.image = [] ∧
    t.isl.total = s.isl.total ∧ t.isl.committed = (s.isl.total, s.isl.aux, s.isl.unattrib, s.isl.beds) ∧
    { t with isl := s.isl, out := s.out } = s ∧
    if Config.ecdsaOk Config.islandKey (Config.islandParts image).1 (Config.islandParts image).2 then t.out.status = 0 ∧
      t.isl.version = Config.imageVersion image % 2 ^ 32 ∧ t.isl.code = some (Config.islandParts image).1 ∧
      t.isl.auditCnt = s.isl.auditCnt + 1 ∧ t.isl.audit = s.isl.audit ++ [⟨s.isl.audit.length, 2, s.isl.auditCnt + 1, s.isl.tenths / 10,
        s.isl.total / 1000, s.isl.version, Config.imageVersion image % 2 ^ 32⟩]
    else t.out.status = 0x0F ∧ t.isl.version = s.isl.version ∧ t.isl.code = s.isl.code ∧ t.isl.auditCnt = s.isl.auditCnt) ∧
  (∀ (mv ma n i : Nat) (s : State), s.pw.keeperOn = true → s.isl.sealClosed = false → s.isl.load = some n → s.isl.audit.length < 1024 →
    80000000 ≤ s.isl.holdupC * (mv * mv - 7840000) → i < n → Tab.find? s.isl.image i = none → ∃ t : State, exec (.fwEnd mv ma) s = .next t ∧
    t.isl.version = s.isl.version ∧ t.isl.code = s.isl.code ∧ t.isl.auditCnt = s.isl.auditCnt ∧ t.isl.load = none ∧ t.out.status = 0x0F) ∧
  (∀ (off n mv ma : Nat) (d : List Byte) (s : State), s.pw.keeperOn = true → s.isl.sealClosed = true →
    exec (.fwBegin n ma) s = .next (s.reply 0x10) ∧ exec (.fwEnd mv ma) s = .next (s.reply 0x10) ∧
    (d.length ≤ 240 → s.isl.load = none → exec (.fwChunk off d) s = .next (s.reply 0x10)) ∧
    (d ≠ [] → exec (.fwEnd mv ma d) s = .next (s.reply 0x02))) ∧
  (∀ (mf mv off n ma : Nat) (d : List Byte) (s : State), exec (.cfgWrite mf mv false) s = .next s ∧
    exec (.fwBegin n ma false) s = .next s ∧ exec (.fwChunk off d false) s = .next s ∧ exec (.fwEnd mv ma d false) s = .next s)

/-- The TAP's instructions (R385, R386, R390): BYPASS, whose opcode is all ones and what any unsupported opcode loads, and IDCODE always load; SAMPLE/PRELOAD stores the cells; what drives pins loads only in Hold with every bed at rest and no session, else, outside Hold, with a bed not at rest or a session open, as BYPASS with record 0x0D43; the board declaration is programmed once, within its range, and gives HOLDUP_CAP. -/
def Obligations.TestAccessPort : Prop :=
  ∀ (s : State), s.pw.keeperOn = true →
    (∀ op, tapInstr op = 0 → exec (.bypass op) s = .next { s with tap := { s.tap with instr := 0 } }) ∧ tapInstr 0xFF = 0 ∧
    exec (.bypass 0x2A) s = .next s ∧
    exec .idcode s = .next ({ s with tap := { s.tap with instr := 1 } }.answer (0x13072001 + 2 * Config.jep106.toNat)) ∧
    (∀ l, exec (.samplePreload (some l)) s = .next { s with tap := { s.tap with instr := 2, cells := l } }) ∧
    (∃ t : State, exec (.samplePreload none) s = .next t ∧ t.tap.instr = 2 ∧ t.tap.cells.length = Config.cellCount.toNat ∧
      (∀ i, i < Config.cellCount.toNat → Config.laneCell i = true → s.pw.power ≠ .hold → t.tap.cells[i]? = some false) ∧
      { t with tap := s.tap, free := s.free } = s) ∧
    (s.pw.power = .hold → (∀ b ∈ allBeds, s.bedQuiet b = true ∧ s.sessionOpen b = false) →
      exec .extest s = .next { s with tap := { s.tap with instr := 3 } } ∧ exec .extestPulse s = .next { s with tap := { s.tap with instr := 4 } } ∧
      exec .extestTrain s = .next { s with tap := { s.tap with instr := 5 } } ∧ exec .clamp s = .next { s with tap := { s.tap with instr := 6 } } ∧
      exec .highz s = .next { s with tap := { s.tap with instr := 7 } }) ∧
    ((s.pw.power ≠ .hold ∨ (∃ b ∈ allBeds, s.bedQuiet b = false) ∨ (∃ q ∈ allBeds, s.sessionOpen q = true)) →
      ∀ e ∈ [(Instr.extest, 3), (Instr.extestPulse, 4), (Instr.extestTrain, 5), (Instr.clamp, 6), (Instr.highz, 7)],
      exec e.1 s = .next ({ s with tap := { s.tap with instr := 0 } }.record 0x0D43 pgKeeper (leBytes 1 (Config.tapOpcode e.2).toNat))) ∧
    (∀ w, bitAt s.tap.otp 63 = false → 100 ≤ w % 65536 → w % 65536 ≤ 10000 → w / 2 ^ 32 % 2 ^ 31 = 0 → ∃ t : State,
      exec (.boardOtp w) s = .next t ∧ t.tap.otp = w % 2 ^ 63 + 2 ^ 63 ∧ t.tap.instr = 8 ∧ t.get pgKeeper .HOLDUP_CAP = w % 65536) ∧
    (∀ w, bitAt s.tap.otp 63 = true → exec (.boardOtp w) s = .next ({ s with tap := { s.tap with instr := 8 } }.record 0x0D42 pgKeeper
      (leBytes 1 1 ++ List.replicate 7 0 ++ leBytes 8 w)))

/-- LEDGER_ENTRY_WRITE, LEDGER_STALL, DRBG_RESEED, ENTROPY_HEALTH_FAIL (R270 to R274, R292, R390): the oldest settled step of a noise armature gets its entry; a late one stalls into Hold; a reseed restarts a generator and counts, or stops it with record 0x0F11; failed health tests stop every generator with ES_FAIL; a stopped one is tried again at each step boundary (with which result is log 22's). -/
def Obligations.NoiseLedger : Prop :=
  (∀ (q : Bed) (step : Nat) (o : OpenStep) (s : State), s.ledgerDue q.val = some (step, o) → ∃ r : Record, r.code = 0x0F01 ∧
    exec (.ledgerEntryWrite q) s = .next (((s.setNoise q.val { s.noiseOf q.val with
      waiting := (s.noiseOf q.val).waiting ++ [(step, entryRecords r (s.ledgerEntry q.val step o))] }).onStep q.val step
        (fun o => { o with entered := true })).feed)) ∧
  (∀ (q : Bed) (s : State), s.ledgerLate q.val = true → exec (.ledgerStall q) s =
    .next ((((s.put (pgLink 0) .LEDGER_STALL 1 q.val).evt (pgLink 0) 5).record 0x0F10 (pgLink 0)).enterHold 8)) ∧
  (∀ (q : Bed) (s : State), 65536 ≤ (s.noiseOf q.val).requests → (s.noiseOf q.val).stopped = false →
    exec (.drbgReseed q false) s = .next (((s.setNoise q.val { s.noiseOf q.val with stopped := true }).put (pgLink 0) .PRIV_ES_FAIL 1 q.val).record
      0x0F11 (pgLink 0) (leBytes 1 q.val))) ∧
  (∀ (q : Bed) (s : State), 65536 ≤ (s.noiseOf q.val).requests → (s.noiseOf q.val).stopped = false → ∃ t : State,
    exec (.drbgReseed q true) s = .next t ∧ (t.noiseOf q.val).inst = some s.free ∧ (t.noiseOf q.val).requests = 0 ∧
    (t.noiseOf q.val).stopped = false ∧ t.get (pgLink 0) .PRIV_ES_FAIL q.val = 0 ∧ t.get (pgLink 0) .DRBG_READY q.val = 1 ∧
    (∀ p ≠ q.val, t.noiseOf p = s.noiseOf p)) ∧
  (∀ (q : Bed) (ok : Bool) (s : State), (s.noiseOf q.val).stopped = true → s.tickDue (s.leadBed q.val) = true →
    s.atBoundary (s.leadBed q.val) = true →
    exec (.drbgReseed q ok) s = .next (({ s with sec := { s.sec with sourceFailed := !ok } }).tick (s.leadBed q.val))) ∧
  (∀ (q : Nat) (s : State), (s.noiseOf q).stopped = true →
    ((s.retryNoise q).noiseOf q).stopped = s.sec.sourceFailed ∧
    (s.sec.sourceFailed = false → ((s.retryNoise q).noiseOf q).inst = some s.free ∧ (s.retryNoise q).get (pgLink 0) .PRIV_ES_FAIL q = 0)) ∧
  (∀ (s : State), s.pw.keeperOn = true → ∃ t : State, exec .entropyHealthFail s = .next (t.raise pgSec 5) ∧ t.sec.sourceFailed = true ∧
    t.get pgSec .SEC_ES_FAIL = 1 ∧ (∀ q < 8, (s.noiseOf q).inst.isSome = true → (t.noiseOf q).stopped = true) ∧
    ∀ q < 8, (s.noiseOf q).inst = none → t.noiseOf q = s.noiseOf q)

/-- FRAME_TICK (R134, R135): a due tick begins the bed's next frame: its FRAME_NUMBER becomes that frame's, whatever else the tick does, staged sets that take effect included, and no time passes in it. The premises are invariants stated above: the staged values are of frame-committed fields, and the partition count is legal. -/
def Obligations.TicksBeginTheNextFrame : Prop :=
  ∀ (b : Bed) (s : State), s.tickDue b.val = true → s.stagingLegal → s.partsLegal → ∃ t : State, exec (.frameTick b) s = .next t ∧
    t.get (pgBed b.val) .FRAME_NUMBER = s.nextFrame b.val % 2 ^ 48 ∧ t.time.now = s.time.now ∧ t.pending = s.pending

/-- FRAME_TICK with staged sets and with a planned activation (R31, R33, R34, R151 to R153, R163, R167): the oldest waiting set of a page that takes the bed's tick takes effect whole, with APPLIED and APPLY_FRAME, and the next one waits for the next tick; a set that skips the tick goes on waiting. An armed bed switches at the tick of START_FRAME: the counters hold the START values, FRAME_IN_STEP is 0, the bed runs the armature, SWITCH_PENDING is 0 and SWITCH_DONE is raised; without the group's certified vote the switch is refused and the bed is back in the state that it left, an origin that the activation set cleared. -/
def Obligations.StagedSetsAndSwitches : Prop :=
  (∀ (b : Bed) (p : Page) (set : List (FieldKey × Nat)) (rest : List (List (FieldKey × Nat) × Nat)) (s : State),
    s.tickDue b.val = true → s.stagingLegal → s.partsLegal → (s.bed b.val).stopping = false → headed p.kind = true →
    s.tickBed p = some b.val → (s.stagingOf p).waiting = (set, 0) :: rest → ∃ t : State, exec (.frameTick b) s = .next t ∧
    t.get p .APPLIED = 1 ∧ t.get p .APPLY_FRAME = s.nextFrame b.val % 65536 ∧ (t.stagingOf p).waiting = ageSets rest ∧
    (t.stagingOf p).openSet = (s.stagingOf p).openSet ∧
    (∀ v, (set.filter fun e => e.1.fld == .TRAP_EN).getLast? = some (⟨p, .TRAP_EN, 0⟩, v) → t.get p .TRAP_EN = v % 2) ∧
    (∀ v, (set.filter fun e => e.1.fld == .HOST_BUDGET).getLast? = some (⟨p, .HOST_BUDGET, 0⟩, v) → t.get p .HOST_BUDGET = v % 2 ^ 24)) ∧
  (∀ (b : Bed) (p : Page) (set : List (FieldKey × Nat)) (k : Nat) (rest : List (List (FieldKey × Nat) × Nat)) (s : State),
    s.tickDue b.val = true → s.stagingLegal → s.partsLegal → (s.bed b.val).stopping = false → headed p.kind = true →
    s.tickBed p = some b.val → (s.stagingOf p).waiting = (set, k + 1) :: rest → ∃ t : State, exec (.frameTick b) s = .next t ∧
    (t.stagingOf p).waiting = (set, k) :: ageSets rest ∧ t.get p .APPLIED = s.get p .APPLIED) ∧
  (∀ (b : Bed) (a : Activation) (f : File) (s : State), s.tickDue b.val = true → s.stagingLegal → s.partsLegal →
    (∀ q, (s.part q).changes = []) → (∀ code, s.voteDue (s.partOf b.val) code (s.nextFrame b.val) = []) → s.seq b.val = seqArmed →
    s.runsArm (s.leadBed (s.partOf b.val)) = false → (s.bed b.val).pend = some a → a.startFrame = s.nextFrame b.val →
    f = s.fileOf (s.partOf b.val) a.slot →
    ((armGroup f ≤ 1 ∨ a.voted = true) → ∃ t : State, exec (.frameTick b) s = .next t ∧ (t.bed b.val).active = some a.slot ∧
      (t.bed b.val).pend = none ∧ t.get (pgBed b.val) .SWITCH_PENDING = 0 ∧ t.get (pgBed b.val) .STEP_CNT = a.startStep % 2 ^ 32 ∧
      t.get (pgBed b.val) .EPOCH_CNT = a.startEpoch % 2 ^ 16 ∧ t.get (pgBed b.val) .FRAME_IN_STEP = 0 ∧
      t.get (pgBed b.val) .OVERRUN_CNT = 0 ∧ t.get (pgBed b.val) .FRAMES_PER_STEP = armFps f ∧ t.get (pgBed b.val) .FRAME_US = armFrameUs f ∧
      t.get (pgBed b.val) .ARM_ACTIVE = armId f ∧ t.seq b.val = (if (s.bed b.val).skipping then seqPaused else seqRunning) ∧
      t.get (pgBed b.val) .RUN = 1 ∧ bitAt (t.get (pgBed b.val) .EVT) 3 = true) ∧
    ((1 < armGroup f ∧ a.voted = false) → ∃ t : State, exec (.frameTick b) s = .next t ∧ (t.bed b.val).pend = none ∧
      (t.bed b.val).active = (s.bed b.val).active ∧ t.get (pgBed b.val) .SWITCH_PENDING = 0 ∧ (a.running = false → t.seq b.val = a.from_ % 8) ∧
      (t.bed b.val).origin = !a.setOrigin ∧ bitAt (t.get (pgBed b.val) .EVT) 4 = true))

/-- FRAME_TICK and STEP_BOUNDARY on a bed that runs an armature (R134, R155, R156, R163): a step boundary counts STEP and restarts FRAME_IN_STEP; any other tick counts FRAME_IN_STEP; unfinished work is one overrun, after which the bed is PAUSED, and the next tick realigns it. -/
def Obligations.RunningTicks : Prop :=
  ∀ (b : Bed) (s : State), s.tickDue b.val = true → s.stagingLegal → s.partsLegal → (∀ q, (s.part q).changes = []) → (s.bed b.val).pend = none →
    (s.bed b.val).stopping = false → (∀ code, s.voteDue (s.partOf b.val) code (s.nextFrame b.val) = []) →
    (s.atBoundary b.val = true → ∃ t : State, exec (.stepBoundary b) s = .next t ∧ exec (.frameTick b) s = .next t ∧
      t.get (pgBed b.val) .STEP_CNT = nextStep (s.get (pgBed b.val) .STEP_CNT) ∧ t.get (pgBed b.val) .FRAME_IN_STEP = 0) ∧
    (s.runsArm b.val = true → s.atBoundary b.val = false → s.atBoundary (s.leadBed (s.partOf b.val)) = false → ∃ t : State,
      exec (.frameTick b) s = .next t ∧ t.get (pgBed b.val) .STEP_CNT = s.get (pgBed b.val) .STEP_CNT ∧
      t.get (pgBed b.val) .FRAME_IN_STEP = (s.get (pgBed b.val) .FRAME_IN_STEP + 1) % 65536 ∧
      (s.seq b.val = seqRunning → s.unfinished b.val = true → t.seq b.val = seqPaused ∧
        t.get (pgBed b.val) .OVERRUN_CNT = satAdd 32 (s.get (pgBed b.val) .OVERRUN_CNT) 1) ∧
      (s.seq b.val = seqRunning → s.unfinished b.val = false → t.seq b.val = seqRunning ∧
        t.get (pgBed b.val) .OVERRUN_CNT = s.get (pgBed b.val) .OVERRUN_CNT) ∧
      (s.seq b.val = seqPaused → t.seq b.val = seqRunning ∧
        t.get (pgBed b.val) .REALIGN_CNT = satAdd 32 (s.get (pgBed b.val) .REALIGN_CNT) 1))

/-- PRECISION_RETRY and PRECISION_SHIFT_RESET (R102, R103): the lead bed's tick at the step boundary at which the event is due, and nothing otherwise. At such a boundary a layer whose retry is due goes one state back towards F4, by retry; a certified trip moves it one state away from F4, and takes SHIFT up where it follows a retry too soon; after 4 × RETRY_STEPS steps in F4 SHIFT returns to 0; a pinned layer, one without the variant and one in the last state keep their state; other layers keep theirs, and the boundary treats each layer so. That a trip goes before a retry is the manual's order; that it goes before the reset of SHIFT is the model's choice (log 91). -/
def Obligations.PrecisionEvents : Prop :=
  (∀ (q : Bed) (l : Nat) (s : State), s.tickDue (s.leadBed q.val) = true → s.atBoundary (s.leadBed q.val) = true → l < 1024 →
    (s.retryDue (pgLayer (s.partFirst q.val)) l (satAdd 16 (s.get (pgLayer (s.partFirst q.val)) .STEPS_IN_STATE l) 1) = true →
      exec (.precisionRetry q l) s = .next (s.tick (s.leadBed q.val))) ∧
    (s.get (pgLayer (s.partFirst q.val)) .LAYER_ST l = 0 →
      satAdd 16 (s.get (pgLayer (s.partFirst q.val)) .STEPS_IN_STATE l) 1 = 4 * s.retrySteps (pgLayer (s.partFirst q.val)) →
      exec (.precisionShiftReset q l) s = .next (s.tick (s.leadBed q.val)))) ∧
  (∀ (q : Bed) (l : Nat) (s : State), (s.tickDue (s.leadBed q.val) = false ∨ s.atBoundary (s.leadBed q.val) = false) →
    exec (.precisionRetry q l) s = .next s ∧ exec (.precisionShiftReset q l) s = .next s) ∧
  (∀ (q n : Nat) (s : State), s.runsArm (s.leadBed q) = true →
    s.tickPart q n true = (s.partBoundary q (s.get (pgBed (s.leadBed q)) .STEP_CNT)).epochBoundary q n
      (s.get (pgBed (s.leadBed q)) .STEP_CNT)) ∧
  (∀ (q l step : Nat) (f : File) (s : State), s.get (pgLayer (s.partFirst q)) .LAYER_MODE l ≠ 1 → step < 2 ^ 32 →
    (s.tripApplies q l = false →
      s.retryDue (pgLayer (s.partFirst q)) l (satAdd 16 (s.get (pgLayer (s.partFirst q)) .STEPS_IN_STATE l) 1) = true →
      s.get (pgLayer (s.partFirst q)) .LAYER_ST l < 4 → hasVariant f l (s.get (pgLayer (s.partFirst q)) .LAYER_ST l - 1) = true →
      (s.evalLayer q f l step).get (pgLayer (s.partFirst q)) .LAYER_ST l = s.get (pgLayer (s.partFirst q)) .LAYER_ST l - 1 ∧
      (s.evalLayer q f l step).get (pgLayer (s.partFirst q)) .BY_RETRY l = 1 ∧
      (s.evalLayer q f l step).get (pgLayer (s.partFirst q)) .STEPS_IN_STATE l = 0 ∧
      (s.evalLayer q f l step).get (pgLayer (s.partFirst q)) .LAST_SWITCH_STEP l = step) ∧
    (s.tripApplies q l = true → s.get (pgLayer (s.partFirst q)) .LAYER_ST l < 2 → s.get (pgLayer (s.partFirst q)) .LAYER_SHIFT l < 8 →
      hasVariant f l (s.get (pgLayer (s.partFirst q)) .LAYER_ST l + 1) = true →
      (s.evalLayer q f l step).get (pgLayer (s.partFirst q)) .LAYER_ST l = s.get (pgLayer (s.partFirst q)) .LAYER_ST l + 1 ∧
      (s.evalLayer q f l step).get (pgLayer (s.partFirst q)) .BY_RETRY l = 0 ∧
      (s.evalLayer q f l step).get (pgLayer (s.partFirst q)) .STEPS_IN_STATE l = 0 ∧
      (s.evalLayer q f l step).get (pgLayer (s.partFirst q)) .LAST_SWITCH_STEP l = step ∧
      (s.evalLayer q f l step).get (pgLayer (s.partFirst q)) .LAYER_SHIFT l =
        if s.get (pgLayer (s.partFirst q)) .BY_RETRY l = 1 ∧
            satAdd 16 (s.get (pgLayer (s.partFirst q)) .STEPS_IN_STATE l) 1 < s.retrySteps (pgLayer (s.partFirst q))
          then min (s.get (pgLayer (s.partFirst q)) .LAYER_SHIFT l + 1) 4 else s.get (pgLayer (s.partFirst q)) .LAYER_SHIFT l) ∧
    (s.tripApplies q l = true → 2 ≤ s.get (pgLayer (s.partFirst q)) .LAYER_ST l →
      (s.evalLayer q f l step).get (pgLayer (s.partFirst q)) .LAYER_ST l = s.get (pgLayer (s.partFirst q)) .LAYER_ST l ∧
      (s.evalLayer q f l step).get (pgLayer (s.partFirst q)) .STEPS_IN_STATE l = 0)) ∧
  (∀ (q l step : Nat) (f : File) (s : State),
    ((s.get (pgLayer (s.partFirst q)) .LAYER_MODE l = 1 ∨ ∀ st, hasVariant f l st = false) →
      (s.evalLayer q f l step).get (pgLayer (s.partFirst q)) .LAYER_ST l = s.get (pgLayer (s.partFirst q)) .LAYER_ST l) ∧
    (s.tripApplies q l = false → s.get (pgLayer (s.partFirst q)) .LAYER_ST l = 0 →
      satAdd 16 (s.get (pgLayer (s.partFirst q)) .STEPS_IN_STATE l) 1 = 4 * s.retrySteps (pgLayer (s.partFirst q)) →
      (s.evalLayer q f l step).get (pgLayer (s.partFirst q)) .LAYER_SHIFT l = 0 ∧
      (s.evalLayer q f l step).get (pgLayer (s.partFirst q)) .LAYER_ST l = 0) ∧
    (∀ x ≠ l, ∀ g ∈ [Fld.LAYER_ST, .BY_RETRY, .LAYER_SHIFT, .STEPS_IN_STATE, .LAST_SWITCH_STEP],
      (s.evalLayer q f l step).get (pgLayer (s.partFirst q)) g x = s.get (pgLayer (s.partFirst q)) g x)) ∧
  (∀ (q l step : Nat) (s : State), l < 1024 → (∀ t ∈ (s.part q).tripped, t.1 ≠ l) →
    ∀ g ∈ [Fld.LAYER_ST, .BY_RETRY, .LAYER_SHIFT, .STEPS_IN_STATE, .LAST_SWITCH_STEP],
      (s.evalLayers q step).get (pgLayer (s.partFirst q)) g l =
        (s.evalLayer q (s.partArm q) l step).get (pgLayer (s.partFirst q)) g l)

/-- ADD to CVT_BF16 (R126, R145): each lane's result of its sources. The values of RCP, RSQRT, EXP2 and LOG2 within the manual's bounds, and SEL and MIN of a NaN, are the model's choice (log 10). CMPLT, CMPEQ, IADD, AND, OR, XOR, SHL, SHR (R126, R145): masks, 32-bit sums modulo 2^32, bitwise results and shifts that give 0 from 32 places on; none raises a flag. -/
def Obligations.VectorArithmetic : Prop :=
  ((∀ (w : VWhere) (i : VArgs) (s : State), argsOk i = true →
    vectorGives (.vAdd w i) w i (fun a b _ => addF a b) s ∧ vectorGives (.vSub w i) w i (fun a b _ => subF a b) s ∧
    vectorGives (.vMul w i) w i (fun a b _ => mulF a b) s ∧ vectorGives (.vFma w i) w i fmaF s ∧
    vectorGives (.vMin w i) w i (fun a b _ => pickF true a b) s ∧ vectorGives (.vMax w i) w i (fun a b _ => pickF false a b) s ∧
    vectorGives (.vAbs w i) w i (fun a _ _ => absF a) s ∧ vectorGives (.vNeg w i) w i (fun a _ _ => negF a) s ∧
    vectorGives (.vSel w i) w i selF s ∧ vectorGives (.vSqrt w i) w i (fun a _ _ => sqrtF a) s ∧
    vectorGives (.vRcp w i) w i (fun a _ _ => rcpF a) s ∧ vectorGives (.vRsqrt w i) w i (fun a _ _ => rsqrtF a) s ∧
    vectorGives (.vExp2 w i) w i (fun a _ _ => exp2F a) s ∧ vectorGives (.vLog2 w i) w i (fun a _ _ => log2F a) s ∧
    vectorGives (.vCvtInt32 w i) w i (fun a _ _ => (cvtInt a).1) s ∧ vectorGives (.vCvtBf16 w i) w i (fun a _ _ => cvtBf a) s) ∧
  addF 0x3F800000 0x33800000 = 0x3F800000 ∧ addF 0x3F800001 0x33800000 = 0x3F800002 ∧ addF 0x7F7FFFFF 0x7F7FFFFF = 0x7F800000 ∧
  subF 0x7F800000 0x7F800000 = fp32.nan ∧ mulF 0x40400000 0xC0000000 = 0xC0C00000 ∧ mulF 0x7F800000 0 = fp32.nan ∧
  fmaF 0x3F800001 0x3F800001 0xBF800002 = 0x28800000 ∧ pickF true 0 0x80000000 = 0x80000000 ∧ pickF false 0x80000000 0 = 0 ∧
  sqrtF 0x40800000 = 0x40000000 ∧ sqrtF 0xBF800000 = fp32.nan ∧ log2F 0 = 0xFF800000 ∧ absF 0xC0000000 = 0x40000000 ∧
  cvtInt 0x4F800000 = (0x7FFFFFFF, ⟨false, false, true, false⟩) ∧ cvtInt 0x40200000 = (2, Flags.none)) ∧
  ∀ (w : VWhere) (i : VArgs) (s : State), argsOk i = true →
    vectorGives (.vCmplt w i) w i (fun a b _ => if ltF a b then 0xFFFFFFFF else 0) s ∧
    vectorGives (.vCmpeq w i) w i (fun a b _ => if eqF a b then 0xFFFFFFFF else 0) s ∧
    vectorGives (.vIadd w i) w i (fun a b _ => a + b) s ∧ vectorGives (.vAnd w i) w i (fun a b _ => a &&& b) s ∧
    vectorGives (.vOr w i) w i (fun a b _ => a ||| b) s ∧ vectorGives (.vXor w i) w i (fun a b _ => a ^^^ b) s ∧
    vectorGives (.vShl w i) w i (fun a b _ => if b < 32 then a * 2 ^ b else 0) s ∧
    vectorGives (.vShr w i) w i (fun a b _ => if b < 32 then a / 2 ^ b else 0) s ∧
    ∀ c ∈ [Instr.vCmplt w i, .vCmpeq w i, .vIadd w i, .vAnd w i, .vOr w i, .vXor w i, .vShl w i, .vShr w i], vectorQuiet c s

/-- LOAD and STORE (R128, R145): lane l takes element E + l of the tiles in local store with T applied, or hands its value to the quantiser as element E + l of its tile; a STORE changes nothing else. That E + l indexes the tensor tile by tile is the model's reading (log 22). Every vector instruction with a reserved source code or a DST beyond 63 stops (R145, R147): the manual rejects such a program at load and gives it no effect. -/
def Obligations.VectorLoadStoreAndReservedCodes : Prop :=
  ((∀ (w : VWhere) (i : VArgs) (s : State), argsOk i = true → ∃ t : State, exec (.vectorLoad w i) s = .next t ∧
    (∀ l ∈ s.lanes w.bed.val w.core.val w.backward, t.vreg (coreNo w.bed.val w.core.val) i.dst l = BitVec.ofNat 32
      (loadElem (s.vecDesc w i) (s.tensorT w.bed.val (s.vecDesc w i)) (s.localTile (coreNo w.bed.val w.core.val) (i.imm.toNat / 65536)
        (s.vecDesc w i) (s.vecElem w i l / (s.vecDesc w i).positions)) (s.vecElem w i l % (s.vecDesc w i).positions))) ∧
    (∀ n r l, n ≠ coreNo w.bed.val w.core.val ∨ r ≠ i.dst ∨ l ∉ s.lanes w.bed.val w.core.val w.backward → t.vreg n r l = s.vreg n r l) ∧
    t.cores.lstore = s.cores.lstore ∧ t.mem = s.mem) ∧
  (∀ (w : VWhere) (i : VArgs) (s : State), argsOk i = true → ∃ t : State, exec (.vectorStore w i) s = .next t ∧
    t = { s with cores := { s.cores with released := t.cores.released } } ∧
    (∀ n, n ≠ coreNo w.bed.val w.core.val → t.cores.released.get n [] = s.cores.released.get n []) ∧
    ((∀ l ∈ s.lanes w.bed.val w.core.val w.backward, ∀ m ∈ s.lanes w.bed.val w.core.val w.backward,
        s.vecElem w i l = s.vecElem w i m → l = m) →
      ∀ l ∈ s.lanes w.bed.val w.core.val w.backward, s.vecElem w i l / (s.vecDesc w i).positions < (s.vecDesc w i).tiles →
      ∃ r ∈ t.cores.released.get (coreNo w.bed.val w.core.val) [],
        r.tileRow * (s.vecDesc w i).tilesC + r.tileCol = s.vecElem w i l / (s.vecDesc w i).positions ∧
        (s.vecElem w i l % (s.vecDesc w i).positions, s.source w i i.b l) ∈ r.values))) ∧
  (∀ (w : VWhere) (i : VArgs) (s : State), argsOk i = false →
    ∀ c ∈ [Instr.vAdd w i, .vSub w i, .vMul w i, .vFma w i, .vMin w i, .vMax w i, .vAbs w i, .vNeg w i, .vCmplt w i, .vCmpeq w i,
      .vSel w i, .vSqrt w i, .vRcp w i, .vRsqrt w i, .vExp2 w i, .vLog2 w i, .vCvtInt32 w i, .vCvtBf16 w i, .vIadd w i, .vAnd w i,
      .vOr w i, .vXor w i, .vShl w i, .vShr w i, .vectorLoad w i, .vectorStore w i], exec c s = .fault .illFormed)

/-- VECTOR_INSTRUCTION_BLOCK (R122, R123, R145): the half's next entry begins at its cycle, counts a block and, when it begins late, a slip; its program runs and the engine is taken for its cycles. -/
def Obligations.VectorBlocks : Prop :=
  ∀ (b : Bed) (c : Core) (bw : Bool) (ready : Nat) (s u : State) (i : Issue) (k t : Nat),
    s.dueEntry b.val c.val (if bw then 4 else 3) ready = (u, some (i, k, t)) →
    (∀ x ∈ programOf (u.armOf b.val) i.blockOff, vecExec x.1 ≠ none ∧ argsOk x.2 = true) → ∃ v : State,
    exec (.vectorInstructionBlock b c bw ready) s = .next v ∧
    v.cursor (coreNo b.val c.val) (if bw then 4 else 3) = k + 1 ∧
    v.cores.endCyc.get (coreNo b.val c.val, if bw then 4 else 3) 0 = t + programCycles (programOf (u.armOf b.val) i.blockOff) ∧
    v.get (pgCore .coreSub2 (coreNo b.val c.val)) .BLOCKS_ISSUED = satAdd 64 (s.get (pgCore .coreSub2 (coreNo b.val c.val)) .BLOCKS_ISSUED) 1 ∧
    v.get (pgCore .coreSub2 (coreNo b.val c.val)) .SLIP_EVENTS = (if t ≤ i.start then s.get (pgCore .coreSub2 (coreNo b.val c.val)) .SLIP_EVENTS
      else satAdd 32 (s.get (pgCore .coreSub2 (coreNo b.val c.val)) .SLIP_EVENTS) 1) ∧
    v.get (pgCore .coreSub3 (coreNo b.val c.val)) .CTX_STATE i.ctx = 0 ∧ v.mem = s.mem ∧ v.cores.lstore = s.cores.lstore

/-- MATRIX_INSTRUCTION_BLOCK (R70, R111, R114, R115, R118, R122, R123): the engine's next entry begins; every position of its tile holds in its slot the sums of the block's K-units, the slots are busy, and the engine runs until its cycles are over. A norm block's slots are busy too. -/
def Obligations.MatrixBlocks : Prop :=
  ∀ (b : Bed) (c : Core) (e : Fin 3) (ready : Nat) (s u : State) (i : Issue) (k t : Nat),
    s.dueEntry b.val c.val e.val ready = (u, some (i, k, t)) → ∃ (v : State) (x : Running),
    exec (.matrixInstructionBlock b c e ready) s = .next v ∧
    Tab.find? v.cores.running (coreNo b.val c.val, e.val) = some x ∧ t + 12 ≤ x.endCycle ∧ x.entry = k ∧ x.ctx = i.ctx ∧ x.opId = i.opId ∧
    x.layer = i.layer ∧ x.blockOff = i.blockOff ∧ x.arm = (s.bed b.val).active ∧ x.step = s.get (pgBed b.val) .STEP_CNT ∧
    v.cursor (coreNo b.val c.val) e.val = k + 1 ∧ v.cores.endCyc.get (coreNo b.val c.val, e.val) 0 = x.endCycle ∧
    v.get (pgCore .coreSub2 (coreNo b.val c.val)) .BLOCKS_ISSUED = satAdd 64 (s.get (pgCore .coreSub2 (coreNo b.val c.val)) .BLOCKS_ISSUED) 1 ∧
    v.mem = s.mem ∧
    (∀ j < slotsNeeded (u.coreDesc b.val c.val (u.blkOf b.val i).outDesc),
      (v.slot (coreNo b.val c.val) ((u.blkOf b.val i).slot + j)).busy = true) ∧
    ((u.blkOf b.val i).normMode = false → ∀ r q, r < (u.coreDesc b.val c.val (u.blkOf b.val i).outDesc).rt →
      q < (u.coreDesc b.val c.val (u.blkOf b.val i).outDesc).ct →
      (u.blkOf b.val i).slot + (r * (u.coreDesc b.val c.val (u.blkOf b.val i).outDesc).ct + q) / 1024 < 12 → ∃ p : Pos,
      p = u.posRun (coreNo b.val c.val) (u.prodOf b.val c.val e.val (u.blkOf b.val i))
        (spillKey (u.coreDesc b.val c.val (u.blkOf b.val i).outDesc) (u.get (pgBed b.val) .STEP_CNT)
          ((u.blkOf b.val i).tileRow * (u.coreDesc b.val c.val (u.blkOf b.val i).outDesc).rt + r)
          ((u.blkOf b.val i).tileCol * (u.coreDesc b.val c.val (u.blkOf b.val i).outDesc).ct + q)) r q
        (u.posAt (coreNo b.val c.val) (u.blkOf b.val i) (r * (u.coreDesc b.val c.val (u.blkOf b.val i).outDesc).ct + q)) ∧
      v.localNum (coreNo b.val c.val) (accAddr (u.blkOf b.val i).slot (r * (u.coreDesc b.val c.val (u.blkOf b.val i).outDesc).ct + q)) 4 =
        p.acc % 2 ^ 32 ∧
      v.localNum (coreNo b.val c.val) (sumAddr (u.blkOf b.val i).slot (r * (u.coreDesc b.val c.val (u.blkOf b.val i).outDesc).ct + q)) 4 =
        p.sum % 2 ^ 32)

/-- MATRIX_BLOCK_END (R115, R124): the engine is free; RELEASE hands the tile of its slot to the quantiser, with the step and the armature of its block, poisoned when a slot of it is ABANDONED; END_K resets the slot's partial count; without either nothing else changes. -/
def Obligations.MatrixBlockEnds : Prop :=
  ∀ (b : Bed) (c : Core) (e : Fin 3) (s : State) (r : Running) (m : MatBlk), Tab.find? s.cores.running (coreNo b.val c.val, e.val) = some r →
    m = matBlk (s.armIn b.val r.arm) r.blockOff →
    ((m.normMode = true ∨ (m.endK = false ∧ m.release = false)) → exec (.matrixBlockEnd b c e) s =
      .next ((s.setCores { s.cores with running := s.cores.running.del (coreNo b.val c.val, e.val) }).put
        (pgCore .coreSub3 (coreNo b.val c.val)) .CTX_STATE 0 r.ctx)) ∧
    (m.normMode = false → ∃ v : State, exec (.matrixBlockEnd b c e) s = .next v ∧
      Tab.find? v.cores.running (coreNo b.val c.val, e.val) = none ∧ v.mem = s.mem ∧
      (m.endK = true → (v.slot (coreNo b.val c.val) m.slot).count = 0) ∧
      (m.release = true → ∃ x : Released, x.slot = some m.slot ∧ x.tileRow = m.tileRow ∧ x.tileCol = m.tileCol ∧
        x.step = r.step ∧ x.arm = r.arm ∧ x.scale = r.scale ∧
        x.poisoned = ((List.range (slotsNeeded (coreDescIn (s.armIn b.val r.arm) b.val c.val m.outDesc))).any fun i =>
          (s.slot (coreNo b.val c.val) (m.slot + i)).abandoned) ∧
        v.cores.released.get (coreNo b.val c.val) [] = s.cores.released.get (coreNo b.val c.val) [] ++ [x]) ∧
      (m.release = false → v.cores.released = s.cores.released))

/-- QUANTISE_TILE (R31, R62, R81, R115, R247): the oldest whole tile leaves the quantiser and its slots are free; a tile of a format without scales stands in memory, every other byte as before; a gradient tile whose exponent is not yet known waits, and one of no open bucket changes no memory; a stopped quantiser leaves everything as it is. -/
def Obligations.QuantisedTiles : Prop :=
  ∀ (b : Bed) (c : Core) (s : State) (r : Released) (rest : List Released) (d : Desc),
    takeWhole (s.armIn b.val) (s.cores.released.get (coreNo b.val c.val) []) = some (r, rest) → d = descAt (s.armIn b.val r.arm) r.desc →
    (s.halts (pgQuant b.val) = true → exec (.quantiseTile b c) s = .next s) ∧ (s.halts (pgQuant b.val) = false →
    ((d.format ≠ fmtI16 ∨ s.bucketOf (s.partOf b.val) r.step r.desc = none ∨
        (∃ k e, s.bucketOf (s.partOf b.val) r.step r.desc = some k ∧ s.expReady (s.partOf b.val) k r.step (tileOf d r) = some e)) →
      ∃ v : State, exec (.quantiseTile b c) s = .next v ∧ v.cores.released.get (coreNo b.val c.val) [] = rest ∧
      (∀ m i, r.slot = some m → i < slotsNeeded d → (v.slot (coreNo b.val c.val) (m + i)).busy = false) ∧
      (d.format = fmtI16 → s.bucketOf (s.partOf b.val) r.step r.desc = none → v.mem = s.mem) ∧
      (3 < d.format → d.format ≠ fmtI16 → d.hint = 0 → s.mem.cache = [] →
        (∀ l ∈ spanLines (d.base + tileOf d r * d.tileBytes) (packPlain d (s.tileValues (coreNo b.val c.val) d r)).1.length,
          s.faulty b.val false (64 * l) = false ∧ s.fenced (64 * l) = false) → ∀ a : Nat,
        v.mem.byte a = (if d.base + tileOf d r * d.tileBytes ≤ a then
            ((packPlain d (s.tileValues (coreNo b.val c.val) d r)).1)[a - (d.base + tileOf d r * d.tileBytes)]?.getD (s.mem.byte a)
          else s.mem.byte a))) ∧
    (d.format = fmtI16 → ∀ k, s.bucketOf (s.partOf b.val) r.step r.desc = some k →
      s.expReady (s.partOf b.val) k r.step (tileOf d r) = none → exec (.quantiseTile b c) s =
      .next (s.setReleased (coreNo b.val c.val) ({ r with since := some (r.since.getD s.time.now) } :: rest))))

/-- QUANTISE_TILE on the block-scaled formats (R50 to R54, R74, R81, R84, R93 to R96): with SCALE_POLICY BLOCK_MAX the tile's bytes in memory are the packing of its blocks, quantised from x ÷ T after rotation in ascending order with the side list's entries claimed as they come, its side list stands at SIDE_BASE + 512t where the descriptor asks for escapes, and every other byte is as before. -/
def Obligations.ScaledTiles : Prop :=
  ∀ (b : Bed) (c : Core) (s : State) (r : Released) (rest : List Released) (d : Desc) (bs : List QBlock),
    takeWhole (s.armIn b.val) (s.cores.released.get (coreNo b.val c.val) []) = some (r, rest) → d = descAt (s.armIn b.val r.arm) r.desc →
    s.halts (pgQuant b.val) = false → d.format ≤ 3 → d.policy = 0 → d.hint = 0 → s.mem.cache = [] →
    (secondCopy (s.armIn b.val r.arm) r.desc = none ∨ r.slot = none) →
    bs = quantBlocks d none (d.padding r.tileRow r.tileCol)
      (fun k => srBits (srHash d.seed r.step d.tensorId (srIndex (d.element r.tileRow r.tileCol k) 2 0))) 0 0
      (chunks d.blockSize ((rotateTile d (s.tileValues (coreNo b.val c.val) d r)).map fun v => divF v r.tee.1)) →
    (∀ l ∈ spanLines (d.base + tileOf d r * d.tileBytes) (packBlocks d bs).length,
      s.faulty b.val false (64 * l) = false ∧ s.fenced (64 * l) = false) →
    (d.escMult ≠ 0 → d.format ≤ 1 → ∀ l ∈ spanLines (d.side + 512 * tileOf d r) 512,
      s.faulty b.val false (64 * l) = false ∧ s.fenced (64 * l) = false) → ∃ v : State,
    exec (.quantiseTile b c) s = .next v ∧ v.cores.released.get (coreNo b.val c.val) [] = rest ∧
    (∀ m i, r.slot = some m → i < slotsNeeded d → (v.slot (coreNo b.val c.val) (m + i)).busy = false) ∧
    ∀ a : Nat, v.mem.byte a =
      (if d.escMult ≠ 0 ∧ d.format ≤ 1 ∧ d.side + 512 * tileOf d r ≤ a ∧ a < d.side + 512 * tileOf d r + 512 then
        (packSide (sideOf d.blockSize bs))[a - (d.side + 512 * tileOf d r)]?.getD 0
      else if d.base + tileOf d r * d.tileBytes ≤ a then
        (packBlocks d bs)[a - (d.base + tileOf d r * d.tileBytes)]?.getD (s.mem.byte a)
      else s.mem.byte a)

/-- QUANTISE_TILE on a gradient tile at a leaf (R64, R246, R250, R252, R253): each part of the tile goes to the parent at once as one REDUCE packet of class 1 and WIDTH 0 with COUNT 1, this member's hash and E, its elements converted to I16 with stochastic rounding, SAT_ANY set where one saturated; a tile with a non-finite element goes as poisoned parts. -/
def Obligations.GradientContributions : Prop :=
  ∀ (b : Bed) (c : Core) (s : State) (r : Released) (rest : List Released) (d : Desc) (o : OpenStep) (k rank p : Nat) (ps : List Nat) (e : Int)
    (t : Tree) (x : List Nat) (l : List (Int × Bool)),
    takeWhole (s.armIn b.val) (s.cores.released.get (coreNo b.val c.val) []) = some (r, rest) → d = descAt (s.armIn b.val r.arm) r.desc →
    s.halts (pgQuant b.val) = false → d.format = fmtI16 → s.bucketOf (s.partOf b.val) r.step r.desc = some k →
    s.expReady (s.partOf b.val) k r.step (tileOf d r) = some e → s.stepAt (s.partOf b.val) r.step = some o → o.file = s.armIn b.val r.arm →
    t = gradTree o (bucketAt o.file k) (tileOf d r) → rankOf t (s.selfIn o.members) = some rank → rank ≠ 0 →
    (childrenOf t rank).isEmpty = true → (∀ j, s.partAt ⟨s.partOf b.val, k, r.step, tileOf d r, j⟩ = OpenPart.empty) →
    s.upPorts (s.partOf b.val) = p :: ps → x = s.tileValues (coreNo b.val c.val) d r →
    l = (List.range d.positions).map (fun i => i16Sr (Q.mul (valF (x.getD i 0)) (Q.pow2 (-e)))
      (srBits (srHash d.seed r.step d.tensorId (srIndex (d.element r.tileRow r.tileCol i) 3
        (s.selfIn (s.liveMembers (s.partOf b.val) (s.armIn b.val r.arm))))))) → ∃ (v : State) (ks : List Packet),
    exec (.quantiseTile b c) s = .next v ∧ v.fab.queue.get p [] = s.fab.queue.get p [] ++ ks ∧ ks.length = tileParts d ∧ v.mem = s.mem ∧
    (∀ j < tileParts d, (v.partAt ⟨s.partOf b.val, k, r.step, tileOf d r, j⟩).sentOn = true) ∧
    ∀ j m, ks[j]? = some m → m.type = tyReduce ∧ m.cls = 1 ∧ m.dest = idAt t (parentOf t rank) ∧ m.poison = !x.all finiteF ∧
      (x.all finiteF = false → m.payload = [] ∧ m.tf = padTo 20 (reduceFields k (tileOf d r) r.step 0 j false false e 0 0)) ∧
      (x.all finiteF = true →
        m.tf = padTo 20 (reduceFields k (tileOf d r) r.step 0 j (((l.drop (1024 * j)).take (partElems d j)).any (·.2)) false e 1
          (contributorHash (s.selfIn o.members))) ∧
        m.payload = packSums 0 ((List.range (partElems d j)).map fun i => ((l.map (·.1)).drop (1024 * j)).getD i 0))

/-- TRANSFER_LOAD, TRANSFER_PREFETCH, TRANSFER_RELEASE, TRANSFER_DROP, TRANSFER_COMPLETE (R122, R174, R181): the context's next transfer entry begins and keeps its queue busy until it completes and counts; a DROP of lines that a bridge accepts frees them without write-back. -/
def Obligations.Transfers : Prop :=
  (∀ (b : Bed) (c : Core) (x : Ctx) (s : State) (e : Transfer), s.dueTransfer b.val c.val x.val = some e → ∃ t : State,
    (e.op = 0 → exec (.transferLoad b c x) s = .next t) ∧ (e.op = 1 → exec (.transferPrefetch b c x) s = .next t) ∧
    (e.op = 2 → exec (.transferRelease b c x) s = .next t) ∧ (e.op = 3 → exec (.transferDrop b c x) s = .next t) ∧
    (e.op < 4 → t.xcursor (coreNo b.val c.val) x.val = s.xcursor (coreNo b.val c.val) x.val + 1 ∧
      t.cores.xbusy.contains (coreNo b.val c.val, x.val) = true ∧ t.comp (coreNo b.val c.val) x.val = s.comp (coreNo b.val c.val) x.val ∧
      t.cores.vregs = s.cores.vregs ∧ t.beds = s.beds ∧ (0 < e.op → t.cores.lstore = s.cores.lstore))) ∧
  (∀ (b : Bed) (c : Core) (x : Ctx) (s : State) (e : Transfer), s.dueTransfer b.val c.val x.val = some e → e.op = 3 →
    (∀ l ∈ xferLines e (s.coreDesc b.val c.val e.desc), s.faulty b.val false (64 * l) = false) → ∃ t : State,
    exec (.transferDrop b c x) s = .next t ∧ (∀ l ∈ xferLines e (s.coreDesc b.val c.val e.desc), Tab.find? t.mem.cache l = none) ∧
    (∀ l, l ∉ xferLines e (s.coreDesc b.val c.val e.desc) → Tab.find? t.mem.cache l = Tab.find? s.mem.cache l ∧ t.mem.line l = s.mem.line l)) ∧
  (∀ (b : Bed) (c : Core) (x : Ctx) (s : State), s.cores.xbusy.contains (coreNo b.val c.val, x.val) = true → ∃ t : State,
    exec (.transferComplete b c x) s = .next t ∧ t.comp (coreNo b.val c.val) x.val = s.comp (coreNo b.val c.val) x.val + 1 ∧
    t.cores.xbusy.contains (coreNo b.val c.val, x.val) = false ∧ { t with cores := s.cores } = s)

/-- LINE_READ (R170, R174 to R176, R182, R186, R276): an access outside the requester's partition or to nothing is an address fault and reads poison; a host read that the guard denies gets zeros; a pinned line answers from the cache and counts a hit; any other line answers from the stacks, metered, and reads what memory holds; a corrected error is counted, an uncorrectable one reads poison, is captured and leaves the line poisoned, in the cache too; hints 1 and 2 pin the line that they read, except in a full set, and class 3 never does. -/
def Obligations.LineReads : Prop :=
  (∀ (r : MemReq) (err : LineErr) (s : State), s.faulty r.bed.val r.host r.addr = true → ∃ t : State,
    exec (.lineRead r err) s = .next t ∧ t.out.data = List.replicate 64 0 ∧ t.out.ep = true ∧ t.mem = s.mem ∧
    t.get (pgBridge (homeOf r.addr)) .ADDR_FAULTS = satAdd 32 (s.get (pgBridge (homeOf r.addr)) .ADDR_FAULTS) 1) ∧
  (∀ (r : MemReq) (err : LineErr) (c : CacheLine) (s : State), s.faulty r.bed.val r.host r.addr = false → r.host = false → err ≠ .sram →
    Tab.find? s.mem.cache (lineOf r.addr) = some c → ∃ t : State, exec (.lineRead r err) s = .next t ∧ t.out.data = c.data ∧
    t.out.ep = c.poison ∧ t.get (pgCache (homeOf r.addr)) .HITS = satAdd 64 (s.get (pgCache (homeOf r.addr)) .HITS) 1 ∧
    t.mem.used = s.mem.used ∧ (∀ n, c.dal = some (n + 2) → r.cls ≠ 3 → Tab.find? t.mem.cache (lineOf r.addr) = some { c with dal := some (n + 1) }) ∧
    (c.dal = some 1 → r.cls ≠ 3 → Tab.find? t.mem.cache (lineOf r.addr) = none) ∧ (c.dal = none → t.mem = s.mem)) ∧
  (∀ (r : MemReq) (s : State), s.faulty r.bed.val r.host r.addr = false → r.host = false → Tab.find? s.mem.cache (lineOf r.addr) = none →
    s.fenced r.addr = false → (r.hint = 0 ∨ r.hint = 3 ∨ r.cls = 3) → ∃ t : State, exec (.lineRead r .none) s = .next t ∧
    t.out.data = s.mem.line (lineOf r.addr) ∧ t.out.ep = s.mem.poison.contains (lineOf r.addr) ∧ t.mem.cache = s.mem.cache ∧
    t.get (pgCache (homeOf r.addr)) .MISSES = satAdd 64 (s.get (pgCache (homeOf r.addr)) .MISSES) 1 ∧
    (s.halts (pgReg (homeOf r.addr)) = false → s.isOverdraw (homeOf r.addr) r.cls r.bed.val = false →
      t.mem.used.get (homeOf r.addr, r.cls) 0 = s.mem.used.get (homeOf r.addr, r.cls) 0 + 64) ∧ ∀ a, t.mem.byte a = s.mem.byte a) ∧
  (∀ (r : MemReq) (s : State), s.faulty r.bed.val r.host r.addr = false → r.host = false → Tab.find? s.mem.cache (lineOf r.addr) = none →
    s.fenced r.addr = false → r.hint = 0 →
    (∃ t : State, exec (.lineRead r .corrected) s = .next t ∧ t.out.data = s.mem.line (lineOf r.addr) ∧
      t.out.ep = s.mem.poison.contains (lineOf r.addr) ∧ t.mem.poison = s.mem.poison ∧ (∀ a, t.mem.byte a = s.mem.byte a) ∧
      t.get (pgMc (s.stackOf r.addr)) .ERR_CORR = satAdd 16 (s.get (pgMc (s.stackOf r.addr)) .ERR_CORR) 1) ∧
    (∃ t : State, exec (.lineRead r .uncorrectable) s = .next t ∧ t.out.ep = true ∧ t.mem.poison.contains (lineOf r.addr) = true ∧
      (∀ a, t.mem.byte a = s.mem.byte a) ∧ t.get (pgMc (s.stackOf r.addr)) .UE_ADDR = 64 * lineOf r.addr ∧
      t.get (pgMc (s.stackOf r.addr)) .ERR_UNCORR = satAdd 16 (s.get (pgMc (s.stackOf r.addr)) .ERR_UNCORR) 1)) ∧
  (∀ (r : MemReq) (c : CacheLine) (s : State), s.faulty r.bed.val r.host r.addr = false → r.host = false →
    Tab.find? s.mem.cache (lineOf r.addr) = some c → ∃ t : State, exec (.lineRead r .sram) s = .next t ∧ t.out.ep = true ∧
    t.mem.poison.contains (lineOf r.addr) = true ∧ t.get (pgMc (s.stackOf r.addr)) .UE_ADDR = 64 * lineOf r.addr ∧
    t.get (pgMc (s.stackOf r.addr)) .ERR_UNCORR = satAdd 16 (s.get (pgMc (s.stackOf r.addr)) .ERR_UNCORR) 1 ∧
    (c.dal = none → Tab.find? t.mem.cache (lineOf r.addr) = some { c with poison := true } ∧ ∀ a, t.mem.byte a = s.mem.byte a)) ∧
  (∀ (r : MemReq) (s : State), s.faulty r.bed.val r.host r.addr = false → r.host = false → Tab.find? s.mem.cache (lineOf r.addr) = none →
    s.fenced r.addr = false → r.cls ≠ 3 → (r.hint = 1 ∨ r.hint = 2) → s.halts (pgCache (homeOf r.addr)) = false → ∃ t : State,
    exec (.lineRead r .none) s = .next t ∧ t.out.data = s.mem.line (lineOf r.addr) ∧ t.out.ep = s.mem.poison.contains (lineOf r.addr) ∧
    (∀ l, l ≠ lineOf r.addr → Tab.find? t.mem.cache l = Tab.find? s.mem.cache l) ∧
    (s.setFull (lineOf r.addr) = true → t.mem.cache = s.mem.cache ∧
      t.get (pgCache (homeOf r.addr)) .ALLOC_REFUSED = satAdd 32 (s.get (pgCache (homeOf r.addr)) .ALLOC_REFUSED) 1) ∧
    (s.setFull (lineOf r.addr) = false → (r.hint = 1 ∨ 1 < r.uses) → Tab.find? t.mem.cache (lineOf r.addr) =
      some ⟨if r.hint = 1 then none else some (r.uses - 1), s.mem.line (lineOf r.addr), false, s.mem.poison.contains (lineOf r.addr),
        s.mem.rel.contains (lineOf r.addr), false, r.cls, r.bed.val⟩ ∧ ∀ a, t.mem.byte a = s.mem.byte a) ∧
    (s.setFull (lineOf r.addr) = false → r.hint = 2 → r.uses ≤ 1 → Tab.find? t.mem.cache (lineOf r.addr) = none ∧
      ∀ a, lineOf a ≠ lineOf r.addr → t.mem.byte a = s.mem.byte a)) ∧
  (∀ (r : MemReq) (err : LineErr) (s : State), s.faulty r.bed.val true r.addr = false → r.host = true → s.guardDenies r.addr = true →
    ∃ t : State, exec (.lineRead r err) s = .next t ∧ t.out.data = List.replicate 64 0 ∧ t.out.ep = false ∧
    t.get (pgBridge (homeOf r.addr)) .EGRESS_DENY = satAdd 32 (s.get (pgBridge (homeOf r.addr)) .EGRESS_DENY) 1 ∧
    t.get (pgBridge (homeOf r.addr)) .DENY_ADDR = 64 * lineOf r.addr ∧ ∀ a, t.mem.byte a = s.mem.byte a)

/-- LINE_WRITE (R170, R172, R174 to R176, R186, R189): a served write stores its bytes and nothing else, whole lines or parts; a line that the cache holds, or that hints 1 and 2 put there, takes the bytes and becomes dirty while memory stays as it is; a fenced channel discards a write to memory; a faulty address, and a host write into a partition with a session open, change no memory. -/
def Obligations.LineWrites : Prop :=
  (∀ (r : MemReq) (first : Nat) (d : List Byte) (p : Bool) (s : State), s.faulty r.bed.val r.host r.addr = true → ∃ t : State,
    exec (.lineWrite r first d p) s = .next t ∧ t.mem = s.mem ∧
    t.get (pgBridge (homeOf r.addr)) .ADDR_FAULTS = satAdd 32 (s.get (pgBridge (homeOf r.addr)) .ADDR_FAULTS) 1) ∧
  (∀ (r : MemReq) (first : Nat) (d : List Byte) (p : Bool) (s : State), s.faulty r.bed.val r.host r.addr = false →
    (r.host = true → s.sessionOpen (s.partOf (homeOf r.addr)) = false) → Tab.find? s.mem.cache (lineOf r.addr) = none → r.hint = 0 →
    first < 64 → s.fenced r.addr = false → ∃ t : State, exec (.lineWrite r first d p) s = .next t ∧ ∀ a : Nat,
    t.mem.byte a = (if lineOf r.addr = lineOf a ∧ first ≤ a % 64 then (d[a % 64 - first]?.getD (s.mem.byte a)) else s.mem.byte a)) ∧
  (∀ (r : MemReq) (first : Nat) (d : List Byte) (p : Bool) (s : State), s.faulty r.bed.val r.host r.addr = false →
    (r.host = true → s.sessionOpen (s.partOf (homeOf r.addr)) = false) → Tab.find? s.mem.cache (lineOf r.addr) = none → r.hint = 0 →
    s.fenced r.addr = true → ∃ t : State, exec (.lineWrite r first d p) s = .next t ∧ ∀ a : Nat, t.mem.byte a = s.mem.byte a) ∧
  (∀ (r : MemReq) (first : Nat) (d : List Byte) (p : Bool) (c : CacheLine) (s : State), s.faulty r.bed.val r.host r.addr = false →
    (r.host = true → s.sessionOpen (s.partOf (homeOf r.addr)) = false) → Tab.find? s.mem.cache (lineOf r.addr) = some c → first < 64 →
    ∃ t : State, exec (.lineWrite r first d p) s = .next t ∧ Tab.find? t.mem.cache (lineOf r.addr) = some
      { dal := dalAfterWrite (if r.cls = 3 then 0 else r.hint) r.uses c.dal, data := spliceLine c.data first (d.take (64 - first)), dirty := true,
        poison := p || (c.poison && !decide (first = 0 ∧ 64 ≤ d.length)), rel := false, written := true, cls := r.cls, bed := r.bed.val } ∧
    (∀ l, l ≠ lineOf r.addr → Tab.find? t.mem.cache l = Tab.find? s.mem.cache l) ∧
    t.get (pgCache (homeOf r.addr)) .HITS = satAdd 64 (s.get (pgCache (homeOf r.addr)) .HITS) 1 ∧ t.mem.used = s.mem.used ∧
    ∀ a : Nat, t.mem.byte a = s.mem.byte a) ∧
  (∀ (r : MemReq) (first : Nat) (d : List Byte) (p : Bool) (s : State), s.faulty r.bed.val r.host r.addr = false → r.host = false →
    Tab.find? s.mem.cache (lineOf r.addr) = none → first < 64 → s.fenced r.addr = false → r.cls ≠ 3 → (r.hint = 1 ∨ r.hint = 2) →
    s.halts (pgCache (homeOf r.addr)) = false → s.setFull (lineOf r.addr) = false → ∃ t : State,
    exec (.lineWrite r first d p) s = .next t ∧ Tab.find? t.mem.cache (lineOf r.addr) = some
      { dal := if r.hint = 2 then some r.uses else none,
        data := if first = 0 ∧ 64 ≤ d.length then d.take 64 else spliceLine (s.mem.line (lineOf r.addr)) first (d.take (64 - first)), dirty := true,
        poison := p || (s.mem.poison.contains (lineOf r.addr) && !decide (first = 0 ∧ 64 ≤ d.length)), rel := false, written := true,
        cls := r.cls, bed := r.bed.val } ∧
    (first = 0 → 64 ≤ d.length → t.mem.used = s.mem.used) ∧ ∀ a : Nat, t.mem.byte a = s.mem.byte a) ∧
  (∀ (r : MemReq) (first : Nat) (d : List Byte) (p : Bool) (s : State), s.faulty r.bed.val true r.addr = false → r.host = true →
    s.sessionOpen (s.partOf (homeOf r.addr)) = true → ∃ t : State, exec (.lineWrite r first d p) s = .next t ∧
    t.get pgSec .INGRESS_DENY (s.partOf (homeOf r.addr)) = satAdd 32 (s.get pgSec .INGRESS_DENY (s.partOf (homeOf r.addr))) 1 ∧
    ∀ a : Nat, t.mem.byte a = s.mem.byte a)

/-- SCRUB_DONE, PATROL_SCRUB, REFRESH_LATE, STACK_HOT (R168, R185, R186, R188, R190, R295): the end of a scrub, which ends a close that waits for it, completed patrol passes, an uncorrectable line poisoned where it stands, late refreshes and hot stacks show in their counters and bits. MEMORY_TRAINING_CHECK, CHANNEL_RETRAIN, RETRAIN_END (R189): a failed check or more than 16 errors retrain the channel; a success returns it to use; the third failure in a row fences it and marks the bridge DEGRADED. -/
def Obligations.MemoryUpkeep : Prop :=
  (∀ (b : Bed) (s : State), s.flag (pgBridge b.val) .SCRUB_BUSY = true → s.sessionState (s.partOf b.val) ≠ 1 → s.sessionState (s.partOf b.val) ≠ 3 →
    exec (.scrubDone b) s = .next ((s.put (pgBridge b.val) .SCRUB_BUSY 0).raise (pgBridge b.val) 1)) ∧
  (∀ (b : Bed) (s : State), s.flag (pgBridge b.val) .SCRUB_BUSY = true → s.sessionState (s.partOf b.val) = 3 →
    (∀ x ∈ s.partBeds (s.partOf b.val), x ≠ b.val → s.flag (pgBridge x) .SCRUB_BUSY = false) → ∃ t : State, exec (.scrubDone b) s = .next t ∧
    t.get (pgBridge b.val) .SCRUB_BUSY = 0 ∧ t.sessionState (s.partOf b.val) = 0) ∧
  (∀ (u : Stack) (a : Nat) (s : State), s.memoryOn = true → badAddr a = false → s.stackOf a = u.val → s.fenced a = false → ∃ t : State,
    exec (.patrolScrub u a .uncorrectable true) s = .next t ∧ t.mem.poison.contains (lineOf a) = true ∧ (∀ x, t.mem.byte x = s.mem.byte x) ∧
    t.get (pgMc u.val) .ERR_UNCORR = satAdd 16 (s.get (pgMc u.val) .ERR_UNCORR) 1 ∧ t.get (pgMc u.val) .UE_ADDR = 64 * lineOf a ∧
    t.get (pgMc u.val) .SCRUB_PASS = satAdd 32 (s.get (pgMc u.val) .SCRUB_PASS) 1) ∧
  (∀ (u : Stack) (a : Nat) (s : State), s.memoryOn = true → badAddr a = false → s.stackOf a = u.val → s.fenced a = false → ∃ t : State,
    exec (.patrolScrub u a .corrected false) s = .next t ∧ t.mem = s.mem ∧
    t.get (pgMc u.val) .ERR_CORR = satAdd 16 (s.get (pgMc u.val) .ERR_CORR) 1) ∧
  (∀ (u : Stack) (ch : Fin 32) (s : State), exec (.refreshLate u ch) s =
    .next (((s.bump (pgMc u.val) .REFRESH_LATE).evt (pgMc u.val) 4).record 0x0911 (pgMc u.val))) ∧
  (∀ (u : Stack) (c : Nat) (s : State), 85 < c → s.flag (pgMc u.val) .HOT = false → exec (.stackHot u c) s =
    .next (((s.put (pgMc u.val) .TEMP c).put (pgMc u.val) .HOT 1).raise (pgMc u.val) 5)) ∧
  (∀ (u : Stack) (c : Nat) (s : State), c ≤ 85 → exec (.stackHot u c) s = .next ((s.put (pgMc u.val) .TEMP c).put (pgMc u.val) .HOT 0)) ∧
  (∀ (u : Stack) (ch : Fin 32) (s : State), s.memoryOn = true → ∃ t : State, exec (.memoryTrainingCheck u ch false) s = .next t ∧
    t.mem.chBusy.contains (u.val, ch.val) = true ∧ t.get (pgMc u.val) .RETRAINING = 1 ∧
    t.get (pgMc u.val) .RETRAIN_CNT = satAdd 16 (s.get (pgMc u.val) .RETRAIN_CNT) 1 ∧ t.mem.cells = s.mem.cells) ∧
  (∀ (u : Stack) (ch : Fin 32) (n : Nat) (s : State), s.memoryOn = true → 16 < n → ∃ t : State, exec (.channelRetrain u ch n) s = .next t ∧
    t.mem.chBusy.contains (u.val, ch.val) = true ∧ t.get (pgMc u.val) .RETRAINING = 1 ∧
    t.get (pgMc u.val) .RETRAIN_CNT = satAdd 16 (s.get (pgMc u.val) .RETRAIN_CNT) 1 ∧ t.mem.cells = s.mem.cells) ∧
  (∀ (u : Stack) (ch : Fin 32) (s : State), s.mem.chBusy.contains (u.val, ch.val) = true → ∃ t : State, exec (.retrainEnd u ch true) s = .next t ∧
    t.mem.chBusy.contains (u.val, ch.val) = false ∧ t.get (pgMc u.val) .FENCED_MAP = s.get (pgMc u.val) .FENCED_MAP ∧
    t.mem.chFails.get (u.val, ch.val) 0 = 0) ∧
  (∀ (u : Stack) (ch : Fin 32) (s : State), s.mem.chBusy.contains (u.val, ch.val) = true → s.mem.chFails.get (u.val, ch.val) 0 < 2 → ∃ t : State,
    exec (.retrainEnd u ch false) s = .next t ∧ t.mem.chBusy.contains (u.val, ch.val) = true ∧
    t.get (pgMc u.val) .RETRAIN_CNT = satAdd 16 (s.get (pgMc u.val) .RETRAIN_CNT) 1 ∧
    t.mem.chFails.get (u.val, ch.val) 0 = s.mem.chFails.get (u.val, ch.val) 0 + 1) ∧
  (∀ (u : Stack) (ch : Fin 32) (s : State), s.mem.chBusy.contains (u.val, ch.val) = true → 2 ≤ s.mem.chFails.get (u.val, ch.val) 0 →
    s.get (pgMc u.val) .FENCED_MAP < 2 ^ 64 → ∃ t : State, exec (.retrainEnd u ch false) s = .next t ∧
    t.mem.chBusy.contains (u.val, ch.val) = false ∧ t.get (pgMc u.val) .FENCED_MAP = s.get (pgMc u.val) .FENCED_MAP ||| 3 * 4 ^ ch.val ∧
    t.get (pgBridge (u.val / 4)) .DEGRADED = 1)

/-- The update rule's treatment of a block by its STAMP (R209, R210, R214): a block of the step stays; one step behind is stepped; two behind is rolled through step − 1 first; any other is held with HELD_ANY, its records' bytes as they were but for HELD, and counted in STALE_BLK; a skipped step, a frozen group and a group that is not in force change no weight and no moment. -/
def Obligations.BlockStamps : Prop :=
  ∀ (c p : StepCtx) (h : Hdr) (n : Nat) (rs : List Rec),
    (h.stamp = c.step → passBlock c p h n rs = ⟨.same, [], true, true, h, rs⟩) ∧
    (h.stamp ≠ c.step → h.stamp = prevStep c.step → (passBlock c p h n rs).way = .stepped ∧ (passBlock c p h n rs).hdr.stamp = c.step ∧
      (passBlock c p h n rs).rolled = [] ∧ (passBlock c p h n rs).hdr.group = h.group ∧ (passBlock c p h n rs).recs.length = rs.length ∧
      ((c.skip = true ∨ groupOk (c.group h.group) = false ∨ (c.group h.group).frozen = true) →
        (passBlock c p h n rs).hdr.mScale = h.mScale ∧ (passBlock c p h n rs).hdr.vScale = h.vScale ∧
        (passBlock c p h n rs).recs.map (fun r => (r.w, r.m, r.v)) = rs.map fun r => (r.w, r.m, r.v)) ∧
      (c.skip = false → groupOk (c.group h.group) = false → ∀ r ∈ (passBlock c p h n rs).recs, r.bad = false → r.held = true)) ∧
    (h.stamp ≠ c.step → h.stamp ≠ prevStep c.step → h.stamp = prevStep (prevStep c.step) →
      (passBlock c p h n rs).way = .stepped ∧ (passBlock c p h n rs).hdr.stamp = c.step ∧ (passBlock c p h n rs).hdr.hflags / 2 = 1 ∧
      (passBlock c p h n rs).rolled = (stepBlock p h n rs).2.1 ∧
      (passBlock c p h n rs).recs = (stepBlock c (stepBlock p h n rs).1 n (stepBlock p h n rs).2.1).2.1) ∧
    (h.stamp ≠ c.step → h.stamp ≠ prevStep c.step → h.stamp ≠ prevStep (prevStep c.step) →
      passBlock c p h n rs = ⟨.stale, [], true, true, { h with hflags := h.hflags ||| 1 }, rs⟩ ∧
      ∀ (f4 : Bool) (work : Nat → Nat × Bool) (l : List Byte) (j : Nat), l.length = 2112 → j < 4 → rs.length ≤ 64 →
        (∀ i, rs[i]? = none ∨ ∃ bad, rs[i]? = some (recOf (l.drop (64 + 512 * j + 8 * i)) bad)) →
        (∀ i r, rs[i]? = some r → r.bad = false →
          (writeBlock f4 work l j (passBlock c p h n rs))[64 + 512 * j + 8 * i + 7]? = some (BitVec.ofNat 8 (r.b7 ||| 64))) ∧
        (∀ i < rs.length, ∀ k < 7, (writeBlock f4 work l j (passBlock c p h n rs))[64 + 512 * j + 8 * i + k]? = l[64 + 512 * j + 8 * i + k]?) ∧
        (∀ a, (a < 16 * j ∨ 16 * j + 8 ≤ a) → (a < 64 + 512 * j ∨ 64 + 512 * j + 8 * rs.length ≤ a) →
          (writeBlock f4 work l j (passBlock c p h n rs))[a]? = l[a]?)) ∧
    (h.stamp ≠ c.step → h.stamp ≠ prevStep c.step → h.stamp ≠ prevStep (prevStep c.step) → ∀ (s : State) (u q layer : Nat),
      (s.countBlock u q layer c.step (passBlock c p h n rs)).get (pgUnit u) .STALE_BLK = satAdd 32 (s.get (pgUnit u) .STALE_BLK) 1 ∧
      ((s.countBlock u q layer c.step (passBlock c p h n rs)).once).contains (0x0821, 1024 * q + layer, c.step) = true)

/-- UPDATE_ENTRY, UPDATE_PREPASS, UNIT_STOP, REGROW_REPLAY (R201 to R203, R217, R218): a ready entry begins and advances by one state group, its last one completes it; a pre-pass marks its entry and writes no byte; a unit that was asked to stop stops; a replay counts its step. CUTTING_RECEIVE and CUT_ACK_RECEIVE (R216, R218): a line from another device than the ward, outside the slot or off its grid, is rejected, counted and stored nowhere; the partner's acknowledgement shows in CUT_DONE_STEP and raises CUT_DONE. -/
def Obligations.UpdatesAndCuttings : Prop :=
  (∀ (u : Stack) (s : State) (t k : Nat) (e : Pass), s.unitMay u.val = true → s.upd.run.find? u.val = none →
    s.nextPass u.val s.upd.done (fun t f e => !updExact f || s.skipped (s.partOf (u.val / 4)) e.bucket t ||
      s.prepassed (s.partOf (u.val / 4)) f e.layer t) = some (t, k, e) → ∃ v : State, exec (.updateEntry u) s = .next v ∧
    v.get (pgUnit u.val) .UU_LAYER = e.layer % 1024 ∧ v.beds = s.beds ∧ v.parts = s.parts ∧
    (256 < e.records → v.get (pgUnit u.val) .PASS_ACTIVE = 1 ∧ (∃ r, v.upd.run.find? u.val = some r ∧ r.step = t ∧ r.entry = k ∧ r.next = 1) ∧
      v.upd.done = s.upd.done) ∧
    (e.records ≤ 256 → v.get (pgUnit u.val) .PASS_ACTIVE = 0 ∧ v.upd.run.find? u.val = none ∧
      v.upd.done = (s.partOf (u.val / 4), t, k) :: s.upd.done)) ∧
  (∀ (u : Stack) (s : State) (t k : Nat) (e : Pass), s.unitMay u.val = true →
    s.nextPass u.val s.upd.preDone (fun t f e => updExact f && !s.skipped (s.partOf (u.val / 4)) e.bucket t) = some (t, k, e) → ∃ v : State,
    exec (.updatePrepass u) s = .next v ∧ v.upd.preDone = (s.partOf (u.val / 4), t, k) :: s.upd.preDone ∧
    v.get (pgUnit u.val) .UU_LAYER = e.layer % 1024 ∧ v.upd.done = s.upd.done ∧ v.beds = s.beds ∧
    (s.mem.cache = [] → ∀ a, v.mem.byte a = s.mem.byte a)) ∧
  (∀ (u : Stack) (s : State), s.upd.stopReq.contains u.val = true → ∃ v : State, exec (.unitStop u) s = .next v ∧
    v.upd.stopReq.contains u.val = false ∧ v.get (pgUnit u.val) .PASS_ACTIVE = 0 ∧ v.get (pgUnit u.val) .PREPASS = 0 ∧
    v.get (pgUnit u.val) .ROLLING = 0 ∧ (s.runsArm (u.val / 4) = false → v.upd.run.find? u.val = none) ∧
    (s.runsArm (u.val / 4) = true → v.upd.run = s.upd.run) ∧ v.mem = s.mem ∧ v.upd.done = s.upd.done) ∧
  (∀ (q : Bed) (s : State), (s.part q.val).regrowing = true → hasSec (s.regrowFile q.val) 0x08 = true → ∃ v : State,
    exec (.regrowReplay q (nextStep (s.part q.val).regrowStep)) s = .next v ∧
    v.part q.val = { s.part q.val with regrowStep := nextStep (s.part q.val).regrowStep } ∧ v.beds = s.beds) ∧
  (∀ (p : Port) (k m : Packet) (s u : State), k.type = tyCutting → s.takeIn p.val k = (u, some m) →
    (hasSec (u.partArm (u.portPart p.val)) 0x08 = false ∨ m.src ≠ cutWard (u.partArm (u.portPart p.val)) ∨
      cutSlotBytes (u.partArm (u.portPart p.val)) < tfAt m 32 8 + m.payload.length ∨ tfAt m 32 8 % 64 ≠ 0) → exec (.cuttingReceive p k) s =
    .next ((u.bump (u.wardPage (u.portPart p.val)) .WARD_REJECTED).record 0x0840 (u.wardPage (u.portPart p.val))
      (leBytes 2 m.src ++ [0, 0] ++ leBytes 8 (tfAt m 32 8)))) ∧
  (∀ (p : Port) (k m : Packet) (s u : State), k.type = tyCutting → s.takeIn p.val k = (u, some m) →
    hasSec (u.partArm (u.portPart p.val)) 0x08 = true → m.src = cutWard (u.partArm (u.portPart p.val)) →
    tfAt m 32 8 + 64 < cutSlotBytes (u.partArm (u.portPart p.val)) → tfAt m 32 8 % 64 = 0 → m.payload.length = 64 →
    u.upd.wardLines = [] → u.flag (u.wardPage (u.portPart p.val)) .WARD_A_VALID = false →
    u.flag (u.wardPage (u.portPart p.val)) .WARD_B_VALID = false → ∃ t : State, exec (.cuttingReceive p k) s = .next t ∧
    t.upd.wardLines.find? (u.portPart p.val, tfAt m 28 4 / max 1 (cutInterval (u.partArm (u.portPart p.val))) % 2) = some (tfAt m 28 4, [tfAt m 32 8]) ∧
    t.get (u.wardPage (u.portPart p.val)) .WARD_REJECTED = u.get (u.wardPage (u.portPart p.val)) .WARD_REJECTED ∧
    t.get (u.wardPage (u.portPart p.val)) (wardValid (tfAt m 28 4 / max 1 (cutInterval (u.partArm (u.portPart p.val))) % 2)) = 0) ∧
  (∀ (p : Port) (k m : Packet) (s u : State), k.type = tyCutAck → s.takeIn p.val k = (u, some m) →
    hasSec (u.partArm (u.portPart p.val)) 0x08 = true → m.src = cutPartner (u.partArm (u.portPart p.val)) → exec (.cutAckReceive p k) s =
    .next ((u.put (u.wardPage (u.portPart p.val)) .CUT_DONE_STEP (tfAt m 28 4)).raise (u.wardPage (u.portPart p.val)) 4))

/-- DATA_RECEIVE (R231 to R233, R243, R244): the receiver's checks, and what a packet that passes them leaves in memory. -/
def Obligations.DataPackets : Prop :=
  (∀ (p : Port) (k : Packet) (s : State), k.type = tyData → (s.portUp p.val || s.link p.val == 4) = false → exec (.dataReceive p k) s = .next s) ∧
  (∀ (p : Port) (k : Packet) (s : State), k.type = tyData → s.pw.wedged = false →
    (s.portUp p.val || s.link p.val == 4) = true → (k.rsv = true ∨ tfReserved k = true) →
    exec (.dataReceive p k) s = .next (s.countDiscard p.val)) ∧
  (∀ (p : Port) (k : Packet) (s : State), k.type = tyData → s.pw.wedged = false →
    s.portUp p.val = true → k.rsv = false → tfReserved k = false → s.flag (pgPort p.val) .POS_VALID = true →
    k.dest = s.myId → k.enc = false → s.flag (pgPort p.val) .PORT_ENC_EN = true →
    exec (.dataReceive p k) s = .next (s.bump (pgPort p.val) .CLEAR_DROP)) ∧
  (∀ (p : Port) (k : Packet) (s : State), k.type = tyData → s.pw.wedged = false →
    s.portUp p.val = true → k.rsv = false → tfReserved k = false → s.flag (pgPort p.val) .POS_VALID = true →
    k.dest = s.myId → k.enc = false → s.flag (pgPort p.val) .PORT_ENC_EN = false →
    windowAccept (s.fab.window.find? (s.portPart p.val, k.src, k.srcPart)) k.seq = none → exec (.dataReceive p k) s = .next s) ∧
  (∀ (p : Port) (k : Packet) (w : Nat × List Nat) (s : State), k.type = tyData → s.pw.wedged = false →
    s.portUp p.val = true → k.rsv = false → tfReserved k = false → s.flag (pgPort p.val) .POS_VALID = true → k.dest = s.myId → k.enc = false → s.flag (pgPort p.val) .PORT_ENC_EN = false →
    windowAccept (s.fab.window.find? (s.portPart p.val, k.src, k.srcPart)) k.seq = some w → s.late0 p.val k = false →
    s.mem.cache = [] → tfAt k 36 1 % 4 = 0 → (∀ l ∈ spanLines (tfAt k 28 8) k.payload.length,
      s.faulty (p.val / 2) false (64 * l) = false ∧ s.fenced (64 * l) = false) → ∃ t : State, exec (.dataReceive p k) s = .next t ∧
    t.fab.window.find? (s.portPart p.val, k.src, k.srcPart) = some w ∧ (∀ a, t.mem.byte a =
      if tfAt k 28 8 ≤ a then k.payload[a - tfAt k 28 8]?.getD (s.mem.byte a) else s.mem.byte a) ∧
    (∀ l ∈ spanLines (tfAt k 28 8) k.payload.length, k.poison = true → t.mem.poison.contains l = true)) ∧
  windowAccept none 5 = some (5, []) ∧ windowAccept (some (100, [99])) 100 = none ∧ windowAccept (some (100, [99])) 99 = none ∧
  windowAccept (some (100, [99])) 35 = none ∧ windowAccept (some (100, [99])) 36 = some (100, [36, 99])

/-- SLOT_RECEIVE and SLOT_SEND (R220, R226, R230, R231, R237, R243, R245): every received slot is counted; an uncorrectable one is discarded and asked for again, a whole one is its TYPE's command; the partner's request makes a kept slot due; under NEAR_LOOPBACK the port takes what it sent. Slot 0 carries the heartbeat; a due retry goes before anything that waits; a picked packet takes its partition's next SEQ as it leaves (its copy the same), sealed where the port seals, or is dropped and counted without a route; a dormant lane carries nothing else than slot 0. How a request names its slot is log 83's. -/
def Obligations.Slots : Prop :=
  (∀ (p : Port) (c n : Nat) (k : Packet) (s : State), (s.portUp p.val || s.link p.val == 4) = true → s.flag (pgPort p.val) .NEAR_LOOPBACK = false →
    0 < n → exec (.slotReceive p c n k) s =
    .next (((s.setFab { s.fab with
      received := s.fab.received.put p.val (s.fab.received.get p.val 0 + 1),
      retryAsk := s.fab.retryAsk.put p.val (s.fab.retryAsk.get p.val [] ++ [s.fab.received.get p.val 0]) }).bump
      (pgPort p.val) .FEC_CORR c).bump (pgPort p.val) .FEC_UNCORR n)) ∧
  (∀ (p : Port) (c n j : Nat) (k : Packet) (e : Nat × Packet) (s : State), (s.portUp p.val || s.link p.val == 4) = true →
    s.flag (pgPort p.val) .NEAR_LOOPBACK = false → 0 < n → (s.fab.sent.get p.val []).find? (fun x => x.1 == j) = some e → ∃ t : State,
    exec (.slotReceive p c n k (some j)) s = .next t ∧ t.fab.retryDue.get p.val [] = s.fab.retryDue.get p.val [] ++ [e.2] ∧
    t.fab.sent = s.fab.sent ∧ t.mem = s.mem) ∧
  (∀ (p : Port) (c : Nat) (k : Packet) (s : State), (s.portUp p.val || s.link p.val == 4) = true → s.flag (pgPort p.val) .NEAR_LOOPBACK = false →
    exec (.slotReceive p c 0 k) s =
    let u := ((s.setFab { s.fab with received := s.fab.received.put p.val (s.fab.received.get p.val 0 + 1) }).bump
      (pgPort p.val) .FEC_CORR c).bump (pgPort p.val) .FEC_UNCORR 0
    match k.type with
    | 0 => exec (.dataReceive p k) u
    | 1 => exec (.heartbeatReceive p k) u
    | 2 => if tfAt k 28 1 % 2 = 0 then exec (.timeRequestReceive p k) u else exec (.timeResponseReceive p k) u
    | 3 => exec (.topologyReceive p k) u
    | 4 => exec (.reduceReceive p k) u
    | 5 => exec (.certReceive p k) u
    | 6 => exec (.cuttingReceive p k) u
    | 7 => exec (.cutAckReceive p k) u
    | 8 => exec (.mgmtReceive p k) u
    | _ => .next (if u.pw.wedged then u else u.countDiscard p.val)) ∧
  (∀ (p : Port) (c n : Nat) (a : Option Nat) (k : Packet) (s : State), (s.portUp p.val || s.link p.val == 4) = true →
    s.flag (pgPort p.val) .NEAR_LOOPBACK = true →
    (s.fab.looped.get p.val [] = [] → exec (.slotReceive p c n k a) s = .next s) ∧
    (∀ x rest, s.fab.looped.get p.val [] = x :: rest → x.type = tyData → exec (.slotReceive p c n k a) s =
      exec (.dataReceive p x) (s.setFab { s.fab with looped := s.fab.looped.put p.val rest }))) ∧
  (∀ (p : Port) (s : State), s.portUp p.val = true → 0 < s.portSlots p.val → s.beats p.val = true → ∃ t : State,
    exec (.slotSend p 0) s = .next t ∧ (t.fab.sent.get p.val []).getLast? =
      some (s.fab.sentNo.get p.val 0, { s.heartbeat p.val with frameLo := s.pageFrame (pgPort p.val) % 65536 }) ∧
    (s.heartbeat p.val).type = tyHeartbeat ∧ t.fab.sentNo.get p.val 0 = s.fab.sentNo.get p.val 0 + 1 ∧
    t.get (pgPort p.val) .TX_SLOTS_C 0 = satAdd 32 (s.get (pgPort p.val) .TX_SLOTS_C 0) 1 ∧
    ((s.bed (p.val / 2)).origin = true → t.fab.queue = s.fab.queue)) ∧
  (∀ (p : Port) (n : Nat) (s : State), s.link p.val = 4 → 0 < n → exec (.slotSend p n) s = .next s) ∧
  (∀ (p : Port) (n : Nat) (k : Packet) (rest : List Packet) (s : State), s.portUp p.val = true → 0 < n → n < s.portSlots p.val →
    s.red.votes = [] → takeFirst (s.retrySlot p.val n) (s.fab.retryDue.get p.val []) = some (k, rest) → ∃ t : State,
    exec (.slotSend p n) s = .next t ∧ (t.fab.sent.get p.val []).getLast? = some (s.fab.sentNo.get p.val 0, k) ∧
    t.fab.retryDue.get p.val [] = rest ∧ t.fab.queue = s.fab.queue ∧
    t.get (pgPort p.val) .RETRY = satAdd 32 (s.get (pgPort p.val) .RETRY) 1) ∧
  (∀ (p : Port) (n : Nat) (k d : Packet) (rest : List Packet) (s u : State), s.portUp p.val = true → 0 < n → n < s.portSlots p.val →
    s.red.votes = [] → takeFirst (s.retrySlot p.val n) (s.fab.retryDue.get p.val []) = none → s.pickPacket p.val n = some (k, rest) →
    u = s.setFab { s.fab with queue := s.fab.queue.put p.val rest } → u.routed p.val k = some d → ∃ t : State,
    exec (.slotSend p n) s = .next t ∧
    (t.fab.sent.get p.val []).getLast? = some (s.fab.sentNo.get p.val 0, (u.numbered d).1.sealOut p.val (u.numbered d).2) ∧
    t.fab.queue.get p.val [] = rest ∧ d.cls = k.cls ∧ t.mem = s.mem ∧
    t.get (pgPort p.val) .TX_SLOTS_C (d.cls % 4) = satAdd 32 (s.get (pgPort p.val) .TX_SLOTS_C (d.cls % 4)) 1 ∧
    (linkType d.type = true → (u.numbered d).2.seq = 0 ∧ t.fab.seq = s.fab.seq) ∧
    (linkType d.type = false → s.fab.given.find? (d.srcPart, d.seq) = none → (u.numbered d).2.seq = s.fab.seq.get d.srcPart 0 ∧
      t.fab.seq.get d.srcPart 0 = (s.fab.seq.get d.srcPart 0 + 1) % 2 ^ 64) ∧
    (s.encActive p.val = true → encType d = true → ((u.numbered d).1.sealOut p.val (u.numbered d).2).enc = true)) ∧
  (∀ (p : Port) (n : Nat) (k : Packet) (rest : List Packet) (s : State), s.portUp p.val = true → 0 < n → n < s.portSlots p.val →
    s.red.votes = [] → takeFirst (s.retrySlot p.val n) (s.fab.retryDue.get p.val []) = none → s.pickPacket p.val n = some (k, rest) →
    (s.setFab { s.fab with queue := s.fab.queue.put p.val rest }).routed p.val k = none → ∃ t : State,
    exec (.slotSend p n) s = .next t ∧ t.fab.sent = s.fab.sent ∧ t.fab.queue.get p.val [] = rest ∧ t.fab.seq = s.fab.seq ∧
    t.get (pgPort p.val) .UNROUTED = satAdd 32 (s.get (pgPort p.val) .UNROUTED) 1)

/-- HEARTBEAT_RECEIVE and HEARTBEAT_TIMEOUT (R237, R351): a heartbeat ends the misses, which are counted, and names the interval; after the third miss in a row the partner is down and the port carries nothing. PORT_RETRAIN, PORT_TRAINING_TIMEOUT, LINK_UP (R221, R223): a port that trains carries nothing; after two failed attempts it falls back, after the third it is fenced; when it comes up it sends its identity. D2D_FLIT_RETRY, D2D_TRAINING_LOST, D2D_TRAINING_RECOVERED, D2D_TRAINING_TIMEOUT (R10, R11, R353): retries are counted; a lost link is down until it recovers; one that does not takes the device to Hold, wedged. Which page counts for a link is the model's numbering (log 33), and how misses are counted its choice (log 81). -/
def Obligations.LinkUpkeep : Prop :=
  ((∀ (p : Port) (k : Packet) (s : State), (s.portUp p.val || s.link p.val == 4) = true → s.pw.wedged = false →
    k.type = tyHeartbeat → k.rsv = false → tfReserved k = false →
    exec (.heartbeatReceive p k) s =
    .next ((s.setFab { s.fab with
      missed := s.fab.missed.put p.val 0, expect := s.fab.expect.put p.val (tfAt k 28 1),
      lastBeat := s.fab.lastBeat.put p.val s.time.now }).bump (pgPort p.val) .HB_MISS (s.beatsMissed p.val))) ∧
  (∀ (p : Port) (s : State), (s.portUp p.val || s.link p.val == 4) = true → ∃ t : State, exec (.heartbeatTimeout p) s = .next t ∧
    t.link p.val = 0 ∧ t.get (pgPort p.val) .LANES_UP = 0 ∧ t.get (pgPort p.val) .HB_MISS = satAdd 32 (s.get (pgPort p.val) .HB_MISS) 3 ∧
    t.get (pgPort p.val) .DOWN_CNT = satAdd 16 (s.get (pgPort p.val) .DOWN_CNT) 1 ∧ ∀ x < 16, x ≠ p.val → t.link x = s.link x)) ∧
  ((∀ (p : Port) (s : State), s.portUp p.val = true → ∃ t : State, exec (.portRetrain p) s = .next t ∧ t.link p.val = 1 ∧
    t.get (pgPort p.val) .LANES_UP = 0 ∧ t.portSlots p.val = 0 ∧
    t.fab.attempts.get p.val 1 = (if s.flag (pgPort p.val) .FORCE_FALLBACK then 3 else 1) ∧ t.fab.queue = s.fab.queue) ∧
  (∀ (p : Port) (s : State), s.link p.val = 1 → s.fab.attempts.get p.val 1 < 3 → ∃ t : State, exec (.portTrainingTimeout p) s = .next t ∧
    t.link p.val = 1 ∧ t.fab.attempts.get p.val 1 = s.fab.attempts.get p.val 1 + 1) ∧
  (∀ (p : Port) (s : State), s.link p.val = 1 → 3 ≤ s.fab.attempts.get p.val 1 → ∃ t : State, exec (.portTrainingTimeout p) s = .next t ∧
    t.link p.val = 0 ∧ t.flag (pgPort p.val) .PORT_FENCED = true) ∧
  (∀ (p : Port) (s : State), s.link p.val = 1 → ∃ t : State, exec (.linkUp p) s = .next t ∧
    t.link p.val = (if 3 ≤ s.fab.attempts.get p.val 1 then 3 else 2) ∧ t.get (pgPort p.val) .LANES_UP = 0xFF ∧
    t.fab.missed.get p.val 0 = 0 ∧ ∃ k, t.fab.queue.get p.val [] = s.fab.queue.get p.val [] ++ [k] ∧ k.type = tyTopology ∧ k.cls = 0)) ∧
  ((∀ (l : Fin 11) (s : State), exec (.d2dFlitRetry l false) s = .next (s.bump (d2dPage l.val) .ERR_CORR) ∧
    exec (.d2dFlitRetry l true) s = .next (s.bump pgGlobals .ERR_CORR)) ∧
  (∀ (l : Fin 11) (s : State), ∃ t : State, exec (.d2dTrainingLost l) s = .next t ∧ t.pw.d2dDown.contains l.val = true ∧ { t with pw := s.pw } = s) ∧
  (∀ (l : Fin 11) (s : State), ∃ t : State, exec (.d2dTrainingRecovered l) s = .next t ∧ t.pw.d2dDown.contains l.val = false ∧ { t with pw := s.pw } = s) ∧
  (∀ (l : Fin 11) (s : State), s.pw.d2dDown.contains l.val = true → s.inRun = true → s.pw.transition = none → ∃ t : State,
    exec (.d2dTrainingTimeout l) s = .next t ∧ t.pw.wedged = true ∧ t.pw.transition = some .hold ∧ t.barUp = false ∧ ∀ b < 8, t.bedRuns b = false))

/-- TIME_REQUEST_RECEIVE, TIME_RESPONSE_RECEIVE, GROUP_ALIGN_TIMEOUT (R133, R138, R234): the reference answers at once with T1 echoed; a member, and a device that joins, drops implausible corrections and aligns by the rest; once aligned a joiner takes its group's origin and its keys are agreed; a member that joins moves its counter at once, one that runs reports the offset; after four frames beyond 50 ns it leaves its group and enters Hold. CORR_req is a free value (log 24). TIME_REF_EDGE, TREF_HOLDOVER_TIMEOUT, TIME_HOLD_END (R133, R139): an edge within 50 ns of its second locks; one more than 100 µs off its second goes into holdover, and so do 2.5 s without an edge; clearing TREF_EN ends both; at the end of a hold the counter counts on. -/
def Obligations.GroupAndReferenceTime : Prop :=
  ((∀ (p : Port) (k : Packet) (s : State), s.pw.wedged = false → s.portUp p.val = true → s.flag (pgPort p.val) .POS_VALID = true →
    k.type = tyTime → k.rsv = false → tfReserved k = false → s.late0 p.val k = false → tfAt k 28 1 % 2 = 0 → s.isTimeRef = true → exec (.timeRequestReceive p k) s =
    .next (s.queueOn p.val (newPacket k.src s.myId (s.portPart p.val) 0 tyTime false (tfWith [(28, [1]), (32, leBytes 8 (tfAt k 32 8))])
      (leBytes 8 s.messageTime ++ leBytes 8 s.messageTime)))) ∧
  (∀ (p : Port) (k : Packet) (s t : State), s.pw.wedged = false → s.portUp p.val = true → s.flag (pgPort p.val) .POS_VALID = true →
    k.type = tyTime → k.rsv = false → tfReserved k = false → s.late0 p.val k = false → tfAt k 28 1 % 2 = 1 →
    s.timeGroup (s.portPart p.val) ≠ [] → s.isTimeRef = false →
    t = (if (k.hopCount * 450 * 65536 : Int) < sext 64 (tfAt k 40 8) ∨ (k.hopCount * 450 * 65536 : Int) < Config.corrReq (tfAt k 32 8) then s
      else s.alignOffset (((((fieldAt k.payload 0 8 : Nat) : Int) - (tfAt k 32 8 : Nat) - ((s.time.now : Nat) - (fieldAt k.payload 8 8 : Nat))) * 65536 -
        Config.corrReq (tfAt k 32 8) + sext 64 (tfAt k 40 8)) / 131072)) →
    (t.flag pgGlobals .GROUP_ALIGNED = false → exec (.timeResponseReceive p k) s = .next t) ∧
    (t.flag pgGlobals .GROUP_ALIGNED = true → exec (.timeResponseReceive p k) s = .next (allBeds.foldl (fun u q => u.tryKey q) t.joinOrigins))) ∧
  (∀ (off : Int) (s : State), s.anyBedRuns = false → s.flag pgGlobals .GROUP_ALIGNED = false → 0 < off →
    (s.alignOffset off).time.now = (s.time.now + off.toNat) % 2 ^ 64 ∧ (s.alignOffset off).flag pgGlobals .GROUP_ALIGNED = true ∧
    ∀ b < 8, ((s.alignOffset off).bed b).origin = false) ∧
  (∀ (off : Int) (s : State), s.anyBedRuns = true → (s.alignOffset off).time.now = s.time.now ∧ (s.alignOffset off).beds = s.beds ∧
    (s.alignOffset off).get pgGlobals .ALIGN_ERR = wrap 16 (clampI (-32767) 32767 off) ∧
    (s.alignOffset off).flag pgGlobals .GROUP_ALIGNED = decide (off.natAbs ≤ 10) ∧
    (s.alignOffset off).time.alignFrames = (if 50 < off.natAbs then s.time.alignFrames + 1 else 0)) ∧
  (∀ (q : Bed) (s : State), 4 ≤ s.time.alignFrames → s.inRun = true → s.pw.transition = none → ∃ t : State,
    exec (.groupAlignTimeout q) s = .next t ∧ (t.part q.val).member = false ∧ t.pw.transition = some .hold ∧ t.time.alignFrames = 0 ∧
    ∀ b < 8, t.bedRuns b = false)) ∧
  ((∀ (t0 : Nat) (s : State), s.flag pgGlobals .TREF_EN = true → s.time.trefLast = some t0 → t0 + 999900000 ≤ s.time.now →
    s.time.now ≤ t0 + 1000100000 → (s.time.now % 1000000000 ≤ 50 ∨ 999999950 ≤ s.time.now % 1000000000) → ∃ t : State,
    exec .timeRefEdge s = .next t ∧ t.flag pgGlobals .TREF_LOCKED = true ∧ t.flag pgGlobals .HOLDOVER = false ∧
    t.time.trefLast = some s.time.now ∧ t.time.now = s.time.now ∧ -100 ≤ t.time.rate ∧ t.time.rate ≤ 100) ∧
  (∀ (t0 : Nat) (s : State), s.flag pgGlobals .TREF_EN = true → s.time.trefLast = some t0 →
    (s.time.now < t0 + 999900000 ∨ t0 + 1000100000 < s.time.now) → ∃ t : State, exec .timeRefEdge s = .next t ∧
    t.flag pgGlobals .TREF_LOCKED = false ∧ t.flag pgGlobals .HOLDOVER = true ∧ t.time.now = s.time.now) ∧
  (∀ (t0 : Nat) (s : State), s.flag pgGlobals .TREF_EN = true → s.time.trefLast = some t0 → t0 + 2500000000 ≤ s.time.now → ∃ t : State,
    exec .trefHoldoverTimeout s = .next t ∧ t.flag pgGlobals .TREF_LOCKED = false ∧ t.flag pgGlobals .HOLDOVER = true ∧ t.time = s.time) ∧
  (∀ (s : State), (s.setTref 0).flag pgGlobals .TREF_EN = false ∧ (s.setTref 0).flag pgGlobals .TREF_LOCKED = false ∧
    (s.setTref 0).flag pgGlobals .HOLDOVER = false ∧ (s.setTref 0).time.now = s.time.now) ∧
  (∀ (s : State), exec .timeHoldEnd s = .next { s with time := { s.time with hold := 0 } }))

/-- TOPOLOGY_RECEIVE (R222, R224 to R227): a report enters the map that the next tick takes; a position names the port, and the lowest port with one names the device; switch 63 port 127 is no position. The report's bytes are laid out as log 31 says. -/
def Obligations.Topology : Prop :=
  (∀ (p : Port) (k : Packet) (s : State), s.pw.wedged = false → s.portUp p.val = true → k.type = tyTopology → k.rsv = false →
    tfReserved k = false → tfAt k 28 1 = 2 → ∃ t : State,
    exec (.topologyReceive p k) s = .next t ∧ t = s.setFab { s.fab with topoNew := t.fab.topoNew } ∧ (∃ m, t.fab.topoNew = some m ∧
      (⟨fieldAt k.payload 0 1, fieldAt k.payload 1 1, fieldAt k.payload 2 1, fieldAt k.payload 3 2, tfAt k 29 1⟩ : TopoEntry) ∈ m)) ∧
  (∀ (p : Port) (k : Packet) (s : State), s.pw.wedged = false → s.portUp p.val = true → k.type = tyTopology → k.rsv = false →
    tfReserved k = false → tfAt k 28 1 = 1 →
    fieldAt k.payload 0 1 ≤ 15 → fieldAt k.payload 1 1 ≤ 63 → fieldAt k.payload 2 1 ≤ 127 →
    ¬ (fieldAt k.payload 1 1 = 63 ∧ fieldAt k.payload 2 1 = 127) → s.flag (pgPort p.val) .PORT_FENCED = false →
    (∀ x < 16, x ≠ p.val → s.flag (pgPort x) .POS_VALID = false) → ∃ t : State, exec (.topologyReceive p k) s = .next t ∧
    t.get (pgPort p.val) .PLANE = fieldAt k.payload 0 1 ∧ t.get (pgPort p.val) .SWITCH = fieldAt k.payload 1 1 ∧
    t.get (pgPort p.val) .SWITCH_PORT = fieldAt k.payload 2 1 ∧ t.flag (pgPort p.val) .POS_VALID = true ∧
    t.myId = 128 * fieldAt k.payload 1 1 + fieldAt k.payload 2 1 ∧ t.flag (pgLink 0) .ID_VALID = true ∧ t.fab = s.fab) ∧
  (∀ (p : Port) (k : Packet) (s : State), s.pw.wedged = false → s.portUp p.val = true → k.type = tyTopology → k.rsv = false →
    tfReserved k = false → tfAt k 28 1 = 1 →
    fieldAt k.payload 0 1 ≤ 15 → fieldAt k.payload 1 1 = 63 → fieldAt k.payload 2 1 = 127 →
    (∀ x < 16, x ≠ p.val → s.flag (pgPort x) .POS_VALID = false) → ∃ t : State, exec (.topologyReceive p k) s = .next t ∧
    t.flag (pgPort p.val) .POS_VALID = false ∧ t.flag (pgLink 0) .ID_VALID = false ∧ t.myId = idNone)

/-- REDUCE_RECEIVE (R64, R250, R251, R253): an input of a child that has not yet been heard is added, element by element, with its COUNT and hash, while this member's own part is still to come; a poisoned one is dropped or poisons the part as the bucket says; a wrong, repeated or foreign packet is counted as BAD_PKT, one for a part already sent on as LATE, the first of a part when the store's 4,915 entries are taken as STORE_FULL (how entries are counted is log 85's). -/
def Obligations.PartInputs : Prop :=
  (∀ (p : Port) (k m : Packet) (s u : State) (key : PartKey) (o : OpenStep) (r : Nat), k.type = tyReduce → s.takeIn p.val k = (u, some m) →
    tfAt m 28 2 < vPrecision → u.packetKey (u.portPart p.val) m = some (key, o) →
    rankOf (gradTree o (bucketAt o.file key.bucket) key.tile) (u.selfIn o.members) = some r →
    widthBad m = false → u.expBad key m = false → m.poison = false → (u.partAt key).sentOn = false → u.storeFull (u.partAt key).own (!(u.partAt key).from_.isEmpty) = false →
    (childIds (gradTree o (bucketAt o.file key.bucket) key.tile) r).contains m.src = true → (u.partAt key).from_.contains m.src = false →
    (u.partAt key).own = false → ∃ t : State, exec (.reduceReceive p k) s = .next t ∧
    t.partAt key = { (u.partAt key).add ((unpackSums (bits (tfAt m 34 1) 0 2) (partElems (descAt o.file (bucketAt o.file key.bucket).src) key.piece)
      m.payload).map (readQ (bits (tfAt m 34 1) 0 2))) (tfAt m 36 3) (tfAt m 40 8) (bitAt (tfAt m 34 1) 4) with from_ := m.src :: (u.partAt key).from_ } ∧
    t.get (pgRed p.val) .RX_PARTS = satAdd 32 (u.get (pgRed p.val) .RX_PARTS) 1 ∧ t.red.certs = u.red.certs ∧ t.mem = u.mem) ∧
  (∀ (p : Port) (k m : Packet) (s u : State) (key : PartKey) (o : OpenStep) (r : Nat), k.type = tyReduce → s.takeIn p.val k = (u, some m) →
    tfAt m 28 2 < vPrecision → u.packetKey (u.portPart p.val) m = some (key, o) →
    rankOf (gradTree o (bucketAt o.file key.bucket) key.tile) (u.selfIn o.members) = some r →
    widthBad m = false → m.poison = true → (u.partAt key).sentOn = false → u.storeFull (u.partAt key).own (!(u.partAt key).from_.isEmpty) = false →
    (childIds (gradTree o (bucketAt o.file key.bucket) key.tile) r).contains m.src = true → (u.partAt key).from_.contains m.src = false →
    (u.partAt key).own = false → ∃ t : State, exec (.reduceReceive p k) s = .next t ∧ t.partAt key = { u.partAt key with
      from_ := m.src :: (u.partAt key).from_, poisoned := (u.partAt key).poisoned || !(bucketAt o.file key.bucket).drop }) ∧
  (∀ (p : Port) (k m : Packet) (s u : State), k.type = tyReduce → s.takeIn p.val k = (u, some m) → tfAt m 28 2 < vPrecision →
    u.packetKey (u.portPart p.val) m = none → exec (.reduceReceive p k) s = .next ((u.bump (pgRed p.val) .BAD_PKT).raise (pgRed p.val) 3)) ∧
  (∀ (p : Port) (k m : Packet) (s u : State) (key : PartKey) (o : OpenStep) (r : Nat), k.type = tyReduce → s.takeIn p.val k = (u, some m) →
    tfAt m 28 2 < vPrecision → u.packetKey (u.portPart p.val) m = some (key, o) →
    rankOf (gradTree o (bucketAt o.file key.bucket) key.tile) (u.selfIn o.members) = some r →
    (widthBad m = true ∨ u.expBad key m = true ∨ (childIds (gradTree o (bucketAt o.file key.bucket) key.tile) r).contains m.src = false ∨
      (u.partAt key).from_.contains m.src = true) → exec (.reduceReceive p k) s =
    .next ((u.bump (pgRed p.val) .BAD_PKT).raise (pgRed p.val) 3)) ∧
  (∀ (p : Port) (k m : Packet) (s u : State) (key : PartKey) (o : OpenStep) (r : Nat), k.type = tyReduce → s.takeIn p.val k = (u, some m) →
    tfAt m 28 2 < vPrecision → u.packetKey (u.portPart p.val) m = some (key, o) →
    rankOf (gradTree o (bucketAt o.file key.bucket) key.tile) (u.selfIn o.members) = some r →
    widthBad m = false → u.expBad key m = false → (childIds (gradTree o (bucketAt o.file key.bucket) key.tile) r).contains m.src = true →
    (u.partAt key).from_.contains m.src = false → (u.partAt key).sentOn = true → exec (.reduceReceive p k) s =
    .next ((u.bump (pgRed p.val) .LATE).raise (pgRed p.val) 0)) ∧
  (∀ (p : Port) (k m : Packet) (s u : State) (key : PartKey) (o : OpenStep) (r : Nat), k.type = tyReduce → s.takeIn p.val k = (u, some m) →
    tfAt m 28 2 < vPrecision → u.packetKey (u.portPart p.val) m = some (key, o) →
    rankOf (gradTree o (bucketAt o.file key.bucket) key.tile) (u.selfIn o.members) = some r →
    widthBad m = false → u.expBad key m = false → (childIds (gradTree o (bucketAt o.file key.bucket) key.tile) r).contains m.src = true →
    (u.partAt key).sentOn = false → (u.partAt key).own = false → (u.partAt key).from_ = [] → 4915 ≤ u.storeEntries →
    exec (.reduceReceive p k) s = .next ((u.bump (pgRed p.val) .STORE_FULL).raise (pgRed p.val) 2))

/-- LEVEL_CUTOFF, ROOT_DEADLINE, CERT_RECEIVE (R250, R256 to R258): at its frame a node sends its part on with what it holds, one REDUCE packet to its parent; the root certifies the COUNT and hash that it holds, poisoned without a contributor, one CERT packet to each other live member; a member holds the root's certificate as it came, and counts it LATE once the bucket has settled. -/
def Obligations.PartDeadlines : Prop :=
  (∀ (q : Bed) (b st ti j r : Nat) (o : OpenStep) (s : State), s.stepAt q.val st = some o →
    rankOf (gradTree o (bucketAt o.file b) ti) (s.selfIn o.members) = some r → b < bucketCount o.file → ti < (bucketAt o.file b).tiles →
    j < tileParts (descAt o.file (bucketAt o.file b).src) → (s.partAt ⟨q.val, b, st, ti, j⟩).sentOn = false →
    s.frameEnded q.val o ((bucketAt o.file b).deadline - rankDepth (gradTree o (bucketAt o.file b) ti) r * (bucketAt o.file b).level) = true →
    (r ≠ 0 → (childrenOf (gradTree o (bucketAt o.file b) ti) r).isEmpty = false → ∃ t : State, exec (.levelCutoff q b st ti j) s = .next t ∧
      t.partAt ⟨q.val, b, st, ti, j⟩ = { s.partAt ⟨q.val, b, st, ti, j⟩ with sentOn := true } ∧ t.red.certs = s.red.certs ∧ t.mem = s.mem ∧
      ∀ p ps, s.upPorts q.val = p :: ps → ∃ x : Packet, t.fab.queue.get p [] = s.fab.queue.get p [] ++ [x] ∧ x.type = tyReduce ∧ x.cls = 1 ∧
        x.dest = idAt (gradTree o (bucketAt o.file b) ti) (parentOf (gradTree o (bucketAt o.file b) ti) r) ∧
        x.poison = (s.partAt ⟨q.val, b, st, ti, j⟩).poisoned ∧
        x.tf = padTo 20 (reduceFields b ti st (widthCode (s.partAt ⟨q.val, b, st, ti, j⟩).count) j (s.partAt ⟨q.val, b, st, ti, j⟩).sat false
          ((s.expAt q.val b st ti).getD 0) (s.partAt ⟨q.val, b, st, ti, j⟩).count (s.partAt ⟨q.val, b, st, ti, j⟩).hash) ∧
        x.payload = (if (s.partAt ⟨q.val, b, st, ti, j⟩).poisoned then []
          else packSums (widthCode (s.partAt ⟨q.val, b, st, ti, j⟩).count) ((List.range (partElems (descAt o.file (bucketAt o.file b).src) j)).map
            fun i => (s.partAt ⟨q.val, b, st, ti, j⟩).sums.getD i 0))) ∧
    (r = 0 → ∃ t : State, exec (.rootDeadline q b st ti j) s = .next t ∧
      t.partAt ⟨q.val, b, st, ti, j⟩ = { s.partAt ⟨q.val, b, st, ti, j⟩ with sentOn := true } ∧
      (∃ c, t.red.certs.find? ⟨q.val, b, st, ti, j⟩ = some c ∧ c.count = (s.partAt ⟨q.val, b, st, ti, j⟩).count ∧
        ((s.partAt ⟨q.val, b, st, ti, j⟩).count = 0 → c.poison = true) ∧ ((s.partAt ⟨q.val, b, st, ti, j⟩).poisoned = true → c.poison = true) ∧
        ((s.partAt ⟨q.val, b, st, ti, j⟩).count ≠ 0 → (s.partAt ⟨q.val, b, st, ti, j⟩).poisoned = false → (bucketAt o.file b).noise = false →
          c = ⟨(s.partAt ⟨q.val, b, st, ti, j⟩).count, (s.partAt ⟨q.val, b, st, ti, j⟩).hash, (s.expAt q.val b st ti).getD 0, false,
            (s.partAt ⟨q.val, b, st, ti, j⟩).sat, false, amaxOf (s.partAt ⟨q.val, b, st, ti, j⟩).sums⟩) ∧
        (∀ p ps, s.upPorts q.val = p :: ps → (bucketAt o.file b).noise = false → ∃ l : List Packet,
          t.fab.queue.get p [] = s.fab.queue.get p [] ++ l ∧ l.map (·.dest) = o.members.filter (· != s.selfIn o.members) ∧
          ∀ x ∈ l, x.type = tyCert ∧ x.cls = 1 ∧ x.poison = c.poison ∧
            x.tf = padTo 20 (reduceFields b ti st (widthCode c.count) j c.sat c.noised c.exp c.count c.hash) ∧
            x.payload = (if c.poison then [] else packSums (widthCode c.count) (s.partAt ⟨q.val, b, st, ti, j⟩).sums))) ∧
      t.get (s.redPage q.val) .ROOT_PARTS = satAdd 32 (s.get (s.redPage q.val) .ROOT_PARTS) 1)) ∧
  (∀ (p : Port) (k m : Packet) (s u : State) (key : PartKey) (o : OpenStep), k.type = tyCert → s.takeIn p.val k = (u, some m) →
    tfAt m 28 2 < vPrecision → u.packetKey (u.portPart p.val) m = some (key, o) → widthBad m = false → u.expBad key m = false →
    idAt (gradTree o (bucketAt o.file key.bucket) key.tile) 0 = m.src → u.red.certs.find? key = none →
    u.red.settled.find? (u.portPart p.val, key.bucket, key.step) = none → ∃ t : State, exec (.certReceive p k) s = .next t ∧
    (∃ c, t.red.certs.find? key = some c ∧ c.count = tfAt m 36 3 ∧ c.hash = tfAt m 40 8 ∧ c.exp = sext 8 (tfAt m 35 1) ∧ c.poison = m.poison ∧
      c.sat = bitAt (tfAt m 34 1) 4 ∧ c.noised = bitAt (tfAt m 34 1) 5) ∧ t.red.parts = u.red.parts) ∧
  (∀ (p : Port) (k m : Packet) (s u : State) (key : PartKey) (o : OpenStep), k.type = tyCert → s.takeIn p.val k = (u, some m) →
    tfAt m 28 2 < vPrecision → u.packetKey (u.portPart p.val) m = some (key, o) → widthBad m = false →
    idAt (gradTree o (bucketAt o.file key.bucket) key.tile) 0 = m.src → u.red.certs.find? key = none →
    (u.red.settled.find? (u.portPart p.val, key.bucket, key.step)).isSome = true → exec (.certReceive p k) s =
    .next ((u.bump (pgRed p.val) .LATE).raise (pgRed p.val) 0))

/-- VOTE_DEADLINE (R99, R100, R160, R239, R261, R351): the lead bed's tick at which frame v + 1 of a vote of the code ends, and nothing otherwise. A member acts once on the certificates that it holds: certified trips are noted with their step, a certified loss of a peer waits for its boundary; a member that lacks one leaves its group, rejoins only by graft, and enters Hold. -/
def Obligations.VoteDeadlines : Prop :=
  (∀ (q : Bed) (code : Nat) (s : State),
    (s.tickDue (s.leadBed q.val) = true → s.voteDue q.val code (s.nextFrame (s.leadBed q.val)) ≠ [] →
      exec (.voteDeadline q code) s = .next (s.tick (s.leadBed q.val))) ∧
    ((s.tickDue (s.leadBed q.val) = false ∨ s.voteDue q.val code (s.nextFrame (s.leadBed q.val)) = []) →
      exec (.voteDeadline q code) s = .next s)) ∧
  (∀ (q code n f step : Nat) (s : State), (f, step) ∈ s.voteDue q code n ↔
    ∃ k v, (k, v) ∈ s.red.votes ∧ k.part = q ∧ k.code = code ∧ k.frame = f ∧ k.step = step ∧ f + 2 ≤ n ∧ v.acted = false) ∧
  (∀ (q code f step : Nat) (s : State), ∀ j < 8, ∀ v, s.red.votes.find? ⟨q, code, f, step, j⟩ = some v →
    ∃ w, (s.closeVote q code f step).red.votes.find? ⟨q, code, f, step, j⟩ = some w ∧ w.acted = true ∧ w.own = v.own ∧ w.members = v.members) ∧
  (∀ (q f step : Nat) (v : Vote) (c : VoteSum) (s : State),
    s.voteParts q vPrecision f step = [(⟨q, vPrecision, f, step, 0⟩, v)] → s.votesIn q vPrecision v = true → certOf v = some c →
    ((s.closeVote q vPrecision f step).part q).tripped = (s.part q).tripped ++
      (onesOf ((List.range v.elems).map fun i => c.sums.getD i 0)).map fun i => (i, step)) ∧
  (∀ (q v d : Nat) (l : List Int) (s : State), l.getD d 0 = 1 → d < l.length → d < 8191 → (s.part q).lost.contains d = false →
    d ∈ ((s.actLoss q v l).part q).lost ∧ ∃ c ∈ ((s.actLoss q v l).part q).changes, d ∈ c.lost ∧ c.notBefore = v + 5 ∧ c.step = none) ∧
  (∀ (q code f step : Nat) (v : Vote) (s : State), ((s.part q).member = true ∨ code = vActivation) →
    (s.voteParts q code f step).head?.map (·.2) = some v → s.votesIn q code v = true →
    (∃ e ∈ s.voteParts q code f step, certOf e.2 = none) → s.inRun = true → s.pw.transition = none →
    ((s.closeVote q code f step).part q).member = false ∧ q ∈ (s.closeVote q code f step).fab.rejoin ∧
    (s.closeVote q code f step).pw.transition = some .hold ∧
    (s.closeVote q code f step).get (s.redPage q) .VOTE_FAIL = satAdd 16 (s.get (s.redPage q) .VOTE_FAIL) 1)
end

