-- ==== Sys2Proof/Laws/Tab.lean ====
section
/-! SUPPORT. Laws of the sparse tables: read after write, and what a write leaves alone. -/

namespace Sys2Proof.Machine

variable {κ α : Type} [DecidableEq κ]

@[simp] theorem Tab.find?_nil (k : κ) : Tab.find? ([] : Tab κ α) k = none := rfl

/-- A read of the key just written gives the value written. -/
@[simp] theorem Tab.find?_put_same (t : Tab κ α) (k : κ) (v : α) : Tab.find? (Tab.put t k v) k = some v := by
  induction t with
  | nil => simp [Tab.put, Tab.find?]
  | cons e t ih =>
    obtain ⟨k', v'⟩ := e
    by_cases h : k' = k <;> simp [Tab.put, Tab.find?, h, ih]

/-- A write leaves every other key alone. -/
theorem Tab.find?_put_ne (t : Tab κ α) {k j : κ} (v : α) (h : j ≠ k) : Tab.find? (Tab.put t k v) j = Tab.find? t j := by
  induction t with
  | nil => simp [Tab.put, Tab.find?, Ne.symm h]
  | cons e t ih =>
    obtain ⟨k', v'⟩ := e
    by_cases h' : k' = k
    · subst h'; simp [Tab.put, Tab.find?, Ne.symm h]
    · simp only [Tab.put, h', if_false, Tab.find?, ih]

theorem Tab.find?_put (t : Tab κ α) (k j : κ) (v : α) :
    Tab.find? (Tab.put t k v) j = if j = k then some v else Tab.find? t j := by
  split
  · rename_i h; rw [h, Tab.find?_put_same]
  · rename_i h; exact Tab.find?_put_ne t v h

@[simp] theorem Tab.get_put_same (t : Tab κ α) (k : κ) (v d : α) : Tab.get (Tab.put t k v) k d = v := by simp [Tab.get]

theorem Tab.get_put_ne (t : Tab κ α) {k j : κ} (v d : α) (h : j ≠ k) : Tab.get (Tab.put t k v) j d = Tab.get t j d := by
  simp [Tab.get, Tab.find?_put_ne t v h]

theorem Tab.get_put (t : Tab κ α) (k j : κ) (v d : α) :
    Tab.get (Tab.put t k v) j d = if j = k then v else Tab.get t j d := by
  split
  · rename_i h; rw [h, Tab.get_put_same]
  · rename_i h; exact Tab.get_put_ne t v d h

/-- Deleting keys by a test: a kept key reads as before, a deleted one is unlisted. -/
theorem Tab.find?_delIf (t : Tab κ α) (p : κ → Bool) (j : κ) :
    Tab.find? (Tab.delIf t p) j = if p j then none else Tab.find? t j := by
  induction t with
  | nil => simp [Tab.delIf, Tab.find?]
  | cons e t ih =>
    obtain ⟨k', v'⟩ := e
    unfold Tab.delIf at ih ⊢
    by_cases hp : p k' = true
    · rw [List.filter_cons_of_neg (by simp [hp]), ih]
      by_cases hk : k' = j
      · subst hk; simp [hp]
      · simp [Tab.find?, hk]
    · rw [List.filter_cons_of_pos (by simp [hp])]
      by_cases hk : k' = j
      · subst hk; simp [Tab.find?, hp]
      · simp only [Tab.find?, hk, if_false, ih]

theorem Tab.del_eq_delIf (t : Tab κ α) (k : κ) : Tab.del t k = Tab.delIf t fun j => decide (j = k) := by
  unfold Tab.del Tab.delIf
  congr 1
  funext e
  simp

/-- Deleting a key: it is unlisted, the others read as before. -/
theorem Tab.find?_del (t : Tab κ α) (k j : κ) : Tab.find? (Tab.del t k) j = if j = k then none else Tab.find? t j := by
  rw [Tab.del_eq_delIf, Tab.find?_delIf]
  simp

end Sys2Proof.Machine
end

