-- ==== Sys2Proof/Laws/State.lean ====
section
/-! SUPPORT. What each plain update of the state leaves alone, field by field, and reading a register after writing one. -/

namespace Sys2Proof.Machine

variable (s : State)

/-! put changes regs only. -/

@[simp] theorem State.put_pending (p : Page) (f : Fld) (v i : Nat) : (s.put p f v i).pending = s.pending := rfl
@[simp] theorem State.put_free (p : Page) (f : Fld) (v i : Nat) : (s.put p f v i).free = s.free := rfl
@[simp] theorem State.put_out (p : Page) (f : Fld) (v i : Nat) : (s.put p f v i).out = s.out := rfl
@[simp] theorem State.put_latches (p : Page) (f : Fld) (v i : Nat) : (s.put p f v i).latches = s.latches := rfl
@[simp] theorem State.put_coarse (p : Page) (f : Fld) (v i : Nat) : (s.put p f v i).coarse = s.coarse := rfl
@[simp] theorem State.put_staging (p : Page) (f : Fld) (v i : Nat) : (s.put p f v i).staging = s.staging := rfl
@[simp] theorem State.put_directory (p : Page) (f : Fld) (v i : Nat) : (s.put p f v i).directory = s.directory := rfl
@[simp] theorem State.put_stops (p : Page) (f : Fld) (v i : Nat) : (s.put p f v i).stops = s.stops := rfl
@[simp] theorem State.put_halted (p : Page) (f : Fld) (v i : Nat) : (s.put p f v i).halted = s.halted := rfl
@[simp] theorem State.put_once (p : Page) (f : Fld) (v i : Nat) : (s.put p f v i).once = s.once := rfl
@[simp] theorem State.put_time (p : Page) (f : Fld) (v i : Nat) : (s.put p f v i).time = s.time := rfl
@[simp] theorem State.put_pw (p : Page) (f : Fld) (v i : Nat) : (s.put p f v i).pw = s.pw := rfl
@[simp] theorem State.put_beds (p : Page) (f : Fld) (v i : Nat) : (s.put p f v i).beds = s.beds := rfl
@[simp] theorem State.put_parts (p : Page) (f : Fld) (v i : Nat) : (s.put p f v i).parts = s.parts := rfl
@[simp] theorem State.put_arms (p : Page) (f : Fld) (v i : Nat) : (s.put p f v i).arms = s.arms := rfl
@[simp] theorem State.put_cores (p : Page) (f : Fld) (v i : Nat) : (s.put p f v i).cores = s.cores := rfl
@[simp] theorem State.put_mem (p : Page) (f : Fld) (v i : Nat) : (s.put p f v i).mem = s.mem := rfl
@[simp] theorem State.put_upd (p : Page) (f : Fld) (v i : Nat) : (s.put p f v i).upd = s.upd := rfl
@[simp] theorem State.put_fab (p : Page) (f : Fld) (v i : Nat) : (s.put p f v i).fab = s.fab := rfl
@[simp] theorem State.put_red (p : Page) (f : Fld) (v i : Nat) : (s.put p f v i).red = s.red := rfl
@[simp] theorem State.put_noise (p : Page) (f : Fld) (v i : Nat) : (s.put p f v i).noise = s.noise := rfl
@[simp] theorem State.put_evr (p : Page) (f : Fld) (v i : Nat) : (s.put p f v i).evr = s.evr := rfl
@[simp] theorem State.put_sec (p : Page) (f : Fld) (v i : Nat) : (s.put p f v i).sec = s.sec := rfl
@[simp] theorem State.put_host (p : Page) (f : Fld) (v i : Nat) : (s.put p f v i).host = s.host := rfl
@[simp] theorem State.put_isl (p : Page) (f : Fld) (v i : Nat) : (s.put p f v i).isl = s.isl := rfl
@[simp] theorem State.put_tap (p : Page) (f : Fld) (v i : Nat) : (s.put p f v i).tap = s.tap := rfl

/-! bump changes regs only. -/

@[simp] theorem State.bump_pending (p : Page) (f : Fld) (n i : Nat) : (s.bump p f n i).pending = s.pending := rfl
@[simp] theorem State.bump_free (p : Page) (f : Fld) (n i : Nat) : (s.bump p f n i).free = s.free := rfl
@[simp] theorem State.bump_out (p : Page) (f : Fld) (n i : Nat) : (s.bump p f n i).out = s.out := rfl
@[simp] theorem State.bump_latches (p : Page) (f : Fld) (n i : Nat) : (s.bump p f n i).latches = s.latches := rfl
@[simp] theorem State.bump_coarse (p : Page) (f : Fld) (n i : Nat) : (s.bump p f n i).coarse = s.coarse := rfl
@[simp] theorem State.bump_staging (p : Page) (f : Fld) (n i : Nat) : (s.bump p f n i).staging = s.staging := rfl
@[simp] theorem State.bump_directory (p : Page) (f : Fld) (n i : Nat) : (s.bump p f n i).directory = s.directory := rfl
@[simp] theorem State.bump_stops (p : Page) (f : Fld) (n i : Nat) : (s.bump p f n i).stops = s.stops := rfl
@[simp] theorem State.bump_halted (p : Page) (f : Fld) (n i : Nat) : (s.bump p f n i).halted = s.halted := rfl
@[simp] theorem State.bump_once (p : Page) (f : Fld) (n i : Nat) : (s.bump p f n i).once = s.once := rfl
@[simp] theorem State.bump_time (p : Page) (f : Fld) (n i : Nat) : (s.bump p f n i).time = s.time := rfl
@[simp] theorem State.bump_pw (p : Page) (f : Fld) (n i : Nat) : (s.bump p f n i).pw = s.pw := rfl
@[simp] theorem State.bump_beds (p : Page) (f : Fld) (n i : Nat) : (s.bump p f n i).beds = s.beds := rfl
@[simp] theorem State.bump_parts (p : Page) (f : Fld) (n i : Nat) : (s.bump p f n i).parts = s.parts := rfl
@[simp] theorem State.bump_arms (p : Page) (f : Fld) (n i : Nat) : (s.bump p f n i).arms = s.arms := rfl
@[simp] theorem State.bump_cores (p : Page) (f : Fld) (n i : Nat) : (s.bump p f n i).cores = s.cores := rfl
@[simp] theorem State.bump_mem (p : Page) (f : Fld) (n i : Nat) : (s.bump p f n i).mem = s.mem := rfl
@[simp] theorem State.bump_upd (p : Page) (f : Fld) (n i : Nat) : (s.bump p f n i).upd = s.upd := rfl
@[simp] theorem State.bump_fab (p : Page) (f : Fld) (n i : Nat) : (s.bump p f n i).fab = s.fab := rfl
@[simp] theorem State.bump_red (p : Page) (f : Fld) (n i : Nat) : (s.bump p f n i).red = s.red := rfl
@[simp] theorem State.bump_noise (p : Page) (f : Fld) (n i : Nat) : (s.bump p f n i).noise = s.noise := rfl
@[simp] theorem State.bump_evr (p : Page) (f : Fld) (n i : Nat) : (s.bump p f n i).evr = s.evr := rfl
@[simp] theorem State.bump_sec (p : Page) (f : Fld) (n i : Nat) : (s.bump p f n i).sec = s.sec := rfl
@[simp] theorem State.bump_host (p : Page) (f : Fld) (n i : Nat) : (s.bump p f n i).host = s.host := rfl
@[simp] theorem State.bump_isl (p : Page) (f : Fld) (n i : Nat) : (s.bump p f n i).isl = s.isl := rfl
@[simp] theorem State.bump_tap (p : Page) (f : Fld) (n i : Nat) : (s.bump p f n i).tap = s.tap := rfl

/-! evt changes regs only. -/

@[simp] theorem State.evt_pending (p : Page) (b : Nat) : (s.evt p b).pending = s.pending := rfl
@[simp] theorem State.evt_free (p : Page) (b : Nat) : (s.evt p b).free = s.free := rfl
@[simp] theorem State.evt_out (p : Page) (b : Nat) : (s.evt p b).out = s.out := rfl
@[simp] theorem State.evt_latches (p : Page) (b : Nat) : (s.evt p b).latches = s.latches := rfl
@[simp] theorem State.evt_coarse (p : Page) (b : Nat) : (s.evt p b).coarse = s.coarse := rfl
@[simp] theorem State.evt_staging (p : Page) (b : Nat) : (s.evt p b).staging = s.staging := rfl
@[simp] theorem State.evt_directory (p : Page) (b : Nat) : (s.evt p b).directory = s.directory := rfl
@[simp] theorem State.evt_stops (p : Page) (b : Nat) : (s.evt p b).stops = s.stops := rfl
@[simp] theorem State.evt_halted (p : Page) (b : Nat) : (s.evt p b).halted = s.halted := rfl
@[simp] theorem State.evt_once (p : Page) (b : Nat) : (s.evt p b).once = s.once := rfl
@[simp] theorem State.evt_time (p : Page) (b : Nat) : (s.evt p b).time = s.time := rfl
@[simp] theorem State.evt_pw (p : Page) (b : Nat) : (s.evt p b).pw = s.pw := rfl
@[simp] theorem State.evt_beds (p : Page) (b : Nat) : (s.evt p b).beds = s.beds := rfl
@[simp] theorem State.evt_parts (p : Page) (b : Nat) : (s.evt p b).parts = s.parts := rfl
@[simp] theorem State.evt_arms (p : Page) (b : Nat) : (s.evt p b).arms = s.arms := rfl
@[simp] theorem State.evt_cores (p : Page) (b : Nat) : (s.evt p b).cores = s.cores := rfl
@[simp] theorem State.evt_mem (p : Page) (b : Nat) : (s.evt p b).mem = s.mem := rfl
@[simp] theorem State.evt_upd (p : Page) (b : Nat) : (s.evt p b).upd = s.upd := rfl
@[simp] theorem State.evt_fab (p : Page) (b : Nat) : (s.evt p b).fab = s.fab := rfl
@[simp] theorem State.evt_red (p : Page) (b : Nat) : (s.evt p b).red = s.red := rfl
@[simp] theorem State.evt_noise (p : Page) (b : Nat) : (s.evt p b).noise = s.noise := rfl
@[simp] theorem State.evt_evr (p : Page) (b : Nat) : (s.evt p b).evr = s.evr := rfl
@[simp] theorem State.evt_sec (p : Page) (b : Nat) : (s.evt p b).sec = s.sec := rfl
@[simp] theorem State.evt_host (p : Page) (b : Nat) : (s.evt p b).host = s.host := rfl
@[simp] theorem State.evt_isl (p : Page) (b : Nat) : (s.evt p b).isl = s.isl := rfl
@[simp] theorem State.evt_tap (p : Page) (b : Nat) : (s.evt p b).tap = s.tap := rfl

/-! resetFields changes regs only. -/

@[simp] theorem State.resetFields_pending (p : Page) (l : List Fld) : (s.resetFields p l).pending = s.pending := rfl
@[simp] theorem State.resetFields_free (p : Page) (l : List Fld) : (s.resetFields p l).free = s.free := rfl
@[simp] theorem State.resetFields_out (p : Page) (l : List Fld) : (s.resetFields p l).out = s.out := rfl
@[simp] theorem State.resetFields_latches (p : Page) (l : List Fld) : (s.resetFields p l).latches = s.latches := rfl
@[simp] theorem State.resetFields_coarse (p : Page) (l : List Fld) : (s.resetFields p l).coarse = s.coarse := rfl
@[simp] theorem State.resetFields_staging (p : Page) (l : List Fld) : (s.resetFields p l).staging = s.staging := rfl
@[simp] theorem State.resetFields_directory (p : Page) (l : List Fld) : (s.resetFields p l).directory = s.directory := rfl
@[simp] theorem State.resetFields_stops (p : Page) (l : List Fld) : (s.resetFields p l).stops = s.stops := rfl
@[simp] theorem State.resetFields_halted (p : Page) (l : List Fld) : (s.resetFields p l).halted = s.halted := rfl
@[simp] theorem State.resetFields_once (p : Page) (l : List Fld) : (s.resetFields p l).once = s.once := rfl
@[simp] theorem State.resetFields_time (p : Page) (l : List Fld) : (s.resetFields p l).time = s.time := rfl
@[simp] theorem State.resetFields_pw (p : Page) (l : List Fld) : (s.resetFields p l).pw = s.pw := rfl
@[simp] theorem State.resetFields_beds (p : Page) (l : List Fld) : (s.resetFields p l).beds = s.beds := rfl
@[simp] theorem State.resetFields_parts (p : Page) (l : List Fld) : (s.resetFields p l).parts = s.parts := rfl
@[simp] theorem State.resetFields_arms (p : Page) (l : List Fld) : (s.resetFields p l).arms = s.arms := rfl
@[simp] theorem State.resetFields_cores (p : Page) (l : List Fld) : (s.resetFields p l).cores = s.cores := rfl
@[simp] theorem State.resetFields_mem (p : Page) (l : List Fld) : (s.resetFields p l).mem = s.mem := rfl
@[simp] theorem State.resetFields_upd (p : Page) (l : List Fld) : (s.resetFields p l).upd = s.upd := rfl
@[simp] theorem State.resetFields_fab (p : Page) (l : List Fld) : (s.resetFields p l).fab = s.fab := rfl
@[simp] theorem State.resetFields_red (p : Page) (l : List Fld) : (s.resetFields p l).red = s.red := rfl
@[simp] theorem State.resetFields_noise (p : Page) (l : List Fld) : (s.resetFields p l).noise = s.noise := rfl
@[simp] theorem State.resetFields_evr (p : Page) (l : List Fld) : (s.resetFields p l).evr = s.evr := rfl
@[simp] theorem State.resetFields_sec (p : Page) (l : List Fld) : (s.resetFields p l).sec = s.sec := rfl
@[simp] theorem State.resetFields_host (p : Page) (l : List Fld) : (s.resetFields p l).host = s.host := rfl
@[simp] theorem State.resetFields_isl (p : Page) (l : List Fld) : (s.resetFields p l).isl = s.isl := rfl
@[simp] theorem State.resetFields_tap (p : Page) (l : List Fld) : (s.resetFields p l).tap = s.tap := rfl

/-! setBed changes beds only. -/

@[simp] theorem State.setBed_pending (b : Nat) (x : BedSt) : (s.setBed b x).pending = s.pending := rfl
@[simp] theorem State.setBed_free (b : Nat) (x : BedSt) : (s.setBed b x).free = s.free := rfl
@[simp] theorem State.setBed_out (b : Nat) (x : BedSt) : (s.setBed b x).out = s.out := rfl
@[simp] theorem State.setBed_regs (b : Nat) (x : BedSt) : (s.setBed b x).regs = s.regs := rfl
@[simp] theorem State.setBed_latches (b : Nat) (x : BedSt) : (s.setBed b x).latches = s.latches := rfl
@[simp] theorem State.setBed_coarse (b : Nat) (x : BedSt) : (s.setBed b x).coarse = s.coarse := rfl
@[simp] theorem State.setBed_staging (b : Nat) (x : BedSt) : (s.setBed b x).staging = s.staging := rfl
@[simp] theorem State.setBed_directory (b : Nat) (x : BedSt) : (s.setBed b x).directory = s.directory := rfl
@[simp] theorem State.setBed_stops (b : Nat) (x : BedSt) : (s.setBed b x).stops = s.stops := rfl
@[simp] theorem State.setBed_halted (b : Nat) (x : BedSt) : (s.setBed b x).halted = s.halted := rfl
@[simp] theorem State.setBed_once (b : Nat) (x : BedSt) : (s.setBed b x).once = s.once := rfl
@[simp] theorem State.setBed_time (b : Nat) (x : BedSt) : (s.setBed b x).time = s.time := rfl
@[simp] theorem State.setBed_pw (b : Nat) (x : BedSt) : (s.setBed b x).pw = s.pw := rfl
@[simp] theorem State.setBed_parts (b : Nat) (x : BedSt) : (s.setBed b x).parts = s.parts := rfl
@[simp] theorem State.setBed_arms (b : Nat) (x : BedSt) : (s.setBed b x).arms = s.arms := rfl
@[simp] theorem State.setBed_cores (b : Nat) (x : BedSt) : (s.setBed b x).cores = s.cores := rfl
@[simp] theorem State.setBed_mem (b : Nat) (x : BedSt) : (s.setBed b x).mem = s.mem := rfl
@[simp] theorem State.setBed_upd (b : Nat) (x : BedSt) : (s.setBed b x).upd = s.upd := rfl
@[simp] theorem State.setBed_fab (b : Nat) (x : BedSt) : (s.setBed b x).fab = s.fab := rfl
@[simp] theorem State.setBed_red (b : Nat) (x : BedSt) : (s.setBed b x).red = s.red := rfl
@[simp] theorem State.setBed_noise (b : Nat) (x : BedSt) : (s.setBed b x).noise = s.noise := rfl
@[simp] theorem State.setBed_evr (b : Nat) (x : BedSt) : (s.setBed b x).evr = s.evr := rfl
@[simp] theorem State.setBed_sec (b : Nat) (x : BedSt) : (s.setBed b x).sec = s.sec := rfl
@[simp] theorem State.setBed_host (b : Nat) (x : BedSt) : (s.setBed b x).host = s.host := rfl
@[simp] theorem State.setBed_isl (b : Nat) (x : BedSt) : (s.setBed b x).isl = s.isl := rfl
@[simp] theorem State.setBed_tap (b : Nat) (x : BedSt) : (s.setBed b x).tap = s.tap := rfl
@[simp] theorem State.setBed_get (b : Nat) (x : BedSt) (q0 : Page) (g : Fld) (j : Nat) : (s.setBed b x).get q0 g j = s.get q0 g j := rfl
@[simp] theorem State.setBed_flag (b : Nat) (x : BedSt) (q0 : Page) (g : Fld) (j : Nat) : (s.setBed b x).flag q0 g j = s.flag q0 g j := rfl

/-! setPart changes parts only. -/

@[simp] theorem State.setPart_pending (q : Nat) (x : PartSt) : (s.setPart q x).pending = s.pending := rfl
@[simp] theorem State.setPart_free (q : Nat) (x : PartSt) : (s.setPart q x).free = s.free := rfl
@[simp] theorem State.setPart_out (q : Nat) (x : PartSt) : (s.setPart q x).out = s.out := rfl
@[simp] theorem State.setPart_regs (q : Nat) (x : PartSt) : (s.setPart q x).regs = s.regs := rfl
@[simp] theorem State.setPart_latches (q : Nat) (x : PartSt) : (s.setPart q x).latches = s.latches := rfl
@[simp] theorem State.setPart_coarse (q : Nat) (x : PartSt) : (s.setPart q x).coarse = s.coarse := rfl
@[simp] theorem State.setPart_staging (q : Nat) (x : PartSt) : (s.setPart q x).staging = s.staging := rfl
@[simp] theorem State.setPart_directory (q : Nat) (x : PartSt) : (s.setPart q x).directory = s.directory := rfl
@[simp] theorem State.setPart_stops (q : Nat) (x : PartSt) : (s.setPart q x).stops = s.stops := rfl
@[simp] theorem State.setPart_halted (q : Nat) (x : PartSt) : (s.setPart q x).halted = s.halted := rfl
@[simp] theorem State.setPart_once (q : Nat) (x : PartSt) : (s.setPart q x).once = s.once := rfl
@[simp] theorem State.setPart_time (q : Nat) (x : PartSt) : (s.setPart q x).time = s.time := rfl
@[simp] theorem State.setPart_pw (q : Nat) (x : PartSt) : (s.setPart q x).pw = s.pw := rfl
@[simp] theorem State.setPart_beds (q : Nat) (x : PartSt) : (s.setPart q x).beds = s.beds := rfl
@[simp] theorem State.setPart_arms (q : Nat) (x : PartSt) : (s.setPart q x).arms = s.arms := rfl
@[simp] theorem State.setPart_cores (q : Nat) (x : PartSt) : (s.setPart q x).cores = s.cores := rfl
@[simp] theorem State.setPart_mem (q : Nat) (x : PartSt) : (s.setPart q x).mem = s.mem := rfl
@[simp] theorem State.setPart_upd (q : Nat) (x : PartSt) : (s.setPart q x).upd = s.upd := rfl
@[simp] theorem State.setPart_fab (q : Nat) (x : PartSt) : (s.setPart q x).fab = s.fab := rfl
@[simp] theorem State.setPart_red (q : Nat) (x : PartSt) : (s.setPart q x).red = s.red := rfl
@[simp] theorem State.setPart_noise (q : Nat) (x : PartSt) : (s.setPart q x).noise = s.noise := rfl
@[simp] theorem State.setPart_evr (q : Nat) (x : PartSt) : (s.setPart q x).evr = s.evr := rfl
@[simp] theorem State.setPart_sec (q : Nat) (x : PartSt) : (s.setPart q x).sec = s.sec := rfl
@[simp] theorem State.setPart_host (q : Nat) (x : PartSt) : (s.setPart q x).host = s.host := rfl
@[simp] theorem State.setPart_isl (q : Nat) (x : PartSt) : (s.setPart q x).isl = s.isl := rfl
@[simp] theorem State.setPart_tap (q : Nat) (x : PartSt) : (s.setPart q x).tap = s.tap := rfl
@[simp] theorem State.setPart_get (q : Nat) (x : PartSt) (q0 : Page) (g : Fld) (j : Nat) : (s.setPart q x).get q0 g j = s.get q0 g j := rfl
@[simp] theorem State.setPart_flag (q : Nat) (x : PartSt) (q0 : Page) (g : Fld) (j : Nat) : (s.setPart q x).flag q0 g j = s.flag q0 g j := rfl

/-! setSession changes sec only. -/

@[simp] theorem State.setSession_pending (q : Nat) (x : Session) : (s.setSession q x).pending = s.pending := rfl
@[simp] theorem State.setSession_free (q : Nat) (x : Session) : (s.setSession q x).free = s.free := rfl
@[simp] theorem State.setSession_out (q : Nat) (x : Session) : (s.setSession q x).out = s.out := rfl
@[simp] theorem State.setSession_regs (q : Nat) (x : Session) : (s.setSession q x).regs = s.regs := rfl
@[simp] theorem State.setSession_latches (q : Nat) (x : Session) : (s.setSession q x).latches = s.latches := rfl
@[simp] theorem State.setSession_coarse (q : Nat) (x : Session) : (s.setSession q x).coarse = s.coarse := rfl
@[simp] theorem State.setSession_staging (q : Nat) (x : Session) : (s.setSession q x).staging = s.staging := rfl
@[simp] theorem State.setSession_directory (q : Nat) (x : Session) : (s.setSession q x).directory = s.directory := rfl
@[simp] theorem State.setSession_stops (q : Nat) (x : Session) : (s.setSession q x).stops = s.stops := rfl
@[simp] theorem State.setSession_halted (q : Nat) (x : Session) : (s.setSession q x).halted = s.halted := rfl
@[simp] theorem State.setSession_once (q : Nat) (x : Session) : (s.setSession q x).once = s.once := rfl
@[simp] theorem State.setSession_time (q : Nat) (x : Session) : (s.setSession q x).time = s.time := rfl
@[simp] theorem State.setSession_pw (q : Nat) (x : Session) : (s.setSession q x).pw = s.pw := rfl
@[simp] theorem State.setSession_beds (q : Nat) (x : Session) : (s.setSession q x).beds = s.beds := rfl
@[simp] theorem State.setSession_parts (q : Nat) (x : Session) : (s.setSession q x).parts = s.parts := rfl
@[simp] theorem State.setSession_arms (q : Nat) (x : Session) : (s.setSession q x).arms = s.arms := rfl
@[simp] theorem State.setSession_cores (q : Nat) (x : Session) : (s.setSession q x).cores = s.cores := rfl
@[simp] theorem State.setSession_mem (q : Nat) (x : Session) : (s.setSession q x).mem = s.mem := rfl
@[simp] theorem State.setSession_upd (q : Nat) (x : Session) : (s.setSession q x).upd = s.upd := rfl
@[simp] theorem State.setSession_fab (q : Nat) (x : Session) : (s.setSession q x).fab = s.fab := rfl
@[simp] theorem State.setSession_red (q : Nat) (x : Session) : (s.setSession q x).red = s.red := rfl
@[simp] theorem State.setSession_noise (q : Nat) (x : Session) : (s.setSession q x).noise = s.noise := rfl
@[simp] theorem State.setSession_evr (q : Nat) (x : Session) : (s.setSession q x).evr = s.evr := rfl
@[simp] theorem State.setSession_host (q : Nat) (x : Session) : (s.setSession q x).host = s.host := rfl
@[simp] theorem State.setSession_isl (q : Nat) (x : Session) : (s.setSession q x).isl = s.isl := rfl
@[simp] theorem State.setSession_tap (q : Nat) (x : Session) : (s.setSession q x).tap = s.tap := rfl
@[simp] theorem State.setSession_get (q : Nat) (x : Session) (q0 : Page) (g : Fld) (j : Nat) : (s.setSession q x).get q0 g j = s.get q0 g j := rfl
@[simp] theorem State.setSession_flag (q : Nat) (x : Session) (q0 : Page) (g : Fld) (j : Nat) : (s.setSession q x).flag q0 g j = s.flag q0 g j := rfl

/-! setStaging changes staging only. -/

@[simp] theorem State.setStaging_pending (p : Page) (x : Staging) : (s.setStaging p x).pending = s.pending := rfl
@[simp] theorem State.setStaging_free (p : Page) (x : Staging) : (s.setStaging p x).free = s.free := rfl
@[simp] theorem State.setStaging_out (p : Page) (x : Staging) : (s.setStaging p x).out = s.out := rfl
@[simp] theorem State.setStaging_regs (p : Page) (x : Staging) : (s.setStaging p x).regs = s.regs := rfl
@[simp] theorem State.setStaging_latches (p : Page) (x : Staging) : (s.setStaging p x).latches = s.latches := rfl
@[simp] theorem State.setStaging_coarse (p : Page) (x : Staging) : (s.setStaging p x).coarse = s.coarse := rfl
@[simp] theorem State.setStaging_directory (p : Page) (x : Staging) : (s.setStaging p x).directory = s.directory := rfl
@[simp] theorem State.setStaging_stops (p : Page) (x : Staging) : (s.setStaging p x).stops = s.stops := rfl
@[simp] theorem State.setStaging_halted (p : Page) (x : Staging) : (s.setStaging p x).halted = s.halted := rfl
@[simp] theorem State.setStaging_once (p : Page) (x : Staging) : (s.setStaging p x).once = s.once := rfl
@[simp] theorem State.setStaging_time (p : Page) (x : Staging) : (s.setStaging p x).time = s.time := rfl
@[simp] theorem State.setStaging_pw (p : Page) (x : Staging) : (s.setStaging p x).pw = s.pw := rfl
@[simp] theorem State.setStaging_beds (p : Page) (x : Staging) : (s.setStaging p x).beds = s.beds := rfl
@[simp] theorem State.setStaging_parts (p : Page) (x : Staging) : (s.setStaging p x).parts = s.parts := rfl
@[simp] theorem State.setStaging_arms (p : Page) (x : Staging) : (s.setStaging p x).arms = s.arms := rfl
@[simp] theorem State.setStaging_cores (p : Page) (x : Staging) : (s.setStaging p x).cores = s.cores := rfl
@[simp] theorem State.setStaging_mem (p : Page) (x : Staging) : (s.setStaging p x).mem = s.mem := rfl
@[simp] theorem State.setStaging_upd (p : Page) (x : Staging) : (s.setStaging p x).upd = s.upd := rfl
@[simp] theorem State.setStaging_fab (p : Page) (x : Staging) : (s.setStaging p x).fab = s.fab := rfl
@[simp] theorem State.setStaging_red (p : Page) (x : Staging) : (s.setStaging p x).red = s.red := rfl
@[simp] theorem State.setStaging_noise (p : Page) (x : Staging) : (s.setStaging p x).noise = s.noise := rfl
@[simp] theorem State.setStaging_evr (p : Page) (x : Staging) : (s.setStaging p x).evr = s.evr := rfl
@[simp] theorem State.setStaging_sec (p : Page) (x : Staging) : (s.setStaging p x).sec = s.sec := rfl
@[simp] theorem State.setStaging_host (p : Page) (x : Staging) : (s.setStaging p x).host = s.host := rfl
@[simp] theorem State.setStaging_isl (p : Page) (x : Staging) : (s.setStaging p x).isl = s.isl := rfl
@[simp] theorem State.setStaging_tap (p : Page) (x : Staging) : (s.setStaging p x).tap = s.tap := rfl
@[simp] theorem State.setStaging_get (p : Page) (x : Staging) (q0 : Page) (g : Fld) (j : Nat) : (s.setStaging p x).get q0 g j = s.get q0 g j := rfl
@[simp] theorem State.setStaging_flag (p : Page) (x : Staging) (q0 : Page) (g : Fld) (j : Nat) : (s.setStaging p x).flag q0 g j = s.flag q0 g j := rfl

/-! answer changes out only. -/

@[simp] theorem State.answer_pending (d : Nat) (e : Bool) : (s.answer d e).pending = s.pending := rfl
@[simp] theorem State.answer_free (d : Nat) (e : Bool) : (s.answer d e).free = s.free := rfl
@[simp] theorem State.answer_regs (d : Nat) (e : Bool) : (s.answer d e).regs = s.regs := rfl
@[simp] theorem State.answer_latches (d : Nat) (e : Bool) : (s.answer d e).latches = s.latches := rfl
@[simp] theorem State.answer_coarse (d : Nat) (e : Bool) : (s.answer d e).coarse = s.coarse := rfl
@[simp] theorem State.answer_staging (d : Nat) (e : Bool) : (s.answer d e).staging = s.staging := rfl
@[simp] theorem State.answer_directory (d : Nat) (e : Bool) : (s.answer d e).directory = s.directory := rfl
@[simp] theorem State.answer_stops (d : Nat) (e : Bool) : (s.answer d e).stops = s.stops := rfl
@[simp] theorem State.answer_halted (d : Nat) (e : Bool) : (s.answer d e).halted = s.halted := rfl
@[simp] theorem State.answer_once (d : Nat) (e : Bool) : (s.answer d e).once = s.once := rfl
@[simp] theorem State.answer_time (d : Nat) (e : Bool) : (s.answer d e).time = s.time := rfl
@[simp] theorem State.answer_pw (d : Nat) (e : Bool) : (s.answer d e).pw = s.pw := rfl
@[simp] theorem State.answer_beds (d : Nat) (e : Bool) : (s.answer d e).beds = s.beds := rfl
@[simp] theorem State.answer_parts (d : Nat) (e : Bool) : (s.answer d e).parts = s.parts := rfl
@[simp] theorem State.answer_arms (d : Nat) (e : Bool) : (s.answer d e).arms = s.arms := rfl
@[simp] theorem State.answer_cores (d : Nat) (e : Bool) : (s.answer d e).cores = s.cores := rfl
@[simp] theorem State.answer_mem (d : Nat) (e : Bool) : (s.answer d e).mem = s.mem := rfl
@[simp] theorem State.answer_upd (d : Nat) (e : Bool) : (s.answer d e).upd = s.upd := rfl
@[simp] theorem State.answer_fab (d : Nat) (e : Bool) : (s.answer d e).fab = s.fab := rfl
@[simp] theorem State.answer_red (d : Nat) (e : Bool) : (s.answer d e).red = s.red := rfl
@[simp] theorem State.answer_noise (d : Nat) (e : Bool) : (s.answer d e).noise = s.noise := rfl
@[simp] theorem State.answer_evr (d : Nat) (e : Bool) : (s.answer d e).evr = s.evr := rfl
@[simp] theorem State.answer_sec (d : Nat) (e : Bool) : (s.answer d e).sec = s.sec := rfl
@[simp] theorem State.answer_host (d : Nat) (e : Bool) : (s.answer d e).host = s.host := rfl
@[simp] theorem State.answer_isl (d : Nat) (e : Bool) : (s.answer d e).isl = s.isl := rfl
@[simp] theorem State.answer_tap (d : Nat) (e : Bool) : (s.answer d e).tap = s.tap := rfl
@[simp] theorem State.answer_get (d : Nat) (e : Bool) (q0 : Page) (g : Fld) (j : Nat) : (s.answer d e).get q0 g j = s.get q0 g j := rfl
@[simp] theorem State.answer_flag (d : Nat) (e : Bool) (q0 : Page) (g : Fld) (j : Nat) : (s.answer d e).flag q0 g j = s.flag q0 g j := rfl

/-! reply changes out only. -/

@[simp] theorem State.reply_pending (st : Nat) (d : List Byte) : (s.reply st d).pending = s.pending := rfl
@[simp] theorem State.reply_free (st : Nat) (d : List Byte) : (s.reply st d).free = s.free := rfl
@[simp] theorem State.reply_regs (st : Nat) (d : List Byte) : (s.reply st d).regs = s.regs := rfl
@[simp] theorem State.reply_latches (st : Nat) (d : List Byte) : (s.reply st d).latches = s.latches := rfl
@[simp] theorem State.reply_coarse (st : Nat) (d : List Byte) : (s.reply st d).coarse = s.coarse := rfl
@[simp] theorem State.reply_staging (st : Nat) (d : List Byte) : (s.reply st d).staging = s.staging := rfl
@[simp] theorem State.reply_directory (st : Nat) (d : List Byte) : (s.reply st d).directory = s.directory := rfl
@[simp] theorem State.reply_stops (st : Nat) (d : List Byte) : (s.reply st d).stops = s.stops := rfl
@[simp] theorem State.reply_halted (st : Nat) (d : List Byte) : (s.reply st d).halted = s.halted := rfl
@[simp] theorem State.reply_once (st : Nat) (d : List Byte) : (s.reply st d).once = s.once := rfl
@[simp] theorem State.reply_time (st : Nat) (d : List Byte) : (s.reply st d).time = s.time := rfl
@[simp] theorem State.reply_pw (st : Nat) (d : List Byte) : (s.reply st d).pw = s.pw := rfl
@[simp] theorem State.reply_beds (st : Nat) (d : List Byte) : (s.reply st d).beds = s.beds := rfl
@[simp] theorem State.reply_parts (st : Nat) (d : List Byte) : (s.reply st d).parts = s.parts := rfl
@[simp] theorem State.reply_arms (st : Nat) (d : List Byte) : (s.reply st d).arms = s.arms := rfl
@[simp] theorem State.reply_cores (st : Nat) (d : List Byte) : (s.reply st d).cores = s.cores := rfl
@[simp] theorem State.reply_mem (st : Nat) (d : List Byte) : (s.reply st d).mem = s.mem := rfl
@[simp] theorem State.reply_upd (st : Nat) (d : List Byte) : (s.reply st d).upd = s.upd := rfl
@[simp] theorem State.reply_fab (st : Nat) (d : List Byte) : (s.reply st d).fab = s.fab := rfl
@[simp] theorem State.reply_red (st : Nat) (d : List Byte) : (s.reply st d).red = s.red := rfl
@[simp] theorem State.reply_noise (st : Nat) (d : List Byte) : (s.reply st d).noise = s.noise := rfl
@[simp] theorem State.reply_evr (st : Nat) (d : List Byte) : (s.reply st d).evr = s.evr := rfl
@[simp] theorem State.reply_sec (st : Nat) (d : List Byte) : (s.reply st d).sec = s.sec := rfl
@[simp] theorem State.reply_host (st : Nat) (d : List Byte) : (s.reply st d).host = s.host := rfl
@[simp] theorem State.reply_isl (st : Nat) (d : List Byte) : (s.reply st d).isl = s.isl := rfl
@[simp] theorem State.reply_tap (st : Nat) (d : List Byte) : (s.reply st d).tap = s.tap := rfl
@[simp] theorem State.reply_get (st : Nat) (d : List Byte) (q0 : Page) (g : Fld) (j : Nat) : (s.reply st d).get q0 g j = s.get q0 g j := rfl
@[simp] theorem State.reply_flag (st : Nat) (d : List Byte) (q0 : Page) (g : Fld) (j : Nat) : (s.reply st d).flag q0 g j = s.flag q0 g j := rfl

/-! setMem changes mem only. -/

@[simp] theorem State.setMem_pending (x : MemSt) : (s.setMem x).pending = s.pending := rfl
@[simp] theorem State.setMem_free (x : MemSt) : (s.setMem x).free = s.free := rfl
@[simp] theorem State.setMem_out (x : MemSt) : (s.setMem x).out = s.out := rfl
@[simp] theorem State.setMem_regs (x : MemSt) : (s.setMem x).regs = s.regs := rfl
@[simp] theorem State.setMem_latches (x : MemSt) : (s.setMem x).latches = s.latches := rfl
@[simp] theorem State.setMem_coarse (x : MemSt) : (s.setMem x).coarse = s.coarse := rfl
@[simp] theorem State.setMem_staging (x : MemSt) : (s.setMem x).staging = s.staging := rfl
@[simp] theorem State.setMem_directory (x : MemSt) : (s.setMem x).directory = s.directory := rfl
@[simp] theorem State.setMem_stops (x : MemSt) : (s.setMem x).stops = s.stops := rfl
@[simp] theorem State.setMem_halted (x : MemSt) : (s.setMem x).halted = s.halted := rfl
@[simp] theorem State.setMem_once (x : MemSt) : (s.setMem x).once = s.once := rfl
@[simp] theorem State.setMem_time (x : MemSt) : (s.setMem x).time = s.time := rfl
@[simp] theorem State.setMem_pw (x : MemSt) : (s.setMem x).pw = s.pw := rfl
@[simp] theorem State.setMem_beds (x : MemSt) : (s.setMem x).beds = s.beds := rfl
@[simp] theorem State.setMem_parts (x : MemSt) : (s.setMem x).parts = s.parts := rfl
@[simp] theorem State.setMem_arms (x : MemSt) : (s.setMem x).arms = s.arms := rfl
@[simp] theorem State.setMem_cores (x : MemSt) : (s.setMem x).cores = s.cores := rfl
@[simp] theorem State.setMem_upd (x : MemSt) : (s.setMem x).upd = s.upd := rfl
@[simp] theorem State.setMem_fab (x : MemSt) : (s.setMem x).fab = s.fab := rfl
@[simp] theorem State.setMem_red (x : MemSt) : (s.setMem x).red = s.red := rfl
@[simp] theorem State.setMem_noise (x : MemSt) : (s.setMem x).noise = s.noise := rfl
@[simp] theorem State.setMem_evr (x : MemSt) : (s.setMem x).evr = s.evr := rfl
@[simp] theorem State.setMem_sec (x : MemSt) : (s.setMem x).sec = s.sec := rfl
@[simp] theorem State.setMem_host (x : MemSt) : (s.setMem x).host = s.host := rfl
@[simp] theorem State.setMem_isl (x : MemSt) : (s.setMem x).isl = s.isl := rfl
@[simp] theorem State.setMem_tap (x : MemSt) : (s.setMem x).tap = s.tap := rfl
@[simp] theorem State.setMem_get (x : MemSt) (q0 : Page) (g : Fld) (j : Nat) : (s.setMem x).get q0 g j = s.get q0 g j := rfl
@[simp] theorem State.setMem_flag (x : MemSt) (q0 : Page) (g : Fld) (j : Nat) : (s.setMem x).flag q0 g j = s.flag q0 g j := rfl

/-! setCores changes cores only. -/

@[simp] theorem State.setCores_pending (x : CoreSt) : (s.setCores x).pending = s.pending := rfl
@[simp] theorem State.setCores_free (x : CoreSt) : (s.setCores x).free = s.free := rfl
@[simp] theorem State.setCores_out (x : CoreSt) : (s.setCores x).out = s.out := rfl
@[simp] theorem State.setCores_regs (x : CoreSt) : (s.setCores x).regs = s.regs := rfl
@[simp] theorem State.setCores_latches (x : CoreSt) : (s.setCores x).latches = s.latches := rfl
@[simp] theorem State.setCores_coarse (x : CoreSt) : (s.setCores x).coarse = s.coarse := rfl
@[simp] theorem State.setCores_staging (x : CoreSt) : (s.setCores x).staging = s.staging := rfl
@[simp] theorem State.setCores_directory (x : CoreSt) : (s.setCores x).directory = s.directory := rfl
@[simp] theorem State.setCores_stops (x : CoreSt) : (s.setCores x).stops = s.stops := rfl
@[simp] theorem State.setCores_halted (x : CoreSt) : (s.setCores x).halted = s.halted := rfl
@[simp] theorem State.setCores_once (x : CoreSt) : (s.setCores x).once = s.once := rfl
@[simp] theorem State.setCores_time (x : CoreSt) : (s.setCores x).time = s.time := rfl
@[simp] theorem State.setCores_pw (x : CoreSt) : (s.setCores x).pw = s.pw := rfl
@[simp] theorem State.setCores_beds (x : CoreSt) : (s.setCores x).beds = s.beds := rfl
@[simp] theorem State.setCores_parts (x : CoreSt) : (s.setCores x).parts = s.parts := rfl
@[simp] theorem State.setCores_arms (x : CoreSt) : (s.setCores x).arms = s.arms := rfl
@[simp] theorem State.setCores_mem (x : CoreSt) : (s.setCores x).mem = s.mem := rfl
@[simp] theorem State.setCores_upd (x : CoreSt) : (s.setCores x).upd = s.upd := rfl
@[simp] theorem State.setCores_fab (x : CoreSt) : (s.setCores x).fab = s.fab := rfl
@[simp] theorem State.setCores_red (x : CoreSt) : (s.setCores x).red = s.red := rfl
@[simp] theorem State.setCores_noise (x : CoreSt) : (s.setCores x).noise = s.noise := rfl
@[simp] theorem State.setCores_evr (x : CoreSt) : (s.setCores x).evr = s.evr := rfl
@[simp] theorem State.setCores_sec (x : CoreSt) : (s.setCores x).sec = s.sec := rfl
@[simp] theorem State.setCores_host (x : CoreSt) : (s.setCores x).host = s.host := rfl
@[simp] theorem State.setCores_isl (x : CoreSt) : (s.setCores x).isl = s.isl := rfl
@[simp] theorem State.setCores_tap (x : CoreSt) : (s.setCores x).tap = s.tap := rfl
@[simp] theorem State.setCores_get (x : CoreSt) (q0 : Page) (g : Fld) (j : Nat) : (s.setCores x).get q0 g j = s.get q0 g j := rfl
@[simp] theorem State.setCores_flag (x : CoreSt) (q0 : Page) (g : Fld) (j : Nat) : (s.setCores x).flag q0 g j = s.flag q0 g j := rfl

/-! setFab changes fab only. -/

@[simp] theorem State.setFab_pending (x : FabricSt) : (s.setFab x).pending = s.pending := rfl
@[simp] theorem State.setFab_free (x : FabricSt) : (s.setFab x).free = s.free := rfl
@[simp] theorem State.setFab_out (x : FabricSt) : (s.setFab x).out = s.out := rfl
@[simp] theorem State.setFab_regs (x : FabricSt) : (s.setFab x).regs = s.regs := rfl
@[simp] theorem State.setFab_latches (x : FabricSt) : (s.setFab x).latches = s.latches := rfl
@[simp] theorem State.setFab_coarse (x : FabricSt) : (s.setFab x).coarse = s.coarse := rfl
@[simp] theorem State.setFab_staging (x : FabricSt) : (s.setFab x).staging = s.staging := rfl
@[simp] theorem State.setFab_directory (x : FabricSt) : (s.setFab x).directory = s.directory := rfl
@[simp] theorem State.setFab_stops (x : FabricSt) : (s.setFab x).stops = s.stops := rfl
@[simp] theorem State.setFab_halted (x : FabricSt) : (s.setFab x).halted = s.halted := rfl
@[simp] theorem State.setFab_once (x : FabricSt) : (s.setFab x).once = s.once := rfl
@[simp] theorem State.setFab_time (x : FabricSt) : (s.setFab x).time = s.time := rfl
@[simp] theorem State.setFab_pw (x : FabricSt) : (s.setFab x).pw = s.pw := rfl
@[simp] theorem State.setFab_beds (x : FabricSt) : (s.setFab x).beds = s.beds := rfl
@[simp] theorem State.setFab_parts (x : FabricSt) : (s.setFab x).parts = s.parts := rfl
@[simp] theorem State.setFab_arms (x : FabricSt) : (s.setFab x).arms = s.arms := rfl
@[simp] theorem State.setFab_cores (x : FabricSt) : (s.setFab x).cores = s.cores := rfl
@[simp] theorem State.setFab_mem (x : FabricSt) : (s.setFab x).mem = s.mem := rfl
@[simp] theorem State.setFab_upd (x : FabricSt) : (s.setFab x).upd = s.upd := rfl
@[simp] theorem State.setFab_red (x : FabricSt) : (s.setFab x).red = s.red := rfl
@[simp] theorem State.setFab_noise (x : FabricSt) : (s.setFab x).noise = s.noise := rfl
@[simp] theorem State.setFab_evr (x : FabricSt) : (s.setFab x).evr = s.evr := rfl
@[simp] theorem State.setFab_sec (x : FabricSt) : (s.setFab x).sec = s.sec := rfl
@[simp] theorem State.setFab_host (x : FabricSt) : (s.setFab x).host = s.host := rfl
@[simp] theorem State.setFab_isl (x : FabricSt) : (s.setFab x).isl = s.isl := rfl
@[simp] theorem State.setFab_tap (x : FabricSt) : (s.setFab x).tap = s.tap := rfl
@[simp] theorem State.setFab_get (x : FabricSt) (q0 : Page) (g : Fld) (j : Nat) : (s.setFab x).get q0 g j = s.get q0 g j := rfl
@[simp] theorem State.setFab_flag (x : FabricSt) (q0 : Page) (g : Fld) (j : Nat) : (s.setFab x).flag q0 g j = s.flag q0 g j := rfl

/-! setIsl changes isl only. -/

@[simp] theorem State.setIsl_pending (x : IslandSt) : (s.setIsl x).pending = s.pending := rfl
@[simp] theorem State.setIsl_free (x : IslandSt) : (s.setIsl x).free = s.free := rfl
@[simp] theorem State.setIsl_out (x : IslandSt) : (s.setIsl x).out = s.out := rfl
@[simp] theorem State.setIsl_regs (x : IslandSt) : (s.setIsl x).regs = s.regs := rfl
@[simp] theorem State.setIsl_latches (x : IslandSt) : (s.setIsl x).latches = s.latches := rfl
@[simp] theorem State.setIsl_coarse (x : IslandSt) : (s.setIsl x).coarse = s.coarse := rfl
@[simp] theorem State.setIsl_staging (x : IslandSt) : (s.setIsl x).staging = s.staging := rfl
@[simp] theorem State.setIsl_directory (x : IslandSt) : (s.setIsl x).directory = s.directory := rfl
@[simp] theorem State.setIsl_stops (x : IslandSt) : (s.setIsl x).stops = s.stops := rfl
@[simp] theorem State.setIsl_halted (x : IslandSt) : (s.setIsl x).halted = s.halted := rfl
@[simp] theorem State.setIsl_once (x : IslandSt) : (s.setIsl x).once = s.once := rfl
@[simp] theorem State.setIsl_time (x : IslandSt) : (s.setIsl x).time = s.time := rfl
@[simp] theorem State.setIsl_pw (x : IslandSt) : (s.setIsl x).pw = s.pw := rfl
@[simp] theorem State.setIsl_beds (x : IslandSt) : (s.setIsl x).beds = s.beds := rfl
@[simp] theorem State.setIsl_parts (x : IslandSt) : (s.setIsl x).parts = s.parts := rfl
@[simp] theorem State.setIsl_arms (x : IslandSt) : (s.setIsl x).arms = s.arms := rfl
@[simp] theorem State.setIsl_cores (x : IslandSt) : (s.setIsl x).cores = s.cores := rfl
@[simp] theorem State.setIsl_mem (x : IslandSt) : (s.setIsl x).mem = s.mem := rfl
@[simp] theorem State.setIsl_upd (x : IslandSt) : (s.setIsl x).upd = s.upd := rfl
@[simp] theorem State.setIsl_fab (x : IslandSt) : (s.setIsl x).fab = s.fab := rfl
@[simp] theorem State.setIsl_red (x : IslandSt) : (s.setIsl x).red = s.red := rfl
@[simp] theorem State.setIsl_noise (x : IslandSt) : (s.setIsl x).noise = s.noise := rfl
@[simp] theorem State.setIsl_evr (x : IslandSt) : (s.setIsl x).evr = s.evr := rfl
@[simp] theorem State.setIsl_sec (x : IslandSt) : (s.setIsl x).sec = s.sec := rfl
@[simp] theorem State.setIsl_host (x : IslandSt) : (s.setIsl x).host = s.host := rfl
@[simp] theorem State.setIsl_tap (x : IslandSt) : (s.setIsl x).tap = s.tap := rfl
@[simp] theorem State.setIsl_get (x : IslandSt) (q0 : Page) (g : Fld) (j : Nat) : (s.setIsl x).get q0 g j = s.get q0 g j := rfl
@[simp] theorem State.setIsl_flag (x : IslandSt) (q0 : Page) (g : Fld) (j : Nat) : (s.setIsl x).flag q0 g j = s.flag q0 g j := rfl

/-! setPw changes pw only. -/

@[simp] theorem State.setPw_pending (x : PowerSt) : (s.setPw x).pending = s.pending := rfl
@[simp] theorem State.setPw_free (x : PowerSt) : (s.setPw x).free = s.free := rfl
@[simp] theorem State.setPw_out (x : PowerSt) : (s.setPw x).out = s.out := rfl
@[simp] theorem State.setPw_regs (x : PowerSt) : (s.setPw x).regs = s.regs := rfl
@[simp] theorem State.setPw_latches (x : PowerSt) : (s.setPw x).latches = s.latches := rfl
@[simp] theorem State.setPw_coarse (x : PowerSt) : (s.setPw x).coarse = s.coarse := rfl
@[simp] theorem State.setPw_staging (x : PowerSt) : (s.setPw x).staging = s.staging := rfl
@[simp] theorem State.setPw_directory (x : PowerSt) : (s.setPw x).directory = s.directory := rfl
@[simp] theorem State.setPw_stops (x : PowerSt) : (s.setPw x).stops = s.stops := rfl
@[simp] theorem State.setPw_halted (x : PowerSt) : (s.setPw x).halted = s.halted := rfl
@[simp] theorem State.setPw_once (x : PowerSt) : (s.setPw x).once = s.once := rfl
@[simp] theorem State.setPw_time (x : PowerSt) : (s.setPw x).time = s.time := rfl
@[simp] theorem State.setPw_beds (x : PowerSt) : (s.setPw x).beds = s.beds := rfl
@[simp] theorem State.setPw_parts (x : PowerSt) : (s.setPw x).parts = s.parts := rfl
@[simp] theorem State.setPw_arms (x : PowerSt) : (s.setPw x).arms = s.arms := rfl
@[simp] theorem State.setPw_cores (x : PowerSt) : (s.setPw x).cores = s.cores := rfl
@[simp] theorem State.setPw_mem (x : PowerSt) : (s.setPw x).mem = s.mem := rfl
@[simp] theorem State.setPw_upd (x : PowerSt) : (s.setPw x).upd = s.upd := rfl
@[simp] theorem State.setPw_fab (x : PowerSt) : (s.setPw x).fab = s.fab := rfl
@[simp] theorem State.setPw_red (x : PowerSt) : (s.setPw x).red = s.red := rfl
@[simp] theorem State.setPw_noise (x : PowerSt) : (s.setPw x).noise = s.noise := rfl
@[simp] theorem State.setPw_evr (x : PowerSt) : (s.setPw x).evr = s.evr := rfl
@[simp] theorem State.setPw_sec (x : PowerSt) : (s.setPw x).sec = s.sec := rfl
@[simp] theorem State.setPw_host (x : PowerSt) : (s.setPw x).host = s.host := rfl
@[simp] theorem State.setPw_isl (x : PowerSt) : (s.setPw x).isl = s.isl := rfl
@[simp] theorem State.setPw_tap (x : PowerSt) : (s.setPw x).tap = s.tap := rfl
@[simp] theorem State.setPw_get (x : PowerSt) (q0 : Page) (g : Fld) (j : Nat) : (s.setPw x).get q0 g j = s.get q0 g j := rfl
@[simp] theorem State.setPw_flag (x : PowerSt) (q0 : Page) (g : Fld) (j : Nat) : (s.setPw x).flag q0 g j = s.flag q0 g j := rfl

/-! setSec changes sec only. -/

@[simp] theorem State.setSec_pending (x : SecSt) : (s.setSec x).pending = s.pending := rfl
@[simp] theorem State.setSec_free (x : SecSt) : (s.setSec x).free = s.free := rfl
@[simp] theorem State.setSec_out (x : SecSt) : (s.setSec x).out = s.out := rfl
@[simp] theorem State.setSec_regs (x : SecSt) : (s.setSec x).regs = s.regs := rfl
@[simp] theorem State.setSec_latches (x : SecSt) : (s.setSec x).latches = s.latches := rfl
@[simp] theorem State.setSec_coarse (x : SecSt) : (s.setSec x).coarse = s.coarse := rfl
@[simp] theorem State.setSec_staging (x : SecSt) : (s.setSec x).staging = s.staging := rfl
@[simp] theorem State.setSec_directory (x : SecSt) : (s.setSec x).directory = s.directory := rfl
@[simp] theorem State.setSec_stops (x : SecSt) : (s.setSec x).stops = s.stops := rfl
@[simp] theorem State.setSec_halted (x : SecSt) : (s.setSec x).halted = s.halted := rfl
@[simp] theorem State.setSec_once (x : SecSt) : (s.setSec x).once = s.once := rfl
@[simp] theorem State.setSec_time (x : SecSt) : (s.setSec x).time = s.time := rfl
@[simp] theorem State.setSec_pw (x : SecSt) : (s.setSec x).pw = s.pw := rfl
@[simp] theorem State.setSec_beds (x : SecSt) : (s.setSec x).beds = s.beds := rfl
@[simp] theorem State.setSec_parts (x : SecSt) : (s.setSec x).parts = s.parts := rfl
@[simp] theorem State.setSec_arms (x : SecSt) : (s.setSec x).arms = s.arms := rfl
@[simp] theorem State.setSec_cores (x : SecSt) : (s.setSec x).cores = s.cores := rfl
@[simp] theorem State.setSec_mem (x : SecSt) : (s.setSec x).mem = s.mem := rfl
@[simp] theorem State.setSec_upd (x : SecSt) : (s.setSec x).upd = s.upd := rfl
@[simp] theorem State.setSec_fab (x : SecSt) : (s.setSec x).fab = s.fab := rfl
@[simp] theorem State.setSec_red (x : SecSt) : (s.setSec x).red = s.red := rfl
@[simp] theorem State.setSec_noise (x : SecSt) : (s.setSec x).noise = s.noise := rfl
@[simp] theorem State.setSec_evr (x : SecSt) : (s.setSec x).evr = s.evr := rfl
@[simp] theorem State.setSec_host (x : SecSt) : (s.setSec x).host = s.host := rfl
@[simp] theorem State.setSec_isl (x : SecSt) : (s.setSec x).isl = s.isl := rfl
@[simp] theorem State.setSec_tap (x : SecSt) : (s.setSec x).tap = s.tap := rfl
@[simp] theorem State.setSec_get (x : SecSt) (q0 : Page) (g : Fld) (j : Nat) : (s.setSec x).get q0 g j = s.get q0 g j := rfl
@[simp] theorem State.setSec_flag (x : SecSt) (q0 : Page) (g : Fld) (j : Nat) : (s.setSec x).flag q0 g j = s.flag q0 g j := rfl

/-! setRec changes evr only. -/

@[simp] theorem State.setRec_pending (x : RecSt) : (s.setRec x).pending = s.pending := rfl
@[simp] theorem State.setRec_free (x : RecSt) : (s.setRec x).free = s.free := rfl
@[simp] theorem State.setRec_out (x : RecSt) : (s.setRec x).out = s.out := rfl
@[simp] theorem State.setRec_regs (x : RecSt) : (s.setRec x).regs = s.regs := rfl
@[simp] theorem State.setRec_latches (x : RecSt) : (s.setRec x).latches = s.latches := rfl
@[simp] theorem State.setRec_coarse (x : RecSt) : (s.setRec x).coarse = s.coarse := rfl
@[simp] theorem State.setRec_staging (x : RecSt) : (s.setRec x).staging = s.staging := rfl
@[simp] theorem State.setRec_directory (x : RecSt) : (s.setRec x).directory = s.directory := rfl
@[simp] theorem State.setRec_stops (x : RecSt) : (s.setRec x).stops = s.stops := rfl
@[simp] theorem State.setRec_halted (x : RecSt) : (s.setRec x).halted = s.halted := rfl
@[simp] theorem State.setRec_once (x : RecSt) : (s.setRec x).once = s.once := rfl
@[simp] theorem State.setRec_time (x : RecSt) : (s.setRec x).time = s.time := rfl
@[simp] theorem State.setRec_pw (x : RecSt) : (s.setRec x).pw = s.pw := rfl
@[simp] theorem State.setRec_beds (x : RecSt) : (s.setRec x).beds = s.beds := rfl
@[simp] theorem State.setRec_parts (x : RecSt) : (s.setRec x).parts = s.parts := rfl
@[simp] theorem State.setRec_arms (x : RecSt) : (s.setRec x).arms = s.arms := rfl
@[simp] theorem State.setRec_cores (x : RecSt) : (s.setRec x).cores = s.cores := rfl
@[simp] theorem State.setRec_mem (x : RecSt) : (s.setRec x).mem = s.mem := rfl
@[simp] theorem State.setRec_upd (x : RecSt) : (s.setRec x).upd = s.upd := rfl
@[simp] theorem State.setRec_fab (x : RecSt) : (s.setRec x).fab = s.fab := rfl
@[simp] theorem State.setRec_red (x : RecSt) : (s.setRec x).red = s.red := rfl
@[simp] theorem State.setRec_noise (x : RecSt) : (s.setRec x).noise = s.noise := rfl
@[simp] theorem State.setRec_sec (x : RecSt) : (s.setRec x).sec = s.sec := rfl
@[simp] theorem State.setRec_host (x : RecSt) : (s.setRec x).host = s.host := rfl
@[simp] theorem State.setRec_isl (x : RecSt) : (s.setRec x).isl = s.isl := rfl
@[simp] theorem State.setRec_tap (x : RecSt) : (s.setRec x).tap = s.tap := rfl
@[simp] theorem State.setRec_get (x : RecSt) (q0 : Page) (g : Fld) (j : Nat) : (s.setRec x).get q0 g j = s.get q0 g j := rfl
@[simp] theorem State.setRec_flag (x : RecSt) (q0 : Page) (g : Fld) (j : Nat) : (s.setRec x).flag q0 g j = s.flag q0 g j := rfl

/-! setRed changes red only. -/

@[simp] theorem State.setRed_pending (x : RedSt) : (s.setRed x).pending = s.pending := rfl
@[simp] theorem State.setRed_free (x : RedSt) : (s.setRed x).free = s.free := rfl
@[simp] theorem State.setRed_out (x : RedSt) : (s.setRed x).out = s.out := rfl
@[simp] theorem State.setRed_regs (x : RedSt) : (s.setRed x).regs = s.regs := rfl
@[simp] theorem State.setRed_latches (x : RedSt) : (s.setRed x).latches = s.latches := rfl
@[simp] theorem State.setRed_coarse (x : RedSt) : (s.setRed x).coarse = s.coarse := rfl
@[simp] theorem State.setRed_staging (x : RedSt) : (s.setRed x).staging = s.staging := rfl
@[simp] theorem State.setRed_directory (x : RedSt) : (s.setRed x).directory = s.directory := rfl
@[simp] theorem State.setRed_stops (x : RedSt) : (s.setRed x).stops = s.stops := rfl
@[simp] theorem State.setRed_halted (x : RedSt) : (s.setRed x).halted = s.halted := rfl
@[simp] theorem State.setRed_once (x : RedSt) : (s.setRed x).once = s.once := rfl
@[simp] theorem State.setRed_time (x : RedSt) : (s.setRed x).time = s.time := rfl
@[simp] theorem State.setRed_pw (x : RedSt) : (s.setRed x).pw = s.pw := rfl
@[simp] theorem State.setRed_beds (x : RedSt) : (s.setRed x).beds = s.beds := rfl
@[simp] theorem State.setRed_parts (x : RedSt) : (s.setRed x).parts = s.parts := rfl
@[simp] theorem State.setRed_arms (x : RedSt) : (s.setRed x).arms = s.arms := rfl
@[simp] theorem State.setRed_cores (x : RedSt) : (s.setRed x).cores = s.cores := rfl
@[simp] theorem State.setRed_mem (x : RedSt) : (s.setRed x).mem = s.mem := rfl
@[simp] theorem State.setRed_upd (x : RedSt) : (s.setRed x).upd = s.upd := rfl
@[simp] theorem State.setRed_fab (x : RedSt) : (s.setRed x).fab = s.fab := rfl
@[simp] theorem State.setRed_noise (x : RedSt) : (s.setRed x).noise = s.noise := rfl
@[simp] theorem State.setRed_evr (x : RedSt) : (s.setRed x).evr = s.evr := rfl
@[simp] theorem State.setRed_sec (x : RedSt) : (s.setRed x).sec = s.sec := rfl
@[simp] theorem State.setRed_host (x : RedSt) : (s.setRed x).host = s.host := rfl
@[simp] theorem State.setRed_isl (x : RedSt) : (s.setRed x).isl = s.isl := rfl
@[simp] theorem State.setRed_tap (x : RedSt) : (s.setRed x).tap = s.tap := rfl
@[simp] theorem State.setRed_get (x : RedSt) (q0 : Page) (g : Fld) (j : Nat) : (s.setRed x).get q0 g j = s.get q0 g j := rfl
@[simp] theorem State.setRed_flag (x : RedSt) (q0 : Page) (g : Fld) (j : Nat) : (s.setRed x).flag q0 g j = s.flag q0 g j := rfl

/-! setNoise changes noise only. -/

@[simp] theorem State.setNoise_pending (q : Nat) (x : Noise) : (s.setNoise q x).pending = s.pending := rfl
@[simp] theorem State.setNoise_free (q : Nat) (x : Noise) : (s.setNoise q x).free = s.free := rfl
@[simp] theorem State.setNoise_out (q : Nat) (x : Noise) : (s.setNoise q x).out = s.out := rfl
@[simp] theorem State.setNoise_regs (q : Nat) (x : Noise) : (s.setNoise q x).regs = s.regs := rfl
@[simp] theorem State.setNoise_latches (q : Nat) (x : Noise) : (s.setNoise q x).latches = s.latches := rfl
@[simp] theorem State.setNoise_coarse (q : Nat) (x : Noise) : (s.setNoise q x).coarse = s.coarse := rfl
@[simp] theorem State.setNoise_staging (q : Nat) (x : Noise) : (s.setNoise q x).staging = s.staging := rfl
@[simp] theorem State.setNoise_directory (q : Nat) (x : Noise) : (s.setNoise q x).directory = s.directory := rfl
@[simp] theorem State.setNoise_stops (q : Nat) (x : Noise) : (s.setNoise q x).stops = s.stops := rfl
@[simp] theorem State.setNoise_halted (q : Nat) (x : Noise) : (s.setNoise q x).halted = s.halted := rfl
@[simp] theorem State.setNoise_once (q : Nat) (x : Noise) : (s.setNoise q x).once = s.once := rfl
@[simp] theorem State.setNoise_time (q : Nat) (x : Noise) : (s.setNoise q x).time = s.time := rfl
@[simp] theorem State.setNoise_pw (q : Nat) (x : Noise) : (s.setNoise q x).pw = s.pw := rfl
@[simp] theorem State.setNoise_beds (q : Nat) (x : Noise) : (s.setNoise q x).beds = s.beds := rfl
@[simp] theorem State.setNoise_parts (q : Nat) (x : Noise) : (s.setNoise q x).parts = s.parts := rfl
@[simp] theorem State.setNoise_arms (q : Nat) (x : Noise) : (s.setNoise q x).arms = s.arms := rfl
@[simp] theorem State.setNoise_cores (q : Nat) (x : Noise) : (s.setNoise q x).cores = s.cores := rfl
@[simp] theorem State.setNoise_mem (q : Nat) (x : Noise) : (s.setNoise q x).mem = s.mem := rfl
@[simp] theorem State.setNoise_upd (q : Nat) (x : Noise) : (s.setNoise q x).upd = s.upd := rfl
@[simp] theorem State.setNoise_fab (q : Nat) (x : Noise) : (s.setNoise q x).fab = s.fab := rfl
@[simp] theorem State.setNoise_red (q : Nat) (x : Noise) : (s.setNoise q x).red = s.red := rfl
@[simp] theorem State.setNoise_evr (q : Nat) (x : Noise) : (s.setNoise q x).evr = s.evr := rfl
@[simp] theorem State.setNoise_sec (q : Nat) (x : Noise) : (s.setNoise q x).sec = s.sec := rfl
@[simp] theorem State.setNoise_host (q : Nat) (x : Noise) : (s.setNoise q x).host = s.host := rfl
@[simp] theorem State.setNoise_isl (q : Nat) (x : Noise) : (s.setNoise q x).isl = s.isl := rfl
@[simp] theorem State.setNoise_tap (q : Nat) (x : Noise) : (s.setNoise q x).tap = s.tap := rfl
@[simp] theorem State.setNoise_get (q : Nat) (x : Noise) (q0 : Page) (g : Fld) (j : Nat) : (s.setNoise q x).get q0 g j = s.get q0 g j := rfl
@[simp] theorem State.setNoise_flag (q : Nat) (x : Noise) (q0 : Page) (g : Fld) (j : Nat) : (s.setNoise q x).flag q0 g j = s.flag q0 g j := rfl

/-! setInstr changes tap only. -/

@[simp] theorem State.setInstr_pending (n : Nat) : (s.setInstr n).pending = s.pending := rfl
@[simp] theorem State.setInstr_free (n : Nat) : (s.setInstr n).free = s.free := rfl
@[simp] theorem State.setInstr_out (n : Nat) : (s.setInstr n).out = s.out := rfl
@[simp] theorem State.setInstr_regs (n : Nat) : (s.setInstr n).regs = s.regs := rfl
@[simp] theorem State.setInstr_latches (n : Nat) : (s.setInstr n).latches = s.latches := rfl
@[simp] theorem State.setInstr_coarse (n : Nat) : (s.setInstr n).coarse = s.coarse := rfl
@[simp] theorem State.setInstr_staging (n : Nat) : (s.setInstr n).staging = s.staging := rfl
@[simp] theorem State.setInstr_directory (n : Nat) : (s.setInstr n).directory = s.directory := rfl
@[simp] theorem State.setInstr_stops (n : Nat) : (s.setInstr n).stops = s.stops := rfl
@[simp] theorem State.setInstr_halted (n : Nat) : (s.setInstr n).halted = s.halted := rfl
@[simp] theorem State.setInstr_once (n : Nat) : (s.setInstr n).once = s.once := rfl
@[simp] theorem State.setInstr_time (n : Nat) : (s.setInstr n).time = s.time := rfl
@[simp] theorem State.setInstr_pw (n : Nat) : (s.setInstr n).pw = s.pw := rfl
@[simp] theorem State.setInstr_beds (n : Nat) : (s.setInstr n).beds = s.beds := rfl
@[simp] theorem State.setInstr_parts (n : Nat) : (s.setInstr n).parts = s.parts := rfl
@[simp] theorem State.setInstr_arms (n : Nat) : (s.setInstr n).arms = s.arms := rfl
@[simp] theorem State.setInstr_cores (n : Nat) : (s.setInstr n).cores = s.cores := rfl
@[simp] theorem State.setInstr_mem (n : Nat) : (s.setInstr n).mem = s.mem := rfl
@[simp] theorem State.setInstr_upd (n : Nat) : (s.setInstr n).upd = s.upd := rfl
@[simp] theorem State.setInstr_fab (n : Nat) : (s.setInstr n).fab = s.fab := rfl
@[simp] theorem State.setInstr_red (n : Nat) : (s.setInstr n).red = s.red := rfl
@[simp] theorem State.setInstr_noise (n : Nat) : (s.setInstr n).noise = s.noise := rfl
@[simp] theorem State.setInstr_evr (n : Nat) : (s.setInstr n).evr = s.evr := rfl
@[simp] theorem State.setInstr_sec (n : Nat) : (s.setInstr n).sec = s.sec := rfl
@[simp] theorem State.setInstr_host (n : Nat) : (s.setInstr n).host = s.host := rfl
@[simp] theorem State.setInstr_isl (n : Nat) : (s.setInstr n).isl = s.isl := rfl
@[simp] theorem State.setInstr_get (n : Nat) (q0 : Page) (g : Fld) (j : Nat) : (s.setInstr n).get q0 g j = s.get q0 g j := rfl
@[simp] theorem State.setInstr_flag (n : Nat) (q0 : Page) (g : Fld) (j : Nat) : (s.setInstr n).flag q0 g j = s.flag q0 g j := rfl

/-! draw changes free only. -/

@[simp] theorem State.draw_pending  : (s.draw.2).pending = s.pending := rfl
@[simp] theorem State.draw_out  : (s.draw.2).out = s.out := rfl
@[simp] theorem State.draw_regs  : (s.draw.2).regs = s.regs := rfl
@[simp] theorem State.draw_latches  : (s.draw.2).latches = s.latches := rfl
@[simp] theorem State.draw_coarse  : (s.draw.2).coarse = s.coarse := rfl
@[simp] theorem State.draw_staging  : (s.draw.2).staging = s.staging := rfl
@[simp] theorem State.draw_directory  : (s.draw.2).directory = s.directory := rfl
@[simp] theorem State.draw_stops  : (s.draw.2).stops = s.stops := rfl
@[simp] theorem State.draw_halted  : (s.draw.2).halted = s.halted := rfl
@[simp] theorem State.draw_once  : (s.draw.2).once = s.once := rfl
@[simp] theorem State.draw_time  : (s.draw.2).time = s.time := rfl
@[simp] theorem State.draw_pw  : (s.draw.2).pw = s.pw := rfl
@[simp] theorem State.draw_beds  : (s.draw.2).beds = s.beds := rfl
@[simp] theorem State.draw_parts  : (s.draw.2).parts = s.parts := rfl
@[simp] theorem State.draw_arms  : (s.draw.2).arms = s.arms := rfl
@[simp] theorem State.draw_cores  : (s.draw.2).cores = s.cores := rfl
@[simp] theorem State.draw_mem  : (s.draw.2).mem = s.mem := rfl
@[simp] theorem State.draw_upd  : (s.draw.2).upd = s.upd := rfl
@[simp] theorem State.draw_fab  : (s.draw.2).fab = s.fab := rfl
@[simp] theorem State.draw_red  : (s.draw.2).red = s.red := rfl
@[simp] theorem State.draw_noise  : (s.draw.2).noise = s.noise := rfl
@[simp] theorem State.draw_evr  : (s.draw.2).evr = s.evr := rfl
@[simp] theorem State.draw_sec  : (s.draw.2).sec = s.sec := rfl
@[simp] theorem State.draw_host  : (s.draw.2).host = s.host := rfl
@[simp] theorem State.draw_isl  : (s.draw.2).isl = s.isl := rfl
@[simp] theorem State.draw_tap  : (s.draw.2).tap = s.tap := rfl
@[simp] theorem State.draw_get  (q0 : Page) (g : Fld) (j : Nat) : (s.draw.2).get q0 g j = s.get q0 g j := rfl
@[simp] theorem State.draw_flag  (q0 : Page) (g : Fld) (j : Nat) : (s.draw.2).flag q0 g j = s.flag q0 g j := rfl

/-! What the updates write. -/

@[simp] theorem State.setMem_mem (x : MemSt) : (s.setMem x).mem = x := rfl
@[simp] theorem State.setCores_cores (x : CoreSt) : (s.setCores x).cores = x := rfl
@[simp] theorem State.setFab_fab (x : FabricSt) : (s.setFab x).fab = x := rfl
@[simp] theorem State.setIsl_isl (x : IslandSt) : (s.setIsl x).isl = x := rfl
@[simp] theorem State.setPw_pw (x : PowerSt) : (s.setPw x).pw = x := rfl
@[simp] theorem State.setSec_sec (x : SecSt) : (s.setSec x).sec = x := rfl
@[simp] theorem State.setRec_evr (x : RecSt) : (s.setRec x).evr = x := rfl
@[simp] theorem State.setRed_red (x : RedSt) : (s.setRed x).red = x := rfl
@[simp] theorem State.setInstr_tap (n : Nat) : (s.setInstr n).tap = { s.tap with instr := n } := rfl
@[simp] theorem State.answer_out (d : Nat) (e : Bool) :
    (s.answer d e).out = { s.out with rdata := d, ep := e, ur := false, rrs := false } := rfl
@[simp] theorem State.reply_out (st : Nat) (d : List Byte) : (s.reply st d).out = { s.out with status := st, data := d } := rfl
@[simp] theorem State.setBed_bed (b : Nat) (x : BedSt) : (s.setBed b x).bed b = x := by simp [State.bed, State.setBed]
@[simp] theorem State.setPart_part (q : Nat) (x : PartSt) : (s.setPart q x).part q = x := by simp [State.part, State.setPart]
@[simp] theorem State.setSession_session (q : Nat) (x : Session) : (s.setSession q x).session q = x := by
  simp [State.session, State.setSession]
@[simp] theorem State.setStaging_stagingOf (p : Page) (x : Staging) : (s.setStaging p x).stagingOf p = x := by
  simp [State.stagingOf, State.setStaging]

theorem State.setBed_bed_ne {b c : Nat} (x : BedSt) (h : c ≠ b) : (s.setBed b x).bed c = s.bed c := Tab.get_put_ne _ _ _ h
theorem State.setPart_part_ne {q r : Nat} (x : PartSt) (h : r ≠ q) : (s.setPart q x).part r = s.part r := Tab.get_put_ne _ _ _ h
theorem State.setSession_session_ne {q r : Nat} (x : Session) (h : r ≠ q) : (s.setSession q x).session r = s.session r :=
  Tab.get_put_ne _ _ _ h
theorem State.setStaging_stagingOf_ne {p q : Page} (x : Staging) (h : q ≠ p) : (s.setStaging p x).stagingOf q = s.stagingOf q :=
  Tab.get_put_ne _ _ _ h

/-! Reading a register field after a write. -/

/-- A field reads back the value written, cut to its width. -/
@[simp] theorem State.get_put_same (p : Page) (f : Fld) (v i : Nat) : (s.put p f v i).get p f i = v % 2 ^ (fieldInfo f).width := by
  simp [State.get, State.put]

/-- A write changes one field of one page. -/
theorem State.get_put (p q : Page) (f g : Fld) (v i j : Nat) :
    (s.put p f v i).get q g j = if q = p ∧ g = f ∧ j = i then v % 2 ^ (fieldInfo f).width else s.get q g j := by
  unfold State.get State.put
  rw [Tab.get_put]
  by_cases h : q = p ∧ g = f ∧ j = i
  · obtain ⟨rfl, rfl, rfl⟩ := h; simp
  · rw [if_neg h, if_neg (by simpa using h)]

theorem State.get_put_fld (p q : Page) {f g : Fld} (v i j : Nat) (h : g ≠ f) : (s.put p f v i).get q g j = s.get q g j := by
  simp [State.get_put, h]

theorem State.get_put_page {p q : Page} (f g : Fld) (v i j : Nat) (h : q ≠ p) : (s.put p f v i).get q g j = s.get q g j := by
  simp [State.get_put, h]

/-- A stored value never exceeds its field after a write. -/
theorem State.get_put_lt (p : Page) (f : Fld) (v i : Nat) : (s.put p f v i).get p f i < 2 ^ (fieldInfo f).width := by
  rw [State.get_put_same]; exact Nat.mod_lt _ (Nat.two_pow_pos _)

theorem State.bump_eq (p : Page) (f : Fld) (n i : Nat) : s.bump p f n i = s.put p f (satAdd (fieldInfo f).width (s.get p f i) n) i := rfl

/-- A counter raised by n saturates at its all-ones value. -/
@[simp] theorem State.get_bump_same (p : Page) (f : Fld) (n i : Nat) :
    (s.bump p f n i).get p f i = min (s.get p f i + n) (2 ^ (fieldInfo f).width - 1) := by
  rw [State.bump_eq, State.get_put_same, Nat.mod_eq_of_lt]
  · rfl
  · have := Nat.two_pow_pos (fieldInfo f).width
    unfold satAdd; omega

theorem State.get_bump (p q : Page) (f g : Fld) (n i j : Nat) :
    (s.bump p f n i).get q g j = if q = p ∧ g = f ∧ j = i then min (s.get p f i + n) (2 ^ (fieldInfo f).width - 1) else s.get q g j := by
  split
  · rename_i h; obtain ⟨rfl, rfl, rfl⟩ := h; simp
  · rename_i h; rw [State.bump_eq, State.get_put, if_neg h]

theorem State.get_evt (p q : Page) (b j : Nat) (g : Fld) (h : g ≠ .EVT) : (s.evt p b).get q g j = s.get q g j := by
  simp [State.evt, State.get_put, h]

end Sys2Proof.Machine
end

