-- ==== Sys2Proof/Laws/Record.lean ====
section
/-! SUPPORT. What an event record does (R31, R337 to R345, R350): the queue that it enters, and everything that it leaves alone. -/

namespace Sys2Proof.Machine

variable (s : State)

/-- The recorder's own fields and the capture word that a record may change. -/
def recordField : Fld → Bool
  | .NEXT_SEQ | .REPEAT_CNT | .DROPPED_CNT | .PROT_MERGED | .CAP_CODE | .CAP_FRAME_LO | .CAP_VALID => true
  | _ => false

@[simp] theorem State.enqueue_pending (r : Record) : (s.enqueue r).pending = s.pending := by
  unfold State.enqueue; dsimp only; split <;> rfl
@[simp] theorem State.enqueue_free (r : Record) : (s.enqueue r).free = s.free := by
  unfold State.enqueue; dsimp only; split <;> rfl
@[simp] theorem State.enqueue_out (r : Record) : (s.enqueue r).out = s.out := by
  unfold State.enqueue; dsimp only; split <;> rfl
@[simp] theorem State.enqueue_latches (r : Record) : (s.enqueue r).latches = s.latches := by
  unfold State.enqueue; dsimp only; split <;> rfl
@[simp] theorem State.enqueue_coarse (r : Record) : (s.enqueue r).coarse = s.coarse := by
  unfold State.enqueue; dsimp only; split <;> rfl
@[simp] theorem State.enqueue_staging (r : Record) : (s.enqueue r).staging = s.staging := by
  unfold State.enqueue; dsimp only; split <;> rfl
@[simp] theorem State.enqueue_directory (r : Record) : (s.enqueue r).directory = s.directory := by
  unfold State.enqueue; dsimp only; split <;> rfl
@[simp] theorem State.enqueue_stops (r : Record) : (s.enqueue r).stops = s.stops := by
  unfold State.enqueue; dsimp only; split <;> rfl
@[simp] theorem State.enqueue_halted (r : Record) : (s.enqueue r).halted = s.halted := by
  unfold State.enqueue; dsimp only; split <;> rfl
@[simp] theorem State.enqueue_once (r : Record) : (s.enqueue r).once = s.once := by
  unfold State.enqueue; dsimp only; split <;> rfl
@[simp] theorem State.enqueue_time (r : Record) : (s.enqueue r).time = s.time := by
  unfold State.enqueue; dsimp only; split <;> rfl
@[simp] theorem State.enqueue_pw (r : Record) : (s.enqueue r).pw = s.pw := by
  unfold State.enqueue; dsimp only; split <;> rfl
@[simp] theorem State.enqueue_beds (r : Record) : (s.enqueue r).beds = s.beds := by
  unfold State.enqueue; dsimp only; split <;> rfl
@[simp] theorem State.enqueue_parts (r : Record) : (s.enqueue r).parts = s.parts := by
  unfold State.enqueue; dsimp only; split <;> rfl
@[simp] theorem State.enqueue_arms (r : Record) : (s.enqueue r).arms = s.arms := by
  unfold State.enqueue; dsimp only; split <;> rfl
@[simp] theorem State.enqueue_cores (r : Record) : (s.enqueue r).cores = s.cores := by
  unfold State.enqueue; dsimp only; split <;> rfl
@[simp] theorem State.enqueue_mem (r : Record) : (s.enqueue r).mem = s.mem := by
  unfold State.enqueue; dsimp only; split <;> rfl
@[simp] theorem State.enqueue_upd (r : Record) : (s.enqueue r).upd = s.upd := by
  unfold State.enqueue; dsimp only; split <;> rfl
@[simp] theorem State.enqueue_fab (r : Record) : (s.enqueue r).fab = s.fab := by
  unfold State.enqueue; dsimp only; split <;> rfl
@[simp] theorem State.enqueue_red (r : Record) : (s.enqueue r).red = s.red := by
  unfold State.enqueue; dsimp only; split <;> rfl
@[simp] theorem State.enqueue_noise (r : Record) : (s.enqueue r).noise = s.noise := by
  unfold State.enqueue; dsimp only; split <;> rfl
@[simp] theorem State.enqueue_sec (r : Record) : (s.enqueue r).sec = s.sec := by
  unfold State.enqueue; dsimp only; split <;> rfl
@[simp] theorem State.enqueue_host (r : Record) : (s.enqueue r).host = s.host := by
  unfold State.enqueue; dsimp only; split <;> rfl
@[simp] theorem State.enqueue_isl (r : Record) : (s.enqueue r).isl = s.isl := by
  unfold State.enqueue; dsimp only; split <;> rfl
@[simp] theorem State.enqueue_tap (r : Record) : (s.enqueue r).tap = s.tap := by
  unfold State.enqueue; dsimp only; split <;> rfl

@[simp] theorem State.capture_pending (c : Nat) (p : Page) (n : Nat) : (s.capture c p n).pending = s.pending := by
  unfold State.capture; split <;> rfl
@[simp] theorem State.capture_free (c : Nat) (p : Page) (n : Nat) : (s.capture c p n).free = s.free := by
  unfold State.capture; split <;> rfl
@[simp] theorem State.capture_out (c : Nat) (p : Page) (n : Nat) : (s.capture c p n).out = s.out := by
  unfold State.capture; split <;> rfl
@[simp] theorem State.capture_latches (c : Nat) (p : Page) (n : Nat) : (s.capture c p n).latches = s.latches := by
  unfold State.capture; split <;> rfl
@[simp] theorem State.capture_coarse (c : Nat) (p : Page) (n : Nat) : (s.capture c p n).coarse = s.coarse := by
  unfold State.capture; split <;> rfl
@[simp] theorem State.capture_staging (c : Nat) (p : Page) (n : Nat) : (s.capture c p n).staging = s.staging := by
  unfold State.capture; split <;> rfl
@[simp] theorem State.capture_directory (c : Nat) (p : Page) (n : Nat) : (s.capture c p n).directory = s.directory := by
  unfold State.capture; split <;> rfl
@[simp] theorem State.capture_stops (c : Nat) (p : Page) (n : Nat) : (s.capture c p n).stops = s.stops := by
  unfold State.capture; split <;> rfl
@[simp] theorem State.capture_halted (c : Nat) (p : Page) (n : Nat) : (s.capture c p n).halted = s.halted := by
  unfold State.capture; split <;> rfl
@[simp] theorem State.capture_once (c : Nat) (p : Page) (n : Nat) : (s.capture c p n).once = s.once := by
  unfold State.capture; split <;> rfl
@[simp] theorem State.capture_time (c : Nat) (p : Page) (n : Nat) : (s.capture c p n).time = s.time := by
  unfold State.capture; split <;> rfl
@[simp] theorem State.capture_pw (c : Nat) (p : Page) (n : Nat) : (s.capture c p n).pw = s.pw := by
  unfold State.capture; split <;> rfl
@[simp] theorem State.capture_beds (c : Nat) (p : Page) (n : Nat) : (s.capture c p n).beds = s.beds := by
  unfold State.capture; split <;> rfl
@[simp] theorem State.capture_parts (c : Nat) (p : Page) (n : Nat) : (s.capture c p n).parts = s.parts := by
  unfold State.capture; split <;> rfl
@[simp] theorem State.capture_arms (c : Nat) (p : Page) (n : Nat) : (s.capture c p n).arms = s.arms := by
  unfold State.capture; split <;> rfl
@[simp] theorem State.capture_cores (c : Nat) (p : Page) (n : Nat) : (s.capture c p n).cores = s.cores := by
  unfold State.capture; split <;> rfl
@[simp] theorem State.capture_mem (c : Nat) (p : Page) (n : Nat) : (s.capture c p n).mem = s.mem := by
  unfold State.capture; split <;> rfl
@[simp] theorem State.capture_upd (c : Nat) (p : Page) (n : Nat) : (s.capture c p n).upd = s.upd := by
  unfold State.capture; split <;> rfl
@[simp] theorem State.capture_fab (c : Nat) (p : Page) (n : Nat) : (s.capture c p n).fab = s.fab := by
  unfold State.capture; split <;> rfl
@[simp] theorem State.capture_red (c : Nat) (p : Page) (n : Nat) : (s.capture c p n).red = s.red := by
  unfold State.capture; split <;> rfl
@[simp] theorem State.capture_noise (c : Nat) (p : Page) (n : Nat) : (s.capture c p n).noise = s.noise := by
  unfold State.capture; split <;> rfl
@[simp] theorem State.capture_sec (c : Nat) (p : Page) (n : Nat) : (s.capture c p n).sec = s.sec := by
  unfold State.capture; split <;> rfl
@[simp] theorem State.capture_host (c : Nat) (p : Page) (n : Nat) : (s.capture c p n).host = s.host := by
  unfold State.capture; split <;> rfl
@[simp] theorem State.capture_isl (c : Nat) (p : Page) (n : Nat) : (s.capture c p n).isl = s.isl := by
  unfold State.capture; split <;> rfl
@[simp] theorem State.capture_tap (c : Nat) (p : Page) (n : Nat) : (s.capture c p n).tap = s.tap := by
  unfold State.capture; split <;> rfl

@[simp] theorem State.queueGeneral_pending (r : Record) : (s.queueGeneral r).pending = s.pending := by
  unfold State.queueGeneral; split
  · rw [State.enqueue_pending]
  · rfl
@[simp] theorem State.queueGeneral_free (r : Record) : (s.queueGeneral r).free = s.free := by
  unfold State.queueGeneral; split
  · rw [State.enqueue_free]
  · rfl
@[simp] theorem State.queueGeneral_out (r : Record) : (s.queueGeneral r).out = s.out := by
  unfold State.queueGeneral; split
  · rw [State.enqueue_out]
  · rfl
@[simp] theorem State.queueGeneral_latches (r : Record) : (s.queueGeneral r).latches = s.latches := by
  unfold State.queueGeneral; split
  · rw [State.enqueue_latches]
  · rfl
@[simp] theorem State.queueGeneral_coarse (r : Record) : (s.queueGeneral r).coarse = s.coarse := by
  unfold State.queueGeneral; split
  · rw [State.enqueue_coarse]
  · rfl
@[simp] theorem State.queueGeneral_staging (r : Record) : (s.queueGeneral r).staging = s.staging := by
  unfold State.queueGeneral; split
  · rw [State.enqueue_staging]
  · rfl
@[simp] theorem State.queueGeneral_directory (r : Record) : (s.queueGeneral r).directory = s.directory := by
  unfold State.queueGeneral; split
  · rw [State.enqueue_directory]
  · rfl
@[simp] theorem State.queueGeneral_stops (r : Record) : (s.queueGeneral r).stops = s.stops := by
  unfold State.queueGeneral; split
  · rw [State.enqueue_stops]
  · rfl
@[simp] theorem State.queueGeneral_halted (r : Record) : (s.queueGeneral r).halted = s.halted := by
  unfold State.queueGeneral; split
  · rw [State.enqueue_halted]
  · rfl
@[simp] theorem State.queueGeneral_once (r : Record) : (s.queueGeneral r).once = s.once := by
  unfold State.queueGeneral; split
  · rw [State.enqueue_once]
  · rfl
@[simp] theorem State.queueGeneral_time (r : Record) : (s.queueGeneral r).time = s.time := by
  unfold State.queueGeneral; split
  · rw [State.enqueue_time]
  · rfl
@[simp] theorem State.queueGeneral_pw (r : Record) : (s.queueGeneral r).pw = s.pw := by
  unfold State.queueGeneral; split
  · rw [State.enqueue_pw]
  · rfl
@[simp] theorem State.queueGeneral_beds (r : Record) : (s.queueGeneral r).beds = s.beds := by
  unfold State.queueGeneral; split
  · rw [State.enqueue_beds]
  · rfl
@[simp] theorem State.queueGeneral_parts (r : Record) : (s.queueGeneral r).parts = s.parts := by
  unfold State.queueGeneral; split
  · rw [State.enqueue_parts]
  · rfl
@[simp] theorem State.queueGeneral_arms (r : Record) : (s.queueGeneral r).arms = s.arms := by
  unfold State.queueGeneral; split
  · rw [State.enqueue_arms]
  · rfl
@[simp] theorem State.queueGeneral_cores (r : Record) : (s.queueGeneral r).cores = s.cores := by
  unfold State.queueGeneral; split
  · rw [State.enqueue_cores]
  · rfl
@[simp] theorem State.queueGeneral_mem (r : Record) : (s.queueGeneral r).mem = s.mem := by
  unfold State.queueGeneral; split
  · rw [State.enqueue_mem]
  · rfl
@[simp] theorem State.queueGeneral_upd (r : Record) : (s.queueGeneral r).upd = s.upd := by
  unfold State.queueGeneral; split
  · rw [State.enqueue_upd]
  · rfl
@[simp] theorem State.queueGeneral_fab (r : Record) : (s.queueGeneral r).fab = s.fab := by
  unfold State.queueGeneral; split
  · rw [State.enqueue_fab]
  · rfl
@[simp] theorem State.queueGeneral_red (r : Record) : (s.queueGeneral r).red = s.red := by
  unfold State.queueGeneral; split
  · rw [State.enqueue_red]
  · rfl
@[simp] theorem State.queueGeneral_noise (r : Record) : (s.queueGeneral r).noise = s.noise := by
  unfold State.queueGeneral; split
  · rw [State.enqueue_noise]
  · rfl
@[simp] theorem State.queueGeneral_sec (r : Record) : (s.queueGeneral r).sec = s.sec := by
  unfold State.queueGeneral; split
  · rw [State.enqueue_sec]
  · rfl
@[simp] theorem State.queueGeneral_host (r : Record) : (s.queueGeneral r).host = s.host := by
  unfold State.queueGeneral; split
  · rw [State.enqueue_host]
  · rfl
@[simp] theorem State.queueGeneral_isl (r : Record) : (s.queueGeneral r).isl = s.isl := by
  unfold State.queueGeneral; split
  · rw [State.enqueue_isl]
  · rfl
@[simp] theorem State.queueGeneral_tap (r : Record) : (s.queueGeneral r).tap = s.tap := by
  unfold State.queueGeneral; split
  · rw [State.enqueue_tap]
  · rfl

@[simp] theorem State.postGeneral_pending (r : Record) : (s.postGeneral r).pending = s.pending := by
  unfold State.postGeneral; dsimp only; split
  · rfl
  · split <;> rw [State.queueGeneral_pending]
@[simp] theorem State.postGeneral_free (r : Record) : (s.postGeneral r).free = s.free := by
  unfold State.postGeneral; dsimp only; split
  · rfl
  · split <;> rw [State.queueGeneral_free]
@[simp] theorem State.postGeneral_out (r : Record) : (s.postGeneral r).out = s.out := by
  unfold State.postGeneral; dsimp only; split
  · rfl
  · split <;> rw [State.queueGeneral_out]
@[simp] theorem State.postGeneral_latches (r : Record) : (s.postGeneral r).latches = s.latches := by
  unfold State.postGeneral; dsimp only; split
  · rfl
  · split <;> rw [State.queueGeneral_latches]
@[simp] theorem State.postGeneral_coarse (r : Record) : (s.postGeneral r).coarse = s.coarse := by
  unfold State.postGeneral; dsimp only; split
  · rfl
  · split <;> rw [State.queueGeneral_coarse]
@[simp] theorem State.postGeneral_staging (r : Record) : (s.postGeneral r).staging = s.staging := by
  unfold State.postGeneral; dsimp only; split
  · rfl
  · split <;> rw [State.queueGeneral_staging]
@[simp] theorem State.postGeneral_directory (r : Record) : (s.postGeneral r).directory = s.directory := by
  unfold State.postGeneral; dsimp only; split
  · rfl
  · split <;> rw [State.queueGeneral_directory]
@[simp] theorem State.postGeneral_stops (r : Record) : (s.postGeneral r).stops = s.stops := by
  unfold State.postGeneral; dsimp only; split
  · rfl
  · split <;> rw [State.queueGeneral_stops]
@[simp] theorem State.postGeneral_halted (r : Record) : (s.postGeneral r).halted = s.halted := by
  unfold State.postGeneral; dsimp only; split
  · rfl
  · split <;> rw [State.queueGeneral_halted]
@[simp] theorem State.postGeneral_once (r : Record) : (s.postGeneral r).once = s.once := by
  unfold State.postGeneral; dsimp only; split
  · rfl
  · split <;> rw [State.queueGeneral_once]
@[simp] theorem State.postGeneral_time (r : Record) : (s.postGeneral r).time = s.time := by
  unfold State.postGeneral; dsimp only; split
  · rfl
  · split <;> rw [State.queueGeneral_time]
@[simp] theorem State.postGeneral_pw (r : Record) : (s.postGeneral r).pw = s.pw := by
  unfold State.postGeneral; dsimp only; split
  · rfl
  · split <;> rw [State.queueGeneral_pw]
@[simp] theorem State.postGeneral_beds (r : Record) : (s.postGeneral r).beds = s.beds := by
  unfold State.postGeneral; dsimp only; split
  · rfl
  · split <;> rw [State.queueGeneral_beds]
@[simp] theorem State.postGeneral_parts (r : Record) : (s.postGeneral r).parts = s.parts := by
  unfold State.postGeneral; dsimp only; split
  · rfl
  · split <;> rw [State.queueGeneral_parts]
@[simp] theorem State.postGeneral_arms (r : Record) : (s.postGeneral r).arms = s.arms := by
  unfold State.postGeneral; dsimp only; split
  · rfl
  · split <;> rw [State.queueGeneral_arms]
@[simp] theorem State.postGeneral_cores (r : Record) : (s.postGeneral r).cores = s.cores := by
  unfold State.postGeneral; dsimp only; split
  · rfl
  · split <;> rw [State.queueGeneral_cores]
@[simp] theorem State.postGeneral_mem (r : Record) : (s.postGeneral r).mem = s.mem := by
  unfold State.postGeneral; dsimp only; split
  · rfl
  · split <;> rw [State.queueGeneral_mem]
@[simp] theorem State.postGeneral_upd (r : Record) : (s.postGeneral r).upd = s.upd := by
  unfold State.postGeneral; dsimp only; split
  · rfl
  · split <;> rw [State.queueGeneral_upd]
@[simp] theorem State.postGeneral_fab (r : Record) : (s.postGeneral r).fab = s.fab := by
  unfold State.postGeneral; dsimp only; split
  · rfl
  · split <;> rw [State.queueGeneral_fab]
@[simp] theorem State.postGeneral_red (r : Record) : (s.postGeneral r).red = s.red := by
  unfold State.postGeneral; dsimp only; split
  · rfl
  · split <;> rw [State.queueGeneral_red]
@[simp] theorem State.postGeneral_noise (r : Record) : (s.postGeneral r).noise = s.noise := by
  unfold State.postGeneral; dsimp only; split
  · rfl
  · split <;> rw [State.queueGeneral_noise]
@[simp] theorem State.postGeneral_sec (r : Record) : (s.postGeneral r).sec = s.sec := by
  unfold State.postGeneral; dsimp only; split
  · rfl
  · split <;> rw [State.queueGeneral_sec]
@[simp] theorem State.postGeneral_host (r : Record) : (s.postGeneral r).host = s.host := by
  unfold State.postGeneral; dsimp only; split
  · rfl
  · split <;> rw [State.queueGeneral_host]
@[simp] theorem State.postGeneral_isl (r : Record) : (s.postGeneral r).isl = s.isl := by
  unfold State.postGeneral; dsimp only; split
  · rfl
  · split <;> rw [State.queueGeneral_isl]
@[simp] theorem State.postGeneral_tap (r : Record) : (s.postGeneral r).tap = s.tap := by
  unfold State.postGeneral; dsimp only; split
  · rfl
  · split <;> rw [State.queueGeneral_tap]

@[simp] theorem State.postProtected_pending (r : Record) : (s.postProtected r).pending = s.pending := by
  unfold State.postProtected; split
  · rw [State.enqueue_pending]
  · split <;> rfl
@[simp] theorem State.postProtected_free (r : Record) : (s.postProtected r).free = s.free := by
  unfold State.postProtected; split
  · rw [State.enqueue_free]
  · split <;> rfl
@[simp] theorem State.postProtected_out (r : Record) : (s.postProtected r).out = s.out := by
  unfold State.postProtected; split
  · rw [State.enqueue_out]
  · split <;> rfl
@[simp] theorem State.postProtected_latches (r : Record) : (s.postProtected r).latches = s.latches := by
  unfold State.postProtected; split
  · rw [State.enqueue_latches]
  · split <;> rfl
@[simp] theorem State.postProtected_coarse (r : Record) : (s.postProtected r).coarse = s.coarse := by
  unfold State.postProtected; split
  · rw [State.enqueue_coarse]
  · split <;> rfl
@[simp] theorem State.postProtected_staging (r : Record) : (s.postProtected r).staging = s.staging := by
  unfold State.postProtected; split
  · rw [State.enqueue_staging]
  · split <;> rfl
@[simp] theorem State.postProtected_directory (r : Record) : (s.postProtected r).directory = s.directory := by
  unfold State.postProtected; split
  · rw [State.enqueue_directory]
  · split <;> rfl
@[simp] theorem State.postProtected_stops (r : Record) : (s.postProtected r).stops = s.stops := by
  unfold State.postProtected; split
  · rw [State.enqueue_stops]
  · split <;> rfl
@[simp] theorem State.postProtected_halted (r : Record) : (s.postProtected r).halted = s.halted := by
  unfold State.postProtected; split
  · rw [State.enqueue_halted]
  · split <;> rfl
@[simp] theorem State.postProtected_once (r : Record) : (s.postProtected r).once = s.once := by
  unfold State.postProtected; split
  · rw [State.enqueue_once]
  · split <;> rfl
@[simp] theorem State.postProtected_time (r : Record) : (s.postProtected r).time = s.time := by
  unfold State.postProtected; split
  · rw [State.enqueue_time]
  · split <;> rfl
@[simp] theorem State.postProtected_pw (r : Record) : (s.postProtected r).pw = s.pw := by
  unfold State.postProtected; split
  · rw [State.enqueue_pw]
  · split <;> rfl
@[simp] theorem State.postProtected_beds (r : Record) : (s.postProtected r).beds = s.beds := by
  unfold State.postProtected; split
  · rw [State.enqueue_beds]
  · split <;> rfl
@[simp] theorem State.postProtected_parts (r : Record) : (s.postProtected r).parts = s.parts := by
  unfold State.postProtected; split
  · rw [State.enqueue_parts]
  · split <;> rfl
@[simp] theorem State.postProtected_arms (r : Record) : (s.postProtected r).arms = s.arms := by
  unfold State.postProtected; split
  · rw [State.enqueue_arms]
  · split <;> rfl
@[simp] theorem State.postProtected_cores (r : Record) : (s.postProtected r).cores = s.cores := by
  unfold State.postProtected; split
  · rw [State.enqueue_cores]
  · split <;> rfl
@[simp] theorem State.postProtected_mem (r : Record) : (s.postProtected r).mem = s.mem := by
  unfold State.postProtected; split
  · rw [State.enqueue_mem]
  · split <;> rfl
@[simp] theorem State.postProtected_upd (r : Record) : (s.postProtected r).upd = s.upd := by
  unfold State.postProtected; split
  · rw [State.enqueue_upd]
  · split <;> rfl
@[simp] theorem State.postProtected_fab (r : Record) : (s.postProtected r).fab = s.fab := by
  unfold State.postProtected; split
  · rw [State.enqueue_fab]
  · split <;> rfl
@[simp] theorem State.postProtected_red (r : Record) : (s.postProtected r).red = s.red := by
  unfold State.postProtected; split
  · rw [State.enqueue_red]
  · split <;> rfl
@[simp] theorem State.postProtected_noise (r : Record) : (s.postProtected r).noise = s.noise := by
  unfold State.postProtected; split
  · rw [State.enqueue_noise]
  · split <;> rfl
@[simp] theorem State.postProtected_sec (r : Record) : (s.postProtected r).sec = s.sec := by
  unfold State.postProtected; split
  · rw [State.enqueue_sec]
  · split <;> rfl
@[simp] theorem State.postProtected_host (r : Record) : (s.postProtected r).host = s.host := by
  unfold State.postProtected; split
  · rw [State.enqueue_host]
  · split <;> rfl
@[simp] theorem State.postProtected_isl (r : Record) : (s.postProtected r).isl = s.isl := by
  unfold State.postProtected; split
  · rw [State.enqueue_isl]
  · split <;> rfl
@[simp] theorem State.postProtected_tap (r : Record) : (s.postProtected r).tap = s.tap := by
  unfold State.postProtected; split
  · rw [State.enqueue_tap]
  · split <;> rfl

@[simp] theorem State.recordAt_pending (c : Nat) (p : Page) (d : List Byte) (n : Nat) : (s.recordAt c p d n).pending = s.pending := by
  unfold State.recordAt; dsimp only; split
  · rw [State.capture_pending]; split
    · rw [State.postProtected_pending]
    · rw [State.postGeneral_pending]
  · rfl
@[simp] theorem State.recordAt_free (c : Nat) (p : Page) (d : List Byte) (n : Nat) : (s.recordAt c p d n).free = s.free := by
  unfold State.recordAt; dsimp only; split
  · rw [State.capture_free]; split
    · rw [State.postProtected_free]
    · rw [State.postGeneral_free]
  · rfl
@[simp] theorem State.recordAt_out (c : Nat) (p : Page) (d : List Byte) (n : Nat) : (s.recordAt c p d n).out = s.out := by
  unfold State.recordAt; dsimp only; split
  · rw [State.capture_out]; split
    · rw [State.postProtected_out]
    · rw [State.postGeneral_out]
  · rfl
@[simp] theorem State.recordAt_latches (c : Nat) (p : Page) (d : List Byte) (n : Nat) : (s.recordAt c p d n).latches = s.latches := by
  unfold State.recordAt; dsimp only; split
  · rw [State.capture_latches]; split
    · rw [State.postProtected_latches]
    · rw [State.postGeneral_latches]
  · rfl
@[simp] theorem State.recordAt_coarse (c : Nat) (p : Page) (d : List Byte) (n : Nat) : (s.recordAt c p d n).coarse = s.coarse := by
  unfold State.recordAt; dsimp only; split
  · rw [State.capture_coarse]; split
    · rw [State.postProtected_coarse]
    · rw [State.postGeneral_coarse]
  · rfl
@[simp] theorem State.recordAt_staging (c : Nat) (p : Page) (d : List Byte) (n : Nat) : (s.recordAt c p d n).staging = s.staging := by
  unfold State.recordAt; dsimp only; split
  · rw [State.capture_staging]; split
    · rw [State.postProtected_staging]
    · rw [State.postGeneral_staging]
  · rfl
@[simp] theorem State.recordAt_directory (c : Nat) (p : Page) (d : List Byte) (n : Nat) : (s.recordAt c p d n).directory = s.directory := by
  unfold State.recordAt; dsimp only; split
  · rw [State.capture_directory]; split
    · rw [State.postProtected_directory]
    · rw [State.postGeneral_directory]
  · rfl
@[simp] theorem State.recordAt_stops (c : Nat) (p : Page) (d : List Byte) (n : Nat) : (s.recordAt c p d n).stops = s.stops := by
  unfold State.recordAt; dsimp only; split
  · rw [State.capture_stops]; split
    · rw [State.postProtected_stops]
    · rw [State.postGeneral_stops]
  · rfl
@[simp] theorem State.recordAt_halted (c : Nat) (p : Page) (d : List Byte) (n : Nat) : (s.recordAt c p d n).halted = s.halted := by
  unfold State.recordAt; dsimp only; split
  · rw [State.capture_halted]; split
    · rw [State.postProtected_halted]
    · rw [State.postGeneral_halted]
  · rfl
@[simp] theorem State.recordAt_once (c : Nat) (p : Page) (d : List Byte) (n : Nat) : (s.recordAt c p d n).once = s.once := by
  unfold State.recordAt; dsimp only; split
  · rw [State.capture_once]; split
    · rw [State.postProtected_once]
    · rw [State.postGeneral_once]
  · rfl
@[simp] theorem State.recordAt_time (c : Nat) (p : Page) (d : List Byte) (n : Nat) : (s.recordAt c p d n).time = s.time := by
  unfold State.recordAt; dsimp only; split
  · rw [State.capture_time]; split
    · rw [State.postProtected_time]
    · rw [State.postGeneral_time]
  · rfl
@[simp] theorem State.recordAt_pw (c : Nat) (p : Page) (d : List Byte) (n : Nat) : (s.recordAt c p d n).pw = s.pw := by
  unfold State.recordAt; dsimp only; split
  · rw [State.capture_pw]; split
    · rw [State.postProtected_pw]
    · rw [State.postGeneral_pw]
  · rfl
@[simp] theorem State.recordAt_beds (c : Nat) (p : Page) (d : List Byte) (n : Nat) : (s.recordAt c p d n).beds = s.beds := by
  unfold State.recordAt; dsimp only; split
  · rw [State.capture_beds]; split
    · rw [State.postProtected_beds]
    · rw [State.postGeneral_beds]
  · rfl
@[simp] theorem State.recordAt_parts (c : Nat) (p : Page) (d : List Byte) (n : Nat) : (s.recordAt c p d n).parts = s.parts := by
  unfold State.recordAt; dsimp only; split
  · rw [State.capture_parts]; split
    · rw [State.postProtected_parts]
    · rw [State.postGeneral_parts]
  · rfl
@[simp] theorem State.recordAt_arms (c : Nat) (p : Page) (d : List Byte) (n : Nat) : (s.recordAt c p d n).arms = s.arms := by
  unfold State.recordAt; dsimp only; split
  · rw [State.capture_arms]; split
    · rw [State.postProtected_arms]
    · rw [State.postGeneral_arms]
  · rfl
@[simp] theorem State.recordAt_cores (c : Nat) (p : Page) (d : List Byte) (n : Nat) : (s.recordAt c p d n).cores = s.cores := by
  unfold State.recordAt; dsimp only; split
  · rw [State.capture_cores]; split
    · rw [State.postProtected_cores]
    · rw [State.postGeneral_cores]
  · rfl
@[simp] theorem State.recordAt_mem (c : Nat) (p : Page) (d : List Byte) (n : Nat) : (s.recordAt c p d n).mem = s.mem := by
  unfold State.recordAt; dsimp only; split
  · rw [State.capture_mem]; split
    · rw [State.postProtected_mem]
    · rw [State.postGeneral_mem]
  · rfl
@[simp] theorem State.recordAt_upd (c : Nat) (p : Page) (d : List Byte) (n : Nat) : (s.recordAt c p d n).upd = s.upd := by
  unfold State.recordAt; dsimp only; split
  · rw [State.capture_upd]; split
    · rw [State.postProtected_upd]
    · rw [State.postGeneral_upd]
  · rfl
@[simp] theorem State.recordAt_fab (c : Nat) (p : Page) (d : List Byte) (n : Nat) : (s.recordAt c p d n).fab = s.fab := by
  unfold State.recordAt; dsimp only; split
  · rw [State.capture_fab]; split
    · rw [State.postProtected_fab]
    · rw [State.postGeneral_fab]
  · rfl
@[simp] theorem State.recordAt_red (c : Nat) (p : Page) (d : List Byte) (n : Nat) : (s.recordAt c p d n).red = s.red := by
  unfold State.recordAt; dsimp only; split
  · rw [State.capture_red]; split
    · rw [State.postProtected_red]
    · rw [State.postGeneral_red]
  · rfl
@[simp] theorem State.recordAt_noise (c : Nat) (p : Page) (d : List Byte) (n : Nat) : (s.recordAt c p d n).noise = s.noise := by
  unfold State.recordAt; dsimp only; split
  · rw [State.capture_noise]; split
    · rw [State.postProtected_noise]
    · rw [State.postGeneral_noise]
  · rfl
@[simp] theorem State.recordAt_sec (c : Nat) (p : Page) (d : List Byte) (n : Nat) : (s.recordAt c p d n).sec = s.sec := by
  unfold State.recordAt; dsimp only; split
  · rw [State.capture_sec]; split
    · rw [State.postProtected_sec]
    · rw [State.postGeneral_sec]
  · rfl
@[simp] theorem State.recordAt_host (c : Nat) (p : Page) (d : List Byte) (n : Nat) : (s.recordAt c p d n).host = s.host := by
  unfold State.recordAt; dsimp only; split
  · rw [State.capture_host]; split
    · rw [State.postProtected_host]
    · rw [State.postGeneral_host]
  · rfl
@[simp] theorem State.recordAt_isl (c : Nat) (p : Page) (d : List Byte) (n : Nat) : (s.recordAt c p d n).isl = s.isl := by
  unfold State.recordAt; dsimp only; split
  · rw [State.capture_isl]; split
    · rw [State.postProtected_isl]
    · rw [State.postGeneral_isl]
  · rfl
@[simp] theorem State.recordAt_tap (c : Nat) (p : Page) (d : List Byte) (n : Nat) : (s.recordAt c p d n).tap = s.tap := by
  unfold State.recordAt; dsimp only; split
  · rw [State.capture_tap]; split
    · rw [State.postProtected_tap]
    · rw [State.postGeneral_tap]
  · rfl

@[simp] theorem State.record_pending (c : Nat) (p : Page) (d : List Byte) : (s.record c p d).pending = s.pending := State.recordAt_pending ..
@[simp] theorem State.record_free (c : Nat) (p : Page) (d : List Byte) : (s.record c p d).free = s.free := State.recordAt_free ..
@[simp] theorem State.record_out (c : Nat) (p : Page) (d : List Byte) : (s.record c p d).out = s.out := State.recordAt_out ..
@[simp] theorem State.record_latches (c : Nat) (p : Page) (d : List Byte) : (s.record c p d).latches = s.latches := State.recordAt_latches ..
@[simp] theorem State.record_coarse (c : Nat) (p : Page) (d : List Byte) : (s.record c p d).coarse = s.coarse := State.recordAt_coarse ..
@[simp] theorem State.record_staging (c : Nat) (p : Page) (d : List Byte) : (s.record c p d).staging = s.staging := State.recordAt_staging ..
@[simp] theorem State.record_directory (c : Nat) (p : Page) (d : List Byte) : (s.record c p d).directory = s.directory := State.recordAt_directory ..
@[simp] theorem State.record_stops (c : Nat) (p : Page) (d : List Byte) : (s.record c p d).stops = s.stops := State.recordAt_stops ..
@[simp] theorem State.record_halted (c : Nat) (p : Page) (d : List Byte) : (s.record c p d).halted = s.halted := State.recordAt_halted ..
@[simp] theorem State.record_once (c : Nat) (p : Page) (d : List Byte) : (s.record c p d).once = s.once := State.recordAt_once ..
@[simp] theorem State.record_time (c : Nat) (p : Page) (d : List Byte) : (s.record c p d).time = s.time := State.recordAt_time ..
@[simp] theorem State.record_pw (c : Nat) (p : Page) (d : List Byte) : (s.record c p d).pw = s.pw := State.recordAt_pw ..
@[simp] theorem State.record_beds (c : Nat) (p : Page) (d : List Byte) : (s.record c p d).beds = s.beds := State.recordAt_beds ..
@[simp] theorem State.record_parts (c : Nat) (p : Page) (d : List Byte) : (s.record c p d).parts = s.parts := State.recordAt_parts ..
@[simp] theorem State.record_arms (c : Nat) (p : Page) (d : List Byte) : (s.record c p d).arms = s.arms := State.recordAt_arms ..
@[simp] theorem State.record_cores (c : Nat) (p : Page) (d : List Byte) : (s.record c p d).cores = s.cores := State.recordAt_cores ..
@[simp] theorem State.record_mem (c : Nat) (p : Page) (d : List Byte) : (s.record c p d).mem = s.mem := State.recordAt_mem ..
@[simp] theorem State.record_upd (c : Nat) (p : Page) (d : List Byte) : (s.record c p d).upd = s.upd := State.recordAt_upd ..
@[simp] theorem State.record_fab (c : Nat) (p : Page) (d : List Byte) : (s.record c p d).fab = s.fab := State.recordAt_fab ..
@[simp] theorem State.record_red (c : Nat) (p : Page) (d : List Byte) : (s.record c p d).red = s.red := State.recordAt_red ..
@[simp] theorem State.record_noise (c : Nat) (p : Page) (d : List Byte) : (s.record c p d).noise = s.noise := State.recordAt_noise ..
@[simp] theorem State.record_sec (c : Nat) (p : Page) (d : List Byte) : (s.record c p d).sec = s.sec := State.recordAt_sec ..
@[simp] theorem State.record_host (c : Nat) (p : Page) (d : List Byte) : (s.record c p d).host = s.host := State.recordAt_host ..
@[simp] theorem State.record_isl (c : Nat) (p : Page) (d : List Byte) : (s.record c p d).isl = s.isl := State.recordAt_isl ..
@[simp] theorem State.record_tap (c : Nat) (p : Page) (d : List Byte) : (s.record c p d).tap = s.tap := State.recordAt_tap ..

@[simp] theorem State.raise_pending (p : Page) (b : Nat) (d : List Byte) : (s.raise p b d).pending = s.pending := State.record_pending ..
@[simp] theorem State.raise_free (p : Page) (b : Nat) (d : List Byte) : (s.raise p b d).free = s.free := State.record_free ..
@[simp] theorem State.raise_out (p : Page) (b : Nat) (d : List Byte) : (s.raise p b d).out = s.out := State.record_out ..
@[simp] theorem State.raise_latches (p : Page) (b : Nat) (d : List Byte) : (s.raise p b d).latches = s.latches := State.record_latches ..
@[simp] theorem State.raise_coarse (p : Page) (b : Nat) (d : List Byte) : (s.raise p b d).coarse = s.coarse := State.record_coarse ..
@[simp] theorem State.raise_staging (p : Page) (b : Nat) (d : List Byte) : (s.raise p b d).staging = s.staging := State.record_staging ..
@[simp] theorem State.raise_directory (p : Page) (b : Nat) (d : List Byte) : (s.raise p b d).directory = s.directory := State.record_directory ..
@[simp] theorem State.raise_stops (p : Page) (b : Nat) (d : List Byte) : (s.raise p b d).stops = s.stops := State.record_stops ..
@[simp] theorem State.raise_halted (p : Page) (b : Nat) (d : List Byte) : (s.raise p b d).halted = s.halted := State.record_halted ..
@[simp] theorem State.raise_once (p : Page) (b : Nat) (d : List Byte) : (s.raise p b d).once = s.once := State.record_once ..
@[simp] theorem State.raise_time (p : Page) (b : Nat) (d : List Byte) : (s.raise p b d).time = s.time := State.record_time ..
@[simp] theorem State.raise_pw (p : Page) (b : Nat) (d : List Byte) : (s.raise p b d).pw = s.pw := State.record_pw ..
@[simp] theorem State.raise_beds (p : Page) (b : Nat) (d : List Byte) : (s.raise p b d).beds = s.beds := State.record_beds ..
@[simp] theorem State.raise_parts (p : Page) (b : Nat) (d : List Byte) : (s.raise p b d).parts = s.parts := State.record_parts ..
@[simp] theorem State.raise_arms (p : Page) (b : Nat) (d : List Byte) : (s.raise p b d).arms = s.arms := State.record_arms ..
@[simp] theorem State.raise_cores (p : Page) (b : Nat) (d : List Byte) : (s.raise p b d).cores = s.cores := State.record_cores ..
@[simp] theorem State.raise_mem (p : Page) (b : Nat) (d : List Byte) : (s.raise p b d).mem = s.mem := State.record_mem ..
@[simp] theorem State.raise_upd (p : Page) (b : Nat) (d : List Byte) : (s.raise p b d).upd = s.upd := State.record_upd ..
@[simp] theorem State.raise_fab (p : Page) (b : Nat) (d : List Byte) : (s.raise p b d).fab = s.fab := State.record_fab ..
@[simp] theorem State.raise_red (p : Page) (b : Nat) (d : List Byte) : (s.raise p b d).red = s.red := State.record_red ..
@[simp] theorem State.raise_noise (p : Page) (b : Nat) (d : List Byte) : (s.raise p b d).noise = s.noise := State.record_noise ..
@[simp] theorem State.raise_sec (p : Page) (b : Nat) (d : List Byte) : (s.raise p b d).sec = s.sec := State.record_sec ..
@[simp] theorem State.raise_host (p : Page) (b : Nat) (d : List Byte) : (s.raise p b d).host = s.host := State.record_host ..
@[simp] theorem State.raise_isl (p : Page) (b : Nat) (d : List Byte) : (s.raise p b d).isl = s.isl := State.record_isl ..
@[simp] theorem State.raise_tap (p : Page) (b : Nat) (d : List Byte) : (s.raise p b d).tap = s.tap := State.record_tap ..

@[simp] theorem State.common_pending (p : Page) (l : Nat) (d : List Byte) : (s.common p l d).pending = s.pending := State.record_pending ..
@[simp] theorem State.common_free (p : Page) (l : Nat) (d : List Byte) : (s.common p l d).free = s.free := State.record_free ..
@[simp] theorem State.common_out (p : Page) (l : Nat) (d : List Byte) : (s.common p l d).out = s.out := State.record_out ..
@[simp] theorem State.common_latches (p : Page) (l : Nat) (d : List Byte) : (s.common p l d).latches = s.latches := State.record_latches ..
@[simp] theorem State.common_coarse (p : Page) (l : Nat) (d : List Byte) : (s.common p l d).coarse = s.coarse := State.record_coarse ..
@[simp] theorem State.common_staging (p : Page) (l : Nat) (d : List Byte) : (s.common p l d).staging = s.staging := State.record_staging ..
@[simp] theorem State.common_directory (p : Page) (l : Nat) (d : List Byte) : (s.common p l d).directory = s.directory := State.record_directory ..
@[simp] theorem State.common_stops (p : Page) (l : Nat) (d : List Byte) : (s.common p l d).stops = s.stops := State.record_stops ..
@[simp] theorem State.common_halted (p : Page) (l : Nat) (d : List Byte) : (s.common p l d).halted = s.halted := State.record_halted ..
@[simp] theorem State.common_once (p : Page) (l : Nat) (d : List Byte) : (s.common p l d).once = s.once := State.record_once ..
@[simp] theorem State.common_time (p : Page) (l : Nat) (d : List Byte) : (s.common p l d).time = s.time := State.record_time ..
@[simp] theorem State.common_pw (p : Page) (l : Nat) (d : List Byte) : (s.common p l d).pw = s.pw := State.record_pw ..
@[simp] theorem State.common_beds (p : Page) (l : Nat) (d : List Byte) : (s.common p l d).beds = s.beds := State.record_beds ..
@[simp] theorem State.common_parts (p : Page) (l : Nat) (d : List Byte) : (s.common p l d).parts = s.parts := State.record_parts ..
@[simp] theorem State.common_arms (p : Page) (l : Nat) (d : List Byte) : (s.common p l d).arms = s.arms := State.record_arms ..
@[simp] theorem State.common_cores (p : Page) (l : Nat) (d : List Byte) : (s.common p l d).cores = s.cores := State.record_cores ..
@[simp] theorem State.common_mem (p : Page) (l : Nat) (d : List Byte) : (s.common p l d).mem = s.mem := State.record_mem ..
@[simp] theorem State.common_upd (p : Page) (l : Nat) (d : List Byte) : (s.common p l d).upd = s.upd := State.record_upd ..
@[simp] theorem State.common_fab (p : Page) (l : Nat) (d : List Byte) : (s.common p l d).fab = s.fab := State.record_fab ..
@[simp] theorem State.common_red (p : Page) (l : Nat) (d : List Byte) : (s.common p l d).red = s.red := State.record_red ..
@[simp] theorem State.common_noise (p : Page) (l : Nat) (d : List Byte) : (s.common p l d).noise = s.noise := State.record_noise ..
@[simp] theorem State.common_sec (p : Page) (l : Nat) (d : List Byte) : (s.common p l d).sec = s.sec := State.record_sec ..
@[simp] theorem State.common_host (p : Page) (l : Nat) (d : List Byte) : (s.common p l d).host = s.host := State.record_host ..
@[simp] theorem State.common_isl (p : Page) (l : Nat) (d : List Byte) : (s.common p l d).isl = s.isl := State.record_isl ..
@[simp] theorem State.common_tap (p : Page) (l : Nat) (d : List Byte) : (s.common p l d).tap = s.tap := State.record_tap ..

/-! Registers that a record leaves alone: all but the recorder's own and the source page's capture word. -/

theorem State.enqueue_get (r : Record) (q : Page) {g : Fld} (j : Nat) (h : recordField g = false) : (s.enqueue r).get q g j = s.get q g j := by
  unfold State.enqueue; dsimp only; split <;> exact State.get_put_fld _ _ _ _ _ _ (by rintro rfl; simp [recordField] at h)

theorem State.capture_get (c : Nat) (p : Page) (n : Nat) (q : Page) {g : Fld} (j : Nat) (h : recordField g = false) :
    (s.capture c p n).get q g j = s.get q g j := by
  unfold State.capture; split
  · rfl
  · rw [State.get_put_fld _ _ _ _ _ _ (by rintro rfl; simp [recordField] at h), State.get_put_fld _ _ _ _ _ _ (by rintro rfl; simp [recordField] at h),
      State.get_put_fld _ _ _ _ _ _ (by rintro rfl; simp [recordField] at h)]

theorem State.queueGeneral_get (r : Record) (q : Page) {g : Fld} (j : Nat) (h : recordField g = false) (he : q = pgRec → g ≠ .EVT) :
    (s.queueGeneral r).get q g j = s.get q g j := by
  unfold State.queueGeneral; split
  · rw [State.enqueue_get _ _ _ _ h]
  · rw [State.get_put, if_neg (by rintro ⟨rfl, rfl, -⟩; exact he rfl rfl), State.get_bump,
      if_neg (by rintro ⟨-, rfl, -⟩; simp [recordField] at h)]; rfl

theorem State.postGeneral_get (r : Record) (q : Page) {g : Fld} (j : Nat) (h : recordField g = false) (he : q = pgRec → g ≠ .EVT) :
    (s.postGeneral r).get q g j = s.get q g j := by
  unfold State.postGeneral; dsimp only; split
  · rw [State.get_bump, if_neg (by rintro ⟨-, rfl, -⟩; simp [recordField] at h)]; rfl
  · split <;> exact State.queueGeneral_get _ _ _ _ h he

theorem State.postProtected_get (r : Record) (q : Page) {g : Fld} (j : Nat) (h : recordField g = false) :
    (s.postProtected r).get q g j = s.get q g j := by
  unfold State.postProtected; split
  · rw [State.enqueue_get _ _ _ _ h]
  · split
    · rw [State.get_bump, if_neg (by rintro ⟨-, rfl, -⟩; simp [recordField] at h)]
    · rfl

/-- A record changes no field but the recorder's own, its EVT and the source page's capture word. -/
theorem State.recordAt_get (c : Nat) (p : Page) (d : List Byte) (n : Nat) (q : Page) {g : Fld} (j : Nat) (h : recordField g = false)
    (he : q = pgRec → g ≠ .EVT) : (s.recordAt c p d n).get q g j = s.get q g j := by
  unfold State.recordAt; dsimp only; split
  · rw [State.capture_get _ _ _ _ _ _ h]; split
    · rw [State.postProtected_get _ _ _ _ h]
    · rw [State.postGeneral_get _ _ _ _ h he]
  · rfl

theorem State.record_get (c : Nat) (p : Page) (d : List Byte) (q : Page) {g : Fld} (j : Nat) (h : recordField g = false)
    (he : q = pgRec → g ≠ .EVT) : (s.record c p d).get q g j = s.get q g j := State.recordAt_get s _ _ _ _ _ _ h he

theorem State.common_get (p : Page) (l : Nat) (d : List Byte) (q : Page) {g : Fld} (j : Nat) (h : recordField g = false)
    (he : q = pgRec → g ≠ .EVT) : (s.common p l d).get q g j = s.get q g j := State.recordAt_get s _ _ _ _ _ _ h he

/-- An event changes no field but the recorder's own, the source page's EVT and its capture word. -/
theorem State.raise_get (p : Page) (b : Nat) (d : List Byte) (q : Page) {g : Fld} (j : Nat) (h : recordField g = false)
    (he : g ≠ .EVT) : (s.raise p b d).get q g j = s.get q g j := by
  unfold State.raise
  rw [State.record_get _ _ _ _ _ _ h fun _ => he, State.get_evt _ _ _ _ _ _ he]

/-- A general record enters the queue with the next SEQ, while its code has not been recorded 64 times this second and a place is free. -/
theorem State.record_queued (c : Nat) (p : Page) (d : List Byte) (hk : s.pw.keeperOn = true) (hc : protectedCode c = false)
    (h1 : s.evr.perSecond.get (pageSource p, c) 0 < 64) (h2 : s.evr.queueGen.length < 4096) :
    (s.record c p d).evr.queueGen = s.evr.queueGen ++ [{ s.mkRecord c p d (s.pageFrame p) with seq := s.get pgRec .NEXT_SEQ }] := by
  unfold State.record State.recordAt
  simp only [hk, hc, if_true]
  have hn : ¬ 64 ≤ s.evr.perSecond.get (pageSource p, c) 0 := by omega
  have e : ∀ t : State, ∀ n, (t.capture c p n).evr = t.evr := by
    intro t n; unfold State.capture; split <;> rfl
  rw [e]
  unfold State.postGeneral
  simp only [State.mkRecord, hn, if_false, h2, if_true, State.queueGeneral, State.enqueue, hc]
  rfl

end Sys2Proof.Machine
end

