-- ==== Sys2Proof/Laws/Bus.lean ====
section
/-! SUPPORT. One register write (R389): which fields it touches, and what an accepted and a refused write of one field answer. -/

namespace Sys2Proof.Machine

/-- What a write of bits [lo + n − 1 : lo] does to one field of the register. -/
def State.touchOne (s : State) (hp p : Page) (lo n value : Nat) (e : Fld × Nat) : Option Touch :=
  match s.keyAt p e.1 e.2 with
  | none => none
  | some k =>
    let i := fieldInfo e.1
    let r := fieldBits i lo n value (s.heldValue hp k)
    if i.acc = .ro || mirrorField p k then none
    else if i.acc = .rw then (if r.1 = s.heldValue hp k then none else some ⟨k, r.1, r.2⟩)
    else if r.2 = 0 then none
    else some ⟨k, r.1, r.2⟩

theorem State.touched_eq (s : State) (hp p : Page) (o lo n value : Nat) :
    s.touched hp p o lo n value = (fieldsAt p.kind o).filterMap (s.touchOne hp p lo n value) := rfl

/-- Bits outside a field do not touch it. -/
theorem fieldBits_out (i : FieldInfo) (lo n value old : Nat) (h : lo + n ≤ i.lo ∨ i.lo + i.width ≤ lo) :
    fieldBits i lo n value old = (old, 0) := by
  unfold fieldBits
  rw [if_pos (by rcases h with h | h <;> simp <;> omega)]

theorem State.touchOne_out (s : State) (hp p : Page) (lo n value : Nat) (e : Fld × Nat)
    (h : lo + n ≤ (fieldInfo e.1).lo ∨ (fieldInfo e.1).lo + (fieldInfo e.1).width ≤ lo) :
    s.touchOne hp p lo n value e = none := by
  unfold State.touchOne
  cases s.keyAt p e.1 e.2 with
  | none => rfl
  | some k =>
    simp only [fieldBits_out _ _ _ _ _ h]
    split
    · rfl
    · split <;> simp

/-- A write of exactly the field's bits. -/
theorem fieldBits_self (i : FieldInfo) (v old : Nat) (hw : 0 < i.width) (ho : old < 2 ^ i.width) :
    fieldBits i i.lo i.width (v % 2 ^ i.width * 2 ^ i.lo) old = (v % 2 ^ i.width, v % 2 ^ i.width) := by
  unfold fieldBits
  have e : min (i.lo + i.width) (i.lo + i.width) - max i.lo i.lo = i.width := by simp
  rw [if_neg (by simp; omega)]
  dsimp only
  rw [e]
  simp [bits, Nat.mod_eq_of_lt ho]

theorem State.writeReg_one (s : State) (a : Agent) (hp p : Page) (bar word o lo n value : Nat) (t : Touch)
    (ht : s.touched hp p o lo n value = [t]) (hr : s.refusalOf a hp t.key t.value = none) (hg : t.key.fld ≠ .MBX_GO) :
    s.writeReg a hp p bar word o lo n value = .next (s.applyField hp t.key t.value t.mask) := by
  have h1 : abortWins [t] = [t] := by
    unfold abortWins
    split
    · rename_i h
      simp only [List.any_cons, List.any_nil, Bool.or_false, beq_iff_eq] at h
      simp [h]
    · rfl
  unfold State.writeReg
  simp only [ht, List.filter_cons, hr, Option.isNone_none, if_true, List.filter_nil, h1]
  simp [hr, hg]

theorem State.writeReg_refused (s : State) (a : Agent) (hp p : Page) (bar word o lo n value c : Nat) (t : Touch)
    (ht : s.touched hp p o lo n value = [t]) (hr : s.refusalOf a hp t.key t.value = some c) :
    s.writeReg a hp p bar word o lo n value = .next (s.noteRefusal hp (leBytes 4 bar ++ leBytes 4 word) c) := by
  have hc : c = 0xF1 ∨ c = 0xF2 ∨ c = 0xF3 ∨ c = 0xF6 := by
    unfold State.refusalOf at hr
    dsimp only at hr
    split at hr
    · simp_all
    · split at hr
      · simp_all
      · split at hr
        · simp_all
        · split at hr
          · simp_all
          · split at hr <;> simp_all
  unfold State.writeReg
  simp only [ht, List.filter_cons, hr, Option.isNone_some, List.filter_nil, Bool.false_eq_true, if_false, List.any_cons, List.any_nil,
    Bool.or_false]
  rcases hc with rfl | rfl | rfl | rfl <;> simp [abortWins]

/-- A write that touches nothing. -/
theorem State.writeReg_none (s : State) (a : Agent) (hp p : Page) (bar word o lo n value : Nat) (ht : s.touched hp p o lo n value = []) :
    s.writeReg a hp p bar word o lo n value = .next s := by
  unfold State.writeReg; simp [ht, abortWins]

/-- Where the other fields of the register lie outside a field's bits, a write of the field touches it alone. -/
theorem State.touched_alone (s : State) (p : Page) (f : Fld) (e value : Nat) (o : Nat) (pre post : List (Fld × Nat))
    (hf : fieldsAt p.kind o = pre ++ (f, e) :: post)
    (hd : (pre ++ post).all (fun x => decide ((fieldInfo f).lo + (fieldInfo f).width ≤ (fieldInfo x.1).lo ∨
      (fieldInfo x.1).lo + (fieldInfo x.1).width ≤ (fieldInfo f).lo)) = true) :
    s.touched p p o (fieldInfo f).lo (fieldInfo f).width value =
      (s.touchOne p p (fieldInfo f).lo (fieldInfo f).width value (f, e)).toList := by
  rw [State.touched_eq, hf]
  have hz : ∀ l : List (Fld × Nat), (∀ x ∈ l, x ∈ pre ++ post) →
      l.filterMap (s.touchOne p p (fieldInfo f).lo (fieldInfo f).width value) = [] := by
    intro l hl
    rw [List.filterMap_eq_nil_iff]
    intro x hx
    exact State.touchOne_out _ _ _ _ _ _ _ (by simpa using List.all_eq_true.1 hd x (hl x hx))
  rw [List.filterMap_append, hz pre (fun x hx => List.mem_append_left _ hx), List.nil_append, List.filterMap_cons,
    hz post (fun x hx => List.mem_append_right _ hx)]
  cases State.touchOne s p p (fieldInfo f).lo (fieldInfo f).width value (f, e) <;> rfl

/-- One field written whole, accepted. -/
theorem State.writeField_next (s : State) (a : Agent) (p : Page) (f : Fld) (v e : Nat) (k : FieldKey) (pre post : List (Fld × Nat))
    (hb : a = .host → s.barUp = true)
    (hf : fieldsAt p.kind ((fieldInfo f).off + (fieldInfo f).stride * e) = pre ++ (f, e) :: post)
    (hd : (pre ++ post).all (fun x => decide ((fieldInfo f).lo + (fieldInfo f).width ≤ (fieldInfo x.1).lo ∨
      (fieldInfo x.1).lo + (fieldInfo x.1).width ≤ (fieldInfo f).lo)) = true)
    (hk : s.keyAt p f e = some k) (hm : mirrorField p k = false) (ha : (fieldInfo f).acc ≠ .ro) (hw : 0 < (fieldInfo f).width)
    (hh : s.heldValue p k < 2 ^ (fieldInfo f).width)
    (hv : if (fieldInfo f).acc = .rw then v % 2 ^ (fieldInfo f).width ≠ s.heldValue p k else v % 2 ^ (fieldInfo f).width ≠ 0)
    (hr : s.refusalOf a p k (v % 2 ^ (fieldInfo f).width) = none) (hg : k.fld ≠ .MBX_GO) :
    s.writeField a p f v e = .next (s.applyField p k (v % 2 ^ (fieldInfo f).width) (v % 2 ^ (fieldInfo f).width)) := by
  have hb' : ¬(decide (a = Agent.host) && !s.barUp) = true := by
    by_cases h : a = .host
    · simp [hb h]
    · simp [h]
  unfold State.writeField State.onBus
  simp only [hb', Bool.false_eq_true, if_false]
  refine State.writeReg_one s a p p _ _ _ _ _ _ ⟨k, v % 2 ^ (fieldInfo f).width, v % 2 ^ (fieldInfo f).width⟩ ?_ hr hg
  rw [State.touched_alone s p f e _ _ pre post hf hd]
  unfold State.touchOne
  simp only [hk, hm, ha, fieldBits_self _ _ _ hw hh]
  by_cases h : (fieldInfo f).acc = .rw
  · rw [if_pos h] at hv; simp [h, hv]
  · rw [if_neg h] at hv; simp [h, hv]

/-- One field written whole, refused. -/
theorem State.writeField_refused (s : State) (a : Agent) (p : Page) (f : Fld) (v e c : Nat) (k : FieldKey) (pre post : List (Fld × Nat))
    (hb : a = .host → s.barUp = true)
    (hf : fieldsAt p.kind ((fieldInfo f).off + (fieldInfo f).stride * e) = pre ++ (f, e) :: post)
    (hd : (pre ++ post).all (fun x => decide ((fieldInfo f).lo + (fieldInfo f).width ≤ (fieldInfo x.1).lo ∨
      (fieldInfo x.1).lo + (fieldInfo x.1).width ≤ (fieldInfo f).lo)) = true)
    (hk : s.keyAt p f e = some k) (hm : mirrorField p k = false) (ha : (fieldInfo f).acc ≠ .ro) (hw : 0 < (fieldInfo f).width)
    (hh : s.heldValue p k < 2 ^ (fieldInfo f).width)
    (hv : if (fieldInfo f).acc = .rw then v % 2 ^ (fieldInfo f).width ≠ s.heldValue p k else v % 2 ^ (fieldInfo f).width ≠ 0)
    (hr : s.refusalOf a p k (v % 2 ^ (fieldInfo f).width) = some c) :
    s.writeField a p f v e = .next (s.noteRefusal p
      (leBytes 4 (pageBase p + ((fieldInfo f).off + (fieldInfo f).stride * e)) ++
        leBytes 4 (s.writtenBack p ((fieldInfo f).off + (fieldInfo f).stride * e) f + v % 2 ^ (fieldInfo f).width * 2 ^ (fieldInfo f).lo)) c) := by
  have hb' : ¬(decide (a = Agent.host) && !s.barUp) = true := by
    by_cases h : a = .host
    · simp [hb h]
    · simp [h]
  unfold State.writeField State.onBus
  simp only [hb', Bool.false_eq_true, if_false]
  rw [State.writeReg_refused s a p p _ _ _ _ _ _ c ⟨k, v % 2 ^ (fieldInfo f).width, v % 2 ^ (fieldInfo f).width⟩ ?_ hr]
  rw [State.touched_alone s p f e _ _ pre post hf hd]
  unfold State.touchOne
  simp only [hk, hm, ha, fieldBits_self _ _ _ hw hh]
  by_cases h : (fieldInfo f).acc = .rw
  · rw [if_pos h] at hv; simp [h, hv]
  · rw [if_neg h] at hv; simp [h, hv]

/-- A field that is not staged holds what it shows. -/
theorem State.heldValue_now (s : State) (hp : Page) (k : FieldKey) (h : (fieldInfo k.fld).kind ≠ .frame) :
    s.heldValue hp k = s.live k % 2 ^ (fieldInfo k.fld).width := by
  unfold State.heldValue; simp [h]

/-- A field holds a value of its width. -/
theorem State.heldValue_lt (s : State) (hp : Page) (k : FieldKey) : s.heldValue hp k < 2 ^ (fieldInfo k.fld).width := by
  unfold State.heldValue
  dsimp only
  split <;> exact Nat.mod_lt _ (Nat.two_pow_pos _)

/-- Nothing refuses a live or staged field that no lock closes but an armature, a refused stop or an undefined value (R5, R35 to R37). -/
theorem State.refusalOf_free (s : State) (a : Agent) (hp : Page) (k : FieldKey) (v : Nat)
    (hk : (fieldInfo k.fld).kind = .live ∨ (fieldInfo k.fld).kind = .frame) (hl : s.flag hp .LOCKED = false ∨ lockable k.fld = false)
    (ha : armatureOwned k.fld = false) (hr : k.fld ≠ .RUN ∨ v ≠ 0 ∨ s.stopRefused k.page = false) (hu : undefinedValue k.fld v = false) :
    s.refusalOf a hp k v = none := by
  unfold State.refusalOf
  have h1 : ((fieldInfo k.fld).kind = FKind.owner) = False := by rcases hk with h | h <;> simp [h]
  have h2 : ((fieldInfo k.fld).kind == FKind.quiescent) = false := by rcases hk with h | h <;> simp [h]
  have h3 : (s.flag hp .LOCKED && lockable k.fld) = false := by rcases hl with h | h <;> simp [h]
  simp only [h1, h2, h3, ha, hu, Bool.false_and, Bool.and_false, Bool.or_false, Bool.false_eq_true, if_false]
  repeat' split
  all_goals first
    | rfl
    | simp_all

/-- Every headed page has its CTL register at 0x008 (R31). -/
theorem fieldsAt_ctl (k : PageKind) (h : headed k = true) : fieldsAt k 8 = [(.RUN, 0), (.TRAP_EN, 0), (.CNT_CLR, 0)] := by
  revert h; cases k <;> decide

/-- Every headed page has its COMMIT register at 0x020 (R31). -/
theorem fieldsAt_commit (k : PageKind) (h : headed k = true) : fieldsAt k 0x20 = [(.COMMIT_BIT, 0), (.ABORT_BIT, 0)] := by
  revert h; cases k <;> decide

/-- Every headed page has its LOCK register at 0x028 (R31). -/
theorem fieldsAt_lock (k : PageKind) (h : headed k = true) : fieldsAt k 0x28 = [(.LOCKED, 0), (.UNLOCK, 0)] := by
  revert h; cases k <;> decide

/-- The page hit, if any, has a head or is the directory. -/
def headedHit (r : Option (Page × Nat)) : Bool := match r with
  | none => true
  | some x => headed x.1.kind || x.1.kind == PageKind.pageDirectory

/-- Every page that BAR0 reaches has the head of R31, unless it is the directory. -/
theorem State.pageAt_headed (s : State) (o : Nat) :
    headedHit (s.pageAt o) = true := by
  unfold State.pageAt
  dsimp only
  simp only [apply_ite headedHit]
  simp [headedHit, headed, pgGlobals, pgCp, pgPower,
    pgLayer, pgBed, pgQuant, pgBridge, pgCache, pgReg, pgUnit, pgMc, pgLink, pgPort, pgRed, pgPcie, pgKeeper, pgSec, pgRec, pgMirror]

/-- A page that its own offset reaches has the head of R31, unless it is the directory. -/
theorem State.headed_isPage (s : State) (p : Page) (h : s.isPage p = true) (hd : p.kind ≠ .pageDirectory) : headed p.kind = true := by
  unfold State.isPage at h
  have e := State.pageAt_headed s (pageBase p)
  rw [beq_iff_eq] at h
  rw [h] at e
  simpa [headedHit, hd] using e

end Sys2Proof.Machine
end

