-- ==== Sys2Proof/Laws/Cells.lean ====
section
/-! SUPPORT. Laws of the byte lists and of device memory: read after write, what a write leaves alone, and that every memory operation keeps the canonical form. -/

namespace Sys2Proof.Machine

/-! ### Lists of cells -/

theorem cellsFrom_mono {l : List Host.Cell} {lo lo' : Nat} (h : cellsFrom l lo = true) (hl : lo' ≤ lo) : cellsFrom l lo' = true := by
  cases l with
  | nil => rfl
  | cons c t => simp [cellsFrom] at h ⊢; exact ⟨by omega, h.2⟩

theorem cellsFrom_mem {l : List Host.Cell} {lo : Nat} (h : cellsFrom l lo = true) : ∀ c ∈ l, lo ≤ c.1 := by
  induction l generalizing lo with
  | nil => simp
  | cons d t ih =>
    simp [cellsFrom] at h
    intro c hc
    rcases List.mem_cons.1 hc with rfl | hc
    · exact h.1
    · have := ih h.2 c hc; omega

theorem cellFind_below {l : List Host.Cell} {lo a : Nat} (h : cellsFrom l lo = true) (ha : a < lo) : cellFind l a = none := by
  induction l generalizing lo with
  | nil => rfl
  | cons d t ih =>
    simp [cellsFrom] at h
    have : ¬d.1 = a := by omega
    simp only [cellFind, this, if_false]
    exact ih h.2 (by omega)

/-- A byte put keeps the order. -/
theorem cellsFrom_put {l : List Host.Cell} {lo a : Nat} (b : Byte) (h : cellsFrom l lo = true) (ha : lo ≤ a) :
    cellsFrom (cellPut l a b) lo = true := by
  induction l generalizing lo with
  | nil => simp [cellPut, cellsFrom, ha]
  | cons d t ih =>
    simp [cellsFrom] at h
    simp only [cellPut]
    split
    · simp [cellsFrom, ha, h.2]; omega
    · split
      · rename_i h1 h2; simp [cellsFrom, ha]; rw [h2]; exact h.2
      · simp [cellsFrom, h.1]; exact ih h.2 (by omega)

/-- Reading the address just put gives the byte. -/
@[simp] theorem cellFind_put_same (l : List Host.Cell) (a : Nat) (b : Byte) : cellFind (cellPut l a b) a = some b := by
  induction l with
  | nil => simp [cellPut, cellFind]
  | cons d t ih =>
    simp only [cellPut]
    split
    · simp [cellFind]
    · split
      · simp [cellFind]
      · rename_i h1 h2; simp [cellFind, Ne.symm h2, ih]

/-- A byte put leaves every other address alone. -/
theorem cellFind_put_ne (l : List Host.Cell) {a c : Nat} (b : Byte) (h : c ≠ a) : cellFind (cellPut l a b) c = cellFind l c := by
  induction l with
  | nil => simp [cellPut, cellFind, Ne.symm h]
  | cons d t ih =>
    simp only [cellPut]
    split
    · simp [cellFind, Ne.symm h]
    · split
      · rename_i h1 h2; subst h2; simp [cellFind, Ne.symm h]
      · simp only [cellFind, ih]

theorem cellPut_mem {l : List Host.Cell} {a : Nat} {b : Byte} {c : Host.Cell} (h : c ∈ cellPut l a b) : c = (a, b) ∨ c ∈ l := by
  induction l with
  | nil => simp [cellPut] at h; exact Or.inl h
  | cons d t ih =>
    simp only [cellPut] at h
    split at h
    · simpa using h
    · split at h
      · rcases List.mem_cons.1 h with h | h
        · exact Or.inl h
        · exact Or.inr (List.mem_cons_of_mem _ h)
      · rcases List.mem_cons.1 h with h | h
        · exact Or.inr (by subst h; exact List.mem_cons_self)
        · rcases ih h with h | h
          · exact Or.inl h
          · exact Or.inr (List.mem_cons_of_mem _ h)

/-- Dropping addresses keeps the order. -/
theorem cellsFrom_drop {l : List Host.Cell} {lo : Nat} (p : Nat → Bool) (h : cellsFrom l lo = true) : cellsFrom (cellDrop l p) lo = true := by
  induction l generalizing lo with
  | nil => rfl
  | cons d t ih =>
    simp [cellsFrom] at h
    unfold cellDrop at ih ⊢
    by_cases hp : p d.1 = true
    · rw [List.filter_cons_of_neg (by simp [hp])]
      exact cellsFrom_mono (ih h.2) (by omega)
    · rw [List.filter_cons_of_pos (by simp [hp])]
      simp [cellsFrom, h.1]
      simpa using ih h.2

theorem cellFind_drop (l : List Host.Cell) (p : Nat → Bool) (a : Nat) :
    cellFind (cellDrop l p) a = if p a then none else cellFind l a := by
  induction l with
  | nil => simp [cellDrop, cellFind]
  | cons d t ih =>
    unfold cellDrop at ih ⊢
    by_cases hp : p d.1 = true
    · rw [List.filter_cons_of_neg (by simp [hp]), ih]
      by_cases hd : d.1 = a
      · subst hd; simp [hp]
      · simp [cellFind, hd]
    · rw [List.filter_cons_of_pos (by simp [hp])]
      by_cases hd : d.1 = a
      · subst hd; simp [cellFind, hp]
      · simp only [cellFind, hd, if_false, ih]

theorem cellDrop_mem {l : List Host.Cell} {p : Nat → Bool} {c : Host.Cell} : c ∈ cellDrop l p ↔ c ∈ l ∧ p c.1 = false := by
  simp [cellDrop]

/-! ### Bytes of device memory -/

theorem MemSt.wf_iff {m : MemSt} : m.wf = true ↔ cellsFrom m.cells 0 = true ∧ ∀ c ∈ m.cells, m.unlisted c.1 ≠ some c.2 := by
  simp [MemSt.wf]

/-- What an unlisted byte reads as depends on the scrubbed bridges and the undefined lines only. -/
theorem MemSt.unlisted_congr {m n : MemSt} {a : Nat} (h1 : m.zeroed.contains (homeOf a) = n.zeroed.contains (homeOf a))
    (h2 : Tab.find? m.undef (lineOf a) = Tab.find? n.undef (lineOf a)) : m.unlisted a = n.unlisted a := by
  unfold MemSt.unlisted; rw [h1, h2]

/-- A byte stored reads back. -/
theorem MemSt.raw_setByte_same (m : MemSt) (a : Nat) (b : Byte) : (m.setByte a b).raw a = some b := by
  unfold MemSt.setByte
  split
  · rename_i h
    simp only [MemSt.raw, cellFind_drop]
    simpa [MemSt.unlisted] using h
  · simp [MemSt.raw]

@[simp] theorem MemSt.byte_setByte_same (m : MemSt) (a : Nat) (b : Byte) : (m.setByte a b).byte a = b := by
  simp [MemSt.byte, MemSt.raw_setByte_same]

theorem MemSt.genOf_setByte (m : MemSt) (a c : Nat) (b : Byte) : (m.setByte a b).genOf c = m.genOf c := by
  unfold MemSt.setByte; split <;> rfl

/-- A byte stored leaves every other byte alone. -/
theorem MemSt.byte_setByte_ne (m : MemSt) {a c : Nat} (b : Byte) (h : c ≠ a) : (m.setByte a b).byte c = m.byte c := by
  have e : (m.setByte a b).raw c = m.raw c := by
    unfold MemSt.setByte
    split
    · simp [MemSt.raw, cellFind_drop, h, MemSt.unlisted]
    · simp [MemSt.raw, cellFind_put_ne _ _ h, MemSt.unlisted]
  simp [MemSt.byte, e, MemSt.genOf_setByte]

/-- Storing a byte keeps the canonical form. -/
theorem MemSt.wf_setByte {m : MemSt} (h : m.wf = true) (a : Nat) (b : Byte) : (m.setByte a b).wf = true := by
  rw [MemSt.wf_iff] at h ⊢
  unfold MemSt.setByte
  split
  · refine ⟨cellsFrom_drop (· == a) h.1, fun c hc => ?_⟩
    exact h.2 c (cellDrop_mem (p := (· == a)).1 hc).1
  · rename_i hb
    refine ⟨cellsFrom_put b h.1 (Nat.zero_le _), fun c hc => ?_⟩
    rcases cellPut_mem hc with rfl | hc
    · exact hb
    · exact h.2 c hc

theorem MemSt.wf_setBytes {m : MemSt} (h : m.wf = true) (a : Nat) (l : List Byte) : (m.setBytes a l).wf = true := by
  induction l generalizing m a with
  | nil => exact h
  | cons b t ih => exact ih (MemSt.wf_setByte h a b) (a + 1)

/-- Bytes stored leave every byte outside them alone. -/
theorem MemSt.byte_setBytes_out (m : MemSt) (a c : Nat) (l : List Byte) (h : c < a ∨ a + l.length ≤ c) :
    (m.setBytes a l).byte c = m.byte c := by
  induction l generalizing m a with
  | nil => rfl
  | cons b t ih =>
    simp only [MemSt.setBytes, List.length_cons] at h ⊢
    rw [ih _ _ (by omega), MemSt.byte_setByte_ne _ _ (by omega)]

/-- Bytes stored read back. -/
theorem MemSt.byte_setBytes_in (m : MemSt) (a i : Nat) (l : List Byte) (h : i < l.length) :
    (m.setBytes a l).byte (a + i) = l[i] := by
  induction l generalizing m a i with
  | nil => simp at h
  | cons b t ih =>
    simp only [MemSt.setBytes]
    cases i with
    | zero => simp only [Nat.add_zero]; rw [MemSt.byte_setBytes_out _ _ _ _ (by omega)]; simp
    | succ i =>
      simp only [List.length_cons] at h
      have := ih (m.setByte a b) (a + 1) i (by omega)
      rw [show a + (i + 1) = a + 1 + i by omega, this]; simp

/-- Taking addresses away keeps the canonical form when the others read as before. -/
theorem MemSt.wf_drop {m n : MemSt} {p : Nat → Bool} (h : m.wf = true) (hc : n.cells = cellDrop m.cells p)
    (hu : ∀ a, p a = false → n.unlisted a = m.unlisted a) : n.wf = true := by
  rw [MemSt.wf_iff] at h ⊢
  rw [hc]
  refine ⟨cellsFrom_drop _ h.1, fun c hm => ?_⟩
  have := cellDrop_mem.1 hm
  rw [hu _ this.2]
  exact h.2 c this.1

/-- Marks, tags, the cache and the counters beside the bytes do not enter the canonical form. -/
theorem MemSt.wf_congr {m n : MemSt} (hc : n.cells = m.cells) (hz : n.zeroed = m.zeroed) (hu : n.undef = m.undef) : n.wf = m.wf := by
  unfold MemSt.wf MemSt.unlisted; rw [hc, hz, hu]

theorem MemSt.wf_storeLine {m : MemSt} (h : m.wf = true) (l : Nat) (d : List Byte) (p r : Bool) : (m.storeLine l d p r).wf = true := by
  unfold MemSt.storeLine
  refine (MemSt.wf_congr rfl rfl rfl).trans (MemSt.wf_setBytes ?_ _ _)
  refine MemSt.wf_drop (p := fun a => lineOf a == l) h rfl fun a ha => MemSt.unlisted_congr rfl ?_
  simp only [Tab.find?_del]
  rw [if_neg (by simpa using ha)]

theorem MemSt.wf_patchLine {m : MemSt} (h : m.wf = true) (l first : Nat) (d : List Byte) (p r : Bool) :
    (m.patchLine l first d p r).wf = true := by
  unfold MemSt.patchLine
  exact (MemSt.wf_congr rfl rfl rfl).trans (MemSt.wf_setBytes h _ _)

theorem MemSt.wf_loseLine {m : MemSt} (h : m.wf = true) (l : Nat) : (m.loseLine l).wf = true := by
  refine MemSt.wf_drop (p := fun a => lineOf a == l) h rfl fun a ha => MemSt.unlisted_congr rfl ?_
  exact Tab.find?_put_ne _ _ (by simpa using ha)

theorem lineHome_lineOf (a : Nat) : lineHome (lineOf a) = homeOf a := by
  unfold lineHome lineOf homeOf bits
  rw [show (2 : Nat) ^ 40 = 64 * 2 ^ 34 by norm_num, ← Nat.div_div_eq_div_mul, ← Nat.div_div_eq_div_mul]
  simp

theorem contains_setMark (l : List Nat) (x y : Nat) (on : Bool) (h : y ≠ x) : (setMark l x on).contains y = l.contains y := by
  unfold setMark
  split
  · split
    · rfl
    · simp [h]
  · rw [Bool.eq_iff_iff]; simp [h]

theorem MemSt.wf_scrub {m : MemSt} (h : m.wf = true) (b : Nat) : (m.scrub b).wf = true := by
  refine MemSt.wf_drop (p := fun a => homeOf a == b) h rfl fun a ha => ?_
  have hb : homeOf a ≠ b := by simpa using ha
  refine MemSt.unlisted_congr (contains_setMark m.zeroed b _ true hb) ?_
  simp only [MemSt.scrub, Tab.find?_delIf, lineHome_lineOf]
  simp [hb]

theorem MemSt.wf_forget {m : MemSt} (h : m.wf = true) (b : Nat) : (m.forget b).wf = true := by
  refine MemSt.wf_drop (p := fun a => homeOf a == b) h rfl fun a ha => ?_
  have hb : homeOf a ≠ b := by simpa using ha
  refine MemSt.unlisted_congr (contains_setMark m.zeroed b _ false hb) ?_
  simp only [MemSt.forget, Tab.find?_delIf, lineHome_lineOf]
  simp [hb]

/-! ### Local stores -/

theorem cellsFrom_cellsPut {l : List Host.Cell} (h : cellsFrom l 0 = true) (a : Nat) (bs : List Byte) : cellsFrom (cellsPut l a bs) 0 = true := by
  induction bs generalizing l a with
  | nil => exact h
  | cons b t ih => exact ih (cellsFrom_put b h (Nat.zero_le _)) (a + 1)

theorem cellFind_cellsPut_out (l : List Host.Cell) (a c : Nat) (bs : List Byte) (h : c < a ∨ a + bs.length ≤ c) :
    cellFind (cellsPut l a bs) c = cellFind l c := by
  induction bs generalizing l a with
  | nil => rfl
  | cons b t ih =>
    simp only [cellsPut, List.length_cons] at h ⊢
    rw [ih _ _ (by omega), cellFind_put_ne _ _ (by omega)]

end Sys2Proof.Machine
end

