-- ==== Sys2Proof/Laws/Energy.lean ====
section
/-! SUPPORT. The island's record frame: every operation and every command outside the metering island, the keeper's stop and VAUX_LOW
leaves the island's record as it was. One lemma per operation, named after it. -/

set_option linter.all false

namespace Sys2Proof.Machine

theorem foldl_isl {β : Type} (f : State → β → State) (h : ∀ s a, (f s a).isl = s.isl) (l : List β) (s : State) :
    (l.foldl f s).isl = s.isl := by
  induction l generalizing s with
  | nil => rfl
  | cons a t ih => rw [List.foldl_cons, ih, h]
theorem foldlP_isl {β γ : Type} (f : State × γ → β → State × γ) (h : ∀ s c a, (f (s,c) a).1.isl = s.isl) (l : List β) (x : State × γ) :
    (l.foldl f x).1.isl = x.1.isl := by
  induction l generalizing x with
  | nil => rfl
  | cons a t ih => rw [List.foldl_cons, ih, ← h x.1 x.2 a]
@[simp] theorem State.onceDo_isl (s : State) (k : Nat × Nat × Nat) (f : State → State) (hf : ∀ (u : State), (f u).isl = u.isl) : (State.onceDo s k f).isl = s.isl := by
  simp -implicitDefEqProofs only [State.onceDo, hf, apply_ite State.isl, ite_self]
@[simp] theorem State.onBar_isl (s : State) (f : State → State) (hf : ∀ (u : State), (f u).isl = u.isl) : (State.onBar s f).isl = s.isl := by
  simp -implicitDefEqProofs only [State.onBar, hf, apply_ite State.isl, ite_self]
@[simp] theorem State.stage_isl (s : State) (p : Page) (k : FieldKey) (v : Nat) : (State.stage s p k v).isl = s.isl := by
  simp -implicitDefEqProofs only [State.stage, State.setStaging_isl]
@[simp] theorem State.applyOne_isl (s : State) (k : FieldKey) (v : Nat) : (State.applyOne s k v).isl = s.isl := by
  (simp -implicitDefEqProofs only [State.applyOne]; (repeat' split) <;> (first | (with_reducible rfl) | simp -implicitDefEqProofs only [State.put_isl, State.common_isl, apply_ite State.isl, ite_self]))
@[simp] theorem State.applySet_isl (s : State) (p : Page) (set : List (FieldKey × Nat)) : (State.applySet s p set).isl = s.isl := by
  simp -implicitDefEqProofs only [State.applySet, State.put_isl, State.applyOne_isl, foldl_isl, foldlP_isl, implies_true]
@[simp] theorem State.tickPage_isl (s : State) (p : Page) : (State.tickPage s p).isl = s.isl := by
  (simp -implicitDefEqProofs only [State.tickPage]; (repeat' split) <;> (first | (with_reducible rfl) | simp -implicitDefEqProofs only [State.setStaging_isl, State.applySet_isl]))
@[simp] theorem State.flushPage_isl (s : State) (p : Page) : (State.flushPage s p).isl = s.isl := by
  simp -implicitDefEqProofs only [State.flushPage, State.setStaging_isl, State.applySet_isl, foldl_isl, foldlP_isl, implies_true]
@[simp] theorem State.dueSets_isl (s : State) (b : Nat) : (State.dueSets s b).isl = s.isl := by
  simp -implicitDefEqProofs only [State.dueSets, apply_ite State.isl, ite_self]
@[simp] theorem State.halt_isl (s : State) (p : Page) : (State.halt s p).isl = s.isl := by
  simp -implicitDefEqProofs only [State.halt, State.put_isl]
@[simp] theorem State.endStops_isl (s : State) (b : Nat) : (State.endStops s b).isl = s.isl := by
  simp -implicitDefEqProofs only [State.endStops, State.halt_isl, foldl_isl, foldlP_isl, implies_true]
@[simp] theorem State.lockedOut_isl (s : State) (p : Page) (off : Nat) (value : Nat) : (State.lockedOut s p off value).isl = s.isl := by
  simp -implicitDefEqProofs only [State.lockedOut, State.put_isl, State.common_isl]
@[simp] theorem State.hostWriteL_isl (s : State) (p : Page) (off : Nat) (value : Nat) (f : State → State) (hf : ∀ (u : State), (f u).isl = u.isl) : (State.hostWriteL s p off value f).isl = s.isl := by
  simp -implicitDefEqProofs only [State.hostWriteL, State.onBar_isl, State.lockedOut_isl, hf, implies_true, apply_ite State.isl, ite_self]
@[simp] theorem State.doCommit_isl (s : State) (p : Page) : (State.doCommit s p).isl = s.isl := by
  simp -implicitDefEqProofs only [State.doCommit, State.put_isl, State.common_isl, State.setStaging_isl, apply_ite State.isl, ite_self]
@[simp] theorem State.doAbort_isl (s : State) (p : Page) : (State.doAbort s p).isl = s.isl := by
  simp -implicitDefEqProofs only [State.doAbort, State.setStaging_isl]
@[simp] theorem State.doLock_isl (s : State) (p : Page) : (State.doLock s p).isl = s.isl := by
  simp -implicitDefEqProofs only [State.doLock, State.put_isl, State.doAbort_isl]
@[simp] theorem State.doUnlock_isl (s : State) (p : Page) : (State.doUnlock s p).isl = s.isl := by
  simp -implicitDefEqProofs only [State.doUnlock, State.put_isl]
@[simp] theorem State.refuse_isl (s : State) (p : Page) (st : Nat) (code : Nat) (path : Path) (arg : Nat) : (State.refuse s p st code path arg).isl = s.isl := by
  simp -implicitDefEqProofs only [State.refuse, State.common_isl, State.reply_isl, apply_ite State.isl, ite_self]
@[simp] theorem State.countFault_isl (s : State) (a : Nat) : (State.countFault s a).isl = s.isl := by
  simp -implicitDefEqProofs only [State.countFault, State.put_isl, State.bump_isl, State.raise_isl]
@[simp] theorem State.overdraw_isl (s : State) (b : Nat) (key : Nat) (fld : Fld) (idx : Nat) (n : Nat) (bit : Nat) : (State.overdraw s b key fld idx n bit).isl = s.isl := by
  simp -implicitDefEqProofs only [State.overdraw, State.put_isl, State.bump_isl, State.raise_isl, State.setMem_isl, apply_ite State.isl, ite_self]
@[simp] theorem State.moved_isl (s : State) (b : Nat) (cls : Nat) (bed : Nat) : (State.moved s b cls bed).isl = s.isl := by
  simp -implicitDefEqProofs only [State.moved, State.put_isl, State.setMem_isl, State.overdraw_isl, apply_ite State.isl, ite_self]
@[simp] theorem State.serveOver_isl (s : State) (b : Nat) (cls : Nat) (bed : Nat) : (State.serveOver s b cls bed).isl = s.isl := by
  simp -implicitDefEqProofs only [State.serveOver, State.setMem_isl, State.moved_isl, apply_ite State.isl, ite_self]
@[simp] theorem State.delayOver_isl (s : State) (b : Nat) (cls : Nat) (bed : Nat) : (State.delayOver s b cls bed).isl = s.isl := by
  simp -implicitDefEqProofs only [State.delayOver, State.put_isl, State.setMem_isl]
@[simp] theorem State.meter_isl (s : State) (b : Nat) (cls : Nat) (bed : Nat) : (State.meter s b cls bed).isl = s.isl := by
  simp -implicitDefEqProofs only [State.meter]
  repeat' split
  all_goals first
    | exact State.moved_isl ..
    | exact State.delayOver_isl ..
    | exact State.serveOver_isl ..
    | exact (State.delayOver_isl ..).trans rfl
    | exact (State.serveOver_isl ..).trans rfl
    | rfl
@[simp] theorem State.meterN_isl (s : State) (b : Nat) (cls : Nat) (bed : Nat) (z0 : Nat) : (State.meterN s b cls bed z0).isl = s.isl := by
  induction z0 generalizing s with
  | zero => rfl
  | succ n ih => rw [State.meterN.eq_def]; dsimp only; rw [ih, State.meter_isl]
@[simp] theorem State.clipWaiting_isl (s : State) (b : Nat) : (State.clipWaiting s b).isl = s.isl := by
  simp -implicitDefEqProofs only [State.clipWaiting, State.setMem_isl, State.overdraw_isl, State.meterN_isl, foldl_isl, foldlP_isl, implies_true]
@[simp] theorem State.corrected_isl (s : State) (mc : Nat) : (State.corrected s mc).isl = s.isl := by
  simp -implicitDefEqProofs only [State.corrected, State.bump_isl, State.raise_isl]
@[simp] theorem State.uncorrectable_isl (s : State) (a : Nat) : (State.uncorrectable s a).isl = s.isl := by
  simp -implicitDefEqProofs only [State.uncorrectable, State.put_isl, State.bump_isl, State.raise_isl, State.setMem_isl]
@[simp] theorem State.stackRead_isl (s : State) (a : Nat) (err : LineErr) : (State.stackRead s a err).1.isl = s.isl := by
  (simp -implicitDefEqProofs only [State.stackRead]; (repeat' split) <;> (first | (with_reducible rfl) | simp -implicitDefEqProofs only [State.corrected_isl, State.uncorrectable_isl, apply_ite State.isl, ite_self]))
@[simp] theorem State.stackWrite_isl (s : State) (a : Nat) (data : List Byte) (poison : Bool) (rel : Bool) : (State.stackWrite s a data poison rel).isl = s.isl := by
  simp -implicitDefEqProofs only [State.stackWrite, State.setMem_isl, apply_ite State.isl, ite_self]
@[simp] theorem State.stackPatch_isl (s : State) (a : Nat) (first : Nat) (data : List Byte) (poison : Bool) (rel : Bool) : (State.stackPatch s a first data poison rel).isl = s.isl := by
  simp -implicitDefEqProofs only [State.stackPatch, State.setMem_isl, apply_ite State.isl, ite_self]
@[simp] theorem State.setCache_isl (s : State) (l : Nat) (c : CacheLine) : (State.setCache s l c).isl = s.isl := by
  simp -implicitDefEqProofs only [State.setCache, State.put_isl, State.setMem_isl]
@[simp] theorem State.freeCache_isl (s : State) (l : Nat) : (State.freeCache s l).isl = s.isl := by
  simp -implicitDefEqProofs only [State.freeCache, State.setMem_isl]
@[simp] theorem State.dalFree_isl (s : State) (l : Nat) : (State.dalFree s l).isl = s.isl := by
  simp -implicitDefEqProofs only [State.dalFree, State.bump_isl, State.setMem_isl, State.freeCache_isl]
@[simp] theorem State.releaseLine_isl (s : State) (l : Nat) : (State.releaseLine s l).isl = s.isl := by
  (simp -implicitDefEqProofs only [State.releaseLine]; (repeat' split) <;> (first | (with_reducible rfl) | simp -implicitDefEqProofs only [State.stackWrite_isl, State.freeCache_isl, apply_ite State.isl, ite_self]))
@[simp] theorem State.staleLine_isl (s : State) (l : Nat) (c : CacheLine) : (State.staleLine s l c).isl = s.isl := by
  simp -implicitDefEqProofs only [State.staleLine, State.meter_isl, State.releaseLine_isl, apply_ite State.isl, ite_self]
@[simp] theorem State.dropLine_isl (s : State) (l : Nat) : (State.dropLine s l).isl = s.isl := by
  (simp -implicitDefEqProofs only [State.dropLine]; (repeat' split) <;> (first | (with_reducible rfl) | simp -implicitDefEqProofs only [State.setMem_isl, State.freeCache_isl]))
@[simp] theorem State.refused_isl (s : State) (b : Nat) : (State.refused s b).isl = s.isl := by
  simp -implicitDefEqProofs only [State.refused, State.bump_isl, State.raise_isl]
@[simp] theorem State.useLine_isl (s : State) (l : Nat) (c : CacheLine) : (State.useLine s l c).isl = s.isl := by
  (simp -implicitDefEqProofs only [State.useLine]; (repeat' split) <;> (first | (with_reducible rfl) | simp -implicitDefEqProofs only [State.setCache_isl, State.dalFree_isl, apply_ite State.isl, ite_self]))
@[simp] theorem State.serveHit_isl (s : State) (r : MemReq) (err : LineErr) (c : CacheLine) : (State.serveHit s r err c).1.isl = s.isl := by
  (simp -implicitDefEqProofs only [State.serveHit]; (repeat' split) <;> (first | (with_reducible rfl) | simp -implicitDefEqProofs only [State.raise_isl, State.uncorrectable_isl, State.setCache_isl, State.useLine_isl, apply_ite State.isl, ite_self]))
@[simp] theorem State.serveMiss_isl (s : State) (r : MemReq) (d : List Byte) (p : Bool) : (State.serveMiss s r d p).isl = s.isl := by
  simp -implicitDefEqProofs only [State.serveMiss, State.setCache_isl, State.dalFree_isl, State.refused_isl, apply_ite State.isl, ite_self]
@[simp] theorem State.serveRead_isl (s : State) (r : MemReq) (err : LineErr) : (State.serveRead s r err).1.isl = s.isl := by
  (simp -implicitDefEqProofs only [State.serveRead]; (repeat' split) <;> (first | (with_reducible rfl) | simp -implicitDefEqProofs only [State.bump_isl, State.meter_isl, State.stackRead_isl, State.serveHit_isl, State.serveMiss_isl]))
@[simp] theorem State.serveWrite_isl (s : State) (r : MemReq) (first : Nat) (data : List Byte) (poison : Bool) (rel : Bool) : (State.serveWrite s r first data poison rel).isl = s.isl := by
  (simp -implicitDefEqProofs only [State.serveWrite]; (repeat' split) <;> (first | (with_reducible rfl) | simp -implicitDefEqProofs only [State.bump_isl, State.meter_isl, State.stackRead_isl, State.stackWrite_isl, State.stackPatch_isl, State.setCache_isl, State.refused_isl, apply_ite State.isl, ite_self]))
@[simp] theorem State.denyRead_isl (s : State) (a : Nat) (first : Bool) : (State.denyRead s a first).isl = s.isl := by
  simp -implicitDefEqProofs only [State.denyRead, State.put_isl, State.bump_isl, State.evt_isl, State.raise_isl, State.setMem_isl, apply_ite State.isl, ite_self]
@[simp] theorem State.denyWrite_isl (s : State) (a : Nat) (kind : Nat) : (State.denyWrite s a kind).isl = s.isl := by
  simp -implicitDefEqProofs only [State.denyWrite, State.put_isl, State.bump_isl, State.record_isl, State.setMem_isl, apply_ite State.isl, ite_self]
@[simp] theorem State.readLine_isl (s : State) (r : MemReq) (err : LineErr) (first : Bool) : (State.readLine s r err first).1.isl = s.isl := by
  (simp -implicitDefEqProofs only [State.readLine]; (repeat' split) <;> (first | (with_reducible rfl) | simp -implicitDefEqProofs only [State.countFault_isl, State.serveRead_isl, State.denyRead_isl, apply_ite State.isl, ite_self]))
@[simp] theorem State.writeLine_isl (s : State) (r : MemReq) (first : Nat) (data : List Byte) (poison : Bool) (rel : Bool) : (State.writeLine s r first data poison rel).isl = s.isl := by
  simp -implicitDefEqProofs only [State.writeLine, State.countFault_isl, State.serveWrite_isl, apply_ite State.isl, ite_self]
@[simp] theorem State.readSpan_isl (s : State) (r : MemReq) (n : Nat) : (State.readSpan s r n).1.isl = s.isl := by
  simp -implicitDefEqProofs only [State.readSpan, State.readLine_isl, foldl_isl, foldlP_isl, implies_true, apply_ite State.isl, ite_self]
@[simp] theorem State.writeSpan_isl (s : State) (r : MemReq) (data : List Byte) (poison : Bool) (rel : Bool) : (State.writeSpan s r data poison rel).isl = s.isl := by
  simp -implicitDefEqProofs only [State.writeSpan, State.writeLine_isl, foldl_isl, foldlP_isl, implies_true]
@[simp] theorem State.hostRead_isl (s : State) (part : Nat) (a : Nat) (err : LineErr) (first : Bool) : (State.hostRead s part a err first).1.isl = s.isl := by
  (simp -implicitDefEqProofs only [State.hostRead]; (repeat' split) <;> (first | (with_reducible rfl) | simp -implicitDefEqProofs only [State.countFault_isl, State.readLine_isl, apply_ite State.isl, ite_self]))
@[simp] theorem State.hostWrite_isl (s : State) (part : Nat) (a : Nat) (first : Nat) (data : List Byte) (poison : Bool) (sealed : Bool) (kind : Nat) : (State.hostWrite s part a first data poison sealed kind).isl = s.isl := by
  simp -implicitDefEqProofs only [State.hostWrite, State.countFault_isl, State.denyWrite_isl, State.writeLine_isl, apply_ite State.isl, ite_self]
@[simp] theorem State.hold_isl (s : State) (w : HostWait) : (State.hold s w).isl = s.isl := by
  simp -implicitDefEqProofs only [State.hold]
@[simp] theorem State.serveHost_isl (s : State) (w : HostWait) : (State.serveHost s w).isl = s.isl := by
  (simp -implicitDefEqProofs only [State.serveHost]; (repeat' split) <;> (first | (with_reducible rfl) | simp -implicitDefEqProofs only [State.answer_isl, State.hostRead_isl, State.hostWrite_isl, apply_ite State.isl, ite_self]))
@[simp] theorem State.serveWaits_isl (s : State) : (State.serveWaits s).isl = s.isl := by
  simp -implicitDefEqProofs only [State.serveWaits, State.serveHost_isl, foldl_isl, foldlP_isl, implies_true]
@[simp] theorem State.copyLists_isl (s : State) (b : Nat) (slot : Nat) : (State.copyLists s b slot).isl = s.isl := by
  simp -implicitDefEqProofs only [State.copyLists, State.readSpan_isl]
@[simp] theorem State.localPut_isl (s : State) (c : Nat) (a : Nat) (bs : List Byte) : (State.localPut s c a bs).isl = s.isl := by
  simp -implicitDefEqProofs only [State.localPut]
@[simp] theorem State.setSlot_isl (s : State) (c : Nat) (k : Nat) (m : SlotMeta) : (State.setSlot s c k m).isl = s.isl := by
  simp -implicitDefEqProofs only [State.setSlot, State.put_isl, State.setCores_isl]
@[simp] theorem State.freeSlots_isl (s : State) (c : Nat) (k : Nat) (d : Desc) : (State.freeSlots s c k d).isl = s.isl := by
  simp -implicitDefEqProofs only [State.freeSlots, State.setSlot_isl, foldl_isl, foldlP_isl, implies_true]
@[simp] theorem State.abandon_isl (s : State) (c : Nat) (k : Nat) (n : Nat) : (State.abandon s c k n).isl = s.isl := by
  simp -implicitDefEqProofs only [State.abandon, State.setSlot_isl, foldl_isl, foldlP_isl, implies_true]
@[simp] theorem State.compUp_isl (s : State) (c : Nat) (x : Nat) : (State.compUp s c x).isl = s.isl := by
  simp -implicitDefEqProofs only [State.compUp, State.put_isl, State.setCores_isl]
@[simp] theorem State.taint_isl (s : State) (c : Nat) (x : Nat) : (State.taint s c x).isl = s.isl := by
  simp -implicitDefEqProofs only [State.taint, State.setCores_isl, apply_ite State.isl, ite_self]
@[simp] theorem State.setCursor_isl (s : State) (c : Nat) (e : Nat) (k : Nat) : (State.setCursor s c e k).isl = s.isl := by
  simp -implicitDefEqProofs only [State.setCursor, State.put_isl, State.setCores_isl]
@[simp] theorem State.onCores_isl (s : State) (b : Nat) (g : State → Nat → State) (hg : ∀ (u : State) (w1 : Nat), (g u w1).isl = u.isl) : (State.onCores s b g).isl = s.isl := by
  simp -implicitDefEqProofs only [State.onCores, hg, foldl_isl, foldlP_isl, implies_true, apply_ite State.isl, ite_self]
@[simp] theorem State.release_isl (s : State) (c : Nat) (r : Released) : (State.release s c r).isl = s.isl := by
  simp -implicitDefEqProofs only [State.release, State.put_isl, State.setCores_isl]
@[simp] theorem State.poisonNorms_isl (s : State) (n : Nat) (m : MatBlk) : (State.poisonNorms s n m).isl = s.isl := by
  simp -implicitDefEqProofs only [State.poisonNorms, State.localPut_isl, foldl_isl, foldlP_isl, implies_true]
@[simp] theorem State.skipMatrix_isl (s : State) (b : Nat) (c : Nat) (arm : Option Nat) (m : MatBlk) : (State.skipMatrix s b c arm m).isl = s.isl := by
  simp -implicitDefEqProofs only [State.skipMatrix, State.abandon_isl, State.release_isl, State.poisonNorms_isl, apply_ite State.isl, ite_self]
@[simp] theorem State.skipEntry_isl (s : State) (b : Nat) (c : Nat) (e : Nat) (i : Issue) : (State.skipEntry s b c e i).isl = s.isl := by
  simp -implicitDefEqProofs only [State.skipEntry, State.bump_isl, State.skipMatrix_isl, apply_ite State.isl, ite_self]
@[simp] theorem State.skipEngine_isl (s : State) (b : Nat) (c : Nat) (e : Nat) : (State.skipEngine s b c e).isl = s.isl := by
  simp -implicitDefEqProofs only [State.skipEngine, State.setCursor_isl, State.skipEntry_isl, foldl_isl, foldlP_isl, implies_true]
@[simp] theorem State.skipXfer_isl (s : State) (b : Nat) (c : Nat) (x : Nat) : (State.skipXfer s b c x).isl = s.isl := by
  simp -implicitDefEqProofs only [State.skipXfer, State.bump_isl, State.compUp_isl, State.taint_isl]
@[simp] theorem State.skipXfers_isl (s : State) (b : Nat) (c : Nat) (x : Nat) : (State.skipXfers s b c x).isl = s.isl := by
  simp -implicitDefEqProofs only [State.skipXfers, State.put_isl, State.setCores_isl, State.skipXfer_isl, foldl_isl, foldlP_isl, implies_true]
@[simp] theorem State.skipFrame_isl (s : State) (b : Nat) : (State.skipFrame s b).isl = s.isl := by
  simp -implicitDefEqProofs only [State.skipFrame, State.onCores_isl, State.skipEngine_isl, State.skipXfers_isl, foldl_isl, foldlP_isl, implies_true]
@[simp] theorem State.stopEngine_isl (s : State) (b : Nat) (c : Nat) (e : Nat) : (State.stopEngine s b c e).isl = s.isl := by
  (simp -implicitDefEqProofs only [State.stopEngine]; (repeat' split) <;> (first | (with_reducible rfl) | simp -implicitDefEqProofs only [State.put_isl, State.bump_isl, State.setCores_isl, State.skipMatrix_isl, apply_ite State.isl, ite_self]))
@[simp] theorem State.stopXfer_isl (s : State) (b : Nat) (c : Nat) (x : Nat) : (State.stopXfer s b c x).isl = s.isl := by
  simp -implicitDefEqProofs only [State.stopXfer, State.setCores_isl, State.skipXfer_isl, apply_ite State.isl, ite_self]
@[simp] theorem State.stopRunning_isl (s : State) (b : Nat) : (State.stopRunning s b).isl = s.isl := by
  simp -implicitDefEqProofs only [State.stopRunning, State.onCores_isl, State.stopEngine_isl, State.stopXfer_isl, foldl_isl, foldlP_isl, implies_true]
@[simp] theorem State.openFrame_isl (s : State) (b : Nat) : (State.openFrame s b).isl = s.isl := by
  simp -implicitDefEqProofs only [State.openFrame, State.setBed_isl, State.setCores_isl, apply_ite State.isl, ite_self]
@[simp] theorem State.openStep_isl (s : State) (b : Nat) : (State.openStep s b).isl = s.isl := by
  simp -implicitDefEqProofs only [State.openStep, State.put_isl, State.setCores_isl, State.taint_isl, foldl_isl, foldlP_isl, implies_true, apply_ite State.isl, ite_self]
@[simp] theorem State.ctxReset_isl (s : State) (b : Nat) (c : Nat) (x : Nat) (code : Nat) : (State.ctxReset s b c x code).isl = s.isl := by
  simp -implicitDefEqProofs (disch := (intros; (repeat' split) <;> try simp -implicitDefEqProofs only [State.put_isl, State.bump_isl, State.record_isl, State.setCores_isl, State.stopEngine_isl, foldl_isl, foldlP_isl, implies_true, apply_ite State.isl, ite_self])) only [State.ctxReset, State.put_isl, State.bump_isl, State.record_isl, State.setCores_isl, State.stopEngine_isl, foldl_isl, foldlP_isl, implies_true, apply_ite State.isl, ite_self]
@[simp] theorem State.setSeq_isl (s : State) (b : Nat) (st : Nat) : (State.setSeq s b st).isl = s.isl := by
  simp -implicitDefEqProofs only [State.setSeq, State.put_isl, State.dueSets_isl, State.endStops_isl, apply_ite State.isl, ite_self]
@[simp] theorem State.showArm_isl (s : State) (b : Nat) : (State.showArm s b).isl = s.isl := by
  simp -implicitDefEqProofs only [State.showArm, State.put_isl]
@[simp] theorem State.clearOrigin_isl (s : State) (b : Nat) : (State.clearOrigin s b).isl = s.isl := by
  simp -implicitDefEqProofs only [State.clearOrigin, State.put_isl, State.setBed_isl]
@[simp] theorem State.dropPending_isl (s : State) (b : Nat) : (State.dropPending s b).isl = s.isl := by
  (simp -implicitDefEqProofs only [State.dropPending]; (repeat' split) <;> (first | (with_reducible rfl) | (simp -implicitDefEqProofs [-List.foldl_cons, -List.foldl_nil, foldl_isl, foldlP_isl]; done) | (simp -implicitDefEqProofs (disch := (intros; (repeat' split) <;> try simp -implicitDefEqProofs [-List.foldl_cons, -List.foldl_nil, foldl_isl, foldlP_isl])) [-List.foldl_cons, -List.foldl_nil, foldl_isl, foldlP_isl]; done)))
@[simp] theorem State.cancelArmed_isl (s : State) (b : Nat) (st : Nat) (cause : Nat) : (State.cancelArmed s b st cause).isl = s.isl := by
  simp -implicitDefEqProofs only [State.cancelArmed, State.record_isl, State.setSeq_isl, State.dropPending_isl]
@[simp] theorem State.askUnits_isl (s : State) (b : Nat) : (State.askUnits s b).isl = s.isl := by
  simp -implicitDefEqProofs only [State.askUnits, foldl_isl, foldlP_isl, implies_true, apply_ite State.isl, ite_self]
@[simp] theorem State.holdBed_isl (s : State) (b : Nat) (cause : Nat) : (State.holdBed s b cause).isl = s.isl := by
  simp -implicitDefEqProofs only [State.holdBed, State.setBed_isl, State.skipFrame_isl, State.stopRunning_isl, State.setSeq_isl, State.dropPending_isl, State.cancelArmed_isl, State.askUnits_isl, apply_ite State.isl, ite_self]
@[simp] theorem State.holdBeds_isl (s : State) (l : List Nat) (cause : Nat) : (State.holdBeds s l cause).isl = s.isl := by
  simp -implicitDefEqProofs only [State.holdBeds, State.holdBed_isl, foldl_isl, foldlP_isl, implies_true]
@[simp] theorem State.idleBed_isl (s : State) (b : Nat) : (State.idleBed s b).isl = s.isl := by
  simp -implicitDefEqProofs only [State.idleBed, State.setBed_isl, State.skipFrame_isl, State.stopRunning_isl, State.setSeq_isl, State.showArm_isl, State.dropPending_isl, State.askUnits_isl]
@[simp] theorem State.unloadSlot_isl (s : State) (p : Nat) (k : Nat) : (State.unloadSlot s p k).isl = s.isl := by
  simp -implicitDefEqProofs only [State.unloadSlot, State.setBed_isl, State.showArm_isl, foldl_isl, foldlP_isl, implies_true, apply_ite State.isl, ite_self]
@[simp] theorem State.unloadAll_isl (s : State) (p : Nat) : (State.unloadAll s p).isl = s.isl := by
  simp -implicitDefEqProofs only [State.unloadAll, State.unloadSlot_isl, foldl_isl, foldlP_isl, implies_true]
@[simp] theorem State.leaveGroup_isl (s : State) (p : Nat) : (State.leaveGroup s p).isl = s.isl := by
  simp -implicitDefEqProofs only [State.leaveGroup, State.setPart_isl, apply_ite State.isl, ite_self]
@[simp] theorem State.leaveAll_isl (s : State) : (State.leaveAll s).isl = s.isl := by
  simp -implicitDefEqProofs only [State.leaveAll, State.leaveGroup_isl, foldl_isl, foldlP_isl, implies_true]
@[simp] theorem State.setDomains_isl (s : State) (w : Nat × Nat × Nat) : (State.setDomains s w).isl = s.isl := by
  simp -implicitDefEqProofs only [State.setDomains, State.put_isl]
@[simp] theorem State.setPower_isl (s : State) (p : PowerState) : (State.setPower s p).isl = s.isl := by
  simp -implicitDefEqProofs only [State.setPower, State.put_isl, State.setDomains_isl]
@[simp] theorem State.beginTransition_isl (s : State) (p : PowerState) (cause : Nat) : (State.beginTransition s p cause).isl = s.isl := by
  simp -implicitDefEqProofs only [State.beginTransition, State.put_isl]
@[simp] theorem State.enterHold_isl (s : State) (cause : Nat) : (State.enterHold s cause).isl = s.isl := by
  simp -implicitDefEqProofs only [State.enterHold, State.hold_isl, State.holdBeds_isl, State.leaveAll_isl, State.beginTransition_isl, apply_ite State.isl, ite_self]
@[simp] theorem State.dropStage_isl (s : State) (cause : Nat) : (State.dropStage s cause).isl = s.isl := by
  simp -implicitDefEqProofs only [State.dropStage, State.put_isl, State.setDomains_isl]
@[simp] theorem State.enterOff_isl (s : State) (cause : Nat) : (State.enterOff s cause).isl = s.isl := by
  simp -implicitDefEqProofs only [State.enterOff, State.holdBeds_isl, State.leaveAll_isl, State.beginTransition_isl, State.dropStage_isl, apply_ite State.isl, ite_self]
@[simp] theorem State.setPoint_isl (s : State) (p : Nat) : (State.setPoint s p).isl = s.isl := by
  simp -implicitDefEqProofs only [State.setPoint, State.put_isl]
@[simp] theorem State.floorCause_isl (s : State) (c : FloorCause) (cause : Nat) (code : Nat) (payload : List Byte) : (State.floorCause s c cause code payload).isl = s.isl := by
  simp -implicitDefEqProofs only [State.floorCause, State.put_isl, State.bump_isl, State.record_isl, State.evt_isl, State.raise_isl, State.hold_isl, State.setPower_isl, State.setPoint_isl, apply_ite State.isl, ite_self]
@[simp] theorem State.floorClear_isl (s : State) (c : FloorCause) : (State.floorClear s c).isl = s.isl := by
  simp -implicitDefEqProofs only [State.floorClear]
@[simp] theorem State.startScrub_isl (s : State) (b : Nat) : (State.startScrub s b).isl = s.isl := by
  simp -implicitDefEqProofs only [State.startScrub, State.put_isl, State.setMem_isl, State.unloadAll_isl, apply_ite State.isl, ite_self]
@[simp] theorem State.failDma_isl (s : State) (p : Nat) : (State.failDma s p).isl = s.isl := by
  simp -implicitDefEqProofs only [State.failDma, apply_ite State.isl, ite_self]
@[simp] theorem State.setSessionState_isl (s : State) (p : Nat) (st : Nat) : (State.setSessionState s p st).isl = s.isl := by
  simp -implicitDefEqProofs only [State.setSessionState, State.put_isl, foldl_isl, foldlP_isl, implies_true, apply_ite State.isl, ite_self]
@[simp] theorem State.eraseKeys_isl (s : State) (p : Nat) : (State.eraseKeys s p).isl = s.isl := by
  simp -implicitDefEqProofs only [State.eraseKeys, State.put_isl, State.setSession_isl, State.raise_isl, foldl_isl, foldlP_isl, implies_true]
@[simp] theorem State.finishClose_isl (s : State) (p : Nat) : (State.finishClose s p).isl = s.isl := by
  simp -implicitDefEqProofs only [State.finishClose, State.put_isl, State.setSession_isl, State.raise_isl, State.doUnlock_isl, State.setSessionState_isl, foldl_isl, foldlP_isl, implies_true]
@[simp] theorem State.closeBeds_isl (s : State) (p : Nat) : (State.closeBeds s p).isl = s.isl := by
  simp -implicitDefEqProofs only [State.closeBeds, State.setSeq_isl, State.holdBed_isl, foldl_isl, foldlP_isl, implies_true, apply_ite State.isl, ite_self]
@[simp] theorem State.beginClose_isl (s : State) (p : Nat) : (State.beginClose s p).isl = s.isl := by
  simp -implicitDefEqProofs only [State.beginClose, State.setSession_isl, State.startScrub_isl, State.failDma_isl, State.setSessionState_isl, State.eraseKeys_isl, State.closeBeds_isl, foldl_isl, foldlP_isl, implies_true, apply_ite State.isl, ite_self]
@[simp] theorem State.endSessionNow_isl (s : State) (p : Nat) : (State.endSessionNow s p).isl = s.isl := by
  simp -implicitDefEqProofs only [State.endSessionNow, State.failDma_isl, State.eraseKeys_isl, State.finishClose_isl, State.closeBeds_isl, apply_ite State.isl, ite_self]
@[simp] theorem State.endSessions_isl (s : State) : (State.endSessions s).isl = s.isl := by
  simp -implicitDefEqProofs only [State.endSessions, State.endSessionNow_isl, foldl_isl, foldlP_isl, implies_true]
@[simp] theorem State.opTime_isl (s : State) : (State.opTime s).isl = s.isl := by
  simp -implicitDefEqProofs only [State.opTime, apply_ite State.isl, ite_self]
@[simp] theorem State.count_isl (s : State) : (State.count s).isl = s.isl := by
  simp -implicitDefEqProofs only [State.count, State.hold_isl, apply_ite State.isl, ite_self]
@[simp] theorem State.idle_isl (s : State) : (State.idle s).isl = s.isl := by
  simp -implicitDefEqProofs only [State.idle, State.opTime_isl, State.count_isl, apply_ite State.isl, ite_self]
@[simp] theorem State.moveTime_isl (s : State) (d : Int) : (State.moveTime s d).isl = s.isl := by
  simp -implicitDefEqProofs only [State.moveTime, State.record_isl, State.hold_isl, State.clearOrigin_isl, foldl_isl, foldlP_isl, implies_true, apply_ite State.isl, ite_self]
@[simp] theorem State.steerRate_isl (s : State) (off : Int) : (State.steerRate s off).isl = s.isl := by
  simp -implicitDefEqProofs only [State.steerRate]
@[simp] theorem State.seqFromTime_isl (s : State) : (State.seqFromTime s).isl = s.isl := by
  simp -implicitDefEqProofs only [State.seqFromTime, State.put_isl, foldl_isl, foldlP_isl, implies_true]
@[simp] theorem State.setAligned_isl (s : State) (on : Bool) : (State.setAligned s on).isl = s.isl := by
  simp -implicitDefEqProofs only [State.setAligned, State.put_isl, State.seqFromTime_isl, apply_ite State.isl, ite_self]
@[simp] theorem State.alignOffset_isl (s : State) (off : Int) : (State.alignOffset s off).isl = s.isl := by
  simp -implicitDefEqProofs only [State.alignOffset, State.put_isl, State.record_isl, State.onceDo_isl, State.moveTime_isl, State.steerRate_isl, State.setAligned_isl, implies_true, apply_ite State.isl, ite_self]
@[simp] theorem State.setTref_isl (s : State) (v : Nat) : (State.setTref s v).isl = s.isl := by
  simp -implicitDefEqProofs only [State.setTref, State.put_isl, apply_ite State.isl, ite_self]
@[simp] theorem State.setHoldover_isl (s : State) (on : Bool) : (State.setHoldover s on).isl = s.isl := by
  simp -implicitDefEqProofs only [State.setHoldover, State.put_isl, State.record_isl, apply_ite State.isl, ite_self]
theorem execGroupAlignTimeout_isl (part : Bed) (s : State) : ∀ t, (execGroupAlignTimeout part s) = .next t → t.isl = s.isl := by
  intro t ht; simp -implicitDefEqProofs only [execGroupAlignTimeout] at ht; (repeat' split at ht) <;> (first | (rw [← Host.Outcome.next.inj ht]; done) | (rw [← Host.Outcome.next.inj ht]; simp -implicitDefEqProofs only [State.record_isl, State.leaveGroup_isl, State.enterHold_isl, apply_ite State.isl, ite_self]; done))
theorem execTimeRefEdge_isl (s : State) : ∀ t, (execTimeRefEdge s) = .next t → t.isl = s.isl := by
  intro t ht; simp -implicitDefEqProofs only [execTimeRefEdge] at ht; (repeat' split at ht) <;> (first | (rw [← Host.Outcome.next.inj ht]; done) | (rw [← Host.Outcome.next.inj ht]; simp -implicitDefEqProofs only [State.put_isl, State.moveTime_isl, State.steerRate_isl, State.setHoldover_isl, apply_ite State.isl, ite_self]; done))
theorem execTrefHoldoverTimeout_isl (s : State) : ∀ t, (execTrefHoldoverTimeout s) = .next t → t.isl = s.isl := by
  intro t ht; simp -implicitDefEqProofs only [execTrefHoldoverTimeout] at ht; (repeat' split at ht) <;> (first | (rw [← Host.Outcome.next.inj ht]; done) | (rw [← Host.Outcome.next.inj ht]; simp -implicitDefEqProofs only [State.put_isl, State.setHoldover_isl, apply_ite State.isl, ite_self]; done))
theorem execTimeHoldEnd_isl (s : State) : ∀ t, (execTimeHoldEnd s) = .next t → t.isl = s.isl := by
  intro t ht; rw [← Host.Outcome.next.inj ht]
@[simp] theorem State.queueOn_isl (s : State) (p : Nat) (k : Packet) : (State.queueOn s p k).isl = s.isl := by
  simp -implicitDefEqProofs only [State.queueOn, State.put_isl, State.setFab_isl]
@[simp] theorem State.takeSeq_isl (s : State) (q : Nat) : (State.takeSeq s q).2.isl = s.isl := by
  simp -implicitDefEqProofs only [State.takeSeq, State.put_isl, State.setFab_isl]
@[simp] theorem State.send_isl (s : State) (q : Nat) (dest : Nat) (cls : Nat) (ty : Nat) (tf : List Byte) (payload : List Byte) (poison : Bool) : (State.send s q dest cls ty tf payload poison).isl = s.isl := by
  simp -implicitDefEqProofs only [State.send, State.setFab_isl, State.queueOn_isl, foldl_isl, foldlP_isl, implies_true, apply_ite State.isl, ite_self]
@[simp] theorem State.numbered_isl (s : State) (k : Packet) : (State.numbered s k).1.isl = s.isl := by
  (simp -implicitDefEqProofs only [State.numbered]; (repeat' split) <;> (first | (with_reducible rfl) | simp -implicitDefEqProofs only [State.put_isl, State.setFab_isl, State.takeSeq_isl, apply_ite State.isl, ite_self]))
@[simp] theorem State.transmit_isl (s : State) (p : Nat) (k : Packet) : (State.transmit s p k).isl = s.isl := by
  simp -implicitDefEqProofs only [State.transmit, State.put_isl, State.bump_isl, State.setFab_isl, apply_ite State.isl, ite_self]
@[simp] theorem State.askedFor_isl (s : State) (p : Nat) (n : Nat) : (State.askedFor s p n).isl = s.isl := by
  (simp -implicitDefEqProofs only [State.askedFor]; (repeat' split) <;> (first | (with_reducible rfl) | simp -implicitDefEqProofs only [State.put_isl, State.setFab_isl]))
@[simp] theorem State.sendBeat_isl (s : State) (p : Nat) : (State.sendBeat s p).isl = s.isl := by
  simp -implicitDefEqProofs only [State.sendBeat, State.transmit_isl]
@[simp] theorem State.sendPicked_isl (s : State) (p : Nat) (k : Packet) (rest : List Packet) : (State.sendPicked s p k rest).isl = s.isl := by
  (simp -implicitDefEqProofs only [State.sendPicked]; (repeat' split) <;> (first | (with_reducible rfl) | simp -implicitDefEqProofs only [State.put_isl, State.bump_isl, State.setFab_isl, State.numbered_isl, State.transmit_isl]))
@[simp] theorem State.countDiscard_isl (s : State) (p : Nat) : (State.countDiscard s p).isl = s.isl := by
  simp -implicitDefEqProofs only [State.countDiscard, State.put_isl, State.setFab_isl]
@[simp] theorem State.openPacket_isl (s : State) (p : Nat) (k : Packet) : (State.openPacket s p k).1.isl = s.isl := by
  (simp -implicitDefEqProofs only [State.openPacket]; (repeat' split) <;> (first | (with_reducible rfl) | simp -implicitDefEqProofs only [State.bump_isl, State.raise_isl, apply_ite State.isl, ite_self]))
@[simp] theorem State.countLate_isl (s : State) (p : Nat) (k : Packet) : (State.countLate s p k).isl = s.isl := by
  simp -implicitDefEqProofs only [State.countLate, State.bump_isl, State.raise_isl, apply_ite State.isl, ite_self]
@[simp] theorem State.takeIn_isl (s : State) (p : Nat) (k : Packet) : (State.takeIn s p k).1.isl = s.isl := by
  have h0 := State.openPacket_isl s p k
  simp -implicitDefEqProofs only [State.takeIn]
  split
  · rfl
  split
  · exact State.countDiscard_isl ..
  split
  · rfl
  split
  · rfl
  split
  · rename_i heq; rw [heq] at h0; exact h0
  · rename_i heq
    rw [heq] at h0
    split
    · exact (State.countLate_isl ..).trans h0
    · split
      · exact h0
      · exact (State.countLate_isl ..).trans ((State.setFab_isl ..).trans h0)
theorem State.consume_isl (s : State) (p : Nat) (k : Packet) (ty : Nat) (f : State → Packet → State) (hf : ∀ (u : State) (w1 : Packet), (f u w1).isl = u.isl) : ∀ t, (State.consume s p k ty f) = .next t → t.isl = s.isl := by
  intro t ht
  have h0 := State.takeIn_isl s p k
  simp only [State.consume] at ht
  split at ht
  · cases ht; rfl
  · split at ht
    · rename_i heq; rw [heq] at h0; cases ht; rw [hf]; exact h0
    · rename_i heq; rw [heq] at h0; cases ht; exact h0
@[simp] theorem State.dataIn_isl (s : State) (p : Nat) (k : Packet) : (State.dataIn s p k).isl = s.isl := by
  simp -implicitDefEqProofs only [State.dataIn, State.writeSpan_isl]
theorem execDataReceive_isl (port : Port) (packet : Packet) (s : State) : ∀ t, (execDataReceive port packet s) = .next t → t.isl = s.isl := by
  intro t ht; simp -implicitDefEqProofs only [execDataReceive] at ht; (refine State.consume_isl _ _ _ _ _ ?_ _ ht) <;> (intros; simp -implicitDefEqProofs only [State.dataIn_isl])
@[simp] theorem State.heartbeatIn_isl (s : State) (p : Nat) (k : Packet) : (State.heartbeatIn s p k).isl = s.isl := by
  simp -implicitDefEqProofs only [State.heartbeatIn, State.put_isl, State.bump_isl, State.setFab_isl]
theorem execHeartbeatReceive_isl (port : Port) (packet : Packet) (s : State) : ∀ t, (execHeartbeatReceive port packet s) = .next t → t.isl = s.isl := by
  intro t ht; simp -implicitDefEqProofs only [execHeartbeatReceive] at ht; (refine State.consume_isl _ _ _ _ _ ?_ _ ht) <;> (intros; simp -implicitDefEqProofs only [State.heartbeatIn_isl])
@[simp] theorem State.portDown_isl (s : State) (p : Nat) (st : Nat) : (State.portDown s p st).isl = s.isl := by
  simp -implicitDefEqProofs only [State.portDown, State.put_isl, State.setFab_isl]
theorem execHeartbeatTimeout_isl (port : Port) (s : State) : ∀ t, (execHeartbeatTimeout port s) = .next t → t.isl = s.isl := by
  intro t ht; simp -implicitDefEqProofs only [execHeartbeatTimeout] at ht; (repeat' split at ht) <;> (first | (rw [← Host.Outcome.next.inj ht]; done) | (rw [← Host.Outcome.next.inj ht]; simp -implicitDefEqProofs only [State.put_isl, State.bump_isl, State.record_isl, State.evt_isl, State.setFab_isl, State.portDown_isl, apply_ite State.isl, ite_self]; done))
@[simp] theorem State.timeRequestIn_isl (s : State) (p : Nat) (k : Packet) : (State.timeRequestIn s p k).isl = s.isl := by
  simp -implicitDefEqProofs only [State.timeRequestIn, State.queueOn_isl, apply_ite State.isl, ite_self]
theorem execTimeRequestReceive_isl (port : Port) (packet : Packet) (s : State) : ∀ t, (execTimeRequestReceive port packet s) = .next t → t.isl = s.isl := by
  intro t ht; simp -implicitDefEqProofs only [execTimeRequestReceive] at ht; (refine State.consume_isl _ _ _ _ _ ?_ _ ht) <;> (intros; simp -implicitDefEqProofs only [State.timeRequestIn_isl])
@[simp] theorem State.timeResponseIn_isl (s : State) (p : Nat) (k : Packet) : (State.timeResponseIn s p k).isl = s.isl := by
  simp -implicitDefEqProofs only [State.timeResponseIn, State.alignOffset_isl, apply_ite State.isl, ite_self]
@[simp] theorem State.fencePort_isl (s : State) (p : Nat) : (State.fencePort s p).isl = s.isl := by
  simp -implicitDefEqProofs only [State.fencePort, State.put_isl, State.evt_isl, State.portDown_isl]
@[simp] theorem State.mismatch_isl (s : State) (p : Nat) : (State.mismatch s p).isl = s.isl := by
  simp -implicitDefEqProofs only [State.mismatch, State.raise_isl]
@[simp] theorem State.deriveId_isl (s : State) : (State.deriveId s).isl = s.isl := by
  (simp -implicitDefEqProofs only [State.deriveId]; (repeat' split) <;> (first | (with_reducible rfl) | simp -implicitDefEqProofs only [State.put_isl, State.fencePort_isl, State.mismatch_isl, foldl_isl, foldlP_isl, implies_true, apply_ite State.isl, ite_self]))
@[simp] theorem State.positionIn_isl (s : State) (p : Nat) (k : Packet) : (State.positionIn s p k).isl = s.isl := by
  simp -implicitDefEqProofs only [State.positionIn, State.put_isl, State.mismatch_isl, State.deriveId_isl, apply_ite State.isl, ite_self]
@[simp] theorem State.applyTopo_isl (s : State) : (State.applyTopo s).isl = s.isl := by
  (simp -implicitDefEqProofs only [State.applyTopo]; (repeat' split) <;> (first | (with_reducible rfl) | simp -implicitDefEqProofs only [State.put_isl, State.raise_isl, State.setFab_isl, foldl_isl, foldlP_isl, implies_true, apply_ite State.isl, ite_self]))
@[simp] theorem State.reportIn_isl (s : State) (k : Packet) : (State.reportIn s k).isl = s.isl := by
  (simp -implicitDefEqProofs only [State.reportIn]; (repeat' split) <;> (first | (with_reducible rfl) | (simp -implicitDefEqProofs [-List.foldl_cons, -List.foldl_nil, foldl_isl, foldlP_isl]; done) | (simp -implicitDefEqProofs (disch := (intros; (repeat' split) <;> try simp -implicitDefEqProofs [-List.foldl_cons, -List.foldl_nil, foldl_isl, foldlP_isl])) [-List.foldl_cons, -List.foldl_nil, foldl_isl, foldlP_isl]; done)))
@[simp] theorem State.topologyIn_isl (s : State) (p : Nat) (k : Packet) : (State.topologyIn s p k).isl = s.isl := by
  simp -implicitDefEqProofs only [State.topologyIn, State.positionIn_isl, State.reportIn_isl, apply_ite State.isl, ite_self]
theorem execTopologyReceive_isl (port : Port) (packet : Packet) (s : State) : ∀ t, (execTopologyReceive port packet s) = .next t → t.isl = s.isl := by
  intro t ht; simp -implicitDefEqProofs only [execTopologyReceive] at ht; (refine State.consume_isl _ _ _ _ _ ?_ _ ht) <;> (intros; simp -implicitDefEqProofs only [State.topologyIn_isl])
@[simp] theorem State.train_isl (s : State) (p : Nat) : (State.train s p).isl = s.isl := by
  simp -implicitDefEqProofs only [State.train, State.put_isl, State.setFab_isl, State.portDown_isl, apply_ite State.isl, ite_self]
theorem execPortRetrain_isl (port : Port) (s : State) : ∀ t, (execPortRetrain port s) = .next t → t.isl = s.isl := by
  intro t ht; simp -implicitDefEqProofs only [execPortRetrain] at ht; rw [← Host.Outcome.next.inj ht]; simp -implicitDefEqProofs only [State.train_isl, apply_ite State.isl, ite_self]
theorem execPortTrainingTimeout_isl (port : Port) (s : State) : ∀ t, (execPortTrainingTimeout port s) = .next t → t.isl = s.isl := by
  intro t ht; simp -implicitDefEqProofs only [execPortTrainingTimeout] at ht; (repeat' split at ht) <;> (first | (rw [← Host.Outcome.next.inj ht]; done) | (rw [← Host.Outcome.next.inj ht]; simp -implicitDefEqProofs only [State.put_isl, State.record_isl, State.setFab_isl, State.fencePort_isl, apply_ite State.isl, ite_self]; done))
theorem execLinkUp_isl (port : Port) (s : State) : ∀ t, (execLinkUp port s) = .next t → t.isl = s.isl := by
  intro t ht; simp -implicitDefEqProofs only [execLinkUp] at ht; (repeat' split at ht) <;> (first | (rw [← Host.Outcome.next.inj ht]; done) | (rw [← Host.Outcome.next.inj ht]; simp -implicitDefEqProofs only [State.put_isl, State.raise_isl, State.setFab_isl, State.queueOn_isl, apply_ite State.isl, ite_self]; done))
theorem execD2dFlitRetry_isl (link : Fin 11) (s : State) (compute : Bool) : ∀ t, (execD2dFlitRetry link s compute) = .next t → t.isl = s.isl := by
  intro t ht; simp -implicitDefEqProofs only [execD2dFlitRetry] at ht; rw [← Host.Outcome.next.inj ht]; simp -implicitDefEqProofs only [State.bump_isl, apply_ite State.isl, ite_self]
theorem execD2dTrainingLost_isl (link : Fin 11) (s : State) : ∀ t, (execD2dTrainingLost link s) = .next t → t.isl = s.isl := by
  intro t ht; rw [← Host.Outcome.next.inj ht]
theorem execD2dTrainingRecovered_isl (link : Fin 11) (s : State) : ∀ t, (execD2dTrainingRecovered link s) = .next t → t.isl = s.isl := by
  intro t ht; rw [← Host.Outcome.next.inj ht]
theorem execD2dTrainingTimeout_isl (link : Fin 11) (s : State) : ∀ t, (execD2dTrainingTimeout link s) = .next t → t.isl = s.isl := by
  intro t ht; simp -implicitDefEqProofs only [execD2dTrainingTimeout] at ht; (repeat' split at ht) <;> (first | (rw [← Host.Outcome.next.inj ht]; done) | (rw [← Host.Outcome.next.inj ht]; simp -implicitDefEqProofs only [State.record_isl, State.enterHold_isl, apply_ite State.isl, ite_self]; done))
@[simp] theorem State.raiseFlags_isl (s : State) (n : Nat) (fl : Flags) : (State.raiseFlags s n fl).isl = s.isl := by
  simp -implicitDefEqProofs only [State.raiseFlags, State.put_isl, apply_ite State.isl, ite_self]
@[simp] theorem State.latchCapture_isl (s : State) (b : Nat) (c : Capture) : (State.latchCapture s b c).isl = s.isl := by
  simp -implicitDefEqProofs only [State.latchCapture, State.setBed_isl, apply_ite State.isl, ite_self]
@[simp] theorem State.captureNf_isl (s : State) (b : Nat) (c : Nat) (fl : Flags) (i : CapInfo) : (State.captureNf s b c fl i).isl = s.isl := by
  simp -implicitDefEqProofs only [State.captureNf, State.put_isl, State.latchCapture_isl, apply_ite State.isl, ite_self]
@[simp] theorem State.result_isl (s : State) (b : Nat) (c : Nat) (fl : Flags) (i : CapInfo) : (State.result s b c fl i).isl = s.isl := by
  simp -implicitDefEqProofs only [State.result, State.raiseFlags_isl, State.captureNf_isl]
@[simp] theorem State.tileFaulted_isl (s : State) (b : Nat) (c : Nat) (d : Desc) (t : List Byte) (tile : Nat) : (State.tileFaulted s b c d t tile).isl = s.isl := by
  simp -implicitDefEqProofs only [State.tileFaulted, State.record_isl, State.raiseFlags_isl, foldl_isl, foldlP_isl, implies_true]
@[simp] theorem State.openBuckets_isl (s : State) (q : Nat) (step : Nat) (frame : Nat) (epoch : Nat) (anew : Bool) (grafted : Bool) : (State.openBuckets s q step frame epoch anew grafted).isl = s.isl := by
  simp -implicitDefEqProofs only [State.openBuckets, State.put_isl, State.openStep_isl, State.setRed_isl, apply_ite State.isl, ite_self]
@[simp] theorem State.setPartAt_isl (s : State) (k : PartKey) (x : OpenPart) : (State.setPartAt s k x).isl = s.isl := by
  simp -implicitDefEqProofs only [State.setPartAt, State.put_isl, State.setRed_isl]
@[simp] theorem State.redCount_isl (s : State) (p : Page) (f : Fld) (bit : Nat) : (State.redCount s p f bit).isl = s.isl := by
  simp -implicitDefEqProofs only [State.redCount, State.bump_isl, State.raise_isl]
@[simp] theorem State.onStep_isl (s : State) (q : Nat) (step : Nat) (g : OpenStep → OpenStep) : (State.onStep s q step g).isl = s.isl := by
  (simp -implicitDefEqProofs only [State.onStep]; (repeat' split) <;> (first | (with_reducible rfl) | simp -implicitDefEqProofs only [State.put_isl, State.openStep_isl, State.setRed_isl]))
@[simp] theorem State.noiseFailed_isl (s : State) (q : Nat) (step : Nat) : (State.noiseFailed s q step).isl = s.isl := by
  simp -implicitDefEqProofs only [State.noiseFailed, State.bump_isl, State.raise_isl, State.onStep_isl]
@[simp] theorem State.retain_isl (s : State) (k : PartKey) (o : OpenStep) (c : Cert) (sums : List Int) : (State.retain s k o c sums).isl = s.isl := by
  simp -implicitDefEqProofs only [State.retain, State.setRed_isl, State.writeSpan_isl, apply_ite State.isl, ite_self]
@[simp] theorem State.rootCert_isl (s : State) (k : PartKey) (o : OpenStep) (x : OpenPart) : (State.rootCert s k o x).1.isl = s.isl := by
  (simp -implicitDefEqProofs only [State.rootCert]; (repeat' split) <;> (first | (with_reducible rfl) | simp -implicitDefEqProofs only [State.bump_isl, State.count_isl, State.setNoise_isl, State.onStep_isl, State.noiseFailed_isl, apply_ite State.isl, ite_self]))
@[simp] theorem State.certify_isl (s : State) (k : PartKey) (o : OpenStep) : (State.certify s k o).isl = s.isl := by
  simp -implicitDefEqProofs only [State.certify, State.bump_isl, State.count_isl, State.send_isl, State.setPartAt_isl, State.retain_isl, State.rootCert_isl, foldl_isl, foldlP_isl, implies_true, apply_ite State.isl, ite_self]
@[simp] theorem State.forwardPart_isl (s : State) (k : PartKey) (o : OpenStep) (t : Tree) (rank : Nat) : (State.forwardPart s k o t rank).isl = s.isl := by
  simp -implicitDefEqProofs only [State.forwardPart, State.bump_isl, State.count_isl, State.send_isl, State.setPartAt_isl, apply_ite State.isl, ite_self]
@[simp] theorem State.sendOn_isl (s : State) (k : PartKey) (o : OpenStep) (t : Tree) (rank : Nat) : (State.sendOn s k o t rank).isl = s.isl := by
  simp -implicitDefEqProofs only [State.sendOn, State.certify_isl, State.forwardPart_isl, apply_ite State.isl, ite_self]
@[simp] theorem State.sendOnWhole_isl (s : State) (k : PartKey) (o : OpenStep) (t : Tree) (rank : Nat) : (State.sendOnWhole s k o t rank).isl = s.isl := by
  simp -implicitDefEqProofs only [State.sendOnWhole, State.sendOn_isl, apply_ite State.isl, ite_self]
@[simp] theorem State.ownPart_isl (s : State) (k : PartKey) (o : OpenStep) (sums : List Int) (sat : Bool) (poison : Bool) : (State.ownPart s k o sums sat poison).isl = s.isl := by
  (simp -implicitDefEqProofs only [State.ownPart]; (repeat' split) <;> (first | (with_reducible rfl) | simp -implicitDefEqProofs only [State.setPartAt_isl, State.redCount_isl, State.sendOnWhole_isl, apply_ite State.isl, ite_self]))
@[simp] theorem State.contribute_isl (s : State) (q : Nat) (step : Nat) (desc : Nat) (tile : Nat) (qs : List Int) (sats : List Bool) (poison : Bool) : (State.contribute s q step desc tile qs sats poison).isl = s.isl := by
  (simp -implicitDefEqProofs only [State.contribute]; (repeat' split) <;> (first | (with_reducible rfl) | simp -implicitDefEqProofs only [State.ownPart_isl, foldl_isl, foldlP_isl, implies_true]))
@[simp] theorem State.takeSums_isl (s : State) (w : Nat) (n : Nat) (payload : List Byte) : (State.takeSums s w n payload).1.isl = s.isl := by
  simp -implicitDefEqProofs only [State.takeSums, State.setRed_isl, apply_ite State.isl, ite_self]
@[simp] theorem State.reduceIn_isl (s : State) (port : Nat) (q : Nat) (k : Packet) : (State.reduceIn s port q k).isl = s.isl := by
  (simp -implicitDefEqProofs only [State.reduceIn]; (repeat' split) <;> (first | (with_reducible rfl) | simp -implicitDefEqProofs only [State.bump_isl, State.setPartAt_isl, State.redCount_isl, State.sendOnWhole_isl, State.takeSums_isl, apply_ite State.isl, ite_self]))
@[simp] theorem State.certIn_isl (s : State) (port : Nat) (q : Nat) (k : Packet) : (State.certIn s port q k).isl = s.isl := by
  (simp -implicitDefEqProofs only [State.certIn]; (repeat' split) <;> (first | (with_reducible rfl) | simp -implicitDefEqProofs only [State.redCount_isl, State.retain_isl, State.takeSums_isl, apply_ite State.isl, ite_self]))
@[simp] theorem State.cutoff_isl (s : State) (q : Nat) (bucket : Nat) (step : Nat) (tile : Nat) (piece : Nat) (root : Bool) : (State.cutoff s q bucket step tile piece root).isl = s.isl := by
  (simp -implicitDefEqProofs only [State.cutoff]; (repeat' split) <;> (first | (with_reducible rfl) | simp -implicitDefEqProofs only [State.sendOn_isl, apply_ite State.isl, ite_self]))
theorem execLevelCutoff_isl (part : Bed) (bucket : Nat) (step : Nat) (tile : Nat) (piece : Nat) (s : State) : ∀ t, (execLevelCutoff part bucket step tile piece s) = .next t → t.isl = s.isl := by
  intro t ht; simp -implicitDefEqProofs only [execLevelCutoff] at ht; rw [← Host.Outcome.next.inj ht]; simp -implicitDefEqProofs only [State.cutoff_isl]
theorem execRootDeadline_isl (part : Bed) (bucket : Nat) (step : Nat) (tile : Nat) (piece : Nat) (s : State) : ∀ t, (execRootDeadline part bucket step tile piece s) = .next t → t.isl = s.isl := by
  intro t ht; simp -implicitDefEqProofs only [execRootDeadline] at ht; rw [← Host.Outcome.next.inj ht]; simp -implicitDefEqProofs only [State.cutoff_isl]
@[simp] theorem State.setNextExps_isl (s : State) (q : Nat) (bucket : Nat) (step : Nat) (ok : Bool) : (State.setNextExps s q bucket step ok).isl = s.isl := by
  (simp -implicitDefEqProofs only [State.setNextExps]; (repeat' split) <;> (first | (with_reducible rfl) | simp -implicitDefEqProofs only [State.put_isl, State.setRed_isl, foldl_isl, foldlP_isl, implies_true]))
@[simp] theorem State.settle_isl (s : State) (q : Nat) (bucket : Nat) (step : Nat) (ok : Bool) : (State.settle s q bucket step ok).isl = s.isl := by
  (simp -implicitDefEqProofs only [State.settle]; (repeat' split) <;> (first | (with_reducible rfl) | simp -implicitDefEqProofs only [State.put_isl, State.bump_isl, State.record_isl, State.evt_isl, State.setRed_isl, State.onStep_isl, State.setNextExps_isl, apply_ite State.isl, ite_self]))
@[simp] theorem State.drawBytes_isl (s : State) (n : Nat) : (State.drawBytes s n).2.isl = s.isl := by
  simp -implicitDefEqProofs only [State.drawBytes]
@[simp] theorem State.seqNow_isl (s : State) (p : Nat) : (State.seqNow s p).isl = s.isl := by
  simp -implicitDefEqProofs only [State.seqNow, State.put_isl, State.setFab_isl]
@[simp] theorem State.sendKa_isl (s : State) (p : Nat) (dest : Nat) (code : Nat) (body : List Byte) : (State.sendKa s p dest code body).isl = s.isl := by
  simp -implicitDefEqProofs only [State.sendKa, State.send_isl]
@[simp] theorem State.installLink_isl (s : State) (p : Nat) (gk : List Byte) : (State.installLink s p gk).isl = s.isl := by
  (simp -implicitDefEqProofs only [State.installLink]; (repeat' split) <;> (first | (with_reducible rfl) | simp -implicitDefEqProofs only [State.put_isl, State.setSession_isl, State.seqNow_isl, apply_ite State.isl, ite_self]))
@[simp] theorem State.encPorts_isl (s : State) (p : Nat) : (State.encPorts s p).isl = s.isl := by
  simp -implicitDefEqProofs only [State.encPorts, State.put_isl, foldl_isl, foldlP_isl, implies_true]
@[simp] theorem State.kaFail_isl (s : State) (p : Nat) (peer : Nat) : (State.kaFail s p peer).isl = s.isl := by
  simp -implicitDefEqProofs only [State.kaFail, State.raise_isl, State.sendKa_isl]
@[simp] theorem State.sendSigned_isl (s : State) (p : Nat) (src : Nat) : (State.sendSigned s p src).isl = s.isl := by
  (simp -implicitDefEqProofs only [State.sendSigned]; (repeat' split) <;> (first | (with_reducible rfl) | simp -implicitDefEqProofs only [State.sendKa_isl]))
@[simp] theorem State.notePeer_isl (s : State) (p : Nat) (src : Nat) (key : List Byte) : (State.notePeer s p src key).isl = s.isl := by
  simp -implicitDefEqProofs only [State.notePeer, State.put_isl, State.setSession_isl]
@[simp] theorem State.takeEarly_isl (s : State) (p : Nat) : (State.takeEarly s p).isl = s.isl := by
  simp -implicitDefEqProofs only [State.takeEarly, State.kaFail_isl, State.notePeer_isl, foldl_isl, foldlP_isl, implies_true, apply_ite State.isl, ite_self]
@[simp] theorem State.startKeying_isl (s : State) (p : Nat) : (State.startKeying s p).isl = s.isl := by
  simp -implicitDefEqProofs only [State.startKeying, State.setSession_isl, State.drawBytes_isl, State.sendKa_isl, State.installLink_isl, State.encPorts_isl, State.sendSigned_isl, State.takeEarly_isl, foldl_isl, foldlP_isl, implies_true, apply_ite State.isl, ite_self]
@[simp] theorem State.tryKey_isl (s : State) (p : Nat) : (State.tryKey s p).isl = s.isl := by
  (simp -implicitDefEqProofs only [State.tryKey]; (repeat' split) <;> (first | (with_reducible rfl) | simp -implicitDefEqProofs only [State.installLink_isl, State.encPorts_isl, State.startKeying_isl, apply_ite State.isl, ite_self]))
@[simp] theorem State.kaKeyIn_isl (s : State) (p : Nat) (src : Nat) (key : List Byte) : (State.kaKeyIn s p src key).isl = s.isl := by
  simp -implicitDefEqProofs only [State.kaKeyIn, State.sendSigned_isl, State.notePeer_isl, apply_ite State.isl, ite_self]
@[simp] theorem State.kaSignedIn_isl (s : State) (p : Nat) (src : Nat) (key : List Byte) (sig : List Byte) (hash : List Byte) : (State.kaSignedIn s p src key sig hash).isl = s.isl := by
  rw [State.kaSignedIn.eq_def]
  split
  · rfl
  · split
    · simp -implicitDefEqProofs only [State.setSession_isl, State.sendKa_isl]
    · simp -implicitDefEqProofs only [State.kaFail_isl]
@[simp] theorem State.kaProofIn_isl (s : State) (p : Nat) (src : Nat) (sig : List Byte) (hash : List Byte) : (State.kaProofIn s p src sig hash).isl = s.isl := by
  rw [State.kaProofIn.eq_def]
  split
  · split
    · simp -implicitDefEqProofs only [apply_ite State.isl, State.encPorts_isl, State.setSession_isl, State.sendKa_isl, ite_self]
    · simp -implicitDefEqProofs only [State.kaFail_isl]
  · rfl
@[simp] theorem State.kaGroupIn_isl (s : State) (p : Nat) (src : Nat) (sealed : List Byte) : (State.kaGroupIn s p src sealed).isl = s.isl := by
  (simp -implicitDefEqProofs only [State.kaGroupIn]; (repeat' split) <;> (first | (with_reducible rfl) | simp -implicitDefEqProofs only [State.installLink_isl, State.encPorts_isl, State.kaFail_isl, apply_ite State.isl, ite_self]))
@[simp] theorem State.keyMessage_isl (s : State) (p : Nat) (src : Nat) (code : Nat) (body : List Byte) : (State.keyMessage s p src code body).isl = s.isl := by
  (simp -implicitDefEqProofs only [State.keyMessage]; (repeat' split) <;> (first | (with_reducible rfl) | simp -implicitDefEqProofs only [State.put_isl, State.raise_isl, State.kaFail_isl, State.kaKeyIn_isl, State.kaSignedIn_isl, State.kaProofIn_isl, State.kaGroupIn_isl, implies_true, apply_ite State.isl, ite_self]))
@[simp] theorem State.keyAnew_isl (s : State) (p : Nat) : (State.keyAnew s p).isl = s.isl := by
  (simp -implicitDefEqProofs only [State.keyAnew]; (repeat' split) <;> (first | (with_reducible rfl) | simp -implicitDefEqProofs only [State.put_isl, State.setSession_isl, State.tryKey_isl, apply_ite State.isl, ite_self]))
@[simp] theorem State.setTimeRef_isl (s : State) (q : Nat) : (State.setTimeRef s q).isl = s.isl := by
  simp -implicitDefEqProofs only [State.setTimeRef, State.put_isl, State.setAligned_isl, apply_ite State.isl, ite_self]
@[simp] theorem State.askTime_isl (s : State) (q : Nat) : (State.askTime s q).isl = s.isl := by
  (simp -implicitDefEqProofs only [State.askTime]; (repeat' split) <;> (first | (with_reducible rfl) | simp -implicitDefEqProofs only [State.queueOn_isl, State.tryKey_isl, State.setTimeRef_isl, apply_ite State.isl, ite_self]))
@[simp] theorem State.sendVote_isl (s : State) (k : VoteKey) (v : Vote) (ty : Nat) (dest : Nat) (x : VoteSum) : (State.sendVote s k v ty dest x).isl = s.isl := by
  simp -implicitDefEqProofs only [State.sendVote, State.send_isl]
@[simp] theorem State.setVote_isl (s : State) (k : VoteKey) (v : Vote) : (State.setVote s k v).isl = s.isl := by
  simp -implicitDefEqProofs only [State.setVote, State.put_isl, State.setRed_isl]
@[simp] theorem State.openVote_isl (s : State) (b : Ballot) (piece : Nat) (elems : List Int) : (State.openVote s b piece elems).isl = s.isl := by
  (simp -implicitDefEqProofs only [State.openVote]; (repeat' split) <;> (first | (with_reducible rfl) | simp -implicitDefEqProofs only [State.sendVote_isl, State.setVote_isl, foldl_isl, foldlP_isl, implies_true, apply_ite State.isl, ite_self]))
@[simp] theorem State.openParts_isl (s : State) (b : Ballot) (elems : List Int) : (State.openParts s b elems).isl = s.isl := by
  simp -implicitDefEqProofs only [State.openParts, State.openVote_isl, foldl_isl, foldlP_isl, implies_true]
@[simp] theorem State.openRunVotes_isl (s : State) (q : Nat) (v : Nat) : (State.openRunVotes s q v).isl = s.isl := by
  simp -implicitDefEqProofs only [State.openRunVotes, State.openParts_isl, apply_ite State.isl, ite_self]
@[simp] theorem State.openCloseVotes_isl (s : State) (q : Nat) (v : Nat) : (State.openCloseVotes s q v).isl = s.isl := by
  simp -implicitDefEqProofs only [State.openCloseVotes, State.openParts_isl, foldl_isl, foldlP_isl, implies_true, apply_ite State.isl, ite_self]
@[simp] theorem State.openActivationVote_isl (s : State) (q : Nat) (v : Nat) : (State.openActivationVote s q v).isl = s.isl := by
  (simp -implicitDefEqProofs only [State.openActivationVote]; (repeat' split) <;> (first | (with_reducible rfl) | simp -implicitDefEqProofs only [State.openParts_isl, apply_ite State.isl, ite_self]))
@[simp] theorem State.openGraftVote_isl (s : State) (q : Nat) (v : Nat) : (State.openGraftVote s q v).isl = s.isl := by
  simp -implicitDefEqProofs only [State.openGraftVote, State.openParts_isl, foldl_isl, foldlP_isl, implies_true, apply_ite State.isl, ite_self]
@[simp] theorem State.openVotes_isl (s : State) (q : Nat) (v : Nat) : (State.openVotes s q v).isl = s.isl := by
  simp -implicitDefEqProofs only [State.openVotes, State.setRed_isl, State.openRunVotes_isl, State.openCloseVotes_isl, State.openActivationVote_isl, State.openGraftVote_isl, apply_ite State.isl, ite_self]
@[simp] theorem State.voteAct_isl (s : State) (k : VoteKey) (v : Vote) (res : List Nat) (slot : Nat) : (State.voteAct s k v res slot).isl = s.isl := by
  (simp -implicitDefEqProofs only [State.voteAct]; (repeat' split) <;> (first | (with_reducible rfl) | simp -implicitDefEqProofs only [State.sendVote_isl, State.setVote_isl, foldl_isl, foldlP_isl, implies_true, apply_ite State.isl, ite_self]))
@[simp] theorem State.voteSlot_isl (s : State) (p : Nat) (slot : Nat) : (State.voteSlot s p slot).isl = s.isl := by
  simp -implicitDefEqProofs only [State.voteSlot, State.voteAct_isl, foldl_isl, foldlP_isl, implies_true, apply_ite State.isl, ite_self]
@[simp] theorem State.slotZero_isl (s : State) (p : Nat) : (State.slotZero s p).isl = s.isl := by
  simp -implicitDefEqProofs only [State.slotZero, State.sendBeat_isl, State.askTime_isl, apply_ite State.isl, ite_self]
@[simp] theorem State.slotOther_isl (s : State) (p : Nat) (slot : Nat) : (State.slotOther s p slot).isl = s.isl := by
  (simp -implicitDefEqProofs only [State.slotOther]; (repeat' split) <;> (first | (with_reducible rfl) | simp -implicitDefEqProofs only [State.put_isl, State.bump_isl, State.setFab_isl, State.transmit_isl, State.sendPicked_isl, State.voteSlot_isl]))
theorem execSlotSend_isl (port : Port) (slot : Nat) (s : State) : ∀ t, (execSlotSend port slot s) = .next t → t.isl = s.isl := by
  intro t ht; simp -implicitDefEqProofs only [execSlotSend] at ht; rw [← Host.Outcome.next.inj ht]; simp -implicitDefEqProofs only [State.sendBeat_isl, State.slotZero_isl, State.slotOther_isl, apply_ite State.isl, ite_self]
@[simp] theorem State.voteInput_isl (s : State) (v : Vote) (k : Packet) : (State.voteInput s v k).1.isl = s.isl := by
  simp -implicitDefEqProofs only [State.voteInput, State.takeSums_isl]
@[simp] theorem State.voteIn_isl (s : State) (port : Nat) (q : Nat) (k : Packet) : (State.voteIn s port q k).isl = s.isl := by
  (simp -implicitDefEqProofs only [State.voteIn]; (repeat' split) <;> (first | (with_reducible rfl) | simp -implicitDefEqProofs only [State.bump_isl, State.redCount_isl, State.setVote_isl, State.voteInput_isl, apply_ite State.isl, ite_self]))
@[simp] theorem State.voteFail_isl (s : State) (q : Nat) : (State.voteFail s q).isl = s.isl := by
  simp -implicitDefEqProofs only [State.voteFail, State.bump_isl, State.record_isl, State.evt_isl, State.leaveGroup_isl, State.enterHold_isl]
@[simp] theorem State.voteCertIn_isl (s : State) (port : Nat) (q : Nat) (k : Packet) : (State.voteCertIn s port q k).isl = s.isl := by
  (simp -implicitDefEqProofs only [State.voteCertIn]; (repeat' split) <;> (first | (with_reducible rfl) | simp -implicitDefEqProofs only [State.redCount_isl, State.setVote_isl, State.voteInput_isl, State.voteFail_isl, apply_ite State.isl, ite_self]))
theorem execReduceReceive_isl (port : Port) (packet : Packet) (s : State) : ∀ t, (execReduceReceive port packet s) = .next t → t.isl = s.isl := by
  intro t ht; simp -implicitDefEqProofs only [execReduceReceive] at ht; (refine State.consume_isl _ _ _ _ _ ?_ _ ht) <;> (intros; simp -implicitDefEqProofs only [State.reduceIn_isl, State.voteIn_isl, apply_ite State.isl, ite_self])
theorem execCertReceive_isl (port : Port) (packet : Packet) (s : State) : ∀ t, (execCertReceive port packet s) = .next t → t.isl = s.isl := by
  intro t ht; simp -implicitDefEqProofs only [execCertReceive] at ht; (refine State.consume_isl _ _ _ _ _ ?_ _ ht) <;> (intros; simp -implicitDefEqProofs only [State.certIn_isl, State.voteCertIn_isl, apply_ite State.isl, ite_self])
@[simp] theorem State.actPrecision_isl (s : State) (q : Nat) (step : Nat) (l : List Int) : (State.actPrecision s q step l).isl = s.isl := by
  simp -implicitDefEqProofs only [State.actPrecision, State.setPart_isl]
@[simp] theorem State.actLoss_isl (s : State) (q : Nat) (v : Nat) (l : List Int) : (State.actLoss s q v l).isl = s.isl := by
  simp -implicitDefEqProofs only [State.actLoss, State.setPart_isl, State.record_isl, State.openStep_isl, State.leaveGroup_isl, State.enterHold_isl, State.setRed_isl, apply_ite State.isl, ite_self]
@[simp] theorem State.refuseSwitch_isl (s : State) (b : Nat) : (State.refuseSwitch s b).isl = s.isl := by
  (simp -implicitDefEqProofs only [State.refuseSwitch]; (repeat' split) <;> (first | (with_reducible rfl) | simp -implicitDefEqProofs only [State.evt_isl, State.setSeq_isl, State.dropPending_isl, apply_ite State.isl, ite_self]))
@[simp] theorem State.actActivation_isl (s : State) (q : Nat) (c : VoteSum) : (State.actActivation s q c).isl = s.isl := by
  (simp -implicitDefEqProofs only [State.actActivation]; (repeat' split) <;> (first | (with_reducible rfl) | (simp -implicitDefEqProofs [-List.foldl_cons, -List.foldl_nil, foldl_isl, foldlP_isl]; done) | (simp -implicitDefEqProofs (disch := (intros; (repeat' split) <;> try simp -implicitDefEqProofs [-List.foldl_cons, -List.foldl_nil, foldl_isl, foldlP_isl])) [-List.foldl_cons, -List.foldl_nil, foldl_isl, foldlP_isl]; done)))
@[simp] theorem State.releaseGrads_isl (s : State) (q : Nat) (step : Nat) : (State.releaseGrads s q step).isl = s.isl := by
  (simp -implicitDefEqProofs only [State.releaseGrads]; (repeat' split) <;> (first | (simp -implicitDefEqProofs [-List.foldl_cons, -List.foldl_nil, foldl_isl, foldlP_isl, apply_ite State.isl]; done) | (simp -implicitDefEqProofs (disch := (intros; (repeat' split) <;> try simp -implicitDefEqProofs (disch := (intros; (repeat' split) <;> try simp -implicitDefEqProofs [-List.foldl_cons, -List.foldl_nil, foldl_isl, foldlP_isl, apply_ite State.isl])) [-List.foldl_cons, -List.foldl_nil, foldl_isl, foldlP_isl, apply_ite State.isl])) [-List.foldl_cons, -List.foldl_nil, foldl_isl, foldlP_isl, apply_ite State.isl]; done)))
@[simp] theorem State.actCommit_isl (s : State) (q : Nat) (step : Nat) (sum : Int) : (State.actCommit s q step sum).isl = s.isl := by
  simp -implicitDefEqProofs only [State.actCommit, State.setPart_isl, State.releaseGrads_isl, foldl_isl, foldlP_isl, implies_true, apply_ite State.isl, ite_self]
@[simp] theorem State.actGraft_isl (s : State) (q : Nat) (v : Nat) (step : Nat) (count : Nat) : (State.actGraft s q v step count).isl = s.isl := by
  (simp -implicitDefEqProofs only [State.actGraft]; (repeat' split) <;> (first | (with_reducible rfl) | simp -implicitDefEqProofs only [State.setPart_isl, State.raise_isl, apply_ite State.isl, ite_self]))
@[simp] theorem State.actClose_isl (s : State) (q : Nat) (l : List (Nat × Nat)) (c : VoteSum) : (State.actClose s q l c).isl = s.isl := by
  simp -implicitDefEqProofs only [State.actClose, State.count_isl, State.settle_isl, foldl_isl, foldlP_isl, implies_true]
@[simp] theorem State.actVote_isl (s : State) (q : Nat) (code : Nat) (v : Nat) (step : Nat) (about : List (Nat × Nat)) (c : VoteSum) : (State.actVote s q code v step about c).isl = s.isl := by
  simp -implicitDefEqProofs only [State.actVote, State.count_isl, State.actPrecision_isl, State.actLoss_isl, State.actActivation_isl, State.actCommit_isl, State.actGraft_isl, State.actClose_isl, apply_ite State.isl, ite_self]
@[simp] theorem State.noCert_isl (s : State) (q : Nat) (code : Nat) (v : Nat) (step : Nat) : (State.noCert s q code v step).isl = s.isl := by
  simp -implicitDefEqProofs only [State.noCert, State.voteFail_isl, State.actGraft_isl, apply_ite State.isl, ite_self]
@[simp] theorem State.closeVote_isl (s : State) (q : Nat) (code : Nat) (frame : Nat) (step : Nat) : (State.closeVote s q code frame step).isl = s.isl := by
  (simp -implicitDefEqProofs only [State.closeVote]; (repeat' split) <;> (first | (with_reducible rfl) | simp -implicitDefEqProofs only [State.bump_isl, State.count_isl, State.setVote_isl, State.actVote_isl, State.noCert_isl, foldl_isl, foldlP_isl, implies_true, apply_ite State.isl, ite_self]))
@[simp] theorem State.actVotes_isl (s : State) (q : Nat) (n : Nat) : (State.actVotes s q n).isl = s.isl := by
  simp -implicitDefEqProofs only [State.actVotes, State.closeVote_isl, foldl_isl, foldlP_isl, implies_true]
@[simp] theorem State.nextEntry_isl (b : Nat) (c : Nat) (e : Nat) (z0 : List Issue) (z1 : Nat) (z2 : State) : (State.nextEntry b c e z0 z1 z2).1.isl = z2.isl := by
  induction z0 generalizing z1 z2 with
  | nil => simp -implicitDefEqProofs [State.nextEntry]
  | cons i t ih =>
    simp -implicitDefEqProofs only [State.nextEntry]
    split
    · exact ih _ _
    · split
      · rw [ih]; simp -implicitDefEqProofs
      · simp -implicitDefEqProofs
@[simp] theorem State.slip_isl (s : State) (n : Nat) (d : Nat) : (State.slip s n d).isl = s.isl := by
  simp -implicitDefEqProofs only [State.slip, State.put_isl, State.bump_isl, apply_ite State.isl, ite_self]
@[simp] theorem State.started_isl (s : State) (b : Nat) (c : Nat) (e : Nat) (i : Issue) (k : Nat) (at_ : Nat) (len : Nat) : (State.started s b c e i k at_ len).isl = s.isl := by
  simp -implicitDefEqProofs only [State.started, State.put_isl, State.bump_isl, State.setCores_isl, State.slip_isl]
@[simp] theorem State.dueEntry_isl (s : State) (b : Nat) (c : Nat) (e : Nat) (ready : Nat) : (State.dueEntry s b c e ready).1.isl = s.isl := by
  (simp -implicitDefEqProofs only [State.dueEntry]; (repeat' split) <;> (first | (with_reducible rfl) | simp -implicitDefEqProofs only [State.nextEntry_isl, apply_ite State.isl, ite_self]))
@[simp] theorem State.putPos_isl (s : State) (n : Nat) (slot : Nat) (j : Nat) (p : Pos) : (State.putPos s n slot j p).isl = s.isl := by
  simp -implicitDefEqProofs only [State.putPos, State.localPut_isl]
@[simp] theorem State.operandFaults_isl (s : State) (b : Nat) (c : Nat) (o : Operand) : (State.operandFaults s b c o).isl = s.isl := by
  simp -implicitDefEqProofs only [State.operandFaults, State.tileFaulted_isl, foldl_isl, foldlP_isl, implies_true]
@[simp] theorem State.openSlots_isl (s : State) (n : Nat) (ctx : Nat) (m : MatBlk) (o : Desc) : (State.openSlots s n ctx m o).isl = s.isl := by
  simp -implicitDefEqProofs only [State.openSlots, State.setSlot_isl, State.taint_isl, foldl_isl, foldlP_isl, implies_true, apply_ite State.isl, ite_self]
@[simp] theorem State.countSats_isl (s : State) (n : Nat) (k : Nat) : (State.countSats s n k).isl = s.isl := by
  simp -implicitDefEqProofs only [State.countSats, State.put_isl, State.setCores_isl, apply_ite State.isl, ite_self]
@[simp] theorem State.putAll_isl (s : State) (b : Nat) (c : Nat) (e : Nat) (i : Issue) (k : Nat) (m : MatBlk) (p : MatProd) (count : Nat) (ends : List Nat) (start : Nat) (l : List ((Nat × Nat) × Nat × Nat × Pos)) : (State.putAll s b c e i k m p count ends start l).isl = s.isl := by
  (simp -implicitDefEqProofs only [State.putAll]; (repeat' split) <;> (first | (with_reducible rfl) | simp -implicitDefEqProofs only [State.raiseFlags_isl, State.captureNf_isl, State.putPos_isl, State.countSats_isl, foldl_isl, foldlP_isl, implies_true]))
@[simp] theorem State.matrixRun_isl (s : State) (b : Nat) (c : Nat) (e : Nat) (i : Issue) (k : Nat) (at_ : Nat) (m : MatBlk) : (State.matrixRun s b c e i k at_ m).isl = s.isl := by
  simp -implicitDefEqProofs only [State.matrixRun, State.bump_isl, State.setSlot_isl, State.count_isl, State.operandFaults_isl, State.openSlots_isl, State.putAll_isl]
@[simp] theorem State.countSamples_isl (s : State) (b : Nat) (n : Nat) : (State.countSamples s b n).isl = s.isl := by
  (simp -implicitDefEqProofs only [State.countSamples]; (repeat' split) <;> (first | (with_reducible rfl) | simp -implicitDefEqProofs only [State.put_isl, State.openStep_isl]))
@[simp] theorem State.normEntry_isl (s : State) (b : Nat) (c : Nat) (e : Nat) (iss : Issue) (k : Nat) (cycle : Nat) (m : MatBlk) (j : Nat) (bad : Bool) (sums : List (List Nat)) : (State.normEntry s b c e iss k cycle m j bad sums).isl = s.isl := by
  simp -implicitDefEqProofs only [State.normEntry, State.localPut_isl, State.result_isl, apply_ite State.isl, ite_self]
theorem State.gramPut_isl (s u : State) (b c e : Nat) (iss : Issue) (k : Nat) (m : MatBlk) (i start : Nat) :
    (s.gramPut u b c e iss k m i start).1.isl = u.isl := by
  unfold State.gramPut
  dsimp only
  rw [foldlP_isl _ (fun u c a => by simp -implicitDefEqProofs only [State.putAll_isl])]
@[simp] theorem State.normRun_isl (s : State) (b : Nat) (c : Nat) (e : Nat) (i : Issue) (k : Nat) (at_ : Nat) (m : MatBlk) : (State.normRun s b c e i k at_ m).isl = s.isl := by
  simp -implicitDefEqProofs only [State.normRun, State.bump_isl, State.setSlot_isl]
  rw [foldlP_isl _ (fun u c a => by simp -implicitDefEqProofs only [State.normEntry_isl, State.gramPut_isl])]
  simp -implicitDefEqProofs only [State.openSlots_isl, State.countSamples_isl, foldl_isl, State.operandFaults_isl, implies_true]
theorem execMatrixInstructionBlock_isl (bed : Bed) (core : Core) (engine : Fin 3) (ready : Nat) (s : State) : ∀ t, (execMatrixInstructionBlock bed core engine ready s) = .next t → t.isl = s.isl := by
  intro t ht
  simp -implicitDefEqProofs only [execMatrixInstructionBlock] at ht
  split at ht
  · rename_i heq
    have h0 := congrArg (fun q => State.isl q.1) heq
    simp only [State.dueEntry_isl] at h0
    cases ht; exact h0.symm
  · rename_i heq
    have h0 := congrArg (fun q => State.isl q.1) heq
    simp only [State.dueEntry_isl] at h0
    cases ht
    simp -implicitDefEqProofs only [State.setCores_isl, State.result_isl, apply_ite State.isl, State.normRun_isl, State.matrixRun_isl, State.started_isl, ite_self, h0]
@[simp] theorem State.endSpill_isl (s : State) (b : Nat) (c : Nat) (e : Nat) (r : Running) (m : MatBlk) : (State.endSpill s b c e r m).isl = s.isl := by
  simp -implicitDefEqProofs only [State.endSpill, State.setSlot_isl, State.count_isl, State.result_isl, State.putPos_isl, foldl_isl, foldlP_isl, implies_true, apply_ite State.isl, ite_self]
theorem execMatrixBlockEnd_isl (bed : Bed) (core : Core) (engine : Fin 3) (s : State) : ∀ t, (execMatrixBlockEnd bed core engine s) = .next t → t.isl = s.isl := by
  intro t ht; simp -implicitDefEqProofs only [execMatrixBlockEnd] at ht; (repeat' split at ht) <;> (first | (rw [← Host.Outcome.next.inj ht]; done) | (rw [← Host.Outcome.next.inj ht]; simp -implicitDefEqProofs only [State.put_isl, State.setCores_isl, State.release_isl, State.endSpill_isl, apply_ite State.isl, ite_self]; done))
@[simp] theorem State.setVreg_isl (s : State) (n : Nat) (r : Nat) (l : Nat) (v : W32) : (State.setVreg s n r l v).isl = s.isl := by
  simp -implicitDefEqProofs only [State.setVreg, State.put_isl, State.setCores_isl]
@[simp] theorem State.laneOut_isl (s : State) (w : VWhere) (i : VArgs) (source : Nat) (l : Nat) (r : LaneResult) : (State.laneOut s w i source l r).isl = s.isl := by
  simp -implicitDefEqProofs only [State.laneOut, State.result_isl, State.setVreg_isl]
theorem State.vectorOp_isl (s : State) (w : VWhere) (i : VArgs) (f : Nat → Nat → Nat → LaneResult) : ∀ t, (State.vectorOp s w i f) = .next t → t.isl = s.isl := by
  intro t ht; simp -implicitDefEqProofs only [State.vectorOp] at ht; (repeat' split at ht) <;> (first | (rw [← Host.Outcome.next.inj ht]; done) | (rw [← Host.Outcome.next.inj ht]; simp -implicitDefEqProofs only [State.laneOut_isl, foldl_isl, foldlP_isl, implies_true, apply_ite State.isl, ite_self]; done) | (cases ht; done))
@[simp] theorem State.vecLoad_isl (s : State) (w : VWhere) (i : VArgs) : (State.vecLoad s w i).isl = s.isl := by
  simp -implicitDefEqProofs only [State.vecLoad, State.tileFaulted_isl, State.laneOut_isl, foldl_isl, foldlP_isl, implies_true]
@[simp] theorem State.vecStore_isl (s : State) (w : VWhere) (i : VArgs) : (State.vecStore s w i).isl = s.isl := by
  simp -implicitDefEqProofs only [State.vecStore, State.put_isl, State.setCores_isl, foldl_isl, foldlP_isl, implies_true, apply_ite State.isl, ite_self]
theorem execVAdd_isl (w : VWhere) (i : VArgs) (s : State) : ∀ t, (execVAdd w i s) = .next t → t.isl = s.isl := by
  intro t ht; simp -implicitDefEqProofs only [execVAdd] at ht; exact State.vectorOp_isl _ _ _ _ _ ht
theorem execVSub_isl (w : VWhere) (i : VArgs) (s : State) : ∀ t, (execVSub w i s) = .next t → t.isl = s.isl := by
  intro t ht; simp -implicitDefEqProofs only [execVSub] at ht; exact State.vectorOp_isl _ _ _ _ _ ht
theorem execVMul_isl (w : VWhere) (i : VArgs) (s : State) : ∀ t, (execVMul w i s) = .next t → t.isl = s.isl := by
  intro t ht; simp -implicitDefEqProofs only [execVMul] at ht; exact State.vectorOp_isl _ _ _ _ _ ht
theorem execVFma_isl (w : VWhere) (i : VArgs) (s : State) : ∀ t, (execVFma w i s) = .next t → t.isl = s.isl := by
  intro t ht; simp -implicitDefEqProofs only [execVFma] at ht; exact State.vectorOp_isl _ _ _ _ _ ht
theorem execVMin_isl (w : VWhere) (i : VArgs) (s : State) : ∀ t, (execVMin w i s) = .next t → t.isl = s.isl := by
  intro t ht; simp -implicitDefEqProofs only [execVMin] at ht; exact State.vectorOp_isl _ _ _ _ _ ht
theorem execVMax_isl (w : VWhere) (i : VArgs) (s : State) : ∀ t, (execVMax w i s) = .next t → t.isl = s.isl := by
  intro t ht; simp -implicitDefEqProofs only [execVMax] at ht; exact State.vectorOp_isl _ _ _ _ _ ht
theorem execVAbs_isl (w : VWhere) (i : VArgs) (s : State) : ∀ t, (execVAbs w i s) = .next t → t.isl = s.isl := by
  intro t ht; simp -implicitDefEqProofs only [execVAbs] at ht; exact State.vectorOp_isl _ _ _ _ _ ht
theorem execVNeg_isl (w : VWhere) (i : VArgs) (s : State) : ∀ t, (execVNeg w i s) = .next t → t.isl = s.isl := by
  intro t ht; simp -implicitDefEqProofs only [execVNeg] at ht; exact State.vectorOp_isl _ _ _ _ _ ht
theorem execVCmplt_isl (w : VWhere) (i : VArgs) (s : State) : ∀ t, (execVCmplt w i s) = .next t → t.isl = s.isl := by
  intro t ht; simp -implicitDefEqProofs only [execVCmplt] at ht; exact State.vectorOp_isl _ _ _ _ _ ht
theorem execVCmpeq_isl (w : VWhere) (i : VArgs) (s : State) : ∀ t, (execVCmpeq w i s) = .next t → t.isl = s.isl := by
  intro t ht; simp -implicitDefEqProofs only [execVCmpeq] at ht; exact State.vectorOp_isl _ _ _ _ _ ht
theorem execVSel_isl (w : VWhere) (i : VArgs) (s : State) : ∀ t, (execVSel w i s) = .next t → t.isl = s.isl := by
  intro t ht; simp -implicitDefEqProofs only [execVSel] at ht; exact State.vectorOp_isl _ _ _ _ _ ht
theorem execVSqrt_isl (w : VWhere) (i : VArgs) (s : State) : ∀ t, (execVSqrt w i s) = .next t → t.isl = s.isl := by
  intro t ht; simp -implicitDefEqProofs only [execVSqrt] at ht; exact State.vectorOp_isl _ _ _ _ _ ht
theorem execVRcp_isl (w : VWhere) (i : VArgs) (s : State) : ∀ t, (execVRcp w i s) = .next t → t.isl = s.isl := by
  intro t ht; simp -implicitDefEqProofs only [execVRcp] at ht; exact State.vectorOp_isl _ _ _ _ _ ht
theorem execVRsqrt_isl (w : VWhere) (i : VArgs) (s : State) : ∀ t, (execVRsqrt w i s) = .next t → t.isl = s.isl := by
  intro t ht; simp -implicitDefEqProofs only [execVRsqrt] at ht; exact State.vectorOp_isl _ _ _ _ _ ht
theorem execVExp2_isl (w : VWhere) (i : VArgs) (s : State) : ∀ t, (execVExp2 w i s) = .next t → t.isl = s.isl := by
  intro t ht; simp -implicitDefEqProofs only [execVExp2] at ht; exact State.vectorOp_isl _ _ _ _ _ ht
theorem execVLog2_isl (w : VWhere) (i : VArgs) (s : State) : ∀ t, (execVLog2 w i s) = .next t → t.isl = s.isl := by
  intro t ht; simp -implicitDefEqProofs only [execVLog2] at ht; exact State.vectorOp_isl _ _ _ _ _ ht
theorem execVCvtInt32_isl (w : VWhere) (i : VArgs) (s : State) : ∀ t, (execVCvtInt32 w i s) = .next t → t.isl = s.isl := by
  intro t ht; simp -implicitDefEqProofs only [execVCvtInt32] at ht; exact State.vectorOp_isl _ _ _ _ _ ht
theorem execVCvtBf16_isl (w : VWhere) (i : VArgs) (s : State) : ∀ t, (execVCvtBf16 w i s) = .next t → t.isl = s.isl := by
  intro t ht; simp -implicitDefEqProofs only [execVCvtBf16] at ht; exact State.vectorOp_isl _ _ _ _ _ ht
theorem execVIadd_isl (w : VWhere) (i : VArgs) (s : State) : ∀ t, (execVIadd w i s) = .next t → t.isl = s.isl := by
  intro t ht; simp -implicitDefEqProofs only [execVIadd] at ht; exact State.vectorOp_isl _ _ _ _ _ ht
theorem execVAnd_isl (w : VWhere) (i : VArgs) (s : State) : ∀ t, (execVAnd w i s) = .next t → t.isl = s.isl := by
  intro t ht; simp -implicitDefEqProofs only [execVAnd] at ht; exact State.vectorOp_isl _ _ _ _ _ ht
theorem execVOr_isl (w : VWhere) (i : VArgs) (s : State) : ∀ t, (execVOr w i s) = .next t → t.isl = s.isl := by
  intro t ht; simp -implicitDefEqProofs only [execVOr] at ht; exact State.vectorOp_isl _ _ _ _ _ ht
theorem execVXor_isl (w : VWhere) (i : VArgs) (s : State) : ∀ t, (execVXor w i s) = .next t → t.isl = s.isl := by
  intro t ht; simp -implicitDefEqProofs only [execVXor] at ht; exact State.vectorOp_isl _ _ _ _ _ ht
theorem execVShl_isl (w : VWhere) (i : VArgs) (s : State) : ∀ t, (execVShl w i s) = .next t → t.isl = s.isl := by
  intro t ht; simp -implicitDefEqProofs only [execVShl] at ht; exact State.vectorOp_isl _ _ _ _ _ ht
theorem execVShr_isl (w : VWhere) (i : VArgs) (s : State) : ∀ t, (execVShr w i s) = .next t → t.isl = s.isl := by
  intro t ht; simp -implicitDefEqProofs only [execVShr] at ht; exact State.vectorOp_isl _ _ _ _ _ ht
theorem execVectorLoad_isl (w : VWhere) (i : VArgs) (s : State) : ∀ t, (execVectorLoad w i s) = .next t → t.isl = s.isl := by
  intro t ht; simp -implicitDefEqProofs only [execVectorLoad] at ht; (repeat' split at ht) <;> (first | (rw [← Host.Outcome.next.inj ht]; done) | (rw [← Host.Outcome.next.inj ht]; simp -implicitDefEqProofs only [State.vecLoad_isl, apply_ite State.isl, ite_self]; done) | (cases ht; done))
theorem execVectorStore_isl (w : VWhere) (i : VArgs) (s : State) : ∀ t, (execVectorStore w i s) = .next t → t.isl = s.isl := by
  intro t ht; simp -implicitDefEqProofs only [execVectorStore] at ht; (repeat' split at ht) <;> (first | (rw [← Host.Outcome.next.inj ht]; done) | (rw [← Host.Outcome.next.inj ht]; simp -implicitDefEqProofs only [State.vecStore_isl, apply_ite State.isl, ite_self]; done) | (cases ht; done))
/-- Every instruction's meaning that vecExec gives keeps it. -/
theorem vecExec_isl (op : Nat) (f) (hf : vecExec op = some f) (w : VWhere) (i : VArgs) (s t : State) (h : f w i s = .next t) : t.isl = s.isl := by
  unfold vecExec at hf
  by_cases h1 : op = 1
  · rw [if_pos h1] at hf; injection hf with hf; subst hf; exact execVAdd_isl _ _ _ _ h
  rw [if_neg h1] at hf
  by_cases h2 : op = 2
  · rw [if_pos h2] at hf; injection hf with hf; subst hf; exact execVSub_isl _ _ _ _ h
  rw [if_neg h2] at hf
  by_cases h3 : op = 3
  · rw [if_pos h3] at hf; injection hf with hf; subst hf; exact execVMul_isl _ _ _ _ h
  rw [if_neg h3] at hf
  by_cases h4 : op = 4
  · rw [if_pos h4] at hf; injection hf with hf; subst hf; exact execVFma_isl _ _ _ _ h
  rw [if_neg h4] at hf
  by_cases h5 : op = 5
  · rw [if_pos h5] at hf; injection hf with hf; subst hf; exact execVMin_isl _ _ _ _ h
  rw [if_neg h5] at hf
  by_cases h6 : op = 6
  · rw [if_pos h6] at hf; injection hf with hf; subst hf; exact execVMax_isl _ _ _ _ h
  rw [if_neg h6] at hf
  by_cases h7 : op = 7
  · rw [if_pos h7] at hf; injection hf with hf; subst hf; exact execVAbs_isl _ _ _ _ h
  rw [if_neg h7] at hf
  by_cases h8 : op = 8
  · rw [if_pos h8] at hf; injection hf with hf; subst hf; exact execVNeg_isl _ _ _ _ h
  rw [if_neg h8] at hf
  by_cases h9 : op = 9
  · rw [if_pos h9] at hf; injection hf with hf; subst hf; exact execVCmplt_isl _ _ _ _ h
  rw [if_neg h9] at hf
  by_cases h10 : op = 10
  · rw [if_pos h10] at hf; injection hf with hf; subst hf; exact execVCmpeq_isl _ _ _ _ h
  rw [if_neg h10] at hf
  by_cases h11 : op = 11
  · rw [if_pos h11] at hf; injection hf with hf; subst hf; exact execVSel_isl _ _ _ _ h
  rw [if_neg h11] at hf
  by_cases h12 : op = 12
  · rw [if_pos h12] at hf; injection hf with hf; subst hf; exact execVSqrt_isl _ _ _ _ h
  rw [if_neg h12] at hf
  by_cases h13 : op = 13
  · rw [if_pos h13] at hf; injection hf with hf; subst hf; exact execVRcp_isl _ _ _ _ h
  rw [if_neg h13] at hf
  by_cases h14 : op = 14
  · rw [if_pos h14] at hf; injection hf with hf; subst hf; exact execVRsqrt_isl _ _ _ _ h
  rw [if_neg h14] at hf
  by_cases h15 : op = 15
  · rw [if_pos h15] at hf; injection hf with hf; subst hf; exact execVExp2_isl _ _ _ _ h
  rw [if_neg h15] at hf
  by_cases h16 : op = 16
  · rw [if_pos h16] at hf; injection hf with hf; subst hf; exact execVLog2_isl _ _ _ _ h
  rw [if_neg h16] at hf
  by_cases h17 : op = 17
  · rw [if_pos h17] at hf; injection hf with hf; subst hf; exact execVCvtInt32_isl _ _ _ _ h
  rw [if_neg h17] at hf
  by_cases h18 : op = 18
  · rw [if_pos h18] at hf; injection hf with hf; subst hf; exact execVCvtBf16_isl _ _ _ _ h
  rw [if_neg h18] at hf
  by_cases h19 : op = 19
  · rw [if_pos h19] at hf; injection hf with hf; subst hf; exact execVIadd_isl _ _ _ _ h
  rw [if_neg h19] at hf
  by_cases h20 : op = 20
  · rw [if_pos h20] at hf; injection hf with hf; subst hf; exact execVAnd_isl _ _ _ _ h
  rw [if_neg h20] at hf
  by_cases h21 : op = 21
  · rw [if_pos h21] at hf; injection hf with hf; subst hf; exact execVOr_isl _ _ _ _ h
  rw [if_neg h21] at hf
  by_cases h22 : op = 22
  · rw [if_pos h22] at hf; injection hf with hf; subst hf; exact execVXor_isl _ _ _ _ h
  rw [if_neg h22] at hf
  by_cases h23 : op = 23
  · rw [if_pos h23] at hf; injection hf with hf; subst hf; exact execVShl_isl _ _ _ _ h
  rw [if_neg h23] at hf
  by_cases h24 : op = 24
  · rw [if_pos h24] at hf; injection hf with hf; subst hf; exact execVShr_isl _ _ _ _ h
  rw [if_neg h24] at hf
  by_cases h32 : op = 32
  · rw [if_pos h32] at hf; injection hf with hf; subst hf; exact execVectorLoad_isl _ _ _ _ h
  rw [if_neg h32] at hf
  by_cases h33 : op = 33
  · rw [if_pos h33] at hf; injection hf with hf; subst hf; exact execVectorStore_isl _ _ _ _ h
  rw [if_neg h33] at hf
  cases hf
theorem runProgram_isl (w : VWhere) (z0 : Nat) (z1 : List (Nat × VArgs)) (z2 : State) : ∀ t, (runProgram w z0 z1 z2) = .next t → t.isl = z2.isl := by
  induction z1 generalizing z0 z2 with
  | nil => intro t ht; simp only [runProgram] at ht; cases ht; rfl
  | cons a rest ih =>
    intro t ht
    obtain ⟨op, i⟩ := a
    simp only [runProgram] at ht
    split at ht
    · cases ht
    · rename_i f hf
      split at ht
      · rename_i s' hs
        rw [ih _ _ t ht]
        exact vecExec_isl op f hf _ _ _ _ hs
      · cases ht
      · cases ht
theorem execVectorInstructionBlock_isl (bed : Bed) (core : Core) (backward : Bool) (ready : Nat) (s : State) : ∀ t, (execVectorInstructionBlock bed core backward ready s) = .next t → t.isl = s.isl := by
  intro t ht
  simp -implicitDefEqProofs only [execVectorInstructionBlock] at ht
  split at ht
  · rename_i heq
    have h0 := congrArg (fun q => State.isl q.1) heq
    simp only [State.dueEntry_isl] at h0
    cases ht; exact h0.symm
  · rename_i heq
    have h0 := congrArg (fun q => State.isl q.1) heq
    simp only [State.dueEntry_isl] at h0
    split at ht
    · rename_i h2
      have h3 := runProgram_isl _ _ _ _ _ h2
      cases ht
      simp only [State.put_isl, h3, State.started_isl, h0]
    · rename_i h2
      exact absurd ht (by intro h; exact h2 _ h)
@[simp] theorem State.watchAdd_isl (s : State) (b : Nat) (d : Desc) (counts : List Nat) : (State.watchAdd s b d counts).isl = s.isl := by
  simp -implicitDefEqProofs only [State.watchAdd, State.put_isl, State.setCores_isl, foldl_isl, foldlP_isl, implies_true, apply_ite State.isl, ite_self]
@[simp] theorem State.quantEvt_isl (s : State) (b : Nat) (d : Desc) (step : Nat) (bit : Nat) (on : Bool) : (State.quantEvt s b d step bit on).isl = s.isl := by
  simp -implicitDefEqProofs only [State.quantEvt, State.record_isl, State.evt_isl, State.onceDo_isl, implies_true, apply_ite State.isl, ite_self]
@[simp] theorem State.watchNorm_isl (s : State) (b : Nat) (c : Nat) (d : Desc) (order : List Nat) (x : List Nat) : (State.watchNorm s b c d order x).isl = s.isl := by
  simp -implicitDefEqProofs only [State.watchNorm, State.put_isl, State.setCores_isl, State.raiseFlags_isl, apply_ite State.isl, ite_self]
@[simp] theorem State.watchAmax_isl (s : State) (b : Nat) (d : Desc) (x : List Nat) : (State.watchAmax s b d x).isl = s.isl := by
  simp -implicitDefEqProofs only [State.watchAmax, State.put_isl, State.setCores_isl, foldl_isl, foldlP_isl, implies_true, apply_ite State.isl, ite_self]
@[simp] theorem State.quantWrite_isl (s : State) (b : Nat) (d : Desc) (addr : Nat) (bs : List Byte) (poison : Bool) : (State.quantWrite s b d addr bs poison).isl = s.isl := by
  simp -implicitDefEqProofs only [State.quantWrite, State.writeSpan_isl, State.release_isl]
@[simp] theorem State.quantScaled_isl (s : State) (b : Nat) (c : Nat) (d : Desc) (r : Released) (x : List Nat) (tee : Nat) : (State.quantScaled s b c d r x tee).isl = s.isl := by
  (simp -implicitDefEqProofs only [State.quantScaled]; (repeat' split) <;> (first | (with_reducible rfl) | simp -implicitDefEqProofs only [State.readSpan_isl, State.writeSpan_isl, State.raiseFlags_isl, State.watchAdd_isl, State.quantEvt_isl, State.watchAmax_isl, State.quantWrite_isl, foldl_isl, foldlP_isl, implies_true, apply_ite State.isl, ite_self]))
@[simp] theorem State.quantPlain_isl (s : State) (b : Nat) (c : Nat) (d : Desc) (r : Released) (x : List Nat) : (State.quantPlain s b c d r x).isl = s.isl := by
  simp -implicitDefEqProofs only [State.quantPlain, State.raiseFlags_isl, State.watchAdd_isl, State.quantWrite_isl, apply_ite State.isl, ite_self]
@[simp] theorem State.quantI16_isl (s : State) (b : Nat) (c : Nat) (desc : Nat) (d : Desc) (r : Released) (x : List Nat) (e : Int) : (State.quantI16 s b c desc d r x e).isl = s.isl := by
  simp -implicitDefEqProofs only [State.quantI16, State.raiseFlags_isl, State.contribute_isl, State.watchAdd_isl, apply_ite State.isl, ite_self]
@[simp] theorem State.quantCopy_isl (s : State) (b : Nat) (c : Nat) (r : Released) (d : Desc) (x : List Nat) : (State.quantCopy s b c r d x).isl = s.isl := by
  simp -implicitDefEqProofs only [State.quantCopy, State.watchNorm_isl, State.quantScaled_isl]
@[simp] theorem State.quantTile_isl (s : State) (b : Nat) (c : Nat) (r : Released) (e : Int) : (State.quantTile s b c r e).isl = s.isl := by
  (simp -implicitDefEqProofs only [State.quantTile]; (repeat' split) <;> (first | (with_reducible rfl) | simp -implicitDefEqProofs only [State.freeSlots_isl, State.raiseFlags_isl, State.watchNorm_isl, State.quantScaled_isl, State.quantPlain_isl, State.quantI16_isl, State.quantCopy_isl, apply_ite State.isl, ite_self]))
@[simp] theorem State.setReleased_isl (s : State) (n : Nat) (l : List Released) : (State.setReleased s n l).isl = s.isl := by
  simp -implicitDefEqProofs only [State.setReleased, State.put_isl, State.setCores_isl]
theorem execQuantiseTile_isl (bed : Bed) (core : Core) (s : State) : ∀ t, (execQuantiseTile bed core s) = .next t → t.isl = s.isl := by
  intro t ht; simp -implicitDefEqProofs only [execQuantiseTile] at ht; (repeat' split at ht) <;> (first | (rw [← Host.Outcome.next.inj ht]; done) | (rw [← Host.Outcome.next.inj ht]; simp -implicitDefEqProofs only [State.freeSlots_isl, State.slip_isl, State.quantTile_isl, State.setReleased_isl, apply_ite State.isl, ite_self]; done))
@[simp] theorem State.closeWatch_isl (s : State) (b : Nat) : (State.closeWatch s b).isl = s.isl := by
  simp -implicitDefEqProofs only [State.closeWatch, State.setCores_isl]
@[simp] theorem State.normFlags_isl (s : State) (b : Nat) : (State.normFlags s b).isl = s.isl := by
  simp -implicitDefEqProofs only [State.normFlags, State.raiseFlags_isl, foldl_isl, foldlP_isl, implies_true]
@[simp] theorem State.watchSnap_isl (s : State) (b : Nat) (step : Nat) : (State.watchSnap s b step).isl = s.isl := by
  simp -implicitDefEqProofs only [State.watchSnap, State.put_isl, State.resetFields_isl, State.closeWatch_isl, State.normFlags_isl, foldl_isl, foldlP_isl, implies_true]
@[simp] theorem State.normSlot_isl (s : State) (q : Nat) (beds : List Nat) (slot : Nat) : (State.normSlot s q beds slot).1.isl = s.isl := by
  (simp -implicitDefEqProofs only [State.normSlot]; (repeat' split) <;> (first | (with_reducible rfl) | simp -implicitDefEqProofs only [State.put_isl, State.setPart_isl, State.raise_isl, foldl_isl, foldlP_isl, implies_true, apply_ite State.isl, ite_self]))
@[simp] theorem State.norms_isl (s : State) (q : Nat) (beds : List Nat) : (State.norms s q beds).1.isl = s.isl := by
  simp -implicitDefEqProofs only [State.norms, State.resetFields_isl, State.normSlot_isl, foldl_isl, foldlP_isl, implies_true, apply_ite State.isl, ite_self]
@[simp] theorem State.localTrips_isl (s : State) (q : Nat) (beds : List Nat) (jumps : List Nat) : (State.localTrips s q beds jumps).isl = s.isl := by
  simp -implicitDefEqProofs (disch := (intros; (repeat' split) <;> try simp -implicitDefEqProofs only [State.setPart_isl, State.raise_isl, foldl_isl, foldlP_isl, implies_true, apply_ite State.isl, ite_self])) only [State.localTrips, State.setPart_isl, State.raise_isl, foldl_isl, foldlP_isl, implies_true, apply_ite State.isl, ite_self]
@[simp] theorem State.nextScale_isl (s : State) (k : Nat × Nat) (amax : Nat) : (State.nextScale s k amax).isl = s.isl := by
  (simp -implicitDefEqProofs only [State.nextScale]; (repeat' split) <;> (first | (with_reducible rfl) | simp -implicitDefEqProofs only [State.put_isl, State.setCores_isl, State.count_isl, apply_ite State.isl, ite_self]))
@[simp] theorem State.nextScales_isl (s : State) (j : Nat) : (State.nextScales s j).isl = s.isl := by
  simp -implicitDefEqProofs only [State.nextScales, State.setCores_isl, State.nextScale_isl, foldl_isl, foldlP_isl, implies_true]
@[simp] theorem State.moveState_isl (s : State) (lp : Page) (layer : Nat) (st : Nat) (step : Nat) : (State.moveState s lp layer st step).isl = s.isl := by
  simp -implicitDefEqProofs only [State.moveState, State.put_isl, apply_ite State.isl, ite_self]
@[simp] theorem State.enterLayer_isl (s : State) (lp : Page) (layer : Nat) (st : Nat) (step : Nat) (byRetry : Nat) (shift : Nat) : (State.enterLayer s lp layer st step byRetry shift).isl = s.isl := by
  simp -implicitDefEqProofs only [State.enterLayer, State.put_isl]
@[simp] theorem State.noteMove_isl (s : State) (q : Nat) (layer : Nat) (step : Nat) : (State.noteMove s q layer step).isl = s.isl := by
  simp -implicitDefEqProofs only [State.noteMove, State.setPart_isl, State.moved_isl]
@[simp] theorem State.moveLayer_isl (s : State) (q : Nat) (f : File) (layer : Nat) (st : Nat) (step : Nat) (byRetry : Nat) (shift : Nat) : (State.moveLayer s q f layer st step byRetry shift).isl = s.isl := by
  simp -implicitDefEqProofs only [State.moveLayer, State.record_isl, State.enterLayer_isl, State.noteMove_isl, apply_ite State.isl, ite_self]
@[simp] theorem State.evalLayer_isl (s : State) (q : Nat) (f : File) (layer : Nat) (step : Nat) : (State.evalLayer s q f layer step).isl = s.isl := by
  simp -implicitDefEqProofs only [State.evalLayer, State.put_isl, State.bump_isl, State.record_isl, State.moveLayer_isl, apply_ite State.isl, ite_self]
@[simp] theorem State.evalLayers_isl (s : State) (q : Nat) (step : Nat) : (State.evalLayers s q step).isl = s.isl := by
  simp -implicitDefEqProofs only [State.evalLayers, State.setPart_isl, State.evalLayer_isl, foldl_isl, foldlP_isl, implies_true, apply_ite State.isl, ite_self]
@[simp] theorem State.showSteps_isl (s : State) : (State.showSteps s).isl = s.isl := by
  simp -implicitDefEqProofs only [State.showSteps, State.put_isl]
@[simp] theorem State.setStack_isl (s : State) (l : List Nat) : (State.setStack s l).isl = s.isl := by
  simp -implicitDefEqProofs only [State.setStack, State.showSteps_isl]
@[simp] theorem State.takePlan_isl (s : State) : (State.takePlan s).isl = s.isl := by
  simp -implicitDefEqProofs only [State.takePlan, State.put_isl, State.record_isl, State.raise_isl, foldl_isl, foldlP_isl, implies_true, apply_ite State.isl, ite_self]
@[simp] theorem State.takeCap_isl (s : State) : (State.takeCap s).isl = s.isl := by
  (simp -implicitDefEqProofs only [State.takeCap]; (repeat' split) <;> (first | (with_reducible rfl) | simp -implicitDefEqProofs only [State.raise_isl, State.setStack_isl, apply_ite State.isl, ite_self]))
@[simp] theorem State.setClock_isl (s : State) : (State.setClock s).isl = s.isl := by
  simp -implicitDefEqProofs only [State.setClock, State.put_isl, State.setPower_isl, apply_ite State.isl, ite_self]
@[simp] theorem State.applyClock_isl (s : State) : (State.applyClock s).isl = s.isl := by
  simp -implicitDefEqProofs only [State.applyClock, State.put_isl, State.takePlan_isl, State.takeCap_isl, State.setClock_isl, apply_ite State.isl, ite_self]
@[simp] theorem State.openStretch_isl (s : State) (forced : Bool) : (State.openStretch s forced).isl = s.isl := by
  simp -implicitDefEqProofs only [State.openStretch]
@[simp] theorem State.sampleWatts_isl (s : State) : (State.sampleWatts s).isl = s.isl := by
  simp -implicitDefEqProofs only [State.sampleWatts, State.put_isl, State.draw_isl]
@[simp] theorem State.raiseTrim_isl (s : State) : (State.raiseTrim s).isl = s.isl := by
  simp -implicitDefEqProofs only [State.raiseTrim, State.put_isl, State.raise_isl, apply_ite State.isl, ite_self]
@[simp] theorem State.trimTick_isl (s : State) : (State.trimTick s).isl = s.isl := by
  simp -implicitDefEqProofs only [State.trimTick, State.raiseTrim_isl, apply_ite State.isl, ite_self]
@[simp] theorem State.clockTick_isl (s : State) : (State.clockTick s).isl = s.isl := by
  simp -implicitDefEqProofs only [State.clockTick, State.put_isl, State.bump_isl, State.raise_isl, State.applyClock_isl, State.openStretch_isl, apply_ite State.isl, ite_self]
theorem execCapRelease_isl (s : State) : ∀ t, (execCapRelease s) = .next t → t.isl = s.isl := by
  intro t ht; simp -implicitDefEqProofs only [execCapRelease] at ht; (repeat' split at ht) <;> (first | (rw [← Host.Outcome.next.inj ht]; done) | (rw [← Host.Outcome.next.inj ht]; simp -implicitDefEqProofs only [State.setStack_isl, State.setClock_isl, apply_ite State.isl, ite_self]; done))
@[simp] theorem State.passSkipped_isl (s : State) (b : Nat) : (State.passSkipped s b).isl = s.isl := by
  simp -implicitDefEqProofs only [State.passSkipped, State.onCores_isl, State.nextEntry_isl, foldl_isl, foldlP_isl, implies_true, apply_ite State.isl, ite_self]
@[simp] theorem State.countStalls_isl (s : State) (b : Nat) : (State.countStalls s b).isl = s.isl := by
  simp -implicitDefEqProofs only [State.countStalls, State.put_isl, State.bump_isl, State.onCores_isl, foldl_isl, foldlP_isl, implies_true, apply_ite State.isl, ite_self]
@[simp] theorem State.realign_isl (s : State) (b : Nat) : (State.realign s b).isl = s.isl := by
  simp -implicitDefEqProofs only [State.realign, State.bump_isl, State.setBed_isl, State.evt_isl, State.raise_isl, State.onCores_isl, State.stopRunning_isl, State.ctxReset_isl, State.setSeq_isl, foldl_isl, foldlP_isl, implies_true, apply_ite State.isl, ite_self]
@[simp] theorem State.overrun_isl (s : State) (b : Nat) : (State.overrun s b).isl = s.isl := by
  simp -implicitDefEqProofs only [State.overrun, State.bump_isl, State.setBed_isl, State.raise_isl, State.skipFrame_isl, State.setSeq_isl]
@[simp] theorem State.noteSlack_isl (s : State) (b : Nat) : (State.noteSlack s b).isl = s.isl := by
  simp -implicitDefEqProofs only [State.noteSlack, State.setBed_isl]
@[simp] theorem State.closeRun_isl (s : State) (b : Nat) : (State.closeRun s b).isl = s.isl := by
  simp -implicitDefEqProofs only [State.closeRun, State.idleBed_isl, State.passSkipped_isl, State.countStalls_isl, State.realign_isl, State.overrun_isl, State.noteSlack_isl, apply_ite State.isl, ite_self]
@[simp] theorem State.coarseSnap_isl (s : State) (b : Nat) : (State.coarseSnap s b).isl = s.isl := by
  simp -implicitDefEqProofs only [State.coarseSnap]
@[simp] theorem State.tickPages_isl (s : State) (b : Nat) : (State.tickPages s b).isl = s.isl := by
  simp -implicitDefEqProofs only [State.tickPages, State.tickPage_isl, foldl_isl, foldlP_isl, implies_true, apply_ite State.isl, ite_self]
@[simp] theorem State.dalStale_isl (s : State) (b : Nat) : (State.dalStale s b).isl = s.isl := by
  simp -implicitDefEqProofs (disch := (intros; (repeat' split) <;> try simp -implicitDefEqProofs only [State.bump_isl, State.raise_isl, State.setCache_isl, State.staleLine_isl, foldl_isl, foldlP_isl, implies_true, apply_ite State.isl, ite_self])) only [State.dalStale, State.bump_isl, State.raise_isl, State.setCache_isl, State.staleLine_isl, foldl_isl, foldlP_isl, implies_true, apply_ite State.isl, ite_self]
@[simp] theorem State.nfStep_isl (s : State) (b : Nat) (step : Nat) : (State.nfStep s b step).isl = s.isl := by
  (simp -implicitDefEqProofs only [State.nfStep]; (repeat' split) <;> (first | (with_reducible rfl) | simp -implicitDefEqProofs only [State.put_isl, State.setBed_isl, State.recordAt_isl, apply_ite State.isl, ite_self]))
@[simp] theorem State.bedBoundary_isl (s : State) (b : Nat) : (State.bedBoundary s b).isl = s.isl := by
  simp -implicitDefEqProofs only [State.bedBoundary, State.put_isl, State.setBed_isl, State.openStep_isl, State.nextScales_isl, State.dalStale_isl, State.nfStep_isl, apply_ite State.isl, ite_self]
@[simp] theorem State.creditUnit_isl (s : State) (q : Nat) (f : File) (u : Nat) (step : Nat) : (State.creditUnit s q f u step).isl = s.isl := by
  simp -implicitDefEqProofs only [State.creditUnit, State.put_isl, apply_ite State.isl, ite_self]
@[simp] theorem State.creditUnits_isl (s : State) (q : Nat) (step : Nat) : (State.creditUnits s q step).isl = s.isl := by
  simp -implicitDefEqProofs only [State.creditUnits, State.creditUnit_isl, foldl_isl, foldlP_isl, implies_true]
@[simp] theorem State.forgetUpdates_isl (s : State) (q : Nat) : (State.forgetUpdates s q).isl = s.isl := by
  simp -implicitDefEqProofs [State.forgetUpdates, -List.foldl_cons, -List.foldl_nil, foldl_isl, foldlP_isl]
@[simp] theorem State.latchGroups_isl (s : State) (q : Nat) (step : Nat) : (State.latchGroups s q step).isl = s.isl := by
  simp -implicitDefEqProofs [State.latchGroups, -List.foldl_cons, -List.foldl_nil, foldl_isl, foldlP_isl]
@[simp] theorem State.reseedFail_isl (s : State) (q : Nat) : (State.reseedFail s q).isl = s.isl := by
  simp -implicitDefEqProofs only [State.reseedFail, State.put_isl, State.record_isl, State.setNoise_isl]
@[simp] theorem State.reseedOk_isl (s : State) (q : Nat) : (State.reseedOk s q).isl = s.isl := by
  simp -implicitDefEqProofs only [State.reseedOk, State.put_isl, State.bump_isl, State.draw_isl, State.setNoise_isl]
@[simp] theorem State.retryNoise_isl (s : State) (q : Nat) : (State.retryNoise s q).isl = s.isl := by
  simp -implicitDefEqProofs only [State.retryNoise, State.reseedFail_isl, State.reseedOk_isl, apply_ite State.isl, ite_self]
@[simp] theorem State.partWatch_isl (s : State) (q : Nat) : (State.partWatch s q).isl = s.isl := by
  simp -implicitDefEqProofs only [State.partWatch, State.setCores_isl, State.norms_isl, State.localTrips_isl]
@[simp] theorem State.partBoundary_isl (s : State) (q : Nat) (step : Nat) : (State.partBoundary s q step).isl = s.isl := by
  simp -implicitDefEqProofs only [State.partBoundary, State.put_isl, State.setPart_isl, State.raise_isl, State.holdBeds_isl, State.nextScales_isl, State.evalLayers_isl, State.creditUnits_isl, State.latchGroups_isl, State.retryNoise_isl, apply_ite State.isl, ite_self]
@[simp] theorem State.putOwned_isl (s : State) (p : Page) (f : Fld) (v : Nat) (step : Nat) : (State.putOwned s p f v step).isl = s.isl := by
  simp -implicitDefEqProofs only [State.putOwned, State.put_isl, State.moveState_isl, State.noteMove_isl, apply_ite State.isl, ite_self]
@[simp] theorem State.writeOwned_isl (s : State) (mine : Page → Bool) (states : Bool) (step : Nat) (off : Nat) (v : Nat) : (State.writeOwned s mine states step off v).isl = s.isl := by
  (simp -implicitDefEqProofs only [State.writeOwned]; (repeat' split) <;> (first | (with_reducible rfl) | simp -implicitDefEqProofs only [State.putOwned_isl, foldl_isl, foldlP_isl, implies_true, apply_ite State.isl, ite_self]))
@[simp] theorem State.writeAllOwned_isl (s : State) (b : Nat) (f : File) (states : Bool) (step : Nat) : (State.writeAllOwned s b f states step).isl = s.isl := by
  simp -implicitDefEqProofs only [State.writeAllOwned, State.count_isl, State.writeOwned_isl, foldl_isl, foldlP_isl, implies_true]
@[simp] theorem State.loadGroups_isl (s : State) (q : Nat) (f : File) : (State.loadGroups s q f).isl = s.isl := by
  simp -implicitDefEqProofs only [State.loadGroups, State.put_isl, State.resetFields_isl, foldl_isl, foldlP_isl, implies_true, apply_ite State.isl, ite_self]
@[simp] theorem State.zeroCounters_isl (s : State) (b : Nat) : (State.zeroCounters s b).isl = s.isl := by
  simp -implicitDefEqProofs only [State.zeroCounters, State.put_isl, State.resetFields_isl, foldl_isl, foldlP_isl, implies_true, apply_ite State.isl, ite_self]
@[simp] theorem State.seedNoise_isl (s : State) (q : Nat) : (State.seedNoise s q).isl = s.isl := by
  simp -implicitDefEqProofs only [State.seedNoise, State.put_isl, State.draw_isl, State.setNoise_isl, State.reseedFail_isl, apply_ite State.isl, ite_self]
@[simp] theorem State.setHeader_isl (s : State) (b : Nat) (n : Nat) (f : File) : (State.setHeader s b n f).isl = s.isl := by
  simp -implicitDefEqProofs only [State.setHeader, State.put_isl, State.setBed_isl, apply_ite State.isl, ite_self]
@[simp] theorem State.switchBed_isl (s : State) (b : Nat) (slot : Nat) (step : Nat) (epoch : Nat) (n : Nat) : (State.switchBed s b slot step epoch n).isl = s.isl := by
  simp -implicitDefEqProofs only [State.switchBed, State.put_isl, State.setBed_isl, State.raise_isl, State.copyLists_isl, State.setCores_isl, State.openStep_isl, State.setSeq_isl, State.showArm_isl, State.zeroCounters_isl, State.setHeader_isl, foldl_isl, foldlP_isl, implies_true, apply_ite State.isl, ite_self]
@[simp] theorem State.newJob_isl (s : State) (q : Nat) : (State.newJob s q).isl = s.isl := by
  simp -implicitDefEqProofs only [State.newJob, apply_ite State.isl, ite_self]
@[simp] theorem State.dropScales_isl (s : State) (j : Nat) : (State.dropScales s j).isl = s.isl := by
  simp -implicitDefEqProofs only [State.dropScales, State.setCores_isl]
@[simp] theorem State.switchPart_isl (s : State) (q : Nat) (slot : Nat) (step : Nat) (job : Bool) : (State.switchPart s q slot step job).isl = s.isl := by
  simp -implicitDefEqProofs only [State.switchPart, State.setPart_isl, State.moved_isl, State.setTimeRef_isl, State.forgetUpdates_isl, State.latchGroups_isl, State.loadGroups_isl, State.seedNoise_isl, State.newJob_isl, State.dropScales_isl, apply_ite State.isl, ite_self]
@[simp] theorem State.activateAt_isl (s : State) (b : Nat) (n : Nat) : (State.activateAt s b n).isl = s.isl := by
  (simp -implicitDefEqProofs only [State.activateAt]; (repeat' split) <;> (first | (with_reducible rfl) | simp -implicitDefEqProofs only [State.put_isl, State.setBed_isl, State.record_isl, State.refuseSwitch_isl, State.writeAllOwned_isl, State.switchBed_isl, State.dropScales_isl, State.switchPart_isl, apply_ite State.isl, ite_self]))
@[simp] theorem State.epochBoundary_isl (s : State) (q : Nat) (n : Nat) (step : Nat) : (State.epochBoundary s q n step).isl = s.isl := by
  (simp -implicitDefEqProofs only [State.epochBoundary]; (repeat' split) <;> (first | (with_reducible rfl) | simp -implicitDefEqProofs only [State.put_isl, State.setPart_isl, State.raise_isl, State.holdBeds_isl, State.writeAllOwned_isl, State.switchBed_isl, State.switchPart_isl, foldl_isl, foldlP_isl, implies_true, apply_ite State.isl, ite_self]))
@[simp] theorem State.graftLayer_isl (s : State) (lp : Page) (h : Nat) (step : Nat) (l : Nat) : (State.graftLayer s lp h step l).isl = s.isl := by
  simp -implicitDefEqProofs only [State.graftLayer, State.put_isl]
@[simp] theorem State.joinGraft_isl (s : State) (q : Nat) (n : Nat) : (State.joinGraft s q n).isl = s.isl := by
  (simp -implicitDefEqProofs only [State.joinGraft]; (repeat' split) <;> (first | (with_reducible rfl) | simp -implicitDefEqProofs only [State.setPart_isl, State.setFab_isl, State.writeAllOwned_isl, State.switchBed_isl, State.switchPart_isl, State.graftLayer_isl, foldl_isl, foldlP_isl, implies_true]))
@[simp] theorem State.newBudgets_isl (s : State) (b : Nat) : (State.newBudgets s b).isl = s.isl := by
  simp -implicitDefEqProofs only [State.newBudgets, State.put_isl, State.setMem_isl, foldl_isl, foldlP_isl, implies_true, apply_ite State.isl, ite_self]
@[simp] theorem State.openBudgets_isl (s : State) (b : Nat) : (State.openBudgets s b).isl = s.isl := by
  simp -implicitDefEqProofs only [State.openBudgets, State.clipWaiting_isl, State.newBudgets_isl]
@[simp] theorem State.openBed_isl (s : State) (b : Nat) : (State.openBed s b).isl = s.isl := by
  simp -implicitDefEqProofs only [State.openBed, State.skipFrame_isl, State.openFrame_isl, State.openBudgets_isl, apply_ite State.isl, ite_self]
@[simp] theorem State.streamLines_isl (s : State) (q : Nat) (dest : Nat) (a : Nat) (len : Nat) (place : Nat → Nat) : (State.streamLines s q dest a len place).isl = s.isl := by
  simp -implicitDefEqProofs only [State.streamLines, State.readSpan_isl, State.send_isl, foldl_isl, foldlP_isl, implies_true]
@[simp] theorem State.streamWard_isl (s : State) (q : Nat) (n : Nat) : (State.streamWard s q n).isl = s.isl := by
  (simp -implicitDefEqProofs only [State.streamWard]; (repeat' split) <;> (first | (with_reducible rfl) | (simp -implicitDefEqProofs [-List.foldl_cons, -List.foldl_nil, foldl_isl, foldlP_isl]; done) | (simp -implicitDefEqProofs (disch := (intros; (repeat' split) <;> try simp -implicitDefEqProofs [-List.foldl_cons, -List.foldl_nil, foldl_isl, foldlP_isl])) [-List.foldl_cons, -List.foldl_nil, foldl_isl, foldlP_isl]; done)))
@[simp] theorem State.streamStep_isl (s : State) (q : Nat) (f : File) (dest : Nat) (step : Nat) : (State.streamStep s q f dest step).isl = s.isl := by
  simp -implicitDefEqProofs only [State.streamStep, State.streamLines_isl, foldl_isl, foldlP_isl, implies_true]
@[simp] theorem State.streamSource_isl (s : State) (q : Nat) (n : Nat) : (State.streamSource s q n).isl = s.isl := by
  (simp -implicitDefEqProofs only [State.streamSource]; (repeat' split) <;> (first | (with_reducible rfl) | simp -implicitDefEqProofs only [State.streamStep_isl, foldl_isl, foldlP_isl, implies_true, apply_ite State.isl, ite_self]))
@[simp] theorem State.openPart_isl (s : State) (q : Nat) (n : Nat) (anew : Bool) (grafted : Bool) : (State.openPart s q n anew grafted).isl = s.isl := by
  simp -implicitDefEqProofs only [State.openPart, State.openBuckets_isl, State.askTime_isl, State.openVotes_isl, State.streamWard_isl, State.streamSource_isl, apply_ite State.isl, ite_self]
@[simp] theorem State.closeBed_isl (s : State) (b : Nat) (n : Nat) (boundary : Bool) : (State.closeBed s b n boundary).isl = s.isl := by
  simp -implicitDefEqProofs only [State.closeBed, State.put_isl, State.setBed_isl, State.endStops_isl, State.watchSnap_isl, State.closeRun_isl, State.coarseSnap_isl, State.tickPages_isl, apply_ite State.isl, ite_self]
@[simp] theorem State.countStep_isl (s : State) (b : Nat) (boundary : Bool) : (State.countStep s b boundary).isl = s.isl := by
  simp -implicitDefEqProofs only [State.countStep, State.put_isl, State.bedBoundary_isl, apply_ite State.isl, ite_self]
@[simp] theorem State.tickPart_isl (s : State) (q : Nat) (n : Nat) (boundary : Bool) : (State.tickPart s q n boundary).isl = s.isl := by
  simp -implicitDefEqProofs only [State.tickPart, State.partBoundary_isl, State.epochBoundary_isl, State.joinGraft_isl, apply_ite State.isl, ite_self]
@[simp] theorem State.tick_isl (s : State) (b : Nat) : (State.tick s b).isl = s.isl := by
  simp -implicitDefEqProofs only [State.tick, State.applyTopo_isl, State.actVotes_isl, State.sampleWatts_isl, State.trimTick_isl, State.clockTick_isl, State.partWatch_isl, State.activateAt_isl, State.openBed_isl, State.openPart_isl, State.closeBed_isl, State.countStep_isl, State.tickPart_isl, foldl_isl, foldlP_isl, implies_true, apply_ite State.isl, ite_self]
@[simp] theorem State.tickIf_isl (s : State) (b : Nat) (on : Bool) : (State.tickIf s b on).isl = s.isl := by
  simp -implicitDefEqProofs only [State.tickIf, State.tick_isl, apply_ite State.isl, ite_self]
theorem execFrameTick_isl (bed : Bed) (s : State) : ∀ t, (execFrameTick bed s) = .next t → t.isl = s.isl := by
  intro t ht; simp -implicitDefEqProofs only [execFrameTick] at ht; rw [← Host.Outcome.next.inj ht]; simp -implicitDefEqProofs only [State.tickIf_isl]
theorem execStepBoundary_isl (bed : Bed) (s : State) : ∀ t, (execStepBoundary bed s) = .next t → t.isl = s.isl := by
  intro t ht; simp -implicitDefEqProofs only [execStepBoundary] at ht; rw [← Host.Outcome.next.inj ht]; simp -implicitDefEqProofs only [State.tickIf_isl]
@[simp] theorem State.leadTick_isl (s : State) (q : Nat) (on : Nat → Bool) : (State.leadTick s q on).isl = s.isl := by
  simp -implicitDefEqProofs only [State.leadTick, State.tickIf_isl]
theorem execVoteDeadline_isl (part : Bed) (code : Nat) (s : State) : ∀ t, (execVoteDeadline part code s) = .next t → t.isl = s.isl := by
  intro t ht; simp -implicitDefEqProofs only [execVoteDeadline] at ht; rw [← Host.Outcome.next.inj ht]; simp -implicitDefEqProofs only [State.leadTick_isl]
theorem execPrecisionRetry_isl (part : Bed) (layer : Nat) (s : State) : ∀ t, (execPrecisionRetry part layer s) = .next t → t.isl = s.isl := by
  intro t ht; simp -implicitDefEqProofs only [execPrecisionRetry] at ht; rw [← Host.Outcome.next.inj ht]; simp -implicitDefEqProofs only [State.leadTick_isl]
theorem execPrecisionShiftReset_isl (part : Bed) (layer : Nat) (s : State) : ∀ t, (execPrecisionShiftReset part layer s) = .next t → t.isl = s.isl := by
  intro t ht; simp -implicitDefEqProofs only [execPrecisionShiftReset] at ht; rw [← Host.Outcome.next.inj ht]; simp -implicitDefEqProofs only [State.leadTick_isl]
theorem execChangeForced_isl (bed : Bed) (s : State) : ∀ t, (execChangeForced bed s) = .next t → t.isl = s.isl := by
  intro t ht; simp -implicitDefEqProofs only [execChangeForced] at ht; rw [← Host.Outcome.next.inj ht]; simp -implicitDefEqProofs only [State.tickIf_isl]
theorem execNfTrap_isl (bed : Bed) (s : State) : ∀ t, (execNfTrap bed s) = .next t → t.isl = s.isl := by
  intro t ht; simp -implicitDefEqProofs only [execNfTrap] at ht; (repeat' split at ht) <;> (first | (rw [← Host.Outcome.next.inj ht]; done) | (rw [← Host.Outcome.next.inj ht]; simp -implicitDefEqProofs only [State.setBed_isl, apply_ite State.isl, ite_self]; done))
theorem execContextStallTimeout_isl (bed : Bed) (core : Core) (ctx : Ctx) (s : State) : ∀ t, (execContextStallTimeout bed core ctx s) = .next t → t.isl = s.isl := by
  intro t ht; simp -implicitDefEqProofs only [execContextStallTimeout] at ht; (repeat' split at ht) <;> (first | (rw [← Host.Outcome.next.inj ht]; done) | (rw [← Host.Outcome.next.inj ht]; simp -implicitDefEqProofs only [State.ctxReset_isl, apply_ite State.isl, ite_self]; done))
theorem execSequencerAckTimeout_isl (bed : Bed) (s : State) : ∀ t, (execSequencerAckTimeout bed s) = .next t → t.isl = s.isl := by
  intro t ht; simp -implicitDefEqProofs only [execSequencerAckTimeout] at ht; (repeat' split at ht) <;> (first | (rw [← Host.Outcome.next.inj ht]; done) | (rw [← Host.Outcome.next.inj ht]; simp -implicitDefEqProofs only [State.setBed_isl, State.record_isl, State.skipFrame_isl, State.setSeq_isl, apply_ite State.isl, ite_self]; done))
@[simp] theorem State.clearSealed_isl (s : State) (p : Nat) : (State.clearSealed s p).isl = s.isl := by
  simp -implicitDefEqProofs only [State.clearSealed, State.put_isl, foldl_isl, foldlP_isl, implies_true]
@[simp] theorem State.keyBridges_isl (s : State) (p : Nat) : (State.keyBridges s p).isl = s.isl := by
  simp -implicitDefEqProofs only [State.keyBridges, State.put_isl, State.bump_isl, State.startScrub_isl, foldl_isl, foldlP_isl, implies_true]
@[simp] theorem State.beginSession_isl (s : State) (p : Nat) (grantSeq : Nat) (group : List Byte) (tenant : List Byte) (exportSecret : List Byte) (roster : List (Nat × List Byte)) (digest : List Byte) : (State.beginSession s p grantSeq group tenant exportSecret roster digest).isl = s.isl := by
  simp -implicitDefEqProofs only [State.beginSession, State.put_isl, State.setSession_isl, State.setSessionState_isl, State.drawBytes_isl, State.seqNow_isl, State.clearSealed_isl, State.keyBridges_isl, apply_ite State.isl, ite_self]
@[simp] theorem State.finishOpen_isl (s : State) (p : Nat) : (State.finishOpen s p).isl = s.isl := by
  simp -implicitDefEqProofs only [State.finishOpen, State.put_isl, State.raise_isl, State.doLock_isl, State.setSessionState_isl, State.tryKey_isl, State.seedNoise_isl, foldl_isl, foldlP_isl, implies_true]
theorem execScrubDone_isl (bridge : Bed) (s : State) : ∀ t, (execScrubDone bridge s) = .next t → t.isl = s.isl := by
  intro t ht; simp -implicitDefEqProofs only [execScrubDone] at ht; (repeat' split at ht) <;> (first | (rw [← Host.Outcome.next.inj ht]; done) | (rw [← Host.Outcome.next.inj ht]; simp -implicitDefEqProofs only [State.put_isl, State.raise_isl, State.finishClose_isl, State.finishOpen_isl, apply_ite State.isl, ite_self]; done))
@[simp] theorem State.showHoldup_isl (s : State) : (State.showHoldup s).isl = s.isl := by
  simp -implicitDefEqProofs only [State.showHoldup, State.put_isl]
theorem execHoldupSample_isl (millivolts : Nat) (s : State) : ∀ t, (execHoldupSample millivolts s) = .next t → t.isl = s.isl := by
  intro t ht; simp -implicitDefEqProofs only [execHoldupSample] at ht; (repeat' split at ht) <;> (first | (rw [← Host.Outcome.next.inj ht]; done) | (rw [← Host.Outcome.next.inj ht]; simp -implicitDefEqProofs only [State.settle_isl, State.showHoldup_isl, apply_ite State.isl, ite_self]; done))
@[simp] theorem State.holdupLow_isl (s : State) : (State.holdupLow s).isl = s.isl := by
  simp -implicitDefEqProofs only [State.holdupLow, State.bump_isl, State.raise_isl, apply_ite State.isl, ite_self]
@[simp] theorem State.beginStore_isl (s : State) (kind : Nat) : (State.beginStore s kind).isl = s.isl := by
  simp -implicitDefEqProofs only [State.beginStore, State.put_isl]
@[simp] theorem State.spend_isl (s : State) (kind : Nat) : (State.spend s kind).isl = s.isl := by
  simp -implicitDefEqProofs only [State.spend, State.showHoldup_isl]
@[simp] theorem State.storeRecord_isl (s : State) (r : Record) : (State.storeRecord s r).isl = s.isl := by
  (simp -implicitDefEqProofs only [State.storeRecord]; (repeat' split) <;> (first | (with_reducible rfl) | simp -implicitDefEqProofs only [State.put_isl, State.setRec_isl, apply_ite State.isl, ite_self]))
@[simp] theorem State.noteLedger_isl (s : State) (r : Record) : (State.noteLedger s r).isl = s.isl := by
  (simp -implicitDefEqProofs only [State.noteLedger]; (repeat' split) <;> (first | (with_reducible rfl) | simp -implicitDefEqProofs only [State.put_isl, State.openStep_isl, apply_ite State.isl, ite_self]))
@[simp] theorem State.checkProt_isl (s : State) : (State.checkProt s).isl = s.isl := by
  simp -implicitDefEqProofs only [State.checkProt, State.put_isl, State.raise_isl, apply_ite State.isl, ite_self]
@[simp] theorem State.enqueueAll_isl (s : State) (l : List Record) : (State.enqueueAll s l).isl = s.isl := by
  simp -implicitDefEqProofs only [State.enqueueAll, State.enqueue_isl, foldl_isl, foldlP_isl, implies_true]
@[simp] theorem State.feedPending_isl (s : State) : (State.feedPending s).isl = s.isl := by
  simp -implicitDefEqProofs only [State.feedPending, State.enqueue_isl, State.setRec_isl, foldl_isl, foldlP_isl, implies_true, apply_ite State.isl, ite_self]
@[simp] theorem State.feedLedger_isl (s : State) (q : Nat) : (State.feedLedger s q).isl = s.isl := by
  simp -implicitDefEqProofs only [State.feedLedger, State.put_isl, State.enqueueAll_isl, foldl_isl, foldlP_isl, implies_true, apply_ite State.isl, ite_self]
@[simp] theorem State.feedAudit_isl (s : State) : (State.feedAudit s).isl = s.isl := by
  simp -implicitDefEqProofs only [State.feedAudit, State.setRec_isl, State.enqueueAll_isl, foldl_isl, foldlP_isl, implies_true, apply_ite State.isl, ite_self]
@[simp] theorem State.feedDropped_isl (s : State) : (State.feedDropped s).isl = s.isl := by
  (simp -implicitDefEqProofs only [State.feedDropped]; (repeat' split) <;> (first | (with_reducible rfl) | simp -implicitDefEqProofs only [State.postGeneral_isl, State.setRec_isl, apply_ite State.isl, ite_self]))
@[simp] theorem State.feed_isl (s : State) : (State.feed s).isl = s.isl := by
  simp -implicitDefEqProofs only [State.feed, State.feedPending_isl, State.feedLedger_isl, State.feedAudit_isl, State.feedDropped_isl, foldl_isl, foldlP_isl, implies_true]
@[simp] theorem State.takeBatch_isl (s : State) : (State.takeBatch s).isl = s.isl := by
  simp -implicitDefEqProofs only [State.takeBatch, State.setRec_isl]
@[simp] theorem State.writeBatch_isl (s : State) : (State.writeBatch s).isl = s.isl := by
  simp -implicitDefEqProofs only [State.writeBatch, State.setRec_isl, State.storeRecord_isl, State.noteLedger_isl, State.checkProt_isl, State.feed_isl, foldl_isl, foldlP_isl, implies_true]
@[simp] theorem State.beginBatch_isl (s : State) : (State.beginBatch s).isl = s.isl := by
  simp -implicitDefEqProofs only [State.beginBatch, State.put_isl, State.beginStore_isl, State.takeBatch_isl]
@[simp] theorem State.tryStore_isl (s : State) (kind : Nat) : (State.tryStore s kind).isl = s.isl := by
  simp -implicitDefEqProofs only [State.tryStore, State.put_isl, State.holdupLow_isl, State.beginStore_isl, State.beginBatch_isl, apply_ite State.isl, ite_self]
theorem execDurableStoreStart_isl (kind : Fin 4) (s : State) : ∀ t, (execDurableStoreStart kind s) = .next t → t.isl = s.isl := by
  intro t ht; simp -implicitDefEqProofs only [execDurableStoreStart] at ht; rw [← Host.Outcome.next.inj ht]; simp -implicitDefEqProofs only [State.tryStore_isl]
theorem execDurableStoreRetry_isl (kind : Fin 4) (s : State) : ∀ t, (execDurableStoreRetry kind s) = .next t → t.isl = s.isl := by
  intro t ht; simp -implicitDefEqProofs only [execDurableStoreRetry] at ht; rw [← Host.Outcome.next.inj ht]; simp -implicitDefEqProofs only [State.tryStore_isl, apply_ite State.isl, ite_self]
theorem execEventBatchStore_isl (s : State) : ∀ t, (execEventBatchStore s) = .next t → t.isl = s.isl := by
  intro t ht; simp -implicitDefEqProofs only [execEventBatchStore] at ht; rw [← Host.Outcome.next.inj ht]; simp -implicitDefEqProofs only [State.writeBatch_isl, State.tryStore_isl, apply_ite State.isl, ite_self]
@[simp] theorem State.writeHdr_isl (s : State) : (State.writeHdr s).isl = s.isl := by
  simp -implicitDefEqProofs only [State.writeHdr, State.put_isl]
@[simp] theorem State.readHdr_isl (s : State) : (State.readHdr s).isl = s.isl := by
  (simp -implicitDefEqProofs only [State.readHdr]; (repeat' split) <;> (first | (with_reducible rfl) | simp -implicitDefEqProofs only [State.put_isl]))
@[simp] theorem State.storeDone_isl (s : State) (kind : Nat) : (State.storeDone s kind).isl = s.isl := by
  simp -implicitDefEqProofs only [State.storeDone, State.put_isl, State.writeBatch_isl, State.writeHdr_isl, apply_ite State.isl, ite_self]
@[simp] theorem State.finishStore_isl (s : State) : (State.finishStore s).isl = s.isl := by
  simp -implicitDefEqProofs only [State.finishStore, State.put_isl, State.spend_isl, State.storeDone_isl, apply_ite State.isl, ite_self]
theorem execDurableStoreComplete_isl (s : State) : ∀ t, (execDurableStoreComplete s) = .next t → t.isl = s.isl := by
  intro t ht; simp -implicitDefEqProofs only [execDurableStoreComplete] at ht; rw [← Host.Outcome.next.inj ht]; simp -implicitDefEqProofs only [State.finishStore_isl]
theorem execOpSecond_isl (s : State) : ∀ t, (execOpSecond s) = .next t → t.isl = s.isl := by
  intro t ht; simp -implicitDefEqProofs only [execOpSecond] at ht; (repeat' split at ht) <;> (first | (rw [← Host.Outcome.next.inj ht]; done) | (rw [← Host.Outcome.next.inj ht]; simp -implicitDefEqProofs only [State.bump_isl, State.setRec_isl, apply_ite State.isl, ite_self]; done))
theorem execHours_isl (s : State) : ∀ t, (execHours s) = .next t → t.isl = s.isl := by
  intro t ht; simp -implicitDefEqProofs only [execHours] at ht; (repeat' split at ht) <;> (first | (rw [← Host.Outcome.next.inj ht]; done) | (rw [← Host.Outcome.next.inj ht]; simp -implicitDefEqProofs only [State.record_isl, apply_ite State.isl, ite_self]; done))
theorem execRepeatSecond_isl (s : State) : ∀ t, (execRepeatSecond s) = .next t → t.isl = s.isl := by
  intro t ht; simp -implicitDefEqProofs only [execRepeatSecond] at ht; rw [← Host.Outcome.next.inj ht]; simp -implicitDefEqProofs only [State.queueGeneral_isl, foldl_isl, foldlP_isl, implies_true]
@[simp] theorem State.askFreeze_isl (s : State) : (State.askFreeze s).isl = s.isl := by
  simp -implicitDefEqProofs only [State.askFreeze, State.setRec_isl, apply_ite State.isl, ite_self]
@[simp] theorem State.endFreeze_isl (s : State) : (State.endFreeze s).isl = s.isl := by
  simp -implicitDefEqProofs only [State.endFreeze, State.put_isl, State.setRec_isl]
theorem execFreeze_isl (s : State) : ∀ t, (execFreeze s) = .next t → t.isl = s.isl := by
  intro t ht; simp -implicitDefEqProofs only [execFreeze] at ht; rw [← Host.Outcome.next.inj ht]; simp -implicitDefEqProofs only [State.hostWriteL_isl, State.askFreeze_isl, implies_true]
theorem execUnfreeze_isl (s : State) : ∀ t, (execUnfreeze s) = .next t → t.isl = s.isl := by
  intro t ht; simp -implicitDefEqProofs only [execUnfreeze] at ht; rw [← Host.Outcome.next.inj ht]; simp -implicitDefEqProofs only [State.hostWriteL_isl, State.endFreeze_isl, implies_true]
theorem execFreezeEffective_isl (s : State) : ∀ t, (execFreezeEffective s) = .next t → t.isl = s.isl := by
  intro t ht; simp -implicitDefEqProofs only [execFreezeEffective] at ht; (repeat' split at ht) <;> (first | (rw [← Host.Outcome.next.inj ht]; done) | (rw [← Host.Outcome.next.inj ht]; simp -implicitDefEqProofs only [State.put_isl, State.setRec_isl, apply_ite State.isl, ite_self]; done))
theorem execFreezeTimeout_isl (s : State) : ∀ t, (execFreezeTimeout s) = .next t → t.isl = s.isl := by
  intro t ht; simp -implicitDefEqProofs only [execFreezeTimeout] at ht; (repeat' split at ht) <;> (first | (rw [← Host.Outcome.next.inj ht]; done) | (rw [← Host.Outcome.next.inj ht]; simp -implicitDefEqProofs only [State.record_isl, State.evt_isl, State.endFreeze_isl, apply_ite State.isl, ite_self]; done))
@[simp] theorem State.markRead_isl (s : State) (k : Nat) : (State.markRead s k).isl = s.isl := by
  simp -implicitDefEqProofs only [State.markRead, State.setRec_isl, apply_ite State.isl, ite_self]
theorem execRecordRead_isl (s : State) : ∀ t, (execRecordRead s) = .next t → t.isl = s.isl := by
  intro t ht; simp -implicitDefEqProofs only [execRecordRead] at ht; rw [← Host.Outcome.next.inj ht]; simp -implicitDefEqProofs only [State.answer_isl, State.onBar_isl, State.markRead_isl, implies_true]
theorem execVinExcursion_isl (millivolts : Nat) (s : State) : ∀ t, (execVinExcursion millivolts s) = .next t → t.isl = s.isl := by
  intro t ht; simp -implicitDefEqProofs only [execVinExcursion] at ht; (repeat' split at ht) <;> (first | (rw [← Host.Outcome.next.inj ht]; done) | (rw [← Host.Outcome.next.inj ht]; simp -implicitDefEqProofs only [State.enterOff_isl, State.floorCause_isl, State.setPw_isl, apply_ite State.isl, ite_self]; done))
theorem execVinRestore_isl (millivolts : Nat) (s : State) : ∀ t, (execVinRestore millivolts s) = .next t → t.isl = s.isl := by
  intro t ht; simp -implicitDefEqProofs only [execVinRestore] at ht; (repeat' split at ht) <;> (first | (rw [← Host.Outcome.next.inj ht]; done) | (rw [← Host.Outcome.next.inj ht]; simp -implicitDefEqProofs only [State.floorClear_isl, State.setPw_isl, apply_ite State.isl, ite_self]; done))
theorem execInputOvercurrent_isl (watts : Nat) (s : State) : ∀ t, (execInputOvercurrent watts s) = .next t → t.isl = s.isl := by
  intro t ht; simp -implicitDefEqProofs only [execInputOvercurrent] at ht; (repeat' split at ht) <;> (first | (rw [← Host.Outcome.next.inj ht]; done) | (rw [← Host.Outcome.next.inj ht]; simp -implicitDefEqProofs only [State.put_isl, State.setPw_isl, apply_ite State.isl, ite_self]; done))
theorem execConverterFault_isl (modules : List Nat) (regulators : List Nat) (s : State) : ∀ t, (execConverterFault modules regulators s) = .next t → t.isl = s.isl := by
  intro t ht; simp -implicitDefEqProofs only [execConverterFault] at ht; (repeat' split at ht) <;> (first | (rw [← Host.Outcome.next.inj ht]; done) | (rw [← Host.Outcome.next.inj ht]; simp -implicitDefEqProofs only [State.record_isl, State.enterOff_isl, State.floorCause_isl, State.floorClear_isl, foldl_isl, foldlP_isl, implies_true, apply_ite State.isl, ite_self]; done))
theorem execPwrAlert_isl (s : State) : ∀ t, (execPwrAlert s) = .next t → t.isl = s.isl := by
  intro t ht; simp -implicitDefEqProofs only [execPwrAlert] at ht; (repeat' split at ht) <;> (first | (rw [← Host.Outcome.next.inj ht]; done) | (rw [← Host.Outcome.next.inj ht]; simp -implicitDefEqProofs only [State.hold_isl, State.floorCause_isl, State.setPw_isl, apply_ite State.isl, ite_self]; done))
theorem execFloorExit_isl (s : State) : ∀ t, (execFloorExit s) = .next t → t.isl = s.isl := by
  intro t ht; simp -implicitDefEqProofs only [execFloorExit] at ht; (repeat' split at ht) <;> (first | (rw [← Host.Outcome.next.inj ht]; done) | (rw [← Host.Outcome.next.inj ht]; simp -implicitDefEqProofs only [State.hold_isl, State.setClock_isl, State.setPw_isl, apply_ite State.isl, ite_self]; done))
theorem execDroopDetect_isl (edges : Nat) (s : State) : ∀ t, (execDroopDetect edges s) = .next t → t.isl = s.isl := by
  intro t ht; simp -implicitDefEqProofs only [execDroopDetect] at ht; (repeat' split at ht) <;> (first | (rw [← Host.Outcome.next.inj ht]; done) | (rw [← Host.Outcome.next.inj ht]; simp -implicitDefEqProofs only [State.bump_isl, State.setBed_isl, State.hold_isl, State.setPw_isl, foldl_isl, foldlP_isl, implies_true, apply_ite State.isl, ite_self]; done))
theorem execSustainedDroop_isl (s : State) : ∀ t, (execSustainedDroop s) = .next t → t.isl = s.isl := by
  intro t ht; simp -implicitDefEqProofs only [execSustainedDroop] at ht; (repeat' split at ht) <;> (first | (rw [← Host.Outcome.next.inj ht]; done) | (rw [← Host.Outcome.next.inj ht]; simp -implicitDefEqProofs only [State.evt_isl, State.hold_isl, State.floorCause_isl, apply_ite State.isl, ite_self]; done))
theorem execMarginCheck_isl (monitor : Nat) (below : Bool) (s : State) : ∀ t, (execMarginCheck monitor below s) = .next t → t.isl = s.isl := by
  intro t ht; simp -implicitDefEqProofs only [execMarginCheck] at ht; (repeat' split at ht) <;> (first | (rw [← Host.Outcome.next.inj ht]; done) | (rw [← Host.Outcome.next.inj ht]; simp -implicitDefEqProofs only [State.put_isl, State.raiseTrim_isl, State.setPw_isl, apply_ite State.isl, ite_self]; done))
theorem execFlowFault_isl (s : State) : ∀ t, (execFlowFault s) = .next t → t.isl = s.isl := by
  intro t ht; simp -implicitDefEqProofs only [execFlowFault] at ht; (repeat' split at ht) <;> (first | (rw [← Host.Outcome.next.inj ht]; done) | (rw [← Host.Outcome.next.inj ht]; simp -implicitDefEqProofs only [State.raise_isl, State.setMem_isl, State.hold_isl, State.enterHold_isl, State.setPw_isl, apply_ite State.isl, ite_self]; done))
theorem execFlowFaultClear_isl (s : State) : ∀ t, (execFlowFaultClear s) = .next t → t.isl = s.isl := by
  intro t ht; simp -implicitDefEqProofs only [execFlowFaultClear] at ht; rw [← Host.Outcome.next.inj ht]; simp -implicitDefEqProofs only [State.setMem_isl, State.serveWaits_isl, State.setPw_isl]
@[simp] theorem State.enterDormant_isl (s : State) (cause : Nat) : (State.enterDormant s cause).isl = s.isl := by
  simp -implicitDefEqProofs only [State.enterDormant, State.releaseLine_isl, State.beginTransition_isl, foldl_isl, foldlP_isl, implies_true]
theorem execFlowFaultDormant_isl (s : State) : ∀ t, (execFlowFaultDormant s) = .next t → t.isl = s.isl := by
  intro t ht; simp -implicitDefEqProofs only [execFlowFaultDormant] at ht; (repeat' split at ht) <;> (first | (rw [← Host.Outcome.next.inj ht]; done) | (rw [← Host.Outcome.next.inj ht]; simp -implicitDefEqProofs only [State.hold_isl, State.enterDormant_isl, apply_ite State.isl, ite_self]; done))
theorem execThermTrip_isl (sensor : Nat) (celsius : Nat) (s : State) : ∀ t, (execThermTrip sensor celsius s) = .next t → t.isl = s.isl := by
  intro t ht; simp -implicitDefEqProofs only [execThermTrip] at ht; (repeat' split at ht) <;> (first | (rw [← Host.Outcome.next.inj ht]; done) | (rw [← Host.Outcome.next.inj ht]; simp -implicitDefEqProofs only [State.put_isl, State.record_isl, State.enterOff_isl, State.setPw_isl, apply_ite State.isl, ite_self]; done))
@[simp] theorem State.thermStep_isl (s : State) : (State.thermStep s).isl = s.isl := by
  simp -implicitDefEqProofs only [State.thermStep, State.put_isl, State.raise_isl, State.setClock_isl, State.setPw_isl, apply_ite State.isl, ite_self]
theorem execJunctionSensorRead_isl (sensor : Nat) (celsius : Nat) (s : State) : ∀ t, (execJunctionSensorRead sensor celsius s) = .next t → t.isl = s.isl := by
  intro t ht; simp -implicitDefEqProofs only [execJunctionSensorRead] at ht; (repeat' split at ht) <;> (first | (rw [← Host.Outcome.next.inj ht]; done) | (rw [← Host.Outcome.next.inj ht]; simp -implicitDefEqProofs only [State.put_isl, State.setPw_isl, State.thermStep_isl, apply_ite State.isl, ite_self]; done))
theorem execThrottleRestore_isl (s : State) : ∀ t, (execThrottleRestore s) = .next t → t.isl = s.isl := by
  intro t ht; simp -implicitDefEqProofs only [execThrottleRestore] at ht; (repeat' split at ht) <;> (first | (rw [← Host.Outcome.next.inj ht]; done) | (rw [← Host.Outcome.next.inj ht]; simp -implicitDefEqProofs only [State.put_isl, State.setClock_isl, State.setPw_isl, apply_ite State.isl, ite_self]; done))
@[simp] theorem State.wipeCores_isl (s : State) : (State.wipeCores s).isl = s.isl := by
  simp -implicitDefEqProofs only [State.wipeCores]
@[simp] theorem State.wipeDevice_isl (s : State) : (State.wipeDevice s).isl = s.isl := by
  simp -implicitDefEqProofs only [State.wipeDevice, State.put_isl, State.setMem_isl, foldl_isl, foldlP_isl, implies_true]
@[simp] theorem State.reachOff_isl (s : State) : (State.reachOff s).isl = s.isl := by
  simp -implicitDefEqProofs only [State.reachOff, State.put_isl, State.setDomains_isl, State.setPw_isl, State.wipeDevice_isl, apply_ite State.isl, ite_self]
@[simp] theorem State.sleepBridges_isl (s : State) : (State.sleepBridges s).isl = s.isl := by
  simp -implicitDefEqProofs only [State.sleepBridges, State.put_isl, foldl_isl, foldlP_isl, implies_true]
@[simp] theorem State.wakeBridges_isl (s : State) : (State.wakeBridges s).isl = s.isl := by
  simp -implicitDefEqProofs only [State.wakeBridges, State.put_isl, State.setSession_isl, State.startScrub_isl, foldl_isl, foldlP_isl, implies_true, apply_ite State.isl, ite_self]
@[simp] theorem State.checkAnchor_isl (s : State) (b : Nat) : (State.checkAnchor s b).isl = s.isl := by
  (simp -implicitDefEqProofs only [State.checkAnchor]; (repeat' split) <;> (first | (with_reducible rfl) | simp -implicitDefEqProofs only [State.record_isl, State.copyLists_isl, State.setSeq_isl, State.dropPending_isl, State.unloadSlot_isl, apply_ite State.isl, ite_self]))
@[simp] theorem State.dormantPorts_isl (s : State) : (State.dormantPorts s).isl = s.isl := by
  simp -implicitDefEqProofs only [State.dormantPorts, State.put_isl, State.portDown_isl, foldl_isl, foldlP_isl, implies_true, apply_ite State.isl, ite_self]
@[simp] theorem State.wakePorts_isl (s : State) : (State.wakePorts s).isl = s.isl := by
  simp -implicitDefEqProofs only [State.wakePorts, State.sendBeat_isl, State.train_isl, foldl_isl, foldlP_isl, implies_true, apply_ite State.isl, ite_self]
@[simp] theorem State.resetEndpoint_isl (s : State) : (State.resetEndpoint s).isl = s.isl := by
  simp -implicitDefEqProofs only [State.resetEndpoint, State.resetFields_isl, State.raise_isl]
@[simp] theorem State.linkTrained_isl (s : State) : (State.linkTrained s).isl = s.isl := by
  simp -implicitDefEqProofs only [State.linkTrained, State.put_isl]
theorem execPowerTransitionComplete_isl (s : State) : ∀ t, (execPowerTransitionComplete s) = .next t → t.isl = s.isl := by
  intro t ht; simp -implicitDefEqProofs only [execPowerTransitionComplete] at ht; (repeat' split at ht) <;> (first | (rw [← Host.Outcome.next.inj ht]; done) | (rw [← Host.Outcome.next.inj ht]; simp -implicitDefEqProofs only [State.put_isl, State.hold_isl, State.setPower_isl, State.wipeCores_isl, State.reachOff_isl, State.sleepBridges_isl, State.wakeBridges_isl, State.checkAnchor_isl, State.dormantPorts_isl, State.wakePorts_isl, State.resetEndpoint_isl, State.linkTrained_isl, foldl_isl, foldlP_isl, implies_true, apply_ite State.isl, ite_self]; done))
theorem execClustersOn_isl (s : State) : ∀ t, (execClustersOn s) = .next t → t.isl = s.isl := by
  intro t ht; simp -implicitDefEqProofs only [execClustersOn] at ht; (repeat' split at ht) <;> (first | (rw [← Host.Outcome.next.inj ht]; done) | (rw [← Host.Outcome.next.inj ht]; simp -implicitDefEqProofs only [State.hold_isl, State.setPower_isl, State.setClock_isl, apply_ite State.isl, ite_self]; done))
@[simp] theorem State.askPower_isl (s : State) (target : Nat) : (State.askPower s target).2.isl = s.isl := by
  (simp -implicitDefEqProofs only [State.askPower]; (repeat' split) <;> (first | (with_reducible rfl) | simp -implicitDefEqProofs only [State.hold_isl, State.beginTransition_isl, State.enterHold_isl, State.enterOff_isl, State.enterDormant_isl, apply_ite State.isl, ite_self]))
theorem execPowerUp_isl (s : State) : ∀ t, (execPowerUp s) = .next t → t.isl = s.isl := by
  intro t ht; simp -implicitDefEqProofs only [execPowerUp] at ht; (repeat' split at ht) <;> (first | (rw [← Host.Outcome.next.inj ht]; done) | (rw [← Host.Outcome.next.inj ht]; simp -implicitDefEqProofs only [State.hold_isl, State.readHdr_isl, State.setPw_isl, apply_ite State.isl, ite_self]; done))
@[simp] theorem State.markFailed_isl (s : State) (k : Nat) : (State.markFailed s k).isl = s.isl := by
  simp -implicitDefEqProofs only [State.markFailed, State.setPw_isl]
@[simp] theorem State.fallBack_isl (s : State) (k : Nat) : (State.fallBack s k).isl = s.isl := by
  simp -implicitDefEqProofs only [State.fallBack, State.put_isl, State.raise_isl, State.markFailed_isl]
@[simp] theorem State.failSlot_isl (s : State) (k : Nat) : (State.failSlot s k).isl = s.isl := by
  simp -implicitDefEqProofs only [State.failSlot, State.markFailed_isl, State.fallBack_isl, apply_ite State.isl, ite_self]
@[simp] theorem State.bootPages_isl (s : State) : (State.bootPages s).isl = s.isl := by
  simp -implicitDefEqProofs only [State.bootPages, State.put_isl, State.train_isl, foldl_isl, foldlP_isl, implies_true]
@[simp] theorem State.bootSession_isl (s : State) (p : Nat) : (State.bootSession s p).isl = s.isl := by
  simp -implicitDefEqProofs only [State.bootSession, State.put_isl, State.bump_isl, State.setSession_isl, State.doLock_isl, State.startScrub_isl, foldl_isl, foldlP_isl, implies_true, apply_ite State.isl, ite_self]
@[simp] theorem State.bootWith_isl (s : State) (k : Nat) : (State.bootWith s k).isl = s.isl := by
  simp -implicitDefEqProofs only [State.bootWith, State.put_isl, State.record_isl, State.hold_isl, State.setPower_isl, State.seqFromTime_isl, State.setPw_isl, State.linkTrained_isl, State.bootPages_isl, State.bootSession_isl, foldl_isl, foldlP_isl, implies_true, apply_ite State.isl, ite_self]
@[simp] theorem State.enterRecovery_isl (s : State) : (State.enterRecovery s).isl = s.isl := by
  simp -implicitDefEqProofs only [State.enterRecovery, State.put_isl, State.setPw_isl]
@[simp] theorem State.trySlot_isl (s : State) (k : Nat) (complete : Bool) : (State.trySlot s k complete).isl = s.isl := by
  simp -implicitDefEqProofs only [State.trySlot, State.failSlot_isl, State.bootWith_isl, State.enterRecovery_isl, apply_ite State.isl, ite_self]
theorem execBoot_isl (s : State) (complete : Bool) : ∀ t, (execBoot s complete) = .next t → t.isl = s.isl := by
  intro t ht; simp -implicitDefEqProofs only [execBoot] at ht; (repeat' split at ht) <;> (first | (rw [← Host.Outcome.next.inj ht]; done) | (rw [← Host.Outcome.next.inj ht]; simp -implicitDefEqProofs only [State.enterRecovery_isl, State.trySlot_isl, apply_ite State.isl, ite_self]; done))
@[simp] theorem State.resetSecurity_isl (s : State) : (State.resetSecurity s).isl = s.isl := by
  simp -implicitDefEqProofs only [State.resetSecurity, State.resetFields_isl]
theorem execDeviceReset_isl (sysReset : Bool) (s : State) : ∀ t, (execDeviceReset sysReset s) = .next t → t.isl = s.isl := by
  intro t ht; simp -implicitDefEqProofs only [execDeviceReset] at ht; (repeat' split at ht) <;> (first | (rw [← Host.Outcome.next.inj ht]; done) | (rw [← Host.Outcome.next.inj ht]; simp -implicitDefEqProofs only [State.setDomains_isl, State.endSessions_isl, State.seqFromTime_isl, State.finishStore_isl, State.setPw_isl, State.wipeDevice_isl, State.resetSecurity_isl, apply_ite State.isl, ite_self]; done))
@[simp] theorem State.keeperUp_isl (s : State) : (State.keeperUp s).isl = s.isl := by
  simp -implicitDefEqProofs only [State.keeperUp, State.put_isl, State.setDomains_isl, State.setRec_isl, State.checkProt_isl, State.setPw_isl]
theorem execVauxRise_isl (s : State) : ∀ t, (execVauxRise s) = .next t → t.isl = s.isl := by
  intro t ht; simp -implicitDefEqProofs only [execVauxRise] at ht; (repeat' split at ht) <;> (first | (rw [← Host.Outcome.next.inj ht]; done) | (rw [← Host.Outcome.next.inj ht]; simp -implicitDefEqProofs only [State.setPw_isl, State.keeperUp_isl, apply_ite State.isl, ite_self]; done))
theorem execCpWatchdogTimeout_isl (s : State) : ∀ t, (execCpWatchdogTimeout s) = .next t → t.isl = s.isl := by
  intro t ht; simp -implicitDefEqProofs only [execCpWatchdogTimeout] at ht; (repeat' split at ht) <;> (first | (rw [← Host.Outcome.next.inj ht]; done) | (rw [← Host.Outcome.next.inj ht]; simp -implicitDefEqProofs only [State.record_isl, State.setPw_isl, apply_ite State.isl, ite_self]; done))
theorem execCpRestartComplete_isl (s : State) : ∀ t, (execCpRestartComplete s) = .next t → t.isl = s.isl := by
  intro t ht; simp -implicitDefEqProofs only [execCpRestartComplete] at ht; rw [← Host.Outcome.next.inj ht]; simp -implicitDefEqProofs only [State.setPw_isl]
theorem execCpRestartLimit_isl (s : State) : ∀ t, (execCpRestartLimit s) = .next t → t.isl = s.isl := by
  intro t ht; simp -implicitDefEqProofs only [execCpRestartLimit] at ht; (repeat' split at ht) <;> (first | (rw [← Host.Outcome.next.inj ht]; done) | (rw [← Host.Outcome.next.inj ht]; simp -implicitDefEqProofs only [State.record_isl, State.enterHold_isl, State.setPw_isl, apply_ite State.isl, ite_self]; done))
theorem execLedgerEntryWrite_isl (part : Bed) (s : State) : ∀ t, (execLedgerEntryWrite part s) = .next t → t.isl = s.isl := by
  intro t ht; simp -implicitDefEqProofs only [execLedgerEntryWrite] at ht; (repeat' split at ht) <;> (first | (rw [← Host.Outcome.next.inj ht]; done) | (rw [← Host.Outcome.next.inj ht]; simp -implicitDefEqProofs only [State.setNoise_isl, State.onStep_isl, State.feed_isl]; done))
theorem execLedgerStall_isl (part : Bed) (s : State) : ∀ t, (execLedgerStall part s) = .next t → t.isl = s.isl := by
  intro t ht; simp -implicitDefEqProofs only [execLedgerStall] at ht; (repeat' split at ht) <;> (first | (rw [← Host.Outcome.next.inj ht]; done) | (rw [← Host.Outcome.next.inj ht]; simp -implicitDefEqProofs only [State.put_isl, State.record_isl, State.evt_isl, State.enterHold_isl, apply_ite State.isl, ite_self]; done))
theorem execDrbgReseed_isl (part : Bed) (ok : Bool) (s : State) : ∀ t, (execDrbgReseed part ok s) = .next t → t.isl = s.isl := by
  intro t ht; simp -implicitDefEqProofs only [execDrbgReseed] at ht; rw [← Host.Outcome.next.inj ht]; simp -implicitDefEqProofs only [State.reseedFail_isl, State.reseedOk_isl, State.tick_isl, apply_ite State.isl, ite_self]
theorem execEntropyHealthFail_isl (s : State) : ∀ t, (execEntropyHealthFail s) = .next t → t.isl = s.isl := by
  intro t ht; simp -implicitDefEqProofs only [execEntropyHealthFail] at ht; (repeat' split at ht) <;> (first | (rw [← Host.Outcome.next.inj ht]; done) | (rw [← Host.Outcome.next.inj ht]; simp -implicitDefEqProofs only [State.put_isl, State.raise_isl, State.setNoise_isl, foldl_isl, foldlP_isl, implies_true, apply_ite State.isl, ite_self]; done))
@[simp] theorem State.turnDown_isl (s : State) (c : Cmd) (req : Req) (authOk : Bool) (arg : Nat) (st : Nat) : (State.turnDown s c req authOk arg st).isl = s.isl := by
  simp -implicitDefEqProofs only [State.turnDown, State.bump_isl, State.evt_isl, State.raise_isl, State.reply_isl, State.refuse_isl, apply_ite State.isl, ite_self]
theorem State.command_isl (s : State) (c : Cmd) (req : Req) (authOk : Bool) (own : List (Bool × Nat)) (ok : State → State) (arg : Nat) (hok : ∀ (u : State), (ok u).isl = u.isl) : ∀ t, (State.command s c req authOk own ok arg) = .next t → t.isl = s.isl := by
  intro t ht; simp -implicitDefEqProofs only [State.command] at ht; (repeat' split at ht) <;> (first | (rw [← Host.Outcome.next.inj ht]; done) | (rw [← Host.Outcome.next.inj ht]; simp -implicitDefEqProofs only [State.turnDown_isl, hok, apply_ite State.isl, ite_self]; done))
@[simp] theorem State.done_isl (s : State) (data : List Byte) : (State.done s data).isl = s.isl := by
  simp -implicitDefEqProofs only [State.done, State.reply_isl]
@[simp] theorem State.useNonce_isl (s : State) (req : Req) : (State.useNonce s req).isl = s.isl := by
  (simp -implicitDefEqProofs only [State.useNonce]; (repeat' split) <;> (first | (with_reducible rfl) | simp -implicitDefEqProofs only []))
theorem execGetStatus_isl (req : Req) (s : State) : ∀ t, (execGetStatus req s) = .next t → t.isl = s.isl := by
  intro t ht; simp -implicitDefEqProofs only [execGetStatus] at ht; (refine State.command_isl _ _ _ _ _ _ _ ?_ _ ht) <;> (intros; simp -implicitDefEqProofs only [State.done_isl])
theorem execGetNonce_isl (req : Req) (s : State) : ∀ t, (execGetNonce req s) = .next t → t.isl = s.isl := by
  intro t ht; simp -implicitDefEqProofs only [execGetNonce] at ht; (refine State.command_isl _ _ _ _ _ _ _ ?_ _ ht) <;> (intros; simp -implicitDefEqProofs only [State.drawBytes_isl, State.done_isl])
theorem execReadPower_isl (req : Req) (s : State) : ∀ t, (execReadPower req s) = .next t → t.isl = s.isl := by
  intro t ht; simp -implicitDefEqProofs only [execReadPower] at ht; (refine State.command_isl _ _ _ _ _ _ _ ?_ _ ht) <;> (intros; simp -implicitDefEqProofs only [State.draw_isl, State.done_isl, apply_ite State.isl, ite_self])
theorem execSetPowerState_isl (req : Req) (target : Nat) (s : State) : ∀ t, (execSetPowerState req target s) = .next t → t.isl = s.isl := by
  intro t ht; simp -implicitDefEqProofs only [execSetPowerState] at ht; (refine State.command_isl _ _ _ _ _ _ _ ?_ _ ht) <;> (intros; simp -implicitDefEqProofs only [State.askPower_isl, State.done_isl])
theorem execHaltAndHold_isl (req : Req) (s : State) : ∀ t, (execHaltAndHold req s) = .next t → t.isl = s.isl := by
  intro t ht; simp -implicitDefEqProofs only [execHaltAndHold] at ht; (repeat' split at ht) <;> (first | (rw [← Host.Outcome.next.inj ht]; done) | (rw [← Host.Outcome.next.inj ht]; simp -implicitDefEqProofs only [State.enterHold_isl, State.done_isl, apply_ite State.isl, ite_self]; done))
theorem execEvrRead_isl (req : Req) (first : Nat) (s : State) : ∀ t, (execEvrRead req first s) = .next t → t.isl = s.isl := by
  intro t ht; simp -implicitDefEqProofs only [execEvrRead] at ht; (refine State.command_isl _ _ _ _ _ _ _ ?_ _ ht) <;> (intros; simp -implicitDefEqProofs only [State.markRead_isl, State.done_isl, foldl_isl, foldlP_isl, implies_true])
theorem execEvrFreeze_isl (req : Req) (s : State) : ∀ t, (execEvrFreeze req s) = .next t → t.isl = s.isl := by
  intro t ht; simp -implicitDefEqProofs only [execEvrFreeze] at ht; (refine State.command_isl _ _ _ _ _ _ _ ?_ _ ht) <;> (intros; simp -implicitDefEqProofs only [State.askFreeze_isl, State.done_isl])
theorem execEvrUnfreeze_isl (req : Req) (s : State) : ∀ t, (execEvrUnfreeze req s) = .next t → t.isl = s.isl := by
  intro t ht; simp -implicitDefEqProofs only [execEvrUnfreeze] at ht; (refine State.command_isl _ _ _ _ _ _ _ ?_ _ ht) <;> (intros; simp -implicitDefEqProofs only [State.endFreeze_isl, State.done_isl])
@[simp] theorem State.clearSlots_isl (s : State) (scope : Nat) (upTo : Nat) : (State.clearSlots s scope upTo).isl = s.isl := by
  simp -implicitDefEqProofs only [State.clearSlots, State.enqueue_isl, State.evt_isl, State.spend_isl, State.setRec_isl, State.writeBatch_isl]
theorem execEvrClear_isl (req : Req) (scope : Nat) (upToSeq : Nat) (s : State) : ∀ t, (execEvrClear req scope upToSeq s) = .next t → t.isl = s.isl := by
  intro t ht
  refine State.command_isl _ _ _ _ _ _ _ ?_ t ht
  intro u
  rw [State.done_isl, State.clearSlots_isl, State.finishStore_isl, State.useNonce_isl]
@[simp] theorem State.holdArm_isl (s : State) (p : Nat) (addr : Nat) (f : File) : (State.holdArm s p addr f).isl = s.isl := by
  (simp -implicitDefEqProofs only [State.holdArm]; (repeat' split) <;> (first | (with_reducible rfl) | simp -implicitDefEqProofs only [State.put_isl, State.readSpan_isl, State.writeSpan_isl]))
theorem execArmatureLoad_isl (req : Req) (addr : Nat) (len : Nat) (s : State) : ∀ t, (execArmatureLoad req addr len s) = .next t → t.isl = s.isl := by
  intro t ht; simp -implicitDefEqProofs only [execArmatureLoad] at ht; (refine State.command_isl _ _ _ _ _ _ _ ?_ _ ht) <;> (intros; simp -implicitDefEqProofs only [State.done_isl, State.holdArm_isl, apply_ite State.isl, ite_self])
theorem execArmatureUnload_isl (req : Req) (armId : Nat) (s : State) : ∀ t, (execArmatureUnload req armId s) = .next t → t.isl = s.isl := by
  intro t ht
  refine State.command_isl _ _ _ _ _ _ _ ?_ t ht
  intro u
  rw [State.done_isl]
  split
  · exact State.unloadSlot_isl ..
  · rfl
@[simp] theorem State.setOrigin_isl (s : State) (b : Nat) (f : File) (a : Start) : (State.setOrigin s b f a).isl = s.isl := by
  simp -implicitDefEqProofs only [State.setOrigin, State.put_isl, State.setBed_isl, apply_ite State.isl, ite_self]
@[simp] theorem State.armBed_isl (s : State) (slot : Nat) (f : File) (a : Start) (b : Nat) : (State.armBed s slot f a b).isl = s.isl := by
  simp -implicitDefEqProofs only [State.armBed, State.put_isl, State.setBed_isl, State.setSeq_isl, State.setOrigin_isl, apply_ite State.isl, ite_self]
theorem execArmatureActivate_isl (req : Req) (armId : Nat) (startFrame : Nat) (startStep : Nat) (startEpoch : Nat) (startTime : Nat) (s : State) : ∀ t, (execArmatureActivate req armId startFrame startStep startEpoch startTime s) = .next t → t.isl = s.isl := by
  intro t ht; simp -implicitDefEqProofs only [execArmatureActivate] at ht; (refine State.command_isl _ _ _ _ _ _ _ ?_ _ ht) <;> (intros; simp -implicitDefEqProofs only [State.done_isl, State.armBed_isl, foldl_isl, foldlP_isl, implies_true, apply_ite State.isl, ite_self])
@[simp] theorem State.joinOrigin_isl (s : State) (q : Nat) (hash : Nat) (step : Nat) : (State.joinOrigin s q hash step).isl = s.isl := by
  simp -implicitDefEqProofs only [State.joinOrigin]
  exact foldl_isl _ (fun u b => by simp -implicitDefEqProofs only [State.put_isl, State.setBed_isl]) _ _
@[simp] theorem State.joinOrigins_isl (s : State) : (State.joinOrigins s).isl = s.isl := by
  simp -implicitDefEqProofs (disch := (intros; (repeat' split) <;> try simp -implicitDefEqProofs only [State.joinOrigin_isl, foldl_isl, foldlP_isl, implies_true, apply_ite State.isl, ite_self])) only [State.joinOrigins, State.joinOrigin_isl, foldl_isl, foldlP_isl, implies_true, apply_ite State.isl, ite_self]
theorem execTimeResponseReceive_isl (port : Port) (packet : Packet) (s : State) : ∀ t, (execTimeResponseReceive port packet s) = .next t → t.isl = s.isl := by
  intro t ht; simp -implicitDefEqProofs only [execTimeResponseReceive] at ht; (refine State.consume_isl _ _ _ _ _ ?_ _ ht) <;> (intros; simp -implicitDefEqProofs only [State.timeResponseIn_isl, State.tryKey_isl, State.joinOrigins_isl, foldl_isl, foldlP_isl, implies_true, apply_ite State.isl, ite_self])
theorem execGraftPlan_isl (req : Req) (memberHash : Nat) (step : Nat) (s : State) : ∀ t, (execGraftPlan req memberHash step s) = .next t → t.isl = s.isl := by
  intro t ht; simp -implicitDefEqProofs only [execGraftPlan] at ht; (refine State.command_isl _ _ _ _ _ _ _ ?_ _ ht) <;> (intros; simp -implicitDefEqProofs only [State.setPart_isl, State.keyAnew_isl, State.done_isl, State.joinOrigin_isl, implies_true, apply_ite State.isl, ite_self])
theorem execRegrow_isl (req : Req) (partner : Nat) (source : Nat) (cutStep : Nat) (partnerValid : Bool) (sourceHolds : Bool) (s : State) : ∀ t, (execRegrow req partner source cutStep partnerValid sourceHolds s) = .next t → t.isl = s.isl := by
  intro t ht; simp -implicitDefEqProofs only [execRegrow] at ht; (refine State.command_isl _ _ _ _ _ _ _ ?_ _ ht) <;> (intros; simp -implicitDefEqProofs only [State.setPart_isl, State.forgetUpdates_isl, State.done_isl, apply_ite State.isl, ite_self])
@[simp] theorem State.beginTransfer_isl (s : State) (b : Nat) (c : Nat) (x : Nat) : (State.beginTransfer s b c x).isl = s.isl := by
  simp -implicitDefEqProofs only [State.beginTransfer, State.put_isl, State.setCores_isl]
@[simp] theorem State.loadTile_isl (s : State) (b : Nat) (c : Nat) (x : Transfer) (d : Desc) (i : Nat) : (State.loadTile s b c x d i).isl = s.isl := by
  (simp -implicitDefEqProofs only [State.loadTile]; (repeat' split) <;> (first | (with_reducible rfl) | simp -implicitDefEqProofs only [State.readSpan_isl, State.localPut_isl, State.raiseFlags_isl, apply_ite State.isl, ite_self]))
@[simp] theorem State.prefetchTile_isl (s : State) (b : Nat) (x : Transfer) (d : Desc) (i : Nat) : (State.prefetchTile s b x d i).isl = s.isl := by
  simp -implicitDefEqProofs only [State.prefetchTile, State.readSpan_isl, apply_ite State.isl, ite_self]
@[simp] theorem State.unpinLine_isl (s : State) (b : Nat) (cls : Nat) (l : Nat) (drop : Bool) : (State.unpinLine s b cls l drop).isl = s.isl := by
  (simp -implicitDefEqProofs only [State.unpinLine]; (repeat' split) <;> (first | (with_reducible rfl) | simp -implicitDefEqProofs only [State.countFault_isl, State.meter_isl, State.releaseLine_isl, State.dropLine_isl, apply_ite State.isl, ite_self]))
theorem State.transfer_isl (s : State) (bed : Bed) (core : Core) (ctx : Ctx) (op : Nat) (f : State → Transfer → Desc → State) (hf : ∀ (u : State) (w1 : Transfer) (w2 : Desc), (f u w1 w2).isl = u.isl) : ∀ t, (State.transfer s bed core ctx op f) = .next t → t.isl = s.isl := by
  intro t ht; simp -implicitDefEqProofs only [State.transfer] at ht; (repeat' split at ht) <;> (first | (rw [← Host.Outcome.next.inj ht]; done) | (rw [← Host.Outcome.next.inj ht]; simp -implicitDefEqProofs only [State.beginTransfer_isl, hf, apply_ite State.isl, ite_self]; done))
theorem execTransferLoad_isl (bed : Bed) (core : Core) (ctx : Ctx) (s : State) : ∀ t, (execTransferLoad bed core ctx s) = .next t → t.isl = s.isl := by
  intro t ht; simp -implicitDefEqProofs only [execTransferLoad] at ht; (refine State.transfer_isl _ _ _ _ _ _ ?_ _ ht) <;> (intros; simp -implicitDefEqProofs only [State.count_isl, State.loadTile_isl, foldl_isl, foldlP_isl, implies_true])
theorem execTransferPrefetch_isl (bed : Bed) (core : Core) (ctx : Ctx) (s : State) : ∀ t, (execTransferPrefetch bed core ctx s) = .next t → t.isl = s.isl := by
  intro t ht; simp -implicitDefEqProofs only [execTransferPrefetch] at ht; (refine State.transfer_isl _ _ _ _ _ _ ?_ _ ht) <;> (intros; simp -implicitDefEqProofs only [State.count_isl, State.prefetchTile_isl, foldl_isl, foldlP_isl, implies_true])
theorem execTransferRelease_isl (bed : Bed) (core : Core) (ctx : Ctx) (s : State) : ∀ t, (execTransferRelease bed core ctx s) = .next t → t.isl = s.isl := by
  intro t ht; simp -implicitDefEqProofs only [execTransferRelease] at ht; (refine State.transfer_isl _ _ _ _ _ _ ?_ _ ht) <;> (intros; simp -implicitDefEqProofs only [State.unpinLine_isl, foldl_isl, foldlP_isl, implies_true])
theorem execTransferDrop_isl (bed : Bed) (core : Core) (ctx : Ctx) (s : State) : ∀ t, (execTransferDrop bed core ctx s) = .next t → t.isl = s.isl := by
  intro t ht; simp -implicitDefEqProofs only [execTransferDrop] at ht; (refine State.transfer_isl _ _ _ _ _ _ ?_ _ ht) <;> (intros; simp -implicitDefEqProofs only [State.unpinLine_isl, foldl_isl, foldlP_isl, implies_true])
theorem execTransferComplete_isl (bed : Bed) (core : Core) (ctx : Ctx) (s : State) : ∀ t, (execTransferComplete bed core ctx s) = .next t → t.isl = s.isl := by
  intro t ht; simp -implicitDefEqProofs only [execTransferComplete] at ht; (repeat' split at ht) <;> (first | (rw [← Host.Outcome.next.inj ht]; done) | (rw [← Host.Outcome.next.inj ht]; simp -implicitDefEqProofs only [State.setCores_isl, State.compUp_isl, apply_ite State.isl, ite_self]; done))
theorem execLineRead_isl (req : MemReq) (err : LineErr) (s : State) : ∀ t, (execLineRead req err s) = .next t → t.isl = s.isl := by
  intro t ht; simp -implicitDefEqProofs only [execLineRead] at ht; rw [← Host.Outcome.next.inj ht]; simp -implicitDefEqProofs only [State.readLine_isl]
theorem execLineWrite_isl (req : MemReq) (first : Nat) (data : List Byte) (poison : Bool) (s : State) : ∀ t, (execLineWrite req first data poison s) = .next t → t.isl = s.isl := by
  intro t ht; simp -implicitDefEqProofs only [execLineWrite] at ht; (repeat' split at ht) <;> (first | (rw [← Host.Outcome.next.inj ht]; done) | (rw [← Host.Outcome.next.inj ht]; simp -implicitDefEqProofs only [State.denyWrite_isl, State.writeLine_isl, apply_ite State.isl, ite_self]; done))
theorem execPatrolScrub_isl (stack : Stack) (addr : Nat) (err : LineErr) (passDone : Bool) (s : State) : ∀ t, (execPatrolScrub stack addr err passDone s) = .next t → t.isl = s.isl := by
  intro t ht; simp -implicitDefEqProofs only [execPatrolScrub] at ht; (repeat' split at ht) <;> (first | (rw [← Host.Outcome.next.inj ht]; done) | (rw [← Host.Outcome.next.inj ht]; simp -implicitDefEqProofs only [State.bump_isl, State.stackRead_isl, apply_ite State.isl, ite_self]; done))
@[simp] theorem State.retrain_isl (s : State) (u : Nat) (ch : Nat) : (State.retrain s u ch).isl = s.isl := by
  simp -implicitDefEqProofs only [State.retrain, State.put_isl, State.bump_isl, State.setMem_isl, apply_ite State.isl, ite_self]
theorem execMemoryTrainingCheck_isl (stack : Stack) (channel : Fin 32) (ok : Bool) (s : State) : ∀ t, (execMemoryTrainingCheck stack channel ok s) = .next t → t.isl = s.isl := by
  intro t ht; simp -implicitDefEqProofs only [execMemoryTrainingCheck] at ht; (repeat' split at ht) <;> (first | (rw [← Host.Outcome.next.inj ht]; done) | (rw [← Host.Outcome.next.inj ht]; simp -implicitDefEqProofs only [State.record_isl, State.evt_isl, State.retrain_isl, apply_ite State.isl, ite_self]; done))
theorem execChannelRetrain_isl (stack : Stack) (channel : Fin 32) (errors : Nat) (s : State) : ∀ t, (execChannelRetrain stack channel errors s) = .next t → t.isl = s.isl := by
  intro t ht; simp -implicitDefEqProofs only [execChannelRetrain] at ht; (repeat' split at ht) <;> (first | (rw [← Host.Outcome.next.inj ht]; done) | (rw [← Host.Outcome.next.inj ht]; simp -implicitDefEqProofs only [State.put_isl, State.raise_isl, State.setMem_isl, State.retrain_isl, apply_ite State.isl, ite_self]; done))
@[simp] theorem State.fenceChannel_isl (s : State) (u : Nat) (ch : Nat) : (State.fenceChannel s u ch).isl = s.isl := by
  simp -implicitDefEqProofs only [State.fenceChannel, State.put_isl, State.evt_isl, State.raise_isl]
theorem execRetrainEnd_isl (stack : Stack) (channel : Fin 32) (ok : Bool) (s : State) : ∀ t, (execRetrainEnd stack channel ok s) = .next t → t.isl = s.isl := by
  intro t ht; simp -implicitDefEqProofs only [execRetrainEnd] at ht; (repeat' split at ht) <;> (first | (rw [← Host.Outcome.next.inj ht]; done) | (rw [← Host.Outcome.next.inj ht]; simp -implicitDefEqProofs only [State.put_isl, State.bump_isl, State.setMem_isl, State.fenceChannel_isl, apply_ite State.isl, ite_self]; done))
theorem execRefreshLate_isl (stack : Stack) (_channel : Fin 32) (s : State) : ∀ t, (execRefreshLate stack _channel s) = .next t → t.isl = s.isl := by
  intro t ht; simp -implicitDefEqProofs only [execRefreshLate] at ht; rw [← Host.Outcome.next.inj ht]; simp -implicitDefEqProofs only [State.bump_isl, State.record_isl, State.evt_isl]
theorem execStackHot_isl (stack : Stack) (celsius : Nat) (s : State) : ∀ t, (execStackHot stack celsius s) = .next t → t.isl = s.isl := by
  intro t ht; simp -implicitDefEqProofs only [execStackHot] at ht; rw [← Host.Outcome.next.inj ht]; simp -implicitDefEqProofs only [State.put_isl, State.raise_isl, apply_ite State.isl, ite_self]
@[simp] theorem State.readGrad_isl (s : State) (b : Nat) (f : File) (e : Pass) (step : Nat) (g : Nat) : (State.readGrad s b f e step g).1.isl = s.isl := by
  simp -implicitDefEqProofs only [State.readGrad, State.readSpan_isl, apply_ite State.isl, ite_self]
@[simp] theorem State.readRing_isl (s : State) (b : Nat) (f : File) (layer : Nat) (step : Nat) : (State.readRing s b f layer step).1.isl = s.isl := by
  simp -implicitDefEqProofs only [State.readRing, State.readSpan_isl, apply_ite State.isl, ite_self]
@[simp] theorem State.readGroup_isl (s : State) (b : Nat) (e : Pass) (g : Nat) : (State.readGroup s b e g).1.isl = s.isl := by
  simp -implicitDefEqProofs only [State.readGroup, State.readSpan_isl]
theorem State.readOld_isl (s : State) (b : Nat) (f : File) (e : Pass) (step g : Nat) : (s.readOld b f e step g).st.isl = s.isl := by
  simp -implicitDefEqProofs only [State.readOld]
  split
  · simp -implicitDefEqProofs only [State.readRing_isl]
  · split <;> simp -implicitDefEqProofs only [State.readRing_isl, State.readGrad_isl]
@[simp] theorem State.runGroup_isl (s : State) (b : Nat) (f : File) (e : Pass) (step : Nat) (g : Nat) (ratio : Nat) (skip : Bool) : (State.runGroup s b f e step g ratio skip).1.isl = s.isl := by
  simp -implicitDefEqProofs only [State.runGroup]
  split
  · rw [State.readOld_isl]; split
    · exact State.readGroup_isl ..
    · rw [State.readGrad_isl, State.readGroup_isl]
  · dsimp only; split
    · exact State.readGroup_isl ..
    · rw [State.readGrad_isl, State.readGroup_isl]
@[simp] theorem State.writeGroup_isl (s : State) (b : Nat) (x : GroupIn) (bs : List Byte) (lines : List Nat) : (State.writeGroup s b x bs lines).isl = s.isl := by
  simp -implicitDefEqProofs only [State.writeGroup, State.writeLine_isl, foldl_isl, foldlP_isl, implies_true]
@[simp] theorem State.countN_isl (s : State) (p : Page) (f : Fld) (n : Nat) : (State.countN s p f n).isl = s.isl := by
  simp -implicitDefEqProofs only [State.countN, State.bump_isl, apply_ite State.isl, ite_self]
@[simp] theorem State.countBlock_isl (s : State) (u : Nat) (q : Nat) (layer : Nat) (step : Nat) (o : BlkOut) : (State.countBlock s u q layer step o).isl = s.isl := by
  simp -implicitDefEqProofs only [State.countBlock, apply_ite State.isl, State.record_isl, State.onceDo_isl, State.raise_isl, State.bump_isl, State.countN_isl, ite_self, implies_true]
@[simp] theorem State.countGroup_isl (s : State) (u : Nat) (q : Nat) (layer : Nat) (step : Nat) (x : GroupIn) (e : Pass) (g : Nat) (os : List BlkOut) : (State.countGroup s u q layer step x e g os).isl = s.isl := by
  simp -implicitDefEqProofs only [State.countGroup, State.bump_isl, State.raise_isl, State.countBlock_isl, foldl_isl, foldlP_isl, implies_true, apply_ite State.isl, ite_self]
@[simp] theorem State.countRsv_isl (s : State) (u : Nat) (n : Nat) : (State.countRsv s u n).isl = s.isl := by
  simp -implicitDefEqProofs only [State.countRsv, State.put_isl, apply_ite State.isl, ite_self]
@[simp] theorem State.readNorm_isl (s : State) (b : Nat) (f : File) (layer : Nat) : (State.readNorm s b f layer).1.isl = s.isl := by
  simp -implicitDefEqProofs only [State.readNorm, State.readSpan_isl, apply_ite State.isl, ite_self]
@[simp] theorem State.layerRatio_isl (s : State) (b : Nat) (f : File) (layer : Nat) (step : Nat) (skip : Bool) : (State.layerRatio s b f layer step skip).1.isl = s.isl := by
  (simp -implicitDefEqProofs only [State.layerRatio]; (repeat' split) <;> (first | (with_reducible rfl) | simp -implicitDefEqProofs only [State.put_isl, State.writeSpan_isl, State.readNorm_isl, apply_ite State.isl, ite_self]))
@[simp] theorem State.writeNorm_isl (s : State) (b : Nat) (f : File) (layer : Nat) (step : Nat) (r : Nat) : (State.writeNorm s b f layer step r).isl = s.isl := by
  simp -implicitDefEqProofs only [State.writeNorm, State.writeSpan_isl, State.readNorm_isl]
@[simp] theorem State.mirror_isl (s : State) (u : Nat) (f : File) (step : Nat) (x : GroupIn) (bs : List Byte) : (State.mirror s u f step x bs).isl = s.isl := by
  simp -implicitDefEqProofs only [State.mirror, State.put_isl, State.bump_isl, State.send_isl, foldl_isl, foldlP_isl, implies_true, apply_ite State.isl, ite_self]
@[simp] theorem State.writeWork_isl (s : State) (b : Nat) (d : Desc) (tile : Nat) (vals : List Nat) (lo : Nat) (hi : Nat) : (State.writeWork s b d tile vals lo hi).isl = s.isl := by
  simp -implicitDefEqProofs only [State.writeWork]
  split
  · exact foldl_isl _ (fun u b => State.writeSpan_isl ..) _ _
  · exact (State.writeSpan_isl ..).trans (foldl_isl _ (fun u b => State.writeSpan_isl ..) _ _)
@[simp] theorem State.passOne_isl (s : State) (u : Nat) (f : File) (e : Pass) (step : Nat) (g : Nat) (ratio : Nat) (skip : Bool) (vals : List Nat) : (State.passOne s u f e step g ratio skip vals).1.isl = s.isl := by
  simp -implicitDefEqProofs only [State.passOne, State.put_isl, State.runGroup_isl, State.writeGroup_isl, State.countN_isl, State.countGroup_isl, State.countRsv_isl, State.mirror_isl, State.writeWork_isl, implies_true, apply_ite State.isl, ite_self]
@[simp] theorem State.setRun_isl (s : State) (u : Nat) (r : Option UnitRun) : (State.setRun s u r).isl = s.isl := by
  simp -implicitDefEqProofs only [State.setRun, State.put_isl]
@[simp] theorem State.endPass_isl (s : State) (u : Nat) (f : File) (k : Nat) (e : Pass) (step : Nat) (ratio : Nat) (skip : Bool) : (State.endPass s u f k e step ratio skip).isl = s.isl := by
  simp -implicitDefEqProofs only [State.endPass, State.put_isl, State.creditUnit_isl, State.done_isl, State.writeNorm_isl, State.setRun_isl, apply_ite State.isl, ite_self]
@[simp] theorem State.advance_isl (s : State) (u : Nat) (r : UnitRun) (e : Pass) : (State.advance s u r e).isl = s.isl := by
  simp -implicitDefEqProofs only [State.advance, State.put_isl, State.layerRatio_isl, State.passOne_isl, State.setRun_isl, State.endPass_isl, apply_ite State.isl, ite_self]
theorem execUpdateEntry_isl (unit : Stack) (s : State) : ∀ t, (execUpdateEntry unit s) = .next t → t.isl = s.isl := by
  intro t ht; simp -implicitDefEqProofs only [execUpdateEntry] at ht; (repeat' split at ht) <;> (first | (rw [← Host.Outcome.next.inj ht]; done) | (rw [← Host.Outcome.next.inj ht]; simp -implicitDefEqProofs only [State.done_isl, State.advance_isl, apply_ite State.isl, ite_self]; done))
@[simp] theorem State.prepass_isl (s : State) (u : Nat) (f : File) (k : Nat) (e : Pass) (step : Nat) : (State.prepass s u f k e step).isl = s.isl := by
  simp -implicitDefEqProofs only [State.prepass, State.put_isl, State.runGroup_isl, foldl_isl, foldlP_isl, implies_true]
theorem execUpdatePrepass_isl (unit : Stack) (s : State) : ∀ t, (execUpdatePrepass unit s) = .next t → t.isl = s.isl := by
  intro t ht; simp -implicitDefEqProofs only [execUpdatePrepass] at ht; (repeat' split at ht) <;> (first | (rw [← Host.Outcome.next.inj ht]; done) | (rw [← Host.Outcome.next.inj ht]; simp -implicitDefEqProofs only [State.prepass_isl, apply_ite State.isl, ite_self]; done))
theorem execUnitStop_isl (unit : Stack) (s : State) : ∀ t, (execUnitStop unit s) = .next t → t.isl = s.isl := by
  intro t ht; simp -implicitDefEqProofs only [execUnitStop] at ht; (repeat' split at ht) <;> (first | (rw [← Host.Outcome.next.inj ht]; done) | (rw [← Host.Outcome.next.inj ht]; simp -implicitDefEqProofs only [State.put_isl, State.setRun_isl, apply_ite State.isl, ite_self]; done))
@[simp] theorem State.replayEntry_isl (s : State) (f : File) (k : Nat) (e : Pass) (step : Nat) : (State.replayEntry s f k e step).isl = s.isl := by
  (simp -implicitDefEqProofs only [State.replayEntry]; (repeat' split) <;> (first | (with_reducible rfl) | simp -implicitDefEqProofs only [State.readRing_isl, State.passOne_isl, State.endPass_isl, foldl_isl, foldlP_isl, implies_true]))
theorem execRegrowReplay_isl (part : Bed) (step : Nat) (s : State) : ∀ t, (execRegrowReplay part step s) = .next t → t.isl = s.isl := by
  intro t ht; simp -implicitDefEqProofs only [execRegrowReplay] at ht; (repeat' split at ht) <;> (first | (rw [← Host.Outcome.next.inj ht]; done) | (rw [← Host.Outcome.next.inj ht]; simp -implicitDefEqProofs only [State.setPart_isl, State.replayEntry_isl, foldl_isl, foldlP_isl, implies_true, apply_ite State.isl, ite_self]; done))
@[simp] theorem State.rejectCut_isl (s : State) (q : Nat) (src : Nat) (off : Nat) : (State.rejectCut s q src off).isl = s.isl := by
  simp -implicitDefEqProofs only [State.rejectCut, State.bump_isl, State.record_isl]
@[simp] theorem State.setWard_isl (s : State) (q : Nat) (k : Nat) (x : Option (Nat × List Nat)) : (State.setWard s q k x).isl = s.isl := by
  simp -implicitDefEqProofs only [State.setWard, State.put_isl]
@[simp] theorem State.beginWard_isl (s : State) (q : Nat) (k : Nat) (step : Nat) : (State.beginWard s q k step).isl = s.isl := by
  simp -implicitDefEqProofs only [State.beginWard, State.put_isl, State.raise_isl, State.setWard_isl, apply_ite State.isl, ite_self]
@[simp] theorem State.wardLine_isl (s : State) (port : Nat) (q : Nat) (f : File) (k : Packet) : (State.wardLine s port q f k).isl = s.isl := by
  (simp -implicitDefEqProofs only [State.wardLine]; (repeat' split) <;> (first | (with_reducible rfl) | simp -implicitDefEqProofs only [State.put_isl, State.writeSpan_isl, State.send_isl, State.setWard_isl, State.beginWard_isl, apply_ite State.isl, ite_self]))
@[simp] theorem State.cuttingIn_isl (s : State) (port : Nat) (k : Packet) : (State.cuttingIn s port k).isl = s.isl := by
  simp -implicitDefEqProofs only [State.cuttingIn, State.rejectCut_isl, State.wardLine_isl, apply_ite State.isl, ite_self]
theorem execCuttingReceive_isl (port : Port) (packet : Packet) (s : State) : ∀ t, (execCuttingReceive port packet s) = .next t → t.isl = s.isl := by
  intro t ht; simp -implicitDefEqProofs only [execCuttingReceive] at ht; (refine State.consume_isl _ _ _ _ _ ?_ _ ht) <;> (intros; simp -implicitDefEqProofs only [State.cuttingIn_isl])
@[simp] theorem State.cutAckIn_isl (s : State) (port : Nat) (k : Packet) : (State.cutAckIn s port k).isl = s.isl := by
  simp -implicitDefEqProofs only [State.cutAckIn, State.put_isl, State.raise_isl, apply_ite State.isl, ite_self]
theorem execCutAckReceive_isl (port : Port) (packet : Packet) (s : State) : ∀ t, (execCutAckReceive port packet s) = .next t → t.isl = s.isl := by
  intro t ht; simp -implicitDefEqProofs only [execCutAckReceive] at ht; (refine State.consume_isl _ _ _ _ _ ?_ _ ht) <;> (intros; simp -implicitDefEqProofs only [State.cutAckIn_isl])
@[simp] theorem State.showOwner_isl (s : State) : (State.showOwner s).isl = s.isl := by
  simp -implicitDefEqProofs only [State.showOwner, State.put_isl]
theorem execOwnerEnroll_isl (req : Req) (keyHash : List Byte) (s : State) : ∀ t, (execOwnerEnroll req keyHash s) = .next t → t.isl = s.isl := by
  intro t ht; simp -implicitDefEqProofs only [execOwnerEnroll] at ht; (refine State.command_isl _ _ _ _ _ _ _ ?_ _ ht) <;> (intros; simp -implicitDefEqProofs only [State.done_isl, State.useNonce_isl, State.setSec_isl, State.showOwner_isl])
theorem execOwnerRevoke_isl (req : Req) (s : State) : ∀ t, (execOwnerRevoke req s) = .next t → t.isl = s.isl := by
  intro t ht; simp -implicitDefEqProofs only [execOwnerRevoke] at ht; (refine State.command_isl _ _ _ _ _ _ _ ?_ _ ht) <;> (intros; simp -implicitDefEqProofs only [State.done_isl, State.useNonce_isl, State.setSec_isl, State.showOwner_isl])
theorem execSessionOpen_isl (req : Req) (payload : List Byte) (s : State) : ∀ t, (execSessionOpen req payload s) = .next t → t.isl = s.isl := by
  intro t ht; simp -implicitDefEqProofs only [execSessionOpen] at ht; (refine State.command_isl _ _ _ _ _ _ _ ?_ _ ht) <;> (intros; simp -implicitDefEqProofs only [State.readSpan_isl, State.beginSession_isl, State.done_isl])
theorem execSessionClose_isl (req : Req) (s : State) : ∀ t, (execSessionClose req s) = .next t → t.isl = s.isl := by
  intro t ht; simp -implicitDefEqProofs only [execSessionClose] at ht; (refine State.command_isl _ _ _ _ _ _ _ ?_ _ ht) <;> (intros; simp -implicitDefEqProofs only [State.beginClose_isl, State.endSessionNow_isl, State.done_isl, State.useNonce_isl, apply_ite State.isl, ite_self])
@[simp] theorem State.writeChunk_isl (s : State) (slot : Nat) (image : Nat) (offset : Nat) (chunk : List Byte) : (State.writeChunk s slot image offset chunk).isl = s.isl := by
  simp -implicitDefEqProofs only [State.writeChunk, State.put_isl, State.beginStore_isl, State.setSec_isl, apply_ite State.isl, ite_self]
@[simp] theorem State.passSlot_isl (s : State) (k : Nat) : (State.passSlot s k).isl = s.isl := by
  simp -implicitDefEqProofs only [State.passSlot, State.put_isl, State.setSec_isl]
@[simp] theorem State.markPending_isl (s : State) (k : Nat) : (State.markPending s k).isl = s.isl := by
  simp -implicitDefEqProofs only [State.markPending, State.put_isl, State.setSec_isl]
theorem execFwUpdate_isl (req : Req) (image : Nat) (offset : Nat) (chunk : List Byte) (last : Bool) (s : State) : ∀ t, (execFwUpdate req image offset chunk last s) = .next t → t.isl = s.isl := by
  intro t ht; simp -implicitDefEqProofs only [execFwUpdate] at ht; (refine State.command_isl _ _ _ _ _ _ _ ?_ _ ht) <;> (intros; simp -implicitDefEqProofs only [State.refuse_isl, State.done_isl, State.useNonce_isl, State.writeChunk_isl, State.passSlot_isl, State.markPending_isl, apply_ite State.isl, ite_self])
theorem execFwCommit_isl (req : Req) (s : State) : ∀ t, (execFwCommit req s) = .next t → t.isl = s.isl := by
  intro t ht; simp -implicitDefEqProofs only [execFwCommit] at ht; (refine State.command_isl _ _ _ _ _ _ _ ?_ _ ht) <;> (intros; simp -implicitDefEqProofs only [State.put_isl, State.done_isl, State.useNonce_isl])
theorem execPageUnlock_isl (req : Req) (page : Page) (s : State) : ∀ t, (execPageUnlock req page s) = .next t → t.isl = s.isl := by
  intro t ht; simp -implicitDefEqProofs only [execPageUnlock] at ht; (refine State.command_isl _ _ _ _ _ _ _ ?_ _ ht) <;> (intros; simp -implicitDefEqProofs only [State.doUnlock_isl, State.done_isl, State.useNonce_isl])
theorem execRecoveryWrite_isl (req : Req) (image : Nat) (offset : Nat) (chunk : List Byte) (last : Bool) (s : State) : ∀ t, (execRecoveryWrite req image offset chunk last s) = .next t → t.isl = s.isl := by
  intro t ht; simp -implicitDefEqProofs only [execRecoveryWrite] at ht; (refine State.command_isl _ _ _ _ _ _ _ ?_ _ ht) <;> (intros; simp -implicitDefEqProofs only [State.refuse_isl, State.setPw_isl, State.done_isl, State.setSec_isl, State.writeChunk_isl, State.passSlot_isl, apply_ite State.isl, ite_self])
theorem execUnknownCommand_isl (req : Req) (code : Nat) (s : State) : ∀ t, (execUnknownCommand req code s) = .next t → t.isl = s.isl := by
  intro t ht; simp -implicitDefEqProofs only [execUnknownCommand] at ht; (repeat' split at ht) <;> (first | (rw [← Host.Outcome.next.inj ht]; done) | (rw [← Host.Outcome.next.inj ht]; simp -implicitDefEqProofs only [State.refuse_isl, apply_ite State.isl, ite_self]; done))
theorem execManagementCommandTimeout_isl (req : Req) (code : Nat) (phase : Nat) (s : State) : ∀ t, (execManagementCommandTimeout req code phase s) = .next t → t.isl = s.isl := by
  intro t ht; simp -implicitDefEqProofs only [execManagementCommandTimeout] at ht; (repeat' split at ht) <;> (first | (rw [← Host.Outcome.next.inj ht]; done) | (rw [← Host.Outcome.next.inj ht]; simp -implicitDefEqProofs only [State.refuse_isl, apply_ite State.isl, ite_self]; done))
theorem State.runOwner_isl (s : State) (path : Path) (c : RawCmd) : ∀ t, (State.runOwner s path c) = .next t → t.isl = s.isl := by
  intro t ht
  rw [State.runOwner.eq_def] at ht
  dsimp only at ht
  by_cases h0 : c.code = 0x43
  · rw [if_pos h0] at ht; exact execEvrClear_isl _ _ _ _ t ht
  rw [if_neg h0] at ht
  by_cases h1 : c.code = 0x50
  · rw [if_pos h1] at ht; split at ht <;> exact execOwnerEnroll_isl _ _ _ t ht
  rw [if_neg h1] at ht
  by_cases h2 : c.code = 0x51
  · rw [if_pos h2] at ht; exact execOwnerRevoke_isl _ _ t ht
  rw [if_neg h2] at ht
  by_cases h3 : c.code = 0x52
  · rw [if_pos h3] at ht; exact execSessionOpen_isl _ _ _ t ht
  rw [if_neg h3] at ht
  by_cases h4 : c.code = 0x53
  · rw [if_pos h4] at ht; exact execSessionClose_isl _ _ t ht
  rw [if_neg h4] at ht
  by_cases h5 : c.code = 0x54
  · rw [if_pos h5] at ht; exact execFwUpdate_isl _ _ _ _ _ _ t ht
  rw [if_neg h5] at ht
  by_cases h6 : c.code = 0x55
  · rw [if_pos h6] at ht; exact execFwCommit_isl _ _ t ht
  rw [if_neg h6] at ht
  exact execPageUnlock_isl _ _ _ t ht
theorem State.runRecovery_isl (s : State) (path : Path) (c : RawCmd) : ∀ t, (State.runRecovery s path c) = .next t → t.isl = s.isl := by
  intro t ht; simp -implicitDefEqProofs only [State.runRecovery] at ht; exact execRecoveryWrite_isl _ _ _ _ _ _ _ ht
theorem State.runRegrow_isl (s : State) (path : Path) (c : RawCmd) : ∀ t, (State.runRegrow s path c) = .next t → t.isl = s.isl := by
  intro t ht
  simp -implicitDefEqProofs only [State.runRegrow] at ht
  rw [execRegrow_isl _ _ _ _ _ _ _ t ht, State.draw_isl]
theorem State.runRaw_isl (s : State) (path : Path) (c : RawCmd) : ∀ t, (State.runRaw s path c) = .next t → t.isl = s.isl := by
  intro t ht
  rw [State.runRaw.eq_def] at ht
  dsimp only at ht
  by_cases h0 : c.code = 0x01
  · rw [if_pos h0] at ht; exact execGetStatus_isl _ _ t ht
  rw [if_neg h0] at ht
  by_cases h1 : c.code = 0x02
  · rw [if_pos h1] at ht; exact execGetNonce_isl _ _ t ht
  rw [if_neg h1] at ht
  by_cases h2 : c.code = 0x03
  · rw [if_pos h2] at ht; exact execReadPower_isl _ _ t ht
  rw [if_neg h2] at ht
  by_cases h3 : c.code = 0x10
  · rw [if_pos h3] at ht; exact execArmatureLoad_isl _ _ _ _ t ht
  rw [if_neg h3] at ht
  by_cases h4 : c.code = 0x11
  · rw [if_pos h4] at ht; exact execArmatureActivate_isl _ _ _ _ _ _ _ t ht
  rw [if_neg h4] at ht
  by_cases h5 : c.code = 0x12
  · rw [if_pos h5] at ht; exact execArmatureUnload_isl _ _ _ t ht
  rw [if_neg h5] at ht
  by_cases h6 : c.code = 0x20
  · rw [if_pos h6] at ht; exact execSetPowerState_isl _ _ _ t ht
  rw [if_neg h6] at ht
  by_cases h7 : c.code = 0x21
  · rw [if_pos h7] at ht; exact execHaltAndHold_isl _ _ t ht
  rw [if_neg h7] at ht
  by_cases h8 : c.code = 0x30
  · rw [if_pos h8] at ht; exact execGraftPlan_isl _ _ _ _ t ht
  rw [if_neg h8] at ht
  by_cases h9 : c.code = 0x31
  · rw [if_pos h9] at ht; exact State.runRegrow_isl _ _ _ t ht
  rw [if_neg h9] at ht
  by_cases h10 : c.code = 0x40
  · rw [if_pos h10] at ht; exact execEvrRead_isl _ _ _ t ht
  rw [if_neg h10] at ht
  by_cases h11 : c.code = 0x41
  · rw [if_pos h11] at ht; exact execEvrFreeze_isl _ _ t ht
  rw [if_neg h11] at ht
  by_cases h12 : c.code = 0x42
  · rw [if_pos h12] at ht; exact execEvrUnfreeze_isl _ _ t ht
  rw [if_neg h12] at ht
  by_cases h13 : c.code = 0x60
  · rw [if_pos h13] at ht; exact execRecoveryWrite_isl _ _ _ _ _ _ t ht
  rw [if_neg h13] at ht
  split at ht
  · exact State.runOwner_isl _ _ _ t ht
  · exact execUnknownCommand_isl _ _ _ t ht
theorem State.onMctp_isl (s : State) (f : State → State) (hf : ∀ (u : State), (f u).isl = u.isl) : ∀ t, (State.onMctp s f) = .next t → t.isl = s.isl := by
  intro t ht; simp -implicitDefEqProofs only [State.onMctp] at ht; (repeat' split at ht) <;> (first | (rw [← Host.Outcome.next.inj ht]; done) | (rw [← Host.Outcome.next.inj ht]; simp -implicitDefEqProofs only [hf, apply_ite State.isl, ite_self]; done))
theorem execSetEndpointId_isl (eid : Nat) (s : State) (op : Nat) : ∀ t, (execSetEndpointId eid s op) = .next t → t.isl = s.isl := by
  intro t ht; simp -implicitDefEqProofs only [execSetEndpointId] at ht; (refine State.onMctp_isl _ _ ?_ _ ht) <;> (intros; simp -implicitDefEqProofs only [State.reply_isl, State.done_isl, apply_ite State.isl, ite_self])
theorem execGetEndpointId_isl (s : State) : ∀ t, (execGetEndpointId s) = .next t → t.isl = s.isl := by
  intro t ht; simp -implicitDefEqProofs only [execGetEndpointId] at ht; (refine State.onMctp_isl _ _ ?_ _ ht) <;> (intros; simp -implicitDefEqProofs only [State.done_isl])
theorem execGetMctpVersionSupport_isl (s : State) (type : Nat) : ∀ t, (execGetMctpVersionSupport s type) = .next t → t.isl = s.isl := by
  intro t ht; simp -implicitDefEqProofs only [execGetMctpVersionSupport] at ht; (refine State.onMctp_isl _ _ ?_ _ ht) <;> (intros; simp -implicitDefEqProofs only [State.reply_isl, State.done_isl, apply_ite State.isl, ite_self])
theorem execGetMessageTypeSupport_isl (s : State) : ∀ t, (execGetMessageTypeSupport s) = .next t → t.isl = s.isl := by
  intro t ht; simp -implicitDefEqProofs only [execGetMessageTypeSupport] at ht; (refine State.onMctp_isl _ _ ?_ _ ht) <;> (intros; simp -implicitDefEqProofs only [State.done_isl])
theorem execGetVendorDefinedMessageSupport_isl (s : State) (selector : Nat) : ∀ t, (execGetVendorDefinedMessageSupport s selector) = .next t → t.isl = s.isl := by
  intro t ht; simp -implicitDefEqProofs only [execGetVendorDefinedMessageSupport] at ht; (refine State.onMctp_isl _ _ ?_ _ ht) <;> (intros; simp -implicitDefEqProofs only [State.reply_isl, State.done_isl, apply_ite State.isl, ite_self])
@[simp] theorem State.replyPacket_isl (s : State) (q : Nat) (k : Packet) : (State.replyPacket s q k).isl = s.isl := by
  simp -implicitDefEqProofs only [State.replyPacket, State.send_isl]
theorem State.mgmtIn_isl (s : State) (p : Nat) (k : Packet) : ∀ t, (State.mgmtIn s p k) = .next t → t.isl = s.isl := by
  intro t ht
  simp -implicitDefEqProofs only [State.mgmtIn] at ht
  split at ht
  · rw [← Host.Outcome.next.inj ht, State.keyMessage_isl]
  split at ht
  · rw [← Host.Outcome.next.inj ht]
  split at ht
  · rename_i h; rw [← Host.Outcome.next.inj ht, State.replyPacket_isl]; exact State.runRaw_isl _ _ _ _ h
  · cases ht
  · cases ht
theorem execMgmtReceive_isl (port : Port) (packet : Packet) (s : State) : ∀ t, (execMgmtReceive port packet s) = .next t → t.isl = s.isl := by
  intro t ht
  have h0 := State.takeIn_isl s port.val packet
  rw [execMgmtReceive.eq_def] at ht
  split at ht
  · rw [← Host.Outcome.next.inj ht]
  split at ht
  · rename_i h; rw [h] at h0; rw [State.mgmtIn_isl _ _ _ t ht]; exact h0
  · rename_i h; rw [h] at h0; rw [← Host.Outcome.next.inj ht]; exact h0
theorem State.deliver_isl (s : State) (port : Port) (k : Packet) : ∀ t, (State.deliver s port k) = .next t → t.isl = s.isl := by
  intro t ht; simp -implicitDefEqProofs only [State.deliver] at ht; (repeat' split at ht) <;> (first | (exact execDataReceive_isl _ _ _ _ ht) | (exact execHeartbeatReceive_isl _ _ _ _ ht) | (exact execTimeRequestReceive_isl _ _ _ _ ht) | (exact execTopologyReceive_isl _ _ _ _ ht) | (exact execReduceReceive_isl _ _ _ _ ht) | (exact execCertReceive_isl _ _ _ _ ht) | (exact execTimeResponseReceive_isl _ _ _ _ ht) | (exact execCuttingReceive_isl _ _ _ _ ht) | (exact execCutAckReceive_isl _ _ _ _ ht) | (exact execMgmtReceive_isl _ _ _ _ ht) | (rw [← Host.Outcome.next.inj ht]; done) | (rw [← Host.Outcome.next.inj ht]; simp -implicitDefEqProofs only [State.takeIn_isl, apply_ite State.isl, ite_self]; done) | (rw [← Host.Outcome.next.inj ht]; (repeat' split) <;> simp -implicitDefEqProofs only [State.takeIn_isl, apply_ite State.isl, ite_self]; done) | (cases ht; done))
@[simp] theorem State.countSlot_isl (s : State) (p : Nat) (corrected : Nat) (uncorrectable : Nat) (asked : Option Nat) : (State.countSlot s p corrected uncorrectable asked).isl = s.isl := by
  (simp -implicitDefEqProofs only [State.countSlot]; (repeat' split) <;> (first | (with_reducible rfl) | simp -implicitDefEqProofs only [State.put_isl, State.bump_isl, State.setFab_isl, State.askedFor_isl, apply_ite State.isl, ite_self]))
theorem execSlotReceive_isl (port : Port) (corrected : Nat) (uncorrectable : Nat) (packet : Packet) (s : State) (asked : Option Nat) : ∀ t, (execSlotReceive port corrected uncorrectable packet s asked) = .next t → t.isl = s.isl := by
  intro t ht
  rw [execSlotReceive.eq_def] at ht
  dsimp only at ht
  split at ht
  · rw [← Host.Outcome.next.inj ht]
  split at ht
  · split at ht
    · rw [← Host.Outcome.next.inj ht]
    · exact (State.deliver_isl _ _ _ t ht).trans (State.setFab_isl ..)
  split at ht
  · rw [← Host.Outcome.next.inj ht]; exact State.countSlot_isl ..
  · exact (State.deliver_isl _ _ _ t ht).trans (State.countSlot_isl ..)
@[simp] theorem State.writeConfig_isl (s : State) (w : Nat) (v : Nat) : (State.writeConfig s w v).isl = s.isl := by
  simp -implicitDefEqProofs only [State.writeConfig, State.put_isl, State.resetEndpoint_isl, apply_ite State.isl, ite_self]
@[simp] theorem State.hostAccess_isl (s : State) (w : HostWait) : (State.hostAccess s w).isl = s.isl := by
  simp -implicitDefEqProofs only [State.hostAccess, State.hold_isl, State.serveHost_isl, apply_ite State.isl, ite_self]
theorem execBar2Read_isl (off : Nat) (err : LineErr) (s : State) : ∀ t, (execBar2Read off err s) = .next t → t.isl = s.isl := by
  intro t ht; simp -implicitDefEqProofs only [execBar2Read] at ht; (repeat' split at ht) <;> (first | (rw [← Host.Outcome.next.inj ht]; done) | (rw [← Host.Outcome.next.inj ht]; simp -implicitDefEqProofs only [State.onBar_isl, State.hostAccess_isl, implies_true, apply_ite State.isl, ite_self]; done))
theorem execBar2Write_isl (off : Nat) (data : List Byte) (ep : Bool) (s : State) : ∀ t, (execBar2Write off data ep s) = .next t → t.isl = s.isl := by
  intro t ht; simp -implicitDefEqProofs only [execBar2Write] at ht; (repeat' split at ht) <;> (first | (rw [← Host.Outcome.next.inj ht]; done) | (rw [← Host.Outcome.next.inj ht]; simp -implicitDefEqProofs only [State.onBar_isl, State.hostAccess_isl, implies_true, apply_ite State.isl, ite_self]; done))
@[simp] theorem State.setFlying_isl (s : State) (q : Nat) (l : List InFlight) : (State.setFlying s q l).isl = s.isl := by
  simp -implicitDefEqProofs only [State.setFlying, State.put_isl]
@[simp] theorem State.beginDesc_isl (s : State) (q : Nat) (d : DmaDesc) : (State.beginDesc s q d).isl = s.isl := by
  (simp -implicitDefEqProofs only [State.beginDesc]; (repeat' split) <;> (first | (with_reducible rfl) | simp -implicitDefEqProofs only [State.put_isl, State.countFault_isl, State.denyWrite_isl, State.setFlying_isl, apply_ite State.isl, ite_self]))
@[simp] theorem State.fetch_isl (z0 : Nat) (z1 : State) (z2 : Nat) : (State.fetch z0 z1 z2).isl = z1.isl := by
  induction z0 generalizing z1 with
  | zero => rfl
  | succ n ih =>
    simp -implicitDefEqProofs only [State.fetch]
    split
    · rfl
    · split
      · rw [ih, State.beginDesc_isl]
      · rfl
@[simp] theorem State.runQueue_isl (s : State) (q : Nat) : (State.runQueue s q).isl = s.isl := by
  simp -implicitDefEqProofs only [State.runQueue, State.fetch_isl]
@[simp] theorem State.ring_isl (s : State) (q : Nat) (tail : Nat) (descs : List (List Byte)) : (State.ring s q tail descs).isl = s.isl := by
  simp -implicitDefEqProofs only [State.ring, State.put_isl, State.runQueue_isl]
theorem execDoorbell_isl (queue : Queue) (tail : Nat) (descs : List (List Byte)) (s : State) : ∀ t, (execDoorbell queue tail descs s) = .next t → t.isl = s.isl := by
  intro t ht; simp -implicitDefEqProofs only [execDoorbell] at ht; rw [← Host.Outcome.next.inj ht]; simp -implicitDefEqProofs only [State.hostWriteL_isl, State.ring_isl, implies_true, apply_ite State.isl, ite_self]
@[simp] theorem State.dmaWrite_isl (s : State) (part : Nat) (a : Nat) (data : List Byte) (sealed : Bool) : (State.dmaWrite s part a data sealed).isl = s.isl := by
  simp -implicitDefEqProofs only [State.dmaWrite, State.hostWrite_isl, foldl_isl, foldlP_isl, implies_true]
@[simp] theorem State.dmaRead_isl (s : State) (part : Nat) (a : Nat) (len : Nat) : (State.dmaRead s part a len).1.isl = s.isl := by
  unfold State.dmaRead
  have h : ∀ (l : List Nat) (x : (State × List Byte × Bool) × Bool), (l.foldl (fun x i =>
      let deny := !x.1.1.hostFaulty part (a + 64 * i) && x.1.1.guardDenies (a + 64 * i)
      let r := x.1.1.hostRead part (a + 64 * i) .none (!x.2)
      ((r.1, x.1.2.1 ++ (if r.2.2 then List.replicate 64 0 else r.2.1), x.1.2.2 || r.2.2), x.2 || deny)) x).1.1.isl = x.1.1.isl := by
    intro l
    induction l with
    | nil => intro x; rfl
    | cons i l ih => intro x; rw [List.foldl_cons, ih]; exact State.hostRead_isl ..
  exact h _ _
@[simp] theorem State.onDesc_isl (s : State) (q : Nat) (op : Nat) (f : InFlight → State → State) (hf : ∀ (w0 : InFlight) (u : State), (f w0 u).isl = u.isl) : (State.onDesc s q op f).isl = s.isl := by
  (simp -implicitDefEqProofs only [State.onDesc]; (repeat' split) <;> (first | (with_reducible rfl) | simp -implicitDefEqProofs only [hf, apply_ite State.isl, ite_self]))
theorem execDmaHostToDevice_isl (queue : Queue) (data : List Byte) (s : State) : ∀ t, (execDmaHostToDevice queue data s) = .next t → t.isl = s.isl := by
  intro t ht; simp -implicitDefEqProofs only [execDmaHostToDevice] at ht; rw [← Host.Outcome.next.inj ht]; simp -implicitDefEqProofs only [State.denyWrite_isl, State.setFlying_isl, State.dmaWrite_isl, State.onDesc_isl, implies_true, apply_ite State.isl, ite_self]
theorem execDmaDeviceToHost_isl (queue : Queue) (s : State) : ∀ t, (execDmaDeviceToHost queue s) = .next t → t.isl = s.isl := by
  intro t ht; simp -implicitDefEqProofs only [execDmaDeviceToHost] at ht; rw [← Host.Outcome.next.inj ht]; simp -implicitDefEqProofs only [State.setFlying_isl, State.dmaRead_isl, State.onDesc_isl, implies_true]
theorem execDmaSealedWrite_isl (queue : Queue) (cipher : List Byte) (tag : List Byte) (s : State) : ∀ t, (execDmaSealedWrite queue cipher tag s) = .next t → t.isl = s.isl := by
  intro t ht; simp -implicitDefEqProofs only [execDmaSealedWrite] at ht; rw [← Host.Outcome.next.inj ht]; simp -implicitDefEqProofs (disch := (intros; (repeat' split) <;> try simp -implicitDefEqProofs only [State.setFlying_isl, State.dmaWrite_isl, State.onDesc_isl, implies_true])) only [State.setFlying_isl, State.dmaWrite_isl, State.onDesc_isl, implies_true]
@[simp] theorem State.complete_isl (s : State) (q : Nat) (x : InFlight) (st : Nat) : (State.complete s q x st).isl = s.isl := by
  simp -implicitDefEqProofs only [State.complete, State.raise_isl, apply_ite State.isl, ite_self]
theorem execDmaCompletion_isl (queue : Queue) (s : State) : ∀ t, (execDmaCompletion queue s) = .next t → t.isl = s.isl := by
  intro t ht; simp -implicitDefEqProofs only [execDmaCompletion] at ht; (repeat' split at ht) <;> (first | (rw [← Host.Outcome.next.inj ht]; done) | (rw [← Host.Outcome.next.inj ht]; simp -implicitDefEqProofs only [State.setFlying_isl, State.runQueue_isl, State.complete_isl, apply_ite State.isl, ite_self]; done))
theorem execDmaDescriptorTimeout_isl (queue : Queue) (moved : List Byte) (s : State) : ∀ t, (execDmaDescriptorTimeout queue moved s) = .next t → t.isl = s.isl := by
  intro t ht; simp -implicitDefEqProofs only [execDmaDescriptorTimeout] at ht; (repeat' split at ht) <;> (first | (rw [← Host.Outcome.next.inj ht]; done) | (rw [← Host.Outcome.next.inj ht]; simp -implicitDefEqProofs only [State.record_isl, State.evt_isl, State.setFlying_isl, State.dmaWrite_isl, State.dmaRead_isl, apply_ite State.isl, ite_self]; done))
@[simp] theorem State.fillMailbox_isl (s : State) (bs : List Byte) : (State.fillMailbox s bs).isl = s.isl := by
  simp -implicitDefEqProofs only [State.fillMailbox, State.put_isl, foldl_isl, foldlP_isl, implies_true]
@[simp] theorem State.mailboxDone_isl (s : State) : (State.mailboxDone s).isl = s.isl := by
  simp -implicitDefEqProofs only [State.mailboxDone, State.put_isl, State.raise_isl, State.fillMailbox_isl]
theorem State.mailboxGo_isl (s : State) : ∀ t, (State.mailboxGo s) = .next t → t.isl = s.isl := by
  intro t ht
  simp -implicitDefEqProofs only [State.mailboxGo] at ht
  split at ht
  · rw [← Host.Outcome.next.inj ht]; simp -implicitDefEqProofs only [State.reply_isl, State.put_isl]
  split at ht
  · rw [← Host.Outcome.next.inj ht]; simp -implicitDefEqProofs only [State.mailboxDone_isl, State.refuse_isl, State.put_isl]
  split at ht
  · rw [← Host.Outcome.next.inj ht, State.put_isl]
  split at ht
  · rename_i h; rw [← Host.Outcome.next.inj ht, State.mailboxDone_isl, State.runRaw_isl _ _ _ _ h, State.put_isl]
  · cases ht
  · cases ht
theorem execMbxGo_isl (s : State) : ∀ t, (execMbxGo s) = .next t → t.isl = s.isl := by
  intro t ht; simp -implicitDefEqProofs only [execMbxGo] at ht; (repeat' split at ht) <;> (first | (exact State.mailboxGo_isl _ _ ht) | (rw [← Host.Outcome.next.inj ht]; done) | (rw [← Host.Outcome.next.inj ht]; simp -implicitDefEqProofs only [State.onBar_isl, State.lockedOut_isl, implies_true, apply_ite State.isl, ite_self]; done) | (rw [← Host.Outcome.next.inj ht]; (repeat' split) <;> simp -implicitDefEqProofs only [State.onBar_isl, State.lockedOut_isl, implies_true, apply_ite State.isl, ite_self]; done) | (rw [← Host.Outcome.next.inj ht]; simp -implicitDefEqProofs (disch := (intros; (repeat' split) <;> try simp -implicitDefEqProofs only [State.onBar_isl, State.lockedOut_isl, implies_true, apply_ite State.isl, ite_self])) only [State.onBar_isl, State.lockedOut_isl, implies_true, apply_ite State.isl, ite_self]; done) | (cases ht; done))
theorem execMbxHalt_isl (s : State) : ∀ t, (execMbxHalt s) = .next t → t.isl = s.isl := by
  intro t ht; simp -implicitDefEqProofs only [execMbxHalt] at ht; rw [← Host.Outcome.next.inj ht]; simp -implicitDefEqProofs only [State.hostWriteL_isl, State.enterHold_isl, implies_true]
@[simp] theorem State.configAnswer_isl (s : State) (retry : Bool) (word : Nat) : (State.configAnswer s retry word).isl = s.isl := by
  simp -implicitDefEqProofs only [State.configAnswer, apply_ite State.isl, ite_self]
@[simp] theorem State.linkDuringBoot_isl (s : State) : (State.linkDuringBoot s).isl = s.isl := by
  simp -implicitDefEqProofs only [State.linkDuringBoot, State.draw_isl, apply_ite State.isl, ite_self]
theorem execPcieConfigRequest_isl (s : State) (dword : Nat) (write : Option Nat) : ∀ t, (execPcieConfigRequest s dword write) = .next t → t.isl = s.isl := by
  intro t ht; simp -implicitDefEqProofs only [execPcieConfigRequest] at ht; (repeat' split at ht) <;> (first | (rw [← Host.Outcome.next.inj ht]; done) | (rw [← Host.Outcome.next.inj ht]; simp -implicitDefEqProofs only [State.writeConfig_isl, State.configAnswer_isl, State.linkDuringBoot_isl, apply_ite State.isl, ite_self]; done))
theorem execFlr_isl (s : State) : ∀ t, (execFlr s) = .next t → t.isl = s.isl := by
  intro t ht; simp -implicitDefEqProofs only [execFlr] at ht; (repeat' split at ht) <;> (first | (rw [← Host.Outcome.next.inj ht]; done) | (rw [← Host.Outcome.next.inj ht]; simp -implicitDefEqProofs only [State.resetEndpoint_isl, apply_ite State.isl, ite_self]; done))
@[simp] theorem State.readWord_isl (s : State) (p : Page) (o : Nat) : (State.readWord s p o).1.isl = s.isl := by
  (simp -implicitDefEqProofs only [State.readWord]; (repeat' split) <;> (first | (with_reducible rfl) | simp -implicitDefEqProofs only [State.put_isl, apply_ite State.isl, ite_self]))
@[simp] theorem State.badOffset_isl (s : State) (p : Page) (off : Nat) (size : Nat) : (State.badOffset s p off size).isl = s.isl := by
  simp -implicitDefEqProofs only [State.badOffset, State.common_isl]
@[simp] theorem State.readPage_isl (s : State) (p : Page) (o : Nat) : (State.readPage s p o).1.isl = s.isl := by
  (simp -implicitDefEqProofs only [State.readPage]; (repeat' split) <;> (first | (with_reducible rfl) | simp -implicitDefEqProofs only [State.draw_isl, State.markRead_isl, State.readWord_isl, apply_ite State.isl, ite_self]))
@[simp] theorem State.readSize_isl (s : State) (p : Page) (o : Nat) (size : Nat) : (State.readSize s p o size).1.isl = s.isl := by
  (simp -implicitDefEqProofs only [State.readSize]; (repeat' split) <;> (first | (with_reducible rfl) | simp -implicitDefEqProofs only [State.readPage_isl, apply_ite State.isl, ite_self]))
@[simp] theorem State.readBar_isl (s : State) (off : Nat) (size : Nat) : (State.readBar s off size).1.isl = s.isl := by
  (simp -implicitDefEqProofs only [State.readBar]; (repeat' split) <;> (first | (with_reducible rfl) | simp -implicitDefEqProofs only [State.badOffset_isl, State.readSize_isl, apply_ite State.isl, ite_self]))
theorem execBadAccess_isl (off : Nat) (size : Nat) (write : Bool) (s : State) : ∀ t, (execBadAccess off size write s) = .next t → t.isl = s.isl := by
  intro t ht; simp -implicitDefEqProofs only [execBadAccess] at ht; (repeat' split at ht) <;> (first | (rw [← Host.Outcome.next.inj ht]; done) | (rw [← Host.Outcome.next.inj ht]; simp -implicitDefEqProofs only [State.answer_isl, State.onBar_isl, State.badOffset_isl, implies_true, apply_ite State.isl, ite_self]; done))
@[simp] theorem State.unimplemented_isl (s : State) (off : Nat) (size : Nat) (write : Bool) : (State.unimplemented s off size write).isl = s.isl := by
  (simp -implicitDefEqProofs only [State.unimplemented]; (repeat' split) <;> (first | (with_reducible rfl) | simp -implicitDefEqProofs only [State.answer_isl, State.badOffset_isl, apply_ite State.isl, ite_self]))
theorem execUnimplementedAccess_isl (off : Nat) (size : Nat) (write : Bool) (s : State) : ∀ t, (execUnimplementedAccess off size write s) = .next t → t.isl = s.isl := by
  intro t ht; simp -implicitDefEqProofs only [execUnimplementedAccess] at ht; (repeat' split at ht) <;> (first | (rw [← Host.Outcome.next.inj ht]; done) | (rw [← Host.Outcome.next.inj ht]; simp -implicitDefEqProofs only [State.onBar_isl, State.unimplemented_isl, implies_true, apply_ite State.isl, ite_self]; done))
theorem execLowWordRead_isl (off : Nat) (s : State) (size : Nat) : ∀ t, (execLowWordRead off s size) = .next t → t.isl = s.isl := by
  intro t ht; simp -implicitDefEqProofs only [execLowWordRead] at ht; (repeat' split at ht) <;> (first | (rw [← Host.Outcome.next.inj ht]; done) | (rw [← Host.Outcome.next.inj ht]; simp -implicitDefEqProofs only [State.answer_isl, State.onBar_isl, State.readBar_isl, implies_true, apply_ite State.isl, ite_self]; done))
@[simp] theorem State.noteRefusal_isl (s : State) (hp : Page) (pay : List Byte) (code : Nat) : (State.noteRefusal s hp pay code).isl = s.isl := by
  simp -implicitDefEqProofs only [State.noteRefusal, State.common_isl, apply_ite State.isl, State.put_isl, ite_self]
@[simp] theorem State.setParts_isl (s : State) (v : Nat) : (State.setParts s v).isl = s.isl := by
  simp -implicitDefEqProofs only [State.setParts, State.put_isl, State.clearOrigin_isl, State.unloadAll_isl, foldl_isl, foldlP_isl, implies_true]
@[simp] theorem State.setLocalGib_isl (s : State) (b : Nat) (v : Nat) : (State.setLocalGib s b v).isl = s.isl := by
  simp -implicitDefEqProofs only [State.setLocalGib, State.put_isl, State.setMem_isl, State.unloadAll_isl, apply_ite State.isl, ite_self]
@[simp] theorem State.setEnc_isl (s : State) (b : Nat) (v : Nat) : (State.setEnc s b v).isl = s.isl := by
  simp -implicitDefEqProofs only [State.setEnc, State.put_isl, State.startScrub_isl]
@[simp] theorem State.setPortEnc_isl (s : State) (p : Nat) (v : Nat) : (State.setPortEnc s p v).isl = s.isl := by
  simp -implicitDefEqProofs only [State.setPortEnc, State.put_isl]
@[simp] theorem State.setTestPower_isl (s : State) (v : Nat) : (State.setTestPower s v).isl = s.isl := by
  simp -implicitDefEqProofs only [State.setTestPower, State.put_isl]
@[simp] theorem State.stopBed_isl (s : State) (b : Nat) : (State.stopBed s b).isl = s.isl := by
  simp -implicitDefEqProofs only [State.stopBed, State.put_isl, State.setBed_isl, State.cancelArmed_isl, State.askUnits_isl, apply_ite State.isl, ite_self]
@[simp] theorem State.runPort_isl (s : State) (p : Nat) (v : Nat) : (State.runPort s p v).isl = s.isl := by
  simp -implicitDefEqProofs only [State.runPort, State.put_isl, State.portDown_isl, State.train_isl, apply_ite State.isl, ite_self]
@[simp] theorem State.runBlock_isl (s : State) (p : Page) (v : Nat) : (State.runBlock s p v).isl = s.isl := by
  simp -implicitDefEqProofs only [State.runBlock, State.put_isl, State.halt_isl, apply_ite State.isl, ite_self]
@[simp] theorem State.setCtlRun_isl (s : State) (p : Page) (v : Nat) : (State.setCtlRun s p v).isl = s.isl := by
  (simp -implicitDefEqProofs only [State.setCtlRun]; (repeat' split) <;> (first | (with_reducible rfl) | simp -implicitDefEqProofs only [State.put_isl, State.record_isl, State.mirror_isl, State.stopBed_isl, State.runPort_isl, State.runBlock_isl, apply_ite State.isl, ite_self]))
@[simp] theorem State.applyField_isl (s : State) (hp : Page) (k : FieldKey) (v : Nat) (mask : Nat) : (State.applyField s hp k v mask).isl = s.isl := by
  rw [State.applyField.eq_def]
  split
  all_goals first
    | rfl
    | (simp -implicitDefEqProofs; done)
    | (simp -implicitDefEqProofs only [apply_ite State.isl, State.stage_isl, State.put_isl, State.put_isl, ite_self]; done)
    | trace_state
theorem State.writeReg_isl (s : State) (a : Agent) (hp : Page) (p : Page) (bar : Nat) (word : Nat) (o : Nat) (lo : Nat) (n : Nat) (value : Nat) : ∀ t, (State.writeReg s a hp p bar word o lo n value) = .next t → t.isl = s.isl := by
  intro t ht
  simp -implicitDefEqProofs only [State.writeReg] at ht
  split at ht
  · rw [State.mailboxGo_isl _ t ht, foldl_isl _ (fun u a => State.noteRefusal_isl ..), foldl_isl _ (fun u a => State.applyField_isl ..)]
  · rw [← Host.Outcome.next.inj ht, foldl_isl _ (fun u a => State.noteRefusal_isl ..), foldl_isl _ (fun u a => State.applyField_isl ..)]
theorem State.writeWord_isl (s : State) (a : Agent) (hp : Page) (p : Page) (bar : Nat) (o : Nat) (value : Nat) : ∀ t, (State.writeWord s a hp p bar o value) = .next t → t.isl = s.isl := by
  intro t ht
  rw [State.writeWord.eq_def] at ht
  split at ht <;> exact State.writeReg_isl _ _ _ _ _ _ _ _ _ _ t ht
theorem State.writePage_isl (s : State) (a : Agent) (hp : Page) (p : Page) (bar : Nat) (o : Nat) (size : Nat) (value : Nat) : ∀ t, (State.writePage s a hp p bar o size value) = .next t → t.isl = s.isl := by
  intro t ht
  rw [State.writePage.eq_def] at ht
  split at ht
  · exact State.writeWord_isl _ _ _ _ _ _ _ t ht
  split at ht
  · exact State.writeReg_isl _ _ _ _ _ _ _ _ _ _ t ht
  split at ht
  · rename_i h; rw [State.writeWord_isl _ _ _ _ _ _ _ t ht, State.writeWord_isl _ _ _ _ _ _ _ _ h]
  · cases ht
  · cases ht
@[simp] theorem State.dirWrite_isl (s : State) (off : Nat) (size : Nat) : (State.dirWrite s off size).isl = s.isl := by
  simp -implicitDefEqProofs only [State.dirWrite, State.badOffset_isl]
@[simp] theorem State.mirrorNote_isl (s : State) (off : Nat) (value : Nat) : (State.mirrorNote s off value).isl = s.isl := by
  simp -implicitDefEqProofs only [State.mirrorNote, State.record_isl]
theorem State.writeBar_isl (s : State) (a : Agent) (off : Nat) (size : Nat) (value : Nat) : ∀ t, (State.writeBar s a off size value) = .next t → t.isl = s.isl := by
  intro t ht
  rw [State.writeBar.eq_def] at ht
  split at ht
  · rw [← Host.Outcome.next.inj ht, State.badOffset_isl]
  split at ht
  · rw [← Host.Outcome.next.inj ht, State.unimplemented_isl]
  split at ht
  · rw [← Host.Outcome.next.inj ht, State.dirWrite_isl]
  split at ht
  · rw [← Host.Outcome.next.inj ht, State.mirrorNote_isl]
  split at ht
  · split at ht
    · rw [← Host.Outcome.next.inj ht, State.badOffset_isl]
    · exact State.writePage_isl _ _ _ _ _ _ _ _ t ht
  · exact State.writePage_isl _ _ _ _ _ _ _ _ t ht
theorem State.onBus_isl (s : State) (a : Agent) (f : State → Host.Outcome State Fault Refusal) (hf : ∀ (u : State) (t : State), (f u) = .next t → t.isl = u.isl) : ∀ t, (State.onBus s a f) = .next t → t.isl = s.isl := by
  intro t ht
  rw [State.onBus.eq_def] at ht
  split at ht
  · rw [← Host.Outcome.next.inj ht]; exact State.onBar_isl _ _ fun _ => rfl
  · exact hf _ _ ht
theorem State.writeField_isl (s : State) (a : Agent) (p : Page) (f : Fld) (v : Nat) (e : Nat) : ∀ t, (State.writeField s a p f v e) = .next t → t.isl = s.isl := by
  intro t ht
  simp -implicitDefEqProofs only [State.writeField] at ht
  exact State.onBus_isl _ _ _ (fun u t h => State.writeReg_isl _ _ _ _ _ _ _ _ _ _ t h) t ht
theorem execRegisterWrite_isl (agent : Agent) (off : Nat) (size : Nat) (value : Nat) (s : State) : ∀ t, (execRegisterWrite agent off size value s) = .next t → t.isl = s.isl := by
  intro t ht; simp -implicitDefEqProofs only [execRegisterWrite] at ht; (first | (exact State.writeBar_isl _ _ _ _ _ _ ht) | ((refine State.onBus_isl _ _ _ ?_ _ ht) <;> (first | (intros; first | rfl | (assumption; done)) | (intro _ _ h9; (repeat' split at h9) <;> (first | (rw [← Host.Outcome.next.inj h9]; done) | (exact State.writeBar_isl _ _ _ _ _ _ h9) | (cases h9; done))))) | (rw [← Host.Outcome.next.inj ht]; done))
theorem execDirectoryWrite_isl (off : Nat) (size : Nat) (value : Nat) (s : State) : ∀ t, (execDirectoryWrite off size value s) = .next t → t.isl = s.isl := by
  intro t ht; simp -implicitDefEqProofs only [execDirectoryWrite] at ht; (repeat' split at ht) <;> (first | (exact State.writeBar_isl _ _ _ _ _ _ ht) | ((refine State.onBus_isl _ _ _ ?_ _ ht) <;> (first | (intros; first | rfl | (assumption; done)) | (intro _ _ h9; (repeat' split at h9) <;> (first | (rw [← Host.Outcome.next.inj h9]; done) | (exact State.writeBar_isl _ _ _ _ _ _ h9) | (cases h9; done))))) | (rw [← Host.Outcome.next.inj ht]; done) | (cases ht; done))
theorem execCtlRunWrite_isl (agent : Agent) (page : Page) (run : Bool) (s : State) : ∀ t, (execCtlRunWrite agent page run s) = .next t → t.isl = s.isl := by
  intro t ht; simp -implicitDefEqProofs only [execCtlRunWrite] at ht; (repeat' split at ht) <;> (first | (exact State.writeField_isl _ _ _ _ _ _ _ ht) | (rw [← Host.Outcome.next.inj ht]; done) | (rw [← Host.Outcome.next.inj ht]; simp -implicitDefEqProofs only [State.mirror_isl, apply_ite State.isl, ite_self]; done) | (rw [← Host.Outcome.next.inj ht]; (repeat' split) <;> simp -implicitDefEqProofs only [State.mirror_isl, apply_ite State.isl, ite_self]; done) | (cases ht; done))
theorem execCntClr_isl (page : Page) (s : State) : ∀ t, (execCntClr page s) = .next t → t.isl = s.isl := by
  intro t ht; simp -implicitDefEqProofs only [execCntClr] at ht; (repeat' split at ht) <;> (first | (exact State.writeField_isl _ _ _ _ _ _ _ ht) | (rw [← Host.Outcome.next.inj ht]; done) | (rw [← Host.Outcome.next.inj ht]; simp -implicitDefEqProofs only [State.mirror_isl, apply_ite State.isl, ite_self]; done) | (rw [← Host.Outcome.next.inj ht]; (repeat' split) <;> simp -implicitDefEqProofs only [State.mirror_isl, apply_ite State.isl, ite_self]; done) | (cases ht; done))
theorem execCommit_isl (page : Page) (s : State) : ∀ t, (execCommit page s) = .next t → t.isl = s.isl := by
  intro t ht; simp -implicitDefEqProofs only [execCommit] at ht; (repeat' split at ht) <;> (first | (exact State.writeField_isl _ _ _ _ _ _ _ ht) | (rw [← Host.Outcome.next.inj ht]; done) | (rw [← Host.Outcome.next.inj ht]; simp -implicitDefEqProofs only [State.mirror_isl, apply_ite State.isl, ite_self]; done) | (rw [← Host.Outcome.next.inj ht]; (repeat' split) <;> simp -implicitDefEqProofs only [State.mirror_isl, apply_ite State.isl, ite_self]; done) | (cases ht; done))
theorem execAbort_isl (page : Page) (s : State) : ∀ t, (execAbort page s) = .next t → t.isl = s.isl := by
  intro t ht; simp -implicitDefEqProofs only [execAbort] at ht; (repeat' split at ht) <;> (first | (exact State.writeField_isl _ _ _ _ _ _ _ ht) | (rw [← Host.Outcome.next.inj ht]; done) | (rw [← Host.Outcome.next.inj ht]; simp -implicitDefEqProofs only [State.mirror_isl, apply_ite State.isl, ite_self]; done) | (rw [← Host.Outcome.next.inj ht]; (repeat' split) <;> simp -implicitDefEqProofs only [State.mirror_isl, apply_ite State.isl, ite_self]; done) | (cases ht; done))
theorem execStagingSetFlush_isl (page : Page) (s : State) : ∀ t, (execStagingSetFlush page s) = .next t → t.isl = s.isl := by
  intro t ht; simp -implicitDefEqProofs only [execStagingSetFlush] at ht; rw [← Host.Outcome.next.inj ht]; simp -implicitDefEqProofs only [State.flushPage_isl, State.takePlan_isl, State.setClock_isl, apply_ite State.isl, ite_self]
theorem execPageLock_isl (page : Page) (s : State) : ∀ t, (execPageLock page s) = .next t → t.isl = s.isl := by
  intro t ht; simp -implicitDefEqProofs only [execPageLock] at ht; (repeat' split at ht) <;> (first | (exact State.writeField_isl _ _ _ _ _ _ _ ht) | (rw [← Host.Outcome.next.inj ht]; done) | (rw [← Host.Outcome.next.inj ht]; simp -implicitDefEqProofs only [State.mirror_isl, apply_ite State.isl, ite_self]; done) | (rw [← Host.Outcome.next.inj ht]; (repeat' split) <;> simp -implicitDefEqProofs only [State.mirror_isl, apply_ite State.isl, ite_self]; done) | (cases ht; done))
theorem execCoreWindowAccess_isl (bed : Bed) (off : Nat) (size : Nat) (write : Option Nat) (s : State) : ∀ t, (execCoreWindowAccess bed off size write s) = .next t → t.isl = s.isl := by
  intro t ht; simp -implicitDefEqProofs only [execCoreWindowAccess] at ht; (repeat' split at ht) <;> (first | (exact State.writeBar_isl _ _ _ _ _ _ ht) | ((refine State.onBus_isl _ _ _ ?_ _ ht) <;> (first | (intros; first | rfl | (simp -implicitDefEqProofs only [State.answer_isl, State.onBar_isl, State.badOffset_isl, State.readBar_isl, implies_true, apply_ite State.isl, ite_self]; done)) | (intro _ _ h9; (repeat' split at h9) <;> (first | (rw [← Host.Outcome.next.inj h9]; done) | (rw [← Host.Outcome.next.inj h9]; simp -implicitDefEqProofs only [State.answer_isl, State.onBar_isl, State.badOffset_isl, State.readBar_isl, implies_true, apply_ite State.isl, ite_self]; done) | (rw [← Host.Outcome.next.inj h9]; (repeat' split) <;> simp -implicitDefEqProofs only [State.answer_isl, State.onBar_isl, State.badOffset_isl, State.readBar_isl, implies_true, apply_ite State.isl, ite_self]; done) | (rw [← Host.Outcome.next.inj h9]; simp -implicitDefEqProofs (disch := (intros; (repeat' split) <;> try simp -implicitDefEqProofs only [State.answer_isl, State.onBar_isl, State.badOffset_isl, State.readBar_isl, implies_true, apply_ite State.isl, ite_self])) only [State.answer_isl, State.onBar_isl, State.badOffset_isl, State.readBar_isl, implies_true, apply_ite State.isl, ite_self]; done) | (exact State.writeBar_isl _ _ _ _ _ _ h9) | (cases h9; done))))) | (rw [← Host.Outcome.next.inj ht]; done) | (rw [← Host.Outcome.next.inj ht]; simp -implicitDefEqProofs only [State.answer_isl, State.onBar_isl, State.badOffset_isl, State.readBar_isl, implies_true, apply_ite State.isl, ite_self]; done) | (rw [← Host.Outcome.next.inj ht]; (repeat' split) <;> simp -implicitDefEqProofs only [State.answer_isl, State.onBar_isl, State.badOffset_isl, State.readBar_isl, implies_true, apply_ite State.isl, ite_self]; done) | (rw [← Host.Outcome.next.inj ht]; simp -implicitDefEqProofs (disch := (intros; (repeat' split) <;> try simp -implicitDefEqProofs only [State.answer_isl, State.onBar_isl, State.badOffset_isl, State.readBar_isl, implies_true, apply_ite State.isl, ite_self])) only [State.answer_isl, State.onBar_isl, State.badOffset_isl, State.readBar_isl, implies_true, apply_ite State.isl, ite_self]; done) | (cases ht; done))
theorem execPartCfgWrite_isl (agent : Agent) (value : Nat) (s : State) : ∀ t, (execPartCfgWrite agent value s) = .next t → t.isl = s.isl := by
  intro t ht; simp -implicitDefEqProofs only [execPartCfgWrite] at ht; exact State.writeField_isl _ _ _ _ _ _ _ ht
theorem execLayerStateWrite_isl (bed : Bed) (value : Nat) (s : State) : ∀ t, (execLayerStateWrite bed value s) = .next t → t.isl = s.isl := by
  intro t ht; simp -implicitDefEqProofs only [execLayerStateWrite] at ht; (repeat' split at ht) <;> (first | (exact State.writeBar_isl _ _ _ _ _ _ ht) | ((refine State.onBus_isl _ _ _ ?_ _ ht) <;> (first | (intros; first | rfl | (assumption; done)) | (intro _ _ h9; (repeat' split at h9) <;> (first | (rw [← Host.Outcome.next.inj h9]; done) | (exact State.writeBar_isl _ _ _ _ _ _ h9) | (cases h9; done))))) | (rw [← Host.Outcome.next.inj ht]; done) | (cases ht; done))
theorem execInactivePageWrite_isl (bed : Bed) (off : Nat) (size : Nat) (s : State) : ∀ t, (execInactivePageWrite bed off size s) = .next t → t.isl = s.isl := by
  intro t ht; simp -implicitDefEqProofs only [execInactivePageWrite] at ht; (repeat' split at ht) <;> (first | (exact State.writeBar_isl _ _ _ _ _ _ ht) | ((refine State.onBus_isl _ _ _ ?_ _ ht) <;> (first | (intros; first | rfl | (assumption; done)) | (intro _ _ h9; (repeat' split at h9) <;> (first | (rw [← Host.Outcome.next.inj h9]; done) | (exact State.writeBar_isl _ _ _ _ _ _ h9) | (cases h9; done))))) | (rw [← Host.Outcome.next.inj ht]; done) | (cases ht; done))
theorem execGroupWordWrite_isl (unit : Stack) (word : Fin 8) (value : Nat) (s : State) : ∀ t, (execGroupWordWrite unit word value s) = .next t → t.isl = s.isl := by
  intro t ht; simp -implicitDefEqProofs only [execGroupWordWrite] at ht; exact State.writeField_isl _ _ _ _ _ _ _ ht
theorem execBrMapWrite_isl (bridge : Bed) (value : Nat) (s : State) : ∀ t, (execBrMapWrite bridge value s) = .next t → t.isl = s.isl := by
  intro t ht; simp -implicitDefEqProofs only [execBrMapWrite] at ht; exact State.writeField_isl _ _ _ _ _ _ _ ht
theorem execBridgeRunStop_isl (bridge : Bed) (s : State) : ∀ t, (execBridgeRunStop bridge s) = .next t → t.isl = s.isl := by
  intro t ht; simp -implicitDefEqProofs only [execBridgeRunStop] at ht; exact State.writeField_isl _ _ _ _ _ _ _ ht
theorem execPortRunWrite_isl (port : Port) (run : Bool) (s : State) : ∀ t, (execPortRunWrite port run s) = .next t → t.isl = s.isl := by
  intro t ht; simp -implicitDefEqProofs only [execPortRunWrite] at ht; exact State.writeField_isl _ _ _ _ _ _ _ ht
theorem execEncCtlWrite_isl (agent : Agent) (bridge : Bed) (enable : Bool) (s : State) : ∀ t, (execEncCtlWrite agent bridge enable s) = .next t → t.isl = s.isl := by
  intro t ht; simp -implicitDefEqProofs only [execEncCtlWrite] at ht; exact State.writeField_isl _ _ _ _ _ _ _ ht
theorem execBedRunStop_isl (bed : Bed) (s : State) : ∀ t, (execBedRunStop bed s) = .next t → t.isl = s.isl := by
  intro t ht; simp -implicitDefEqProofs only [execBedRunStop] at ht; exact State.writeField_isl _ _ _ _ _ _ _ ht
theorem execRunWriteIgnored_isl (bed : Bed) (s : State) : ∀ t, (execRunWriteIgnored bed s) = .next t → t.isl = s.isl := by
  intro t ht; simp -implicitDefEqProofs only [execRunWriteIgnored] at ht; exact State.writeField_isl _ _ _ _ _ _ _ ht
theorem execMirrorWrite_isl (off : Nat) (size : Nat) (value : Nat) (s : State) : ∀ t, (execMirrorWrite off size value s) = .next t → t.isl = s.isl := by
  intro t ht; simp -implicitDefEqProofs only [execMirrorWrite] at ht; (repeat' split at ht) <;> (first | (exact State.writeBar_isl _ _ _ _ _ _ ht) | ((refine State.onBus_isl _ _ _ ?_ _ ht) <;> (first | (intros; first | rfl | (assumption; done)) | (intro _ _ h9; (repeat' split at h9) <;> (first | (rw [← Host.Outcome.next.inj h9]; done) | (exact State.writeBar_isl _ _ _ _ _ _ h9) | (cases h9; done))))) | (rw [← Host.Outcome.next.inj ht]; done) | (cases ht; done))
theorem execMeterNotReady_isl (s : State) : ∀ t, (execMeterNotReady s) = .next t → t.isl = s.isl := by
  intro t ht; simp -implicitDefEqProofs only [execMeterNotReady] at ht; (repeat' split at ht) <;> (first | (rw [← Host.Outcome.next.inj ht]; done) | (rw [← Host.Outcome.next.inj ht]; simp -implicitDefEqProofs only [State.record_isl, apply_ite State.isl, ite_self]; done))
@[simp] theorem State.mirrorPage_isl (s : State) : (State.mirrorPage s).isl = s.isl := by
  simp -implicitDefEqProofs only [State.mirrorPage, State.put_isl, foldl_isl, foldlP_isl, implies_true]
@[simp] theorem State.followVersion_isl (s : State) : (State.followVersion s).isl = s.isl := by
  simp -implicitDefEqProofs only [State.followVersion, State.record_isl, apply_ite State.isl, ite_self]
theorem execSnapshotStale_isl (s : State) : ∀ t, (execSnapshotStale s) = .next t → t.isl = s.isl := by
  intro t ht; simp -implicitDefEqProofs only [execSnapshotStale] at ht; (repeat' split at ht) <;> (first | (rw [← Host.Outcome.next.inj ht]; done) | (rw [← Host.Outcome.next.inj ht]; simp -implicitDefEqProofs only [State.put_isl, apply_ite State.isl, ite_self]; done))
theorem State.onPort_isl (s : State) (pec : Bool) (bad : List (Bool × Nat)) (ok : State → State) (hok : ∀ (u : State), (ok u).isl = u.isl) : ∀ t, (State.onPort s pec bad ok) = .next t → t.isl = s.isl := by
  intro t ht; simp -implicitDefEqProofs only [State.onPort] at ht; (repeat' split at ht) <;> (first | (rw [← Host.Outcome.next.inj ht]; done) | (rw [← Host.Outcome.next.inj ht]; simp -implicitDefEqProofs only [State.reply_isl, hok, apply_ite State.isl, ite_self]; done))
theorem execReadEnergy_isl (s : State) (pec : Bool) : ∀ t, (execReadEnergy s pec) = .next t → t.isl = s.isl := by
  intro t ht; simp -implicitDefEqProofs only [execReadEnergy] at ht; (refine State.onPort_isl _ _ _ _ ?_ _ ht) <;> (intros; simp -implicitDefEqProofs only [State.reply_isl])
theorem execReadStatus_isl (s : State) (pec : Bool) : ∀ t, (execReadStatus s pec) = .next t → t.isl = s.isl := by
  intro t ht; simp -implicitDefEqProofs only [execReadStatus] at ht; (refine State.onPort_isl _ _ _ _ ?_ _ ht) <;> (intros; simp -implicitDefEqProofs only [State.reply_isl])
theorem execReadSwId_isl (s : State) (pec : Bool) : ∀ t, (execReadSwId s pec) = .next t → t.isl = s.isl := by
  intro t ht; simp -implicitDefEqProofs only [execReadSwId] at ht; (refine State.onPort_isl _ _ _ _ ?_ _ ht) <;> (intros; simp -implicitDefEqProofs only [State.reply_isl])
theorem execReadAudit_isl (index : Nat) (s : State) (pec : Bool) : ∀ t, (execReadAudit index s pec) = .next t → t.isl = s.isl := by
  intro t ht; simp -implicitDefEqProofs only [execReadAudit] at ht; (refine State.onPort_isl _ _ _ _ ?_ _ ht) <;> (intros; simp -implicitDefEqProofs only [State.reply_isl])
theorem execReadCfg_isl (s : State) (pec : Bool) : ∀ t, (execReadCfg s pec) = .next t → t.isl = s.isl := by
  intro t ht; simp -implicitDefEqProofs only [execReadCfg] at ht; (refine State.onPort_isl _ _ _ _ ?_ _ ht) <;> (intros; simp -implicitDefEqProofs only [State.reply_isl])
theorem execIslandUnknownCommand_isl (code : Nat) (s : State) (pec : Bool) : ∀ t, (execIslandUnknownCommand code s pec) = .next t → t.isl = s.isl := by
  intro t ht; simp -implicitDefEqProofs only [execIslandUnknownCommand] at ht; (repeat' split at ht) <;> (first | ((refine State.onPort_isl _ _ _ _ ?_ _ ht) <;> (first | (intros; first | rfl | (simp -implicitDefEqProofs only [State.reply_isl]; done)) | (intro _ _ h9; (repeat' split at h9) <;> (first | (rw [← Host.Outcome.next.inj h9]; done) | (rw [← Host.Outcome.next.inj h9]; simp -implicitDefEqProofs only [State.reply_isl]; done) | (rw [← Host.Outcome.next.inj h9]; (repeat' split) <;> simp -implicitDefEqProofs only [State.reply_isl]; done) | (cases h9; done))))) | (rw [← Host.Outcome.next.inj ht]; done) | (rw [← Host.Outcome.next.inj ht]; simp -implicitDefEqProofs only [State.reply_isl]; done) | (rw [← Host.Outcome.next.inj ht]; (repeat' split) <;> simp -implicitDefEqProofs only [State.reply_isl]; done) | (cases ht; done))
@[simp] theorem State.spdmError_isl (s : State) (code : Nat) : (State.spdmError s code).isl = s.isl := by
  simp -implicitDefEqProofs only [State.spdmError, State.reply_isl]
theorem State.onSpdm_isl (s : State) (f : State → State) (hf : ∀ (u : State), (f u).isl = u.isl) : ∀ t, (State.onSpdm s f) = .next t → t.isl = s.isl := by
  intro t ht; simp -implicitDefEqProofs only [State.onSpdm] at ht; (repeat' split at ht) <;> (first | (rw [← Host.Outcome.next.inj ht]; done) | (rw [← Host.Outcome.next.inj ht]; simp -implicitDefEqProofs only [hf, apply_ite State.isl, ite_self]; done))
theorem State.onNegotiated_isl (s : State) (f : State → State) (hf : ∀ (u : State), (f u).isl = u.isl) : ∀ t, (State.onNegotiated s f) = .next t → t.isl = s.isl := by
  intro t ht; simp -implicitDefEqProofs only [State.onNegotiated] at ht; (refine State.onSpdm_isl _ _ ?_ _ ht) <;> (intros; simp -implicitDefEqProofs only [State.spdmError_isl, hf, apply_ite State.isl, ite_self])
theorem execGetVersion_isl (s : State) : ∀ t, (execGetVersion s) = .next t → t.isl = s.isl := by
  intro t ht; simp -implicitDefEqProofs only [execGetVersion] at ht; (refine State.onSpdm_isl _ _ ?_ _ ht) <;> (intros; simp -implicitDefEqProofs only [State.done_isl, State.setSec_isl])
theorem execGetCapabilities_isl (s : State) : ∀ t, (execGetCapabilities s) = .next t → t.isl = s.isl := by
  intro t ht; simp -implicitDefEqProofs only [execGetCapabilities] at ht; (refine State.onSpdm_isl _ _ ?_ _ ht) <;> (intros; simp -implicitDefEqProofs only [State.done_isl])
theorem execNegotiateAlgorithms_isl (offered : List Nat) (s : State) : ∀ t, (execNegotiateAlgorithms offered s) = .next t → t.isl = s.isl := by
  intro t ht; simp -implicitDefEqProofs only [execNegotiateAlgorithms] at ht; (refine State.onSpdm_isl _ _ ?_ _ ht) <;> (intros; simp -implicitDefEqProofs only [State.done_isl, State.setSec_isl])
theorem execGetDigests_isl (s : State) : ∀ t, (execGetDigests s) = .next t → t.isl = s.isl := by
  intro t ht; simp -implicitDefEqProofs only [execGetDigests] at ht; (refine State.onNegotiated_isl _ _ ?_ _ ht) <;> (intros; simp -implicitDefEqProofs only [State.done_isl])
theorem execGetCertificate_isl (slot : Nat) (offset : Nat) (len : Nat) (s : State) : ∀ t, (execGetCertificate slot offset len s) = .next t → t.isl = s.isl := by
  intro t ht; simp -implicitDefEqProofs only [execGetCertificate] at ht; (refine State.onNegotiated_isl _ _ ?_ _ ht) <;> (intros; simp -implicitDefEqProofs only [State.done_isl, State.spdmError_isl, apply_ite State.isl, ite_self])
theorem execChallenge_isl (slot : Nat) (nonce : List Byte) (s : State) : ∀ t, (execChallenge slot nonce s) = .next t → t.isl = s.isl := by
  intro t ht; simp -implicitDefEqProofs only [execChallenge] at ht; (refine State.onNegotiated_isl _ _ ?_ _ ht) <;> (intros; simp -implicitDefEqProofs only [State.drawBytes_isl, State.done_isl, State.spdmError_isl, apply_ite State.isl, ite_self])
theorem execGetMeasurements_isl (index : Nat) (nonce : List Byte) (s : State) : ∀ t, (execGetMeasurements index nonce s) = .next t → t.isl = s.isl := by
  intro t ht; simp -implicitDefEqProofs only [execGetMeasurements] at ht; (refine State.onNegotiated_isl _ _ ?_ _ ht) <;> (intros; simp -implicitDefEqProofs only [State.done_isl, State.spdmError_isl, apply_ite State.isl, ite_self])
theorem execKeyExchange_isl (mutualAuth : Bool) (digest : List Byte) (key : List Byte) (s : State) (cert : List Byte) : ∀ t, (execKeyExchange mutualAuth digest key s cert) = .next t → t.isl = s.isl := by
  intro t ht
  refine State.onNegotiated_isl _ _ ?_ t ht
  intro u
  dsimp only
  split
  · exact State.spdmError_isl ..
  split
  · exact State.spdmError_isl ..
  · rw [State.done_isl, State.setSec_isl]
theorem State.onSession_isl (s : State) (k : Nat) (f : State → SpdmSession → State) (hf : ∀ (u : State) (w1 : SpdmSession), (f u w1).isl = u.isl) : ∀ t, (State.onSession s k f) = .next t → t.isl = s.isl := by
  intro t ht
  refine State.onSpdm_isl _ _ ?_ t ht
  intro u
  split
  · split
    · exact hf _ _
    · exact State.spdmError_isl ..
  · exact State.spdmError_isl ..
theorem execFinish_isl (session : Nat) (verified : Bool) (s : State) : ∀ t, (execFinish session verified s) = .next t → t.isl = s.isl := by
  intro t ht
  refine State.onSpdm_isl _ _ ?_ t ht
  intro u
  dsimp only
  split
  · exact State.spdmError_isl ..
  · split
    · exact State.spdmError_isl ..
    · split
      · rw [State.done_isl, State.setSec_isl]
      · rw [State.spdmError_isl, State.setSec_isl]
theorem execEndSession_isl (session : Nat) (s : State) : ∀ t, (execEndSession session s) = .next t → t.isl = s.isl := by
  intro t ht; simp -implicitDefEqProofs only [execEndSession] at ht; (refine State.onSession_isl _ _ _ ?_ _ ht) <;> (intros; simp -implicitDefEqProofs only [State.done_isl, State.setSec_isl])
theorem execKeyUpdate_isl (session : Nat) (s : State) : ∀ t, (execKeyUpdate session s) = .next t → t.isl = s.isl := by
  intro t ht; simp -implicitDefEqProofs only [execKeyUpdate] at ht; (refine State.onSession_isl _ _ _ ?_ _ ht) <;> (intros; simp -implicitDefEqProofs only [State.put_isl, State.done_isl, State.setSec_isl])
theorem execVendorDefinedRequest_isl (session : Nat) (cmd : RawCmd) (s : State) : ∀ t, (execVendorDefinedRequest session cmd s) = .next t → t.isl = s.isl := by
  intro t ht; simp -implicitDefEqProofs only [execVendorDefinedRequest] at ht; (repeat' split at ht) <;> (first | (exact State.runRaw_isl _ _ _ _ ht) | ((refine State.onSpdm_isl _ _ ?_ _ ht) <;> (first | (intros; first | rfl | (simp -implicitDefEqProofs only [State.spdmError_isl, apply_ite State.isl, ite_self]; done)) | (intro _ _ h9; (repeat' split at h9) <;> (first | (rw [← Host.Outcome.next.inj h9]; done) | (rw [← Host.Outcome.next.inj h9]; simp -implicitDefEqProofs only [State.spdmError_isl, apply_ite State.isl, ite_self]; done) | (rw [← Host.Outcome.next.inj h9]; (repeat' split) <;> simp -implicitDefEqProofs only [State.spdmError_isl, apply_ite State.isl, ite_self]; done) | (exact State.runRaw_isl _ _ _ _ h9) | (cases h9; done))))) | (rw [← Host.Outcome.next.inj ht]; done) | (rw [← Host.Outcome.next.inj ht]; simp -implicitDefEqProofs only [State.spdmError_isl, apply_ite State.isl, ite_self]; done) | (rw [← Host.Outcome.next.inj ht]; (repeat' split) <;> simp -implicitDefEqProofs only [State.spdmError_isl, apply_ite State.isl, ite_self]; done) | (cases ht; done))
theorem execSpdmUnsupportedRequest_isl (code : Nat) (s : State) : ∀ t, (execSpdmUnsupportedRequest code s) = .next t → t.isl = s.isl := by
  intro t ht; simp -implicitDefEqProofs only [execSpdmUnsupportedRequest] at ht; (repeat' split at ht) <;> (first | ((refine State.onSpdm_isl _ _ ?_ _ ht) <;> (first | (intros; first | rfl | (simp -implicitDefEqProofs only [State.spdmError_isl, apply_ite State.isl, ite_self]; done)) | (intro _ _ h9; (repeat' split at h9) <;> (first | (rw [← Host.Outcome.next.inj h9]; done) | (rw [← Host.Outcome.next.inj h9]; simp -implicitDefEqProofs only [State.spdmError_isl, apply_ite State.isl, ite_self]; done) | (rw [← Host.Outcome.next.inj h9]; (repeat' split) <;> simp -implicitDefEqProofs only [State.spdmError_isl, apply_ite State.isl, ite_self]; done) | (cases h9; done))))) | (rw [← Host.Outcome.next.inj ht]; done) | (rw [← Host.Outcome.next.inj ht]; simp -implicitDefEqProofs only [State.spdmError_isl, apply_ite State.isl, ite_self]; done) | (rw [← Host.Outcome.next.inj ht]; (repeat' split) <;> simp -implicitDefEqProofs only [State.spdmError_isl, apply_ite State.isl, ite_self]; done) | (cases ht; done))
theorem State.onTap_isl (s : State) (f : State → State) (hf : ∀ (u : State), (f u).isl = u.isl) : ∀ t, (State.onTap s f) = .next t → t.isl = s.isl := by
  intro t ht; simp -implicitDefEqProofs only [State.onTap] at ht; (repeat' split at ht) <;> (first | (rw [← Host.Outcome.next.inj ht]; done) | (rw [← Host.Outcome.next.inj ht]; simp -implicitDefEqProofs only [hf, apply_ite State.isl, ite_self]; done))
theorem execBypass_isl (opcode : Nat) (s : State) : ∀ t, (execBypass opcode s) = .next t → t.isl = s.isl := by
  intro t ht; simp -implicitDefEqProofs only [execBypass] at ht; (refine State.onTap_isl _ _ ?_ _ ht) <;> (intros; simp -implicitDefEqProofs only [State.setInstr_isl, apply_ite State.isl, ite_self])
theorem execIdcode_isl (s : State) : ∀ t, (execIdcode s) = .next t → t.isl = s.isl := by
  intro t ht; simp -implicitDefEqProofs only [execIdcode] at ht; (refine State.onTap_isl _ _ ?_ _ ht) <;> (intros; simp -implicitDefEqProofs only [State.answer_isl, State.setInstr_isl])
theorem execSamplePreload_isl (preload : Option (List Bool)) (s : State) : ∀ t, (execSamplePreload preload s) = .next t → t.isl = s.isl := by
  intro t ht; simp -implicitDefEqProofs only [execSamplePreload] at ht; (repeat' split at ht) <;> (first | ((refine State.onTap_isl _ _ ?_ _ ht) <;> (first | (intros; first | rfl | (simp -implicitDefEqProofs only [State.draw_isl, State.setInstr_isl]; done)) | (intro _ _ h9; (repeat' split at h9) <;> (first | (rw [← Host.Outcome.next.inj h9]; done) | (rw [← Host.Outcome.next.inj h9]; simp -implicitDefEqProofs only [State.draw_isl, State.setInstr_isl]; done) | (rw [← Host.Outcome.next.inj h9]; (repeat' split) <;> simp -implicitDefEqProofs only [State.draw_isl, State.setInstr_isl]; done) | (cases h9; done))))) | (rw [← Host.Outcome.next.inj ht]; done) | (rw [← Host.Outcome.next.inj ht]; simp -implicitDefEqProofs only [State.draw_isl, State.setInstr_isl]; done) | (rw [← Host.Outcome.next.inj ht]; (repeat' split) <;> simp -implicitDefEqProofs only [State.draw_isl, State.setInstr_isl]; done) | (cases ht; done))
theorem State.loadDriving_isl (s : State) (n : Nat) : ∀ t, (State.loadDriving s n) = .next t → t.isl = s.isl := by
  intro t ht; simp -implicitDefEqProofs only [State.loadDriving] at ht; (refine State.onTap_isl _ _ ?_ _ ht) <;> (intros; simp -implicitDefEqProofs only [State.record_isl, State.setInstr_isl, apply_ite State.isl, ite_self])
theorem execExtest_isl (s : State) : ∀ t, (execExtest s) = .next t → t.isl = s.isl := by
  intro t ht; simp -implicitDefEqProofs only [execExtest] at ht; exact State.loadDriving_isl _ _ _ ht
theorem execExtestPulse_isl (s : State) : ∀ t, (execExtestPulse s) = .next t → t.isl = s.isl := by
  intro t ht; simp -implicitDefEqProofs only [execExtestPulse] at ht; exact State.loadDriving_isl _ _ _ ht
theorem execExtestTrain_isl (s : State) : ∀ t, (execExtestTrain s) = .next t → t.isl = s.isl := by
  intro t ht; simp -implicitDefEqProofs only [execExtestTrain] at ht; exact State.loadDriving_isl _ _ _ ht
theorem execClamp_isl (s : State) : ∀ t, (execClamp s) = .next t → t.isl = s.isl := by
  intro t ht; simp -implicitDefEqProofs only [execClamp] at ht; exact State.loadDriving_isl _ _ _ ht
theorem execHighz_isl (s : State) : ∀ t, (execHighz s) = .next t → t.isl = s.isl := by
  intro t ht; simp -implicitDefEqProofs only [execHighz] at ht; exact State.loadDriving_isl _ _ _ ht
theorem execBoardOtp_isl (word : Nat) (s : State) : ∀ t, (execBoardOtp word s) = .next t → t.isl = s.isl := by
  intro t ht; simp -implicitDefEqProofs only [execBoardOtp] at ht; (refine State.onTap_isl _ _ ?_ _ ht) <;> (intros; simp -implicitDefEqProofs only [State.put_isl, State.record_isl, State.showHoldup_isl, State.setInstr_isl, apply_ite State.isl, ite_self])

end Sys2Proof.Machine
end

