-- ==== Sys2Proof/Laws/Conserve.lean ====
section
/-! SUPPORT. The island's energy account under each operation of Machine/Island.lean: shares never exceed the energy they divide, so the beds, the rest and the total stay in step. -/

namespace Sys2Proof.Machine

/-- Eight registers come out of eight. -/
theorem shares_length (de : Nat) (l : List Nat) : (shares de l).length = 8 := by simp [shares]

/-- Rounded-down shares of `de` by weight sum to at most `de`. -/
theorem sum_shares_le (de : Nat) (l : List Nat) (n : Nat) (h : l.sum ≤ n) : (l.map fun x => de * x / n).sum ≤ de := by
  have h1 : ∀ l : List Nat, (l.map fun x => de * x / n).sum * n ≤ de * l.sum := by
    intro l
    induction l with
    | nil => simp
    | cons a t ih =>
      simp only [List.map_cons, List.sum_cons, Nat.add_mul, Nat.mul_add]
      exact Nat.add_le_add (Nat.div_mul_le_self _ _) ih
  rcases Nat.eq_zero_or_pos n with rfl | hn
  · induction l with
    | nil => simp
    | cons a t ih => simp
  · exact Nat.le_of_mul_le_mul_right (Nat.le_trans (h1 l) (Nat.mul_le_mul_left _ h)) hn

/-- No interval gives the beds more than it counted (R323). -/
theorem shares_le (de : Nat) (l : List Nat) : (shares de l).sum ≤ de := sum_shares_le de _ _ (Nat.le_refl _)

/-- Adding element by element keeps the length. -/
theorem addEach_length (a b : List Nat) : (addEach a b).length = a.length := by
  induction a generalizing b with
  | nil => cases b <;> rfl
  | cons x t ih => cases b with
    | nil => rfl
    | cons y u => simp [addEach, ih]

/-- Adding element by element adds the sums. -/
theorem addEach_sum (a b : List Nat) (h : b.length ≤ a.length) : (addEach a b).sum = a.sum + b.sum := by
  induction a generalizing b with
  | nil => cases b with
    | nil => rfl
    | cons y u => simp at h
  | cons x t ih => cases b with
    | nil => simp [addEach]
    | cons y u =>
      simp only [addEach, List.sum_cons, ih u (by simpa using h)]
      omega

/-- An interval keeps the account (R322, R323). -/
theorem IslandSt.interval_conserved (x : IslandSt) (i a : Nat) (b : List Nat) (m : Nat) (h : x.conserved) : (x.interval i a b m).conserved := by
  obtain ⟨h1, h2, h3, h4⟩ := h
  refine ⟨?_, ?_, h3, h4⟩
  · simp only [interval, addEach_length, h1]
  · simp only [interval]
    rw [addEach_sum _ _ (by rw [shares_length, h1])]
    have := shares_le (countedEnergy i m) b
    omega

/-- The last commit's registers are in step with each other. -/
theorem IslandSt.resume_conserved (x : IslandSt) (h : x.conserved) : x.resume.conserved := ⟨h.2.2.1, h.2.2.2, h.2.2.1, h.2.2.2⟩

/-- A commit copies registers that are in step. -/
theorem IslandSt.commit_conserved (x : IslandSt) (h : x.conserved) : x.commit.conserved := ⟨h.1, h.2.1, h.1, h.2.1⟩

/-- A log entry touches no register. -/
theorem IslandSt.log_conserved (x : IslandSt) (k : Nat) (h : x.conserved) : (x.log k).conserved := by
  simpa only [log, conserved] using h

/-- An audit entry touches no register. -/
theorem IslandSt.auditChange_conserved (x : IslandSt) (k o n : Nat) (h : x.conserved) : (x.auditChange k o n).conserved := by
  simpa only [auditChange, conserved] using h

/-- The island's registers as the record names them. -/
def IslandSt.account (x : IslandSt) : Nat × List Nat × Nat × (Nat × Nat × Nat × List Nat) := (x.total, x.beds, x.unattrib, x.committed)

/-- Equal accounts are both in step or both not. -/
theorem IslandSt.conserved_of_account {x y : IslandSt} (h : x.account = y.account) (hy : y.conserved) : x.conserved := by
  simp only [IslandSt.account, Prod.mk.injEq] at h
  obtain ⟨h1, h2, h3, h4⟩ := h
  simpa only [conserved, h1, h2, h3, h4] using hy

/-- Copying the audit log touches no register. -/
theorem State.copyAudit_conserved (s : State) (h : s.isl.conserved) : s.copyAudit.isl.conserved := by
  simpa only [State.copyAudit, State.feedAudit_isl, State.setRec_isl, State.setIsl, IslandSt.conserved] using h

/-- Measurement 5 touches no register of the island. -/
theorem State.followVersion_conserved (s : State) (h : s.isl.conserved) : s.followVersion.isl.conserved := by
  rwa [State.followVersion_isl]

/-- The island without power holds the last commit's registers. -/
theorem IslandSt.powerLost_conserved (x : IslandSt) (h : x.conserved) : x.powerLost.conserved := IslandSt.resume_conserved x h

/-- The keeper's stop leaves the island at its last commit (R327, R343). -/
theorem execKeeperStop_conserved (s t : State) (ht : execKeeperStop s = .next t) (h : s.isl.conserved) : t.isl.conserved := by
  simp -implicitDefEqProofs only [execKeeperStop] at ht
  split at ht
  · rwa [← Host.Outcome.next.inj ht]
  · rw [← Host.Outcome.next.inj ht]
    refine IslandSt.conserved_of_account (y := s.isl.powerLost) ?_ (s.isl.powerLost_conserved h)
    simp only [IslandSt.account, State.setPw_isl, State.wipeDevice_isl, State.finishStore_isl]

/-- VAUX_LOW logs a power failure (R334). -/
theorem execVauxLow_conserved (s t : State) (ht : execVauxLow s = .next t) (h : s.isl.conserved) : t.isl.conserved := by
  simp -implicitDefEqProofs only [execVauxLow] at ht
  split at ht
  · rw [← Host.Outcome.next.inj ht]
    refine IslandSt.conserved_of_account (y := s.isl) ?_ h
    simp only [IslandSt.account, State.enterOff_isl, State.endSessions_isl, State.setIsl, IslandSt.log]
  · rwa [← Host.Outcome.next.inj ht]

/-- A port command keeps the account where its effect does. -/
theorem State.onPort_conserved (s t : State) (pec : Bool) (bad : List (Bool × Nat)) (f : State → State) (h : s.isl.conserved)
    (hf : (f s).isl.conserved) (ht : s.onPort pec bad f = .next t) : t.isl.conserved := by
  simp -implicitDefEqProofs only [State.onPort] at ht
  split at ht
  · rwa [← Host.Outcome.next.inj ht]
  · split at ht
    · rw [← Host.Outcome.next.inj ht, State.reply_isl]; exact h
    · rwa [← Host.Outcome.next.inj ht]

/-- An interval adds what it counts to the total and to the parts (R323). -/
theorem execAttributionInterval_conserved (a b c d) (s t : State) (ht : execAttributionInterval a b c d s = .next t) (h : s.isl.conserved) : t.isl.conserved := by
  simp -implicitDefEqProofs only [execAttributionInterval] at ht
  split at ht <;> rw [← Host.Outcome.next.inj ht]
  · exact IslandSt.interval_conserved _ _ _ _ _ h
  · exact h
/-- An island record with the account of one that is in step. -/
theorem State.setIsl_conserved (s : State) (x y : IslandSt) (hx : x.account = y.account) (h : y.conserved) : (s.setIsl x).isl.conserved :=
  IslandSt.conserved_of_account hx h

/-- A pulse touches no register (R325). -/
theorem execMetPulse_conserved (s t : State) (ht : execMetPulse s = .next t) (h : s.isl.conserved) : t.isl.conserved := by
  simp -implicitDefEqProofs only [execMetPulse] at ht
  split at ht <;> rw [← Host.Outcome.next.inj ht]
  · exact State.setIsl_conserved s _ s.isl (by simp only [IslandSt.account]) h
  · exact h

/-- An excursion touches no register (R321). -/
theorem execOverrange_conserved (m) (s t : State) (ht : execOverrange m s = .next t) (h : s.isl.conserved) : t.isl.conserved := by
  simp -implicitDefEqProofs only [execOverrange] at ht
  split at ht <;> rw [← Host.Outcome.next.inj ht]
  · split
    · exact State.setIsl_conserved s _ s.isl (by simp only [IslandSt.account]) h
    · exact State.setIsl_conserved s _ s.isl (by simp only [IslandSt.account, IslandSt.log]) h
  · exact h

/-- READY touches no register (R326). -/
theorem execMeterReady_conserved (s t : State) (ht : execMeterReady s = .next t) (h : s.isl.conserved) : t.isl.conserved := by
  simp -implicitDefEqProofs only [execMeterReady] at ht
  split at ht <;> rw [← Host.Outcome.next.inj ht]
  · exact State.setIsl_conserved s _ s.isl (by simp only [IslandSt.account]) h
  · exact h

/-- A commit copies the registers (R327). -/
theorem execMeterCommit_conserved (m) (s t : State) (ht : execMeterCommit m s = .next t) (h : s.isl.conserved) : t.isl.conserved := by
  rw [execMeterCommit.eq_def] at ht
  split at ht <;> rw [← Host.Outcome.next.inj ht]
  · exact IslandSt.commit_conserved _ h
  · exact h

/-- FAULT shows the last commit (R328). -/
theorem execSelfTestFail_conserved (s t : State) (ht : execSelfTestFail s = .next t) (h : s.isl.conserved) : t.isl.conserved := by
  simp -implicitDefEqProofs only [execSelfTestFail] at ht
  split at ht <;> rw [← Host.Outcome.next.inj ht]
  · exact State.setIsl_conserved s _ s.isl.resume (by simp only [IslandSt.account, IslandSt.log]) (IslandSt.resume_conserved _ h)
  · exact h

/-- A snapshot reads the registers (R329). -/
theorem execSnapshot_conserved (m) (s t : State) (ht : execSnapshot m s = .next t) (h : s.isl.conserved) : t.isl.conserved := by
  simp -implicitDefEqProofs only [execSnapshot] at ht
  split at ht
  · rwa [← Host.Outcome.next.inj ht]
  split at ht <;> rw [← Host.Outcome.next.inj ht]
  · rwa [State.bump_isl]
  · apply State.copyAudit_conserved; apply State.followVersion_conserved
    exact State.setIsl_conserved _ _ s.isl (by simp only [IslandSt.account]) h

/-- The seal touches no register (R332). -/
theorem execSealChange_conserved (m) (s t : State) (ht : execSealChange m s = .next t) (h : s.isl.conserved) : t.isl.conserved := by
  simp -implicitDefEqProofs only [execSealChange] at ht
  split at ht <;> rw [← Host.Outcome.next.inj ht]
  · exact State.setIsl_conserved s _ s.isl (by simp only [IslandSt.account, IslandSt.log]) h
  · exact h

/-- CFG_WRITE commits first (R333). -/
theorem execCfgWrite_conserved (p a b) (s t : State) (ht : execCfgWrite a b s p = .next t) (h : s.isl.conserved) : t.isl.conserved := by
  refine State.onPort_conserved _ _ _ _ _ h ?_ ht
  rw [State.reply_isl]
  exact State.setIsl_conserved s _ s.isl.commit (by simp only [IslandSt.account, IslandSt.auditChange]) (IslandSt.commit_conserved _ h)

/-- FW_BEGIN touches no register (R333). -/
theorem execFwBegin_conserved (p a b) (s t : State) (ht : execFwBegin a b s p = .next t) (h : s.isl.conserved) : t.isl.conserved := by
  refine State.onPort_conserved _ _ _ _ _ h ?_ ht
  rw [State.reply_isl]
  exact State.setIsl_conserved s _ s.isl (by simp only [IslandSt.account]) h

/-- FW_CHUNK touches no register (R333). -/
theorem execFwChunk_conserved (p a b) (s t : State) (ht : execFwChunk a b s p = .next t) (h : s.isl.conserved) : t.isl.conserved := by
  refine State.onPort_conserved _ _ _ _ _ h ?_ ht
  rw [State.reply_isl]
  exact State.setIsl_conserved s _ s.isl (by simp only [IslandSt.account]) h

/-- FW_END commits first (R333). -/
theorem execFwEnd_conserved (p a b c) (s t : State) (ht : execFwEnd a b c s p = .next t) (h : s.isl.conserved) : t.isl.conserved := by
  refine State.onPort_conserved _ _ _ _ _ h ?_ ht
  dsimp only
  split <;> rw [State.reply_isl]
  · exact State.setIsl_conserved s _ s.isl.commit (by simp only [IslandSt.account, IslandSt.switch, IslandSt.auditChange]) (IslandSt.commit_conserved _ h)
  · exact State.setIsl_conserved s _ s.isl.commit (by simp only [IslandSt.account]) (IslandSt.commit_conserved _ h)


end Sys2Proof.Machine
end

