-- ==== Sys2Proof/Laws/Queue.lean ====
section
/-! SUPPORT. The queue's frame: no operation and no command changes the queue of waiting commands. One lemma per operation, named after it. -/

set_option linter.all false

namespace Sys2Proof.Machine

theorem foldl_pending {β : Type} (f : State → β → State) (h : ∀ s a, (f s a).pending = s.pending) (l : List β) (s : State) :
    (l.foldl f s).pending = s.pending := by
  induction l generalizing s with
  | nil => rfl
  | cons a t ih => rw [List.foldl_cons, ih, h]
theorem foldlP_pending {β γ : Type} (f : State × γ → β → State × γ) (h : ∀ s c a, (f (s,c) a).1.pending = s.pending) (l : List β) (x : State × γ) :
    (l.foldl f x).1.pending = x.1.pending := by
  induction l generalizing x with
  | nil => rfl
  | cons a t ih => rw [List.foldl_cons, ih, ← h x.1 x.2 a]
@[simp] theorem State.onceDo_pending (s : State) (k : Nat × Nat × Nat) (f : State → State) (hf : ∀ (u : State), (f u).pending = u.pending) : (State.onceDo s k f).pending = s.pending := by
  simp -implicitDefEqProofs only [State.onceDo, hf, apply_ite State.pending, ite_self]
@[simp] theorem State.onBar_pending (s : State) (f : State → State) (hf : ∀ (u : State), (f u).pending = u.pending) : (State.onBar s f).pending = s.pending := by
  simp -implicitDefEqProofs only [State.onBar, hf, apply_ite State.pending, ite_self]
@[simp] theorem State.stage_pending (s : State) (p : Page) (k : FieldKey) (v : Nat) : (State.stage s p k v).pending = s.pending := by
  simp -implicitDefEqProofs only [State.stage, State.setStaging_pending]
@[simp] theorem State.applyOne_pending (s : State) (k : FieldKey) (v : Nat) : (State.applyOne s k v).pending = s.pending := by
  (simp -implicitDefEqProofs only [State.applyOne]; (repeat' split) <;> (first | (with_reducible rfl) | simp -implicitDefEqProofs only [State.put_pending, State.common_pending, apply_ite State.pending, ite_self]))
@[simp] theorem State.applySet_pending (s : State) (p : Page) (set : List (FieldKey × Nat)) : (State.applySet s p set).pending = s.pending := by
  simp -implicitDefEqProofs only [State.applySet, State.put_pending, State.applyOne_pending, foldl_pending, foldlP_pending, implies_true]
@[simp] theorem State.tickPage_pending (s : State) (p : Page) : (State.tickPage s p).pending = s.pending := by
  (simp -implicitDefEqProofs only [State.tickPage]; (repeat' split) <;> (first | (with_reducible rfl) | simp -implicitDefEqProofs only [State.setStaging_pending, State.applySet_pending]))
@[simp] theorem State.flushPage_pending (s : State) (p : Page) : (State.flushPage s p).pending = s.pending := by
  simp -implicitDefEqProofs only [State.flushPage, State.setStaging_pending, State.applySet_pending, foldl_pending, foldlP_pending, implies_true]
@[simp] theorem State.dueSets_pending (s : State) (b : Nat) : (State.dueSets s b).pending = s.pending := by
  simp -implicitDefEqProofs only [State.dueSets, apply_ite State.pending, ite_self]
@[simp] theorem State.halt_pending (s : State) (p : Page) : (State.halt s p).pending = s.pending := by
  simp -implicitDefEqProofs only [State.halt, State.put_pending]
@[simp] theorem State.endStops_pending (s : State) (b : Nat) : (State.endStops s b).pending = s.pending := by
  simp -implicitDefEqProofs only [State.endStops, State.halt_pending, foldl_pending, foldlP_pending, implies_true]
@[simp] theorem State.lockedOut_pending (s : State) (p : Page) (off : Nat) (value : Nat) : (State.lockedOut s p off value).pending = s.pending := by
  simp -implicitDefEqProofs only [State.lockedOut, State.put_pending, State.common_pending]
@[simp] theorem State.hostWriteL_pending (s : State) (p : Page) (off : Nat) (value : Nat) (f : State → State) (hf : ∀ (u : State), (f u).pending = u.pending) : (State.hostWriteL s p off value f).pending = s.pending := by
  simp -implicitDefEqProofs only [State.hostWriteL, State.onBar_pending, State.lockedOut_pending, hf, implies_true, apply_ite State.pending, ite_self]
@[simp] theorem State.doCommit_pending (s : State) (p : Page) : (State.doCommit s p).pending = s.pending := by
  simp -implicitDefEqProofs only [State.doCommit, State.put_pending, State.common_pending, State.setStaging_pending, apply_ite State.pending, ite_self]
@[simp] theorem State.doAbort_pending (s : State) (p : Page) : (State.doAbort s p).pending = s.pending := by
  simp -implicitDefEqProofs only [State.doAbort, State.setStaging_pending]
@[simp] theorem State.doLock_pending (s : State) (p : Page) : (State.doLock s p).pending = s.pending := by
  simp -implicitDefEqProofs only [State.doLock, State.put_pending, State.doAbort_pending]
@[simp] theorem State.doUnlock_pending (s : State) (p : Page) : (State.doUnlock s p).pending = s.pending := by
  simp -implicitDefEqProofs only [State.doUnlock, State.put_pending]
@[simp] theorem State.refuse_pending (s : State) (p : Page) (st : Nat) (code : Nat) (path : Path) (arg : Nat) : (State.refuse s p st code path arg).pending = s.pending := by
  simp -implicitDefEqProofs only [State.refuse, State.common_pending, State.reply_pending, apply_ite State.pending, ite_self]
@[simp] theorem State.countFault_pending (s : State) (a : Nat) : (State.countFault s a).pending = s.pending := by
  simp -implicitDefEqProofs only [State.countFault, State.put_pending, State.bump_pending, State.raise_pending]
@[simp] theorem State.overdraw_pending (s : State) (b : Nat) (key : Nat) (fld : Fld) (idx : Nat) (n : Nat) (bit : Nat) : (State.overdraw s b key fld idx n bit).pending = s.pending := by
  simp -implicitDefEqProofs only [State.overdraw, State.put_pending, State.bump_pending, State.raise_pending, State.setMem_pending, apply_ite State.pending, ite_self]
@[simp] theorem State.moved_pending (s : State) (b : Nat) (cls : Nat) (bed : Nat) : (State.moved s b cls bed).pending = s.pending := by
  simp -implicitDefEqProofs only [State.moved, State.put_pending, State.setMem_pending, State.overdraw_pending, apply_ite State.pending, ite_self]
@[simp] theorem State.serveOver_pending (s : State) (b : Nat) (cls : Nat) (bed : Nat) : (State.serveOver s b cls bed).pending = s.pending := by
  simp -implicitDefEqProofs only [State.serveOver, State.setMem_pending, State.moved_pending, apply_ite State.pending, ite_self]
@[simp] theorem State.delayOver_pending (s : State) (b : Nat) (cls : Nat) (bed : Nat) : (State.delayOver s b cls bed).pending = s.pending := by
  simp -implicitDefEqProofs only [State.delayOver, State.put_pending, State.setMem_pending]
@[simp] theorem State.meter_pending (s : State) (b : Nat) (cls : Nat) (bed : Nat) : (State.meter s b cls bed).pending = s.pending := by
  simp -implicitDefEqProofs only [State.meter]
  repeat' split
  all_goals first
    | exact State.moved_pending ..
    | exact State.delayOver_pending ..
    | exact State.serveOver_pending ..
    | exact (State.delayOver_pending ..).trans rfl
    | exact (State.serveOver_pending ..).trans rfl
    | rfl
@[simp] theorem State.meterN_pending (s : State) (b : Nat) (cls : Nat) (bed : Nat) (z0 : Nat) : (State.meterN s b cls bed z0).pending = s.pending := by
  induction z0 generalizing s with
  | zero => rfl
  | succ n ih => rw [State.meterN.eq_def]; dsimp only; rw [ih, State.meter_pending]
@[simp] theorem State.clipWaiting_pending (s : State) (b : Nat) : (State.clipWaiting s b).pending = s.pending := by
  simp -implicitDefEqProofs only [State.clipWaiting, State.setMem_pending, State.overdraw_pending, State.meterN_pending, foldl_pending, foldlP_pending, implies_true]
@[simp] theorem State.corrected_pending (s : State) (mc : Nat) : (State.corrected s mc).pending = s.pending := by
  simp -implicitDefEqProofs only [State.corrected, State.bump_pending, State.raise_pending]
@[simp] theorem State.uncorrectable_pending (s : State) (a : Nat) : (State.uncorrectable s a).pending = s.pending := by
  simp -implicitDefEqProofs only [State.uncorrectable, State.put_pending, State.bump_pending, State.raise_pending, State.setMem_pending]
@[simp] theorem State.stackRead_pending (s : State) (a : Nat) (err : LineErr) : (State.stackRead s a err).1.pending = s.pending := by
  (simp -implicitDefEqProofs only [State.stackRead]; (repeat' split) <;> (first | (with_reducible rfl) | simp -implicitDefEqProofs only [State.corrected_pending, State.uncorrectable_pending, apply_ite State.pending, ite_self]))
@[simp] theorem State.stackWrite_pending (s : State) (a : Nat) (data : List Byte) (poison : Bool) (rel : Bool) : (State.stackWrite s a data poison rel).pending = s.pending := by
  simp -implicitDefEqProofs only [State.stackWrite, State.setMem_pending, apply_ite State.pending, ite_self]
@[simp] theorem State.stackPatch_pending (s : State) (a : Nat) (first : Nat) (data : List Byte) (poison : Bool) (rel : Bool) : (State.stackPatch s a first data poison rel).pending = s.pending := by
  simp -implicitDefEqProofs only [State.stackPatch, State.setMem_pending, apply_ite State.pending, ite_self]
@[simp] theorem State.setCache_pending (s : State) (l : Nat) (c : CacheLine) : (State.setCache s l c).pending = s.pending := by
  simp -implicitDefEqProofs only [State.setCache, State.put_pending, State.setMem_pending]
@[simp] theorem State.freeCache_pending (s : State) (l : Nat) : (State.freeCache s l).pending = s.pending := by
  simp -implicitDefEqProofs only [State.freeCache, State.setMem_pending]
@[simp] theorem State.dalFree_pending (s : State) (l : Nat) : (State.dalFree s l).pending = s.pending := by
  simp -implicitDefEqProofs only [State.dalFree, State.bump_pending, State.setMem_pending, State.freeCache_pending]
@[simp] theorem State.releaseLine_pending (s : State) (l : Nat) : (State.releaseLine s l).pending = s.pending := by
  (simp -implicitDefEqProofs only [State.releaseLine]; (repeat' split) <;> (first | (with_reducible rfl) | simp -implicitDefEqProofs only [State.stackWrite_pending, State.freeCache_pending, apply_ite State.pending, ite_self]))
@[simp] theorem State.staleLine_pending (s : State) (l : Nat) (c : CacheLine) : (State.staleLine s l c).pending = s.pending := by
  simp -implicitDefEqProofs only [State.staleLine, State.meter_pending, State.releaseLine_pending, apply_ite State.pending, ite_self]
@[simp] theorem State.dropLine_pending (s : State) (l : Nat) : (State.dropLine s l).pending = s.pending := by
  (simp -implicitDefEqProofs only [State.dropLine]; (repeat' split) <;> (first | (with_reducible rfl) | simp -implicitDefEqProofs only [State.setMem_pending, State.freeCache_pending]))
@[simp] theorem State.refused_pending (s : State) (b : Nat) : (State.refused s b).pending = s.pending := by
  simp -implicitDefEqProofs only [State.refused, State.bump_pending, State.raise_pending]
@[simp] theorem State.useLine_pending (s : State) (l : Nat) (c : CacheLine) : (State.useLine s l c).pending = s.pending := by
  (simp -implicitDefEqProofs only [State.useLine]; (repeat' split) <;> (first | (with_reducible rfl) | simp -implicitDefEqProofs only [State.setCache_pending, State.dalFree_pending, apply_ite State.pending, ite_self]))
@[simp] theorem State.serveHit_pending (s : State) (r : MemReq) (err : LineErr) (c : CacheLine) : (State.serveHit s r err c).1.pending = s.pending := by
  (simp -implicitDefEqProofs only [State.serveHit]; (repeat' split) <;> (first | (with_reducible rfl) | simp -implicitDefEqProofs only [State.raise_pending, State.uncorrectable_pending, State.setCache_pending, State.useLine_pending, apply_ite State.pending, ite_self]))
@[simp] theorem State.serveMiss_pending (s : State) (r : MemReq) (d : List Byte) (p : Bool) : (State.serveMiss s r d p).pending = s.pending := by
  simp -implicitDefEqProofs only [State.serveMiss, State.setCache_pending, State.dalFree_pending, State.refused_pending, apply_ite State.pending, ite_self]
@[simp] theorem State.serveRead_pending (s : State) (r : MemReq) (err : LineErr) : (State.serveRead s r err).1.pending = s.pending := by
  (simp -implicitDefEqProofs only [State.serveRead]; (repeat' split) <;> (first | (with_reducible rfl) | simp -implicitDefEqProofs only [State.bump_pending, State.meter_pending, State.stackRead_pending, State.serveHit_pending, State.serveMiss_pending]))
@[simp] theorem State.serveWrite_pending (s : State) (r : MemReq) (first : Nat) (data : List Byte) (poison : Bool) (rel : Bool) : (State.serveWrite s r first data poison rel).pending = s.pending := by
  (simp -implicitDefEqProofs only [State.serveWrite]; (repeat' split) <;> (first | (with_reducible rfl) | simp -implicitDefEqProofs only [State.bump_pending, State.meter_pending, State.stackRead_pending, State.stackWrite_pending, State.stackPatch_pending, State.setCache_pending, State.refused_pending, apply_ite State.pending, ite_self]))
@[simp] theorem State.denyRead_pending (s : State) (a : Nat) (first : Bool) : (State.denyRead s a first).pending = s.pending := by
  simp -implicitDefEqProofs only [State.denyRead, State.put_pending, State.bump_pending, State.evt_pending, State.raise_pending, State.setMem_pending, apply_ite State.pending, ite_self]
@[simp] theorem State.denyWrite_pending (s : State) (a : Nat) (kind : Nat) : (State.denyWrite s a kind).pending = s.pending := by
  simp -implicitDefEqProofs only [State.denyWrite, State.put_pending, State.bump_pending, State.record_pending, State.setMem_pending, apply_ite State.pending, ite_self]
@[simp] theorem State.readLine_pending (s : State) (r : MemReq) (err : LineErr) (first : Bool) : (State.readLine s r err first).1.pending = s.pending := by
  (simp -implicitDefEqProofs only [State.readLine]; (repeat' split) <;> (first | (with_reducible rfl) | simp -implicitDefEqProofs only [State.countFault_pending, State.serveRead_pending, State.denyRead_pending, apply_ite State.pending, ite_self]))
@[simp] theorem State.writeLine_pending (s : State) (r : MemReq) (first : Nat) (data : List Byte) (poison : Bool) (rel : Bool) : (State.writeLine s r first data poison rel).pending = s.pending := by
  simp -implicitDefEqProofs only [State.writeLine, State.countFault_pending, State.serveWrite_pending, apply_ite State.pending, ite_self]
@[simp] theorem State.readSpan_pending (s : State) (r : MemReq) (n : Nat) : (State.readSpan s r n).1.pending = s.pending := by
  simp -implicitDefEqProofs only [State.readSpan, State.readLine_pending, foldl_pending, foldlP_pending, implies_true, apply_ite State.pending, ite_self]
@[simp] theorem State.writeSpan_pending (s : State) (r : MemReq) (data : List Byte) (poison : Bool) (rel : Bool) : (State.writeSpan s r data poison rel).pending = s.pending := by
  simp -implicitDefEqProofs only [State.writeSpan, State.writeLine_pending, foldl_pending, foldlP_pending, implies_true]
@[simp] theorem State.hostRead_pending (s : State) (part : Nat) (a : Nat) (err : LineErr) (first : Bool) : (State.hostRead s part a err first).1.pending = s.pending := by
  (simp -implicitDefEqProofs only [State.hostRead]; (repeat' split) <;> (first | (with_reducible rfl) | simp -implicitDefEqProofs only [State.countFault_pending, State.readLine_pending, apply_ite State.pending, ite_self]))
@[simp] theorem State.hostWrite_pending (s : State) (part : Nat) (a : Nat) (first : Nat) (data : List Byte) (poison : Bool) (sealed : Bool) (kind : Nat) : (State.hostWrite s part a first data poison sealed kind).pending = s.pending := by
  simp -implicitDefEqProofs only [State.hostWrite, State.countFault_pending, State.denyWrite_pending, State.writeLine_pending, apply_ite State.pending, ite_self]
@[simp] theorem State.hold_pending (s : State) (w : HostWait) : (State.hold s w).pending = s.pending := by
  simp -implicitDefEqProofs only [State.hold]
@[simp] theorem State.serveHost_pending (s : State) (w : HostWait) : (State.serveHost s w).pending = s.pending := by
  (simp -implicitDefEqProofs only [State.serveHost]; (repeat' split) <;> (first | (with_reducible rfl) | simp -implicitDefEqProofs only [State.answer_pending, State.hostRead_pending, State.hostWrite_pending, apply_ite State.pending, ite_self]))
@[simp] theorem State.serveWaits_pending (s : State) : (State.serveWaits s).pending = s.pending := by
  simp -implicitDefEqProofs only [State.serveWaits, State.serveHost_pending, foldl_pending, foldlP_pending, implies_true]
@[simp] theorem State.copyLists_pending (s : State) (b : Nat) (slot : Nat) : (State.copyLists s b slot).pending = s.pending := by
  simp -implicitDefEqProofs only [State.copyLists, State.readSpan_pending]
@[simp] theorem State.localPut_pending (s : State) (c : Nat) (a : Nat) (bs : List Byte) : (State.localPut s c a bs).pending = s.pending := by
  simp -implicitDefEqProofs only [State.localPut]
@[simp] theorem State.setSlot_pending (s : State) (c : Nat) (k : Nat) (m : SlotMeta) : (State.setSlot s c k m).pending = s.pending := by
  simp -implicitDefEqProofs only [State.setSlot, State.put_pending, State.setCores_pending]
@[simp] theorem State.freeSlots_pending (s : State) (c : Nat) (k : Nat) (d : Desc) : (State.freeSlots s c k d).pending = s.pending := by
  simp -implicitDefEqProofs only [State.freeSlots, State.setSlot_pending, foldl_pending, foldlP_pending, implies_true]
@[simp] theorem State.abandon_pending (s : State) (c : Nat) (k : Nat) (n : Nat) : (State.abandon s c k n).pending = s.pending := by
  simp -implicitDefEqProofs only [State.abandon, State.setSlot_pending, foldl_pending, foldlP_pending, implies_true]
@[simp] theorem State.compUp_pending (s : State) (c : Nat) (x : Nat) : (State.compUp s c x).pending = s.pending := by
  simp -implicitDefEqProofs only [State.compUp, State.put_pending, State.setCores_pending]
@[simp] theorem State.taint_pending (s : State) (c : Nat) (x : Nat) : (State.taint s c x).pending = s.pending := by
  simp -implicitDefEqProofs only [State.taint, State.setCores_pending, apply_ite State.pending, ite_self]
@[simp] theorem State.setCursor_pending (s : State) (c : Nat) (e : Nat) (k : Nat) : (State.setCursor s c e k).pending = s.pending := by
  simp -implicitDefEqProofs only [State.setCursor, State.put_pending, State.setCores_pending]
@[simp] theorem State.onCores_pending (s : State) (b : Nat) (g : State → Nat → State) (hg : ∀ (u : State) (w1 : Nat), (g u w1).pending = u.pending) : (State.onCores s b g).pending = s.pending := by
  simp -implicitDefEqProofs only [State.onCores, hg, foldl_pending, foldlP_pending, implies_true, apply_ite State.pending, ite_self]
@[simp] theorem State.release_pending (s : State) (c : Nat) (r : Released) : (State.release s c r).pending = s.pending := by
  simp -implicitDefEqProofs only [State.release, State.put_pending, State.setCores_pending]
@[simp] theorem State.poisonNorms_pending (s : State) (n : Nat) (m : MatBlk) : (State.poisonNorms s n m).pending = s.pending := by
  simp -implicitDefEqProofs only [State.poisonNorms, State.localPut_pending, foldl_pending, foldlP_pending, implies_true]
@[simp] theorem State.skipMatrix_pending (s : State) (b : Nat) (c : Nat) (arm : Option Nat) (m : MatBlk) : (State.skipMatrix s b c arm m).pending = s.pending := by
  simp -implicitDefEqProofs only [State.skipMatrix, State.abandon_pending, State.release_pending, State.poisonNorms_pending, apply_ite State.pending, ite_self]
@[simp] theorem State.skipEntry_pending (s : State) (b : Nat) (c : Nat) (e : Nat) (i : Issue) : (State.skipEntry s b c e i).pending = s.pending := by
  simp -implicitDefEqProofs only [State.skipEntry, State.bump_pending, State.skipMatrix_pending, apply_ite State.pending, ite_self]
@[simp] theorem State.skipEngine_pending (s : State) (b : Nat) (c : Nat) (e : Nat) : (State.skipEngine s b c e).pending = s.pending := by
  simp -implicitDefEqProofs only [State.skipEngine, State.setCursor_pending, State.skipEntry_pending, foldl_pending, foldlP_pending, implies_true]
@[simp] theorem State.skipXfer_pending (s : State) (b : Nat) (c : Nat) (x : Nat) : (State.skipXfer s b c x).pending = s.pending := by
  simp -implicitDefEqProofs only [State.skipXfer, State.bump_pending, State.compUp_pending, State.taint_pending]
@[simp] theorem State.skipXfers_pending (s : State) (b : Nat) (c : Nat) (x : Nat) : (State.skipXfers s b c x).pending = s.pending := by
  simp -implicitDefEqProofs only [State.skipXfers, State.put_pending, State.setCores_pending, State.skipXfer_pending, foldl_pending, foldlP_pending, implies_true]
@[simp] theorem State.skipFrame_pending (s : State) (b : Nat) : (State.skipFrame s b).pending = s.pending := by
  simp -implicitDefEqProofs only [State.skipFrame, State.onCores_pending, State.skipEngine_pending, State.skipXfers_pending, foldl_pending, foldlP_pending, implies_true]
@[simp] theorem State.stopEngine_pending (s : State) (b : Nat) (c : Nat) (e : Nat) : (State.stopEngine s b c e).pending = s.pending := by
  (simp -implicitDefEqProofs only [State.stopEngine]; (repeat' split) <;> (first | (with_reducible rfl) | simp -implicitDefEqProofs only [State.put_pending, State.bump_pending, State.setCores_pending, State.skipMatrix_pending, apply_ite State.pending, ite_self]))
@[simp] theorem State.stopXfer_pending (s : State) (b : Nat) (c : Nat) (x : Nat) : (State.stopXfer s b c x).pending = s.pending := by
  simp -implicitDefEqProofs only [State.stopXfer, State.setCores_pending, State.skipXfer_pending, apply_ite State.pending, ite_self]
@[simp] theorem State.stopRunning_pending (s : State) (b : Nat) : (State.stopRunning s b).pending = s.pending := by
  simp -implicitDefEqProofs only [State.stopRunning, State.onCores_pending, State.stopEngine_pending, State.stopXfer_pending, foldl_pending, foldlP_pending, implies_true]
@[simp] theorem State.openFrame_pending (s : State) (b : Nat) : (State.openFrame s b).pending = s.pending := by
  simp -implicitDefEqProofs only [State.openFrame, State.setBed_pending, State.setCores_pending, apply_ite State.pending, ite_self]
@[simp] theorem State.openStep_pending (s : State) (b : Nat) : (State.openStep s b).pending = s.pending := by
  simp -implicitDefEqProofs only [State.openStep, State.put_pending, State.setCores_pending, State.taint_pending, foldl_pending, foldlP_pending, implies_true, apply_ite State.pending, ite_self]
@[simp] theorem State.ctxReset_pending (s : State) (b : Nat) (c : Nat) (x : Nat) (code : Nat) : (State.ctxReset s b c x code).pending = s.pending := by
  simp -implicitDefEqProofs (disch := (intros; (repeat' split) <;> try simp -implicitDefEqProofs only [State.put_pending, State.bump_pending, State.record_pending, State.setCores_pending, State.stopEngine_pending, foldl_pending, foldlP_pending, implies_true, apply_ite State.pending, ite_self])) only [State.ctxReset, State.put_pending, State.bump_pending, State.record_pending, State.setCores_pending, State.stopEngine_pending, foldl_pending, foldlP_pending, implies_true, apply_ite State.pending, ite_self]
@[simp] theorem State.setSeq_pending (s : State) (b : Nat) (st : Nat) : (State.setSeq s b st).pending = s.pending := by
  simp -implicitDefEqProofs only [State.setSeq, State.put_pending, State.dueSets_pending, State.endStops_pending, apply_ite State.pending, ite_self]
@[simp] theorem State.showArm_pending (s : State) (b : Nat) : (State.showArm s b).pending = s.pending := by
  simp -implicitDefEqProofs only [State.showArm, State.put_pending]
@[simp] theorem State.clearOrigin_pending (s : State) (b : Nat) : (State.clearOrigin s b).pending = s.pending := by
  simp -implicitDefEqProofs only [State.clearOrigin, State.put_pending, State.setBed_pending]
@[simp] theorem State.dropPending_pending (s : State) (b : Nat) : (State.dropPending s b).pending = s.pending := by
  (simp -implicitDefEqProofs only [State.dropPending]; (repeat' split) <;> (first | (with_reducible rfl) | (simp -implicitDefEqProofs [-List.foldl_cons, -List.foldl_nil, foldl_pending, foldlP_pending]; done) | (simp -implicitDefEqProofs (disch := (intros; (repeat' split) <;> try simp -implicitDefEqProofs [-List.foldl_cons, -List.foldl_nil, foldl_pending, foldlP_pending])) [-List.foldl_cons, -List.foldl_nil, foldl_pending, foldlP_pending]; done)))
@[simp] theorem State.cancelArmed_pending (s : State) (b : Nat) (st : Nat) (cause : Nat) : (State.cancelArmed s b st cause).pending = s.pending := by
  simp -implicitDefEqProofs only [State.cancelArmed, State.record_pending, State.setSeq_pending, State.dropPending_pending]
@[simp] theorem State.askUnits_pending (s : State) (b : Nat) : (State.askUnits s b).pending = s.pending := by
  simp -implicitDefEqProofs only [State.askUnits, foldl_pending, foldlP_pending, implies_true, apply_ite State.pending, ite_self]
@[simp] theorem State.holdBed_pending (s : State) (b : Nat) (cause : Nat) : (State.holdBed s b cause).pending = s.pending := by
  simp -implicitDefEqProofs only [State.holdBed, State.setBed_pending, State.skipFrame_pending, State.stopRunning_pending, State.setSeq_pending, State.dropPending_pending, State.cancelArmed_pending, State.askUnits_pending, apply_ite State.pending, ite_self]
@[simp] theorem State.holdBeds_pending (s : State) (l : List Nat) (cause : Nat) : (State.holdBeds s l cause).pending = s.pending := by
  simp -implicitDefEqProofs only [State.holdBeds, State.holdBed_pending, foldl_pending, foldlP_pending, implies_true]
@[simp] theorem State.idleBed_pending (s : State) (b : Nat) : (State.idleBed s b).pending = s.pending := by
  simp -implicitDefEqProofs only [State.idleBed, State.setBed_pending, State.skipFrame_pending, State.stopRunning_pending, State.setSeq_pending, State.showArm_pending, State.dropPending_pending, State.askUnits_pending]
@[simp] theorem State.unloadSlot_pending (s : State) (p : Nat) (k : Nat) : (State.unloadSlot s p k).pending = s.pending := by
  simp -implicitDefEqProofs only [State.unloadSlot, State.setBed_pending, State.showArm_pending, foldl_pending, foldlP_pending, implies_true, apply_ite State.pending, ite_self]
@[simp] theorem State.unloadAll_pending (s : State) (p : Nat) : (State.unloadAll s p).pending = s.pending := by
  simp -implicitDefEqProofs only [State.unloadAll, State.unloadSlot_pending, foldl_pending, foldlP_pending, implies_true]
@[simp] theorem State.leaveGroup_pending (s : State) (p : Nat) : (State.leaveGroup s p).pending = s.pending := by
  simp -implicitDefEqProofs only [State.leaveGroup, State.setPart_pending, apply_ite State.pending, ite_self]
@[simp] theorem State.leaveAll_pending (s : State) : (State.leaveAll s).pending = s.pending := by
  simp -implicitDefEqProofs only [State.leaveAll, State.leaveGroup_pending, foldl_pending, foldlP_pending, implies_true]
@[simp] theorem State.setDomains_pending (s : State) (w : Nat × Nat × Nat) : (State.setDomains s w).pending = s.pending := by
  simp -implicitDefEqProofs only [State.setDomains, State.put_pending]
@[simp] theorem State.setPower_pending (s : State) (p : PowerState) : (State.setPower s p).pending = s.pending := by
  simp -implicitDefEqProofs only [State.setPower, State.put_pending, State.setDomains_pending]
@[simp] theorem State.beginTransition_pending (s : State) (p : PowerState) (cause : Nat) : (State.beginTransition s p cause).pending = s.pending := by
  simp -implicitDefEqProofs only [State.beginTransition, State.put_pending]
@[simp] theorem State.enterHold_pending (s : State) (cause : Nat) : (State.enterHold s cause).pending = s.pending := by
  simp -implicitDefEqProofs only [State.enterHold, State.hold_pending, State.holdBeds_pending, State.leaveAll_pending, State.beginTransition_pending, apply_ite State.pending, ite_self]
@[simp] theorem State.dropStage_pending (s : State) (cause : Nat) : (State.dropStage s cause).pending = s.pending := by
  simp -implicitDefEqProofs only [State.dropStage, State.put_pending, State.setDomains_pending]
@[simp] theorem State.enterOff_pending (s : State) (cause : Nat) : (State.enterOff s cause).pending = s.pending := by
  simp -implicitDefEqProofs only [State.enterOff, State.holdBeds_pending, State.leaveAll_pending, State.beginTransition_pending, State.dropStage_pending, apply_ite State.pending, ite_self]
@[simp] theorem State.setPoint_pending (s : State) (p : Nat) : (State.setPoint s p).pending = s.pending := by
  simp -implicitDefEqProofs only [State.setPoint, State.put_pending]
@[simp] theorem State.floorCause_pending (s : State) (c : FloorCause) (cause : Nat) (code : Nat) (payload : List Byte) : (State.floorCause s c cause code payload).pending = s.pending := by
  simp -implicitDefEqProofs only [State.floorCause, State.put_pending, State.bump_pending, State.record_pending, State.evt_pending, State.raise_pending, State.hold_pending, State.setPower_pending, State.setPoint_pending, apply_ite State.pending, ite_self]
@[simp] theorem State.floorClear_pending (s : State) (c : FloorCause) : (State.floorClear s c).pending = s.pending := by
  simp -implicitDefEqProofs only [State.floorClear]
@[simp] theorem State.startScrub_pending (s : State) (b : Nat) : (State.startScrub s b).pending = s.pending := by
  simp -implicitDefEqProofs only [State.startScrub, State.put_pending, State.setMem_pending, State.unloadAll_pending, apply_ite State.pending, ite_self]
@[simp] theorem State.failDma_pending (s : State) (p : Nat) : (State.failDma s p).pending = s.pending := by
  simp -implicitDefEqProofs only [State.failDma, apply_ite State.pending, ite_self]
@[simp] theorem State.setSessionState_pending (s : State) (p : Nat) (st : Nat) : (State.setSessionState s p st).pending = s.pending := by
  simp -implicitDefEqProofs only [State.setSessionState, State.put_pending, foldl_pending, foldlP_pending, implies_true, apply_ite State.pending, ite_self]
@[simp] theorem State.eraseKeys_pending (s : State) (p : Nat) : (State.eraseKeys s p).pending = s.pending := by
  simp -implicitDefEqProofs only [State.eraseKeys, State.put_pending, State.setSession_pending, State.raise_pending, foldl_pending, foldlP_pending, implies_true]
@[simp] theorem State.finishClose_pending (s : State) (p : Nat) : (State.finishClose s p).pending = s.pending := by
  simp -implicitDefEqProofs only [State.finishClose, State.put_pending, State.setSession_pending, State.raise_pending, State.doUnlock_pending, State.setSessionState_pending, foldl_pending, foldlP_pending, implies_true]
@[simp] theorem State.closeBeds_pending (s : State) (p : Nat) : (State.closeBeds s p).pending = s.pending := by
  simp -implicitDefEqProofs only [State.closeBeds, State.setSeq_pending, State.holdBed_pending, foldl_pending, foldlP_pending, implies_true, apply_ite State.pending, ite_self]
@[simp] theorem State.beginClose_pending (s : State) (p : Nat) : (State.beginClose s p).pending = s.pending := by
  simp -implicitDefEqProofs only [State.beginClose, State.setSession_pending, State.startScrub_pending, State.failDma_pending, State.setSessionState_pending, State.eraseKeys_pending, State.closeBeds_pending, foldl_pending, foldlP_pending, implies_true, apply_ite State.pending, ite_self]
@[simp] theorem State.endSessionNow_pending (s : State) (p : Nat) : (State.endSessionNow s p).pending = s.pending := by
  simp -implicitDefEqProofs only [State.endSessionNow, State.failDma_pending, State.eraseKeys_pending, State.finishClose_pending, State.closeBeds_pending, apply_ite State.pending, ite_self]
@[simp] theorem State.endSessions_pending (s : State) : (State.endSessions s).pending = s.pending := by
  simp -implicitDefEqProofs only [State.endSessions, State.endSessionNow_pending, foldl_pending, foldlP_pending, implies_true]
@[simp] theorem State.opTime_pending (s : State) : (State.opTime s).pending = s.pending := by
  simp -implicitDefEqProofs only [State.opTime, apply_ite State.pending, ite_self]
@[simp] theorem State.count_pending (s : State) : (State.count s).pending = s.pending := by
  simp -implicitDefEqProofs only [State.count, State.hold_pending, apply_ite State.pending, ite_self]
@[simp] theorem State.idle_pending (s : State) : (State.idle s).pending = s.pending := by
  simp -implicitDefEqProofs only [State.idle, State.opTime_pending, State.count_pending, apply_ite State.pending, ite_self]
@[simp] theorem State.moveTime_pending (s : State) (d : Int) : (State.moveTime s d).pending = s.pending := by
  simp -implicitDefEqProofs only [State.moveTime, State.record_pending, State.hold_pending, State.clearOrigin_pending, foldl_pending, foldlP_pending, implies_true, apply_ite State.pending, ite_self]
@[simp] theorem State.steerRate_pending (s : State) (off : Int) : (State.steerRate s off).pending = s.pending := by
  simp -implicitDefEqProofs only [State.steerRate]
@[simp] theorem State.seqFromTime_pending (s : State) : (State.seqFromTime s).pending = s.pending := by
  simp -implicitDefEqProofs only [State.seqFromTime, State.put_pending, foldl_pending, foldlP_pending, implies_true]
@[simp] theorem State.setAligned_pending (s : State) (on : Bool) : (State.setAligned s on).pending = s.pending := by
  simp -implicitDefEqProofs only [State.setAligned, State.put_pending, State.seqFromTime_pending, apply_ite State.pending, ite_self]
@[simp] theorem State.alignOffset_pending (s : State) (off : Int) : (State.alignOffset s off).pending = s.pending := by
  simp -implicitDefEqProofs only [State.alignOffset, State.put_pending, State.record_pending, State.onceDo_pending, State.moveTime_pending, State.steerRate_pending, State.setAligned_pending, implies_true, apply_ite State.pending, ite_self]
@[simp] theorem State.setTref_pending (s : State) (v : Nat) : (State.setTref s v).pending = s.pending := by
  simp -implicitDefEqProofs only [State.setTref, State.put_pending, apply_ite State.pending, ite_self]
@[simp] theorem State.setHoldover_pending (s : State) (on : Bool) : (State.setHoldover s on).pending = s.pending := by
  simp -implicitDefEqProofs only [State.setHoldover, State.put_pending, State.record_pending, apply_ite State.pending, ite_self]
theorem execGroupAlignTimeout_pending (part : Bed) (s : State) : ∀ t, (execGroupAlignTimeout part s) = .next t → t.pending = s.pending := by
  intro t ht; simp -implicitDefEqProofs only [execGroupAlignTimeout] at ht; (repeat' split at ht) <;> (first | (rw [← Host.Outcome.next.inj ht]; done) | (rw [← Host.Outcome.next.inj ht]; simp -implicitDefEqProofs only [State.record_pending, State.leaveGroup_pending, State.enterHold_pending, apply_ite State.pending, ite_self]; done))
theorem execTimeRefEdge_pending (s : State) : ∀ t, (execTimeRefEdge s) = .next t → t.pending = s.pending := by
  intro t ht; simp -implicitDefEqProofs only [execTimeRefEdge] at ht; (repeat' split at ht) <;> (first | (rw [← Host.Outcome.next.inj ht]; done) | (rw [← Host.Outcome.next.inj ht]; simp -implicitDefEqProofs only [State.put_pending, State.moveTime_pending, State.steerRate_pending, State.setHoldover_pending, apply_ite State.pending, ite_self]; done))
theorem execTrefHoldoverTimeout_pending (s : State) : ∀ t, (execTrefHoldoverTimeout s) = .next t → t.pending = s.pending := by
  intro t ht; simp -implicitDefEqProofs only [execTrefHoldoverTimeout] at ht; (repeat' split at ht) <;> (first | (rw [← Host.Outcome.next.inj ht]; done) | (rw [← Host.Outcome.next.inj ht]; simp -implicitDefEqProofs only [State.put_pending, State.setHoldover_pending, apply_ite State.pending, ite_self]; done))
theorem execTimeHoldEnd_pending (s : State) : ∀ t, (execTimeHoldEnd s) = .next t → t.pending = s.pending := by
  intro t ht; rw [← Host.Outcome.next.inj ht]
@[simp] theorem State.queueOn_pending (s : State) (p : Nat) (k : Packet) : (State.queueOn s p k).pending = s.pending := by
  simp -implicitDefEqProofs only [State.queueOn, State.put_pending, State.setFab_pending]
@[simp] theorem State.takeSeq_pending (s : State) (q : Nat) : (State.takeSeq s q).2.pending = s.pending := by
  simp -implicitDefEqProofs only [State.takeSeq, State.put_pending, State.setFab_pending]
@[simp] theorem State.send_pending (s : State) (q : Nat) (dest : Nat) (cls : Nat) (ty : Nat) (tf : List Byte) (payload : List Byte) (poison : Bool) : (State.send s q dest cls ty tf payload poison).pending = s.pending := by
  simp -implicitDefEqProofs only [State.send, State.setFab_pending, State.queueOn_pending, foldl_pending, foldlP_pending, implies_true, apply_ite State.pending, ite_self]
@[simp] theorem State.numbered_pending (s : State) (k : Packet) : (State.numbered s k).1.pending = s.pending := by
  (simp -implicitDefEqProofs only [State.numbered]; (repeat' split) <;> (first | (with_reducible rfl) | simp -implicitDefEqProofs only [State.put_pending, State.setFab_pending, State.takeSeq_pending, apply_ite State.pending, ite_self]))
@[simp] theorem State.transmit_pending (s : State) (p : Nat) (k : Packet) : (State.transmit s p k).pending = s.pending := by
  simp -implicitDefEqProofs only [State.transmit, State.put_pending, State.bump_pending, State.setFab_pending, apply_ite State.pending, ite_self]
@[simp] theorem State.askedFor_pending (s : State) (p : Nat) (n : Nat) : (State.askedFor s p n).pending = s.pending := by
  (simp -implicitDefEqProofs only [State.askedFor]; (repeat' split) <;> (first | (with_reducible rfl) | simp -implicitDefEqProofs only [State.put_pending, State.setFab_pending]))
@[simp] theorem State.sendBeat_pending (s : State) (p : Nat) : (State.sendBeat s p).pending = s.pending := by
  simp -implicitDefEqProofs only [State.sendBeat, State.transmit_pending]
@[simp] theorem State.sendPicked_pending (s : State) (p : Nat) (k : Packet) (rest : List Packet) : (State.sendPicked s p k rest).pending = s.pending := by
  (simp -implicitDefEqProofs only [State.sendPicked]; (repeat' split) <;> (first | (with_reducible rfl) | simp -implicitDefEqProofs only [State.put_pending, State.bump_pending, State.setFab_pending, State.numbered_pending, State.transmit_pending]))
@[simp] theorem State.countDiscard_pending (s : State) (p : Nat) : (State.countDiscard s p).pending = s.pending := by
  simp -implicitDefEqProofs only [State.countDiscard, State.put_pending, State.setFab_pending]
@[simp] theorem State.openPacket_pending (s : State) (p : Nat) (k : Packet) : (State.openPacket s p k).1.pending = s.pending := by
  (simp -implicitDefEqProofs only [State.openPacket]; (repeat' split) <;> (first | (with_reducible rfl) | simp -implicitDefEqProofs only [State.bump_pending, State.raise_pending, apply_ite State.pending, ite_self]))
@[simp] theorem State.countLate_pending (s : State) (p : Nat) (k : Packet) : (State.countLate s p k).pending = s.pending := by
  simp -implicitDefEqProofs only [State.countLate, State.bump_pending, State.raise_pending, apply_ite State.pending, ite_self]
@[simp] theorem State.takeIn_pending (s : State) (p : Nat) (k : Packet) : (State.takeIn s p k).1.pending = s.pending := by
  have h0 := State.openPacket_pending s p k
  simp -implicitDefEqProofs only [State.takeIn]
  split
  · rfl
  split
  · exact State.countDiscard_pending ..
  split
  · rfl
  split
  · rfl
  split
  · rename_i heq; rw [heq] at h0; exact h0
  · rename_i heq
    rw [heq] at h0
    split
    · exact (State.countLate_pending ..).trans h0
    · split
      · exact h0
      · exact (State.countLate_pending ..).trans ((State.setFab_pending ..).trans h0)
theorem State.consume_pending (s : State) (p : Nat) (k : Packet) (ty : Nat) (f : State → Packet → State) (hf : ∀ (u : State) (w1 : Packet), (f u w1).pending = u.pending) : ∀ t, (State.consume s p k ty f) = .next t → t.pending = s.pending := by
  intro t ht
  have h0 := State.takeIn_pending s p k
  simp only [State.consume] at ht
  split at ht
  · cases ht; rfl
  · split at ht
    · rename_i heq; rw [heq] at h0; cases ht; rw [hf]; exact h0
    · rename_i heq; rw [heq] at h0; cases ht; exact h0
@[simp] theorem State.dataIn_pending (s : State) (p : Nat) (k : Packet) : (State.dataIn s p k).pending = s.pending := by
  simp -implicitDefEqProofs only [State.dataIn, State.writeSpan_pending]
theorem execDataReceive_pending (port : Port) (packet : Packet) (s : State) : ∀ t, (execDataReceive port packet s) = .next t → t.pending = s.pending := by
  intro t ht; simp -implicitDefEqProofs only [execDataReceive] at ht; (refine State.consume_pending _ _ _ _ _ ?_ _ ht) <;> (intros; simp -implicitDefEqProofs only [State.dataIn_pending])
@[simp] theorem State.heartbeatIn_pending (s : State) (p : Nat) (k : Packet) : (State.heartbeatIn s p k).pending = s.pending := by
  simp -implicitDefEqProofs only [State.heartbeatIn, State.put_pending, State.bump_pending, State.setFab_pending]
theorem execHeartbeatReceive_pending (port : Port) (packet : Packet) (s : State) : ∀ t, (execHeartbeatReceive port packet s) = .next t → t.pending = s.pending := by
  intro t ht; simp -implicitDefEqProofs only [execHeartbeatReceive] at ht; (refine State.consume_pending _ _ _ _ _ ?_ _ ht) <;> (intros; simp -implicitDefEqProofs only [State.heartbeatIn_pending])
@[simp] theorem State.portDown_pending (s : State) (p : Nat) (st : Nat) : (State.portDown s p st).pending = s.pending := by
  simp -implicitDefEqProofs only [State.portDown, State.put_pending, State.setFab_pending]
theorem execHeartbeatTimeout_pending (port : Port) (s : State) : ∀ t, (execHeartbeatTimeout port s) = .next t → t.pending = s.pending := by
  intro t ht; simp -implicitDefEqProofs only [execHeartbeatTimeout] at ht; (repeat' split at ht) <;> (first | (rw [← Host.Outcome.next.inj ht]; done) | (rw [← Host.Outcome.next.inj ht]; simp -implicitDefEqProofs only [State.put_pending, State.bump_pending, State.record_pending, State.evt_pending, State.setFab_pending, State.portDown_pending, apply_ite State.pending, ite_self]; done))
@[simp] theorem State.timeRequestIn_pending (s : State) (p : Nat) (k : Packet) : (State.timeRequestIn s p k).pending = s.pending := by
  simp -implicitDefEqProofs only [State.timeRequestIn, State.queueOn_pending, apply_ite State.pending, ite_self]
theorem execTimeRequestReceive_pending (port : Port) (packet : Packet) (s : State) : ∀ t, (execTimeRequestReceive port packet s) = .next t → t.pending = s.pending := by
  intro t ht; simp -implicitDefEqProofs only [execTimeRequestReceive] at ht; (refine State.consume_pending _ _ _ _ _ ?_ _ ht) <;> (intros; simp -implicitDefEqProofs only [State.timeRequestIn_pending])
@[simp] theorem State.timeResponseIn_pending (s : State) (p : Nat) (k : Packet) : (State.timeResponseIn s p k).pending = s.pending := by
  simp -implicitDefEqProofs only [State.timeResponseIn, State.alignOffset_pending, apply_ite State.pending, ite_self]
@[simp] theorem State.fencePort_pending (s : State) (p : Nat) : (State.fencePort s p).pending = s.pending := by
  simp -implicitDefEqProofs only [State.fencePort, State.put_pending, State.evt_pending, State.portDown_pending]
@[simp] theorem State.mismatch_pending (s : State) (p : Nat) : (State.mismatch s p).pending = s.pending := by
  simp -implicitDefEqProofs only [State.mismatch, State.raise_pending]
@[simp] theorem State.deriveId_pending (s : State) : (State.deriveId s).pending = s.pending := by
  (simp -implicitDefEqProofs only [State.deriveId]; (repeat' split) <;> (first | (with_reducible rfl) | simp -implicitDefEqProofs only [State.put_pending, State.fencePort_pending, State.mismatch_pending, foldl_pending, foldlP_pending, implies_true, apply_ite State.pending, ite_self]))
@[simp] theorem State.positionIn_pending (s : State) (p : Nat) (k : Packet) : (State.positionIn s p k).pending = s.pending := by
  simp -implicitDefEqProofs only [State.positionIn, State.put_pending, State.mismatch_pending, State.deriveId_pending, apply_ite State.pending, ite_self]
@[simp] theorem State.applyTopo_pending (s : State) : (State.applyTopo s).pending = s.pending := by
  (simp -implicitDefEqProofs only [State.applyTopo]; (repeat' split) <;> (first | (with_reducible rfl) | simp -implicitDefEqProofs only [State.put_pending, State.raise_pending, State.setFab_pending, foldl_pending, foldlP_pending, implies_true, apply_ite State.pending, ite_self]))
@[simp] theorem State.reportIn_pending (s : State) (k : Packet) : (State.reportIn s k).pending = s.pending := by
  (simp -implicitDefEqProofs only [State.reportIn]; (repeat' split) <;> (first | (with_reducible rfl) | (simp -implicitDefEqProofs [-List.foldl_cons, -List.foldl_nil, foldl_pending, foldlP_pending]; done) | (simp -implicitDefEqProofs (disch := (intros; (repeat' split) <;> try simp -implicitDefEqProofs [-List.foldl_cons, -List.foldl_nil, foldl_pending, foldlP_pending])) [-List.foldl_cons, -List.foldl_nil, foldl_pending, foldlP_pending]; done)))
@[simp] theorem State.topologyIn_pending (s : State) (p : Nat) (k : Packet) : (State.topologyIn s p k).pending = s.pending := by
  simp -implicitDefEqProofs only [State.topologyIn, State.positionIn_pending, State.reportIn_pending, apply_ite State.pending, ite_self]
theorem execTopologyReceive_pending (port : Port) (packet : Packet) (s : State) : ∀ t, (execTopologyReceive port packet s) = .next t → t.pending = s.pending := by
  intro t ht; simp -implicitDefEqProofs only [execTopologyReceive] at ht; (refine State.consume_pending _ _ _ _ _ ?_ _ ht) <;> (intros; simp -implicitDefEqProofs only [State.topologyIn_pending])
@[simp] theorem State.train_pending (s : State) (p : Nat) : (State.train s p).pending = s.pending := by
  simp -implicitDefEqProofs only [State.train, State.put_pending, State.setFab_pending, State.portDown_pending, apply_ite State.pending, ite_self]
theorem execPortRetrain_pending (port : Port) (s : State) : ∀ t, (execPortRetrain port s) = .next t → t.pending = s.pending := by
  intro t ht; simp -implicitDefEqProofs only [execPortRetrain] at ht; rw [← Host.Outcome.next.inj ht]; simp -implicitDefEqProofs only [State.train_pending, apply_ite State.pending, ite_self]
theorem execPortTrainingTimeout_pending (port : Port) (s : State) : ∀ t, (execPortTrainingTimeout port s) = .next t → t.pending = s.pending := by
  intro t ht; simp -implicitDefEqProofs only [execPortTrainingTimeout] at ht; (repeat' split at ht) <;> (first | (rw [← Host.Outcome.next.inj ht]; done) | (rw [← Host.Outcome.next.inj ht]; simp -implicitDefEqProofs only [State.put_pending, State.record_pending, State.setFab_pending, State.fencePort_pending, apply_ite State.pending, ite_self]; done))
theorem execLinkUp_pending (port : Port) (s : State) : ∀ t, (execLinkUp port s) = .next t → t.pending = s.pending := by
  intro t ht; simp -implicitDefEqProofs only [execLinkUp] at ht; (repeat' split at ht) <;> (first | (rw [← Host.Outcome.next.inj ht]; done) | (rw [← Host.Outcome.next.inj ht]; simp -implicitDefEqProofs only [State.put_pending, State.raise_pending, State.setFab_pending, State.queueOn_pending, apply_ite State.pending, ite_self]; done))
theorem execD2dFlitRetry_pending (link : Fin 11) (s : State) (compute : Bool) : ∀ t, (execD2dFlitRetry link s compute) = .next t → t.pending = s.pending := by
  intro t ht; simp -implicitDefEqProofs only [execD2dFlitRetry] at ht; rw [← Host.Outcome.next.inj ht]; simp -implicitDefEqProofs only [State.bump_pending, apply_ite State.pending, ite_self]
theorem execD2dTrainingLost_pending (link : Fin 11) (s : State) : ∀ t, (execD2dTrainingLost link s) = .next t → t.pending = s.pending := by
  intro t ht; rw [← Host.Outcome.next.inj ht]
theorem execD2dTrainingRecovered_pending (link : Fin 11) (s : State) : ∀ t, (execD2dTrainingRecovered link s) = .next t → t.pending = s.pending := by
  intro t ht; rw [← Host.Outcome.next.inj ht]
theorem execD2dTrainingTimeout_pending (link : Fin 11) (s : State) : ∀ t, (execD2dTrainingTimeout link s) = .next t → t.pending = s.pending := by
  intro t ht; simp -implicitDefEqProofs only [execD2dTrainingTimeout] at ht; (repeat' split at ht) <;> (first | (rw [← Host.Outcome.next.inj ht]; done) | (rw [← Host.Outcome.next.inj ht]; simp -implicitDefEqProofs only [State.record_pending, State.enterHold_pending, apply_ite State.pending, ite_self]; done))
@[simp] theorem State.raiseFlags_pending (s : State) (n : Nat) (fl : Flags) : (State.raiseFlags s n fl).pending = s.pending := by
  simp -implicitDefEqProofs only [State.raiseFlags, State.put_pending, apply_ite State.pending, ite_self]
@[simp] theorem State.latchCapture_pending (s : State) (b : Nat) (c : Capture) : (State.latchCapture s b c).pending = s.pending := by
  simp -implicitDefEqProofs only [State.latchCapture, State.setBed_pending, apply_ite State.pending, ite_self]
@[simp] theorem State.captureNf_pending (s : State) (b : Nat) (c : Nat) (fl : Flags) (i : CapInfo) : (State.captureNf s b c fl i).pending = s.pending := by
  simp -implicitDefEqProofs only [State.captureNf, State.put_pending, State.latchCapture_pending, apply_ite State.pending, ite_self]
@[simp] theorem State.result_pending (s : State) (b : Nat) (c : Nat) (fl : Flags) (i : CapInfo) : (State.result s b c fl i).pending = s.pending := by
  simp -implicitDefEqProofs only [State.result, State.raiseFlags_pending, State.captureNf_pending]
@[simp] theorem State.tileFaulted_pending (s : State) (b : Nat) (c : Nat) (d : Desc) (t : List Byte) (tile : Nat) : (State.tileFaulted s b c d t tile).pending = s.pending := by
  simp -implicitDefEqProofs only [State.tileFaulted, State.record_pending, State.raiseFlags_pending, foldl_pending, foldlP_pending, implies_true]
@[simp] theorem State.openBuckets_pending (s : State) (q : Nat) (step : Nat) (frame : Nat) (epoch : Nat) (anew : Bool) (grafted : Bool) : (State.openBuckets s q step frame epoch anew grafted).pending = s.pending := by
  simp -implicitDefEqProofs only [State.openBuckets, State.put_pending, State.openStep_pending, State.setRed_pending, apply_ite State.pending, ite_self]
@[simp] theorem State.setPartAt_pending (s : State) (k : PartKey) (x : OpenPart) : (State.setPartAt s k x).pending = s.pending := by
  simp -implicitDefEqProofs only [State.setPartAt, State.put_pending, State.setRed_pending]
@[simp] theorem State.redCount_pending (s : State) (p : Page) (f : Fld) (bit : Nat) : (State.redCount s p f bit).pending = s.pending := by
  simp -implicitDefEqProofs only [State.redCount, State.bump_pending, State.raise_pending]
@[simp] theorem State.onStep_pending (s : State) (q : Nat) (step : Nat) (g : OpenStep → OpenStep) : (State.onStep s q step g).pending = s.pending := by
  (simp -implicitDefEqProofs only [State.onStep]; (repeat' split) <;> (first | (with_reducible rfl) | simp -implicitDefEqProofs only [State.put_pending, State.openStep_pending, State.setRed_pending]))
@[simp] theorem State.noiseFailed_pending (s : State) (q : Nat) (step : Nat) : (State.noiseFailed s q step).pending = s.pending := by
  simp -implicitDefEqProofs only [State.noiseFailed, State.bump_pending, State.raise_pending, State.onStep_pending]
@[simp] theorem State.retain_pending (s : State) (k : PartKey) (o : OpenStep) (c : Cert) (sums : List Int) : (State.retain s k o c sums).pending = s.pending := by
  simp -implicitDefEqProofs only [State.retain, State.setRed_pending, State.writeSpan_pending, apply_ite State.pending, ite_self]
@[simp] theorem State.rootCert_pending (s : State) (k : PartKey) (o : OpenStep) (x : OpenPart) : (State.rootCert s k o x).1.pending = s.pending := by
  (simp -implicitDefEqProofs only [State.rootCert]; (repeat' split) <;> (first | (with_reducible rfl) | simp -implicitDefEqProofs only [State.bump_pending, State.count_pending, State.setNoise_pending, State.onStep_pending, State.noiseFailed_pending, apply_ite State.pending, ite_self]))
@[simp] theorem State.certify_pending (s : State) (k : PartKey) (o : OpenStep) : (State.certify s k o).pending = s.pending := by
  simp -implicitDefEqProofs only [State.certify, State.bump_pending, State.count_pending, State.send_pending, State.setPartAt_pending, State.retain_pending, State.rootCert_pending, foldl_pending, foldlP_pending, implies_true, apply_ite State.pending, ite_self]
@[simp] theorem State.forwardPart_pending (s : State) (k : PartKey) (o : OpenStep) (t : Tree) (rank : Nat) : (State.forwardPart s k o t rank).pending = s.pending := by
  simp -implicitDefEqProofs only [State.forwardPart, State.bump_pending, State.count_pending, State.send_pending, State.setPartAt_pending, apply_ite State.pending, ite_self]
@[simp] theorem State.sendOn_pending (s : State) (k : PartKey) (o : OpenStep) (t : Tree) (rank : Nat) : (State.sendOn s k o t rank).pending = s.pending := by
  simp -implicitDefEqProofs only [State.sendOn, State.certify_pending, State.forwardPart_pending, apply_ite State.pending, ite_self]
@[simp] theorem State.sendOnWhole_pending (s : State) (k : PartKey) (o : OpenStep) (t : Tree) (rank : Nat) : (State.sendOnWhole s k o t rank).pending = s.pending := by
  simp -implicitDefEqProofs only [State.sendOnWhole, State.sendOn_pending, apply_ite State.pending, ite_self]
@[simp] theorem State.ownPart_pending (s : State) (k : PartKey) (o : OpenStep) (sums : List Int) (sat : Bool) (poison : Bool) : (State.ownPart s k o sums sat poison).pending = s.pending := by
  (simp -implicitDefEqProofs only [State.ownPart]; (repeat' split) <;> (first | (with_reducible rfl) | simp -implicitDefEqProofs only [State.setPartAt_pending, State.redCount_pending, State.sendOnWhole_pending, apply_ite State.pending, ite_self]))
@[simp] theorem State.contribute_pending (s : State) (q : Nat) (step : Nat) (desc : Nat) (tile : Nat) (qs : List Int) (sats : List Bool) (poison : Bool) : (State.contribute s q step desc tile qs sats poison).pending = s.pending := by
  (simp -implicitDefEqProofs only [State.contribute]; (repeat' split) <;> (first | (with_reducible rfl) | simp -implicitDefEqProofs only [State.ownPart_pending, foldl_pending, foldlP_pending, implies_true]))
@[simp] theorem State.takeSums_pending (s : State) (w : Nat) (n : Nat) (payload : List Byte) : (State.takeSums s w n payload).1.pending = s.pending := by
  simp -implicitDefEqProofs only [State.takeSums, State.setRed_pending, apply_ite State.pending, ite_self]
@[simp] theorem State.reduceIn_pending (s : State) (port : Nat) (q : Nat) (k : Packet) : (State.reduceIn s port q k).pending = s.pending := by
  (simp -implicitDefEqProofs only [State.reduceIn]; (repeat' split) <;> (first | (with_reducible rfl) | simp -implicitDefEqProofs only [State.bump_pending, State.setPartAt_pending, State.redCount_pending, State.sendOnWhole_pending, State.takeSums_pending, apply_ite State.pending, ite_self]))
@[simp] theorem State.certIn_pending (s : State) (port : Nat) (q : Nat) (k : Packet) : (State.certIn s port q k).pending = s.pending := by
  (simp -implicitDefEqProofs only [State.certIn]; (repeat' split) <;> (first | (with_reducible rfl) | simp -implicitDefEqProofs only [State.redCount_pending, State.retain_pending, State.takeSums_pending, apply_ite State.pending, ite_self]))
@[simp] theorem State.cutoff_pending (s : State) (q : Nat) (bucket : Nat) (step : Nat) (tile : Nat) (piece : Nat) (root : Bool) : (State.cutoff s q bucket step tile piece root).pending = s.pending := by
  (simp -implicitDefEqProofs only [State.cutoff]; (repeat' split) <;> (first | (with_reducible rfl) | simp -implicitDefEqProofs only [State.sendOn_pending, apply_ite State.pending, ite_self]))
theorem execLevelCutoff_pending (part : Bed) (bucket : Nat) (step : Nat) (tile : Nat) (piece : Nat) (s : State) : ∀ t, (execLevelCutoff part bucket step tile piece s) = .next t → t.pending = s.pending := by
  intro t ht; simp -implicitDefEqProofs only [execLevelCutoff] at ht; rw [← Host.Outcome.next.inj ht]; simp -implicitDefEqProofs only [State.cutoff_pending]
theorem execRootDeadline_pending (part : Bed) (bucket : Nat) (step : Nat) (tile : Nat) (piece : Nat) (s : State) : ∀ t, (execRootDeadline part bucket step tile piece s) = .next t → t.pending = s.pending := by
  intro t ht; simp -implicitDefEqProofs only [execRootDeadline] at ht; rw [← Host.Outcome.next.inj ht]; simp -implicitDefEqProofs only [State.cutoff_pending]
@[simp] theorem State.setNextExps_pending (s : State) (q : Nat) (bucket : Nat) (step : Nat) (ok : Bool) : (State.setNextExps s q bucket step ok).pending = s.pending := by
  (simp -implicitDefEqProofs only [State.setNextExps]; (repeat' split) <;> (first | (with_reducible rfl) | simp -implicitDefEqProofs only [State.put_pending, State.setRed_pending, foldl_pending, foldlP_pending, implies_true]))
@[simp] theorem State.settle_pending (s : State) (q : Nat) (bucket : Nat) (step : Nat) (ok : Bool) : (State.settle s q bucket step ok).pending = s.pending := by
  (simp -implicitDefEqProofs only [State.settle]; (repeat' split) <;> (first | (with_reducible rfl) | simp -implicitDefEqProofs only [State.put_pending, State.bump_pending, State.record_pending, State.evt_pending, State.setRed_pending, State.onStep_pending, State.setNextExps_pending, apply_ite State.pending, ite_self]))
@[simp] theorem State.drawBytes_pending (s : State) (n : Nat) : (State.drawBytes s n).2.pending = s.pending := by
  simp -implicitDefEqProofs only [State.drawBytes]
@[simp] theorem State.seqNow_pending (s : State) (p : Nat) : (State.seqNow s p).pending = s.pending := by
  simp -implicitDefEqProofs only [State.seqNow, State.put_pending, State.setFab_pending]
@[simp] theorem State.sendKa_pending (s : State) (p : Nat) (dest : Nat) (code : Nat) (body : List Byte) : (State.sendKa s p dest code body).pending = s.pending := by
  simp -implicitDefEqProofs only [State.sendKa, State.send_pending]
@[simp] theorem State.installLink_pending (s : State) (p : Nat) (gk : List Byte) : (State.installLink s p gk).pending = s.pending := by
  (simp -implicitDefEqProofs only [State.installLink]; (repeat' split) <;> (first | (with_reducible rfl) | simp -implicitDefEqProofs only [State.put_pending, State.setSession_pending, State.seqNow_pending, apply_ite State.pending, ite_self]))
@[simp] theorem State.encPorts_pending (s : State) (p : Nat) : (State.encPorts s p).pending = s.pending := by
  simp -implicitDefEqProofs only [State.encPorts, State.put_pending, foldl_pending, foldlP_pending, implies_true]
@[simp] theorem State.kaFail_pending (s : State) (p : Nat) (peer : Nat) : (State.kaFail s p peer).pending = s.pending := by
  simp -implicitDefEqProofs only [State.kaFail, State.raise_pending, State.sendKa_pending]
@[simp] theorem State.sendSigned_pending (s : State) (p : Nat) (src : Nat) : (State.sendSigned s p src).pending = s.pending := by
  (simp -implicitDefEqProofs only [State.sendSigned]; (repeat' split) <;> (first | (with_reducible rfl) | simp -implicitDefEqProofs only [State.sendKa_pending]))
@[simp] theorem State.notePeer_pending (s : State) (p : Nat) (src : Nat) (key : List Byte) : (State.notePeer s p src key).pending = s.pending := by
  simp -implicitDefEqProofs only [State.notePeer, State.put_pending, State.setSession_pending]
@[simp] theorem State.takeEarly_pending (s : State) (p : Nat) : (State.takeEarly s p).pending = s.pending := by
  simp -implicitDefEqProofs only [State.takeEarly, State.kaFail_pending, State.notePeer_pending, foldl_pending, foldlP_pending, implies_true, apply_ite State.pending, ite_self]
@[simp] theorem State.startKeying_pending (s : State) (p : Nat) : (State.startKeying s p).pending = s.pending := by
  simp -implicitDefEqProofs only [State.startKeying, State.setSession_pending, State.drawBytes_pending, State.sendKa_pending, State.installLink_pending, State.encPorts_pending, State.sendSigned_pending, State.takeEarly_pending, foldl_pending, foldlP_pending, implies_true, apply_ite State.pending, ite_self]
@[simp] theorem State.tryKey_pending (s : State) (p : Nat) : (State.tryKey s p).pending = s.pending := by
  (simp -implicitDefEqProofs only [State.tryKey]; (repeat' split) <;> (first | (with_reducible rfl) | simp -implicitDefEqProofs only [State.installLink_pending, State.encPorts_pending, State.startKeying_pending, apply_ite State.pending, ite_self]))
@[simp] theorem State.kaKeyIn_pending (s : State) (p : Nat) (src : Nat) (key : List Byte) : (State.kaKeyIn s p src key).pending = s.pending := by
  simp -implicitDefEqProofs only [State.kaKeyIn, State.sendSigned_pending, State.notePeer_pending, apply_ite State.pending, ite_self]
@[simp] theorem State.kaSignedIn_pending (s : State) (p : Nat) (src : Nat) (key : List Byte) (sig : List Byte) (hash : List Byte) : (State.kaSignedIn s p src key sig hash).pending = s.pending := by
  rw [State.kaSignedIn.eq_def]
  split
  · rfl
  · split
    · simp -implicitDefEqProofs only [State.setSession_pending, State.sendKa_pending]
    · simp -implicitDefEqProofs only [State.kaFail_pending]
@[simp] theorem State.kaProofIn_pending (s : State) (p : Nat) (src : Nat) (sig : List Byte) (hash : List Byte) : (State.kaProofIn s p src sig hash).pending = s.pending := by
  rw [State.kaProofIn.eq_def]
  split
  · split
    · simp -implicitDefEqProofs only [apply_ite State.pending, State.encPorts_pending, State.setSession_pending, State.sendKa_pending, ite_self]
    · simp -implicitDefEqProofs only [State.kaFail_pending]
  · rfl
@[simp] theorem State.kaGroupIn_pending (s : State) (p : Nat) (src : Nat) (sealed : List Byte) : (State.kaGroupIn s p src sealed).pending = s.pending := by
  (simp -implicitDefEqProofs only [State.kaGroupIn]; (repeat' split) <;> (first | (with_reducible rfl) | simp -implicitDefEqProofs only [State.installLink_pending, State.encPorts_pending, State.kaFail_pending, apply_ite State.pending, ite_self]))
@[simp] theorem State.keyMessage_pending (s : State) (p : Nat) (src : Nat) (code : Nat) (body : List Byte) : (State.keyMessage s p src code body).pending = s.pending := by
  (simp -implicitDefEqProofs only [State.keyMessage]; (repeat' split) <;> (first | (with_reducible rfl) | simp -implicitDefEqProofs only [State.put_pending, State.raise_pending, State.kaFail_pending, State.kaKeyIn_pending, State.kaSignedIn_pending, State.kaProofIn_pending, State.kaGroupIn_pending, implies_true, apply_ite State.pending, ite_self]))
@[simp] theorem State.keyAnew_pending (s : State) (p : Nat) : (State.keyAnew s p).pending = s.pending := by
  (simp -implicitDefEqProofs only [State.keyAnew]; (repeat' split) <;> (first | (with_reducible rfl) | simp -implicitDefEqProofs only [State.put_pending, State.setSession_pending, State.tryKey_pending, apply_ite State.pending, ite_self]))
@[simp] theorem State.setTimeRef_pending (s : State) (q : Nat) : (State.setTimeRef s q).pending = s.pending := by
  simp -implicitDefEqProofs only [State.setTimeRef, State.put_pending, State.setAligned_pending, apply_ite State.pending, ite_self]
@[simp] theorem State.askTime_pending (s : State) (q : Nat) : (State.askTime s q).pending = s.pending := by
  (simp -implicitDefEqProofs only [State.askTime]; (repeat' split) <;> (first | (with_reducible rfl) | simp -implicitDefEqProofs only [State.queueOn_pending, State.tryKey_pending, State.setTimeRef_pending, apply_ite State.pending, ite_self]))
@[simp] theorem State.sendVote_pending (s : State) (k : VoteKey) (v : Vote) (ty : Nat) (dest : Nat) (x : VoteSum) : (State.sendVote s k v ty dest x).pending = s.pending := by
  simp -implicitDefEqProofs only [State.sendVote, State.send_pending]
@[simp] theorem State.setVote_pending (s : State) (k : VoteKey) (v : Vote) : (State.setVote s k v).pending = s.pending := by
  simp -implicitDefEqProofs only [State.setVote, State.put_pending, State.setRed_pending]
@[simp] theorem State.openVote_pending (s : State) (b : Ballot) (piece : Nat) (elems : List Int) : (State.openVote s b piece elems).pending = s.pending := by
  (simp -implicitDefEqProofs only [State.openVote]; (repeat' split) <;> (first | (with_reducible rfl) | simp -implicitDefEqProofs only [State.sendVote_pending, State.setVote_pending, foldl_pending, foldlP_pending, implies_true, apply_ite State.pending, ite_self]))
@[simp] theorem State.openParts_pending (s : State) (b : Ballot) (elems : List Int) : (State.openParts s b elems).pending = s.pending := by
  simp -implicitDefEqProofs only [State.openParts, State.openVote_pending, foldl_pending, foldlP_pending, implies_true]
@[simp] theorem State.openRunVotes_pending (s : State) (q : Nat) (v : Nat) : (State.openRunVotes s q v).pending = s.pending := by
  simp -implicitDefEqProofs only [State.openRunVotes, State.openParts_pending, apply_ite State.pending, ite_self]
@[simp] theorem State.openCloseVotes_pending (s : State) (q : Nat) (v : Nat) : (State.openCloseVotes s q v).pending = s.pending := by
  simp -implicitDefEqProofs only [State.openCloseVotes, State.openParts_pending, foldl_pending, foldlP_pending, implies_true, apply_ite State.pending, ite_self]
@[simp] theorem State.openActivationVote_pending (s : State) (q : Nat) (v : Nat) : (State.openActivationVote s q v).pending = s.pending := by
  (simp -implicitDefEqProofs only [State.openActivationVote]; (repeat' split) <;> (first | (with_reducible rfl) | simp -implicitDefEqProofs only [State.openParts_pending, apply_ite State.pending, ite_self]))
@[simp] theorem State.openGraftVote_pending (s : State) (q : Nat) (v : Nat) : (State.openGraftVote s q v).pending = s.pending := by
  simp -implicitDefEqProofs only [State.openGraftVote, State.openParts_pending, foldl_pending, foldlP_pending, implies_true, apply_ite State.pending, ite_self]
@[simp] theorem State.openVotes_pending (s : State) (q : Nat) (v : Nat) : (State.openVotes s q v).pending = s.pending := by
  simp -implicitDefEqProofs only [State.openVotes, State.setRed_pending, State.openRunVotes_pending, State.openCloseVotes_pending, State.openActivationVote_pending, State.openGraftVote_pending, apply_ite State.pending, ite_self]
@[simp] theorem State.voteAct_pending (s : State) (k : VoteKey) (v : Vote) (res : List Nat) (slot : Nat) : (State.voteAct s k v res slot).pending = s.pending := by
  (simp -implicitDefEqProofs only [State.voteAct]; (repeat' split) <;> (first | (with_reducible rfl) | simp -implicitDefEqProofs only [State.sendVote_pending, State.setVote_pending, foldl_pending, foldlP_pending, implies_true, apply_ite State.pending, ite_self]))
@[simp] theorem State.voteSlot_pending (s : State) (p : Nat) (slot : Nat) : (State.voteSlot s p slot).pending = s.pending := by
  simp -implicitDefEqProofs only [State.voteSlot, State.voteAct_pending, foldl_pending, foldlP_pending, implies_true, apply_ite State.pending, ite_self]
@[simp] theorem State.slotZero_pending (s : State) (p : Nat) : (State.slotZero s p).pending = s.pending := by
  simp -implicitDefEqProofs only [State.slotZero, State.sendBeat_pending, State.askTime_pending, apply_ite State.pending, ite_self]
@[simp] theorem State.slotOther_pending (s : State) (p : Nat) (slot : Nat) : (State.slotOther s p slot).pending = s.pending := by
  (simp -implicitDefEqProofs only [State.slotOther]; (repeat' split) <;> (first | (with_reducible rfl) | simp -implicitDefEqProofs only [State.put_pending, State.bump_pending, State.setFab_pending, State.transmit_pending, State.sendPicked_pending, State.voteSlot_pending]))
theorem execSlotSend_pending (port : Port) (slot : Nat) (s : State) : ∀ t, (execSlotSend port slot s) = .next t → t.pending = s.pending := by
  intro t ht; simp -implicitDefEqProofs only [execSlotSend] at ht; rw [← Host.Outcome.next.inj ht]; simp -implicitDefEqProofs only [State.sendBeat_pending, State.slotZero_pending, State.slotOther_pending, apply_ite State.pending, ite_self]
@[simp] theorem State.voteInput_pending (s : State) (v : Vote) (k : Packet) : (State.voteInput s v k).1.pending = s.pending := by
  simp -implicitDefEqProofs only [State.voteInput, State.takeSums_pending]
@[simp] theorem State.voteIn_pending (s : State) (port : Nat) (q : Nat) (k : Packet) : (State.voteIn s port q k).pending = s.pending := by
  (simp -implicitDefEqProofs only [State.voteIn]; (repeat' split) <;> (first | (with_reducible rfl) | simp -implicitDefEqProofs only [State.bump_pending, State.redCount_pending, State.setVote_pending, State.voteInput_pending, apply_ite State.pending, ite_self]))
@[simp] theorem State.voteFail_pending (s : State) (q : Nat) : (State.voteFail s q).pending = s.pending := by
  simp -implicitDefEqProofs only [State.voteFail, State.bump_pending, State.record_pending, State.evt_pending, State.leaveGroup_pending, State.enterHold_pending]
@[simp] theorem State.voteCertIn_pending (s : State) (port : Nat) (q : Nat) (k : Packet) : (State.voteCertIn s port q k).pending = s.pending := by
  (simp -implicitDefEqProofs only [State.voteCertIn]; (repeat' split) <;> (first | (with_reducible rfl) | simp -implicitDefEqProofs only [State.redCount_pending, State.setVote_pending, State.voteInput_pending, State.voteFail_pending, apply_ite State.pending, ite_self]))
theorem execReduceReceive_pending (port : Port) (packet : Packet) (s : State) : ∀ t, (execReduceReceive port packet s) = .next t → t.pending = s.pending := by
  intro t ht; simp -implicitDefEqProofs only [execReduceReceive] at ht; (refine State.consume_pending _ _ _ _ _ ?_ _ ht) <;> (intros; simp -implicitDefEqProofs only [State.reduceIn_pending, State.voteIn_pending, apply_ite State.pending, ite_self])
theorem execCertReceive_pending (port : Port) (packet : Packet) (s : State) : ∀ t, (execCertReceive port packet s) = .next t → t.pending = s.pending := by
  intro t ht; simp -implicitDefEqProofs only [execCertReceive] at ht; (refine State.consume_pending _ _ _ _ _ ?_ _ ht) <;> (intros; simp -implicitDefEqProofs only [State.certIn_pending, State.voteCertIn_pending, apply_ite State.pending, ite_self])
@[simp] theorem State.actPrecision_pending (s : State) (q : Nat) (step : Nat) (l : List Int) : (State.actPrecision s q step l).pending = s.pending := by
  simp -implicitDefEqProofs only [State.actPrecision, State.setPart_pending]
@[simp] theorem State.actLoss_pending (s : State) (q : Nat) (v : Nat) (l : List Int) : (State.actLoss s q v l).pending = s.pending := by
  simp -implicitDefEqProofs only [State.actLoss, State.setPart_pending, State.record_pending, State.openStep_pending, State.leaveGroup_pending, State.enterHold_pending, State.setRed_pending, apply_ite State.pending, ite_self]
@[simp] theorem State.refuseSwitch_pending (s : State) (b : Nat) : (State.refuseSwitch s b).pending = s.pending := by
  (simp -implicitDefEqProofs only [State.refuseSwitch]; (repeat' split) <;> (first | (with_reducible rfl) | simp -implicitDefEqProofs only [State.evt_pending, State.setSeq_pending, State.dropPending_pending, apply_ite State.pending, ite_self]))
@[simp] theorem State.actActivation_pending (s : State) (q : Nat) (c : VoteSum) : (State.actActivation s q c).pending = s.pending := by
  (simp -implicitDefEqProofs only [State.actActivation]; (repeat' split) <;> (first | (with_reducible rfl) | (simp -implicitDefEqProofs [-List.foldl_cons, -List.foldl_nil, foldl_pending, foldlP_pending]; done) | (simp -implicitDefEqProofs (disch := (intros; (repeat' split) <;> try simp -implicitDefEqProofs [-List.foldl_cons, -List.foldl_nil, foldl_pending, foldlP_pending])) [-List.foldl_cons, -List.foldl_nil, foldl_pending, foldlP_pending]; done)))
@[simp] theorem State.releaseGrads_pending (s : State) (q : Nat) (step : Nat) : (State.releaseGrads s q step).pending = s.pending := by
  (simp -implicitDefEqProofs only [State.releaseGrads]; (repeat' split) <;> (first | (simp -implicitDefEqProofs [-List.foldl_cons, -List.foldl_nil, foldl_pending, foldlP_pending, apply_ite State.pending]; done) | (simp -implicitDefEqProofs (disch := (intros; (repeat' split) <;> try simp -implicitDefEqProofs (disch := (intros; (repeat' split) <;> try simp -implicitDefEqProofs [-List.foldl_cons, -List.foldl_nil, foldl_pending, foldlP_pending, apply_ite State.pending])) [-List.foldl_cons, -List.foldl_nil, foldl_pending, foldlP_pending, apply_ite State.pending])) [-List.foldl_cons, -List.foldl_nil, foldl_pending, foldlP_pending, apply_ite State.pending]; done)))
@[simp] theorem State.actCommit_pending (s : State) (q : Nat) (step : Nat) (sum : Int) : (State.actCommit s q step sum).pending = s.pending := by
  simp -implicitDefEqProofs only [State.actCommit, State.setPart_pending, State.releaseGrads_pending, foldl_pending, foldlP_pending, implies_true, apply_ite State.pending, ite_self]
@[simp] theorem State.actGraft_pending (s : State) (q : Nat) (v : Nat) (step : Nat) (count : Nat) : (State.actGraft s q v step count).pending = s.pending := by
  (simp -implicitDefEqProofs only [State.actGraft]; (repeat' split) <;> (first | (with_reducible rfl) | simp -implicitDefEqProofs only [State.setPart_pending, State.raise_pending, apply_ite State.pending, ite_self]))
@[simp] theorem State.actClose_pending (s : State) (q : Nat) (l : List (Nat × Nat)) (c : VoteSum) : (State.actClose s q l c).pending = s.pending := by
  simp -implicitDefEqProofs only [State.actClose, State.count_pending, State.settle_pending, foldl_pending, foldlP_pending, implies_true]
@[simp] theorem State.actVote_pending (s : State) (q : Nat) (code : Nat) (v : Nat) (step : Nat) (about : List (Nat × Nat)) (c : VoteSum) : (State.actVote s q code v step about c).pending = s.pending := by
  simp -implicitDefEqProofs only [State.actVote, State.count_pending, State.actPrecision_pending, State.actLoss_pending, State.actActivation_pending, State.actCommit_pending, State.actGraft_pending, State.actClose_pending, apply_ite State.pending, ite_self]
@[simp] theorem State.noCert_pending (s : State) (q : Nat) (code : Nat) (v : Nat) (step : Nat) : (State.noCert s q code v step).pending = s.pending := by
  simp -implicitDefEqProofs only [State.noCert, State.voteFail_pending, State.actGraft_pending, apply_ite State.pending, ite_self]
@[simp] theorem State.closeVote_pending (s : State) (q : Nat) (code : Nat) (frame : Nat) (step : Nat) : (State.closeVote s q code frame step).pending = s.pending := by
  (simp -implicitDefEqProofs only [State.closeVote]; (repeat' split) <;> (first | (with_reducible rfl) | simp -implicitDefEqProofs only [State.bump_pending, State.count_pending, State.setVote_pending, State.actVote_pending, State.noCert_pending, foldl_pending, foldlP_pending, implies_true, apply_ite State.pending, ite_self]))
@[simp] theorem State.actVotes_pending (s : State) (q : Nat) (n : Nat) : (State.actVotes s q n).pending = s.pending := by
  simp -implicitDefEqProofs only [State.actVotes, State.closeVote_pending, foldl_pending, foldlP_pending, implies_true]
@[simp] theorem State.nextEntry_pending (b : Nat) (c : Nat) (e : Nat) (z0 : List Issue) (z1 : Nat) (z2 : State) : (State.nextEntry b c e z0 z1 z2).1.pending = z2.pending := by
  induction z0 generalizing z1 z2 with
  | nil => simp -implicitDefEqProofs [State.nextEntry]
  | cons i t ih =>
    simp -implicitDefEqProofs only [State.nextEntry]
    split
    · exact ih _ _
    · split
      · rw [ih]; simp -implicitDefEqProofs
      · simp -implicitDefEqProofs
@[simp] theorem State.slip_pending (s : State) (n : Nat) (d : Nat) : (State.slip s n d).pending = s.pending := by
  simp -implicitDefEqProofs only [State.slip, State.put_pending, State.bump_pending, apply_ite State.pending, ite_self]
@[simp] theorem State.started_pending (s : State) (b : Nat) (c : Nat) (e : Nat) (i : Issue) (k : Nat) (at_ : Nat) (len : Nat) : (State.started s b c e i k at_ len).pending = s.pending := by
  simp -implicitDefEqProofs only [State.started, State.put_pending, State.bump_pending, State.setCores_pending, State.slip_pending]
@[simp] theorem State.dueEntry_pending (s : State) (b : Nat) (c : Nat) (e : Nat) (ready : Nat) : (State.dueEntry s b c e ready).1.pending = s.pending := by
  (simp -implicitDefEqProofs only [State.dueEntry]; (repeat' split) <;> (first | (with_reducible rfl) | simp -implicitDefEqProofs only [State.nextEntry_pending, apply_ite State.pending, ite_self]))
@[simp] theorem State.putPos_pending (s : State) (n : Nat) (slot : Nat) (j : Nat) (p : Pos) : (State.putPos s n slot j p).pending = s.pending := by
  simp -implicitDefEqProofs only [State.putPos, State.localPut_pending]
@[simp] theorem State.operandFaults_pending (s : State) (b : Nat) (c : Nat) (o : Operand) : (State.operandFaults s b c o).pending = s.pending := by
  simp -implicitDefEqProofs only [State.operandFaults, State.tileFaulted_pending, foldl_pending, foldlP_pending, implies_true]
@[simp] theorem State.openSlots_pending (s : State) (n : Nat) (ctx : Nat) (m : MatBlk) (o : Desc) : (State.openSlots s n ctx m o).pending = s.pending := by
  simp -implicitDefEqProofs only [State.openSlots, State.setSlot_pending, State.taint_pending, foldl_pending, foldlP_pending, implies_true, apply_ite State.pending, ite_self]
@[simp] theorem State.countSats_pending (s : State) (n : Nat) (k : Nat) : (State.countSats s n k).pending = s.pending := by
  simp -implicitDefEqProofs only [State.countSats, State.put_pending, State.setCores_pending, apply_ite State.pending, ite_self]
@[simp] theorem State.putAll_pending (s : State) (b : Nat) (c : Nat) (e : Nat) (i : Issue) (k : Nat) (m : MatBlk) (p : MatProd) (count : Nat) (ends : List Nat) (start : Nat) (l : List ((Nat × Nat) × Nat × Nat × Pos)) : (State.putAll s b c e i k m p count ends start l).pending = s.pending := by
  (simp -implicitDefEqProofs only [State.putAll]; (repeat' split) <;> (first | (with_reducible rfl) | simp -implicitDefEqProofs only [State.raiseFlags_pending, State.captureNf_pending, State.putPos_pending, State.countSats_pending, foldl_pending, foldlP_pending, implies_true]))
@[simp] theorem State.matrixRun_pending (s : State) (b : Nat) (c : Nat) (e : Nat) (i : Issue) (k : Nat) (at_ : Nat) (m : MatBlk) : (State.matrixRun s b c e i k at_ m).pending = s.pending := by
  simp -implicitDefEqProofs only [State.matrixRun, State.bump_pending, State.setSlot_pending, State.count_pending, State.operandFaults_pending, State.openSlots_pending, State.putAll_pending]
@[simp] theorem State.countSamples_pending (s : State) (b : Nat) (n : Nat) : (State.countSamples s b n).pending = s.pending := by
  (simp -implicitDefEqProofs only [State.countSamples]; (repeat' split) <;> (first | (with_reducible rfl) | simp -implicitDefEqProofs only [State.put_pending, State.openStep_pending]))
@[simp] theorem State.normEntry_pending (s : State) (b : Nat) (c : Nat) (e : Nat) (iss : Issue) (k : Nat) (cycle : Nat) (m : MatBlk) (j : Nat) (bad : Bool) (sums : List (List Nat)) : (State.normEntry s b c e iss k cycle m j bad sums).pending = s.pending := by
  simp -implicitDefEqProofs only [State.normEntry, State.localPut_pending, State.result_pending, apply_ite State.pending, ite_self]
theorem State.gramPut_pending (s u : State) (b c e : Nat) (iss : Issue) (k : Nat) (m : MatBlk) (i start : Nat) :
    (s.gramPut u b c e iss k m i start).1.pending = u.pending := by
  unfold State.gramPut
  dsimp only
  rw [foldlP_pending _ (fun u c a => by simp -implicitDefEqProofs only [State.putAll_pending])]
@[simp] theorem State.normRun_pending (s : State) (b : Nat) (c : Nat) (e : Nat) (i : Issue) (k : Nat) (at_ : Nat) (m : MatBlk) : (State.normRun s b c e i k at_ m).pending = s.pending := by
  simp -implicitDefEqProofs only [State.normRun, State.bump_pending, State.setSlot_pending]
  rw [foldlP_pending _ (fun u c a => by simp -implicitDefEqProofs only [State.normEntry_pending, State.gramPut_pending])]
  simp -implicitDefEqProofs only [State.openSlots_pending, State.countSamples_pending, foldl_pending, State.operandFaults_pending, implies_true]
theorem execMatrixInstructionBlock_pending (bed : Bed) (core : Core) (engine : Fin 3) (ready : Nat) (s : State) : ∀ t, (execMatrixInstructionBlock bed core engine ready s) = .next t → t.pending = s.pending := by
  intro t ht
  simp -implicitDefEqProofs only [execMatrixInstructionBlock] at ht
  split at ht
  · rename_i heq
    have h0 := congrArg (fun q => State.pending q.1) heq
    simp only [State.dueEntry_pending] at h0
    cases ht; exact h0.symm
  · rename_i heq
    have h0 := congrArg (fun q => State.pending q.1) heq
    simp only [State.dueEntry_pending] at h0
    cases ht
    simp -implicitDefEqProofs only [State.setCores_pending, State.result_pending, apply_ite State.pending, State.normRun_pending, State.matrixRun_pending, State.started_pending, ite_self, h0]
@[simp] theorem State.endSpill_pending (s : State) (b : Nat) (c : Nat) (e : Nat) (r : Running) (m : MatBlk) : (State.endSpill s b c e r m).pending = s.pending := by
  simp -implicitDefEqProofs only [State.endSpill, State.setSlot_pending, State.count_pending, State.result_pending, State.putPos_pending, foldl_pending, foldlP_pending, implies_true, apply_ite State.pending, ite_self]
theorem execMatrixBlockEnd_pending (bed : Bed) (core : Core) (engine : Fin 3) (s : State) : ∀ t, (execMatrixBlockEnd bed core engine s) = .next t → t.pending = s.pending := by
  intro t ht; simp -implicitDefEqProofs only [execMatrixBlockEnd] at ht; (repeat' split at ht) <;> (first | (rw [← Host.Outcome.next.inj ht]; done) | (rw [← Host.Outcome.next.inj ht]; simp -implicitDefEqProofs only [State.put_pending, State.setCores_pending, State.release_pending, State.endSpill_pending, apply_ite State.pending, ite_self]; done))
@[simp] theorem State.setVreg_pending (s : State) (n : Nat) (r : Nat) (l : Nat) (v : W32) : (State.setVreg s n r l v).pending = s.pending := by
  simp -implicitDefEqProofs only [State.setVreg, State.put_pending, State.setCores_pending]
@[simp] theorem State.laneOut_pending (s : State) (w : VWhere) (i : VArgs) (source : Nat) (l : Nat) (r : LaneResult) : (State.laneOut s w i source l r).pending = s.pending := by
  simp -implicitDefEqProofs only [State.laneOut, State.result_pending, State.setVreg_pending]
theorem State.vectorOp_pending (s : State) (w : VWhere) (i : VArgs) (f : Nat → Nat → Nat → LaneResult) : ∀ t, (State.vectorOp s w i f) = .next t → t.pending = s.pending := by
  intro t ht; simp -implicitDefEqProofs only [State.vectorOp] at ht; (repeat' split at ht) <;> (first | (rw [← Host.Outcome.next.inj ht]; done) | (rw [← Host.Outcome.next.inj ht]; simp -implicitDefEqProofs only [State.laneOut_pending, foldl_pending, foldlP_pending, implies_true, apply_ite State.pending, ite_self]; done) | (cases ht; done))
@[simp] theorem State.vecLoad_pending (s : State) (w : VWhere) (i : VArgs) : (State.vecLoad s w i).pending = s.pending := by
  simp -implicitDefEqProofs only [State.vecLoad, State.tileFaulted_pending, State.laneOut_pending, foldl_pending, foldlP_pending, implies_true]
@[simp] theorem State.vecStore_pending (s : State) (w : VWhere) (i : VArgs) : (State.vecStore s w i).pending = s.pending := by
  simp -implicitDefEqProofs only [State.vecStore, State.put_pending, State.setCores_pending, foldl_pending, foldlP_pending, implies_true, apply_ite State.pending, ite_self]
theorem execVAdd_pending (w : VWhere) (i : VArgs) (s : State) : ∀ t, (execVAdd w i s) = .next t → t.pending = s.pending := by
  intro t ht; simp -implicitDefEqProofs only [execVAdd] at ht; exact State.vectorOp_pending _ _ _ _ _ ht
theorem execVSub_pending (w : VWhere) (i : VArgs) (s : State) : ∀ t, (execVSub w i s) = .next t → t.pending = s.pending := by
  intro t ht; simp -implicitDefEqProofs only [execVSub] at ht; exact State.vectorOp_pending _ _ _ _ _ ht
theorem execVMul_pending (w : VWhere) (i : VArgs) (s : State) : ∀ t, (execVMul w i s) = .next t → t.pending = s.pending := by
  intro t ht; simp -implicitDefEqProofs only [execVMul] at ht; exact State.vectorOp_pending _ _ _ _ _ ht
theorem execVFma_pending (w : VWhere) (i : VArgs) (s : State) : ∀ t, (execVFma w i s) = .next t → t.pending = s.pending := by
  intro t ht; simp -implicitDefEqProofs only [execVFma] at ht; exact State.vectorOp_pending _ _ _ _ _ ht
theorem execVMin_pending (w : VWhere) (i : VArgs) (s : State) : ∀ t, (execVMin w i s) = .next t → t.pending = s.pending := by
  intro t ht; simp -implicitDefEqProofs only [execVMin] at ht; exact State.vectorOp_pending _ _ _ _ _ ht
theorem execVMax_pending (w : VWhere) (i : VArgs) (s : State) : ∀ t, (execVMax w i s) = .next t → t.pending = s.pending := by
  intro t ht; simp -implicitDefEqProofs only [execVMax] at ht; exact State.vectorOp_pending _ _ _ _ _ ht
theorem execVAbs_pending (w : VWhere) (i : VArgs) (s : State) : ∀ t, (execVAbs w i s) = .next t → t.pending = s.pending := by
  intro t ht; simp -implicitDefEqProofs only [execVAbs] at ht; exact State.vectorOp_pending _ _ _ _ _ ht
theorem execVNeg_pending (w : VWhere) (i : VArgs) (s : State) : ∀ t, (execVNeg w i s) = .next t → t.pending = s.pending := by
  intro t ht; simp -implicitDefEqProofs only [execVNeg] at ht; exact State.vectorOp_pending _ _ _ _ _ ht
theorem execVCmplt_pending (w : VWhere) (i : VArgs) (s : State) : ∀ t, (execVCmplt w i s) = .next t → t.pending = s.pending := by
  intro t ht; simp -implicitDefEqProofs only [execVCmplt] at ht; exact State.vectorOp_pending _ _ _ _ _ ht
theorem execVCmpeq_pending (w : VWhere) (i : VArgs) (s : State) : ∀ t, (execVCmpeq w i s) = .next t → t.pending = s.pending := by
  intro t ht; simp -implicitDefEqProofs only [execVCmpeq] at ht; exact State.vectorOp_pending _ _ _ _ _ ht
theorem execVSel_pending (w : VWhere) (i : VArgs) (s : State) : ∀ t, (execVSel w i s) = .next t → t.pending = s.pending := by
  intro t ht; simp -implicitDefEqProofs only [execVSel] at ht; exact State.vectorOp_pending _ _ _ _ _ ht
theorem execVSqrt_pending (w : VWhere) (i : VArgs) (s : State) : ∀ t, (execVSqrt w i s) = .next t → t.pending = s.pending := by
  intro t ht; simp -implicitDefEqProofs only [execVSqrt] at ht; exact State.vectorOp_pending _ _ _ _ _ ht
theorem execVRcp_pending (w : VWhere) (i : VArgs) (s : State) : ∀ t, (execVRcp w i s) = .next t → t.pending = s.pending := by
  intro t ht; simp -implicitDefEqProofs only [execVRcp] at ht; exact State.vectorOp_pending _ _ _ _ _ ht
theorem execVRsqrt_pending (w : VWhere) (i : VArgs) (s : State) : ∀ t, (execVRsqrt w i s) = .next t → t.pending = s.pending := by
  intro t ht; simp -implicitDefEqProofs only [execVRsqrt] at ht; exact State.vectorOp_pending _ _ _ _ _ ht
theorem execVExp2_pending (w : VWhere) (i : VArgs) (s : State) : ∀ t, (execVExp2 w i s) = .next t → t.pending = s.pending := by
  intro t ht; simp -implicitDefEqProofs only [execVExp2] at ht; exact State.vectorOp_pending _ _ _ _ _ ht
theorem execVLog2_pending (w : VWhere) (i : VArgs) (s : State) : ∀ t, (execVLog2 w i s) = .next t → t.pending = s.pending := by
  intro t ht; simp -implicitDefEqProofs only [execVLog2] at ht; exact State.vectorOp_pending _ _ _ _ _ ht
theorem execVCvtInt32_pending (w : VWhere) (i : VArgs) (s : State) : ∀ t, (execVCvtInt32 w i s) = .next t → t.pending = s.pending := by
  intro t ht; simp -implicitDefEqProofs only [execVCvtInt32] at ht; exact State.vectorOp_pending _ _ _ _ _ ht
theorem execVCvtBf16_pending (w : VWhere) (i : VArgs) (s : State) : ∀ t, (execVCvtBf16 w i s) = .next t → t.pending = s.pending := by
  intro t ht; simp -implicitDefEqProofs only [execVCvtBf16] at ht; exact State.vectorOp_pending _ _ _ _ _ ht
theorem execVIadd_pending (w : VWhere) (i : VArgs) (s : State) : ∀ t, (execVIadd w i s) = .next t → t.pending = s.pending := by
  intro t ht; simp -implicitDefEqProofs only [execVIadd] at ht; exact State.vectorOp_pending _ _ _ _ _ ht
theorem execVAnd_pending (w : VWhere) (i : VArgs) (s : State) : ∀ t, (execVAnd w i s) = .next t → t.pending = s.pending := by
  intro t ht; simp -implicitDefEqProofs only [execVAnd] at ht; exact State.vectorOp_pending _ _ _ _ _ ht
theorem execVOr_pending (w : VWhere) (i : VArgs) (s : State) : ∀ t, (execVOr w i s) = .next t → t.pending = s.pending := by
  intro t ht; simp -implicitDefEqProofs only [execVOr] at ht; exact State.vectorOp_pending _ _ _ _ _ ht
theorem execVXor_pending (w : VWhere) (i : VArgs) (s : State) : ∀ t, (execVXor w i s) = .next t → t.pending = s.pending := by
  intro t ht; simp -implicitDefEqProofs only [execVXor] at ht; exact State.vectorOp_pending _ _ _ _ _ ht
theorem execVShl_pending (w : VWhere) (i : VArgs) (s : State) : ∀ t, (execVShl w i s) = .next t → t.pending = s.pending := by
  intro t ht; simp -implicitDefEqProofs only [execVShl] at ht; exact State.vectorOp_pending _ _ _ _ _ ht
theorem execVShr_pending (w : VWhere) (i : VArgs) (s : State) : ∀ t, (execVShr w i s) = .next t → t.pending = s.pending := by
  intro t ht; simp -implicitDefEqProofs only [execVShr] at ht; exact State.vectorOp_pending _ _ _ _ _ ht
theorem execVectorLoad_pending (w : VWhere) (i : VArgs) (s : State) : ∀ t, (execVectorLoad w i s) = .next t → t.pending = s.pending := by
  intro t ht; simp -implicitDefEqProofs only [execVectorLoad] at ht; (repeat' split at ht) <;> (first | (rw [← Host.Outcome.next.inj ht]; done) | (rw [← Host.Outcome.next.inj ht]; simp -implicitDefEqProofs only [State.vecLoad_pending, apply_ite State.pending, ite_self]; done) | (cases ht; done))
theorem execVectorStore_pending (w : VWhere) (i : VArgs) (s : State) : ∀ t, (execVectorStore w i s) = .next t → t.pending = s.pending := by
  intro t ht; simp -implicitDefEqProofs only [execVectorStore] at ht; (repeat' split at ht) <;> (first | (rw [← Host.Outcome.next.inj ht]; done) | (rw [← Host.Outcome.next.inj ht]; simp -implicitDefEqProofs only [State.vecStore_pending, apply_ite State.pending, ite_self]; done) | (cases ht; done))
/-- Every instruction's meaning that vecExec gives keeps it. -/
theorem vecExec_pending (op : Nat) (f) (hf : vecExec op = some f) (w : VWhere) (i : VArgs) (s t : State) (h : f w i s = .next t) : t.pending = s.pending := by
  unfold vecExec at hf
  by_cases h1 : op = 1
  · rw [if_pos h1] at hf; injection hf with hf; subst hf; exact execVAdd_pending _ _ _ _ h
  rw [if_neg h1] at hf
  by_cases h2 : op = 2
  · rw [if_pos h2] at hf; injection hf with hf; subst hf; exact execVSub_pending _ _ _ _ h
  rw [if_neg h2] at hf
  by_cases h3 : op = 3
  · rw [if_pos h3] at hf; injection hf with hf; subst hf; exact execVMul_pending _ _ _ _ h
  rw [if_neg h3] at hf
  by_cases h4 : op = 4
  · rw [if_pos h4] at hf; injection hf with hf; subst hf; exact execVFma_pending _ _ _ _ h
  rw [if_neg h4] at hf
  by_cases h5 : op = 5
  · rw [if_pos h5] at hf; injection hf with hf; subst hf; exact execVMin_pending _ _ _ _ h
  rw [if_neg h5] at hf
  by_cases h6 : op = 6
  · rw [if_pos h6] at hf; injection hf with hf; subst hf; exact execVMax_pending _ _ _ _ h
  rw [if_neg h6] at hf
  by_cases h7 : op = 7
  · rw [if_pos h7] at hf; injection hf with hf; subst hf; exact execVAbs_pending _ _ _ _ h
  rw [if_neg h7] at hf
  by_cases h8 : op = 8
  · rw [if_pos h8] at hf; injection hf with hf; subst hf; exact execVNeg_pending _ _ _ _ h
  rw [if_neg h8] at hf
  by_cases h9 : op = 9
  · rw [if_pos h9] at hf; injection hf with hf; subst hf; exact execVCmplt_pending _ _ _ _ h
  rw [if_neg h9] at hf
  by_cases h10 : op = 10
  · rw [if_pos h10] at hf; injection hf with hf; subst hf; exact execVCmpeq_pending _ _ _ _ h
  rw [if_neg h10] at hf
  by_cases h11 : op = 11
  · rw [if_pos h11] at hf; injection hf with hf; subst hf; exact execVSel_pending _ _ _ _ h
  rw [if_neg h11] at hf
  by_cases h12 : op = 12
  · rw [if_pos h12] at hf; injection hf with hf; subst hf; exact execVSqrt_pending _ _ _ _ h
  rw [if_neg h12] at hf
  by_cases h13 : op = 13
  · rw [if_pos h13] at hf; injection hf with hf; subst hf; exact execVRcp_pending _ _ _ _ h
  rw [if_neg h13] at hf
  by_cases h14 : op = 14
  · rw [if_pos h14] at hf; injection hf with hf; subst hf; exact execVRsqrt_pending _ _ _ _ h
  rw [if_neg h14] at hf
  by_cases h15 : op = 15
  · rw [if_pos h15] at hf; injection hf with hf; subst hf; exact execVExp2_pending _ _ _ _ h
  rw [if_neg h15] at hf
  by_cases h16 : op = 16
  · rw [if_pos h16] at hf; injection hf with hf; subst hf; exact execVLog2_pending _ _ _ _ h
  rw [if_neg h16] at hf
  by_cases h17 : op = 17
  · rw [if_pos h17] at hf; injection hf with hf; subst hf; exact execVCvtInt32_pending _ _ _ _ h
  rw [if_neg h17] at hf
  by_cases h18 : op = 18
  · rw [if_pos h18] at hf; injection hf with hf; subst hf; exact execVCvtBf16_pending _ _ _ _ h
  rw [if_neg h18] at hf
  by_cases h19 : op = 19
  · rw [if_pos h19] at hf; injection hf with hf; subst hf; exact execVIadd_pending _ _ _ _ h
  rw [if_neg h19] at hf
  by_cases h20 : op = 20
  · rw [if_pos h20] at hf; injection hf with hf; subst hf; exact execVAnd_pending _ _ _ _ h
  rw [if_neg h20] at hf
  by_cases h21 : op = 21
  · rw [if_pos h21] at hf; injection hf with hf; subst hf; exact execVOr_pending _ _ _ _ h
  rw [if_neg h21] at hf
  by_cases h22 : op = 22
  · rw [if_pos h22] at hf; injection hf with hf; subst hf; exact execVXor_pending _ _ _ _ h
  rw [if_neg h22] at hf
  by_cases h23 : op = 23
  · rw [if_pos h23] at hf; injection hf with hf; subst hf; exact execVShl_pending _ _ _ _ h
  rw [if_neg h23] at hf
  by_cases h24 : op = 24
  · rw [if_pos h24] at hf; injection hf with hf; subst hf; exact execVShr_pending _ _ _ _ h
  rw [if_neg h24] at hf
  by_cases h32 : op = 32
  · rw [if_pos h32] at hf; injection hf with hf; subst hf; exact execVectorLoad_pending _ _ _ _ h
  rw [if_neg h32] at hf
  by_cases h33 : op = 33
  · rw [if_pos h33] at hf; injection hf with hf; subst hf; exact execVectorStore_pending _ _ _ _ h
  rw [if_neg h33] at hf
  cases hf
theorem runProgram_pending (w : VWhere) (z0 : Nat) (z1 : List (Nat × VArgs)) (z2 : State) : ∀ t, (runProgram w z0 z1 z2) = .next t → t.pending = z2.pending := by
  induction z1 generalizing z0 z2 with
  | nil => intro t ht; simp only [runProgram] at ht; cases ht; rfl
  | cons a rest ih =>
    intro t ht
    obtain ⟨op, i⟩ := a
    simp only [runProgram] at ht
    split at ht
    · cases ht
    · rename_i f hf
      split at ht
      · rename_i s' hs
        rw [ih _ _ t ht]
        exact vecExec_pending op f hf _ _ _ _ hs
      · cases ht
      · cases ht
theorem execVectorInstructionBlock_pending (bed : Bed) (core : Core) (backward : Bool) (ready : Nat) (s : State) : ∀ t, (execVectorInstructionBlock bed core backward ready s) = .next t → t.pending = s.pending := by
  intro t ht
  simp -implicitDefEqProofs only [execVectorInstructionBlock] at ht
  split at ht
  · rename_i heq
    have h0 := congrArg (fun q => State.pending q.1) heq
    simp only [State.dueEntry_pending] at h0
    cases ht; exact h0.symm
  · rename_i heq
    have h0 := congrArg (fun q => State.pending q.1) heq
    simp only [State.dueEntry_pending] at h0
    split at ht
    · rename_i h2
      have h3 := runProgram_pending _ _ _ _ _ h2
      cases ht
      simp only [State.put_pending, h3, State.started_pending, h0]
    · rename_i h2
      exact absurd ht (by intro h; exact h2 _ h)
@[simp] theorem State.watchAdd_pending (s : State) (b : Nat) (d : Desc) (counts : List Nat) : (State.watchAdd s b d counts).pending = s.pending := by
  simp -implicitDefEqProofs only [State.watchAdd, State.put_pending, State.setCores_pending, foldl_pending, foldlP_pending, implies_true, apply_ite State.pending, ite_self]
@[simp] theorem State.quantEvt_pending (s : State) (b : Nat) (d : Desc) (step : Nat) (bit : Nat) (on : Bool) : (State.quantEvt s b d step bit on).pending = s.pending := by
  simp -implicitDefEqProofs only [State.quantEvt, State.record_pending, State.evt_pending, State.onceDo_pending, implies_true, apply_ite State.pending, ite_self]
@[simp] theorem State.watchNorm_pending (s : State) (b : Nat) (c : Nat) (d : Desc) (order : List Nat) (x : List Nat) : (State.watchNorm s b c d order x).pending = s.pending := by
  simp -implicitDefEqProofs only [State.watchNorm, State.put_pending, State.setCores_pending, State.raiseFlags_pending, apply_ite State.pending, ite_self]
@[simp] theorem State.watchAmax_pending (s : State) (b : Nat) (d : Desc) (x : List Nat) : (State.watchAmax s b d x).pending = s.pending := by
  simp -implicitDefEqProofs only [State.watchAmax, State.put_pending, State.setCores_pending, foldl_pending, foldlP_pending, implies_true, apply_ite State.pending, ite_self]
@[simp] theorem State.quantWrite_pending (s : State) (b : Nat) (d : Desc) (addr : Nat) (bs : List Byte) (poison : Bool) : (State.quantWrite s b d addr bs poison).pending = s.pending := by
  simp -implicitDefEqProofs only [State.quantWrite, State.writeSpan_pending, State.release_pending]
@[simp] theorem State.quantScaled_pending (s : State) (b : Nat) (c : Nat) (d : Desc) (r : Released) (x : List Nat) (tee : Nat) : (State.quantScaled s b c d r x tee).pending = s.pending := by
  (simp -implicitDefEqProofs only [State.quantScaled]; (repeat' split) <;> (first | (with_reducible rfl) | simp -implicitDefEqProofs only [State.readSpan_pending, State.writeSpan_pending, State.raiseFlags_pending, State.watchAdd_pending, State.quantEvt_pending, State.watchAmax_pending, State.quantWrite_pending, foldl_pending, foldlP_pending, implies_true, apply_ite State.pending, ite_self]))
@[simp] theorem State.quantPlain_pending (s : State) (b : Nat) (c : Nat) (d : Desc) (r : Released) (x : List Nat) : (State.quantPlain s b c d r x).pending = s.pending := by
  simp -implicitDefEqProofs only [State.quantPlain, State.raiseFlags_pending, State.watchAdd_pending, State.quantWrite_pending, apply_ite State.pending, ite_self]
@[simp] theorem State.quantI16_pending (s : State) (b : Nat) (c : Nat) (desc : Nat) (d : Desc) (r : Released) (x : List Nat) (e : Int) : (State.quantI16 s b c desc d r x e).pending = s.pending := by
  simp -implicitDefEqProofs only [State.quantI16, State.raiseFlags_pending, State.contribute_pending, State.watchAdd_pending, apply_ite State.pending, ite_self]
@[simp] theorem State.quantCopy_pending (s : State) (b : Nat) (c : Nat) (r : Released) (d : Desc) (x : List Nat) : (State.quantCopy s b c r d x).pending = s.pending := by
  simp -implicitDefEqProofs only [State.quantCopy, State.watchNorm_pending, State.quantScaled_pending]
@[simp] theorem State.quantTile_pending (s : State) (b : Nat) (c : Nat) (r : Released) (e : Int) : (State.quantTile s b c r e).pending = s.pending := by
  (simp -implicitDefEqProofs only [State.quantTile]; (repeat' split) <;> (first | (with_reducible rfl) | simp -implicitDefEqProofs only [State.freeSlots_pending, State.raiseFlags_pending, State.watchNorm_pending, State.quantScaled_pending, State.quantPlain_pending, State.quantI16_pending, State.quantCopy_pending, apply_ite State.pending, ite_self]))
@[simp] theorem State.setReleased_pending (s : State) (n : Nat) (l : List Released) : (State.setReleased s n l).pending = s.pending := by
  simp -implicitDefEqProofs only [State.setReleased, State.put_pending, State.setCores_pending]
theorem execQuantiseTile_pending (bed : Bed) (core : Core) (s : State) : ∀ t, (execQuantiseTile bed core s) = .next t → t.pending = s.pending := by
  intro t ht; simp -implicitDefEqProofs only [execQuantiseTile] at ht; (repeat' split at ht) <;> (first | (rw [← Host.Outcome.next.inj ht]; done) | (rw [← Host.Outcome.next.inj ht]; simp -implicitDefEqProofs only [State.freeSlots_pending, State.slip_pending, State.quantTile_pending, State.setReleased_pending, apply_ite State.pending, ite_self]; done))
@[simp] theorem State.closeWatch_pending (s : State) (b : Nat) : (State.closeWatch s b).pending = s.pending := by
  simp -implicitDefEqProofs only [State.closeWatch, State.setCores_pending]
@[simp] theorem State.normFlags_pending (s : State) (b : Nat) : (State.normFlags s b).pending = s.pending := by
  simp -implicitDefEqProofs only [State.normFlags, State.raiseFlags_pending, foldl_pending, foldlP_pending, implies_true]
@[simp] theorem State.watchSnap_pending (s : State) (b : Nat) (step : Nat) : (State.watchSnap s b step).pending = s.pending := by
  simp -implicitDefEqProofs only [State.watchSnap, State.put_pending, State.resetFields_pending, State.closeWatch_pending, State.normFlags_pending, foldl_pending, foldlP_pending, implies_true]
@[simp] theorem State.normSlot_pending (s : State) (q : Nat) (beds : List Nat) (slot : Nat) : (State.normSlot s q beds slot).1.pending = s.pending := by
  (simp -implicitDefEqProofs only [State.normSlot]; (repeat' split) <;> (first | (with_reducible rfl) | simp -implicitDefEqProofs only [State.put_pending, State.setPart_pending, State.raise_pending, foldl_pending, foldlP_pending, implies_true, apply_ite State.pending, ite_self]))
@[simp] theorem State.norms_pending (s : State) (q : Nat) (beds : List Nat) : (State.norms s q beds).1.pending = s.pending := by
  simp -implicitDefEqProofs only [State.norms, State.resetFields_pending, State.normSlot_pending, foldl_pending, foldlP_pending, implies_true, apply_ite State.pending, ite_self]
@[simp] theorem State.localTrips_pending (s : State) (q : Nat) (beds : List Nat) (jumps : List Nat) : (State.localTrips s q beds jumps).pending = s.pending := by
  simp -implicitDefEqProofs (disch := (intros; (repeat' split) <;> try simp -implicitDefEqProofs only [State.setPart_pending, State.raise_pending, foldl_pending, foldlP_pending, implies_true, apply_ite State.pending, ite_self])) only [State.localTrips, State.setPart_pending, State.raise_pending, foldl_pending, foldlP_pending, implies_true, apply_ite State.pending, ite_self]
@[simp] theorem State.nextScale_pending (s : State) (k : Nat × Nat) (amax : Nat) : (State.nextScale s k amax).pending = s.pending := by
  (simp -implicitDefEqProofs only [State.nextScale]; (repeat' split) <;> (first | (with_reducible rfl) | simp -implicitDefEqProofs only [State.put_pending, State.setCores_pending, State.count_pending, apply_ite State.pending, ite_self]))
@[simp] theorem State.nextScales_pending (s : State) (j : Nat) : (State.nextScales s j).pending = s.pending := by
  simp -implicitDefEqProofs only [State.nextScales, State.setCores_pending, State.nextScale_pending, foldl_pending, foldlP_pending, implies_true]
@[simp] theorem State.moveState_pending (s : State) (lp : Page) (layer : Nat) (st : Nat) (step : Nat) : (State.moveState s lp layer st step).pending = s.pending := by
  simp -implicitDefEqProofs only [State.moveState, State.put_pending, apply_ite State.pending, ite_self]
@[simp] theorem State.enterLayer_pending (s : State) (lp : Page) (layer : Nat) (st : Nat) (step : Nat) (byRetry : Nat) (shift : Nat) : (State.enterLayer s lp layer st step byRetry shift).pending = s.pending := by
  simp -implicitDefEqProofs only [State.enterLayer, State.put_pending]
@[simp] theorem State.noteMove_pending (s : State) (q : Nat) (layer : Nat) (step : Nat) : (State.noteMove s q layer step).pending = s.pending := by
  simp -implicitDefEqProofs only [State.noteMove, State.setPart_pending, State.moved_pending]
@[simp] theorem State.moveLayer_pending (s : State) (q : Nat) (f : File) (layer : Nat) (st : Nat) (step : Nat) (byRetry : Nat) (shift : Nat) : (State.moveLayer s q f layer st step byRetry shift).pending = s.pending := by
  simp -implicitDefEqProofs only [State.moveLayer, State.record_pending, State.enterLayer_pending, State.noteMove_pending, apply_ite State.pending, ite_self]
@[simp] theorem State.evalLayer_pending (s : State) (q : Nat) (f : File) (layer : Nat) (step : Nat) : (State.evalLayer s q f layer step).pending = s.pending := by
  simp -implicitDefEqProofs only [State.evalLayer, State.put_pending, State.bump_pending, State.record_pending, State.moveLayer_pending, apply_ite State.pending, ite_self]
@[simp] theorem State.evalLayers_pending (s : State) (q : Nat) (step : Nat) : (State.evalLayers s q step).pending = s.pending := by
  simp -implicitDefEqProofs only [State.evalLayers, State.setPart_pending, State.evalLayer_pending, foldl_pending, foldlP_pending, implies_true, apply_ite State.pending, ite_self]
@[simp] theorem State.showSteps_pending (s : State) : (State.showSteps s).pending = s.pending := by
  simp -implicitDefEqProofs only [State.showSteps, State.put_pending]
@[simp] theorem State.setStack_pending (s : State) (l : List Nat) : (State.setStack s l).pending = s.pending := by
  simp -implicitDefEqProofs only [State.setStack, State.showSteps_pending]
@[simp] theorem State.takePlan_pending (s : State) : (State.takePlan s).pending = s.pending := by
  simp -implicitDefEqProofs only [State.takePlan, State.put_pending, State.record_pending, State.raise_pending, foldl_pending, foldlP_pending, implies_true, apply_ite State.pending, ite_self]
@[simp] theorem State.takeCap_pending (s : State) : (State.takeCap s).pending = s.pending := by
  (simp -implicitDefEqProofs only [State.takeCap]; (repeat' split) <;> (first | (with_reducible rfl) | simp -implicitDefEqProofs only [State.raise_pending, State.setStack_pending, apply_ite State.pending, ite_self]))
@[simp] theorem State.setClock_pending (s : State) : (State.setClock s).pending = s.pending := by
  simp -implicitDefEqProofs only [State.setClock, State.put_pending, State.setPower_pending, apply_ite State.pending, ite_self]
@[simp] theorem State.applyClock_pending (s : State) : (State.applyClock s).pending = s.pending := by
  simp -implicitDefEqProofs only [State.applyClock, State.put_pending, State.takePlan_pending, State.takeCap_pending, State.setClock_pending, apply_ite State.pending, ite_self]
@[simp] theorem State.openStretch_pending (s : State) (forced : Bool) : (State.openStretch s forced).pending = s.pending := by
  simp -implicitDefEqProofs only [State.openStretch]
@[simp] theorem State.sampleWatts_pending (s : State) : (State.sampleWatts s).pending = s.pending := by
  simp -implicitDefEqProofs only [State.sampleWatts, State.put_pending, State.draw_pending]
@[simp] theorem State.raiseTrim_pending (s : State) : (State.raiseTrim s).pending = s.pending := by
  simp -implicitDefEqProofs only [State.raiseTrim, State.put_pending, State.raise_pending, apply_ite State.pending, ite_self]
@[simp] theorem State.trimTick_pending (s : State) : (State.trimTick s).pending = s.pending := by
  simp -implicitDefEqProofs only [State.trimTick, State.raiseTrim_pending, apply_ite State.pending, ite_self]
@[simp] theorem State.clockTick_pending (s : State) : (State.clockTick s).pending = s.pending := by
  simp -implicitDefEqProofs only [State.clockTick, State.put_pending, State.bump_pending, State.raise_pending, State.applyClock_pending, State.openStretch_pending, apply_ite State.pending, ite_self]
theorem execCapRelease_pending (s : State) : ∀ t, (execCapRelease s) = .next t → t.pending = s.pending := by
  intro t ht; simp -implicitDefEqProofs only [execCapRelease] at ht; (repeat' split at ht) <;> (first | (rw [← Host.Outcome.next.inj ht]; done) | (rw [← Host.Outcome.next.inj ht]; simp -implicitDefEqProofs only [State.setStack_pending, State.setClock_pending, apply_ite State.pending, ite_self]; done))
@[simp] theorem State.passSkipped_pending (s : State) (b : Nat) : (State.passSkipped s b).pending = s.pending := by
  simp -implicitDefEqProofs only [State.passSkipped, State.onCores_pending, State.nextEntry_pending, foldl_pending, foldlP_pending, implies_true, apply_ite State.pending, ite_self]
@[simp] theorem State.countStalls_pending (s : State) (b : Nat) : (State.countStalls s b).pending = s.pending := by
  simp -implicitDefEqProofs only [State.countStalls, State.put_pending, State.bump_pending, State.onCores_pending, foldl_pending, foldlP_pending, implies_true, apply_ite State.pending, ite_self]
@[simp] theorem State.realign_pending (s : State) (b : Nat) : (State.realign s b).pending = s.pending := by
  simp -implicitDefEqProofs only [State.realign, State.bump_pending, State.setBed_pending, State.evt_pending, State.raise_pending, State.onCores_pending, State.stopRunning_pending, State.ctxReset_pending, State.setSeq_pending, foldl_pending, foldlP_pending, implies_true, apply_ite State.pending, ite_self]
@[simp] theorem State.overrun_pending (s : State) (b : Nat) : (State.overrun s b).pending = s.pending := by
  simp -implicitDefEqProofs only [State.overrun, State.bump_pending, State.setBed_pending, State.raise_pending, State.skipFrame_pending, State.setSeq_pending]
@[simp] theorem State.noteSlack_pending (s : State) (b : Nat) : (State.noteSlack s b).pending = s.pending := by
  simp -implicitDefEqProofs only [State.noteSlack, State.setBed_pending]
@[simp] theorem State.closeRun_pending (s : State) (b : Nat) : (State.closeRun s b).pending = s.pending := by
  simp -implicitDefEqProofs only [State.closeRun, State.idleBed_pending, State.passSkipped_pending, State.countStalls_pending, State.realign_pending, State.overrun_pending, State.noteSlack_pending, apply_ite State.pending, ite_self]
@[simp] theorem State.coarseSnap_pending (s : State) (b : Nat) : (State.coarseSnap s b).pending = s.pending := by
  simp -implicitDefEqProofs only [State.coarseSnap]
@[simp] theorem State.tickPages_pending (s : State) (b : Nat) : (State.tickPages s b).pending = s.pending := by
  simp -implicitDefEqProofs only [State.tickPages, State.tickPage_pending, foldl_pending, foldlP_pending, implies_true, apply_ite State.pending, ite_self]
@[simp] theorem State.dalStale_pending (s : State) (b : Nat) : (State.dalStale s b).pending = s.pending := by
  simp -implicitDefEqProofs (disch := (intros; (repeat' split) <;> try simp -implicitDefEqProofs only [State.bump_pending, State.raise_pending, State.setCache_pending, State.staleLine_pending, foldl_pending, foldlP_pending, implies_true, apply_ite State.pending, ite_self])) only [State.dalStale, State.bump_pending, State.raise_pending, State.setCache_pending, State.staleLine_pending, foldl_pending, foldlP_pending, implies_true, apply_ite State.pending, ite_self]
@[simp] theorem State.nfStep_pending (s : State) (b : Nat) (step : Nat) : (State.nfStep s b step).pending = s.pending := by
  (simp -implicitDefEqProofs only [State.nfStep]; (repeat' split) <;> (first | (with_reducible rfl) | simp -implicitDefEqProofs only [State.put_pending, State.setBed_pending, State.recordAt_pending, apply_ite State.pending, ite_self]))
@[simp] theorem State.bedBoundary_pending (s : State) (b : Nat) : (State.bedBoundary s b).pending = s.pending := by
  simp -implicitDefEqProofs only [State.bedBoundary, State.put_pending, State.setBed_pending, State.openStep_pending, State.nextScales_pending, State.dalStale_pending, State.nfStep_pending, apply_ite State.pending, ite_self]
@[simp] theorem State.creditUnit_pending (s : State) (q : Nat) (f : File) (u : Nat) (step : Nat) : (State.creditUnit s q f u step).pending = s.pending := by
  simp -implicitDefEqProofs only [State.creditUnit, State.put_pending, apply_ite State.pending, ite_self]
@[simp] theorem State.creditUnits_pending (s : State) (q : Nat) (step : Nat) : (State.creditUnits s q step).pending = s.pending := by
  simp -implicitDefEqProofs only [State.creditUnits, State.creditUnit_pending, foldl_pending, foldlP_pending, implies_true]
@[simp] theorem State.forgetUpdates_pending (s : State) (q : Nat) : (State.forgetUpdates s q).pending = s.pending := by
  simp -implicitDefEqProofs [State.forgetUpdates, -List.foldl_cons, -List.foldl_nil, foldl_pending, foldlP_pending]
@[simp] theorem State.latchGroups_pending (s : State) (q : Nat) (step : Nat) : (State.latchGroups s q step).pending = s.pending := by
  simp -implicitDefEqProofs [State.latchGroups, -List.foldl_cons, -List.foldl_nil, foldl_pending, foldlP_pending]
@[simp] theorem State.reseedFail_pending (s : State) (q : Nat) : (State.reseedFail s q).pending = s.pending := by
  simp -implicitDefEqProofs only [State.reseedFail, State.put_pending, State.record_pending, State.setNoise_pending]
@[simp] theorem State.reseedOk_pending (s : State) (q : Nat) : (State.reseedOk s q).pending = s.pending := by
  simp -implicitDefEqProofs only [State.reseedOk, State.put_pending, State.bump_pending, State.draw_pending, State.setNoise_pending]
@[simp] theorem State.retryNoise_pending (s : State) (q : Nat) : (State.retryNoise s q).pending = s.pending := by
  simp -implicitDefEqProofs only [State.retryNoise, State.reseedFail_pending, State.reseedOk_pending, apply_ite State.pending, ite_self]
@[simp] theorem State.partWatch_pending (s : State) (q : Nat) : (State.partWatch s q).pending = s.pending := by
  simp -implicitDefEqProofs only [State.partWatch, State.setCores_pending, State.norms_pending, State.localTrips_pending]
@[simp] theorem State.partBoundary_pending (s : State) (q : Nat) (step : Nat) : (State.partBoundary s q step).pending = s.pending := by
  simp -implicitDefEqProofs only [State.partBoundary, State.put_pending, State.setPart_pending, State.raise_pending, State.holdBeds_pending, State.nextScales_pending, State.evalLayers_pending, State.creditUnits_pending, State.latchGroups_pending, State.retryNoise_pending, apply_ite State.pending, ite_self]
@[simp] theorem State.putOwned_pending (s : State) (p : Page) (f : Fld) (v : Nat) (step : Nat) : (State.putOwned s p f v step).pending = s.pending := by
  simp -implicitDefEqProofs only [State.putOwned, State.put_pending, State.moveState_pending, State.noteMove_pending, apply_ite State.pending, ite_self]
@[simp] theorem State.writeOwned_pending (s : State) (mine : Page → Bool) (states : Bool) (step : Nat) (off : Nat) (v : Nat) : (State.writeOwned s mine states step off v).pending = s.pending := by
  (simp -implicitDefEqProofs only [State.writeOwned]; (repeat' split) <;> (first | (with_reducible rfl) | simp -implicitDefEqProofs only [State.putOwned_pending, foldl_pending, foldlP_pending, implies_true, apply_ite State.pending, ite_self]))
@[simp] theorem State.writeAllOwned_pending (s : State) (b : Nat) (f : File) (states : Bool) (step : Nat) : (State.writeAllOwned s b f states step).pending = s.pending := by
  simp -implicitDefEqProofs only [State.writeAllOwned, State.count_pending, State.writeOwned_pending, foldl_pending, foldlP_pending, implies_true]
@[simp] theorem State.loadGroups_pending (s : State) (q : Nat) (f : File) : (State.loadGroups s q f).pending = s.pending := by
  simp -implicitDefEqProofs only [State.loadGroups, State.put_pending, State.resetFields_pending, foldl_pending, foldlP_pending, implies_true, apply_ite State.pending, ite_self]
@[simp] theorem State.zeroCounters_pending (s : State) (b : Nat) : (State.zeroCounters s b).pending = s.pending := by
  simp -implicitDefEqProofs only [State.zeroCounters, State.put_pending, State.resetFields_pending, foldl_pending, foldlP_pending, implies_true, apply_ite State.pending, ite_self]
@[simp] theorem State.seedNoise_pending (s : State) (q : Nat) : (State.seedNoise s q).pending = s.pending := by
  simp -implicitDefEqProofs only [State.seedNoise, State.put_pending, State.draw_pending, State.setNoise_pending, State.reseedFail_pending, apply_ite State.pending, ite_self]
@[simp] theorem State.setHeader_pending (s : State) (b : Nat) (n : Nat) (f : File) : (State.setHeader s b n f).pending = s.pending := by
  simp -implicitDefEqProofs only [State.setHeader, State.put_pending, State.setBed_pending, apply_ite State.pending, ite_self]
@[simp] theorem State.switchBed_pending (s : State) (b : Nat) (slot : Nat) (step : Nat) (epoch : Nat) (n : Nat) : (State.switchBed s b slot step epoch n).pending = s.pending := by
  simp -implicitDefEqProofs only [State.switchBed, State.put_pending, State.setBed_pending, State.raise_pending, State.copyLists_pending, State.setCores_pending, State.openStep_pending, State.setSeq_pending, State.showArm_pending, State.zeroCounters_pending, State.setHeader_pending, foldl_pending, foldlP_pending, implies_true, apply_ite State.pending, ite_self]
@[simp] theorem State.newJob_pending (s : State) (q : Nat) : (State.newJob s q).pending = s.pending := by
  simp -implicitDefEqProofs only [State.newJob, apply_ite State.pending, ite_self]
@[simp] theorem State.dropScales_pending (s : State) (j : Nat) : (State.dropScales s j).pending = s.pending := by
  simp -implicitDefEqProofs only [State.dropScales, State.setCores_pending]
@[simp] theorem State.switchPart_pending (s : State) (q : Nat) (slot : Nat) (step : Nat) (job : Bool) : (State.switchPart s q slot step job).pending = s.pending := by
  simp -implicitDefEqProofs only [State.switchPart, State.setPart_pending, State.moved_pending, State.setTimeRef_pending, State.forgetUpdates_pending, State.latchGroups_pending, State.loadGroups_pending, State.seedNoise_pending, State.newJob_pending, State.dropScales_pending, apply_ite State.pending, ite_self]
@[simp] theorem State.activateAt_pending (s : State) (b : Nat) (n : Nat) : (State.activateAt s b n).pending = s.pending := by
  (simp -implicitDefEqProofs only [State.activateAt]; (repeat' split) <;> (first | (with_reducible rfl) | simp -implicitDefEqProofs only [State.put_pending, State.setBed_pending, State.record_pending, State.refuseSwitch_pending, State.writeAllOwned_pending, State.switchBed_pending, State.dropScales_pending, State.switchPart_pending, apply_ite State.pending, ite_self]))
@[simp] theorem State.epochBoundary_pending (s : State) (q : Nat) (n : Nat) (step : Nat) : (State.epochBoundary s q n step).pending = s.pending := by
  (simp -implicitDefEqProofs only [State.epochBoundary]; (repeat' split) <;> (first | (with_reducible rfl) | simp -implicitDefEqProofs only [State.put_pending, State.setPart_pending, State.raise_pending, State.holdBeds_pending, State.writeAllOwned_pending, State.switchBed_pending, State.switchPart_pending, foldl_pending, foldlP_pending, implies_true, apply_ite State.pending, ite_self]))
@[simp] theorem State.graftLayer_pending (s : State) (lp : Page) (h : Nat) (step : Nat) (l : Nat) : (State.graftLayer s lp h step l).pending = s.pending := by
  simp -implicitDefEqProofs only [State.graftLayer, State.put_pending]
@[simp] theorem State.joinGraft_pending (s : State) (q : Nat) (n : Nat) : (State.joinGraft s q n).pending = s.pending := by
  (simp -implicitDefEqProofs only [State.joinGraft]; (repeat' split) <;> (first | (with_reducible rfl) | simp -implicitDefEqProofs only [State.setPart_pending, State.setFab_pending, State.writeAllOwned_pending, State.switchBed_pending, State.switchPart_pending, State.graftLayer_pending, foldl_pending, foldlP_pending, implies_true]))
@[simp] theorem State.newBudgets_pending (s : State) (b : Nat) : (State.newBudgets s b).pending = s.pending := by
  simp -implicitDefEqProofs only [State.newBudgets, State.put_pending, State.setMem_pending, foldl_pending, foldlP_pending, implies_true, apply_ite State.pending, ite_self]
@[simp] theorem State.openBudgets_pending (s : State) (b : Nat) : (State.openBudgets s b).pending = s.pending := by
  simp -implicitDefEqProofs only [State.openBudgets, State.clipWaiting_pending, State.newBudgets_pending]
@[simp] theorem State.openBed_pending (s : State) (b : Nat) : (State.openBed s b).pending = s.pending := by
  simp -implicitDefEqProofs only [State.openBed, State.skipFrame_pending, State.openFrame_pending, State.openBudgets_pending, apply_ite State.pending, ite_self]
@[simp] theorem State.streamLines_pending (s : State) (q : Nat) (dest : Nat) (a : Nat) (len : Nat) (place : Nat → Nat) : (State.streamLines s q dest a len place).pending = s.pending := by
  simp -implicitDefEqProofs only [State.streamLines, State.readSpan_pending, State.send_pending, foldl_pending, foldlP_pending, implies_true]
@[simp] theorem State.streamWard_pending (s : State) (q : Nat) (n : Nat) : (State.streamWard s q n).pending = s.pending := by
  (simp -implicitDefEqProofs only [State.streamWard]; (repeat' split) <;> (first | (with_reducible rfl) | (simp -implicitDefEqProofs [-List.foldl_cons, -List.foldl_nil, foldl_pending, foldlP_pending]; done) | (simp -implicitDefEqProofs (disch := (intros; (repeat' split) <;> try simp -implicitDefEqProofs [-List.foldl_cons, -List.foldl_nil, foldl_pending, foldlP_pending])) [-List.foldl_cons, -List.foldl_nil, foldl_pending, foldlP_pending]; done)))
@[simp] theorem State.streamStep_pending (s : State) (q : Nat) (f : File) (dest : Nat) (step : Nat) : (State.streamStep s q f dest step).pending = s.pending := by
  simp -implicitDefEqProofs only [State.streamStep, State.streamLines_pending, foldl_pending, foldlP_pending, implies_true]
@[simp] theorem State.streamSource_pending (s : State) (q : Nat) (n : Nat) : (State.streamSource s q n).pending = s.pending := by
  (simp -implicitDefEqProofs only [State.streamSource]; (repeat' split) <;> (first | (with_reducible rfl) | simp -implicitDefEqProofs only [State.streamStep_pending, foldl_pending, foldlP_pending, implies_true, apply_ite State.pending, ite_self]))
@[simp] theorem State.openPart_pending (s : State) (q : Nat) (n : Nat) (anew : Bool) (grafted : Bool) : (State.openPart s q n anew grafted).pending = s.pending := by
  simp -implicitDefEqProofs only [State.openPart, State.openBuckets_pending, State.askTime_pending, State.openVotes_pending, State.streamWard_pending, State.streamSource_pending, apply_ite State.pending, ite_self]
@[simp] theorem State.closeBed_pending (s : State) (b : Nat) (n : Nat) (boundary : Bool) : (State.closeBed s b n boundary).pending = s.pending := by
  simp -implicitDefEqProofs only [State.closeBed, State.put_pending, State.setBed_pending, State.endStops_pending, State.watchSnap_pending, State.closeRun_pending, State.coarseSnap_pending, State.tickPages_pending, apply_ite State.pending, ite_self]
@[simp] theorem State.countStep_pending (s : State) (b : Nat) (boundary : Bool) : (State.countStep s b boundary).pending = s.pending := by
  simp -implicitDefEqProofs only [State.countStep, State.put_pending, State.bedBoundary_pending, apply_ite State.pending, ite_self]
@[simp] theorem State.tickPart_pending (s : State) (q : Nat) (n : Nat) (boundary : Bool) : (State.tickPart s q n boundary).pending = s.pending := by
  simp -implicitDefEqProofs only [State.tickPart, State.partBoundary_pending, State.epochBoundary_pending, State.joinGraft_pending, apply_ite State.pending, ite_self]
@[simp] theorem State.tick_pending (s : State) (b : Nat) : (State.tick s b).pending = s.pending := by
  simp -implicitDefEqProofs only [State.tick, State.applyTopo_pending, State.actVotes_pending, State.sampleWatts_pending, State.trimTick_pending, State.clockTick_pending, State.partWatch_pending, State.activateAt_pending, State.openBed_pending, State.openPart_pending, State.closeBed_pending, State.countStep_pending, State.tickPart_pending, foldl_pending, foldlP_pending, implies_true, apply_ite State.pending, ite_self]
@[simp] theorem State.tickIf_pending (s : State) (b : Nat) (on : Bool) : (State.tickIf s b on).pending = s.pending := by
  simp -implicitDefEqProofs only [State.tickIf, State.tick_pending, apply_ite State.pending, ite_self]
theorem execFrameTick_pending (bed : Bed) (s : State) : ∀ t, (execFrameTick bed s) = .next t → t.pending = s.pending := by
  intro t ht; simp -implicitDefEqProofs only [execFrameTick] at ht; rw [← Host.Outcome.next.inj ht]; simp -implicitDefEqProofs only [State.tickIf_pending]
theorem execStepBoundary_pending (bed : Bed) (s : State) : ∀ t, (execStepBoundary bed s) = .next t → t.pending = s.pending := by
  intro t ht; simp -implicitDefEqProofs only [execStepBoundary] at ht; rw [← Host.Outcome.next.inj ht]; simp -implicitDefEqProofs only [State.tickIf_pending]
@[simp] theorem State.leadTick_pending (s : State) (q : Nat) (on : Nat → Bool) : (State.leadTick s q on).pending = s.pending := by
  simp -implicitDefEqProofs only [State.leadTick, State.tickIf_pending]
theorem execVoteDeadline_pending (part : Bed) (code : Nat) (s : State) : ∀ t, (execVoteDeadline part code s) = .next t → t.pending = s.pending := by
  intro t ht; simp -implicitDefEqProofs only [execVoteDeadline] at ht; rw [← Host.Outcome.next.inj ht]; simp -implicitDefEqProofs only [State.leadTick_pending]
theorem execPrecisionRetry_pending (part : Bed) (layer : Nat) (s : State) : ∀ t, (execPrecisionRetry part layer s) = .next t → t.pending = s.pending := by
  intro t ht; simp -implicitDefEqProofs only [execPrecisionRetry] at ht; rw [← Host.Outcome.next.inj ht]; simp -implicitDefEqProofs only [State.leadTick_pending]
theorem execPrecisionShiftReset_pending (part : Bed) (layer : Nat) (s : State) : ∀ t, (execPrecisionShiftReset part layer s) = .next t → t.pending = s.pending := by
  intro t ht; simp -implicitDefEqProofs only [execPrecisionShiftReset] at ht; rw [← Host.Outcome.next.inj ht]; simp -implicitDefEqProofs only [State.leadTick_pending]
theorem execChangeForced_pending (bed : Bed) (s : State) : ∀ t, (execChangeForced bed s) = .next t → t.pending = s.pending := by
  intro t ht; simp -implicitDefEqProofs only [execChangeForced] at ht; rw [← Host.Outcome.next.inj ht]; simp -implicitDefEqProofs only [State.tickIf_pending]
theorem execNfTrap_pending (bed : Bed) (s : State) : ∀ t, (execNfTrap bed s) = .next t → t.pending = s.pending := by
  intro t ht; simp -implicitDefEqProofs only [execNfTrap] at ht; (repeat' split at ht) <;> (first | (rw [← Host.Outcome.next.inj ht]; done) | (rw [← Host.Outcome.next.inj ht]; simp -implicitDefEqProofs only [State.setBed_pending, apply_ite State.pending, ite_self]; done))
theorem execContextStallTimeout_pending (bed : Bed) (core : Core) (ctx : Ctx) (s : State) : ∀ t, (execContextStallTimeout bed core ctx s) = .next t → t.pending = s.pending := by
  intro t ht; simp -implicitDefEqProofs only [execContextStallTimeout] at ht; (repeat' split at ht) <;> (first | (rw [← Host.Outcome.next.inj ht]; done) | (rw [← Host.Outcome.next.inj ht]; simp -implicitDefEqProofs only [State.ctxReset_pending, apply_ite State.pending, ite_self]; done))
theorem execSequencerAckTimeout_pending (bed : Bed) (s : State) : ∀ t, (execSequencerAckTimeout bed s) = .next t → t.pending = s.pending := by
  intro t ht; simp -implicitDefEqProofs only [execSequencerAckTimeout] at ht; (repeat' split at ht) <;> (first | (rw [← Host.Outcome.next.inj ht]; done) | (rw [← Host.Outcome.next.inj ht]; simp -implicitDefEqProofs only [State.setBed_pending, State.record_pending, State.skipFrame_pending, State.setSeq_pending, apply_ite State.pending, ite_self]; done))
@[simp] theorem State.clearSealed_pending (s : State) (p : Nat) : (State.clearSealed s p).pending = s.pending := by
  simp -implicitDefEqProofs only [State.clearSealed, State.put_pending, foldl_pending, foldlP_pending, implies_true]
@[simp] theorem State.keyBridges_pending (s : State) (p : Nat) : (State.keyBridges s p).pending = s.pending := by
  simp -implicitDefEqProofs only [State.keyBridges, State.put_pending, State.bump_pending, State.startScrub_pending, foldl_pending, foldlP_pending, implies_true]
@[simp] theorem State.beginSession_pending (s : State) (p : Nat) (grantSeq : Nat) (group : List Byte) (tenant : List Byte) (exportSecret : List Byte) (roster : List (Nat × List Byte)) (digest : List Byte) : (State.beginSession s p grantSeq group tenant exportSecret roster digest).pending = s.pending := by
  simp -implicitDefEqProofs only [State.beginSession, State.put_pending, State.setSession_pending, State.setSessionState_pending, State.drawBytes_pending, State.seqNow_pending, State.clearSealed_pending, State.keyBridges_pending, apply_ite State.pending, ite_self]
@[simp] theorem State.finishOpen_pending (s : State) (p : Nat) : (State.finishOpen s p).pending = s.pending := by
  simp -implicitDefEqProofs only [State.finishOpen, State.put_pending, State.raise_pending, State.doLock_pending, State.setSessionState_pending, State.tryKey_pending, State.seedNoise_pending, foldl_pending, foldlP_pending, implies_true]
theorem execScrubDone_pending (bridge : Bed) (s : State) : ∀ t, (execScrubDone bridge s) = .next t → t.pending = s.pending := by
  intro t ht; simp -implicitDefEqProofs only [execScrubDone] at ht; (repeat' split at ht) <;> (first | (rw [← Host.Outcome.next.inj ht]; done) | (rw [← Host.Outcome.next.inj ht]; simp -implicitDefEqProofs only [State.put_pending, State.raise_pending, State.finishClose_pending, State.finishOpen_pending, apply_ite State.pending, ite_self]; done))
@[simp] theorem State.showHoldup_pending (s : State) : (State.showHoldup s).pending = s.pending := by
  simp -implicitDefEqProofs only [State.showHoldup, State.put_pending]
theorem execHoldupSample_pending (millivolts : Nat) (s : State) : ∀ t, (execHoldupSample millivolts s) = .next t → t.pending = s.pending := by
  intro t ht; simp -implicitDefEqProofs only [execHoldupSample] at ht; (repeat' split at ht) <;> (first | (rw [← Host.Outcome.next.inj ht]; done) | (rw [← Host.Outcome.next.inj ht]; simp -implicitDefEqProofs only [State.settle_pending, State.showHoldup_pending, apply_ite State.pending, ite_self]; done))
@[simp] theorem State.holdupLow_pending (s : State) : (State.holdupLow s).pending = s.pending := by
  simp -implicitDefEqProofs only [State.holdupLow, State.bump_pending, State.raise_pending, apply_ite State.pending, ite_self]
@[simp] theorem State.beginStore_pending (s : State) (kind : Nat) : (State.beginStore s kind).pending = s.pending := by
  simp -implicitDefEqProofs only [State.beginStore, State.put_pending]
@[simp] theorem State.spend_pending (s : State) (kind : Nat) : (State.spend s kind).pending = s.pending := by
  simp -implicitDefEqProofs only [State.spend, State.showHoldup_pending]
@[simp] theorem State.storeRecord_pending (s : State) (r : Record) : (State.storeRecord s r).pending = s.pending := by
  (simp -implicitDefEqProofs only [State.storeRecord]; (repeat' split) <;> (first | (with_reducible rfl) | simp -implicitDefEqProofs only [State.put_pending, State.setRec_pending, apply_ite State.pending, ite_self]))
@[simp] theorem State.noteLedger_pending (s : State) (r : Record) : (State.noteLedger s r).pending = s.pending := by
  (simp -implicitDefEqProofs only [State.noteLedger]; (repeat' split) <;> (first | (with_reducible rfl) | simp -implicitDefEqProofs only [State.put_pending, State.openStep_pending, apply_ite State.pending, ite_self]))
@[simp] theorem State.checkProt_pending (s : State) : (State.checkProt s).pending = s.pending := by
  simp -implicitDefEqProofs only [State.checkProt, State.put_pending, State.raise_pending, apply_ite State.pending, ite_self]
@[simp] theorem State.enqueueAll_pending (s : State) (l : List Record) : (State.enqueueAll s l).pending = s.pending := by
  simp -implicitDefEqProofs only [State.enqueueAll, State.enqueue_pending, foldl_pending, foldlP_pending, implies_true]
@[simp] theorem State.feedPending_pending (s : State) : (State.feedPending s).pending = s.pending := by
  simp -implicitDefEqProofs only [State.feedPending, State.enqueue_pending, State.setRec_pending, foldl_pending, foldlP_pending, implies_true, apply_ite State.pending, ite_self]
@[simp] theorem State.feedLedger_pending (s : State) (q : Nat) : (State.feedLedger s q).pending = s.pending := by
  simp -implicitDefEqProofs only [State.feedLedger, State.put_pending, State.enqueueAll_pending, foldl_pending, foldlP_pending, implies_true, apply_ite State.pending, ite_self]
@[simp] theorem State.feedAudit_pending (s : State) : (State.feedAudit s).pending = s.pending := by
  simp -implicitDefEqProofs only [State.feedAudit, State.setRec_pending, State.enqueueAll_pending, foldl_pending, foldlP_pending, implies_true, apply_ite State.pending, ite_self]
@[simp] theorem State.feedDropped_pending (s : State) : (State.feedDropped s).pending = s.pending := by
  (simp -implicitDefEqProofs only [State.feedDropped]; (repeat' split) <;> (first | (with_reducible rfl) | simp -implicitDefEqProofs only [State.postGeneral_pending, State.setRec_pending, apply_ite State.pending, ite_self]))
@[simp] theorem State.feed_pending (s : State) : (State.feed s).pending = s.pending := by
  simp -implicitDefEqProofs only [State.feed, State.feedPending_pending, State.feedLedger_pending, State.feedAudit_pending, State.feedDropped_pending, foldl_pending, foldlP_pending, implies_true]
@[simp] theorem State.takeBatch_pending (s : State) : (State.takeBatch s).pending = s.pending := by
  simp -implicitDefEqProofs only [State.takeBatch, State.setRec_pending]
@[simp] theorem State.writeBatch_pending (s : State) : (State.writeBatch s).pending = s.pending := by
  simp -implicitDefEqProofs only [State.writeBatch, State.setRec_pending, State.storeRecord_pending, State.noteLedger_pending, State.checkProt_pending, State.feed_pending, foldl_pending, foldlP_pending, implies_true]
@[simp] theorem State.beginBatch_pending (s : State) : (State.beginBatch s).pending = s.pending := by
  simp -implicitDefEqProofs only [State.beginBatch, State.put_pending, State.beginStore_pending, State.takeBatch_pending]
@[simp] theorem State.tryStore_pending (s : State) (kind : Nat) : (State.tryStore s kind).pending = s.pending := by
  simp -implicitDefEqProofs only [State.tryStore, State.put_pending, State.holdupLow_pending, State.beginStore_pending, State.beginBatch_pending, apply_ite State.pending, ite_self]
theorem execDurableStoreStart_pending (kind : Fin 4) (s : State) : ∀ t, (execDurableStoreStart kind s) = .next t → t.pending = s.pending := by
  intro t ht; simp -implicitDefEqProofs only [execDurableStoreStart] at ht; rw [← Host.Outcome.next.inj ht]; simp -implicitDefEqProofs only [State.tryStore_pending]
theorem execDurableStoreRetry_pending (kind : Fin 4) (s : State) : ∀ t, (execDurableStoreRetry kind s) = .next t → t.pending = s.pending := by
  intro t ht; simp -implicitDefEqProofs only [execDurableStoreRetry] at ht; rw [← Host.Outcome.next.inj ht]; simp -implicitDefEqProofs only [State.tryStore_pending, apply_ite State.pending, ite_self]
theorem execEventBatchStore_pending (s : State) : ∀ t, (execEventBatchStore s) = .next t → t.pending = s.pending := by
  intro t ht; simp -implicitDefEqProofs only [execEventBatchStore] at ht; rw [← Host.Outcome.next.inj ht]; simp -implicitDefEqProofs only [State.writeBatch_pending, State.tryStore_pending, apply_ite State.pending, ite_self]
@[simp] theorem State.writeHdr_pending (s : State) : (State.writeHdr s).pending = s.pending := by
  simp -implicitDefEqProofs only [State.writeHdr, State.put_pending]
@[simp] theorem State.readHdr_pending (s : State) : (State.readHdr s).pending = s.pending := by
  (simp -implicitDefEqProofs only [State.readHdr]; (repeat' split) <;> (first | (with_reducible rfl) | simp -implicitDefEqProofs only [State.put_pending]))
@[simp] theorem State.storeDone_pending (s : State) (kind : Nat) : (State.storeDone s kind).pending = s.pending := by
  simp -implicitDefEqProofs only [State.storeDone, State.put_pending, State.writeBatch_pending, State.writeHdr_pending, apply_ite State.pending, ite_self]
@[simp] theorem State.finishStore_pending (s : State) : (State.finishStore s).pending = s.pending := by
  simp -implicitDefEqProofs only [State.finishStore, State.put_pending, State.spend_pending, State.storeDone_pending, apply_ite State.pending, ite_self]
theorem execDurableStoreComplete_pending (s : State) : ∀ t, (execDurableStoreComplete s) = .next t → t.pending = s.pending := by
  intro t ht; simp -implicitDefEqProofs only [execDurableStoreComplete] at ht; rw [← Host.Outcome.next.inj ht]; simp -implicitDefEqProofs only [State.finishStore_pending]
theorem execOpSecond_pending (s : State) : ∀ t, (execOpSecond s) = .next t → t.pending = s.pending := by
  intro t ht; simp -implicitDefEqProofs only [execOpSecond] at ht; (repeat' split at ht) <;> (first | (rw [← Host.Outcome.next.inj ht]; done) | (rw [← Host.Outcome.next.inj ht]; simp -implicitDefEqProofs only [State.bump_pending, State.setRec_pending, apply_ite State.pending, ite_self]; done))
theorem execHours_pending (s : State) : ∀ t, (execHours s) = .next t → t.pending = s.pending := by
  intro t ht; simp -implicitDefEqProofs only [execHours] at ht; (repeat' split at ht) <;> (first | (rw [← Host.Outcome.next.inj ht]; done) | (rw [← Host.Outcome.next.inj ht]; simp -implicitDefEqProofs only [State.record_pending, apply_ite State.pending, ite_self]; done))
theorem execRepeatSecond_pending (s : State) : ∀ t, (execRepeatSecond s) = .next t → t.pending = s.pending := by
  intro t ht; simp -implicitDefEqProofs only [execRepeatSecond] at ht; rw [← Host.Outcome.next.inj ht]; simp -implicitDefEqProofs only [State.queueGeneral_pending, foldl_pending, foldlP_pending, implies_true]
@[simp] theorem State.askFreeze_pending (s : State) : (State.askFreeze s).pending = s.pending := by
  simp -implicitDefEqProofs only [State.askFreeze, State.setRec_pending, apply_ite State.pending, ite_self]
@[simp] theorem State.endFreeze_pending (s : State) : (State.endFreeze s).pending = s.pending := by
  simp -implicitDefEqProofs only [State.endFreeze, State.put_pending, State.setRec_pending]
theorem execFreeze_pending (s : State) : ∀ t, (execFreeze s) = .next t → t.pending = s.pending := by
  intro t ht; simp -implicitDefEqProofs only [execFreeze] at ht; rw [← Host.Outcome.next.inj ht]; simp -implicitDefEqProofs only [State.hostWriteL_pending, State.askFreeze_pending, implies_true]
theorem execUnfreeze_pending (s : State) : ∀ t, (execUnfreeze s) = .next t → t.pending = s.pending := by
  intro t ht; simp -implicitDefEqProofs only [execUnfreeze] at ht; rw [← Host.Outcome.next.inj ht]; simp -implicitDefEqProofs only [State.hostWriteL_pending, State.endFreeze_pending, implies_true]
theorem execFreezeEffective_pending (s : State) : ∀ t, (execFreezeEffective s) = .next t → t.pending = s.pending := by
  intro t ht; simp -implicitDefEqProofs only [execFreezeEffective] at ht; (repeat' split at ht) <;> (first | (rw [← Host.Outcome.next.inj ht]; done) | (rw [← Host.Outcome.next.inj ht]; simp -implicitDefEqProofs only [State.put_pending, State.setRec_pending, apply_ite State.pending, ite_self]; done))
theorem execFreezeTimeout_pending (s : State) : ∀ t, (execFreezeTimeout s) = .next t → t.pending = s.pending := by
  intro t ht; simp -implicitDefEqProofs only [execFreezeTimeout] at ht; (repeat' split at ht) <;> (first | (rw [← Host.Outcome.next.inj ht]; done) | (rw [← Host.Outcome.next.inj ht]; simp -implicitDefEqProofs only [State.record_pending, State.evt_pending, State.endFreeze_pending, apply_ite State.pending, ite_self]; done))
@[simp] theorem State.markRead_pending (s : State) (k : Nat) : (State.markRead s k).pending = s.pending := by
  simp -implicitDefEqProofs only [State.markRead, State.setRec_pending, apply_ite State.pending, ite_self]
theorem execRecordRead_pending (s : State) : ∀ t, (execRecordRead s) = .next t → t.pending = s.pending := by
  intro t ht; simp -implicitDefEqProofs only [execRecordRead] at ht; rw [← Host.Outcome.next.inj ht]; simp -implicitDefEqProofs only [State.answer_pending, State.onBar_pending, State.markRead_pending, implies_true]
theorem execVinExcursion_pending (millivolts : Nat) (s : State) : ∀ t, (execVinExcursion millivolts s) = .next t → t.pending = s.pending := by
  intro t ht; simp -implicitDefEqProofs only [execVinExcursion] at ht; (repeat' split at ht) <;> (first | (rw [← Host.Outcome.next.inj ht]; done) | (rw [← Host.Outcome.next.inj ht]; simp -implicitDefEqProofs only [State.enterOff_pending, State.floorCause_pending, State.setPw_pending, apply_ite State.pending, ite_self]; done))
theorem execVinRestore_pending (millivolts : Nat) (s : State) : ∀ t, (execVinRestore millivolts s) = .next t → t.pending = s.pending := by
  intro t ht; simp -implicitDefEqProofs only [execVinRestore] at ht; (repeat' split at ht) <;> (first | (rw [← Host.Outcome.next.inj ht]; done) | (rw [← Host.Outcome.next.inj ht]; simp -implicitDefEqProofs only [State.floorClear_pending, State.setPw_pending, apply_ite State.pending, ite_self]; done))
theorem execInputOvercurrent_pending (watts : Nat) (s : State) : ∀ t, (execInputOvercurrent watts s) = .next t → t.pending = s.pending := by
  intro t ht; simp -implicitDefEqProofs only [execInputOvercurrent] at ht; (repeat' split at ht) <;> (first | (rw [← Host.Outcome.next.inj ht]; done) | (rw [← Host.Outcome.next.inj ht]; simp -implicitDefEqProofs only [State.put_pending, State.setPw_pending, apply_ite State.pending, ite_self]; done))
theorem execVauxLow_pending (s : State) : ∀ t, (execVauxLow s) = .next t → t.pending = s.pending := by
  intro t ht; simp -implicitDefEqProofs only [execVauxLow] at ht; (repeat' split at ht) <;> (first | (rw [← Host.Outcome.next.inj ht]; done) | (rw [← Host.Outcome.next.inj ht]; simp -implicitDefEqProofs only [State.enterOff_pending, State.endSessions_pending, State.setPw_pending, State.setIsl_pending, apply_ite State.pending, ite_self]; done))
theorem execConverterFault_pending (modules : List Nat) (regulators : List Nat) (s : State) : ∀ t, (execConverterFault modules regulators s) = .next t → t.pending = s.pending := by
  intro t ht; simp -implicitDefEqProofs only [execConverterFault] at ht; (repeat' split at ht) <;> (first | (rw [← Host.Outcome.next.inj ht]; done) | (rw [← Host.Outcome.next.inj ht]; simp -implicitDefEqProofs only [State.record_pending, State.enterOff_pending, State.floorCause_pending, State.floorClear_pending, foldl_pending, foldlP_pending, implies_true, apply_ite State.pending, ite_self]; done))
theorem execPwrAlert_pending (s : State) : ∀ t, (execPwrAlert s) = .next t → t.pending = s.pending := by
  intro t ht; simp -implicitDefEqProofs only [execPwrAlert] at ht; (repeat' split at ht) <;> (first | (rw [← Host.Outcome.next.inj ht]; done) | (rw [← Host.Outcome.next.inj ht]; simp -implicitDefEqProofs only [State.hold_pending, State.floorCause_pending, State.setPw_pending, apply_ite State.pending, ite_self]; done))
theorem execFloorExit_pending (s : State) : ∀ t, (execFloorExit s) = .next t → t.pending = s.pending := by
  intro t ht; simp -implicitDefEqProofs only [execFloorExit] at ht; (repeat' split at ht) <;> (first | (rw [← Host.Outcome.next.inj ht]; done) | (rw [← Host.Outcome.next.inj ht]; simp -implicitDefEqProofs only [State.hold_pending, State.setClock_pending, State.setPw_pending, apply_ite State.pending, ite_self]; done))
theorem execDroopDetect_pending (edges : Nat) (s : State) : ∀ t, (execDroopDetect edges s) = .next t → t.pending = s.pending := by
  intro t ht; simp -implicitDefEqProofs only [execDroopDetect] at ht; (repeat' split at ht) <;> (first | (rw [← Host.Outcome.next.inj ht]; done) | (rw [← Host.Outcome.next.inj ht]; simp -implicitDefEqProofs only [State.bump_pending, State.setBed_pending, State.hold_pending, State.setPw_pending, foldl_pending, foldlP_pending, implies_true, apply_ite State.pending, ite_self]; done))
theorem execSustainedDroop_pending (s : State) : ∀ t, (execSustainedDroop s) = .next t → t.pending = s.pending := by
  intro t ht; simp -implicitDefEqProofs only [execSustainedDroop] at ht; (repeat' split at ht) <;> (first | (rw [← Host.Outcome.next.inj ht]; done) | (rw [← Host.Outcome.next.inj ht]; simp -implicitDefEqProofs only [State.evt_pending, State.hold_pending, State.floorCause_pending, apply_ite State.pending, ite_self]; done))
theorem execMarginCheck_pending (monitor : Nat) (below : Bool) (s : State) : ∀ t, (execMarginCheck monitor below s) = .next t → t.pending = s.pending := by
  intro t ht; simp -implicitDefEqProofs only [execMarginCheck] at ht; (repeat' split at ht) <;> (first | (rw [← Host.Outcome.next.inj ht]; done) | (rw [← Host.Outcome.next.inj ht]; simp -implicitDefEqProofs only [State.put_pending, State.raiseTrim_pending, State.setPw_pending, apply_ite State.pending, ite_self]; done))
theorem execFlowFault_pending (s : State) : ∀ t, (execFlowFault s) = .next t → t.pending = s.pending := by
  intro t ht; simp -implicitDefEqProofs only [execFlowFault] at ht; (repeat' split at ht) <;> (first | (rw [← Host.Outcome.next.inj ht]; done) | (rw [← Host.Outcome.next.inj ht]; simp -implicitDefEqProofs only [State.raise_pending, State.setMem_pending, State.hold_pending, State.enterHold_pending, State.setPw_pending, apply_ite State.pending, ite_self]; done))
theorem execFlowFaultClear_pending (s : State) : ∀ t, (execFlowFaultClear s) = .next t → t.pending = s.pending := by
  intro t ht; simp -implicitDefEqProofs only [execFlowFaultClear] at ht; rw [← Host.Outcome.next.inj ht]; simp -implicitDefEqProofs only [State.setMem_pending, State.serveWaits_pending, State.setPw_pending]
@[simp] theorem State.enterDormant_pending (s : State) (cause : Nat) : (State.enterDormant s cause).pending = s.pending := by
  simp -implicitDefEqProofs only [State.enterDormant, State.releaseLine_pending, State.beginTransition_pending, foldl_pending, foldlP_pending, implies_true]
theorem execFlowFaultDormant_pending (s : State) : ∀ t, (execFlowFaultDormant s) = .next t → t.pending = s.pending := by
  intro t ht; simp -implicitDefEqProofs only [execFlowFaultDormant] at ht; (repeat' split at ht) <;> (first | (rw [← Host.Outcome.next.inj ht]; done) | (rw [← Host.Outcome.next.inj ht]; simp -implicitDefEqProofs only [State.hold_pending, State.enterDormant_pending, apply_ite State.pending, ite_self]; done))
theorem execThermTrip_pending (sensor : Nat) (celsius : Nat) (s : State) : ∀ t, (execThermTrip sensor celsius s) = .next t → t.pending = s.pending := by
  intro t ht; simp -implicitDefEqProofs only [execThermTrip] at ht; (repeat' split at ht) <;> (first | (rw [← Host.Outcome.next.inj ht]; done) | (rw [← Host.Outcome.next.inj ht]; simp -implicitDefEqProofs only [State.put_pending, State.record_pending, State.enterOff_pending, State.setPw_pending, apply_ite State.pending, ite_self]; done))
@[simp] theorem State.thermStep_pending (s : State) : (State.thermStep s).pending = s.pending := by
  simp -implicitDefEqProofs only [State.thermStep, State.put_pending, State.raise_pending, State.setClock_pending, State.setPw_pending, apply_ite State.pending, ite_self]
theorem execJunctionSensorRead_pending (sensor : Nat) (celsius : Nat) (s : State) : ∀ t, (execJunctionSensorRead sensor celsius s) = .next t → t.pending = s.pending := by
  intro t ht; simp -implicitDefEqProofs only [execJunctionSensorRead] at ht; (repeat' split at ht) <;> (first | (rw [← Host.Outcome.next.inj ht]; done) | (rw [← Host.Outcome.next.inj ht]; simp -implicitDefEqProofs only [State.put_pending, State.setPw_pending, State.thermStep_pending, apply_ite State.pending, ite_self]; done))
theorem execThrottleRestore_pending (s : State) : ∀ t, (execThrottleRestore s) = .next t → t.pending = s.pending := by
  intro t ht; simp -implicitDefEqProofs only [execThrottleRestore] at ht; (repeat' split at ht) <;> (first | (rw [← Host.Outcome.next.inj ht]; done) | (rw [← Host.Outcome.next.inj ht]; simp -implicitDefEqProofs only [State.put_pending, State.setClock_pending, State.setPw_pending, apply_ite State.pending, ite_self]; done))
@[simp] theorem State.wipeCores_pending (s : State) : (State.wipeCores s).pending = s.pending := by
  simp -implicitDefEqProofs only [State.wipeCores]
@[simp] theorem State.wipeDevice_pending (s : State) : (State.wipeDevice s).pending = s.pending := by
  simp -implicitDefEqProofs only [State.wipeDevice, State.put_pending, State.setMem_pending, foldl_pending, foldlP_pending, implies_true]
@[simp] theorem State.reachOff_pending (s : State) : (State.reachOff s).pending = s.pending := by
  simp -implicitDefEqProofs only [State.reachOff, State.put_pending, State.setDomains_pending, State.setPw_pending, State.wipeDevice_pending, apply_ite State.pending, ite_self]
@[simp] theorem State.sleepBridges_pending (s : State) : (State.sleepBridges s).pending = s.pending := by
  simp -implicitDefEqProofs only [State.sleepBridges, State.put_pending, foldl_pending, foldlP_pending, implies_true]
@[simp] theorem State.wakeBridges_pending (s : State) : (State.wakeBridges s).pending = s.pending := by
  simp -implicitDefEqProofs only [State.wakeBridges, State.put_pending, State.setSession_pending, State.startScrub_pending, foldl_pending, foldlP_pending, implies_true, apply_ite State.pending, ite_self]
@[simp] theorem State.checkAnchor_pending (s : State) (b : Nat) : (State.checkAnchor s b).pending = s.pending := by
  (simp -implicitDefEqProofs only [State.checkAnchor]; (repeat' split) <;> (first | (with_reducible rfl) | simp -implicitDefEqProofs only [State.record_pending, State.copyLists_pending, State.setSeq_pending, State.dropPending_pending, State.unloadSlot_pending, apply_ite State.pending, ite_self]))
@[simp] theorem State.dormantPorts_pending (s : State) : (State.dormantPorts s).pending = s.pending := by
  simp -implicitDefEqProofs only [State.dormantPorts, State.put_pending, State.portDown_pending, foldl_pending, foldlP_pending, implies_true, apply_ite State.pending, ite_self]
@[simp] theorem State.wakePorts_pending (s : State) : (State.wakePorts s).pending = s.pending := by
  simp -implicitDefEqProofs only [State.wakePorts, State.sendBeat_pending, State.train_pending, foldl_pending, foldlP_pending, implies_true, apply_ite State.pending, ite_self]
@[simp] theorem State.resetEndpoint_pending (s : State) : (State.resetEndpoint s).pending = s.pending := by
  simp -implicitDefEqProofs only [State.resetEndpoint, State.resetFields_pending, State.raise_pending]
@[simp] theorem State.linkTrained_pending (s : State) : (State.linkTrained s).pending = s.pending := by
  simp -implicitDefEqProofs only [State.linkTrained, State.put_pending]
theorem execPowerTransitionComplete_pending (s : State) : ∀ t, (execPowerTransitionComplete s) = .next t → t.pending = s.pending := by
  intro t ht; simp -implicitDefEqProofs only [execPowerTransitionComplete] at ht; (repeat' split at ht) <;> (first | (rw [← Host.Outcome.next.inj ht]; done) | (rw [← Host.Outcome.next.inj ht]; simp -implicitDefEqProofs only [State.put_pending, State.hold_pending, State.setPower_pending, State.wipeCores_pending, State.reachOff_pending, State.sleepBridges_pending, State.wakeBridges_pending, State.checkAnchor_pending, State.dormantPorts_pending, State.wakePorts_pending, State.resetEndpoint_pending, State.linkTrained_pending, foldl_pending, foldlP_pending, implies_true, apply_ite State.pending, ite_self]; done))
theorem execClustersOn_pending (s : State) : ∀ t, (execClustersOn s) = .next t → t.pending = s.pending := by
  intro t ht; simp -implicitDefEqProofs only [execClustersOn] at ht; (repeat' split at ht) <;> (first | (rw [← Host.Outcome.next.inj ht]; done) | (rw [← Host.Outcome.next.inj ht]; simp -implicitDefEqProofs only [State.hold_pending, State.setPower_pending, State.setClock_pending, apply_ite State.pending, ite_self]; done))
@[simp] theorem State.askPower_pending (s : State) (target : Nat) : (State.askPower s target).2.pending = s.pending := by
  (simp -implicitDefEqProofs only [State.askPower]; (repeat' split) <;> (first | (with_reducible rfl) | simp -implicitDefEqProofs only [State.hold_pending, State.beginTransition_pending, State.enterHold_pending, State.enterOff_pending, State.enterDormant_pending, apply_ite State.pending, ite_self]))
theorem execPowerUp_pending (s : State) : ∀ t, (execPowerUp s) = .next t → t.pending = s.pending := by
  intro t ht; simp -implicitDefEqProofs only [execPowerUp] at ht; (repeat' split at ht) <;> (first | (rw [← Host.Outcome.next.inj ht]; done) | (rw [← Host.Outcome.next.inj ht]; simp -implicitDefEqProofs only [State.hold_pending, State.readHdr_pending, State.setPw_pending, apply_ite State.pending, ite_self]; done))
@[simp] theorem State.markFailed_pending (s : State) (k : Nat) : (State.markFailed s k).pending = s.pending := by
  simp -implicitDefEqProofs only [State.markFailed, State.setPw_pending]
@[simp] theorem State.fallBack_pending (s : State) (k : Nat) : (State.fallBack s k).pending = s.pending := by
  simp -implicitDefEqProofs only [State.fallBack, State.put_pending, State.raise_pending, State.markFailed_pending]
@[simp] theorem State.failSlot_pending (s : State) (k : Nat) : (State.failSlot s k).pending = s.pending := by
  simp -implicitDefEqProofs only [State.failSlot, State.markFailed_pending, State.fallBack_pending, apply_ite State.pending, ite_self]
@[simp] theorem State.bootPages_pending (s : State) : (State.bootPages s).pending = s.pending := by
  simp -implicitDefEqProofs only [State.bootPages, State.put_pending, State.train_pending, foldl_pending, foldlP_pending, implies_true]
@[simp] theorem State.bootSession_pending (s : State) (p : Nat) : (State.bootSession s p).pending = s.pending := by
  simp -implicitDefEqProofs only [State.bootSession, State.put_pending, State.bump_pending, State.setSession_pending, State.doLock_pending, State.startScrub_pending, foldl_pending, foldlP_pending, implies_true, apply_ite State.pending, ite_self]
@[simp] theorem State.bootWith_pending (s : State) (k : Nat) : (State.bootWith s k).pending = s.pending := by
  simp -implicitDefEqProofs only [State.bootWith, State.put_pending, State.record_pending, State.hold_pending, State.setPower_pending, State.seqFromTime_pending, State.setPw_pending, State.linkTrained_pending, State.bootPages_pending, State.bootSession_pending, foldl_pending, foldlP_pending, implies_true, apply_ite State.pending, ite_self]
@[simp] theorem State.enterRecovery_pending (s : State) : (State.enterRecovery s).pending = s.pending := by
  simp -implicitDefEqProofs only [State.enterRecovery, State.put_pending, State.setPw_pending]
@[simp] theorem State.trySlot_pending (s : State) (k : Nat) (complete : Bool) : (State.trySlot s k complete).pending = s.pending := by
  simp -implicitDefEqProofs only [State.trySlot, State.failSlot_pending, State.bootWith_pending, State.enterRecovery_pending, apply_ite State.pending, ite_self]
theorem execBoot_pending (s : State) (complete : Bool) : ∀ t, (execBoot s complete) = .next t → t.pending = s.pending := by
  intro t ht; simp -implicitDefEqProofs only [execBoot] at ht; (repeat' split at ht) <;> (first | (rw [← Host.Outcome.next.inj ht]; done) | (rw [← Host.Outcome.next.inj ht]; simp -implicitDefEqProofs only [State.enterRecovery_pending, State.trySlot_pending, apply_ite State.pending, ite_self]; done))
@[simp] theorem State.resetSecurity_pending (s : State) : (State.resetSecurity s).pending = s.pending := by
  simp -implicitDefEqProofs only [State.resetSecurity, State.resetFields_pending]
theorem execDeviceReset_pending (sysReset : Bool) (s : State) : ∀ t, (execDeviceReset sysReset s) = .next t → t.pending = s.pending := by
  intro t ht; simp -implicitDefEqProofs only [execDeviceReset] at ht; (repeat' split at ht) <;> (first | (rw [← Host.Outcome.next.inj ht]; done) | (rw [← Host.Outcome.next.inj ht]; simp -implicitDefEqProofs only [State.setDomains_pending, State.endSessions_pending, State.seqFromTime_pending, State.finishStore_pending, State.setPw_pending, State.wipeDevice_pending, State.resetSecurity_pending, apply_ite State.pending, ite_self]; done))
theorem execKeeperStop_pending (s : State) : ∀ t, (execKeeperStop s) = .next t → t.pending = s.pending := by
  intro t ht; simp -implicitDefEqProofs only [execKeeperStop] at ht; (repeat' split at ht) <;> (first | (rw [← Host.Outcome.next.inj ht]; done) | (rw [← Host.Outcome.next.inj ht]; simp -implicitDefEqProofs only [State.finishStore_pending, State.setPw_pending, State.wipeDevice_pending, apply_ite State.pending, ite_self]; done))
@[simp] theorem State.keeperUp_pending (s : State) : (State.keeperUp s).pending = s.pending := by
  simp -implicitDefEqProofs only [State.keeperUp, State.put_pending, State.setDomains_pending, State.setRec_pending, State.checkProt_pending, State.setPw_pending]
theorem execVauxRise_pending (s : State) : ∀ t, (execVauxRise s) = .next t → t.pending = s.pending := by
  intro t ht; simp -implicitDefEqProofs only [execVauxRise] at ht; (repeat' split at ht) <;> (first | (rw [← Host.Outcome.next.inj ht]; done) | (rw [← Host.Outcome.next.inj ht]; simp -implicitDefEqProofs only [State.setPw_pending, State.keeperUp_pending, apply_ite State.pending, ite_self]; done))
theorem execCpWatchdogTimeout_pending (s : State) : ∀ t, (execCpWatchdogTimeout s) = .next t → t.pending = s.pending := by
  intro t ht; simp -implicitDefEqProofs only [execCpWatchdogTimeout] at ht; (repeat' split at ht) <;> (first | (rw [← Host.Outcome.next.inj ht]; done) | (rw [← Host.Outcome.next.inj ht]; simp -implicitDefEqProofs only [State.record_pending, State.setPw_pending, apply_ite State.pending, ite_self]; done))
theorem execCpRestartComplete_pending (s : State) : ∀ t, (execCpRestartComplete s) = .next t → t.pending = s.pending := by
  intro t ht; simp -implicitDefEqProofs only [execCpRestartComplete] at ht; rw [← Host.Outcome.next.inj ht]; simp -implicitDefEqProofs only [State.setPw_pending]
theorem execCpRestartLimit_pending (s : State) : ∀ t, (execCpRestartLimit s) = .next t → t.pending = s.pending := by
  intro t ht; simp -implicitDefEqProofs only [execCpRestartLimit] at ht; (repeat' split at ht) <;> (first | (rw [← Host.Outcome.next.inj ht]; done) | (rw [← Host.Outcome.next.inj ht]; simp -implicitDefEqProofs only [State.record_pending, State.enterHold_pending, State.setPw_pending, apply_ite State.pending, ite_self]; done))
theorem execLedgerEntryWrite_pending (part : Bed) (s : State) : ∀ t, (execLedgerEntryWrite part s) = .next t → t.pending = s.pending := by
  intro t ht; simp -implicitDefEqProofs only [execLedgerEntryWrite] at ht; (repeat' split at ht) <;> (first | (rw [← Host.Outcome.next.inj ht]; done) | (rw [← Host.Outcome.next.inj ht]; simp -implicitDefEqProofs only [State.setNoise_pending, State.onStep_pending, State.feed_pending]; done))
theorem execLedgerStall_pending (part : Bed) (s : State) : ∀ t, (execLedgerStall part s) = .next t → t.pending = s.pending := by
  intro t ht; simp -implicitDefEqProofs only [execLedgerStall] at ht; (repeat' split at ht) <;> (first | (rw [← Host.Outcome.next.inj ht]; done) | (rw [← Host.Outcome.next.inj ht]; simp -implicitDefEqProofs only [State.put_pending, State.record_pending, State.evt_pending, State.enterHold_pending, apply_ite State.pending, ite_self]; done))
theorem execDrbgReseed_pending (part : Bed) (ok : Bool) (s : State) : ∀ t, (execDrbgReseed part ok s) = .next t → t.pending = s.pending := by
  intro t ht; simp -implicitDefEqProofs only [execDrbgReseed] at ht; rw [← Host.Outcome.next.inj ht]; simp -implicitDefEqProofs only [State.reseedFail_pending, State.reseedOk_pending, State.tick_pending, apply_ite State.pending, ite_self]
theorem execEntropyHealthFail_pending (s : State) : ∀ t, (execEntropyHealthFail s) = .next t → t.pending = s.pending := by
  intro t ht; simp -implicitDefEqProofs only [execEntropyHealthFail] at ht; (repeat' split at ht) <;> (first | (rw [← Host.Outcome.next.inj ht]; done) | (rw [← Host.Outcome.next.inj ht]; simp -implicitDefEqProofs only [State.put_pending, State.raise_pending, State.setNoise_pending, foldl_pending, foldlP_pending, implies_true, apply_ite State.pending, ite_self]; done))
@[simp] theorem State.turnDown_pending (s : State) (c : Cmd) (req : Req) (authOk : Bool) (arg : Nat) (st : Nat) : (State.turnDown s c req authOk arg st).pending = s.pending := by
  simp -implicitDefEqProofs only [State.turnDown, State.bump_pending, State.evt_pending, State.raise_pending, State.reply_pending, State.refuse_pending, apply_ite State.pending, ite_self]
theorem State.command_pending (s : State) (c : Cmd) (req : Req) (authOk : Bool) (own : List (Bool × Nat)) (ok : State → State) (arg : Nat) (hok : ∀ (u : State), (ok u).pending = u.pending) : ∀ t, (State.command s c req authOk own ok arg) = .next t → t.pending = s.pending := by
  intro t ht; simp -implicitDefEqProofs only [State.command] at ht; (repeat' split at ht) <;> (first | (rw [← Host.Outcome.next.inj ht]; done) | (rw [← Host.Outcome.next.inj ht]; simp -implicitDefEqProofs only [State.turnDown_pending, hok, apply_ite State.pending, ite_self]; done))
@[simp] theorem State.done_pending (s : State) (data : List Byte) : (State.done s data).pending = s.pending := by
  simp -implicitDefEqProofs only [State.done, State.reply_pending]
@[simp] theorem State.useNonce_pending (s : State) (req : Req) : (State.useNonce s req).pending = s.pending := by
  (simp -implicitDefEqProofs only [State.useNonce]; (repeat' split) <;> (first | (with_reducible rfl) | simp -implicitDefEqProofs only []))
theorem execGetStatus_pending (req : Req) (s : State) : ∀ t, (execGetStatus req s) = .next t → t.pending = s.pending := by
  intro t ht; simp -implicitDefEqProofs only [execGetStatus] at ht; (refine State.command_pending _ _ _ _ _ _ _ ?_ _ ht) <;> (intros; simp -implicitDefEqProofs only [State.done_pending])
theorem execGetNonce_pending (req : Req) (s : State) : ∀ t, (execGetNonce req s) = .next t → t.pending = s.pending := by
  intro t ht; simp -implicitDefEqProofs only [execGetNonce] at ht; (refine State.command_pending _ _ _ _ _ _ _ ?_ _ ht) <;> (intros; simp -implicitDefEqProofs only [State.drawBytes_pending, State.done_pending])
theorem execReadPower_pending (req : Req) (s : State) : ∀ t, (execReadPower req s) = .next t → t.pending = s.pending := by
  intro t ht; simp -implicitDefEqProofs only [execReadPower] at ht; (refine State.command_pending _ _ _ _ _ _ _ ?_ _ ht) <;> (intros; simp -implicitDefEqProofs only [State.draw_pending, State.done_pending, apply_ite State.pending, ite_self])
theorem execSetPowerState_pending (req : Req) (target : Nat) (s : State) : ∀ t, (execSetPowerState req target s) = .next t → t.pending = s.pending := by
  intro t ht; simp -implicitDefEqProofs only [execSetPowerState] at ht; (refine State.command_pending _ _ _ _ _ _ _ ?_ _ ht) <;> (intros; simp -implicitDefEqProofs only [State.askPower_pending, State.done_pending])
theorem execHaltAndHold_pending (req : Req) (s : State) : ∀ t, (execHaltAndHold req s) = .next t → t.pending = s.pending := by
  intro t ht; simp -implicitDefEqProofs only [execHaltAndHold] at ht; (repeat' split at ht) <;> (first | (rw [← Host.Outcome.next.inj ht]; done) | (rw [← Host.Outcome.next.inj ht]; simp -implicitDefEqProofs only [State.enterHold_pending, State.done_pending, apply_ite State.pending, ite_self]; done))
theorem execEvrRead_pending (req : Req) (first : Nat) (s : State) : ∀ t, (execEvrRead req first s) = .next t → t.pending = s.pending := by
  intro t ht; simp -implicitDefEqProofs only [execEvrRead] at ht; (refine State.command_pending _ _ _ _ _ _ _ ?_ _ ht) <;> (intros; simp -implicitDefEqProofs only [State.markRead_pending, State.done_pending, foldl_pending, foldlP_pending, implies_true])
theorem execEvrFreeze_pending (req : Req) (s : State) : ∀ t, (execEvrFreeze req s) = .next t → t.pending = s.pending := by
  intro t ht; simp -implicitDefEqProofs only [execEvrFreeze] at ht; (refine State.command_pending _ _ _ _ _ _ _ ?_ _ ht) <;> (intros; simp -implicitDefEqProofs only [State.askFreeze_pending, State.done_pending])
theorem execEvrUnfreeze_pending (req : Req) (s : State) : ∀ t, (execEvrUnfreeze req s) = .next t → t.pending = s.pending := by
  intro t ht; simp -implicitDefEqProofs only [execEvrUnfreeze] at ht; (refine State.command_pending _ _ _ _ _ _ _ ?_ _ ht) <;> (intros; simp -implicitDefEqProofs only [State.endFreeze_pending, State.done_pending])
@[simp] theorem State.clearSlots_pending (s : State) (scope : Nat) (upTo : Nat) : (State.clearSlots s scope upTo).pending = s.pending := by
  simp -implicitDefEqProofs only [State.clearSlots, State.enqueue_pending, State.evt_pending, State.spend_pending, State.setRec_pending, State.writeBatch_pending]
theorem execEvrClear_pending (req : Req) (scope : Nat) (upToSeq : Nat) (s : State) : ∀ t, (execEvrClear req scope upToSeq s) = .next t → t.pending = s.pending := by
  intro t ht
  refine State.command_pending _ _ _ _ _ _ _ ?_ t ht
  intro u
  rw [State.done_pending, State.clearSlots_pending, State.finishStore_pending, State.useNonce_pending]
@[simp] theorem State.holdArm_pending (s : State) (p : Nat) (addr : Nat) (f : File) : (State.holdArm s p addr f).pending = s.pending := by
  (simp -implicitDefEqProofs only [State.holdArm]; (repeat' split) <;> (first | (with_reducible rfl) | simp -implicitDefEqProofs only [State.put_pending, State.readSpan_pending, State.writeSpan_pending]))
theorem execArmatureLoad_pending (req : Req) (addr : Nat) (len : Nat) (s : State) : ∀ t, (execArmatureLoad req addr len s) = .next t → t.pending = s.pending := by
  intro t ht; simp -implicitDefEqProofs only [execArmatureLoad] at ht; (refine State.command_pending _ _ _ _ _ _ _ ?_ _ ht) <;> (intros; simp -implicitDefEqProofs only [State.done_pending, State.holdArm_pending, apply_ite State.pending, ite_self])
theorem execArmatureUnload_pending (req : Req) (armId : Nat) (s : State) : ∀ t, (execArmatureUnload req armId s) = .next t → t.pending = s.pending := by
  intro t ht
  refine State.command_pending _ _ _ _ _ _ _ ?_ t ht
  intro u
  rw [State.done_pending]
  split
  · exact State.unloadSlot_pending ..
  · rfl
@[simp] theorem State.setOrigin_pending (s : State) (b : Nat) (f : File) (a : Start) : (State.setOrigin s b f a).pending = s.pending := by
  simp -implicitDefEqProofs only [State.setOrigin, State.put_pending, State.setBed_pending, apply_ite State.pending, ite_self]
@[simp] theorem State.armBed_pending (s : State) (slot : Nat) (f : File) (a : Start) (b : Nat) : (State.armBed s slot f a b).pending = s.pending := by
  simp -implicitDefEqProofs only [State.armBed, State.put_pending, State.setBed_pending, State.setSeq_pending, State.setOrigin_pending, apply_ite State.pending, ite_self]
theorem execArmatureActivate_pending (req : Req) (armId : Nat) (startFrame : Nat) (startStep : Nat) (startEpoch : Nat) (startTime : Nat) (s : State) : ∀ t, (execArmatureActivate req armId startFrame startStep startEpoch startTime s) = .next t → t.pending = s.pending := by
  intro t ht; simp -implicitDefEqProofs only [execArmatureActivate] at ht; (refine State.command_pending _ _ _ _ _ _ _ ?_ _ ht) <;> (intros; simp -implicitDefEqProofs only [State.done_pending, State.armBed_pending, foldl_pending, foldlP_pending, implies_true, apply_ite State.pending, ite_self])
@[simp] theorem State.joinOrigin_pending (s : State) (q : Nat) (hash : Nat) (step : Nat) : (State.joinOrigin s q hash step).pending = s.pending := by
  simp -implicitDefEqProofs only [State.joinOrigin]
  exact foldl_pending _ (fun u b => by simp -implicitDefEqProofs only [State.put_pending, State.setBed_pending]) _ _
@[simp] theorem State.joinOrigins_pending (s : State) : (State.joinOrigins s).pending = s.pending := by
  simp -implicitDefEqProofs (disch := (intros; (repeat' split) <;> try simp -implicitDefEqProofs only [State.joinOrigin_pending, foldl_pending, foldlP_pending, implies_true, apply_ite State.pending, ite_self])) only [State.joinOrigins, State.joinOrigin_pending, foldl_pending, foldlP_pending, implies_true, apply_ite State.pending, ite_self]
theorem execTimeResponseReceive_pending (port : Port) (packet : Packet) (s : State) : ∀ t, (execTimeResponseReceive port packet s) = .next t → t.pending = s.pending := by
  intro t ht; simp -implicitDefEqProofs only [execTimeResponseReceive] at ht; (refine State.consume_pending _ _ _ _ _ ?_ _ ht) <;> (intros; simp -implicitDefEqProofs only [State.timeResponseIn_pending, State.tryKey_pending, State.joinOrigins_pending, foldl_pending, foldlP_pending, implies_true, apply_ite State.pending, ite_self])
theorem execGraftPlan_pending (req : Req) (memberHash : Nat) (step : Nat) (s : State) : ∀ t, (execGraftPlan req memberHash step s) = .next t → t.pending = s.pending := by
  intro t ht; simp -implicitDefEqProofs only [execGraftPlan] at ht; (refine State.command_pending _ _ _ _ _ _ _ ?_ _ ht) <;> (intros; simp -implicitDefEqProofs only [State.setPart_pending, State.keyAnew_pending, State.done_pending, State.joinOrigin_pending, implies_true, apply_ite State.pending, ite_self])
theorem execRegrow_pending (req : Req) (partner : Nat) (source : Nat) (cutStep : Nat) (partnerValid : Bool) (sourceHolds : Bool) (s : State) : ∀ t, (execRegrow req partner source cutStep partnerValid sourceHolds s) = .next t → t.pending = s.pending := by
  intro t ht; simp -implicitDefEqProofs only [execRegrow] at ht; (refine State.command_pending _ _ _ _ _ _ _ ?_ _ ht) <;> (intros; simp -implicitDefEqProofs only [State.setPart_pending, State.forgetUpdates_pending, State.done_pending, apply_ite State.pending, ite_self])
@[simp] theorem State.beginTransfer_pending (s : State) (b : Nat) (c : Nat) (x : Nat) : (State.beginTransfer s b c x).pending = s.pending := by
  simp -implicitDefEqProofs only [State.beginTransfer, State.put_pending, State.setCores_pending]
@[simp] theorem State.loadTile_pending (s : State) (b : Nat) (c : Nat) (x : Transfer) (d : Desc) (i : Nat) : (State.loadTile s b c x d i).pending = s.pending := by
  (simp -implicitDefEqProofs only [State.loadTile]; (repeat' split) <;> (first | (with_reducible rfl) | simp -implicitDefEqProofs only [State.readSpan_pending, State.localPut_pending, State.raiseFlags_pending, apply_ite State.pending, ite_self]))
@[simp] theorem State.prefetchTile_pending (s : State) (b : Nat) (x : Transfer) (d : Desc) (i : Nat) : (State.prefetchTile s b x d i).pending = s.pending := by
  simp -implicitDefEqProofs only [State.prefetchTile, State.readSpan_pending, apply_ite State.pending, ite_self]
@[simp] theorem State.unpinLine_pending (s : State) (b : Nat) (cls : Nat) (l : Nat) (drop : Bool) : (State.unpinLine s b cls l drop).pending = s.pending := by
  (simp -implicitDefEqProofs only [State.unpinLine]; (repeat' split) <;> (first | (with_reducible rfl) | simp -implicitDefEqProofs only [State.countFault_pending, State.meter_pending, State.releaseLine_pending, State.dropLine_pending, apply_ite State.pending, ite_self]))
theorem State.transfer_pending (s : State) (bed : Bed) (core : Core) (ctx : Ctx) (op : Nat) (f : State → Transfer → Desc → State) (hf : ∀ (u : State) (w1 : Transfer) (w2 : Desc), (f u w1 w2).pending = u.pending) : ∀ t, (State.transfer s bed core ctx op f) = .next t → t.pending = s.pending := by
  intro t ht; simp -implicitDefEqProofs only [State.transfer] at ht; (repeat' split at ht) <;> (first | (rw [← Host.Outcome.next.inj ht]; done) | (rw [← Host.Outcome.next.inj ht]; simp -implicitDefEqProofs only [State.beginTransfer_pending, hf, apply_ite State.pending, ite_self]; done))
theorem execTransferLoad_pending (bed : Bed) (core : Core) (ctx : Ctx) (s : State) : ∀ t, (execTransferLoad bed core ctx s) = .next t → t.pending = s.pending := by
  intro t ht; simp -implicitDefEqProofs only [execTransferLoad] at ht; (refine State.transfer_pending _ _ _ _ _ _ ?_ _ ht) <;> (intros; simp -implicitDefEqProofs only [State.count_pending, State.loadTile_pending, foldl_pending, foldlP_pending, implies_true])
theorem execTransferPrefetch_pending (bed : Bed) (core : Core) (ctx : Ctx) (s : State) : ∀ t, (execTransferPrefetch bed core ctx s) = .next t → t.pending = s.pending := by
  intro t ht; simp -implicitDefEqProofs only [execTransferPrefetch] at ht; (refine State.transfer_pending _ _ _ _ _ _ ?_ _ ht) <;> (intros; simp -implicitDefEqProofs only [State.count_pending, State.prefetchTile_pending, foldl_pending, foldlP_pending, implies_true])
theorem execTransferRelease_pending (bed : Bed) (core : Core) (ctx : Ctx) (s : State) : ∀ t, (execTransferRelease bed core ctx s) = .next t → t.pending = s.pending := by
  intro t ht; simp -implicitDefEqProofs only [execTransferRelease] at ht; (refine State.transfer_pending _ _ _ _ _ _ ?_ _ ht) <;> (intros; simp -implicitDefEqProofs only [State.unpinLine_pending, foldl_pending, foldlP_pending, implies_true])
theorem execTransferDrop_pending (bed : Bed) (core : Core) (ctx : Ctx) (s : State) : ∀ t, (execTransferDrop bed core ctx s) = .next t → t.pending = s.pending := by
  intro t ht; simp -implicitDefEqProofs only [execTransferDrop] at ht; (refine State.transfer_pending _ _ _ _ _ _ ?_ _ ht) <;> (intros; simp -implicitDefEqProofs only [State.unpinLine_pending, foldl_pending, foldlP_pending, implies_true])
theorem execTransferComplete_pending (bed : Bed) (core : Core) (ctx : Ctx) (s : State) : ∀ t, (execTransferComplete bed core ctx s) = .next t → t.pending = s.pending := by
  intro t ht; simp -implicitDefEqProofs only [execTransferComplete] at ht; (repeat' split at ht) <;> (first | (rw [← Host.Outcome.next.inj ht]; done) | (rw [← Host.Outcome.next.inj ht]; simp -implicitDefEqProofs only [State.setCores_pending, State.compUp_pending, apply_ite State.pending, ite_self]; done))
theorem execLineRead_pending (req : MemReq) (err : LineErr) (s : State) : ∀ t, (execLineRead req err s) = .next t → t.pending = s.pending := by
  intro t ht; simp -implicitDefEqProofs only [execLineRead] at ht; rw [← Host.Outcome.next.inj ht]; simp -implicitDefEqProofs only [State.readLine_pending]
theorem execLineWrite_pending (req : MemReq) (first : Nat) (data : List Byte) (poison : Bool) (s : State) : ∀ t, (execLineWrite req first data poison s) = .next t → t.pending = s.pending := by
  intro t ht; simp -implicitDefEqProofs only [execLineWrite] at ht; (repeat' split at ht) <;> (first | (rw [← Host.Outcome.next.inj ht]; done) | (rw [← Host.Outcome.next.inj ht]; simp -implicitDefEqProofs only [State.denyWrite_pending, State.writeLine_pending, apply_ite State.pending, ite_self]; done))
theorem execPatrolScrub_pending (stack : Stack) (addr : Nat) (err : LineErr) (passDone : Bool) (s : State) : ∀ t, (execPatrolScrub stack addr err passDone s) = .next t → t.pending = s.pending := by
  intro t ht; simp -implicitDefEqProofs only [execPatrolScrub] at ht; (repeat' split at ht) <;> (first | (rw [← Host.Outcome.next.inj ht]; done) | (rw [← Host.Outcome.next.inj ht]; simp -implicitDefEqProofs only [State.bump_pending, State.stackRead_pending, apply_ite State.pending, ite_self]; done))
@[simp] theorem State.retrain_pending (s : State) (u : Nat) (ch : Nat) : (State.retrain s u ch).pending = s.pending := by
  simp -implicitDefEqProofs only [State.retrain, State.put_pending, State.bump_pending, State.setMem_pending, apply_ite State.pending, ite_self]
theorem execMemoryTrainingCheck_pending (stack : Stack) (channel : Fin 32) (ok : Bool) (s : State) : ∀ t, (execMemoryTrainingCheck stack channel ok s) = .next t → t.pending = s.pending := by
  intro t ht; simp -implicitDefEqProofs only [execMemoryTrainingCheck] at ht; (repeat' split at ht) <;> (first | (rw [← Host.Outcome.next.inj ht]; done) | (rw [← Host.Outcome.next.inj ht]; simp -implicitDefEqProofs only [State.record_pending, State.evt_pending, State.retrain_pending, apply_ite State.pending, ite_self]; done))
theorem execChannelRetrain_pending (stack : Stack) (channel : Fin 32) (errors : Nat) (s : State) : ∀ t, (execChannelRetrain stack channel errors s) = .next t → t.pending = s.pending := by
  intro t ht; simp -implicitDefEqProofs only [execChannelRetrain] at ht; (repeat' split at ht) <;> (first | (rw [← Host.Outcome.next.inj ht]; done) | (rw [← Host.Outcome.next.inj ht]; simp -implicitDefEqProofs only [State.put_pending, State.raise_pending, State.setMem_pending, State.retrain_pending, apply_ite State.pending, ite_self]; done))
@[simp] theorem State.fenceChannel_pending (s : State) (u : Nat) (ch : Nat) : (State.fenceChannel s u ch).pending = s.pending := by
  simp -implicitDefEqProofs only [State.fenceChannel, State.put_pending, State.evt_pending, State.raise_pending]
theorem execRetrainEnd_pending (stack : Stack) (channel : Fin 32) (ok : Bool) (s : State) : ∀ t, (execRetrainEnd stack channel ok s) = .next t → t.pending = s.pending := by
  intro t ht; simp -implicitDefEqProofs only [execRetrainEnd] at ht; (repeat' split at ht) <;> (first | (rw [← Host.Outcome.next.inj ht]; done) | (rw [← Host.Outcome.next.inj ht]; simp -implicitDefEqProofs only [State.put_pending, State.bump_pending, State.setMem_pending, State.fenceChannel_pending, apply_ite State.pending, ite_self]; done))
theorem execRefreshLate_pending (stack : Stack) (_channel : Fin 32) (s : State) : ∀ t, (execRefreshLate stack _channel s) = .next t → t.pending = s.pending := by
  intro t ht; simp -implicitDefEqProofs only [execRefreshLate] at ht; rw [← Host.Outcome.next.inj ht]; simp -implicitDefEqProofs only [State.bump_pending, State.record_pending, State.evt_pending]
theorem execStackHot_pending (stack : Stack) (celsius : Nat) (s : State) : ∀ t, (execStackHot stack celsius s) = .next t → t.pending = s.pending := by
  intro t ht; simp -implicitDefEqProofs only [execStackHot] at ht; rw [← Host.Outcome.next.inj ht]; simp -implicitDefEqProofs only [State.put_pending, State.raise_pending, apply_ite State.pending, ite_self]
@[simp] theorem State.readGrad_pending (s : State) (b : Nat) (f : File) (e : Pass) (step : Nat) (g : Nat) : (State.readGrad s b f e step g).1.pending = s.pending := by
  simp -implicitDefEqProofs only [State.readGrad, State.readSpan_pending, apply_ite State.pending, ite_self]
@[simp] theorem State.readRing_pending (s : State) (b : Nat) (f : File) (layer : Nat) (step : Nat) : (State.readRing s b f layer step).1.pending = s.pending := by
  simp -implicitDefEqProofs only [State.readRing, State.readSpan_pending, apply_ite State.pending, ite_self]
@[simp] theorem State.readGroup_pending (s : State) (b : Nat) (e : Pass) (g : Nat) : (State.readGroup s b e g).1.pending = s.pending := by
  simp -implicitDefEqProofs only [State.readGroup, State.readSpan_pending]
theorem State.readOld_pending (s : State) (b : Nat) (f : File) (e : Pass) (step g : Nat) : (s.readOld b f e step g).st.pending = s.pending := by
  simp -implicitDefEqProofs only [State.readOld]
  split
  · simp -implicitDefEqProofs only [State.readRing_pending]
  · split <;> simp -implicitDefEqProofs only [State.readRing_pending, State.readGrad_pending]
@[simp] theorem State.runGroup_pending (s : State) (b : Nat) (f : File) (e : Pass) (step : Nat) (g : Nat) (ratio : Nat) (skip : Bool) : (State.runGroup s b f e step g ratio skip).1.pending = s.pending := by
  simp -implicitDefEqProofs only [State.runGroup]
  split
  · rw [State.readOld_pending]; split
    · exact State.readGroup_pending ..
    · rw [State.readGrad_pending, State.readGroup_pending]
  · dsimp only; split
    · exact State.readGroup_pending ..
    · rw [State.readGrad_pending, State.readGroup_pending]
@[simp] theorem State.writeGroup_pending (s : State) (b : Nat) (x : GroupIn) (bs : List Byte) (lines : List Nat) : (State.writeGroup s b x bs lines).pending = s.pending := by
  simp -implicitDefEqProofs only [State.writeGroup, State.writeLine_pending, foldl_pending, foldlP_pending, implies_true]
@[simp] theorem State.countN_pending (s : State) (p : Page) (f : Fld) (n : Nat) : (State.countN s p f n).pending = s.pending := by
  simp -implicitDefEqProofs only [State.countN, State.bump_pending, apply_ite State.pending, ite_self]
@[simp] theorem State.countBlock_pending (s : State) (u : Nat) (q : Nat) (layer : Nat) (step : Nat) (o : BlkOut) : (State.countBlock s u q layer step o).pending = s.pending := by
  simp -implicitDefEqProofs only [State.countBlock, apply_ite State.pending, State.record_pending, State.onceDo_pending, State.raise_pending, State.bump_pending, State.countN_pending, ite_self, implies_true]
@[simp] theorem State.countGroup_pending (s : State) (u : Nat) (q : Nat) (layer : Nat) (step : Nat) (x : GroupIn) (e : Pass) (g : Nat) (os : List BlkOut) : (State.countGroup s u q layer step x e g os).pending = s.pending := by
  simp -implicitDefEqProofs only [State.countGroup, State.bump_pending, State.raise_pending, State.countBlock_pending, foldl_pending, foldlP_pending, implies_true, apply_ite State.pending, ite_self]
@[simp] theorem State.countRsv_pending (s : State) (u : Nat) (n : Nat) : (State.countRsv s u n).pending = s.pending := by
  simp -implicitDefEqProofs only [State.countRsv, State.put_pending, apply_ite State.pending, ite_self]
@[simp] theorem State.readNorm_pending (s : State) (b : Nat) (f : File) (layer : Nat) : (State.readNorm s b f layer).1.pending = s.pending := by
  simp -implicitDefEqProofs only [State.readNorm, State.readSpan_pending, apply_ite State.pending, ite_self]
@[simp] theorem State.layerRatio_pending (s : State) (b : Nat) (f : File) (layer : Nat) (step : Nat) (skip : Bool) : (State.layerRatio s b f layer step skip).1.pending = s.pending := by
  (simp -implicitDefEqProofs only [State.layerRatio]; (repeat' split) <;> (first | (with_reducible rfl) | simp -implicitDefEqProofs only [State.put_pending, State.writeSpan_pending, State.readNorm_pending, apply_ite State.pending, ite_self]))
@[simp] theorem State.writeNorm_pending (s : State) (b : Nat) (f : File) (layer : Nat) (step : Nat) (r : Nat) : (State.writeNorm s b f layer step r).pending = s.pending := by
  simp -implicitDefEqProofs only [State.writeNorm, State.writeSpan_pending, State.readNorm_pending]
@[simp] theorem State.mirror_pending (s : State) (u : Nat) (f : File) (step : Nat) (x : GroupIn) (bs : List Byte) : (State.mirror s u f step x bs).pending = s.pending := by
  simp -implicitDefEqProofs only [State.mirror, State.put_pending, State.bump_pending, State.send_pending, foldl_pending, foldlP_pending, implies_true, apply_ite State.pending, ite_self]
@[simp] theorem State.writeWork_pending (s : State) (b : Nat) (d : Desc) (tile : Nat) (vals : List Nat) (lo : Nat) (hi : Nat) : (State.writeWork s b d tile vals lo hi).pending = s.pending := by
  simp -implicitDefEqProofs only [State.writeWork]
  split
  · exact foldl_pending _ (fun u b => State.writeSpan_pending ..) _ _
  · exact (State.writeSpan_pending ..).trans (foldl_pending _ (fun u b => State.writeSpan_pending ..) _ _)
@[simp] theorem State.passOne_pending (s : State) (u : Nat) (f : File) (e : Pass) (step : Nat) (g : Nat) (ratio : Nat) (skip : Bool) (vals : List Nat) : (State.passOne s u f e step g ratio skip vals).1.pending = s.pending := by
  simp -implicitDefEqProofs only [State.passOne, State.put_pending, State.runGroup_pending, State.writeGroup_pending, State.countN_pending, State.countGroup_pending, State.countRsv_pending, State.mirror_pending, State.writeWork_pending, implies_true, apply_ite State.pending, ite_self]
@[simp] theorem State.setRun_pending (s : State) (u : Nat) (r : Option UnitRun) : (State.setRun s u r).pending = s.pending := by
  simp -implicitDefEqProofs only [State.setRun, State.put_pending]
@[simp] theorem State.endPass_pending (s : State) (u : Nat) (f : File) (k : Nat) (e : Pass) (step : Nat) (ratio : Nat) (skip : Bool) : (State.endPass s u f k e step ratio skip).pending = s.pending := by
  simp -implicitDefEqProofs only [State.endPass, State.put_pending, State.creditUnit_pending, State.done_pending, State.writeNorm_pending, State.setRun_pending, apply_ite State.pending, ite_self]
@[simp] theorem State.advance_pending (s : State) (u : Nat) (r : UnitRun) (e : Pass) : (State.advance s u r e).pending = s.pending := by
  simp -implicitDefEqProofs only [State.advance, State.put_pending, State.layerRatio_pending, State.passOne_pending, State.setRun_pending, State.endPass_pending, apply_ite State.pending, ite_self]
theorem execUpdateEntry_pending (unit : Stack) (s : State) : ∀ t, (execUpdateEntry unit s) = .next t → t.pending = s.pending := by
  intro t ht; simp -implicitDefEqProofs only [execUpdateEntry] at ht; (repeat' split at ht) <;> (first | (rw [← Host.Outcome.next.inj ht]; done) | (rw [← Host.Outcome.next.inj ht]; simp -implicitDefEqProofs only [State.done_pending, State.advance_pending, apply_ite State.pending, ite_self]; done))
@[simp] theorem State.prepass_pending (s : State) (u : Nat) (f : File) (k : Nat) (e : Pass) (step : Nat) : (State.prepass s u f k e step).pending = s.pending := by
  simp -implicitDefEqProofs only [State.prepass, State.put_pending, State.runGroup_pending, foldl_pending, foldlP_pending, implies_true]
theorem execUpdatePrepass_pending (unit : Stack) (s : State) : ∀ t, (execUpdatePrepass unit s) = .next t → t.pending = s.pending := by
  intro t ht; simp -implicitDefEqProofs only [execUpdatePrepass] at ht; (repeat' split at ht) <;> (first | (rw [← Host.Outcome.next.inj ht]; done) | (rw [← Host.Outcome.next.inj ht]; simp -implicitDefEqProofs only [State.prepass_pending, apply_ite State.pending, ite_self]; done))
theorem execUnitStop_pending (unit : Stack) (s : State) : ∀ t, (execUnitStop unit s) = .next t → t.pending = s.pending := by
  intro t ht; simp -implicitDefEqProofs only [execUnitStop] at ht; (repeat' split at ht) <;> (first | (rw [← Host.Outcome.next.inj ht]; done) | (rw [← Host.Outcome.next.inj ht]; simp -implicitDefEqProofs only [State.put_pending, State.setRun_pending, apply_ite State.pending, ite_self]; done))
@[simp] theorem State.replayEntry_pending (s : State) (f : File) (k : Nat) (e : Pass) (step : Nat) : (State.replayEntry s f k e step).pending = s.pending := by
  (simp -implicitDefEqProofs only [State.replayEntry]; (repeat' split) <;> (first | (with_reducible rfl) | simp -implicitDefEqProofs only [State.readRing_pending, State.passOne_pending, State.endPass_pending, foldl_pending, foldlP_pending, implies_true]))
theorem execRegrowReplay_pending (part : Bed) (step : Nat) (s : State) : ∀ t, (execRegrowReplay part step s) = .next t → t.pending = s.pending := by
  intro t ht; simp -implicitDefEqProofs only [execRegrowReplay] at ht; (repeat' split at ht) <;> (first | (rw [← Host.Outcome.next.inj ht]; done) | (rw [← Host.Outcome.next.inj ht]; simp -implicitDefEqProofs only [State.setPart_pending, State.replayEntry_pending, foldl_pending, foldlP_pending, implies_true, apply_ite State.pending, ite_self]; done))
@[simp] theorem State.rejectCut_pending (s : State) (q : Nat) (src : Nat) (off : Nat) : (State.rejectCut s q src off).pending = s.pending := by
  simp -implicitDefEqProofs only [State.rejectCut, State.bump_pending, State.record_pending]
@[simp] theorem State.setWard_pending (s : State) (q : Nat) (k : Nat) (x : Option (Nat × List Nat)) : (State.setWard s q k x).pending = s.pending := by
  simp -implicitDefEqProofs only [State.setWard, State.put_pending]
@[simp] theorem State.beginWard_pending (s : State) (q : Nat) (k : Nat) (step : Nat) : (State.beginWard s q k step).pending = s.pending := by
  simp -implicitDefEqProofs only [State.beginWard, State.put_pending, State.raise_pending, State.setWard_pending, apply_ite State.pending, ite_self]
@[simp] theorem State.wardLine_pending (s : State) (port : Nat) (q : Nat) (f : File) (k : Packet) : (State.wardLine s port q f k).pending = s.pending := by
  (simp -implicitDefEqProofs only [State.wardLine]; (repeat' split) <;> (first | (with_reducible rfl) | simp -implicitDefEqProofs only [State.put_pending, State.writeSpan_pending, State.send_pending, State.setWard_pending, State.beginWard_pending, apply_ite State.pending, ite_self]))
@[simp] theorem State.cuttingIn_pending (s : State) (port : Nat) (k : Packet) : (State.cuttingIn s port k).pending = s.pending := by
  simp -implicitDefEqProofs only [State.cuttingIn, State.rejectCut_pending, State.wardLine_pending, apply_ite State.pending, ite_self]
theorem execCuttingReceive_pending (port : Port) (packet : Packet) (s : State) : ∀ t, (execCuttingReceive port packet s) = .next t → t.pending = s.pending := by
  intro t ht; simp -implicitDefEqProofs only [execCuttingReceive] at ht; (refine State.consume_pending _ _ _ _ _ ?_ _ ht) <;> (intros; simp -implicitDefEqProofs only [State.cuttingIn_pending])
@[simp] theorem State.cutAckIn_pending (s : State) (port : Nat) (k : Packet) : (State.cutAckIn s port k).pending = s.pending := by
  simp -implicitDefEqProofs only [State.cutAckIn, State.put_pending, State.raise_pending, apply_ite State.pending, ite_self]
theorem execCutAckReceive_pending (port : Port) (packet : Packet) (s : State) : ∀ t, (execCutAckReceive port packet s) = .next t → t.pending = s.pending := by
  intro t ht; simp -implicitDefEqProofs only [execCutAckReceive] at ht; (refine State.consume_pending _ _ _ _ _ ?_ _ ht) <;> (intros; simp -implicitDefEqProofs only [State.cutAckIn_pending])
@[simp] theorem State.showOwner_pending (s : State) : (State.showOwner s).pending = s.pending := by
  simp -implicitDefEqProofs only [State.showOwner, State.put_pending]
theorem execOwnerEnroll_pending (req : Req) (keyHash : List Byte) (s : State) : ∀ t, (execOwnerEnroll req keyHash s) = .next t → t.pending = s.pending := by
  intro t ht; simp -implicitDefEqProofs only [execOwnerEnroll] at ht; (refine State.command_pending _ _ _ _ _ _ _ ?_ _ ht) <;> (intros; simp -implicitDefEqProofs only [State.done_pending, State.useNonce_pending, State.setSec_pending, State.showOwner_pending])
theorem execOwnerRevoke_pending (req : Req) (s : State) : ∀ t, (execOwnerRevoke req s) = .next t → t.pending = s.pending := by
  intro t ht; simp -implicitDefEqProofs only [execOwnerRevoke] at ht; (refine State.command_pending _ _ _ _ _ _ _ ?_ _ ht) <;> (intros; simp -implicitDefEqProofs only [State.done_pending, State.useNonce_pending, State.setSec_pending, State.showOwner_pending])
theorem execSessionOpen_pending (req : Req) (payload : List Byte) (s : State) : ∀ t, (execSessionOpen req payload s) = .next t → t.pending = s.pending := by
  intro t ht; simp -implicitDefEqProofs only [execSessionOpen] at ht; (refine State.command_pending _ _ _ _ _ _ _ ?_ _ ht) <;> (intros; simp -implicitDefEqProofs only [State.readSpan_pending, State.beginSession_pending, State.done_pending])
theorem execSessionClose_pending (req : Req) (s : State) : ∀ t, (execSessionClose req s) = .next t → t.pending = s.pending := by
  intro t ht; simp -implicitDefEqProofs only [execSessionClose] at ht; (refine State.command_pending _ _ _ _ _ _ _ ?_ _ ht) <;> (intros; simp -implicitDefEqProofs only [State.beginClose_pending, State.endSessionNow_pending, State.done_pending, State.useNonce_pending, apply_ite State.pending, ite_self])
@[simp] theorem State.writeChunk_pending (s : State) (slot : Nat) (image : Nat) (offset : Nat) (chunk : List Byte) : (State.writeChunk s slot image offset chunk).pending = s.pending := by
  simp -implicitDefEqProofs only [State.writeChunk, State.put_pending, State.beginStore_pending, State.setSec_pending, apply_ite State.pending, ite_self]
@[simp] theorem State.passSlot_pending (s : State) (k : Nat) : (State.passSlot s k).pending = s.pending := by
  simp -implicitDefEqProofs only [State.passSlot, State.put_pending, State.setSec_pending]
@[simp] theorem State.markPending_pending (s : State) (k : Nat) : (State.markPending s k).pending = s.pending := by
  simp -implicitDefEqProofs only [State.markPending, State.put_pending, State.setSec_pending]
theorem execFwUpdate_pending (req : Req) (image : Nat) (offset : Nat) (chunk : List Byte) (last : Bool) (s : State) : ∀ t, (execFwUpdate req image offset chunk last s) = .next t → t.pending = s.pending := by
  intro t ht; simp -implicitDefEqProofs only [execFwUpdate] at ht; (refine State.command_pending _ _ _ _ _ _ _ ?_ _ ht) <;> (intros; simp -implicitDefEqProofs only [State.refuse_pending, State.done_pending, State.useNonce_pending, State.writeChunk_pending, State.passSlot_pending, State.markPending_pending, apply_ite State.pending, ite_self])
theorem execFwCommit_pending (req : Req) (s : State) : ∀ t, (execFwCommit req s) = .next t → t.pending = s.pending := by
  intro t ht; simp -implicitDefEqProofs only [execFwCommit] at ht; (refine State.command_pending _ _ _ _ _ _ _ ?_ _ ht) <;> (intros; simp -implicitDefEqProofs only [State.put_pending, State.done_pending, State.useNonce_pending])
theorem execPageUnlock_pending (req : Req) (page : Page) (s : State) : ∀ t, (execPageUnlock req page s) = .next t → t.pending = s.pending := by
  intro t ht; simp -implicitDefEqProofs only [execPageUnlock] at ht; (refine State.command_pending _ _ _ _ _ _ _ ?_ _ ht) <;> (intros; simp -implicitDefEqProofs only [State.doUnlock_pending, State.done_pending, State.useNonce_pending])
theorem execRecoveryWrite_pending (req : Req) (image : Nat) (offset : Nat) (chunk : List Byte) (last : Bool) (s : State) : ∀ t, (execRecoveryWrite req image offset chunk last s) = .next t → t.pending = s.pending := by
  intro t ht; simp -implicitDefEqProofs only [execRecoveryWrite] at ht; (refine State.command_pending _ _ _ _ _ _ _ ?_ _ ht) <;> (intros; simp -implicitDefEqProofs only [State.refuse_pending, State.setPw_pending, State.done_pending, State.setSec_pending, State.writeChunk_pending, State.passSlot_pending, apply_ite State.pending, ite_self])
theorem execUnknownCommand_pending (req : Req) (code : Nat) (s : State) : ∀ t, (execUnknownCommand req code s) = .next t → t.pending = s.pending := by
  intro t ht; simp -implicitDefEqProofs only [execUnknownCommand] at ht; (repeat' split at ht) <;> (first | (rw [← Host.Outcome.next.inj ht]; done) | (rw [← Host.Outcome.next.inj ht]; simp -implicitDefEqProofs only [State.refuse_pending, apply_ite State.pending, ite_self]; done))
theorem execManagementCommandTimeout_pending (req : Req) (code : Nat) (phase : Nat) (s : State) : ∀ t, (execManagementCommandTimeout req code phase s) = .next t → t.pending = s.pending := by
  intro t ht; simp -implicitDefEqProofs only [execManagementCommandTimeout] at ht; (repeat' split at ht) <;> (first | (rw [← Host.Outcome.next.inj ht]; done) | (rw [← Host.Outcome.next.inj ht]; simp -implicitDefEqProofs only [State.refuse_pending, apply_ite State.pending, ite_self]; done))
theorem State.runOwner_pending (s : State) (path : Path) (c : RawCmd) : ∀ t, (State.runOwner s path c) = .next t → t.pending = s.pending := by
  intro t ht
  rw [State.runOwner.eq_def] at ht
  dsimp only at ht
  by_cases h0 : c.code = 0x43
  · rw [if_pos h0] at ht; exact execEvrClear_pending _ _ _ _ t ht
  rw [if_neg h0] at ht
  by_cases h1 : c.code = 0x50
  · rw [if_pos h1] at ht; split at ht <;> exact execOwnerEnroll_pending _ _ _ t ht
  rw [if_neg h1] at ht
  by_cases h2 : c.code = 0x51
  · rw [if_pos h2] at ht; exact execOwnerRevoke_pending _ _ t ht
  rw [if_neg h2] at ht
  by_cases h3 : c.code = 0x52
  · rw [if_pos h3] at ht; exact execSessionOpen_pending _ _ _ t ht
  rw [if_neg h3] at ht
  by_cases h4 : c.code = 0x53
  · rw [if_pos h4] at ht; exact execSessionClose_pending _ _ t ht
  rw [if_neg h4] at ht
  by_cases h5 : c.code = 0x54
  · rw [if_pos h5] at ht; exact execFwUpdate_pending _ _ _ _ _ _ t ht
  rw [if_neg h5] at ht
  by_cases h6 : c.code = 0x55
  · rw [if_pos h6] at ht; exact execFwCommit_pending _ _ t ht
  rw [if_neg h6] at ht
  exact execPageUnlock_pending _ _ _ t ht
theorem State.runRecovery_pending (s : State) (path : Path) (c : RawCmd) : ∀ t, (State.runRecovery s path c) = .next t → t.pending = s.pending := by
  intro t ht; simp -implicitDefEqProofs only [State.runRecovery] at ht; exact execRecoveryWrite_pending _ _ _ _ _ _ _ ht
theorem State.runRegrow_pending (s : State) (path : Path) (c : RawCmd) : ∀ t, (State.runRegrow s path c) = .next t → t.pending = s.pending := by
  intro t ht
  simp -implicitDefEqProofs only [State.runRegrow] at ht
  rw [execRegrow_pending _ _ _ _ _ _ _ t ht, State.draw_pending]
theorem State.runRaw_pending (s : State) (path : Path) (c : RawCmd) : ∀ t, (State.runRaw s path c) = .next t → t.pending = s.pending := by
  intro t ht
  rw [State.runRaw.eq_def] at ht
  dsimp only at ht
  by_cases h0 : c.code = 0x01
  · rw [if_pos h0] at ht; exact execGetStatus_pending _ _ t ht
  rw [if_neg h0] at ht
  by_cases h1 : c.code = 0x02
  · rw [if_pos h1] at ht; exact execGetNonce_pending _ _ t ht
  rw [if_neg h1] at ht
  by_cases h2 : c.code = 0x03
  · rw [if_pos h2] at ht; exact execReadPower_pending _ _ t ht
  rw [if_neg h2] at ht
  by_cases h3 : c.code = 0x10
  · rw [if_pos h3] at ht; exact execArmatureLoad_pending _ _ _ _ t ht
  rw [if_neg h3] at ht
  by_cases h4 : c.code = 0x11
  · rw [if_pos h4] at ht; exact execArmatureActivate_pending _ _ _ _ _ _ _ t ht
  rw [if_neg h4] at ht
  by_cases h5 : c.code = 0x12
  · rw [if_pos h5] at ht; exact execArmatureUnload_pending _ _ _ t ht
  rw [if_neg h5] at ht
  by_cases h6 : c.code = 0x20
  · rw [if_pos h6] at ht; exact execSetPowerState_pending _ _ _ t ht
  rw [if_neg h6] at ht
  by_cases h7 : c.code = 0x21
  · rw [if_pos h7] at ht; exact execHaltAndHold_pending _ _ t ht
  rw [if_neg h7] at ht
  by_cases h8 : c.code = 0x30
  · rw [if_pos h8] at ht; exact execGraftPlan_pending _ _ _ _ t ht
  rw [if_neg h8] at ht
  by_cases h9 : c.code = 0x31
  · rw [if_pos h9] at ht; exact State.runRegrow_pending _ _ _ t ht
  rw [if_neg h9] at ht
  by_cases h10 : c.code = 0x40
  · rw [if_pos h10] at ht; exact execEvrRead_pending _ _ _ t ht
  rw [if_neg h10] at ht
  by_cases h11 : c.code = 0x41
  · rw [if_pos h11] at ht; exact execEvrFreeze_pending _ _ t ht
  rw [if_neg h11] at ht
  by_cases h12 : c.code = 0x42
  · rw [if_pos h12] at ht; exact execEvrUnfreeze_pending _ _ t ht
  rw [if_neg h12] at ht
  by_cases h13 : c.code = 0x60
  · rw [if_pos h13] at ht; exact execRecoveryWrite_pending _ _ _ _ _ _ t ht
  rw [if_neg h13] at ht
  split at ht
  · exact State.runOwner_pending _ _ _ t ht
  · exact execUnknownCommand_pending _ _ _ t ht
theorem State.onMctp_pending (s : State) (f : State → State) (hf : ∀ (u : State), (f u).pending = u.pending) : ∀ t, (State.onMctp s f) = .next t → t.pending = s.pending := by
  intro t ht; simp -implicitDefEqProofs only [State.onMctp] at ht; (repeat' split at ht) <;> (first | (rw [← Host.Outcome.next.inj ht]; done) | (rw [← Host.Outcome.next.inj ht]; simp -implicitDefEqProofs only [hf, apply_ite State.pending, ite_self]; done))
theorem execSetEndpointId_pending (eid : Nat) (s : State) (op : Nat) : ∀ t, (execSetEndpointId eid s op) = .next t → t.pending = s.pending := by
  intro t ht; simp -implicitDefEqProofs only [execSetEndpointId] at ht; (refine State.onMctp_pending _ _ ?_ _ ht) <;> (intros; simp -implicitDefEqProofs only [State.reply_pending, State.done_pending, apply_ite State.pending, ite_self])
theorem execGetEndpointId_pending (s : State) : ∀ t, (execGetEndpointId s) = .next t → t.pending = s.pending := by
  intro t ht; simp -implicitDefEqProofs only [execGetEndpointId] at ht; (refine State.onMctp_pending _ _ ?_ _ ht) <;> (intros; simp -implicitDefEqProofs only [State.done_pending])
theorem execGetMctpVersionSupport_pending (s : State) (type : Nat) : ∀ t, (execGetMctpVersionSupport s type) = .next t → t.pending = s.pending := by
  intro t ht; simp -implicitDefEqProofs only [execGetMctpVersionSupport] at ht; (refine State.onMctp_pending _ _ ?_ _ ht) <;> (intros; simp -implicitDefEqProofs only [State.reply_pending, State.done_pending, apply_ite State.pending, ite_self])
theorem execGetMessageTypeSupport_pending (s : State) : ∀ t, (execGetMessageTypeSupport s) = .next t → t.pending = s.pending := by
  intro t ht; simp -implicitDefEqProofs only [execGetMessageTypeSupport] at ht; (refine State.onMctp_pending _ _ ?_ _ ht) <;> (intros; simp -implicitDefEqProofs only [State.done_pending])
theorem execGetVendorDefinedMessageSupport_pending (s : State) (selector : Nat) : ∀ t, (execGetVendorDefinedMessageSupport s selector) = .next t → t.pending = s.pending := by
  intro t ht; simp -implicitDefEqProofs only [execGetVendorDefinedMessageSupport] at ht; (refine State.onMctp_pending _ _ ?_ _ ht) <;> (intros; simp -implicitDefEqProofs only [State.reply_pending, State.done_pending, apply_ite State.pending, ite_self])
@[simp] theorem State.replyPacket_pending (s : State) (q : Nat) (k : Packet) : (State.replyPacket s q k).pending = s.pending := by
  simp -implicitDefEqProofs only [State.replyPacket, State.send_pending]
theorem State.mgmtIn_pending (s : State) (p : Nat) (k : Packet) : ∀ t, (State.mgmtIn s p k) = .next t → t.pending = s.pending := by
  intro t ht
  simp -implicitDefEqProofs only [State.mgmtIn] at ht
  split at ht
  · rw [← Host.Outcome.next.inj ht, State.keyMessage_pending]
  split at ht
  · rw [← Host.Outcome.next.inj ht]
  split at ht
  · rename_i h; rw [← Host.Outcome.next.inj ht, State.replyPacket_pending]; exact State.runRaw_pending _ _ _ _ h
  · cases ht
  · cases ht
theorem execMgmtReceive_pending (port : Port) (packet : Packet) (s : State) : ∀ t, (execMgmtReceive port packet s) = .next t → t.pending = s.pending := by
  intro t ht
  have h0 := State.takeIn_pending s port.val packet
  rw [execMgmtReceive.eq_def] at ht
  split at ht
  · rw [← Host.Outcome.next.inj ht]
  split at ht
  · rename_i h; rw [h] at h0; rw [State.mgmtIn_pending _ _ _ t ht]; exact h0
  · rename_i h; rw [h] at h0; rw [← Host.Outcome.next.inj ht]; exact h0
theorem State.deliver_pending (s : State) (port : Port) (k : Packet) : ∀ t, (State.deliver s port k) = .next t → t.pending = s.pending := by
  intro t ht; simp -implicitDefEqProofs only [State.deliver] at ht; (repeat' split at ht) <;> (first | (exact execDataReceive_pending _ _ _ _ ht) | (exact execHeartbeatReceive_pending _ _ _ _ ht) | (exact execTimeRequestReceive_pending _ _ _ _ ht) | (exact execTopologyReceive_pending _ _ _ _ ht) | (exact execReduceReceive_pending _ _ _ _ ht) | (exact execCertReceive_pending _ _ _ _ ht) | (exact execTimeResponseReceive_pending _ _ _ _ ht) | (exact execCuttingReceive_pending _ _ _ _ ht) | (exact execCutAckReceive_pending _ _ _ _ ht) | (exact execMgmtReceive_pending _ _ _ _ ht) | (rw [← Host.Outcome.next.inj ht]; done) | (rw [← Host.Outcome.next.inj ht]; simp -implicitDefEqProofs only [State.takeIn_pending, apply_ite State.pending, ite_self]; done) | (rw [← Host.Outcome.next.inj ht]; (repeat' split) <;> simp -implicitDefEqProofs only [State.takeIn_pending, apply_ite State.pending, ite_self]; done) | (cases ht; done))
@[simp] theorem State.countSlot_pending (s : State) (p : Nat) (corrected : Nat) (uncorrectable : Nat) (asked : Option Nat) : (State.countSlot s p corrected uncorrectable asked).pending = s.pending := by
  (simp -implicitDefEqProofs only [State.countSlot]; (repeat' split) <;> (first | (with_reducible rfl) | simp -implicitDefEqProofs only [State.put_pending, State.bump_pending, State.setFab_pending, State.askedFor_pending, apply_ite State.pending, ite_self]))
theorem execSlotReceive_pending (port : Port) (corrected : Nat) (uncorrectable : Nat) (packet : Packet) (s : State) (asked : Option Nat) : ∀ t, (execSlotReceive port corrected uncorrectable packet s asked) = .next t → t.pending = s.pending := by
  intro t ht
  rw [execSlotReceive.eq_def] at ht
  dsimp only at ht
  split at ht
  · rw [← Host.Outcome.next.inj ht]
  split at ht
  · split at ht
    · rw [← Host.Outcome.next.inj ht]
    · exact (State.deliver_pending _ _ _ t ht).trans (State.setFab_pending ..)
  split at ht
  · rw [← Host.Outcome.next.inj ht]; exact State.countSlot_pending ..
  · exact (State.deliver_pending _ _ _ t ht).trans (State.countSlot_pending ..)
@[simp] theorem State.writeConfig_pending (s : State) (w : Nat) (v : Nat) : (State.writeConfig s w v).pending = s.pending := by
  simp -implicitDefEqProofs only [State.writeConfig, State.put_pending, State.resetEndpoint_pending, apply_ite State.pending, ite_self]
@[simp] theorem State.hostAccess_pending (s : State) (w : HostWait) : (State.hostAccess s w).pending = s.pending := by
  simp -implicitDefEqProofs only [State.hostAccess, State.hold_pending, State.serveHost_pending, apply_ite State.pending, ite_self]
theorem execBar2Read_pending (off : Nat) (err : LineErr) (s : State) : ∀ t, (execBar2Read off err s) = .next t → t.pending = s.pending := by
  intro t ht; simp -implicitDefEqProofs only [execBar2Read] at ht; (repeat' split at ht) <;> (first | (rw [← Host.Outcome.next.inj ht]; done) | (rw [← Host.Outcome.next.inj ht]; simp -implicitDefEqProofs only [State.onBar_pending, State.hostAccess_pending, implies_true, apply_ite State.pending, ite_self]; done))
theorem execBar2Write_pending (off : Nat) (data : List Byte) (ep : Bool) (s : State) : ∀ t, (execBar2Write off data ep s) = .next t → t.pending = s.pending := by
  intro t ht; simp -implicitDefEqProofs only [execBar2Write] at ht; (repeat' split at ht) <;> (first | (rw [← Host.Outcome.next.inj ht]; done) | (rw [← Host.Outcome.next.inj ht]; simp -implicitDefEqProofs only [State.onBar_pending, State.hostAccess_pending, implies_true, apply_ite State.pending, ite_self]; done))
@[simp] theorem State.setFlying_pending (s : State) (q : Nat) (l : List InFlight) : (State.setFlying s q l).pending = s.pending := by
  simp -implicitDefEqProofs only [State.setFlying, State.put_pending]
@[simp] theorem State.beginDesc_pending (s : State) (q : Nat) (d : DmaDesc) : (State.beginDesc s q d).pending = s.pending := by
  (simp -implicitDefEqProofs only [State.beginDesc]; (repeat' split) <;> (first | (with_reducible rfl) | simp -implicitDefEqProofs only [State.put_pending, State.countFault_pending, State.denyWrite_pending, State.setFlying_pending, apply_ite State.pending, ite_self]))
@[simp] theorem State.fetch_pending (z0 : Nat) (z1 : State) (z2 : Nat) : (State.fetch z0 z1 z2).pending = z1.pending := by
  induction z0 generalizing z1 with
  | zero => rfl
  | succ n ih =>
    simp -implicitDefEqProofs only [State.fetch]
    split
    · rfl
    · split
      · rw [ih, State.beginDesc_pending]
      · rfl
@[simp] theorem State.runQueue_pending (s : State) (q : Nat) : (State.runQueue s q).pending = s.pending := by
  simp -implicitDefEqProofs only [State.runQueue, State.fetch_pending]
@[simp] theorem State.ring_pending (s : State) (q : Nat) (tail : Nat) (descs : List (List Byte)) : (State.ring s q tail descs).pending = s.pending := by
  simp -implicitDefEqProofs only [State.ring, State.put_pending, State.runQueue_pending]
theorem execDoorbell_pending (queue : Queue) (tail : Nat) (descs : List (List Byte)) (s : State) : ∀ t, (execDoorbell queue tail descs s) = .next t → t.pending = s.pending := by
  intro t ht; simp -implicitDefEqProofs only [execDoorbell] at ht; rw [← Host.Outcome.next.inj ht]; simp -implicitDefEqProofs only [State.hostWriteL_pending, State.ring_pending, implies_true, apply_ite State.pending, ite_self]
@[simp] theorem State.dmaWrite_pending (s : State) (part : Nat) (a : Nat) (data : List Byte) (sealed : Bool) : (State.dmaWrite s part a data sealed).pending = s.pending := by
  simp -implicitDefEqProofs only [State.dmaWrite, State.hostWrite_pending, foldl_pending, foldlP_pending, implies_true]
@[simp] theorem State.dmaRead_pending (s : State) (part : Nat) (a : Nat) (len : Nat) : (State.dmaRead s part a len).1.pending = s.pending := by
  unfold State.dmaRead
  have h : ∀ (l : List Nat) (x : (State × List Byte × Bool) × Bool), (l.foldl (fun x i =>
      let deny := !x.1.1.hostFaulty part (a + 64 * i) && x.1.1.guardDenies (a + 64 * i)
      let r := x.1.1.hostRead part (a + 64 * i) .none (!x.2)
      ((r.1, x.1.2.1 ++ (if r.2.2 then List.replicate 64 0 else r.2.1), x.1.2.2 || r.2.2), x.2 || deny)) x).1.1.pending = x.1.1.pending := by
    intro l
    induction l with
    | nil => intro x; rfl
    | cons i l ih => intro x; rw [List.foldl_cons, ih]; exact State.hostRead_pending ..
  exact h _ _
@[simp] theorem State.onDesc_pending (s : State) (q : Nat) (op : Nat) (f : InFlight → State → State) (hf : ∀ (w0 : InFlight) (u : State), (f w0 u).pending = u.pending) : (State.onDesc s q op f).pending = s.pending := by
  (simp -implicitDefEqProofs only [State.onDesc]; (repeat' split) <;> (first | (with_reducible rfl) | simp -implicitDefEqProofs only [hf, apply_ite State.pending, ite_self]))
theorem execDmaHostToDevice_pending (queue : Queue) (data : List Byte) (s : State) : ∀ t, (execDmaHostToDevice queue data s) = .next t → t.pending = s.pending := by
  intro t ht; simp -implicitDefEqProofs only [execDmaHostToDevice] at ht; rw [← Host.Outcome.next.inj ht]; simp -implicitDefEqProofs only [State.denyWrite_pending, State.setFlying_pending, State.dmaWrite_pending, State.onDesc_pending, implies_true, apply_ite State.pending, ite_self]
theorem execDmaDeviceToHost_pending (queue : Queue) (s : State) : ∀ t, (execDmaDeviceToHost queue s) = .next t → t.pending = s.pending := by
  intro t ht; simp -implicitDefEqProofs only [execDmaDeviceToHost] at ht; rw [← Host.Outcome.next.inj ht]; simp -implicitDefEqProofs only [State.setFlying_pending, State.dmaRead_pending, State.onDesc_pending, implies_true]
theorem execDmaSealedWrite_pending (queue : Queue) (cipher : List Byte) (tag : List Byte) (s : State) : ∀ t, (execDmaSealedWrite queue cipher tag s) = .next t → t.pending = s.pending := by
  intro t ht; simp -implicitDefEqProofs only [execDmaSealedWrite] at ht; rw [← Host.Outcome.next.inj ht]; simp -implicitDefEqProofs (disch := (intros; (repeat' split) <;> try simp -implicitDefEqProofs only [State.setFlying_pending, State.dmaWrite_pending, State.onDesc_pending, implies_true])) only [State.setFlying_pending, State.dmaWrite_pending, State.onDesc_pending, implies_true]
@[simp] theorem State.complete_pending (s : State) (q : Nat) (x : InFlight) (st : Nat) : (State.complete s q x st).pending = s.pending := by
  simp -implicitDefEqProofs only [State.complete, State.raise_pending, apply_ite State.pending, ite_self]
theorem execDmaCompletion_pending (queue : Queue) (s : State) : ∀ t, (execDmaCompletion queue s) = .next t → t.pending = s.pending := by
  intro t ht; simp -implicitDefEqProofs only [execDmaCompletion] at ht; (repeat' split at ht) <;> (first | (rw [← Host.Outcome.next.inj ht]; done) | (rw [← Host.Outcome.next.inj ht]; simp -implicitDefEqProofs only [State.setFlying_pending, State.runQueue_pending, State.complete_pending, apply_ite State.pending, ite_self]; done))
theorem execDmaDescriptorTimeout_pending (queue : Queue) (moved : List Byte) (s : State) : ∀ t, (execDmaDescriptorTimeout queue moved s) = .next t → t.pending = s.pending := by
  intro t ht; simp -implicitDefEqProofs only [execDmaDescriptorTimeout] at ht; (repeat' split at ht) <;> (first | (rw [← Host.Outcome.next.inj ht]; done) | (rw [← Host.Outcome.next.inj ht]; simp -implicitDefEqProofs only [State.record_pending, State.evt_pending, State.setFlying_pending, State.dmaWrite_pending, State.dmaRead_pending, apply_ite State.pending, ite_self]; done))
@[simp] theorem State.fillMailbox_pending (s : State) (bs : List Byte) : (State.fillMailbox s bs).pending = s.pending := by
  simp -implicitDefEqProofs only [State.fillMailbox, State.put_pending, foldl_pending, foldlP_pending, implies_true]
@[simp] theorem State.mailboxDone_pending (s : State) : (State.mailboxDone s).pending = s.pending := by
  simp -implicitDefEqProofs only [State.mailboxDone, State.put_pending, State.raise_pending, State.fillMailbox_pending]
theorem State.mailboxGo_pending (s : State) : ∀ t, (State.mailboxGo s) = .next t → t.pending = s.pending := by
  intro t ht
  simp -implicitDefEqProofs only [State.mailboxGo] at ht
  split at ht
  · rw [← Host.Outcome.next.inj ht]; simp -implicitDefEqProofs only [State.reply_pending, State.put_pending]
  split at ht
  · rw [← Host.Outcome.next.inj ht]; simp -implicitDefEqProofs only [State.mailboxDone_pending, State.refuse_pending, State.put_pending]
  split at ht
  · rw [← Host.Outcome.next.inj ht, State.put_pending]
  split at ht
  · rename_i h; rw [← Host.Outcome.next.inj ht, State.mailboxDone_pending, State.runRaw_pending _ _ _ _ h, State.put_pending]
  · cases ht
  · cases ht
theorem execMbxGo_pending (s : State) : ∀ t, (execMbxGo s) = .next t → t.pending = s.pending := by
  intro t ht; simp -implicitDefEqProofs only [execMbxGo] at ht; (repeat' split at ht) <;> (first | (exact State.mailboxGo_pending _ _ ht) | (rw [← Host.Outcome.next.inj ht]; done) | (rw [← Host.Outcome.next.inj ht]; simp -implicitDefEqProofs only [State.onBar_pending, State.lockedOut_pending, implies_true, apply_ite State.pending, ite_self]; done) | (rw [← Host.Outcome.next.inj ht]; (repeat' split) <;> simp -implicitDefEqProofs only [State.onBar_pending, State.lockedOut_pending, implies_true, apply_ite State.pending, ite_self]; done) | (rw [← Host.Outcome.next.inj ht]; simp -implicitDefEqProofs (disch := (intros; (repeat' split) <;> try simp -implicitDefEqProofs only [State.onBar_pending, State.lockedOut_pending, implies_true, apply_ite State.pending, ite_self])) only [State.onBar_pending, State.lockedOut_pending, implies_true, apply_ite State.pending, ite_self]; done) | (cases ht; done))
theorem execMbxHalt_pending (s : State) : ∀ t, (execMbxHalt s) = .next t → t.pending = s.pending := by
  intro t ht; simp -implicitDefEqProofs only [execMbxHalt] at ht; rw [← Host.Outcome.next.inj ht]; simp -implicitDefEqProofs only [State.hostWriteL_pending, State.enterHold_pending, implies_true]
@[simp] theorem State.configAnswer_pending (s : State) (retry : Bool) (word : Nat) : (State.configAnswer s retry word).pending = s.pending := by
  simp -implicitDefEqProofs only [State.configAnswer, apply_ite State.pending, ite_self]
@[simp] theorem State.linkDuringBoot_pending (s : State) : (State.linkDuringBoot s).pending = s.pending := by
  simp -implicitDefEqProofs only [State.linkDuringBoot, State.draw_pending, apply_ite State.pending, ite_self]
theorem execPcieConfigRequest_pending (s : State) (dword : Nat) (write : Option Nat) : ∀ t, (execPcieConfigRequest s dword write) = .next t → t.pending = s.pending := by
  intro t ht; simp -implicitDefEqProofs only [execPcieConfigRequest] at ht; (repeat' split at ht) <;> (first | (rw [← Host.Outcome.next.inj ht]; done) | (rw [← Host.Outcome.next.inj ht]; simp -implicitDefEqProofs only [State.writeConfig_pending, State.configAnswer_pending, State.linkDuringBoot_pending, apply_ite State.pending, ite_self]; done))
theorem execFlr_pending (s : State) : ∀ t, (execFlr s) = .next t → t.pending = s.pending := by
  intro t ht; simp -implicitDefEqProofs only [execFlr] at ht; (repeat' split at ht) <;> (first | (rw [← Host.Outcome.next.inj ht]; done) | (rw [← Host.Outcome.next.inj ht]; simp -implicitDefEqProofs only [State.resetEndpoint_pending, apply_ite State.pending, ite_self]; done))
@[simp] theorem State.readWord_pending (s : State) (p : Page) (o : Nat) : (State.readWord s p o).1.pending = s.pending := by
  (simp -implicitDefEqProofs only [State.readWord]; (repeat' split) <;> (first | (with_reducible rfl) | simp -implicitDefEqProofs only [State.put_pending, apply_ite State.pending, ite_self]))
@[simp] theorem State.badOffset_pending (s : State) (p : Page) (off : Nat) (size : Nat) : (State.badOffset s p off size).pending = s.pending := by
  simp -implicitDefEqProofs only [State.badOffset, State.common_pending]
@[simp] theorem State.readPage_pending (s : State) (p : Page) (o : Nat) : (State.readPage s p o).1.pending = s.pending := by
  (simp -implicitDefEqProofs only [State.readPage]; (repeat' split) <;> (first | (with_reducible rfl) | simp -implicitDefEqProofs only [State.draw_pending, State.markRead_pending, State.readWord_pending, apply_ite State.pending, ite_self]))
@[simp] theorem State.readSize_pending (s : State) (p : Page) (o : Nat) (size : Nat) : (State.readSize s p o size).1.pending = s.pending := by
  (simp -implicitDefEqProofs only [State.readSize]; (repeat' split) <;> (first | (with_reducible rfl) | simp -implicitDefEqProofs only [State.readPage_pending, apply_ite State.pending, ite_self]))
@[simp] theorem State.readBar_pending (s : State) (off : Nat) (size : Nat) : (State.readBar s off size).1.pending = s.pending := by
  (simp -implicitDefEqProofs only [State.readBar]; (repeat' split) <;> (first | (with_reducible rfl) | simp -implicitDefEqProofs only [State.badOffset_pending, State.readSize_pending, apply_ite State.pending, ite_self]))
theorem execBadAccess_pending (off : Nat) (size : Nat) (write : Bool) (s : State) : ∀ t, (execBadAccess off size write s) = .next t → t.pending = s.pending := by
  intro t ht; simp -implicitDefEqProofs only [execBadAccess] at ht; (repeat' split at ht) <;> (first | (rw [← Host.Outcome.next.inj ht]; done) | (rw [← Host.Outcome.next.inj ht]; simp -implicitDefEqProofs only [State.answer_pending, State.onBar_pending, State.badOffset_pending, implies_true, apply_ite State.pending, ite_self]; done))
@[simp] theorem State.unimplemented_pending (s : State) (off : Nat) (size : Nat) (write : Bool) : (State.unimplemented s off size write).pending = s.pending := by
  (simp -implicitDefEqProofs only [State.unimplemented]; (repeat' split) <;> (first | (with_reducible rfl) | simp -implicitDefEqProofs only [State.answer_pending, State.badOffset_pending, apply_ite State.pending, ite_self]))
theorem execUnimplementedAccess_pending (off : Nat) (size : Nat) (write : Bool) (s : State) : ∀ t, (execUnimplementedAccess off size write s) = .next t → t.pending = s.pending := by
  intro t ht; simp -implicitDefEqProofs only [execUnimplementedAccess] at ht; (repeat' split at ht) <;> (first | (rw [← Host.Outcome.next.inj ht]; done) | (rw [← Host.Outcome.next.inj ht]; simp -implicitDefEqProofs only [State.onBar_pending, State.unimplemented_pending, implies_true, apply_ite State.pending, ite_self]; done))
theorem execLowWordRead_pending (off : Nat) (s : State) (size : Nat) : ∀ t, (execLowWordRead off s size) = .next t → t.pending = s.pending := by
  intro t ht; simp -implicitDefEqProofs only [execLowWordRead] at ht; (repeat' split at ht) <;> (first | (rw [← Host.Outcome.next.inj ht]; done) | (rw [← Host.Outcome.next.inj ht]; simp -implicitDefEqProofs only [State.answer_pending, State.onBar_pending, State.readBar_pending, implies_true, apply_ite State.pending, ite_self]; done))
@[simp] theorem State.noteRefusal_pending (s : State) (hp : Page) (pay : List Byte) (code : Nat) : (State.noteRefusal s hp pay code).pending = s.pending := by
  simp -implicitDefEqProofs only [State.noteRefusal, State.common_pending, apply_ite State.pending, State.put_pending, ite_self]
@[simp] theorem State.setParts_pending (s : State) (v : Nat) : (State.setParts s v).pending = s.pending := by
  simp -implicitDefEqProofs only [State.setParts, State.put_pending, State.clearOrigin_pending, State.unloadAll_pending, foldl_pending, foldlP_pending, implies_true]
@[simp] theorem State.setLocalGib_pending (s : State) (b : Nat) (v : Nat) : (State.setLocalGib s b v).pending = s.pending := by
  simp -implicitDefEqProofs only [State.setLocalGib, State.put_pending, State.setMem_pending, State.unloadAll_pending, apply_ite State.pending, ite_self]
@[simp] theorem State.setEnc_pending (s : State) (b : Nat) (v : Nat) : (State.setEnc s b v).pending = s.pending := by
  simp -implicitDefEqProofs only [State.setEnc, State.put_pending, State.startScrub_pending]
@[simp] theorem State.setPortEnc_pending (s : State) (p : Nat) (v : Nat) : (State.setPortEnc s p v).pending = s.pending := by
  simp -implicitDefEqProofs only [State.setPortEnc, State.put_pending]
@[simp] theorem State.setTestPower_pending (s : State) (v : Nat) : (State.setTestPower s v).pending = s.pending := by
  simp -implicitDefEqProofs only [State.setTestPower, State.put_pending]
@[simp] theorem State.stopBed_pending (s : State) (b : Nat) : (State.stopBed s b).pending = s.pending := by
  simp -implicitDefEqProofs only [State.stopBed, State.put_pending, State.setBed_pending, State.cancelArmed_pending, State.askUnits_pending, apply_ite State.pending, ite_self]
@[simp] theorem State.runPort_pending (s : State) (p : Nat) (v : Nat) : (State.runPort s p v).pending = s.pending := by
  simp -implicitDefEqProofs only [State.runPort, State.put_pending, State.portDown_pending, State.train_pending, apply_ite State.pending, ite_self]
@[simp] theorem State.runBlock_pending (s : State) (p : Page) (v : Nat) : (State.runBlock s p v).pending = s.pending := by
  simp -implicitDefEqProofs only [State.runBlock, State.put_pending, State.halt_pending, apply_ite State.pending, ite_self]
@[simp] theorem State.setCtlRun_pending (s : State) (p : Page) (v : Nat) : (State.setCtlRun s p v).pending = s.pending := by
  (simp -implicitDefEqProofs only [State.setCtlRun]; (repeat' split) <;> (first | (with_reducible rfl) | simp -implicitDefEqProofs only [State.put_pending, State.record_pending, State.mirror_pending, State.stopBed_pending, State.runPort_pending, State.runBlock_pending, apply_ite State.pending, ite_self]))
@[simp] theorem State.applyField_pending (s : State) (hp : Page) (k : FieldKey) (v : Nat) (mask : Nat) : (State.applyField s hp k v mask).pending = s.pending := by
  rw [State.applyField.eq_def]
  split
  all_goals first
    | rfl
    | (simp -implicitDefEqProofs; done)
    | (simp -implicitDefEqProofs only [apply_ite State.pending, State.stage_pending, State.put_pending, State.put_pending, ite_self]; done)
    | trace_state
theorem State.writeReg_pending (s : State) (a : Agent) (hp : Page) (p : Page) (bar : Nat) (word : Nat) (o : Nat) (lo : Nat) (n : Nat) (value : Nat) : ∀ t, (State.writeReg s a hp p bar word o lo n value) = .next t → t.pending = s.pending := by
  intro t ht
  simp -implicitDefEqProofs only [State.writeReg] at ht
  split at ht
  · rw [State.mailboxGo_pending _ t ht, foldl_pending _ (fun u a => State.noteRefusal_pending ..), foldl_pending _ (fun u a => State.applyField_pending ..)]
  · rw [← Host.Outcome.next.inj ht, foldl_pending _ (fun u a => State.noteRefusal_pending ..), foldl_pending _ (fun u a => State.applyField_pending ..)]
theorem State.writeWord_pending (s : State) (a : Agent) (hp : Page) (p : Page) (bar : Nat) (o : Nat) (value : Nat) : ∀ t, (State.writeWord s a hp p bar o value) = .next t → t.pending = s.pending := by
  intro t ht
  rw [State.writeWord.eq_def] at ht
  split at ht <;> exact State.writeReg_pending _ _ _ _ _ _ _ _ _ _ t ht
theorem State.writePage_pending (s : State) (a : Agent) (hp : Page) (p : Page) (bar : Nat) (o : Nat) (size : Nat) (value : Nat) : ∀ t, (State.writePage s a hp p bar o size value) = .next t → t.pending = s.pending := by
  intro t ht
  rw [State.writePage.eq_def] at ht
  split at ht
  · exact State.writeWord_pending _ _ _ _ _ _ _ t ht
  split at ht
  · exact State.writeReg_pending _ _ _ _ _ _ _ _ _ _ t ht
  split at ht
  · rename_i h; rw [State.writeWord_pending _ _ _ _ _ _ _ t ht, State.writeWord_pending _ _ _ _ _ _ _ _ h]
  · cases ht
  · cases ht
@[simp] theorem State.dirWrite_pending (s : State) (off : Nat) (size : Nat) : (State.dirWrite s off size).pending = s.pending := by
  simp -implicitDefEqProofs only [State.dirWrite, State.badOffset_pending]
@[simp] theorem State.mirrorNote_pending (s : State) (off : Nat) (value : Nat) : (State.mirrorNote s off value).pending = s.pending := by
  simp -implicitDefEqProofs only [State.mirrorNote, State.record_pending]
theorem State.writeBar_pending (s : State) (a : Agent) (off : Nat) (size : Nat) (value : Nat) : ∀ t, (State.writeBar s a off size value) = .next t → t.pending = s.pending := by
  intro t ht
  rw [State.writeBar.eq_def] at ht
  split at ht
  · rw [← Host.Outcome.next.inj ht, State.badOffset_pending]
  split at ht
  · rw [← Host.Outcome.next.inj ht, State.unimplemented_pending]
  split at ht
  · rw [← Host.Outcome.next.inj ht, State.dirWrite_pending]
  split at ht
  · rw [← Host.Outcome.next.inj ht, State.mirrorNote_pending]
  split at ht
  · split at ht
    · rw [← Host.Outcome.next.inj ht, State.badOffset_pending]
    · exact State.writePage_pending _ _ _ _ _ _ _ _ t ht
  · exact State.writePage_pending _ _ _ _ _ _ _ _ t ht
theorem State.onBus_pending (s : State) (a : Agent) (f : State → Host.Outcome State Fault Refusal) (hf : ∀ (u : State) (t : State), (f u) = .next t → t.pending = u.pending) : ∀ t, (State.onBus s a f) = .next t → t.pending = s.pending := by
  intro t ht
  rw [State.onBus.eq_def] at ht
  split at ht
  · rw [← Host.Outcome.next.inj ht]; exact State.onBar_pending _ _ fun _ => rfl
  · exact hf _ _ ht
theorem State.writeField_pending (s : State) (a : Agent) (p : Page) (f : Fld) (v : Nat) (e : Nat) : ∀ t, (State.writeField s a p f v e) = .next t → t.pending = s.pending := by
  intro t ht
  simp -implicitDefEqProofs only [State.writeField] at ht
  exact State.onBus_pending _ _ _ (fun u t h => State.writeReg_pending _ _ _ _ _ _ _ _ _ _ t h) t ht
theorem execRegisterWrite_pending (agent : Agent) (off : Nat) (size : Nat) (value : Nat) (s : State) : ∀ t, (execRegisterWrite agent off size value s) = .next t → t.pending = s.pending := by
  intro t ht; simp -implicitDefEqProofs only [execRegisterWrite] at ht; (first | (exact State.writeBar_pending _ _ _ _ _ _ ht) | ((refine State.onBus_pending _ _ _ ?_ _ ht) <;> (first | (intros; first | rfl | (assumption; done)) | (intro _ _ h9; (repeat' split at h9) <;> (first | (rw [← Host.Outcome.next.inj h9]; done) | (exact State.writeBar_pending _ _ _ _ _ _ h9) | (cases h9; done))))) | (rw [← Host.Outcome.next.inj ht]; done))
theorem execDirectoryWrite_pending (off : Nat) (size : Nat) (value : Nat) (s : State) : ∀ t, (execDirectoryWrite off size value s) = .next t → t.pending = s.pending := by
  intro t ht; simp -implicitDefEqProofs only [execDirectoryWrite] at ht; (repeat' split at ht) <;> (first | (exact State.writeBar_pending _ _ _ _ _ _ ht) | ((refine State.onBus_pending _ _ _ ?_ _ ht) <;> (first | (intros; first | rfl | (assumption; done)) | (intro _ _ h9; (repeat' split at h9) <;> (first | (rw [← Host.Outcome.next.inj h9]; done) | (exact State.writeBar_pending _ _ _ _ _ _ h9) | (cases h9; done))))) | (rw [← Host.Outcome.next.inj ht]; done) | (cases ht; done))
theorem execCtlRunWrite_pending (agent : Agent) (page : Page) (run : Bool) (s : State) : ∀ t, (execCtlRunWrite agent page run s) = .next t → t.pending = s.pending := by
  intro t ht; simp -implicitDefEqProofs only [execCtlRunWrite] at ht; (repeat' split at ht) <;> (first | (exact State.writeField_pending _ _ _ _ _ _ _ ht) | (rw [← Host.Outcome.next.inj ht]; done) | (rw [← Host.Outcome.next.inj ht]; simp -implicitDefEqProofs only [State.mirror_pending, apply_ite State.pending, ite_self]; done) | (rw [← Host.Outcome.next.inj ht]; (repeat' split) <;> simp -implicitDefEqProofs only [State.mirror_pending, apply_ite State.pending, ite_self]; done) | (cases ht; done))
theorem execCntClr_pending (page : Page) (s : State) : ∀ t, (execCntClr page s) = .next t → t.pending = s.pending := by
  intro t ht; simp -implicitDefEqProofs only [execCntClr] at ht; (repeat' split at ht) <;> (first | (exact State.writeField_pending _ _ _ _ _ _ _ ht) | (rw [← Host.Outcome.next.inj ht]; done) | (rw [← Host.Outcome.next.inj ht]; simp -implicitDefEqProofs only [State.mirror_pending, apply_ite State.pending, ite_self]; done) | (rw [← Host.Outcome.next.inj ht]; (repeat' split) <;> simp -implicitDefEqProofs only [State.mirror_pending, apply_ite State.pending, ite_self]; done) | (cases ht; done))
theorem execCommit_pending (page : Page) (s : State) : ∀ t, (execCommit page s) = .next t → t.pending = s.pending := by
  intro t ht; simp -implicitDefEqProofs only [execCommit] at ht; (repeat' split at ht) <;> (first | (exact State.writeField_pending _ _ _ _ _ _ _ ht) | (rw [← Host.Outcome.next.inj ht]; done) | (rw [← Host.Outcome.next.inj ht]; simp -implicitDefEqProofs only [State.mirror_pending, apply_ite State.pending, ite_self]; done) | (rw [← Host.Outcome.next.inj ht]; (repeat' split) <;> simp -implicitDefEqProofs only [State.mirror_pending, apply_ite State.pending, ite_self]; done) | (cases ht; done))
theorem execAbort_pending (page : Page) (s : State) : ∀ t, (execAbort page s) = .next t → t.pending = s.pending := by
  intro t ht; simp -implicitDefEqProofs only [execAbort] at ht; (repeat' split at ht) <;> (first | (exact State.writeField_pending _ _ _ _ _ _ _ ht) | (rw [← Host.Outcome.next.inj ht]; done) | (rw [← Host.Outcome.next.inj ht]; simp -implicitDefEqProofs only [State.mirror_pending, apply_ite State.pending, ite_self]; done) | (rw [← Host.Outcome.next.inj ht]; (repeat' split) <;> simp -implicitDefEqProofs only [State.mirror_pending, apply_ite State.pending, ite_self]; done) | (cases ht; done))
theorem execStagingSetFlush_pending (page : Page) (s : State) : ∀ t, (execStagingSetFlush page s) = .next t → t.pending = s.pending := by
  intro t ht; simp -implicitDefEqProofs only [execStagingSetFlush] at ht; rw [← Host.Outcome.next.inj ht]; simp -implicitDefEqProofs only [State.flushPage_pending, State.takePlan_pending, State.setClock_pending, apply_ite State.pending, ite_self]
theorem execPageLock_pending (page : Page) (s : State) : ∀ t, (execPageLock page s) = .next t → t.pending = s.pending := by
  intro t ht; simp -implicitDefEqProofs only [execPageLock] at ht; (repeat' split at ht) <;> (first | (exact State.writeField_pending _ _ _ _ _ _ _ ht) | (rw [← Host.Outcome.next.inj ht]; done) | (rw [← Host.Outcome.next.inj ht]; simp -implicitDefEqProofs only [State.mirror_pending, apply_ite State.pending, ite_self]; done) | (rw [← Host.Outcome.next.inj ht]; (repeat' split) <;> simp -implicitDefEqProofs only [State.mirror_pending, apply_ite State.pending, ite_self]; done) | (cases ht; done))
theorem execCoreWindowAccess_pending (bed : Bed) (off : Nat) (size : Nat) (write : Option Nat) (s : State) : ∀ t, (execCoreWindowAccess bed off size write s) = .next t → t.pending = s.pending := by
  intro t ht; simp -implicitDefEqProofs only [execCoreWindowAccess] at ht; (repeat' split at ht) <;> (first | (exact State.writeBar_pending _ _ _ _ _ _ ht) | ((refine State.onBus_pending _ _ _ ?_ _ ht) <;> (first | (intros; first | rfl | (simp -implicitDefEqProofs only [State.answer_pending, State.onBar_pending, State.badOffset_pending, State.readBar_pending, implies_true, apply_ite State.pending, ite_self]; done)) | (intro _ _ h9; (repeat' split at h9) <;> (first | (rw [← Host.Outcome.next.inj h9]; done) | (rw [← Host.Outcome.next.inj h9]; simp -implicitDefEqProofs only [State.answer_pending, State.onBar_pending, State.badOffset_pending, State.readBar_pending, implies_true, apply_ite State.pending, ite_self]; done) | (rw [← Host.Outcome.next.inj h9]; (repeat' split) <;> simp -implicitDefEqProofs only [State.answer_pending, State.onBar_pending, State.badOffset_pending, State.readBar_pending, implies_true, apply_ite State.pending, ite_self]; done) | (rw [← Host.Outcome.next.inj h9]; simp -implicitDefEqProofs (disch := (intros; (repeat' split) <;> try simp -implicitDefEqProofs only [State.answer_pending, State.onBar_pending, State.badOffset_pending, State.readBar_pending, implies_true, apply_ite State.pending, ite_self])) only [State.answer_pending, State.onBar_pending, State.badOffset_pending, State.readBar_pending, implies_true, apply_ite State.pending, ite_self]; done) | (exact State.writeBar_pending _ _ _ _ _ _ h9) | (cases h9; done))))) | (rw [← Host.Outcome.next.inj ht]; done) | (rw [← Host.Outcome.next.inj ht]; simp -implicitDefEqProofs only [State.answer_pending, State.onBar_pending, State.badOffset_pending, State.readBar_pending, implies_true, apply_ite State.pending, ite_self]; done) | (rw [← Host.Outcome.next.inj ht]; (repeat' split) <;> simp -implicitDefEqProofs only [State.answer_pending, State.onBar_pending, State.badOffset_pending, State.readBar_pending, implies_true, apply_ite State.pending, ite_self]; done) | (rw [← Host.Outcome.next.inj ht]; simp -implicitDefEqProofs (disch := (intros; (repeat' split) <;> try simp -implicitDefEqProofs only [State.answer_pending, State.onBar_pending, State.badOffset_pending, State.readBar_pending, implies_true, apply_ite State.pending, ite_self])) only [State.answer_pending, State.onBar_pending, State.badOffset_pending, State.readBar_pending, implies_true, apply_ite State.pending, ite_self]; done) | (cases ht; done))
theorem execPartCfgWrite_pending (agent : Agent) (value : Nat) (s : State) : ∀ t, (execPartCfgWrite agent value s) = .next t → t.pending = s.pending := by
  intro t ht; simp -implicitDefEqProofs only [execPartCfgWrite] at ht; exact State.writeField_pending _ _ _ _ _ _ _ ht
theorem execLayerStateWrite_pending (bed : Bed) (value : Nat) (s : State) : ∀ t, (execLayerStateWrite bed value s) = .next t → t.pending = s.pending := by
  intro t ht; simp -implicitDefEqProofs only [execLayerStateWrite] at ht; (repeat' split at ht) <;> (first | (exact State.writeBar_pending _ _ _ _ _ _ ht) | ((refine State.onBus_pending _ _ _ ?_ _ ht) <;> (first | (intros; first | rfl | (assumption; done)) | (intro _ _ h9; (repeat' split at h9) <;> (first | (rw [← Host.Outcome.next.inj h9]; done) | (exact State.writeBar_pending _ _ _ _ _ _ h9) | (cases h9; done))))) | (rw [← Host.Outcome.next.inj ht]; done) | (cases ht; done))
theorem execInactivePageWrite_pending (bed : Bed) (off : Nat) (size : Nat) (s : State) : ∀ t, (execInactivePageWrite bed off size s) = .next t → t.pending = s.pending := by
  intro t ht; simp -implicitDefEqProofs only [execInactivePageWrite] at ht; (repeat' split at ht) <;> (first | (exact State.writeBar_pending _ _ _ _ _ _ ht) | ((refine State.onBus_pending _ _ _ ?_ _ ht) <;> (first | (intros; first | rfl | (assumption; done)) | (intro _ _ h9; (repeat' split at h9) <;> (first | (rw [← Host.Outcome.next.inj h9]; done) | (exact State.writeBar_pending _ _ _ _ _ _ h9) | (cases h9; done))))) | (rw [← Host.Outcome.next.inj ht]; done) | (cases ht; done))
theorem execGroupWordWrite_pending (unit : Stack) (word : Fin 8) (value : Nat) (s : State) : ∀ t, (execGroupWordWrite unit word value s) = .next t → t.pending = s.pending := by
  intro t ht; simp -implicitDefEqProofs only [execGroupWordWrite] at ht; exact State.writeField_pending _ _ _ _ _ _ _ ht
theorem execBrMapWrite_pending (bridge : Bed) (value : Nat) (s : State) : ∀ t, (execBrMapWrite bridge value s) = .next t → t.pending = s.pending := by
  intro t ht; simp -implicitDefEqProofs only [execBrMapWrite] at ht; exact State.writeField_pending _ _ _ _ _ _ _ ht
theorem execBridgeRunStop_pending (bridge : Bed) (s : State) : ∀ t, (execBridgeRunStop bridge s) = .next t → t.pending = s.pending := by
  intro t ht; simp -implicitDefEqProofs only [execBridgeRunStop] at ht; exact State.writeField_pending _ _ _ _ _ _ _ ht
theorem execPortRunWrite_pending (port : Port) (run : Bool) (s : State) : ∀ t, (execPortRunWrite port run s) = .next t → t.pending = s.pending := by
  intro t ht; simp -implicitDefEqProofs only [execPortRunWrite] at ht; exact State.writeField_pending _ _ _ _ _ _ _ ht
theorem execEncCtlWrite_pending (agent : Agent) (bridge : Bed) (enable : Bool) (s : State) : ∀ t, (execEncCtlWrite agent bridge enable s) = .next t → t.pending = s.pending := by
  intro t ht; simp -implicitDefEqProofs only [execEncCtlWrite] at ht; exact State.writeField_pending _ _ _ _ _ _ _ ht
theorem execBedRunStop_pending (bed : Bed) (s : State) : ∀ t, (execBedRunStop bed s) = .next t → t.pending = s.pending := by
  intro t ht; simp -implicitDefEqProofs only [execBedRunStop] at ht; exact State.writeField_pending _ _ _ _ _ _ _ ht
theorem execRunWriteIgnored_pending (bed : Bed) (s : State) : ∀ t, (execRunWriteIgnored bed s) = .next t → t.pending = s.pending := by
  intro t ht; simp -implicitDefEqProofs only [execRunWriteIgnored] at ht; exact State.writeField_pending _ _ _ _ _ _ _ ht
theorem execMirrorWrite_pending (off : Nat) (size : Nat) (value : Nat) (s : State) : ∀ t, (execMirrorWrite off size value s) = .next t → t.pending = s.pending := by
  intro t ht; simp -implicitDefEqProofs only [execMirrorWrite] at ht; (repeat' split at ht) <;> (first | (exact State.writeBar_pending _ _ _ _ _ _ ht) | ((refine State.onBus_pending _ _ _ ?_ _ ht) <;> (first | (intros; first | rfl | (assumption; done)) | (intro _ _ h9; (repeat' split at h9) <;> (first | (rw [← Host.Outcome.next.inj h9]; done) | (exact State.writeBar_pending _ _ _ _ _ _ h9) | (cases h9; done))))) | (rw [← Host.Outcome.next.inj ht]; done) | (cases ht; done))
theorem execAttributionInterval_pending (inputMicrojoule : Nat) (auxMicrojoule : Nat) (branches : List Nat) (milliamps : Nat) (s : State) : ∀ t, (execAttributionInterval inputMicrojoule auxMicrojoule branches milliamps s) = .next t → t.pending = s.pending := by
  intro t ht; simp -implicitDefEqProofs only [execAttributionInterval] at ht; (repeat' split at ht) <;> (first | (rw [← Host.Outcome.next.inj ht]; done) | (rw [← Host.Outcome.next.inj ht]; simp -implicitDefEqProofs only [State.setIsl_pending, apply_ite State.pending, ite_self]; done))
theorem execMetPulse_pending (s : State) : ∀ t, (execMetPulse s) = .next t → t.pending = s.pending := by
  intro t ht; simp -implicitDefEqProofs only [execMetPulse] at ht; (repeat' split at ht) <;> (first | (rw [← Host.Outcome.next.inj ht]; done) | (rw [← Host.Outcome.next.inj ht]; simp -implicitDefEqProofs only [State.setIsl_pending, apply_ite State.pending, ite_self]; done))
theorem execOverrange_pending (milliamps : Nat) (s : State) : ∀ t, (execOverrange milliamps s) = .next t → t.pending = s.pending := by
  intro t ht; simp -implicitDefEqProofs only [execOverrange] at ht; (repeat' split at ht) <;> (first | (rw [← Host.Outcome.next.inj ht]; done) | (rw [← Host.Outcome.next.inj ht]; simp -implicitDefEqProofs only [State.setIsl_pending, apply_ite State.pending, ite_self]; done))
theorem execMeterReady_pending (s : State) : ∀ t, (execMeterReady s) = .next t → t.pending = s.pending := by
  intro t ht; simp -implicitDefEqProofs only [execMeterReady] at ht; (repeat' split at ht) <;> (first | (rw [← Host.Outcome.next.inj ht]; done) | (rw [← Host.Outcome.next.inj ht]; simp -implicitDefEqProofs only [State.setIsl_pending, apply_ite State.pending, ite_self]; done))
theorem execMeterNotReady_pending (s : State) : ∀ t, (execMeterNotReady s) = .next t → t.pending = s.pending := by
  intro t ht; simp -implicitDefEqProofs only [execMeterNotReady] at ht; (repeat' split at ht) <;> (first | (rw [← Host.Outcome.next.inj ht]; done) | (rw [← Host.Outcome.next.inj ht]; simp -implicitDefEqProofs only [State.record_pending, apply_ite State.pending, ite_self]; done))
theorem execMeterCommit_pending (holdupMillivolts : Nat) (s : State) : ∀ t, (execMeterCommit holdupMillivolts s) = .next t → t.pending = s.pending := by
  intro t ht
  rw [execMeterCommit.eq_def] at ht
  split at ht <;> rw [← Host.Outcome.next.inj ht]
  exact State.setIsl_pending ..
theorem execSelfTestFail_pending (s : State) : ∀ t, (execSelfTestFail s) = .next t → t.pending = s.pending := by
  intro t ht; simp -implicitDefEqProofs only [execSelfTestFail] at ht; (repeat' split at ht) <;> (first | (rw [← Host.Outcome.next.inj ht]; done) | (rw [← Host.Outcome.next.inj ht]; simp -implicitDefEqProofs only [State.setIsl_pending, apply_ite State.pending, ite_self]; done))
@[simp] theorem State.copyAudit_pending (s : State) : (State.copyAudit s).pending = s.pending := by
  simp -implicitDefEqProofs only [State.copyAudit, State.setRec_pending, State.feedAudit_pending, State.setIsl_pending]
@[simp] theorem State.mirrorPage_pending (s : State) : (State.mirrorPage s).pending = s.pending := by
  simp -implicitDefEqProofs only [State.mirrorPage, State.put_pending, foldl_pending, foldlP_pending, implies_true]
@[simp] theorem State.followVersion_pending (s : State) : (State.followVersion s).pending = s.pending := by
  simp -implicitDefEqProofs only [State.followVersion, State.record_pending, apply_ite State.pending, ite_self]
theorem execSnapshot_pending (crcOk : Bool) (s : State) : ∀ t, (execSnapshot crcOk s) = .next t → t.pending = s.pending := by
  intro t ht; simp -implicitDefEqProofs only [execSnapshot] at ht; (repeat' split at ht) <;> (first | (rw [← Host.Outcome.next.inj ht]; done) | (rw [← Host.Outcome.next.inj ht]; simp -implicitDefEqProofs only [State.bump_pending, State.setIsl_pending, State.copyAudit_pending, State.mirrorPage_pending, State.followVersion_pending, apply_ite State.pending, ite_self]; done))
theorem execSnapshotStale_pending (s : State) : ∀ t, (execSnapshotStale s) = .next t → t.pending = s.pending := by
  intro t ht; simp -implicitDefEqProofs only [execSnapshotStale] at ht; (repeat' split at ht) <;> (first | (rw [← Host.Outcome.next.inj ht]; done) | (rw [← Host.Outcome.next.inj ht]; simp -implicitDefEqProofs only [State.put_pending, apply_ite State.pending, ite_self]; done))
theorem execSealChange_pending (closed : Bool) (s : State) : ∀ t, (execSealChange closed s) = .next t → t.pending = s.pending := by
  intro t ht; simp -implicitDefEqProofs only [execSealChange] at ht; (repeat' split at ht) <;> (first | (rw [← Host.Outcome.next.inj ht]; done) | (rw [← Host.Outcome.next.inj ht]; simp -implicitDefEqProofs only [State.setIsl_pending, apply_ite State.pending, ite_self]; done))
theorem State.onPort_pending (s : State) (pec : Bool) (bad : List (Bool × Nat)) (ok : State → State) (hok : ∀ (u : State), (ok u).pending = u.pending) : ∀ t, (State.onPort s pec bad ok) = .next t → t.pending = s.pending := by
  intro t ht; simp -implicitDefEqProofs only [State.onPort] at ht; (repeat' split at ht) <;> (first | (rw [← Host.Outcome.next.inj ht]; done) | (rw [← Host.Outcome.next.inj ht]; simp -implicitDefEqProofs only [State.reply_pending, hok, apply_ite State.pending, ite_self]; done))
theorem execReadEnergy_pending (s : State) (pec : Bool) : ∀ t, (execReadEnergy s pec) = .next t → t.pending = s.pending := by
  intro t ht; simp -implicitDefEqProofs only [execReadEnergy] at ht; (refine State.onPort_pending _ _ _ _ ?_ _ ht) <;> (intros; simp -implicitDefEqProofs only [State.reply_pending])
theorem execReadStatus_pending (s : State) (pec : Bool) : ∀ t, (execReadStatus s pec) = .next t → t.pending = s.pending := by
  intro t ht; simp -implicitDefEqProofs only [execReadStatus] at ht; (refine State.onPort_pending _ _ _ _ ?_ _ ht) <;> (intros; simp -implicitDefEqProofs only [State.reply_pending])
theorem execReadSwId_pending (s : State) (pec : Bool) : ∀ t, (execReadSwId s pec) = .next t → t.pending = s.pending := by
  intro t ht; simp -implicitDefEqProofs only [execReadSwId] at ht; (refine State.onPort_pending _ _ _ _ ?_ _ ht) <;> (intros; simp -implicitDefEqProofs only [State.reply_pending])
theorem execReadAudit_pending (index : Nat) (s : State) (pec : Bool) : ∀ t, (execReadAudit index s pec) = .next t → t.pending = s.pending := by
  intro t ht; simp -implicitDefEqProofs only [execReadAudit] at ht; (refine State.onPort_pending _ _ _ _ ?_ _ ht) <;> (intros; simp -implicitDefEqProofs only [State.reply_pending])
theorem execReadCfg_pending (s : State) (pec : Bool) : ∀ t, (execReadCfg s pec) = .next t → t.pending = s.pending := by
  intro t ht; simp -implicitDefEqProofs only [execReadCfg] at ht; (refine State.onPort_pending _ _ _ _ ?_ _ ht) <;> (intros; simp -implicitDefEqProofs only [State.reply_pending])
theorem execCfgWrite_pending (holdupMillifarad : Nat) (holdupMillivolts : Nat) (s : State) (pec : Bool) : ∀ t, (execCfgWrite holdupMillifarad holdupMillivolts s pec) = .next t → t.pending = s.pending := by
  intro t ht; simp -implicitDefEqProofs only [execCfgWrite] at ht; (first | ((refine State.onPort_pending _ _ _ _ ?_ _ ht) <;> (first | (intros; first | rfl | (simp -implicitDefEqProofs only [State.reply_pending, State.setIsl_pending, holdupMillifarad, holdupMillivolts]; done)) | (intro _ _ h9; (repeat' split at h9) <;> (first | (rw [← Host.Outcome.next.inj h9]; done) | (rw [← Host.Outcome.next.inj h9]; simp -implicitDefEqProofs only [State.reply_pending, State.setIsl_pending, holdupMillifarad, holdupMillivolts]; done) | (cases h9; done))))) | (rw [← Host.Outcome.next.inj ht]; done) | (rw [← Host.Outcome.next.inj ht]; simp -implicitDefEqProofs only [State.reply_pending, State.setIsl_pending, holdupMillifarad, holdupMillivolts]; done))
theorem execFwBegin_pending (length : Nat) (milliamps : Nat) (s : State) (pec : Bool) : ∀ t, (execFwBegin length milliamps s pec) = .next t → t.pending = s.pending := by
  intro t ht; simp -implicitDefEqProofs only [execFwBegin] at ht; (refine State.onPort_pending _ _ _ _ ?_ _ ht) <;> (intros; simp -implicitDefEqProofs only [State.reply_pending, State.setIsl_pending])
theorem execFwChunk_pending (offset : Nat) (data : List Byte) (s : State) (pec : Bool) : ∀ t, (execFwChunk offset data s pec) = .next t → t.pending = s.pending := by
  intro t ht; simp -implicitDefEqProofs only [execFwChunk] at ht; (refine State.onPort_pending _ _ _ _ ?_ _ ht) <;> (intros; simp -implicitDefEqProofs only [State.reply_pending, State.putAll_pending, State.setIsl_pending])
theorem execFwEnd_pending (holdupMillivolts milliamps : Nat) (payload : List Byte) (s : State) (pec : Bool) : ∀ t, (execFwEnd holdupMillivolts milliamps payload s pec) = .next t → t.pending = s.pending := by
  intro t ht
  refine State.onPort_pending _ _ _ _ ?_ _ ht
  intro u
  dsimp only
  split <;> simp -implicitDefEqProofs only [State.reply_pending, State.setIsl_pending]
theorem execIslandUnknownCommand_pending (code : Nat) (s : State) (pec : Bool) : ∀ t, (execIslandUnknownCommand code s pec) = .next t → t.pending = s.pending := by
  intro t ht; simp -implicitDefEqProofs only [execIslandUnknownCommand] at ht; (repeat' split at ht) <;> (first | ((refine State.onPort_pending _ _ _ _ ?_ _ ht) <;> (first | (intros; first | rfl | (simp -implicitDefEqProofs only [State.reply_pending]; done)) | (intro _ _ h9; (repeat' split at h9) <;> (first | (rw [← Host.Outcome.next.inj h9]; done) | (rw [← Host.Outcome.next.inj h9]; simp -implicitDefEqProofs only [State.reply_pending]; done) | (rw [← Host.Outcome.next.inj h9]; (repeat' split) <;> simp -implicitDefEqProofs only [State.reply_pending]; done) | (cases h9; done))))) | (rw [← Host.Outcome.next.inj ht]; done) | (rw [← Host.Outcome.next.inj ht]; simp -implicitDefEqProofs only [State.reply_pending]; done) | (rw [← Host.Outcome.next.inj ht]; (repeat' split) <;> simp -implicitDefEqProofs only [State.reply_pending]; done) | (cases ht; done))
@[simp] theorem State.spdmError_pending (s : State) (code : Nat) : (State.spdmError s code).pending = s.pending := by
  simp -implicitDefEqProofs only [State.spdmError, State.reply_pending]
theorem State.onSpdm_pending (s : State) (f : State → State) (hf : ∀ (u : State), (f u).pending = u.pending) : ∀ t, (State.onSpdm s f) = .next t → t.pending = s.pending := by
  intro t ht; simp -implicitDefEqProofs only [State.onSpdm] at ht; (repeat' split at ht) <;> (first | (rw [← Host.Outcome.next.inj ht]; done) | (rw [← Host.Outcome.next.inj ht]; simp -implicitDefEqProofs only [hf, apply_ite State.pending, ite_self]; done))
theorem State.onNegotiated_pending (s : State) (f : State → State) (hf : ∀ (u : State), (f u).pending = u.pending) : ∀ t, (State.onNegotiated s f) = .next t → t.pending = s.pending := by
  intro t ht; simp -implicitDefEqProofs only [State.onNegotiated] at ht; (refine State.onSpdm_pending _ _ ?_ _ ht) <;> (intros; simp -implicitDefEqProofs only [State.spdmError_pending, hf, apply_ite State.pending, ite_self])
theorem execGetVersion_pending (s : State) : ∀ t, (execGetVersion s) = .next t → t.pending = s.pending := by
  intro t ht; simp -implicitDefEqProofs only [execGetVersion] at ht; (refine State.onSpdm_pending _ _ ?_ _ ht) <;> (intros; simp -implicitDefEqProofs only [State.done_pending, State.setSec_pending])
theorem execGetCapabilities_pending (s : State) : ∀ t, (execGetCapabilities s) = .next t → t.pending = s.pending := by
  intro t ht; simp -implicitDefEqProofs only [execGetCapabilities] at ht; (refine State.onSpdm_pending _ _ ?_ _ ht) <;> (intros; simp -implicitDefEqProofs only [State.done_pending])
theorem execNegotiateAlgorithms_pending (offered : List Nat) (s : State) : ∀ t, (execNegotiateAlgorithms offered s) = .next t → t.pending = s.pending := by
  intro t ht; simp -implicitDefEqProofs only [execNegotiateAlgorithms] at ht; (refine State.onSpdm_pending _ _ ?_ _ ht) <;> (intros; simp -implicitDefEqProofs only [State.done_pending, State.setSec_pending])
theorem execGetDigests_pending (s : State) : ∀ t, (execGetDigests s) = .next t → t.pending = s.pending := by
  intro t ht; simp -implicitDefEqProofs only [execGetDigests] at ht; (refine State.onNegotiated_pending _ _ ?_ _ ht) <;> (intros; simp -implicitDefEqProofs only [State.done_pending])
theorem execGetCertificate_pending (slot : Nat) (offset : Nat) (len : Nat) (s : State) : ∀ t, (execGetCertificate slot offset len s) = .next t → t.pending = s.pending := by
  intro t ht; simp -implicitDefEqProofs only [execGetCertificate] at ht; (refine State.onNegotiated_pending _ _ ?_ _ ht) <;> (intros; simp -implicitDefEqProofs only [State.done_pending, State.spdmError_pending, apply_ite State.pending, ite_self])
theorem execChallenge_pending (slot : Nat) (nonce : List Byte) (s : State) : ∀ t, (execChallenge slot nonce s) = .next t → t.pending = s.pending := by
  intro t ht; simp -implicitDefEqProofs only [execChallenge] at ht; (refine State.onNegotiated_pending _ _ ?_ _ ht) <;> (intros; simp -implicitDefEqProofs only [State.drawBytes_pending, State.done_pending, State.spdmError_pending, apply_ite State.pending, ite_self])
theorem execGetMeasurements_pending (index : Nat) (nonce : List Byte) (s : State) : ∀ t, (execGetMeasurements index nonce s) = .next t → t.pending = s.pending := by
  intro t ht; simp -implicitDefEqProofs only [execGetMeasurements] at ht; (refine State.onNegotiated_pending _ _ ?_ _ ht) <;> (intros; simp -implicitDefEqProofs only [State.done_pending, State.spdmError_pending, apply_ite State.pending, ite_self])
theorem execKeyExchange_pending (mutualAuth : Bool) (digest : List Byte) (key : List Byte) (s : State) (cert : List Byte) : ∀ t, (execKeyExchange mutualAuth digest key s cert) = .next t → t.pending = s.pending := by
  intro t ht
  refine State.onNegotiated_pending _ _ ?_ t ht
  intro u
  dsimp only
  split
  · exact State.spdmError_pending ..
  split
  · exact State.spdmError_pending ..
  · rw [State.done_pending, State.setSec_pending]
theorem State.onSession_pending (s : State) (k : Nat) (f : State → SpdmSession → State) (hf : ∀ (u : State) (w1 : SpdmSession), (f u w1).pending = u.pending) : ∀ t, (State.onSession s k f) = .next t → t.pending = s.pending := by
  intro t ht
  refine State.onSpdm_pending _ _ ?_ t ht
  intro u
  split
  · split
    · exact hf _ _
    · exact State.spdmError_pending ..
  · exact State.spdmError_pending ..
theorem execFinish_pending (session : Nat) (verified : Bool) (s : State) : ∀ t, (execFinish session verified s) = .next t → t.pending = s.pending := by
  intro t ht
  refine State.onSpdm_pending _ _ ?_ t ht
  intro u
  dsimp only
  split
  · exact State.spdmError_pending ..
  · split
    · exact State.spdmError_pending ..
    · split
      · rw [State.done_pending, State.setSec_pending]
      · rw [State.spdmError_pending, State.setSec_pending]
theorem execEndSession_pending (session : Nat) (s : State) : ∀ t, (execEndSession session s) = .next t → t.pending = s.pending := by
  intro t ht; simp -implicitDefEqProofs only [execEndSession] at ht; (refine State.onSession_pending _ _ _ ?_ _ ht) <;> (intros; simp -implicitDefEqProofs only [State.done_pending, State.setSec_pending])
theorem execKeyUpdate_pending (session : Nat) (s : State) : ∀ t, (execKeyUpdate session s) = .next t → t.pending = s.pending := by
  intro t ht; simp -implicitDefEqProofs only [execKeyUpdate] at ht; (refine State.onSession_pending _ _ _ ?_ _ ht) <;> (intros; simp -implicitDefEqProofs only [State.put_pending, State.done_pending, State.setSec_pending])
theorem execVendorDefinedRequest_pending (session : Nat) (cmd : RawCmd) (s : State) : ∀ t, (execVendorDefinedRequest session cmd s) = .next t → t.pending = s.pending := by
  intro t ht; simp -implicitDefEqProofs only [execVendorDefinedRequest] at ht; (repeat' split at ht) <;> (first | (exact State.runRaw_pending _ _ _ _ ht) | ((refine State.onSpdm_pending _ _ ?_ _ ht) <;> (first | (intros; first | rfl | (simp -implicitDefEqProofs only [State.spdmError_pending, apply_ite State.pending, ite_self]; done)) | (intro _ _ h9; (repeat' split at h9) <;> (first | (rw [← Host.Outcome.next.inj h9]; done) | (rw [← Host.Outcome.next.inj h9]; simp -implicitDefEqProofs only [State.spdmError_pending, apply_ite State.pending, ite_self]; done) | (rw [← Host.Outcome.next.inj h9]; (repeat' split) <;> simp -implicitDefEqProofs only [State.spdmError_pending, apply_ite State.pending, ite_self]; done) | (exact State.runRaw_pending _ _ _ _ h9) | (cases h9; done))))) | (rw [← Host.Outcome.next.inj ht]; done) | (rw [← Host.Outcome.next.inj ht]; simp -implicitDefEqProofs only [State.spdmError_pending, apply_ite State.pending, ite_self]; done) | (rw [← Host.Outcome.next.inj ht]; (repeat' split) <;> simp -implicitDefEqProofs only [State.spdmError_pending, apply_ite State.pending, ite_self]; done) | (cases ht; done))
theorem execSpdmUnsupportedRequest_pending (code : Nat) (s : State) : ∀ t, (execSpdmUnsupportedRequest code s) = .next t → t.pending = s.pending := by
  intro t ht; simp -implicitDefEqProofs only [execSpdmUnsupportedRequest] at ht; (repeat' split at ht) <;> (first | ((refine State.onSpdm_pending _ _ ?_ _ ht) <;> (first | (intros; first | rfl | (simp -implicitDefEqProofs only [State.spdmError_pending, apply_ite State.pending, ite_self]; done)) | (intro _ _ h9; (repeat' split at h9) <;> (first | (rw [← Host.Outcome.next.inj h9]; done) | (rw [← Host.Outcome.next.inj h9]; simp -implicitDefEqProofs only [State.spdmError_pending, apply_ite State.pending, ite_self]; done) | (rw [← Host.Outcome.next.inj h9]; (repeat' split) <;> simp -implicitDefEqProofs only [State.spdmError_pending, apply_ite State.pending, ite_self]; done) | (cases h9; done))))) | (rw [← Host.Outcome.next.inj ht]; done) | (rw [← Host.Outcome.next.inj ht]; simp -implicitDefEqProofs only [State.spdmError_pending, apply_ite State.pending, ite_self]; done) | (rw [← Host.Outcome.next.inj ht]; (repeat' split) <;> simp -implicitDefEqProofs only [State.spdmError_pending, apply_ite State.pending, ite_self]; done) | (cases ht; done))
theorem State.onTap_pending (s : State) (f : State → State) (hf : ∀ (u : State), (f u).pending = u.pending) : ∀ t, (State.onTap s f) = .next t → t.pending = s.pending := by
  intro t ht; simp -implicitDefEqProofs only [State.onTap] at ht; (repeat' split at ht) <;> (first | (rw [← Host.Outcome.next.inj ht]; done) | (rw [← Host.Outcome.next.inj ht]; simp -implicitDefEqProofs only [hf, apply_ite State.pending, ite_self]; done))
theorem execBypass_pending (opcode : Nat) (s : State) : ∀ t, (execBypass opcode s) = .next t → t.pending = s.pending := by
  intro t ht; simp -implicitDefEqProofs only [execBypass] at ht; (refine State.onTap_pending _ _ ?_ _ ht) <;> (intros; simp -implicitDefEqProofs only [State.setInstr_pending, apply_ite State.pending, ite_self])
theorem execIdcode_pending (s : State) : ∀ t, (execIdcode s) = .next t → t.pending = s.pending := by
  intro t ht; simp -implicitDefEqProofs only [execIdcode] at ht; (refine State.onTap_pending _ _ ?_ _ ht) <;> (intros; simp -implicitDefEqProofs only [State.answer_pending, State.setInstr_pending])
theorem execSamplePreload_pending (preload : Option (List Bool)) (s : State) : ∀ t, (execSamplePreload preload s) = .next t → t.pending = s.pending := by
  intro t ht; simp -implicitDefEqProofs only [execSamplePreload] at ht; (repeat' split at ht) <;> (first | ((refine State.onTap_pending _ _ ?_ _ ht) <;> (first | (intros; first | rfl | (simp -implicitDefEqProofs only [State.draw_pending, State.setInstr_pending]; done)) | (intro _ _ h9; (repeat' split at h9) <;> (first | (rw [← Host.Outcome.next.inj h9]; done) | (rw [← Host.Outcome.next.inj h9]; simp -implicitDefEqProofs only [State.draw_pending, State.setInstr_pending]; done) | (rw [← Host.Outcome.next.inj h9]; (repeat' split) <;> simp -implicitDefEqProofs only [State.draw_pending, State.setInstr_pending]; done) | (cases h9; done))))) | (rw [← Host.Outcome.next.inj ht]; done) | (rw [← Host.Outcome.next.inj ht]; simp -implicitDefEqProofs only [State.draw_pending, State.setInstr_pending]; done) | (rw [← Host.Outcome.next.inj ht]; (repeat' split) <;> simp -implicitDefEqProofs only [State.draw_pending, State.setInstr_pending]; done) | (cases ht; done))
theorem State.loadDriving_pending (s : State) (n : Nat) : ∀ t, (State.loadDriving s n) = .next t → t.pending = s.pending := by
  intro t ht; simp -implicitDefEqProofs only [State.loadDriving] at ht; (refine State.onTap_pending _ _ ?_ _ ht) <;> (intros; simp -implicitDefEqProofs only [State.record_pending, State.setInstr_pending, apply_ite State.pending, ite_self])
theorem execExtest_pending (s : State) : ∀ t, (execExtest s) = .next t → t.pending = s.pending := by
  intro t ht; simp -implicitDefEqProofs only [execExtest] at ht; exact State.loadDriving_pending _ _ _ ht
theorem execExtestPulse_pending (s : State) : ∀ t, (execExtestPulse s) = .next t → t.pending = s.pending := by
  intro t ht; simp -implicitDefEqProofs only [execExtestPulse] at ht; exact State.loadDriving_pending _ _ _ ht
theorem execExtestTrain_pending (s : State) : ∀ t, (execExtestTrain s) = .next t → t.pending = s.pending := by
  intro t ht; simp -implicitDefEqProofs only [execExtestTrain] at ht; exact State.loadDriving_pending _ _ _ ht
theorem execClamp_pending (s : State) : ∀ t, (execClamp s) = .next t → t.pending = s.pending := by
  intro t ht; simp -implicitDefEqProofs only [execClamp] at ht; exact State.loadDriving_pending _ _ _ ht
theorem execHighz_pending (s : State) : ∀ t, (execHighz s) = .next t → t.pending = s.pending := by
  intro t ht; simp -implicitDefEqProofs only [execHighz] at ht; exact State.loadDriving_pending _ _ _ ht
theorem execBoardOtp_pending (word : Nat) (s : State) : ∀ t, (execBoardOtp word s) = .next t → t.pending = s.pending := by
  intro t ht; simp -implicitDefEqProofs only [execBoardOtp] at ht; (refine State.onTap_pending _ _ ?_ _ ht) <;> (intros; simp -implicitDefEqProofs only [State.put_pending, State.record_pending, State.showHoldup_pending, State.setInstr_pending, apply_ite State.pending, ite_self])

end Sys2Proof.Machine
end

