-- ==== Sys2Proof/WellFormed.lean ====
section
/-! DEFINITION. Which commands are well formed: every operand in the range that its bus, packet, structure or payload can carry. The meanings are total; a sender can only send these. -/

namespace Sys2Proof

/-- A number of so many bits. -/
def fits (bits x : Nat) : Bool := decide (x < 2 ^ bits)

/-- A BAR0 offset: 64 MiB (R28). -/
def offOk (o : Nat) : Bool := fits 26 o

/-- A page exists: instances by kind (R28, R30, R107). -/
def pageOk (p : Page) : Bool :=
  match p.kind with
  | .deviceGlobals | .pageDirectory | .controlProcessor | .powerMgmt | .pcie | .keeper | .security | .recorder | .mirror => p.inst == 0
  | .bedSequencer | .coreWindow | .quantiser | .layerPrecision | .bridge | .bridgeCache | .regulators => decide (p.inst < 8)
  | .cluster | .updateUnit | .memController => decide (p.inst < 32)
  | .linkDie => decide (p.inst < 2)
  | .port | .reduction => decide (p.inst < 16)
  | .coreSub0 | .coreSub1 | .coreSub2 | .coreSub3 => decide (p.inst < 3072)

/-- A fabric packet as the 64-byte header and the payload carry it (R232). -/
def packetOk (k : Packet) : Bool :=
  fits 13 k.dest && fits 13 k.src && fits 3 k.srcPart && fits 2 k.cls && fits 8 k.type && decide (k.hopCount ≤ 7) && k.hops.length == k.hopCount &&
    k.hops.all (fits 7) && fits 64 k.seq && fits 16 k.frameLo && k.tf.length == 20 && decide (k.payload.length ≤ 4096) && k.tag.length == 16

/-- A bridge access: class, hint and USES of R168, R173 and the address (R169). -/
def memReqOk (r : MemReq) : Bool := fits 2 r.cls && fits 2 r.hint && fits 8 r.uses && fits 64 r.addr

/-- Where a vector instruction runs: entry, OP_ID, layer, cycle (R121, R143). -/
def whereOk (w : VWhere) : Bool := fits 16 w.entry && fits 32 w.opId && fits 10 w.layer && fits 18 w.cycle

/-- The operand codes of a vector instruction (R145). -/
def vecArgsOk (i : VArgs) : Bool := fits 8 i.dst && fits 8 i.a && fits 8 i.b && fits 8 i.c

/-- A vector instruction with its place. -/
def vecOk (w : VWhere) (i : VArgs) : Bool := whereOk w && vecArgsOk i

/-- An authorisation block: nonce and signature (R285). -/
def authOk (a : Auth) : Bool := a.nonce.length == 8 && a.sig.length == 96

/-- The path of a command: a fabric source is a device id. -/
def pathOk : Path → Bool
  | .fabric src => fits 13 src
  | .mailbox | .mctp | .secured _ => true

/-- A management command's frame (R369). -/
def reqOk (r : Req) : Bool := pathOk r.path && fits 8 r.part && fits 8 r.reserved && r.auth.all authOk

/-- A raw command (R369). -/
def rawOk (c : RawCmd) : Bool := fits 16 c.code && fits 8 c.part && fits 8 c.reserved

/-- A firmware chunk: image 0 or 1, offset, 1 to 1,024 bytes (R296, R371). -/
def chunkOk (image offset : Nat) (chunk : List Byte) : Bool := decide (image < 2) && fits 32 offset && decide (1 ≤ chunk.length ∧ chunk.length ≤ 1024)

/-- A part of a bucket as a REDUCE packet names it (R252). -/
def partOk (bucket step tile piece : Nat) : Bool := fits 16 bucket && fits 32 step && fits 16 tile && decide (piece < 4)

/-- Every operand of a command is in the range that its sender can spell. -/
def Instr.wf : Instr → Bool
  | .badAccess off size _ => offOk off && fits 8 size
  | .unimplementedAccess off size _ => offOk off && fits 8 size
  | .lowWordRead off _ => offOk off
  | .registerWrite _ off size value => offOk off && fits 8 size && fits 64 value
  | .directoryWrite off size value => offOk off && fits 8 size && fits 64 value
  | .ctlRunWrite _ page _ => pageOk page
  | .cntClr page => pageOk page
  | .commit page => pageOk page
  | .abort page => pageOk page
  | .stagingSetFlush page => pageOk page
  | .pageLock page => pageOk page
  | .coreWindowAccess _ off size write => fits 12 off && fits 8 size && write.all (fits 64)
  | .partCfgWrite _ value => fits 2 value
  | .layerStateWrite _ value => fits 32 value
  | .inactivePageWrite _ off size => fits 12 off && fits 8 size
  | .groupWordWrite _ _ value => fits 32 value
  | .brMapWrite _ value => fits 8 value
  | .bridgeRunStop _ => true
  | .portRunWrite _ _ => true
  | .encCtlWrite _ _ _ => true
  | .bedRunStop _ => true
  | .runWriteIgnored _ => true
  | .mirrorWrite off size value => fits 12 off && fits 8 size && fits 64 value
  | .recordRead => true
  | .freeze => true
  | .unfreeze => true
  | .freezeEffective => true
  | .freezeTimeout => true
  | .doorbell _ tail descs => fits 12 tail && descs.all fun d => d.length == 32
  | .mbxGo => true
  | .mbxHalt => true
  | .frameTick _ => true
  | .stepBoundary _ => true
  | .precisionRetry _ layer => fits 10 layer
  | .precisionShiftReset _ layer => fits 10 layer
  | .changeForced _ => true
  | .capRelease => true
  | .matrixInstructionBlock _ _ _ ready => fits 18 ready
  | .matrixBlockEnd _ _ _ => true
  | .vectorInstructionBlock _ _ _ ready => fits 18 ready
  | .vAdd w i => vecOk w i
  | .vSub w i => vecOk w i
  | .vMul w i => vecOk w i
  | .vFma w i => vecOk w i
  | .vMin w i => vecOk w i
  | .vMax w i => vecOk w i
  | .vAbs w i => vecOk w i
  | .vNeg w i => vecOk w i
  | .vCmplt w i => vecOk w i
  | .vCmpeq w i => vecOk w i
  | .vSel w i => vecOk w i
  | .vSqrt w i => vecOk w i
  | .vRcp w i => vecOk w i
  | .vRsqrt w i => vecOk w i
  | .vExp2 w i => vecOk w i
  | .vLog2 w i => vecOk w i
  | .vCvtInt32 w i => vecOk w i
  | .vCvtBf16 w i => vecOk w i
  | .vIadd w i => vecOk w i
  | .vAnd w i => vecOk w i
  | .vOr w i => vecOk w i
  | .vXor w i => vecOk w i
  | .vShl w i => vecOk w i
  | .vShr w i => vecOk w i
  | .vectorLoad w i => vecOk w i
  | .vectorStore w i => vecOk w i
  | .quantiseTile _ _ => true
  | .nfTrap _ => true
  | .contextStallTimeout _ _ _ => true
  | .sequencerAckTimeout _ => true
  | .transferLoad _ _ _ => true
  | .transferPrefetch _ _ _ => true
  | .transferRelease _ _ _ => true
  | .transferDrop _ _ _ => true
  | .transferComplete _ _ _ => true
  | .lineRead req _ => memReqOk req
  | .lineWrite req first data _ => memReqOk req && decide (first + data.length ≤ 64)
  | .scrubDone _ => true
  | .patrolScrub _ addr _ _ => fits 64 addr
  | .memoryTrainingCheck _ _ _ => true
  | .channelRetrain _ _ errors => fits 32 errors
  | .retrainEnd _ _ _ => true
  | .refreshLate _ _ => true
  | .updateEntry _ => true
  | .updatePrepass _ => true
  | .unitStop _ => true
  | .slotSend _ slot => decide (slot < 3077)
  | .slotReceive _ _ _ packet _ => packetOk packet
  | .dataReceive _ packet => packetOk packet
  | .heartbeatReceive _ packet => packetOk packet
  | .heartbeatTimeout _ => true
  | .timeRequestReceive _ packet => packetOk packet
  | .timeResponseReceive _ packet => packetOk packet
  | .groupAlignTimeout _ => true
  | .timeRefEdge => true
  | .trefHoldoverTimeout => true
  | .topologyReceive _ packet => packetOk packet
  | .reduceReceive _ packet => packetOk packet
  | .levelCutoff _ bucket step tile piece => partOk bucket step tile piece
  | .rootDeadline _ bucket step tile piece => partOk bucket step tile piece
  | .certReceive _ packet => packetOk packet
  | .voteDeadline _ code => fits 16 code
  | .cuttingReceive _ packet => packetOk packet
  | .cutAckReceive _ packet => packetOk packet
  | .mgmtReceive _ packet => packetOk packet
  | .portRetrain _ => true
  | .portTrainingTimeout _ => true
  | .linkUp _ => true
  | .d2dFlitRetry _ _ => true
  | .d2dTrainingLost _ => true
  | .d2dTrainingTimeout _ => true
  | .ledgerEntryWrite _ => true
  | .ledgerStall _ => true
  | .drbgReseed _ _ => true
  | .entropyHealthFail => true
  | .armatureLoad req addr len => reqOk req && fits 64 addr && fits 32 len
  | .armatureActivate req armId startFrame startStep startEpoch startTime =>
    reqOk req && fits 32 armId && fits 48 startFrame && fits 32 startStep && fits 16 startEpoch && fits 64 startTime
  | .armatureUnload req armId => reqOk req && fits 32 armId
  | .graftPlan req memberHash step => reqOk req && fits 64 memberHash && fits 32 step
  | .regrow req partner source cutStep _ _ => reqOk req && fits 13 partner && fits 13 source && fits 32 cutStep
  | .regrowReplay _ step => fits 32 step
  | .getStatus req => reqOk req
  | .getNonce req => reqOk req
  | .readPower req => reqOk req
  | .setPowerState req target => reqOk req && fits 8 target
  | .haltAndHold req => reqOk req
  | .evrRead req first => reqOk req && fits 16 first
  | .evrFreeze req => reqOk req
  | .evrUnfreeze req => reqOk req
  | .evrClear req scope upToSeq => reqOk req && fits 8 scope && fits 64 upToSeq
  | .ownerEnroll req keyHash => reqOk req && keyHash.length == 48
  | .ownerRevoke req => reqOk req
  | .sessionOpen req _ => reqOk req
  | .sessionClose req => reqOk req
  | .fwUpdate req image offset chunk _ => reqOk req && chunkOk image offset chunk
  | .fwCommit req => reqOk req
  | .pageUnlock req page => reqOk req && pageOk page
  | .recoveryWrite req image offset chunk _ => reqOk req && chunkOk image offset chunk
  | .unknownCommand req code => reqOk req && fits 16 code
  | .managementCommandTimeout req code phase => reqOk req && fits 16 code && fits 32 phase
  | .setEndpointId eid op => fits 8 eid && fits 2 op
  | .getEndpointId => true
  | .getMctpVersionSupport type => fits 8 type
  | .getMessageTypeSupport => true
  | .getVendorDefinedMessageSupport selector => fits 8 selector
  | .getVersion => true
  | .getCapabilities => true
  | .negotiateAlgorithms offered => offered.all (fits 32)
  | .getDigests => true
  | .getCertificate slot offset len => fits 8 slot && fits 16 offset && fits 16 len
  | .challenge slot nonce => fits 8 slot && nonce.length == 32
  | .getMeasurements index nonce => fits 8 index && nonce.length == 32
  | .keyExchange mutualAuth digest key cert => (!mutualAuth || digest.length == 48) && decide (cert.length ≤ 65535) && key.length == 96
  | .finish session _ => fits 32 session
  | .endSession session => fits 32 session
  | .keyUpdate session => fits 32 session
  | .vendorDefinedRequest session cmd => fits 32 session && rawOk cmd
  | .spdmUnsupportedRequest code => fits 8 code
  | .bar2Read off _ => fits 36 off
  | .bar2Write off data _ => fits 36 off && decide (1 ≤ data.length ∧ off % 64 + data.length ≤ 64)
  | .dmaHostToDevice _ data => decide (data.length ≤ 16777216)
  | .dmaDeviceToHost _ => true
  | .dmaSealedWrite _ cipher tag => decide (cipher.length ≤ 1048576) && tag.length == 16
  | .dmaCompletion _ => true
  | .dmaDescriptorTimeout _ moved => moved.length % 64 == 0
  | .pcieConfigRequest dword write => decide (dword < 1024) && write.all (fits 32)
  | .flr => true
  | .deviceReset _ => true
  | .powerUp => true
  | .boot _ => true
  | .cpWatchdogTimeout => true
  | .cpRestartComplete => true
  | .cpRestartLimit => true
  | .vinExcursion millivolts => fits 16 millivolts
  | .inputOvercurrent watts => fits 16 watts
  | .vauxLow => true
  | .converterFault modules regulators => modules.all (fits 3) && regulators.all (fits 7)
  | .pwrAlert => true
  | .floorExit => true
  | .flowFault => true
  | .flowFaultDormant => true
  | .thermTrip sensor celsius => fits 7 sensor && fits 8 celsius
  | .junctionSensorRead sensor celsius => fits 7 sensor && fits 8 celsius
  | .throttleRestore => true
  | .droopDetect edges => fits 32 edges
  | .sustainedDroop => true
  | .marginCheck monitor _ => fits 9 monitor
  | .clustersOn => true
  | .holdupSample millivolts => fits 16 millivolts
  | .durableStoreStart _ => true
  | .durableStoreComplete => true
  | .durableStoreRetry _ => true
  | .eventBatchStore => true
  | .hours => true
  | .opSecond => true
  | .repeatSecond => true
  | .meterReady => true
  | .meterNotReady => true
  | .attributionInterval input aux branches milliamps => fits 64 input && fits 64 aux && branches.length == 8 && branches.all (fits 64) && fits 32 milliamps
  | .metPulse => true
  | .overrange milliamps => fits 32 milliamps
  | .meterCommit holdupMillivolts => fits 16 holdupMillivolts
  | .selfTestFail => true
  | .snapshot _ => true
  | .snapshotStale => true
  | .sealChange _ => true
  | .readEnergy _ => true
  | .readStatus _ => true
  | .readSwId _ => true
  | .readAudit index _ => fits 16 index
  | .readCfg _ => true
  | .cfgWrite holdupMillifarad holdupMillivolts _ => fits 16 holdupMillifarad && fits 16 holdupMillivolts
  | .fwBegin length milliamps _ => fits 32 length && fits 32 milliamps
  | .fwChunk offset data _ => fits 32 offset && decide (data.length ≤ 240)
  | .fwEnd holdupMillivolts milliamps payload _ => fits 16 holdupMillivolts && fits 32 milliamps && decide (payload.length ≤ 255)
  | .islandUnknownCommand code _ => fits 8 code
  | .bypass opcode => fits 8 opcode
  | .idcode => true
  | .samplePreload _ => true
  | .extest => true
  | .extestPulse => true
  | .extestTrain => true
  | .clamp => true
  | .highz => true
  | .boardOtp word => fits 64 word
  | .vauxRise => true
  | .vinRestore millivolts => fits 16 millivolts
  | .keeperStop => true
  | .flowFaultClear => true
  | .d2dTrainingRecovered _ => true
  | .timeHoldEnd => true
  | .stackHot _ celsius => fits 8 celsius
  | .powerTransitionComplete => true

end Sys2Proof
end

