-- ==== Sys2Proof/Tests/Slice0.lean ====
section
/-! SUPPORT. One witness per obligation with hypotheses (a concrete state and operands that meet all of them together),
one ill-formed command for each check of WellFormed, and small tests whose figures stand in the spec. -/

open Sys2Proof Sys2Proof.Machine
namespace Sys2Proof.Tests.Slice0
set_option Elab.async false

/-! ### Small states -/

/-- After power-up and boot: in Run, every bed at rest. -/
def up : State :=
  { State.reset with pw := { State.reset.pw with power := .run, stage40 := true, bootPhase := 6, armed := false } }.put pgPcie .BOOT_DONE 1
/-- The same in another power state. -/
def inPower (p : PowerState) : State := { up with pw := { up.pw with power := p } }
/-- Bed 0 in a sequencer state, with an origin at 0 and frames of 16 µs, at a time. -/
def bedAt (seq now : Nat) : State :=
  { up with beds := [(0, { BedSt.reset with origin := true, started := true, us := 16 })], time := { up.time with now := now } }.put (pgBed 0) .SEQ_STATE seq
    |>.put (pgBed 0) .FRAME_US 16 |>.put (pgBed 0) .RUN 1
/-- A session of partition 0 in a state. -/
def session (n : Nat) : State := up.put pgSec .SESSION_STATE n 0
/-- The island ready. -/
def metering : State := { State.reset with isl := { State.reset.isl with ready := true, holdupC := 1000 } }
/-- A command of the management port. -/
def req : Req := ⟨.mctp, 0, 0, true, none⟩
/-- A descriptor of an operation in flight on queue 0. -/
def flying (op : Nat) (st : Option Nat) (irq : Bool) : State :=
  { up with host := { up.host with inFlight := [(0, [⟨⟨4096, 0, 64, op, irq, false, 7⟩, 0, st, 0, 0⟩])] } }
theorem witness_StepRunsFront : { State.reset with pending := [.hours] }.pending = .hours :: [] := by decide
theorem witness_StepKeepsMemoryForms : completes (step { State.reset with pending := [.getEndpointId] }) = true ∧
    { State.reset with pending := [.getEndpointId] }.mem.wf = true ∧ { State.reset with pending := [.getEndpointId] }.localWf = true := by decide +kernel
/-- A page with an open set and a waiting one of its budgets. -/
def stagedAt (skip : Nat) (s : State) : State := s.setStaging (pgReg 0) ⟨[(⟨pgReg 0, .TRAP_EN, 0⟩, 1)],
  [([(⟨pgReg 0, .HOST_BUDGET, 0⟩, 4), (⟨pgReg 0, .HOST_BUDGET, 0⟩, 5), (⟨pgReg 0, .TRAP_EN, 0⟩, 1)], skip)], 0⟩
theorem witness_StepKeepsStagingAndParts : completes (step { stagedAt 0 State.reset with pending := [.getEndpointId] }) = true ∧
    { stagedAt 0 State.reset with pending := [.getEndpointId] }.stagingLegal ∧ { stagedAt 0 State.reset with pending := [.getEndpointId] }.partsLegal := by
  unfold State.stagingLegal State.partsLegal; decide +kernel
theorem witness_StepKeepsAccounts : completes (step { State.reset with pending := [.getEndpointId] }) = true ∧
    { State.reset with pending := [.getEndpointId] }.Inv := by unfold State.Inv IslandSt.conserved; decide +kernel
theorem witness_PartitionTable : State.reset.partsLegal ∧ State.reset.partCount = 1 ∧ (State.reset.put pgGlobals .PART_LOG2 1).partCount = 2 ∧
    (State.reset.put pgGlobals .PART_LOG2 2).partCount = 4 ∧ (State.reset.put pgGlobals .PART_LOG2 3).partsLegal ∧
    (State.reset.put pgGlobals .PART_LOG2 3).partCount = 8 := by unfold State.partsLegal; decide +kernel
theorem witness_F4Rounding : (8 : Nat) ≠ 0 ∧ 0 < (⟨25, 4⟩ : Q).den ∧ Q.lt ⟨6, 1⟩ ⟨25, 4⟩ = true ∧ Q.lt ⟨-25, 4⟩ ⟨-6, 1⟩ = true ∧
    (f4Val (f4Enc ⟨-1, 4⟩).1).isZero = true := by decide +kernel
theorem witness_BadAccessesAndWideReads : up.barUp = true ∧ ¬((4 = 4 ∨ 4 = 8) ∧ 2 % 4 = 0) ∧ up.pageAt 0x12000 = none ∧ up.pageAt 0x19000 = none ∧
    0x12000 % 8 = 0 ∧ 0xFFF8 % 8 = 0 ∧ 0xFF8 < 0x1000 ∧ up.partFirst (up.partOf 7) ≠ 7 ∧
    up.pageAt 0x100 = some (pgGlobals, 0x100) ∧ pgGlobals ≠ pgRec ∧ pgGlobals ≠ pgPower ∧ inWindow pgGlobals 0x100 = false := by decide +kernel
theorem witness_HeadCommandsAndRefusals : up.isPage pgSec = true ∧ pgSec.kind ≠ .mirror ∧ pgSec.kind ≠ .pageDirectory ∧ up.flag pgSec .LOCKED = false ∧
    (up.stagingOf pgSec).waiting.length < 2 ∧ 2 ≤ ((up.setStaging pgSec ⟨[], [([], 0), ([], 0)], 0⟩).stagingOf pgSec).waiting.length ∧
    (up.setStaging pgSec ⟨[], [([], 0), ([], 0)], 0⟩).isPage pgSec = true ∧ (up.setStaging pgSec ⟨[], [([], 0), ([], 0)], 0⟩).flag pgSec .LOCKED = false ∧
    (up.put pgSec .LOCKED 1).flag pgSec .LOCKED = true ∧ (up.put pgSec .LOCKED 1).isPage pgSec = true ∧ (up.put pgSec .LOCKED 1).barUp = true ∧
    up.barUp = true ∧ up.get (pgBridge 0) .ENC_EN = 0 ∧ up.flag (pgBed 7) .LOCKED = false ∧ up.get (pgBed 7) .RUN = 0 := by decide +kernel
theorem witness_FieldWritesFlushAndWindow : up.barUp = true ∧ up.pageAt 0x14 = some (pgGlobals, 0x14) ∧ 0xFFFFFFFF < 2 ^ 32 ∧
    0xFFFFFFFF ≠ up.get pgGlobals .EVT_EN % 2 ^ 32 ∧ up.flag (pgReg 7) .LOCKED = false ∧ 0xFFFFFF ≠ up.heldValue (pgReg 7) ⟨pgReg 7, .HOST_BUDGET, 0⟩ ∧
    (pgBed 0).kind ≠ PageKind.powerMgmt ∧ up.lowestRunning = none ∧ (up.put ⟨.coreWindow, 0⟩ .WIN_CORE 384).windowPage 0 = none ∧
    (up.put ⟨.coreWindow, 0⟩ .WIN_CORE 384).barUp = true ∧ up.windowPage 0 = some (pgCore .coreSub0 0) ∧
    highWord .coreSub0 0 = false ∧ wideAt .coreSub0 0 = false ∧ up.pageAt 0x10 = some (pgGlobals, 0x010) ∧ up.pageAt 0x18 = some (pgGlobals, 0x018) ∧
    up.pageAt 0x28 = some (pgGlobals, 0x028) ∧ up.flag pgGlobals .LOCKED = false ∧ (pgCore .coreSub0 0).kind = .coreSub0 ∧
    up.flag ⟨.coreWindow, 0⟩ .LOCKED = false ∧ bitAt 0x80000000 31 = true := by decide +kernel
theorem witness_RunWrites : up.isPage pgCp = true ∧ pgCp.kind ∉ [PageKind.pageDirectory, .bedSequencer, .port, .bridge, .keeper, .recorder, .mirror, .powerMgmt] ∧ up.barUp = true ∧
    up.flag pgCp .LOCKED = false ∧ up.get pgCp .RUN = 1 - b2n true ∧ (up.put pgCp .RUN 1).get pgCp .RUN = 1 - b2n false ∧
    (up.put pgCp .RUN 1).tickBed pgCp = none ∧ (up.put pgCp .RUN 1).flag pgCp .LOCKED = false ∧
    (bedAt 2 0).barUp = true ∧ (bedAt 2 0).flag (pgBed 0) .LOCKED = false ∧ (bedAt 2 0).get (pgBed 0) .RUN = 1 ∧ (bedAt 2 0).seq 0 = seqRunning ∧
    (bedAt 3 0).seq 0 = seqPaused ∧ (up.put (pgBridge 0) .RUN 1).get (pgBridge 0) .RUN = 1 ∧ (up.put (pgBridge 0) .RUN 1).flag (pgBridge 0) .LOCKED = false ∧
    (∀ c ∈ (up.put (pgBridge 0) .RUN 1).partBeds 0, (up.put (pgBridge 0) .RUN 1).seq c = seqIdle) ∧
    ((bedAt 2 0).put (pgBridge 0) .RUN 1).get (pgBridge 0) .RUN = 1 ∧ ((bedAt 2 0).put (pgBridge 0) .RUN 1).flag (pgBridge 0) .LOCKED = false ∧
    (∃ c ∈ ((bedAt 2 0).put (pgBridge 0) .RUN 1).partBeds 0, ((bedAt 2 0).put (pgBridge 0) .RUN 1).seq c ≠ seqIdle) ∧
    up.flag (pgPort 15) .LOCKED = false ∧ up.get (pgPort 15) .RUN = 0 ∧ (up.put (pgPort 15) .RUN 1).get (pgPort 15) .RUN = 1 ∧
    (up.put (pgPort 15) .RUN 1).flag (pgPort 15) .LOCKED = false ∧ (up.put (pgPort 15) .RUN 1).seq 7 = seqIdle := by decide +kernel
theorem witness_ConfigurationWrites : up.barUp = true ∧ 3 ≠ up.get pgGlobals .PART_LOG2 % 4 ∧ up.flag pgGlobals .LOCKED = false ∧ up.anyBedRuns = false ∧
    up.anyOpen = false ∧ up.running (pgBridge 7) = false ∧ up.running (pgLayer 0) = false ∧ 144 ≠ up.get (pgBridge 7) .LOCAL_GIB % 256 ∧ up.flag (pgBridge 7) .LOCKED = false ∧ up.get (pgBridge 7) .RUN = 0 ∧
    up.get (pgBridge 7) .ENC_EN = 0 ∧ up.partFirst (up.partOf 0) = 0 ∧ up.get (pgLayer 0) .LAYER_MODE (up.get (pgLayer 0) .LAYER_SEL) = 0 ∧
    up.flag (pgLayer 0) .LOCKED = false ∧ (∀ c ∈ up.partBeds 0, up.bedRuns c = false) ∧
    2 ≠ up.get (pgLayer 0) .LAYER_ST (up.get (pgLayer 0) .LAYER_SEL) % 4 ∧ up.flag (pgUnit 0) .LOCKED = false ∧ up.lowUnit 0 = pgUnit 0 ∧
    0xFFFFFFFF ≠ up.heldValue (pgUnit 0) ⟨pgUnit 0, .GROUP_WORD, 8 * up.get (pgUnit 0) .GROUP_SEL + 7⟩ := by decide +kernel
theorem witness_RecorderFreezeAndSeconds : up.barUp = true ∧ up.flag pgRec .LOCKED = false ∧ up.flag pgRec .FROZEN = false ∧
    (up.put pgRec .FROZEN 1).flag pgRec .FROZEN = true ∧ (up.put pgRec .FROZEN 1).flag pgRec .LOCKED = false ∧
    { up with evr := { up.evr with freezeAsked := true } }.flag pgRec .STORING = false ∧
    16384 ≤ (up.put pgRec .SLOT_SEL 32767).get pgRec .SLOT_SEL ∧ up.pw.keeperOn = true ∧ up.pw.power ≠ .off ∧
    3600 ≤ { up with evr := { up.evr with sinceBatch := 3600 } }.evr.sinceBatch ∧ (∀ r ∈ up.evr.queueGen, r.code ≠ 0x0005) ∧
    { up with evr := { up.evr with freezeAsked := true } }.evr.freezeAsked = true ∧ Tab.find? ({ up with evr := { up.evr with slots := [(16384, ⟨1, 0, 0, 0xF1, 0, 0, 0, 0, []⟩)] } } : State).evr.slots 16384 ≠ none ∧
    ({ up with evr := { up.evr with perSecond := [((0, 0xF5), 65), ((1, 0xF5), 64), ((2, 0xF5), 70)] } } : State).evr.perSecond.filter (fun e => decide (64 < e.2)) =
      [((0, 0xF5), 65), ((2, 0xF5), 70)] ∧ up.evr.queueGen.length + 2 ≤ 4096 ∧ up.get pgRec .NEXT_SEQ + 2 < 2 ^ 64 ∧
    (∀ e ∈ ([((0, 0xF5), 64)] : List ((Nat × Nat) × Nat)), e.2 ≤ 64) := by decide +kernel
theorem witness_EventRecordsAreQueued : up.pw.keeperOn = true ∧ protectedCode 0xF1 = false ∧ up.evr.perSecond.get (pageSource pgSec, 0xF1) 0 < 64 ∧
    up.evr.queueGen.length < 4096 ∧ pgSec ≠ pgRec ∧ (List.replicate 30 (0 : Byte)).length ≤ 30 ∧ up.flag pgSec .CAP_VALID = false ∧
    noticeCode 0xF1 = false ∧ (up.put pgSec .CAP_VALID 1).flag pgSec .CAP_VALID = true := by decide +kernel
/-- A record of the general region. -/
def aRecord : Record := ⟨1, 0, 0, 0xF5, 0, 0, 0, 0, []⟩
/-- With hold-up energy in the keeper. -/
def charged : State := { up with pw := { up.pw with samples := [11000, 11000, 11000, 11000], trimWaiting := true } }.put pgKeeper .HOLDUP_CAP 10000
theorem witness_DurableStores : up.pw.keeperOn = true ∧ charged.flag pgKeeper .STORE_ACTIVE = false ∧ charged.storeWaits 2 = true ∧
    storeCost 2 + 40 ≤ charged.holdE ∧ { up with pw := { up.pw with trimWaiting := true } }.storeWaits 2 = true ∧
    { up with pw := { up.pw with trimWaiting := true } }.holdE < storeCost 2 + 40 ∧ bitAt (up.get pgKeeper .EVT) 0 = false ∧
    bitAt ((charged.put pgKeeper .EVT 1).get pgKeeper .EVT) 0 = true ∧ (charged.put pgKeeper .EVT 1).storeWaits 2 = true ∧
    { charged with evr := { charged.evr with queueGen := [aRecord] } }.nextBatch ≠ [] ∧ 160 ≤ charged.holdE ∧
    ((up.put pgKeeper .STORE_ACTIVE 1).put pgKeeper .STORE_KIND 2).get pgKeeper .STORE_KIND = 2 ∧
    (up.put pgKeeper .STORE_ACTIVE 1).flag pgKeeper .STORE_ACTIVE = true ∧ (up.put pgKeeper .STORE_ACTIVE 1).get pgKeeper .STORE_KIND = 0 ∧
    { up with evr := { up.evr with batch := [aRecord] } }.evr.batch = [aRecord] ∧ protectedCode aRecord.code = false ∧ aRecord.code ≠ 0x0F01 := by decide +kernel
/-- Queue 0 enabled with a ring of 16, and a device-to-host descriptor of 64 bytes. -/
def queued : State := (((up.put (pgBridge 0) .RUN 1).put pgPcie .DMAQ_EN 1 0).put pgPcie .RING_LOG2 4 0)
/-- The 32 bytes of a descriptor with FLAGS[0]. -/
def descBytes (op : Nat) : List Byte := leBytes 8 4096 ++ leBytes 8 0x18000000 ++ leBytes 4 64 ++ leBytes 1 op ++ [1, 0, 0] ++ leBytes 8 7
/-- Up in a flow fault. -/
def faulted : State := { up with mem := { up.mem with budgetZero := true } }
theorem witness_HostAccesses : 2 ^ 36 - 64 < 2 ^ 36 ∧ (up.put (pgBridge 0) .RUN 1).barUp = true ∧ (up.put (pgBridge 0) .RUN 1).hostWaits = false ∧
    (up.put (pgBridge 0) .RUN 1).hostFaulty 0 0x18000000 = false ∧ (up.put (pgBridge 0) .RUN 1).get pgPcie .APERTURE_PART = 0 ∧
    (up.put (pgBridge 0) .RUN 1).apertureAddr 0x18000000 = 0x18000000 ∧ up.barUp = true ∧ faulted.hostWaits = true ∧ faulted.barUp = true ∧
    up.hostFaulty (up.get pgPcie .APERTURE_PART) (up.apertureAddr 0) = true ∧ up.flag pgPcie .LOCKED = false ∧ up.flag pgPcie .DMAQ_EN 15 = false ∧
    queued.barUp = true ∧ queued.flag pgPcie .LOCKED = false ∧ queued.flag pgPcie .DMAQ_EN 0 = true ∧ queued.host.ringTail.get 0 [] = [] ∧
    queued.flying 0 = [] ∧ queued.get pgPcie .RING_LOG2 0 = 4 ∧ queued.get pgPcie .DMAQ_TAIL 0 = 0 ∧ queued.halts pgPcie = false ∧
    (up.halt pgPcie).halts pgPcie = true ∧ (descOf (descBytes 1)).op = 1 ∧ (descOf (descBytes 1)).irq = true ∧
    queued.descStatus 0 (descOf (descBytes 1)) = none ∧ (up.put pgPcie .LOCKED 1).flag pgPcie .LOCKED = true ∧ (up.put pgPcie .LOCKED 1).barUp = true ∧
    (up.put pgPcie .LOCKED 1).get pgPcie .DMAQ_TAIL 15 ≠ 1 % 2 ^ 12 := by decide +kernel
/-- Two descriptors in flight on queue 0, the first ended. -/
def twoFlying (first : Option Nat) : State :=
  { up with host := { up.host with inFlight := [(0, [⟨⟨4096, 0, 64, 1, true, false, 7⟩, 0, first, 0, 0⟩, ⟨⟨8192, 64, 64, 2, false, false, 8⟩, 1, some 0, 64, 0⟩])] } }
theorem witness_DmaMovesAndEnds : (firstDesc 0 ((flying 0 none true).flying 0)).isSome = true ∧ (flying 0 none true).barUp = true ∧
    (flying 0 none true).sessionOpen ((flying 0 none true).queuePart 0) = false ∧
    ((flying 0 none true).put pgSec .SESSION_STATE 2 0).sessionOpen 0 = true ∧ ((flying 0 none true).put pgSec .SESSION_STATE 2 0).queuePart 0 = 0 ∧
    (firstDesc 1 ((flying 1 none true).flying 0)).isSome = true ∧ (firstDesc 2 ((flying 2 none true).flying 0)).isSome = true ∧
    (flying 0 (some 15) true).flying 0 = [⟨⟨4096, 0, 64, 0, true, false, 7⟩, 0, some 15, 0, 0⟩] ∧ (flying 0 (some 15) true).host.ringTail.get 0 [] = [] ∧
    (flying 0 (some 0) false).flying 0 = [⟨⟨4096, 0, 64, 0, false, false, 7⟩, 0, some 0, 0, 0⟩] ∧
    (flying 1 none true).flying 0 = [⟨⟨4096, 0, 64, 1, true, false, 7⟩, 0, none, 0, 0⟩] ∧ (flying 1 none true).hostWaits = false ∧ faulted.hostWaits = true ∧
    (flying 2 none true).flying 0 = [⟨⟨4096, 0, 64, 2, true, false, 7⟩, 0, none, 0, 0⟩] ∧
    (twoFlying (some 15)).flying 0 = [⟨⟨4096, 0, 64, 1, true, false, 7⟩, 0, some 15, 0, 0⟩, ⟨⟨8192, 64, 64, 2, false, false, 8⟩, 1, some 0, 64, 0⟩] ∧
    (twoFlying (some 15)).host.ringTail.get 0 [] = [] ∧ (twoFlying none).flying 0 ≠ [] ∧ (twoFlying none).barUp = true := by decide +kernel
/-- GET_STATUS spelled in the mailbox. -/
def mailed : State := (up.put pgPcie .MBX_LEN 4).put pgPcie .MBX_BUF 1 0
theorem witness_HostPortCommands : mailed.barUp = true ∧ mailed.flag pgPcie .LOCKED = false ∧ 4 ≤ mailed.get pgPcie .MBX_LEN ∧
    mailed.get pgPcie .MBX_LEN ≤ 2048 ∧ (rawOf mailed.mailboxBytes).code = 1 ∧
    (mailed.put pgPcie .MBX_GO 1).reaches .mailbox (rawOf mailed.mailboxBytes).code (rawOf mailed.mailboxBytes).part = true ∧
    completes ((mailed.put pgPcie .MBX_GO 1).runRaw .mailbox (rawOf mailed.mailboxBytes)) = true ∧
    (up.put pgPcie .MBX_LEN 2049).get pgPcie .MBX_LEN = 2049 ∧ (up.put pgPcie .MBX_LEN 2049).barUp = true ∧
    { State.reset with pw := { State.reset.pw with stage40 := true } }.barUp = false ∧ State.reset.pw.power = .off ∧
    (mailed.put pgPcie .MBX_LEN 2049).securedCode (rawOf (mailed.put pgPcie .MBX_LEN 2049).mailboxBytes).code = false ∧
    ((mailed.put pgPcie .MBX_BUF 0x55 0).put pgPcie .MBX_LEN 2049).securedCode (rawOf ((mailed.put pgPcie .MBX_BUF 0x55 0).put pgPcie .MBX_LEN 2049).mailboxBytes).code = true ∧
    up.pw.keeperOn = true ∧ up.pw.recovery = false ∧ (up.put pgPcie .LOCKED 1).flag pgPcie .LOCKED = true ∧
    { State.reset with pw := { State.reset.pw with stage40 := true } }.pw.armed = true ∧ mailed.flag pgPcie .MBX_GO = false ∧
    mailed.reaches .mailbox (rawOf mailed.mailboxBytes).code (rawOf mailed.mailboxBytes).part = true ∧ (mailed.put pgPcie .MBX_GO 1).flag pgPcie .MBX_GO = true ∧
    { State.reset with host := { State.reset.host with linkL0 := true } }.host.linkL0 = true := by decide +kernel
/-- A secured session of SPDM, whose requester is known by a key of 48 zeros; the owner slot is taken. -/
def secured : State := { up with sec := { up.sec with spdm := [(0, ⟨List.replicate 48 0, true, true, [], 0⟩)] } }
/-- The same with owners enrolled. -/
def owned (n : Nat) : State := { secured with sec := { secured.sec with owners := List.replicate n (List.replicate 48 0, false) } }
/-- A command inside that session. -/
def sreq : Req := ⟨.secured 0, 0, 0, true, none⟩
/-- The bytes of a small armature: one bed, one layer, one K-unit, no issue entry. -/
def file : List Byte :=
  leBytes 4 0x54524D41 ++ leBytes 2 1 ++ leBytes 2 0 ++ leBytes 4 7 ++ leBytes 4 3328 ++ leBytes 2 16 ++ leBytes 2 1 ++ leBytes 2 50 ++ [0, 1] ++
  leBytes 4 1 ++ leBytes 8 0 ++ leBytes 4 5 ++ List.replicate 24 0 ++
  [(1, 0, 192, 0), (2, 384, 192, 3072), (3, 1, 3264, 40), (4, 0, 3328, 0), (9, 0, 3328, 0)].flatMap
    (fun x => leBytes 4 x.1 ++ leBytes 4 x.2.1 ++ leBytes 4 x.2.2.1 ++ leBytes 4 x.2.2.2)
/-- The file's whole length: zeros behind its header and section table. -/
def padded : List Byte := file ++ List.replicate 3184 0
/-- The file in lines that the cache of bridge 0 pins, beyond the armature region. -/
def stored : State := { up with mem := { up.mem with cache := (List.range 52).map fun i => (0x600000 + i,
  ⟨some 1, if i < 3 then (padded.drop (64 * i)).take 64 else List.replicate 64 0, false, false, false, true, 0, 0⟩) } }.put (pgBridge 0) .RUN 1
/-- The file in slot 0. -/
def loaded : State := { up with arms := [((0, 0), ⟨file, []⟩)] }
theorem flatMap_zeros (l : List Nat) (g : Nat → List Byte) (h : ∀ x ∈ l, g x = List.replicate 64 0) : l.flatMap g = List.replicate (64 * l.length) 0 := by
  induction l with
  | nil => rfl
  | cons x l ih =>
    have := ih fun y hy => h y (by simp [hy])
    rw [List.flatMap_cons, h x (by simp), this, List.replicate_append_replicate]; congr 1; simp; omega
set_option maxRecDepth 8000 in
theorem peek_stored : stored.peek 0x18000000 3328 = padded := by
  have h1 : spanLines 0x18000000 3328 = [0x600000, 0x600001, 0x600002] ++ (List.range 49).map (0x600003 + ·) := by decide +kernel
  have h2 : ∀ x ∈ (List.range 49).map (0x600003 + ·), stored.peekLine x = List.replicate 64 0 := by decide +kernel
  have h3 : [0x600000, 0x600001, 0x600002].flatMap stored.peekLine = file ++ List.replicate 48 0 := by decide +kernel
  have h4 : file.length = 144 := by decide +kernel
  have h5 : 48 + 64 * ((List.range 49).map (0x600003 + ·)).length = 3184 := by simp
  unfold State.peek padded
  rw [h1, List.flatMap_append, h3, flatMap_zeros _ _ h2, List.append_assoc, List.replicate_append_replicate, h5, show 0x18000000 % 64 = 0 from rfl, List.drop_zero]
  exact List.take_of_length_le (by simp only [List.length_append, h4, List.length_replicate]; omega)
theorem padded_zeros (i n : Nat) (h : 144 ≤ i) : fieldAt padded i n = 0 := by
  have hl : file.length = 144 := by decide +kernel
  have e : ∀ k, leNat (List.replicate k (0 : Byte)) = 0 := by
    intro k; induction k with
    | zero => rfl
    | succ k ih =>
      have h1 : leNat ((0 : Byte) :: List.replicate k 0) = 256 * leNat (List.replicate k 0) := by simp [leNat]
      rw [List.replicate_succ, h1, ih]
  unfold fieldAt padded
  rw [List.drop_append, List.drop_eq_nil_of_le (by omega), List.nil_append, List.drop_replicate, List.take_replicate, e]
theorem padded_binding (c : Nat) : binding padded 0 c = 0 := by
  have h1 : (secOf padded 2).off = 192 := by decide +kernel
  unfold binding inSec
  rw [h1]; exact padded_zeros _ _ (by omega)
theorem padded_cores : armCores padded = (List.range 384).map fun c => (0, c) := by
  have : armBeds padded = [0] := by decide +kernel
  simp [armCores, this]
theorem padded_listGroup (c : Nat) : listGroup padded 0 c = 0 := by simp [listGroup, padded_binding, bits]
theorem padded_descBias (c : Nat) : descBias padded 0 c = 0 := by simp [descBias, padded_binding, bits]
theorem padded_bindingsOk : bindingsOk padded = true := by
  have : 0 < (secOf padded 3).count := by decide +kernel
  unfold bindingsOk
  rw [padded_cores, List.all_map, List.all_eq_true]
  intro c _
  simp only [Function.comp_apply, padded_listGroup, padded_binding, this, bits, decide_true, Nat.zero_mod, Nat.zero_div, Bool.and_self, beq_self_eq_true]
theorem padded_boundPairs : boundPairs padded = [(0, 0)] := by
  have : boundPairs padded = ((List.range 384).map fun _ => ((0 : Nat), (0 : Nat))).eraseDups := by
    simp only [boundPairs, padded_cores, padded_listGroup, padded_descBias, List.map_map, Function.comp_def]
  rw [this]; decide +kernel
theorem padded_tilesOwned : tilesOwned padded = true := by
  have h : ∀ c, ((List.range (armFps padded)).flatMap fun fr => (issueList padded 0 fr 2).filterMap fun i =>
      let m := matBlk padded i.blockOff
      if m.normMode || productOf padded 2 (descAt padded (m.aDesc + 0)) (descAt padded (m.bDesc + 0)) = .dw then
        some (⟨(m.outDesc + 0, m.tileRow, m.tileCol), coreNo 0 c, i.layer, i.mask, m.release, m.endK, m.normMode⟩ : Place)
      else none) = [] := by
    intro c
    have h1 : armFps padded = 1 := by decide +kernel
    have h2 : issueList padded 0 0 2 = [] := by decide +kernel
    rw [h1]; simp [h2]
  have : places padded = [] := by
    simp only [places, padded_cores, List.flatMap_map, padded_listGroup, padded_descBias]
    simp only [h]; simp
  simp [tilesOwned, this, noneOf]
theorem padded_armOk : stored.armOk 0 padded = true := by
  have h : (headerOk padded (stored.partBeds 0) && sectionsOk padded && (allBelow (secOf padded 1).count fun k => Machine.descOk padded (stored.partFirst 0) k) &&
    (allBelow (secOf padded 3).count fun g => groupInside padded g) && ([(0, 0)].all fun x => listsOk padded x.1 x.2 && walkOk padded x.1 x.2) && transfersOk padded && plansOk padded && bucketsOk padded && stored.updatesOk padded &&
    stored.pairsOk 0 padded && variantsOk padded && stored.releaseMapOk 0 padded) = true := by decide +kernel
  simp only [Bool.and_eq_true] at h
  simp only [State.armOk, padded_bindingsOk, padded_boundPairs, padded_tilesOwned, Bool.and_eq_true]
  simp only [h, and_self]
/-- A packet of a type for this device (whose id is 0) from device 5, its TF zeros but for the given bytes. -/
def packet (type : Nat) (tf : List (Nat × List Byte)) (payload : List Byte) : Packet :=
  ⟨0, 5, 0, 0, false, false, false, false, type, 0, [], 1, 0, tfWith tf, payload, List.replicate 16 0⟩
/-- Port 0 up with a position. -/
def linked : State := (((up.put (pgPort 0) .LINK_STATE 2).put (pgPort 0) .POS_VALID 1).put (pgPort 0) .LANES_UP 255).put (pgLink 0) .ID_VALID 1 |>.put (pgLink 0) .DEVICE_ID 0
/-- Bytes at positions of a blob of zeros. -/
def blob (n : Nat) (parts : List (Nat × List Byte)) : List Byte :=
  parts.foldl (fun l p => l.take p.1 ++ p.2 ++ l.drop (p.1 + p.2.length)) (List.replicate n 0)
/-- A file for bed 0 with a GROUP_SIZE and sections of type, COUNT and bytes. -/
def fileWith (group fps : Nat) (secs : List (Nat × Nat × List Byte)) : List Byte :=
  let body := secs.foldl (fun (acc : List Byte × List Byte) x =>
    (acc.1 ++ leBytes 4 x.1 ++ leBytes 4 x.2.1 ++ leBytes 4 (64 + 16 * secs.length + acc.2.length) ++ leBytes 4 x.2.2.length, acc.2 ++ x.2.2)) ([], [])
  blob 64 [(8, leBytes 4 7), (16, leBytes 2 16), (18, leBytes 2 fps), (20, leBytes 2 50), (23, [1]), (24, leBytes 4 group), (36, leBytes 4 secs.length)] ++
    body.1 ++ body.2
/-- A group of this device and device 5 with one noise bucket of one tile, ARITY 1, whose member list follows the bucket table. -/
def groupFile : List Byte := fileWith 2 1 [(1, 2, blob 128 [(64 + 56, leBytes 4 9)]),
  (7, 1, blob 100 [(0, leBytes 4 1), (4, leBytes 4 96), (8, leBytes 2 1), (64 + 4, leBytes 2 1), (64 + 6, [4]), (64 + 8, leBytes 2 1), (64 + 12, leBytes 4 1),
    (96, leBytes 2 0), (98, leBytes 2 5)])]
/-- A group with one variant, for the member hash 9. -/
def variantFile : List Byte := fileWith 2 1 [(10, 1, leBytes 8 9 ++ List.replicate 8 0)]
/-- An armature's file active on bed 0, which is RUNNING at a time, in frames of 16 µs. -/
def running (f : List Byte) (now : Nat) : State :=
  let s := (bedAt 2 now).put (pgBridge 0) .RUN 1
  { s with arms := [((0, 0), ⟨f, []⟩)], beds := [(0, { BedSt.reset with origin := true, started := true, us := 16, active := some 0 })] }
/-- Port 0 up with a position, in a group with device 5. -/
def grouped : State :=
  { linked with
    parts := [(0, { PartSt.reset with member := true })], arms := [((0, 0), ⟨groupFile, []⟩)],
    beds := [(0, { BedSt.reset with active := some 0 })] }
/-- One entry for FE and one for the forward vector half of every core, and a transfer of each operation; the vector program is one ADD. -/
def workFile : List Byte := fileWith 1 1 [(1, 1, blob 64 [(48, leBytes 4 2), (52, leBytes 4 2), (56, leBytes 4 7), (60, leBytes 4 (2 ^ 14 + 2 ^ 18))]),
  (3, 1, blob 80 [(0, leBytes 4 48 ++ leBytes 2 1), (24, leBytes 4 64 ++ leBytes 2 1), (48, leBytes 8 (7 * 2 ^ 58)), (64, leBytes 8 (7 * 2 ^ 58) ++ leBytes 4 0 ++ leBytes 4 1)]),
  (4, 3, blob 80 [(4, leBytes 4 (6 * 2 ^ 20)), (14, leBytes 2 1), (32, leBytes 2 1), (36, leBytes 4 4), (64, [1, 0, 0, 1])]),
  (5, 1, blob 80 [(0, leBytes 4 16 ++ leBytes 2 4), (16, leBytes 4 0 ++ leBytes 8 0 ++ leBytes 2 1), (32, leBytes 4 (2 ^ 18 + 2 ^ 21) ++ leBytes 8 0 ++ leBytes 2 1),
    (48, leBytes 4 (2 * 2 ^ 18 + 2 * 2 ^ 21) ++ leBytes 8 0 ++ leBytes 2 1), (64, leBytes 4 (3 * 2 ^ 18 + 3 * 2 ^ 21) ++ leBytes 8 0 ++ leBytes 2 1)])]
/-- The file of GROUP_SIZE 1 in slot 0 of partition 0; bed 0 has no origin. -/
def noOrigin : Start := ⟨0, 0, 0, 1000000⟩
theorem witness_ArmatureCommands : ((stored.reaches .mctp 0x10 0 = true ∧ ∀ x ∈ stored.common41 ⟨0x10, false, true, true, false⟩ req, x.1 = false) ∧
    stored.rangeOk 0 0x18000000 3328 = true ∧ stored.freeArmSlot 0 = some 0 ∧ (spanLines 0x18000000 3328).any stored.linePoisoned = false ∧
    armLenOk padded 3328 = true ∧ stored.armBusy 0 (armId padded) = false) ∧ stored.peek 0x18000000 3328 = padded ∧ stored.armOk 0 padded = true ∧
    ((loaded.reaches .mctp 0x12 0 = true ∧ ∀ x ∈ loaded.common41 ⟨0x12, false, true, true, false⟩ req, x.1 = false) ∧
      loaded.slotOfId 0 7 = some 0 ∧ loaded.slotInUse 0 0 = false) ∧
    ((loaded.reaches .mctp 0x11 0 = true ∧ ∀ x ∈ loaded.common41 ⟨0x11, false, true, true, false⟩ req, x.1 = false) ∧
      (∀ b ∈ armBeds (loaded.fileOf 0 0), loaded.startOk b noOrigin = true) ∧ loaded.activateConflict 0 (loaded.fileOf 0 0) noOrigin = false) ∧
    loaded.runsArm 0 = false ∧
    ((up.reaches .mctp 0x30 0 = true ∧ ∀ x ∈ up.common41 ⟨0x30, false, true, true, false⟩ req, x.1 = false) ∧ up.planConflict 0 (2 ^ 64 - 1) (2 ^ 32 - 1) = false) ∧
    ((running variantFile 0).joins 0 = false ∧ (∀ x ∈ (running variantFile 0).common41 ⟨0x30, false, true, true, false⟩ req, x.1 = false) ∧
      (running variantFile 0).planConflict 0 9 100 = false) ∧
    (∀ x ∈ up.common41 ⟨0x31, false, true, true, false⟩ req, x.1 = false) ∧ up.anyBedRuns = false ∧ up.sourceMember 0 5 = true ∧
    grouped.sourceMember 0 6 = false ∧ (∀ x ∈ grouped.common41 ⟨0x31, false, true, true, false⟩ req, x.1 = false) := by
  refine ⟨by decide +kernel, peek_stored, padded_armOk, ?_⟩; decide +kernel
theorem witness_StatusAndRecorderCommands : up.admits ⟨0x01, false, false, false, true⟩ req ∧ up.admits ⟨0x02, false, false, false, false⟩ req ∧
    up.admits ⟨0x03, false, false, false, false⟩ req ∧ up.flag pgSec .COARSE = false ∧ (session 2).admits ⟨0x03, false, false, false, false⟩ req ∧
    ((session 2).put pgSec .COARSE 1).flag pgSec .COARSE = true ∧
    (up.admits ⟨0x20, false, false, false, false⟩ req ∧ up.inRun = true ∧ up.pw.transition = none) ∧
    ((inPower .hold).admits ⟨0x20, false, false, false, false⟩ req ∧ (inPower .hold).pw.flowPin = false ∧ (inPower .hold).pw.resetLatch = false) ∧
    up.pw.power ≠ .off ∧ up.pw.resetLatch = false ∧ up.reaches .mctp 0x21 0 = true ∧
    (let s := (inPower .hold).setPw { (inPower .hold).pw with resetLatch := true };
      s.admits ⟨0x20, false, false, false, false⟩ req ∧ s.pw.power = .hold ∧ s.pw.transition = none ∧ s.pw.resetLatch = true) ∧ 4 ∈ [0, 1, 4] ∧ up.admits ⟨0x40, false, false, false, true⟩ req ∧
    (up.admits ⟨0x41, false, false, false, true⟩ req ∧ up.flag pgRec .FROZEN = false) ∧ up.admits ⟨0x42, false, false, false, true⟩ req ∧
    (((owned 1).put pgKeeper .HOLDUP_CAP 10000).setPw { up.pw with samples := [11000, 11000, 11000, 11000] }).admits ⟨0x43, true, false, false, false⟩ sreq ∧
    (((owned 1).put pgKeeper .HOLDUP_CAP 10000).setPw { up.pw with samples := [11000, 11000, 11000, 11000] }).finishStore.canStore 0 = true ∧
    0 < (owned 1).get pgRec .NEXT_SEQ ∧ up.reaches .mctp 0x04 0 = true ∧ 0x04 ∉ [0x01, 0x02, 0x03, 0x10, 0x11, 0x12] ∧
    up.reaches .mctp 0x40 0 = true ∧
    ((owned 1).put pgKeeper .HOLDUP_CAP 10000).flag pgKeeper .STORE_ACTIVE = false ∧ ((owned 1).put pgKeeper .HOLDUP_CAP 10000).flag pgRec .FROZEN = false := by unfold State.admits; decide +kernel
theorem witness_RefusalOrder : up.reaches .mctp 0x01 0 = true ∧ { req with lenOk := false }.lenOk = false ∧
    up.admits ⟨0x40, false, false, false, true⟩ req ∧ up.reaches .mctp 0x40 0 = true ∧
    ((up.put pgRec .FROZEN 1).admits ⟨0x41, false, false, false, true⟩ req ∧ (up.put pgRec .FROZEN 1).flag pgRec .FROZEN = true) ∧
    State.reset.reaches .mailbox 0x01 0 = false := by unfold State.admits; decide +kernel
/-- The payload of a SESSION_OPEN, every field 0. -/
def grant : List Byte := List.replicate 256 0
theorem witness_SecurityCommands : (up.admits ⟨0x50, false, false, false, false⟩ req ∧ up.sec.owners = [] ∧ (List.replicate 48 (0 : Byte)).length = 48) ∧
    ((owned 3).admits ⟨0x50, true, false, false, false⟩ sreq ∧ (owned 3).sec.owners ≠ [] ∧ (owned 3).sec.owners.length < 4) ∧
    ((owned 2).admits ⟨0x51, true, false, false, false⟩ sreq ∧ (owned 2).ownerSlot = some 0 ∧ 0 + 1 < (owned 2).sec.owners.length) ∧
    ((owned 1).admits ⟨0x52, true, false, true, false⟩ sreq ∧ grant.length = 256 ∧ openReserved grant = true ∧ (owned 1).sessionState 0 = 0 ∧
      (∀ b ∈ (owned 1).partBeds 0, (owned 1).bedQuiet b = true) ∧ (owned 1).openBusy 0 = false ∧ (owned 1).cpOn = true) ∧
    (((secured.put pgSec .SESSION_STATE 2 0).setSession 0 { Session.reset with tenant := List.replicate 48 0 }).admits ⟨0x53, true, false, true, false⟩ sreq ∧
      ((secured.put pgSec .SESSION_STATE 2 0).setSession 0 { Session.reset with tenant := List.replicate 48 0 }).sessionState 0 = 2 ∧
      ((secured.put pgSec .SESSION_STATE 2 0).setSession 0 { Session.reset with tenant := List.replicate 48 0 }).isTenant (.secured 0)
        (((secured.put pgSec .SESSION_STATE 2 0).setSession 0 { Session.reset with tenant := List.replicate 48 0 }).session 0).tenant = true ∧ secured.pw.power ≠ .off) ∧
    (secured.put pgSec .SESSION_STATE 1 0).sessionState 0 = 1 ∧
    (let s := ((secured.setPw { secured.pw with power := .off }).put pgSec .SESSION_STATE 1 0).setSession 0 { Session.reset with tenant := List.replicate 48 0 };
      s.admits ⟨0x53, true, false, true, false⟩ sreq ∧ s.sessionState 0 = 1 ∧ s.isTenant (.secured 0) (s.session 0).tenant = true ∧ s.pw.power = .off) ∧
    ((((owned 1).put pgKeeper .HOLDUP_CAP 10000).setPw { up.pw with samples := [11000, 11000, 11000, 11000] }).admits ⟨0x54, true, false, false, false⟩ sreq ∧
      (((owned 1).put pgKeeper .HOLDUP_CAP 10000).setPw { up.pw with samples := [11000, 11000, 11000, 11000] }).canStore 1 = true ∧
      chunkLenBad 1 3144704 (List.replicate 1024 0) = false ∧ (owned 1).sec.chunkBusy = false ∧
      (owned 1).flag pgKeeper .STORE_ACTIVE = false) ∧
    ({ secured with sec := { secured.sec with bootedNew := true } }.admits ⟨0x55, true, false, false, false⟩ sreq) ∧
    (secured.admits ⟨0x56, true, false, false, false⟩ sreq ∧ secured.isPage (pgBed 7) = true ∧ secured.pagePart (pgBed 7) = some 0 ∧ (∀ q, secured.pagePart (pgBed 7) = some q → secured.sessionState q ≠ 2)) ∧
    ((charged.setPw { charged.pw with recovery := true }).admits ⟨0x60, false, false, false, false⟩ req ∧
      (charged.setPw { charged.pw with recovery := true }).sec.sfdpOk = true ∧ (charged.setPw { charged.pw with recovery := true }).canStore 1 = true ∧
      (charged.setPw { charged.pw with recovery := true }).flag pgKeeper .STORE_ACTIVE = false ∧ chunkLenBad 0 1047552 (List.replicate 1024 0) = false ∧ charged.sec.chunkBusy = false) := by
  unfold State.admits; decide +kernel
theorem witness_MctpAndManagementPackets : up.pw.keeperOn = true ∧ 254 ≤ 254 ∧ (packet 8 [(28, leBytes 2 1)] [1, 0, 0, 0]).type = tyMgmt ∧
    (linked.takeIn 0 (packet 8 [(28, leBytes 2 1)] [1, 0, 0, 0])).2 = some (packet 8 [(28, leBytes 2 1)] [1, 0, 0, 0]) ∧
    (linked.takeIn 0 (packet 8 [(28, leBytes 2 1)] [1, 0, 0, 0])).1.reaches (.fabric 5) 1 0 = false ∧
    (linked.takeIn 0 (packet 8 [(28, leBytes 2 kaKey)] [0, 0, 0, 0])).2 = some (packet 8 [(28, leBytes 2 kaKey)] [0, 0, 0, 0]) ∧
    tfAt (packet 8 [(28, leBytes 2 kaKey)] [0, 0, 0, 0]) 28 2 = kaKey ∧ tfAt (packet 8 [(28, leBytes 2 1)] [1, 0, 0, 0]) 28 2 = 1 ∧ ¬ kaKey ≤ 1 ∧ up.pw.wedged = false ∧
    (grouped.takeIn 0 (packet 8 [(28, leBytes 2 1)] [1, 0, 0, 0])).2 = some (packet 8 [(28, leBytes 2 1)] [1, 0, 0, 0]) ∧
    (grouped.takeIn 0 (packet 8 [(28, leBytes 2 1)] [1, 0, 0, 0])).1.reaches (.fabric 5) 1 0 = true := by decide +kernel
theorem witness_SpdmAndSecuredSessions : secured.pw.keeperOn = true ∧ secured.cpOn = true ∧ secured.pw.wedged = false ∧ secured.pw.recovery = false ∧
    { secured with sec := { secured.sec with negotiated := true } }.sec.negotiated = true ∧ (secured.measurement 0x17).isSome = true ∧
    secured.freeSpdm (secured.ownerSpdm false []) = some 8 ∧ encapOk [] [] = false ∧ secured.cpOn = true ∧ secured.sec.spdm.find? 0 = some ⟨List.replicate 48 0, true, true, [], 0⟩ ∧
    { up with sec := { up.sec with spdm := [(0, ⟨[], false, false, [], 0⟩)] } }.sec.spdm.find? 0 = some ⟨[], false, false, [], 0⟩ ∧
    0xEA ∉ [0x81, 0x82, 0x83, 0x84, 0xE0, 0xE1, 0xE3, 0xE4, 0xE5, 0xE9, 0xEC, 0xFE] ∧ 0 < secured.partCount := by decide +kernel
theorem witness_SupplyEvents : up.pw.keeperOn = true ∧ 31999 < 32000 ∧ 48000 < 48001 ∧ up.pw.power ≠ .off ∧ up.pw.power = .run ∧
    { up with pw := { up.pw with vin := 35999 } }.pw.vin < 36000 ∧ up.inRun = true ∧ up.pw.vauxOk = true ∧
    { up with pw := { up.pw with vauxOk := false } }.pw.vauxOk = false ∧ { up with pw := { up.pw with keeperOn := false } }.pw.keeperOn = false ∧
    { up with pw := { up.pw with keeperOn := false } }.evr.storedCycles = 0 ∧ 2048 ≤ { up with pw := { up.pw with keeperOn := false } }.protFree ∧
    36000 ≤ 40000 ∧ 40000 ≤ 44000 := by decide +kernel
theorem witness_ProtectiveStops : up.pw.power ≠ .off ∧ up.inRun = true ∧ FloorCause.vin ∉ (bedAt 2 0).pw.causes ∧
    (inPower .floor).pw.power = .floor ∧ ((bedAt 2 0).setPw { up.pw with power := .floor }).lowestRunning.isSome = true ∧
    ((inPower .hold).setPw { (inPower .hold).pw with flowPin := true }).pw.flowPin = true ∧ (inPower .hold).pw.transition = none ∧
    (∀ b ∈ allBeds, (inPower .hold).bedQuiet b = true) ∧ up.pw.keeperOn = true ∧ up.evr.perSecond.get (pageSource pgKeeper, 0x0D40) 0 < 64 ∧
    up.evr.queueGen.length < 4096 ∧ up.host.waits = [] ∧ (faulted.hold ⟨0, 0, .none, none⟩).host.waits = [⟨0, 0, .none, none⟩] ∧
    (inPower .hold).pw.resetLatch = false ∧ FloorCause.vin ∉ (inPower .floor).pw.causes := by decide +kernel
/-- Bed 0 at a due tick in a change that was deferred seven times. -/
def deferred : State := (((bedAt 2 16000).put pgPower .DEFER 7).put pgPower .PLAN_POINT 1).setPw { up.pw with stretchSeen := true }
/-- The clock one thermal step below the plan at 95 °C. -/
def throttled : State := (((bedAt 2 0).put pgPower .TJ_MAX 95).put pgPower .THROTTLED 1).setPw { up.pw with thermSteps := 1 }
theorem witness_DroopMarginClock : up.inRun = true ∧ up.pw.suppressed = false ∧ (up.setPw { up.pw with stretch := true }).pw.stretch = true ∧
    (up.put pgPower .TRIM_STEPS 39).get pgPower .TRIM_STEPS < 40 ∧ (bedAt 2 0).inRun = true ∧ (bedAt 2 0).get pgPower .TRIM_STEPS < 40 ∧
    (bedAt 2 0).lowestRunning ≠ none ∧ (up.put pgPower .TRIM_STEPS 38).get pgPower .TRIM_STEPS < 39 ∧ up.lowestRunning = none ∧
    (up.setPw { up.pw with trimDue := true }).pw.trimDue = true ∧ (up.put pgPower .TRIM_STEPS 39).get pgPower .TRIM_STEPS = 39 ∧ up.pw.power ≠ .off ∧ up.pw.power ≠ .dormant ∧ up.pw.thermAt = none ∧
    up.flag pgPower .MODE_NOW = false ∧ up.pw.planPoint + up.pw.thermSteps < 2 ∧
    throttled.get pgPower .TJ_MAX ≤ 95 ∧
    throttled.get pgPower .THROTTLED = 1 ∧
    throttled.lowestRunning.isSome = true ∧
    deferred.tickDue 0 = true ∧
    deferred.lowestRunning = some 0 ∧
    deferred.staging = [] ∧ deferred.get pgGlobals .PART_LOG2 < 4 ∧ State.reset.pw.power = .off ∧
    deferred.get pgPower .DEFER = 7 ∧
    deferred.get pgPower .PLAN_POINT ≠ deferred.pw.planPoint ∧
    100 * (up.put pgPower .CAP_W 100).get pgPower .WATTS < 97 * (up.put pgPower .CAP_W 100).get pgPower .CAP_W ∧
    (up.setPw { up.pw with capStack := [0] }).pw.capStack ≠ [] ∧ (bedAt 2 0).lowestRunning ≠ none ∧
    throttled.pw.thermSteps = 1 ∧ deferred.pw.stretchSeen = true := by decide +kernel
/-- The keeper in Off with the 40 V stage up, firmware slot 0 good, the other's image bad, in a boot with a slot pending and failed attempts. -/
def booting (pending : Option Nat) (attempts : Nat) (failed : List Nat) : State :=
  { State.reset with
    pw := { State.reset.pw with stage40 := true, bootPhase := 3, bootFailed := failed },
    sec := { State.reset.sec with pending := pending, attempts := attempts, flash := [(0, { FwSlot.reset with ok := true }), (1, { FwSlot.reset with ok := false })] } }
theorem witness_PowerAndBoot : State.reset.pw.keeperOn = true ∧ State.reset.pw.vauxOk = true ∧ State.reset.pw.armed = true ∧
    State.reset.pw.power = .off ∧ State.reset.pw.stage40 = false ∧ State.reset.pw.thermLatch = false ∧ metering.isl.ready = true ∧
    36000 ≤ metering.pw.vin ∧ metering.pw.vin ≤ 44000 ∧ State.reset.pw.recovery = false ∧ State.reset.sec.pending = none ∧
    (booting none 0 []).pw.bootPhase = 3 ∧ (booting none 0 []).sec.sfdpOk = true ∧ (booting none 0 []).sec.active ∉ (booting none 0 []).pw.bootFailed ∧
    (booting none 0 []).imageOk (booting none 0 []).sec.active = true ∧ (booting (some 1) 0 []).imageOk 1 = false ∧ (booting (some 1) 1 []).sec.attempts = 1 ∧
    (booting none 0 [0]).pw.bootFailed = [(booting none 0 [0]).sec.active] ∧ (booting none 0 [0]).imageOk (1 - (booting none 0 [0]).sec.active) = false ∧
    { State.reset.sec with sfdpOk := false }.sfdpOk = false ∧ (booting none 0 []).writeHdr.bootHdr.isSome = true ∧
    ((inPower .hold).setPw { (inPower .hold).pw with transition := some .run }).pw.transition = some .run ∧ (inPower .hold).pw.causes = [] ∧
    (up.setPw { up.pw with transition := some .hold }).pw.transition = some .hold ∧ up.flag pgKeeper .STORE_ACTIVE = false ∧
    (up.setPw { up.pw with transition := some .off }).pw.transition = some .off ∧ { State.reset with pw := { State.reset.pw with vauxOk := false } }.pw.vauxOk = false := by
  decide +kernel
theorem witness_TrapsTimeoutsRestarts : 6 ≤ up.pw.bootPhase ∧ up.pw.power ≠ .dormant ∧ up.pw.cpRestarting = false ∧ up.pw.resetLatch = false ∧
    3 ≤ ((up.setPw { up.pw with cpRestarts := [0, 0, 0] }).pw.cpRestarts.filter fun t => decide (up.time.now < t + 10000000000)).length ∧
    ((bedAt 2 0).put (pgBed 0) .NF_TRAP_EN 1).flag (pgBed 0) .NF_TRAP_EN = true ∧
    (({ up with beds := [(0, { BedSt.reset with nfFirst := some ⟨0, 0, 0, []⟩ })] }).bed 0).nfFirst.isSome = true ∧
    (({ up with beds := [(0, { BedSt.reset with nfFirst := some ⟨0, 0, 0, []⟩ })] }).bed 0).trapped = false ∧
    2 ≤ (up.put (pgCore .coreSub3 3071) .STALL_FRAMES 2 7).get (pgCore .coreSub3 (coreNo 7 383)) .STALL_FRAMES 7 ∧ (bedAt 3 0).runsArm 0 = true := by
  decide +kernel
theorem witness_IslandEvents : metering.pw.keeperOn = true ∧ metering.isl.ready = true ∧ metering.isl.fault = false ∧
    360000000 ≤ { metering.isl with pulseCarry := 360000000 }.pulseCarry ∧ 130000 < 130001 ∧ metering.isl.ring.length < 256 ∧
    80000000 ≤ metering.isl.holdupC * (2815 * 2815 - 7840000) ∧ State.reset.isl.ready = false ∧ State.reset.pw.vauxOk = true ∧
    metering.isl.sealClosed = !true ∧ { metering.isl with fault := true }.fault = true := by decide +kernel
theorem witness_AttributionSnapshotsAndReads : metering.pw.keeperOn = true ∧ metering.isl.ready = true ∧ metering.isl.fault = false ∧ 100 < 101 ∧ 100 ≤ 100 ∧
    metering.isl.beds.length = 8 ∧ metering.isl.version = metering.sec.measure5 ∧ metering.isl.code = metering.sec.measure5Code ∧
    metering.isl.mirrored = metering.isl.audit.length ∧ metering.evr.auditWait = [] ∧
    metering.isl.sinceGood + 100000000 ≤ { metering with time := { metering.time with now := 100000000 } }.time.now ∧
    ({ metering with isl := { metering.isl with audit := [⟨0, 1, 1, 0, 0, 100, 200⟩] } }.isl.audit[0]?).isSome = true ∧
    metering.isl.audit.length ≤ 0 ∧ 0x14 ∉ [0x01, 0x02, 0x03, 0x04, 0x05, 0x10, 0x11, 0x12, 0x13] := by decide +kernel
theorem witness_IslandChanges : metering.pw.keeperOn = true ∧ 100 ≤ 10000 ∧ { metering.isl with sealClosed := true }.sealClosed = true ∧
    metering.isl.sealClosed = false ∧ metering.isl.audit.length < 1024 ∧ 80000000 ≤ metering.isl.holdupC * (2815 * 2815 - 7840000) ∧
    { metering.isl with load := some 240 }.load = some 240 ∧ (List.replicate 240 (0 : Byte)) ≠ [] ∧ 0 + (List.replicate 240 (0 : Byte)).length ≤ 240 ∧
    (∀ i < 2, Tab.find? { metering.isl with load := some 2, image := [(0, 5), (1, 6)] }.image i = ([5, 6] : List Byte)[i]?) ∧
    Tab.find? { metering.isl with load := some 2, image := [(0, 5)] }.image 1 = none ∧ { metering.isl with sealClosed := true }.load = none ∧
    ([0] : List Byte) ≠ [] := by
  decide +kernel
theorem witness_TestAccessPort : up.pw.keeperOn = true ∧ (inPower .hold).pw.power = .hold ∧
    (∀ b ∈ allBeds, (inPower .hold).bedQuiet b = true ∧ (inPower .hold).sessionOpen b = false) ∧ up.pw.power ≠ .hold ∧ bitAt up.tap.otp 63 = false ∧
    tapInstr 0xFF = 0 ∧ (inPower .hold).pw.keeperOn = true ∧ ((inPower .hold).put (pgBed 7) .SEQ_STATE 2).bedQuiet 7 = false ∧
    ((inPower .hold).put pgSec .SESSION_STATE 2 0).sessionOpen 0 = true ∧
    10000 % 65536 ≤ 10000 ∧ 10000 / 2 ^ 32 % 2 ^ 31 = 0 ∧ bitAt { up.tap with otp := 2 ^ 63 }.otp 63 = true := by decide +kernel
theorem witness_TicksBeginTheNextFrame : (stagedAt 0 (bedAt 2 16000)).tickDue 0 = true ∧ (stagedAt 0 (bedAt 2 16000)).stagingLegal ∧
    (stagedAt 0 (bedAt 2 16000)).partsLegal := by unfold State.stagingLegal State.partsLegal; decide +kernel
/-- Bed 0 armed with the armature of a group or of this device alone for the frame that begins, its activation certified or not. -/
def armedAt (f : List Byte) (voted : Bool) : State :=
  { bedAt 1 16000 with
    beds := [(0, { BedSt.reset with origin := true, started := true, us := 16, pend := some ⟨0, 7, 1, 0, 0, true, 0, false, voted, none⟩ })], arms := [((0, 0), ⟨f, []⟩)] }
theorem witness_StagedSetsAndSwitches : ((stagedAt 0 (bedAt 2 16000)).tickDue 0 = true ∧ (stagedAt 0 (bedAt 2 16000)).stagingLegal ∧ (stagedAt 0 (bedAt 2 16000)).partsLegal ∧
      ((stagedAt 0 (bedAt 2 16000)).bed 0).stopping = false ∧ headed (pgReg 0).kind = true ∧ (stagedAt 0 (bedAt 2 16000)).tickBed (pgReg 0) = some 0 ∧
      (((stagedAt 0 (bedAt 2 16000)).stagingOf (pgReg 0)).waiting.map (·.2)) = [0] ∧
      ([((⟨pgReg 0, .HOST_BUDGET, 0⟩ : FieldKey), 4), (⟨pgReg 0, .HOST_BUDGET, 0⟩, 5), (⟨pgReg 0, .TRAP_EN, 0⟩, 1)].filter fun e => e.1.fld == .HOST_BUDGET).getLast? =
        some (⟨pgReg 0, .HOST_BUDGET, 0⟩, 5)) ∧
    ((stagedAt 1 (bedAt 2 16000)).stagingLegal ∧ (stagedAt 1 (bedAt 2 16000)).tickBed (pgReg 0) = some 0 ∧
      (((stagedAt 1 (bedAt 2 16000)).stagingOf (pgReg 0)).waiting.map (·.2)) = [0 + 1]) ∧
    ((armedAt workFile false).tickDue 0 = true ∧ (armedAt workFile false).stagingLegal ∧ (armedAt workFile false).partsLegal ∧
      (armedAt workFile false).seq 0 = seqArmed ∧ (armedAt workFile false).runsArm ((armedAt workFile false).leadBed ((armedAt workFile false).partOf 0)) = false ∧
      (((armedAt workFile false).bed 0).pend.map (·.startFrame)) = some ((armedAt workFile false).nextFrame 0) ∧
      armGroup ((armedAt workFile false).fileOf 0 0) ≤ 1 ∧ 1 < armGroup ((armedAt groupFile false).fileOf 0 0) ∧
      (armedAt groupFile false).seq 0 = seqArmed ∧ (((armedAt groupFile false).bed 0).pend.map (·.voted)) = some false) ∧
    (∀ q, ((armedAt workFile false).part q).changes = []) ∧ (∀ code, (armedAt workFile false).voteDue 0 code 1 = []) :=
  ⟨by unfold State.stagingLegal State.partsLegal; decide +kernel, by unfold State.stagingLegal; decide +kernel,
    by unfold State.stagingLegal State.partsLegal; decide +kernel, fun _ => rfl, fun _ => rfl⟩
theorem witness_RunningTicks : ((stagedAt 0 (bedAt 2 16000)).stagingLegal ∧ (bedAt 2 16000).partsLegal) ∧ ((bedAt 2 16000).tickDue 0 = true ∧ (bedAt 2 16000).staging = [] ∧ ((bedAt 2 16000).bed 0).pend = none ∧
    ((bedAt 2 16000).bed 0).stopping = false ∧ (bedAt 2 16000).atBoundary 0 = true) ∧ (∀ q, ((bedAt 2 16000).part q).changes = []) ∧ (∀ code, (bedAt 2 16000).voteDue ((bedAt 2 16000).partOf 0) code ((bedAt 2 16000).nextFrame 0) = []) ∧
    (((bedAt 3 16000).put (pgBed 0) .FRAMES_PER_STEP 2).atBoundary 0 = false ∧ ((bedAt 3 16000).put (pgBed 0) .FRAMES_PER_STEP 2).tickDue 0 = true ∧
      ((bedAt 3 16000).put (pgBed 0) .FRAMES_PER_STEP 2).atBoundary (((bedAt 3 16000).put (pgBed 0) .FRAMES_PER_STEP 2).leadBed 0) = false ∧
      ((bedAt 3 16000).put (pgBed 0) .FRAMES_PER_STEP 2).seq 0 = seqPaused) ∧
    ((running workFile 16000).put (pgBed 0) .FRAMES_PER_STEP 2).unfinished 0 = true ∧ ((running workFile 16000).put (pgBed 0) .FRAMES_PER_STEP 2).seq 0 = seqRunning ∧
    ((bedAt 2 16000).put (pgBed 0) .FRAMES_PER_STEP 2).unfinished 0 = false :=
  ⟨by unfold State.stagingLegal State.partsLegal; decide +kernel, by decide +kernel, fun _ => rfl, fun _ => rfl, by decide +kernel, by decide +kernel, by decide +kernel, by decide +kernel⟩
/-- Bed 0 at a step boundary with layer 1,023 in G4 for its first step, RETRY_STEPS 1. -/
def retrying (st steps : Nat) : State := (((bedAt 2 16000).put (pgLayer 0) .LAYER_ST st 1023).put (pgLayer 0) .STEPS_IN_STATE steps 1023).put (pgLayer 0) .RETRY_STEPS 1
theorem witness_PrecisionEvents : (retrying 1 0).tickDue ((retrying 1 0).leadBed 0) = true ∧ (retrying 1 0).atBoundary ((retrying 1 0).leadBed 0) = true ∧
    (retrying 1 0).runsArm ((retrying 1 0).leadBed 0) = true ∧ (bedAt 2 0).tickDue ((bedAt 2 0).leadBed 0) = false ∧ (retrying 1 0).tripApplies 0 1023 = false ∧
    (let s := { retrying 1 0 with parts := [(0, { PartSt.reset with tripped := [(1023, 0)] })] };
      s.tripApplies 0 1023 = true ∧ s.get (pgLayer (s.partFirst 0)) .LAYER_ST 1023 < 2 ∧ s.get (pgLayer (s.partFirst 0)) .LAYER_SHIFT 1023 < 8 ∧
      hasVariant (s.partArm 0) 1023 (s.get (pgLayer (s.partFirst 0)) .LAYER_ST 1023 + 1) = true) ∧
    (∀ t ∈ ((retrying 1 0).part 0).tripped, t.1 ≠ 1023) ∧
    (retrying 1 0).retryDue (pgLayer ((retrying 1 0).partFirst 0)) 1023 (satAdd 16 ((retrying 1 0).get (pgLayer ((retrying 1 0).partFirst 0)) .STEPS_IN_STATE 1023) 1) = true ∧
    (retrying 1 0).get (pgLayer 0) .LAYER_MODE 1023 ≠ 1 ∧ hasVariant ((retrying 1 0).partArm 0) 1023 0 = true ∧
    (retrying 0 3).get (pgLayer 0) .LAYER_ST 1023 = 0 ∧ satAdd 16 ((retrying 0 3).get (pgLayer 0) .STEPS_IN_STATE 1023) 1 = 4 * (retrying 0 3).retrySteps (pgLayer 0) ∧
    (retrying 0 3).tickDue 0 = true ∧ (retrying 0 3).atBoundary 0 = true := by decide +kernel
/-- Operand codes of an instruction. -/
def args : VArgs := ⟨63, 0, 0, 0, 0⟩
/-- A place on the last core. -/
def place : VWhere := ⟨7, 383, 7, true, 0, 0, 0, 0⟩
theorem witness_VectorArithmetic : argsOk args = true := by decide +kernel
theorem witness_VectorLoadStoreAndReservedCodes : argsOk args = true ∧ argsOk { args with dst := 64 } = false ∧
    (∀ l ∈ up.lanes 7 383 true, ∀ m ∈ up.lanes 7 383 true, up.vecElem place args l = up.vecElem place args m → l = m) := by decide +kernel
theorem witness_VectorBlocks : ((running workFile 0).dueEntry 0 0 3 0).2.isSome = true ∧ (programOf workFile 1).map (·.1) = [1] ∧
    (∀ x ∈ programOf workFile 1, argsOk x.2 = true) ∧ (vecExec 1).isSome = true := by
  refine ⟨by decide +kernel, by decide +kernel, by decide +kernel, rfl⟩
/-- The same file whose matrix block is a norm block. -/
def normFile : List Byte := fileWith 1 1 [(1, 1, blob 64 [(48, leBytes 4 2), (52, leBytes 4 2), (56, leBytes 4 7), (60, leBytes 4 (2 ^ 14 + 2 ^ 18))]),
  (3, 1, blob 80 [(0, leBytes 4 48 ++ leBytes 2 1), (24, leBytes 4 64 ++ leBytes 2 1), (48, leBytes 8 (7 * 2 ^ 58)), (64, leBytes 8 (7 * 2 ^ 58) ++ leBytes 4 0 ++ leBytes 4 1)]),
  (4, 3, blob 80 [(4, leBytes 4 (14 * 2 ^ 20)), (14, leBytes 2 1), (32, leBytes 2 1), (36, leBytes 4 4), (64, [1, 0, 0, 1])])]
theorem witness_MatrixBlocks : ((running workFile 0).dueEntry 0 0 0 0).2.isSome = true ∧ ((running normFile 0).dueEntry 0 0 0 0).2.isSome = true ∧
    (matBlk normFile 0).normMode = true ∧ (matBlk workFile 0).normMode = false := by decide +kernel
/-- Bed 0 with a block in progress on FE of core 0. -/
def inBlock (f : List Byte) : State := let s := running f 0; { s with cores := { s.cores with running := [((0, 0), ⟨0, 0, 0, 0, 0, 100, [], [], some 0, 0, 0, (0, 0), 0, 0⟩)] } }
theorem witness_MatrixBlockEnds : Tab.find? (inBlock workFile).cores.running (coreNo 0 0, 0) = some ⟨0, 0, 0, 0, 0, 100, [], [], some 0, 0, 0, (0, 0), 0, 0⟩ ∧
    (matBlk ((inBlock workFile).armIn 0 (some 0)) 0).normMode = false ∧ (matBlk ((inBlock workFile).armIn 0 (some 0)) 0).endK = true ∧
    (matBlk ((inBlock workFile).armIn 0 (some 0)) 0).release = true ∧ (matBlk ((inBlock []).armIn 0 (some 0)) 0).endK = false ∧ (matBlk ((inBlock []).armIn 0 (some 0)) 0).release = false ∧
    Tab.find? (inBlock normFile).cores.running (coreNo 0 0, 0) = some ⟨0, 0, 0, 0, 0, 100, [], [], some 0, 0, 0, (0, 0), 0, 0⟩ ∧
    (matBlk ((inBlock normFile).armIn 0 (some 0)) 0).normMode = true := by
  decide +kernel
/-- Core 0 of bed 0 with a released tile. -/
def tileOut (f : List Byte) (desc : Nat) : State :=
  let s := running f 0
  { s with cores := { s.cores with released := [(0, [⟨desc, 0, 0, some 0, false, [], 0x3F800000, 0, (0x3F800000, 0x3F800000), none, [], some 0⟩])] } }
/-- A step of the group open since frame 198, its exponents initial. -/
def opened (members : List Nat) : OpenStep := ⟨groupFile, members, 198, 0, false, [0], [], [], false, 0, [], 0, 0, 0, false, false⟩
/-- The released tile of a descriptor. -/
def outTile (desc : Nat) : Released := ⟨desc, 0, 0, some 0, false, [], 0x3F800000, 0, (0x3F800000, 0x3F800000), none, [], some 0⟩
/-- The same core in a group whose step before has one bucket that has not settled. -/
def waitingTile : State := { tileOut groupFile 1 with red := { up.red with openStep :=
  [((0, 0), ⟨groupFile, [0, 5], 1, 0, false, [], [], [], false, 0, [], 0, 0, 0, false, false⟩),
   ((0, 2 ^ 32 - 1), (opened [0, 5]))] } }
theorem witness_QuantisedTiles :
    takeWhole ((tileOut workFile 0).armIn 0) ((tileOut workFile 0).cores.released.get (coreNo 0 0) []) = some (outTile 0, []) ∧
    (descAt ((tileOut workFile 0).armIn 0 (some 0)) 0).format = fmtFP32 ∧ (descAt ((tileOut workFile 0).armIn 0 (some 0)) 0).hint = 0 ∧
    (tileOut workFile 0).mem.cache = [] ∧ (tileOut workFile 0).faulty 0 false 0 = false ∧ (tileOut workFile 0).fenced 0 = false ∧
    (spanLines ((descAt ((tileOut workFile 0).armIn 0 (some 0)) 0).base + 0)
      (packPlain (descAt ((tileOut workFile 0).armIn 0 (some 0)) 0) [0, 0, 0, 0]).1.length) = [0] ∧
    (descAt (waitingTile.armIn 0 (some 0)) 1).format = fmtI16 ∧ (tileOut groupFile 1).bucketOf 0 0 1 = none ∧
    takeWhole (waitingTile.armIn 0) (waitingTile.cores.released.get (coreNo 0 0) []) = some (outTile 1, []) ∧
    waitingTile.partOf 0 = 0 ∧ waitingTile.bucketOf 0 0 1 = some 0 ∧ waitingTile.expReady 0 0 0 0 = none ∧
    (tileOut workFile 0).halts (pgQuant 0) = false ∧ ((tileOut workFile 0).halt (pgQuant 0)).halts (pgQuant 0) = true := by decide +kernel
/-- A file whose descriptor 0 is an F4 tensor of one tile of 2 × 2, with escapes and its side list behind it. -/
def scaledFile : List Byte := fileWith 1 1 [(1, 1, blob 64 [(0, leBytes 8 0x18000000), (8, leBytes 8 0x18010000),
  (48, leBytes 4 2), (52, leBytes 4 2), (56, leBytes 4 (24 * 2 ^ 8)), (60, leBytes 4 (2 ^ 14 + 2 ^ 18))])]
/-- The blocks of its tile. -/
def scaledBlocks : List QBlock :=
  let d := descAt scaledFile 0
  quantBlocks d none (d.padding 0 0) (fun k => srBits (srHash d.seed 0 d.tensorId (srIndex (d.element 0 0 k) 2 0))) 0 0
    (chunks d.blockSize ((rotateTile d [0x3F800000, 0x40000000, 0x41200000, 0xBF800000]).map fun v => divF v 0x3F800000))
theorem witness_ScaledTiles : takeWhole ((tileOut scaledFile 0).armIn 0) ((tileOut scaledFile 0).cores.released.get (coreNo 0 0) []) = some (outTile 0, []) ∧
    (descAt ((tileOut scaledFile 0).armIn 0 (some 0)) 0).format = fmtF4 ∧ (descAt scaledFile 0).policy = 0 ∧ (descAt scaledFile 0).hint = 0 ∧
    (descAt scaledFile 0).escMult = 24 ∧ (tileOut scaledFile 0).halts (pgQuant 0) = false ∧ (tileOut scaledFile 0).mem.cache = [] ∧
    secondCopy ((tileOut scaledFile 0).armIn 0 (some 0)) 0 = none ∧ (packBlocks (descAt scaledFile 0) scaledBlocks).length = 64 ∧
    (∀ l ∈ spanLines 0x18000000 64, (tileOut scaledFile 0).faulty 0 false (64 * l) = false ∧ (tileOut scaledFile 0).fenced (64 * l) = false) ∧
    (∀ l ∈ spanLines 0x18010000 512, (tileOut scaledFile 0).faulty 0 false (64 * l) = false ∧ (tileOut scaledFile 0).fenced (64 * l) = false) := by decide +kernel
/-- A step of that group in which this device is rank 1, without children. -/
def leafStep : OpenStep := ⟨groupFile, [5, 0], 198, 0, false, [0], [], [], false, 0, [], 0, 0, 0, false, false⟩
/-- A gradient tile released at this device, whose port 0 is up. -/
def leafTile : State :=
  let s := tileOut groupFile 1
  { (((s.put (pgPort 0) .LINK_STATE 2).put (pgPort 0) .POS_VALID 1).put (pgLink 0) .ID_VALID 1).put (pgLink 0) .DEVICE_ID 0 with
    red := { up.red with openStep := [((0, 0), leafStep)] } }

theorem witness_GradientContributions : takeWhole (leafTile.armIn 0) (leafTile.cores.released.get (coreNo 0 0) []) = some (outTile 1, []) ∧
    (descAt (leafTile.armIn 0 (some 0)) 1).format = fmtI16 ∧ leafTile.halts (pgQuant 0) = false ∧ leafTile.bucketOf (leafTile.partOf 0) 0 1 = some 0 ∧
    (leafTile.expReady (leafTile.partOf 0) 0 0 0).isSome = true ∧ leafTile.stepAt (leafTile.partOf 0) 0 = some leafStep ∧
    leafStep.file = leafTile.armIn 0 (some 0) ∧ rankOf (gradTree leafStep (bucketAt groupFile 0) 0) (leafTile.selfIn leafStep.members) = some 1 ∧
    (childrenOf (gradTree leafStep (bucketAt groupFile 0) 0) 1).isEmpty = true ∧ leafTile.red.parts = [] ∧
    leafTile.upPorts (leafTile.partOf 0) = [0] := by decide +kernel
theorem witness_Transfers : ((running workFile 0).dueTransfer 0 0 0).map (·.op) = some 0 ∧ ((running workFile 0).dueTransfer 0 0 1).map (·.op) = some 1 ∧
    ((running workFile 0).dueTransfer 0 0 2).map (·.op) = some 2 ∧ ((running workFile 0).dueTransfer 0 0 3).map (·.op) = some 3 ∧
    (∀ e, (running workFile 0).dueTransfer 0 0 3 = some e →
      ∀ l ∈ xferLines e ((running workFile 0).coreDesc 0 0 e.desc), (running workFile 0).faulty 0 false (64 * l) = false) ∧
    { up with cores := { up.cores with xbusy := [(0, 0)] } }.cores.xbusy.contains (coreNo 0 0, 0) = true := by
  have h : ∀ o, (running workFile 0).dueTransfer 0 0 3 = o → (o.all fun e => (xferLines e ((running workFile 0).coreDesc 0 0 e.desc)).all fun l =>
    !(running workFile 0).faulty 0 false (64 * l)) = true := by intro o ho; subst ho; decide +kernel
  refine ⟨by decide +kernel, by decide +kernel, by decide +kernel, by decide +kernel, ?_, by decide +kernel⟩
  intro e he l hl
  have := h _ he
  simp only [Option.all_some, List.all_eq_true] at this
  simpa using this l hl
/-- The bridge of bed 0 running, with line 0 pinned for one more use, or without line 0. -/
def bridged (dal : Option Nat) : State :=
  let s := up.put (pgBridge 0) .RUN 1
  { s with mem := { s.mem with cache := [(0, ⟨dal, List.replicate 64 7, false, false, false, true, 0, 0⟩)] } }
/-- A read of the partition's line 0 by bed 0 as class 0, or by the host. -/
def ask (host : Bool) : MemReq := ⟨0, if host then 3 else 0, 0, 0, 0, host⟩
/-- The bridge of bed 0 running with the set of line 0 full of other lines. -/
def fullSet : State :=
  let s := up.put (pgBridge 0) .RUN 1
  { s with mem := { s.mem with cache := (List.range 16).map fun i => (65536 * (i + 1), ⟨none, List.replicate 64 7, false, false, false, true, 0, 0⟩) } }
theorem witness_LineReads : up.faulty 0 false 0 = true ∧ (bridged (some 1)).faulty 0 false 0 = false ∧ (ask false).host = false ∧
    (Tab.find? (bridged (some 1)).mem.cache (lineOf 0)).map (·.dal) = some (some 1) ∧
    (Tab.find? (bridged (some 255)).mem.cache (lineOf 0)).map (·.dal) = some (some 255) ∧
    (Tab.find? (bridged none).mem.cache (lineOf 0)).map (·.dal) = some none ∧ (up.put (pgBridge 0) .RUN 1).faulty 0 false 0 = false ∧
    Tab.find? (up.put (pgBridge 0) .RUN 1).mem.cache (lineOf 0) = none ∧ (up.put (pgBridge 0) .RUN 1).fenced 0 = false ∧
    ((up.put (pgBridge 0) .RUN 1).put (pgBridge 0) .GUARD_ACTIVE 1).faulty 0 true 0x18000000 = false ∧ (ask true).host = true ∧
    ((up.put (pgBridge 0) .RUN 1).put (pgBridge 0) .GUARD_ACTIVE 1).guardDenies 0x18000000 = true ∧
    (up.put (pgBridge 0) .RUN 1).halts (pgReg 0) = false ∧ (up.put (pgBridge 0) .RUN 1).isOverdraw 0 0 0 = false ∧
    (up.put (pgBridge 0) .RUN 1).halts (pgCache 0) = false ∧ (up.put (pgBridge 0) .RUN 1).setFull 0 = false ∧
    fullSet.setFull 0 = true ∧ Tab.find? fullSet.mem.cache (lineOf 0) = none ∧ fullSet.faulty 0 false 0 = false ∧ fullSet.halts (pgCache 0) = false ∧
    (⟨0, 0, 2, 255, 0, false⟩ : MemReq).hint = 2 ∧ 1 < (⟨0, 0, 2, 255, 0, false⟩ : MemReq).uses := by decide +kernel
/-- The bridge of bed 0 running, channel 0 of its first stack fenced. -/
def fencedOff : State := (up.put (pgBridge 0) .RUN 1).put (pgMc 0) .FENCED_MAP (2 ^ 64 - 1)
theorem witness_LineWrites : up.faulty 0 false 0 = true ∧ (up.put (pgBridge 0) .RUN 1).faulty 0 true 0x18000000 = false ∧
    (up.put (pgBridge 0) .RUN 1).sessionOpen ((up.put (pgBridge 0) .RUN 1).partOf (homeOf 0x18000000)) = false ∧
    Tab.find? (up.put (pgBridge 0) .RUN 1).mem.cache (lineOf 0x18000000) = none ∧ (up.put (pgBridge 0) .RUN 1).fenced 0x18000000 = false ∧ 63 < 64 ∧
    fencedOff.faulty 0 false 0 = false ∧ fencedOff.fenced 0 = true ∧ ((up.put (pgBridge 0) .RUN 1).put pgSec .SESSION_STATE 2 0).faulty 0 true 0x18000000 = false ∧
    ((up.put (pgBridge 0) .RUN 1).put pgSec .SESSION_STATE 2 0).sessionOpen (((up.put (pgBridge 0) .RUN 1).put pgSec .SESSION_STATE 2 0).partOf (homeOf 0x18000000)) = true ∧
    (bridged (some 1)).faulty 0 false 0 = false ∧ (Tab.find? (bridged (some 1)).mem.cache (lineOf 0)).isSome = true ∧
    (up.put (pgBridge 0) .RUN 1).faulty 0 false 0x18000000 = false ∧ (up.put (pgBridge 0) .RUN 1).halts (pgCache 0) = false ∧
    (up.put (pgBridge 0) .RUN 1).setFull (lineOf 0x18000000) = false := by
  decide +kernel
/-- Channel 31 of stack 31 in training, after some failures in a row. -/
def retraining (n : Nat) : State := { up with mem := { up.mem with chBusy := [(31, 31)], chFails := [((31, 31), n)] } }
theorem witness_MemoryUpkeep : (up.put (pgBridge 0) .SCRUB_BUSY 1).flag (pgBridge 0) .SCRUB_BUSY = true ∧ (up.put (pgBridge 0) .SCRUB_BUSY 1).sessionState 0 = 0 ∧
    ((session 3).put (pgBridge 0) .SCRUB_BUSY 1).flag (pgBridge 0) .SCRUB_BUSY = true ∧ ((session 3).put (pgBridge 0) .SCRUB_BUSY 1).sessionState 0 = 3 ∧
    (∀ x ∈ ((session 3).put (pgBridge 0) .SCRUB_BUSY 1).partBeds 0, x ≠ 0 → ((session 3).put (pgBridge 0) .SCRUB_BUSY 1).flag (pgBridge x) .SCRUB_BUSY = false) ∧
    up.memoryOn = true ∧ badAddr 0x23FFFFFFC0 = false ∧ up.stackOf 0 = 0 ∧ up.fenced 0 = false ∧ 85 < 86 ∧ up.flag (pgMc 31) .HOT = false ∧
    up.memoryOn = true ∧ 16 < 17 ∧ (retraining 1).mem.chBusy.contains (31, 31) = true ∧ (retraining 1).mem.chFails.get (31, 31) 0 < 2 ∧
    2 ≤ (retraining 2).mem.chFails.get (31, 31) 0 ∧ (retraining 2).get (pgMc 31) .FENCED_MAP < 2 ^ 64 := by decide +kernel
/-- Step 5 with a table of groups. -/
def stepFive (valid : Nat) (skip : Bool) : StepCtx := ⟨5, 0, 0, 0, 0, groupAt [(0, 0x3C000000), (1, 0x3F000000), (2, 0x3F000000), (3, 0x322BCC77), (6, valid)] [], 0x3F800000, skip, fun _ => none⟩
theorem witness_BlockStamps : (stepFive 1 false).step = 5 ∧ (4 : Nat) ≠ (stepFive 1 false).step ∧ 4 = prevStep (stepFive 1 false).step ∧
    (stepFive 1 true).skip = true ∧ groupOk ((stepFive 0 false).group 0) = false ∧ ((stepFive 5 false).group 0).frozen = true ∧
    3 ≠ (stepFive 1 false).step ∧ 3 ≠ prevStep (stepFive 1 false).step ∧ 3 = prevStep (prevStep (stepFive 1 false).step) ∧
    6 ≠ (stepFive 1 false).step ∧ 6 ≠ prevStep (stepFive 1 false).step ∧ 6 ≠ prevStep (prevStep (stepFive 1 false).step) ∧
    (List.replicate 2112 (0 : Byte)).length = 2112 ∧ (∀ i, [recOf ((List.replicate 2112 (0 : Byte)).drop 1600) false][i]? = none ∨
      ∃ bad, [recOf ((List.replicate 2112 (0 : Byte)).drop 1600) false][i]? = some (recOf ((List.replicate 2112 (0 : Byte)).drop (64 + 512 * 3 + 8 * i)) bad)) ∧
    (recOf ((List.replicate 2112 (0 : Byte)).drop 1600) false).bad = false := by
  refine ⟨by decide +kernel, by decide +kernel, by decide +kernel, by decide +kernel, by decide +kernel, by decide +kernel, by decide +kernel, by decide +kernel,
    by decide +kernel, by decide +kernel, by decide +kernel, by decide +kernel, by decide +kernel, ?_, by decide +kernel⟩
  intro i
  match i with
  | 0 => exact .inr ⟨false, rfl⟩
  | n + 1 => exact .inl rfl
/-- A file with one pass entry of unit 0 for a number of records. -/
def passFile (records exact : Nat) : List Byte := fileWith 1 1 [(8, 1, blob 8256 [(0, leBytes 4 1), (18, leBytes 1 exact), (8224 + 3, [7]), (8224 + 16, leBytes 4 records)])]
/-- Bed 0 running it, with bucket 0 of step 0 settled OK. -/
def updating (records exact : Nat) : State :=
  { running (passFile records exact) 0 with
    red := { up.red with openStep := [((0, 0), ⟨passFile records exact, [idNone], 0, 0, false, [], [], [], false, 0, [], 0, 0, 0, false, false⟩)], settled := [((0, 0, 0), true)] } }
/-- A file whose WARD and PARTNER are device 5, with a slot of 128 bytes. -/
def cutFile : List Byte := fileWith 1 1 [(8, 1, blob 64 [(12, leBytes 2 1), (20, leBytes 2 5), (22, leBytes 2 5), (32, leBytes 8 192)])]
/-- Port 0 up on bed 0 with that file. -/
def warded : State := { linked with arms := [((0, 0), ⟨cutFile, []⟩)], beds := [(0, { BedSt.reset with active := some 0 })] }
theorem witness_UpdatesAndCuttings : (updating 257 0).unitMay 0 = true ∧ (updating 257 0).upd.run.find? 0 = none ∧
    (((updating 257 0).nextPass 0 (updating 257 0).upd.done (fun t f e => !updExact f || (updating 257 0).skipped 0 e.bucket t ||
      (updating 257 0).prepassed 0 f e.layer t)).map fun x => x.2.2.records) = some 257 ∧
    (((updating 256 1).nextPass 0 (updating 256 1).upd.preDone (fun t f e => updExact f && !(updating 256 1).skipped 0 e.bucket t)).map fun x => x.2.2.records) = some 256 ∧
    { up with upd := { up.upd with stopReq := [31] } }.upd.stopReq.contains 31 = true ∧ up.runsArm 7 = false ∧ (running [] 0).runsArm 0 = true ∧
    ({ running (passFile 1 0) 0 with parts := [(0, { PartSt.reset with regrowing := true })] }.part 0).regrowing = true ∧
    hasSec ({ running (passFile 1 0) 0 with parts := [(0, { PartSt.reset with regrowing := true })] }.regrowFile 0) 0x08 = true ∧
    (warded.takeIn 0 (packet 6 [(32, leBytes 8 64)] (List.replicate 64 1))).2 = some (packet 6 [(32, leBytes 8 64)] (List.replicate 64 1)) ∧
    hasSec ((warded.takeIn 0 (packet 6 [(32, leBytes 8 64)] (List.replicate 64 1))).1.partArm 0) 0x08 = true ∧
    (warded.takeIn 0 (packet 6 [(32, leBytes 8 64)] (List.replicate 64 1))).1.portPart 0 = 0 ∧ cutWard cutFile = 5 ∧ cutPartner cutFile = 5 ∧
    64 + 64 < cutSlotBytes cutFile ∧ tfAt (packet 6 [(32, leBytes 8 64)] (List.replicate 64 1)) 32 8 % 64 = 0 ∧
    (warded.takeIn 0 (packet 6 [(32, leBytes 8 64)] (List.replicate 64 1))).1.upd.wardLines = [] ∧
    (warded.takeIn 0 (packet 6 [(32, leBytes 8 64)] (List.replicate 64 1))).1.flag (pgUnit 0) .WARD_A_VALID = false ∧
    (warded.takeIn 0 (packet 6 [(32, leBytes 8 64)] (List.replicate 64 1))).1.flag (pgUnit 0) .WARD_B_VALID = false ∧
    tfAt (packet 6 [(32, leBytes 8 192)] [1]) 32 8 + 1 > cutSlotBytes cutFile ∧ tfAt (packet 6 [(32, leBytes 8 1)] [1]) 32 8 % 64 ≠ 0 ∧
    hasSec (linked.partArm 0) 0x08 = false ∧ (warded.takeIn 0 (packet 7 [] [])).2 = some (packet 7 [] []) := by decide +kernel
/-- DATA for line 0 of memory. -/
def data : Packet := packet 0 [] (List.replicate 64 9)
theorem witness_DataPackets : (up.portUp 0 || up.link 0 == 4) = false ∧ data.type = tyData ∧ linked.portUp 0 = true ∧ { data with rsv := true }.rsv = true ∧
    linked.flag (pgPort 0) .POS_VALID = true ∧ data.dest = linked.myId ∧ (linked.put (pgPort 0) .PORT_ENC_EN 1).flag (pgPort 0) .PORT_ENC_EN = true ∧
    linked.flag (pgPort 0) .PORT_ENC_EN = false ∧ linked.pw.wedged = false ∧ tfReserved data = false ∧ tfReserved (packet 0 [(37, [1])] []) = true ∧
    windowAccept ({ linked with fab := { linked.fab with window := [((0, 5, 0), (1, []))] } }.fab.window.find? (0, 5, 0)) data.seq = none ∧
    windowAccept ((linked.put (pgBridge 0) .RUN 1).fab.window.find? ((linked.put (pgBridge 0) .RUN 1).portPart 0, data.src, data.srcPart)) data.seq = some (1, []) ∧
    (linked.put (pgBridge 0) .RUN 1).late0 0 data = false ∧ (linked.put (pgBridge 0) .RUN 1).mem.cache = [] ∧ tfAt data 36 1 % 4 = 0 ∧
    (∀ l ∈ spanLines (tfAt data 28 8) data.payload.length, (linked.put (pgBridge 0) .RUN 1).faulty (0 / 2) false (64 * l) = false ∧
      (linked.put (pgBridge 0) .RUN 1).fenced (64 * l) = false) := by decide +kernel
/-- Port 0 up with a packet in its queue, to device 5 behind switch 0 port 5 or to nowhere. -/
def sending (k : Packet) (topo : List TopoEntry) : State :=
  let s := linked.put (pgBed 0) .FRAME_US 16
  { s with fab := { s.fab with queue := [(0, [k])], topo := topo } }
/-- A MGMT packet of class 1 to a device. -/
def outgoing (dest : Nat) : Packet := ⟨dest, 0, 0, 1, false, false, false, false, 8, 0, [], 1, 0, List.replicate 20 0, [1, 0, 0, 0], List.replicate 16 0⟩
/-- Port 0 up with a slot that it sent and slots that are due again. -/
def keeping (due : List Packet) : State :=
  let s := sending (outgoing 5) []
  { s with fab := { s.fab with sent := [(0, [(3, outgoing 5)])], retryDue := [(0, due)] } }
/-- Port 0 under NEAR_LOOPBACK with what it sent. -/
def looping (l : List Packet) : State :=
  let s := linked.put (pgPort 0) .NEAR_LOOPBACK 1
  { s with fab := { s.fab with looped := [(0, l)] } }
theorem witness_Slots : linked.portUp 0 = true ∧ linked.flag (pgPort 0) .NEAR_LOOPBACK = false ∧ (keeping []).portUp 0 = true ∧
    (keeping []).flag (pgPort 0) .NEAR_LOOPBACK = false ∧ ((keeping []).fab.sent.get 0 []).find? (fun x => x.1 == 3) = some (3, outgoing 5) ∧
    (looping []).portUp 0 = true ∧ (looping []).flag (pgPort 0) .NEAR_LOOPBACK = true ∧ (looping []).fab.looped.get 0 [] = [] ∧
    (looping [data]).fab.looped.get 0 [] = [data] ∧ data.type = tyData ∧ (linked.put (pgPort 0) .LINK_STATE 4).link 0 = 4 ∧
    0 < (sending (outgoing 5) []).portSlots 0 ∧ (sending (outgoing 5) []).beats 0 = true ∧
    1 < (sending (outgoing 5) []).portSlots 0 ∧ (sending (outgoing 5) []).red.votes = [] ∧
    takeFirst ((sending (outgoing 5) []).retrySlot 0 1) ((sending (outgoing 5) []).fab.retryDue.get 0 []) = none ∧
    (sending (outgoing 5) []).pickPacket 0 1 = some (outgoing 5, []) ∧
    ((sending (outgoing 5) []).setFab { (sending (outgoing 5) []).fab with queue := (sending (outgoing 5) []).fab.queue.put 0 [] }).routed 0 (outgoing 5) = none ∧
    (sending (outgoing 0x1FFF) []).pickPacket 0 768 = some (outgoing 0x1FFF, []) ∧ (((sending (outgoing 0x1FFF) []).setFab { (sending (outgoing 0x1FFF) []).fab with queue := (sending (outgoing 0x1FFF) []).fab.queue.put 0 [] }).routed
      0 (outgoing 0x1FFF)).map (fun x => (x.type, x.srcPart, x.seq)) = some (8, 0, 1) ∧ linkType 8 = false ∧ linkType 1 = true ∧
    (sending (outgoing 0x1FFF) []).fab.given.find? (0, 1) = none ∧
    768 < (sending (outgoing 5) []).portSlots 0 ∧ (keeping [outgoing 5]).portUp 0 = true ∧ (keeping [outgoing 5]).red.votes = [] ∧
    takeFirst ((keeping [outgoing 5]).retrySlot 0 1) ((keeping [outgoing 5]).fab.retryDue.get 0 []) = some (outgoing 5, []) := by decide +kernel
theorem witness_LinkUpkeep : (linked.portUp 0 || linked.link 0 == 4) = true ∧ linked.pw.wedged = false ∧ (packet 1 [] []).type = tyHeartbeat ∧ (packet 1 [] []).rsv = false ∧ tfReserved (packet 1 [] []) = false ∧
    (up.put (pgPort 15) .LINK_STATE 1).link 15 = 1 ∧ (up.put (pgPort 15) .LINK_STATE 1).fab.attempts.get 15 1 < 3 ∧
    (let s := up.put (pgPort 15) .LINK_STATE 1; 3 ≤ ({ s with fab := { s.fab with attempts := [(15, 3)] } } : State).fab.attempts.get 15 1) ∧
    { up with pw := { up.pw with d2dDown := [10] } }.pw.d2dDown.contains 10 = true ∧ up.inRun = true ∧ up.pw.transition = none := by decide +kernel
/-- The time reference enabled with an edge at 0, at a time. -/
def timed (now : Nat) : State := let s := up.put pgGlobals .TREF_EN 1; { s with time := { s.time with now := now, trefLast := some 0 } }
theorem witness_GroupAndReferenceTime : linked.portUp 0 = true ∧ linked.flag (pgPort 0) .POS_VALID = true ∧ (packet 2 [] []).type = tyTime ∧
    tfAt (packet 2 [] []) 28 1 % 2 = 0 ∧ (linked.put (pgLink 0) .TIME_REF_ID 0).isTimeRef = true ∧ tfAt (packet 2 [(28, [1])] []) 28 1 % 2 = 1 ∧
    linked.pw.wedged = false ∧ tfReserved (packet 2 [] []) = false ∧ tfReserved (packet 2 [(28, [1])] []) = false ∧ linked.late0 0 (packet 2 [] []) = false ∧
    (grouped.put (pgLink 0) .TIME_REF_ID 5).late0 0 (packet 2 [(28, [1])] []) = false ∧
    (grouped.put (pgLink 0) .TIME_REF_ID 5).timeGroup ((grouped.put (pgLink 0) .TIME_REF_ID 5).portPart 0) ≠ [] ∧
    (grouped.put (pgLink 0) .TIME_REF_ID 5).isTimeRef = false ∧ up.anyBedRuns = false ∧ up.flag pgGlobals .GROUP_ALIGNED = false ∧ (0 : Int) < 1 ∧
    (bedAt 2 0).anyBedRuns = true ∧ 4 ≤ { up.time with alignFrames := 4 }.alignFrames ∧ up.inRun = true ∧ up.pw.transition = none ∧
    (timed 1000000050).flag pgGlobals .TREF_EN = true ∧ (timed 1000000050).time.trefLast = some 0 ∧ 0 + 999900000 ≤ (timed 1000000050).time.now ∧
    (timed 1000000050).time.now ≤ 0 + 1000100000 ∧ (timed 1000000050).time.now % 1000000000 ≤ 50 ∧
    999999950 ≤ (timed 999999950).time.now % 1000000000 ∧ (timed 999899999).time.now < 0 + 999900000 ∧ 0 + 1000100000 < (timed 1000100001).time.now ∧
    0 + 2500000000 ≤ (timed 2500000000).time.now := by decide +kernel
theorem witness_Topology : linked.portUp 0 = true ∧ linked.pw.wedged = false ∧ tfReserved (packet 3 [(28, [2])] []) = false ∧
    tfReserved (packet 3 [(28, [1])] [15, 63, 127]) = false ∧ (packet 3 [(28, [2])] []).type = tyTopology ∧ (packet 3 [(28, [2])] []).rsv = false ∧
    tfAt (packet 3 [(28, [2])] []) 28 1 = 2 ∧ tfAt (packet 3 [(28, [1])] [15, 62, 127]) 28 1 = 1 ∧
    fieldAt (packet 3 [(28, [1])] [15, 62, 127]).payload 0 1 ≤ 15 ∧ fieldAt (packet 3 [(28, [1])] [15, 62, 127]).payload 1 1 = 62 ∧
    fieldAt (packet 3 [(28, [1])] [15, 63, 127]).payload 1 1 = 63 ∧ fieldAt (packet 3 [(28, [1])] [15, 63, 127]).payload 2 1 = 127 ∧
    linked.flag (pgPort 0) .PORT_FENCED = false ∧ (∀ x < 16, x ≠ 0 → linked.flag (pgPort x) .POS_VALID = false) := by decide +kernel
/-- Port 0 up, this device (id 0) and device 5 in a group; step 0 is open with its members in rank order, FRAME_NUMBER 199. -/
def reducing (members : List Nat) : State :=
  { grouped.put (pgBed 0) .FRAME_NUMBER 199 with
    red := { up.red with openStep := [((0, 0), opened members)] } }
/-- A REDUCE of device 5 for tile 0 of bucket 0: COUNT 1, width 0. -/
def part : Packet := packet 4 [(36, [1])] [3, 0]
/-- The part's key. -/
def key : PartKey := ⟨0, 0, 0, 0, 0⟩
/-- A part in progress. -/
def openPart (from_ : List Nat) (sent : Bool) : OpenPart := ⟨[0], 0, 0, false, from_, false, false, sent⟩
/-- A vote of this device alone, or of a group without a certificate. -/
def aVote (members : List Nat) : Vote := ⟨members, 1, 1, [], ⟨[1], 1, 0⟩, ⟨[], 0, 0⟩, [], ⟨[], 0, 0⟩, [], false, none, false, false⟩
/-- The same with as many votes open as the store has entries. -/
def crowded : State :=
  let s := reducing [0, 5]
  { s with red := { s.red with votes := List.replicate 4915 (⟨0, vLoss, 10, 0, 0⟩, aVote [0]) } }
theorem witness_PartInputs : part.type = tyReduce ∧ ((reducing [0, 5]).takeIn 0 part).2 = some part ∧ tfAt part 28 2 < vPrecision ∧
    (((reducing [0, 5]).takeIn 0 part).1.packetKey 0 part).map (·.1) = some key ∧ ((reducing [0, 5]).takeIn 0 part).1.portPart 0 = 0 ∧
    rankOf (gradTree (opened [0, 5]) (bucketAt groupFile 0) 0) (((reducing [0, 5]).takeIn 0 part).1.selfIn [0, 5]) = some 0 ∧
    widthBad part = false ∧ ((reducing [0, 5]).takeIn 0 part).1.expBad key part = false ∧ part.poison = false ∧
    (((reducing [0, 5]).takeIn 0 part).1.partAt key).sentOn = false ∧ ((reducing [0, 5]).takeIn 0 part).1.storeFull (((reducing [0, 5]).takeIn 0 part).1.partAt key).own
      (!(((reducing [0, 5]).takeIn 0 part).1.partAt key).from_.isEmpty) = false ∧
    (childIds (gradTree (opened [0, 5]) (bucketAt groupFile 0) 0) 0).contains part.src = true ∧
    (((reducing [0, 5]).takeIn 0 part).1.partAt key).from_.contains part.src = false ∧ (((reducing [0, 5]).takeIn 0 part).1.partAt key).own = false ∧
    (linked.takeIn 0 part).2 = some part ∧ (linked.takeIn 0 part).1.packetKey 0 part = none ∧ widthBad (packet 4 [(36, [0, 2])] [3, 0]) = true ∧
    ((reducing [0, 5]).takeIn 0 { part with poison := true }).2 = some { part with poison := true } ∧
    (crowded.takeIn 0 part).2 = some part ∧ ((crowded.takeIn 0 part).1.packetKey 0 part).map (·.1) = some key ∧
    ((crowded.takeIn 0 part).1.partAt key).from_ = [] ∧ 4915 ≤ (crowded.takeIn 0 part).1.storeEntries := by decide +kernel
/-- The same group's file without NOISE in its bucket. -/
def plainFile : List Byte := fileWith 2 1 [(1, 2, blob 128 [(64 + 56, leBytes 4 9)]),
  (7, 1, blob 100 [(0, leBytes 4 1), (4, leBytes 4 96), (8, leBytes 2 1), (64 + 4, leBytes 2 1), (64 + 8, leBytes 2 1), (64 + 12, leBytes 4 1),
    (96, leBytes 2 0), (98, leBytes 2 5)])]
theorem witness_PartDeadlines : ((reducing [0, 5]).stepAt 0 0).isSome = true ∧ key.bucket < bucketCount groupFile ∧ 0 < (bucketAt groupFile 0).tiles ∧
    0 < tileParts (descAt groupFile (bucketAt groupFile 0).src) ∧ ((reducing [0, 5]).partAt key).sentOn = false ∧
    (reducing [0, 5]).frameEnded 0 (opened [0, 5]) ((bucketAt groupFile 0).deadline - 0) = true ∧
    rankOf (gradTree (opened [0, 5]) (bucketAt groupFile 0) 0) ((reducing [0, 5]).selfIn [0, 5]) = some 0 ∧
    rankOf (gradTree (opened [7, 0, 5]) (bucketAt groupFile 0) 0) ((reducing [7, 0, 5]).selfIn [7, 0, 5]) = some 1 ∧
    (childrenOf (gradTree (opened [7, 0, 5]) (bucketAt groupFile 0) 0) 1).isEmpty = false ∧
    ((reducing [5, 0]).takeIn 0 { part with type := 5 }).2 = some { part with type := 5 } ∧
    (((reducing [5, 0]).takeIn 0 { part with type := 5 }).1.packetKey 0 { part with type := 5 }).map (·.1) = some key ∧
    widthBad { part with type := 5 } = false ∧ ((reducing [5, 0]).takeIn 0 { part with type := 5 }).1.expBad key { part with type := 5 } = false ∧
    idAt (gradTree (opened [5, 0]) (bucketAt groupFile 0) 0) 0 = 5 ∧
    ((reducing [5, 0]).takeIn 0 { part with type := 5 }).1.red.certs.find? key = none ∧
    ((reducing [5, 0]).takeIn 0 { part with type := 5 }).1.red.settled.find? (0, 0, 0) = none ∧
    ({ up.red with settled := [((0, 0, 0), false)] }.settled.find? (0, 0, 0)).isSome = true ∧ (reducing [0, 5]).upPorts 0 = [0] ∧
    (reducing [7, 0, 5]).upPorts 0 = [0] ∧ (bucketAt groupFile 0).noise = true ∧ (bucketAt plainFile 0).noise = false ∧
    bucketCount plainFile = 1 ∧ 0 < (bucketAt plainFile 0).tiles ∧ 0 < tileParts (descAt plainFile (bucketAt plainFile 0).src) := by decide +kernel
/-- A vote of a code contributed in frame 10; FRAME_NUMBER is 11 and frame 12 begins. -/
def voting (code : Nat) (members : List Nat) : State :=
  let s := (running groupFile 192000).put (pgBed 0) .FRAME_NUMBER 11
  { s with parts := [(0, { PartSt.reset with member := true })], red := { up.red with votes := [(⟨0, code, 10, 0, 0⟩, aVote members)] } }
theorem witness_VoteDeadlines : (voting vPrecision [0]).leadBed 0 = 0 ∧ (voting vPrecision [0]).tickDue 0 = true ∧ (voting vPrecision [0]).nextFrame 0 = 12 ∧
    (voting vPrecision [0]).voteDue 0 vPrecision 12 = [(10, 0)] ∧ (voting vPrecision [0]).voteDue 0 vLoss 12 = [] ∧
    (voting vPrecision [0]).red.votes.find? ⟨0, vPrecision, 10, 0, 0⟩ = some (aVote [0]) ∧
    (voting vPrecision [0]).voteParts 0 vPrecision 10 0 = [(⟨0, vPrecision, 10, 0, 0⟩, aVote [0])] ∧ (voting vPrecision [0]).votesIn 0 vPrecision (aVote [0]) = true ∧
    certOf (aVote [0]) = some ⟨[1], 1, 0⟩ ∧ [0, 0, 0, 0, 0, (1 : Int)].getD 5 0 = 1 ∧ 5 < 8191 ∧ (up.part 0).lost.contains 5 = false ∧
    ((voting vActivation [0, 5]).voteParts 0 vActivation 10 0).head?.map (·.2) = some (aVote [0, 5]) ∧
    (voting vActivation [0, 5]).votesIn 0 vActivation (aVote [0, 5]) = true ∧ (∃ e ∈ (voting vActivation [0, 5]).voteParts 0 vActivation 10 0, certOf e.2 = none) ∧
    ((voting vPrecision [0, 5]).part 0).member = true ∧ (voting vActivation [0, 5]).inRun = true ∧ (voting vActivation [0, 5]).pw.transition = none := by decide +kernel
theorem witness_NoiseLedger : (({ reducing [0, 5] with red := { (reducing [0, 5]).red with settled := [((0, 0, 0), true)] } } : State).ledgerDue 0).map (·.1) = some 0 ∧
    ({ reducing [0, 5] with red := { up.red with openStep := [((0, 0), opened [0, 5]), ((0, 2), { opened [0, 5] with first := 200 })] } } : State).ledgerLate 0 = true ∧
    65536 ≤ { Noise.reset with requests := 65536 }.requests ∧ { Noise.reset with stopped := true }.stopped = true ∧
    (let s := { bedAt 2 16000 with noise := [(0, { Noise.reset with stopped := true })] };
      (s.noiseOf 0).stopped = true ∧ s.tickDue (s.leadBed 0) = true ∧ s.atBoundary (s.leadBed 0) = true ∧ s.sec.sourceFailed = false) ∧ up.pw.keeperOn = true ∧
    (({ up with noise := [(7, { Noise.reset with inst := some 0 })] } : State).noiseOf 7).inst.isSome = true ∧ (up.noiseOf 7).inst = none := by decide +kernel
/-! ### Ill-formed commands, one for each check -/

/-- A well-formed packet, to be spoiled. -/
def sound : Packet := packet 0 [] []
theorem test_wf_packet : (Instr.slotReceive 0 0 0 sound).wf = true := by decide +kernel
theorem test_wf_refuses_packets : (List.map (fun k => (Instr.dataReceive 0 k).wf) [{ sound with dest := 8192 }, { sound with src := 8192 },
    { sound with srcPart := 8 }, { sound with cls := 4 }, { sound with type := 256 }, { sound with hopCount := 1 }, { sound with hops := [0] },
    { sound with hopCount := 1, hops := [128] }, { sound with seq := 2 ^ 64 }, { sound with frameLo := 65536 }, { sound with tf := [] },
    { sound with tag := [] }]) = List.replicate 12 false := by decide +kernel
theorem test_wf_refuses_bar0 : (Instr.badAccess (2 ^ 26) 4 true).wf = false ∧ (Instr.badAccess 0 256 true).wf = false ∧
    (Instr.registerWrite .host 0 4 (2 ^ 64)).wf = false ∧ (Instr.cntClr ⟨.bridge, 8⟩).wf = false ∧ (Instr.commit ⟨.security, 1⟩).wf = false ∧
    (Instr.abort ⟨.updateUnit, 32⟩).wf = false ∧ (Instr.pageLock ⟨.linkDie, 2⟩).wf = false ∧ (Instr.stagingSetFlush ⟨.port, 16⟩).wf = false ∧
    (Instr.ctlRunWrite .host ⟨.coreSub3, 3072⟩ true).wf = false ∧ (Instr.coreWindowAccess 0 4096 4 none).wf = false ∧
    (Instr.coreWindowAccess 0 0 4 (some (2 ^ 64))).wf = false ∧ (Instr.partCfgWrite .host 4).wf = false ∧ (Instr.brMapWrite 0 256).wf = false ∧
    (Instr.groupWordWrite 0 0 (2 ^ 32)).wf = false := by decide +kernel
theorem test_wf_refuses_dma : (Instr.doorbell 0 4096 []).wf = false ∧ (Instr.doorbell 0 0 [[0]]).wf = false ∧ (Instr.doorbell 0 0 [List.replicate 32 0]).wf = true ∧
    (Instr.bar2Read (2 ^ 36) .none).wf = false ∧ (Instr.bar2Write 63 [0, 0] false).wf = false ∧ (Instr.bar2Write 0 [] false).wf = false ∧
    (Instr.dmaSealedWrite 0 [] []).wf = false ∧ (Instr.dmaDescriptorTimeout 0 [0]).wf = false := by decide +kernel
theorem test_wf_refuses_cores : (Instr.matrixInstructionBlock 0 0 0 (2 ^ 18)).wf = false ∧ (Instr.vAdd ⟨0, 0, 0, false, 65536, 0, 0, 0⟩ ⟨0, 0, 0, 0, 0⟩).wf = false ∧
    (Instr.vAdd ⟨0, 0, 0, false, 0, 2 ^ 32, 0, 0⟩ ⟨0, 0, 0, 0, 0⟩).wf = false ∧ (Instr.vAdd ⟨0, 0, 0, false, 0, 0, 1024, 0⟩ ⟨0, 0, 0, 0, 0⟩).wf = false ∧
    (Instr.vAdd ⟨0, 0, 0, false, 0, 0, 0, 2 ^ 18⟩ ⟨0, 0, 0, 0, 0⟩).wf = false ∧ (Instr.vAdd ⟨0, 0, 0, false, 0, 0, 0, 0⟩ ⟨256, 0, 0, 0, 0⟩).wf = false ∧
    (Instr.vAdd ⟨0, 0, 0, false, 0, 0, 0, 0⟩ ⟨0, 256, 0, 0, 0⟩).wf = false ∧ (Instr.vAdd ⟨0, 0, 0, false, 0, 0, 0, 0⟩ ⟨0, 0, 256, 0, 0⟩).wf = false ∧
    (Instr.vAdd ⟨0, 0, 0, false, 0, 0, 0, 0⟩ ⟨0, 0, 0, 256, 0⟩).wf = false ∧ (Instr.precisionRetry 0 1024).wf = false ∧
    (Instr.lineRead ⟨0, 4, 0, 0, 0, false⟩ .none).wf = false ∧ (Instr.lineRead ⟨0, 0, 4, 0, 0, false⟩ .none).wf = false ∧
    (Instr.lineRead ⟨0, 0, 0, 256, 0, false⟩ .none).wf = false ∧ (Instr.lineRead ⟨0, 0, 0, 0, 2 ^ 64, false⟩ .none).wf = false ∧
    (Instr.lineWrite ⟨0, 0, 0, 0, 0, false⟩ 64 [0] false).wf = false ∧ (Instr.slotSend 0 3077).wf = false ∧ (Instr.levelCutoff 0 0 0 0 4).wf = false ∧
    (Instr.rootDeadline 0 65536 0 0 0).wf = false := by decide +kernel
theorem test_wf_refuses_commands : (Instr.getStatus { req with part := 256 }).wf = false ∧ (Instr.getStatus { req with reserved := 256 }).wf = false ∧
    (Instr.getStatus { req with path := .fabric 8192 }).wf = false ∧ (Instr.getStatus { req with auth := some ⟨[], []⟩ }).wf = false ∧
    (Instr.armatureLoad req (2 ^ 64) 0).wf = false ∧ (Instr.armatureActivate req 0 (2 ^ 48) 0 0 0).wf = false ∧ (Instr.ownerEnroll req []).wf = false ∧
    (Instr.fwUpdate req 2 0 [0] false).wf = false ∧ (Instr.fwUpdate req 0 0 [] false).wf = false ∧ (Instr.recoveryWrite req 0 (2 ^ 32) [0] false).wf = false ∧
    (Instr.pageUnlock req ⟨.keeper, 1⟩).wf = false ∧ (Instr.unknownCommand req 65536).wf = false ∧ (Instr.vendorDefinedRequest 0 ⟨65536, 0, 0, []⟩).wf = false ∧
    (Instr.vendorDefinedRequest 0 ⟨0, 256, 0, []⟩).wf = false ∧ (Instr.vendorDefinedRequest 0 ⟨0, 0, 256, []⟩).wf = false ∧ (Instr.challenge 0 []).wf = false ∧
    (Instr.keyExchange false [] [] []).wf = false ∧ (Instr.regrow req 8192 0 0 true true).wf = false := by decide +kernel
theorem test_wf_refuses_ports : (Instr.setEndpointId 256 0).wf = false ∧ (Instr.setEndpointId 9 4).wf = false ∧ (Instr.getMctpVersionSupport 256).wf = false ∧
    (Instr.getVendorDefinedMessageSupport 256).wf = false ∧ (Instr.pcieConfigRequest 1024 none).wf = false ∧ (Instr.pcieConfigRequest 4 (some (2 ^ 32))).wf = false ∧
    (Instr.fwEnd 65536).wf = false ∧ (Instr.fwEnd 0 0 (List.replicate 256 0)).wf = false ∧ (Instr.pcieConfigRequest 4 (some 0)).wf = true := by decide +kernel
theorem test_wf_refuses_board : (Instr.thermTrip 128 0).wf = false ∧ (Instr.marginCheck 512 true).wf = false ∧ (Instr.converterFault [8] []).wf = false ∧
    (Instr.converterFault [] [128]).wf = false ∧ (Instr.attributionInterval 0 0 [] 0).wf = false ∧ (Instr.fwChunk 0 (List.replicate 241 0)).wf = false ∧
    (Instr.boardOtp (2 ^ 64)).wf = false ∧ (Instr.vinExcursion 65536).wf = false ∧ (Instr.stackHot 0 256).wf = false := by decide +kernel

/-! ### The manual's own figures -/

/-- A state that a command leaves; the state before where it does not complete. -/
def after (c : Instr) (s : State) : State := match exec c s with
  | .next t => t
  | .fault _ => s
  | .refused _ => s
/-- R126: the codes just below 2^0.5 = 1.41421356... and log2(3) = 1.58496250...; 2^−2 is exact. -/
theorem test_exp2_log2 : (fp32.floorCode (exp2Q ⟨1, 2⟩).num.natAbs (exp2Q ⟨1, 2⟩).den).1 = 0x3FB504F3 ∧
    (fp32.floorCode (log2Q ⟨3, 1⟩).num.natAbs (log2Q ⟨3, 1⟩).den).1 = 0x3FCAE00D ∧ fp32.rne (exp2Q ⟨-2, 1⟩) = 0x3E800000 := by decide +kernel
/-- R45's ties: 0.25, 0.75, 1.25, 1.75, 2.5, 3.5 and 5 go to 0, 1, 1, 2, 2, 4 and 4. -/
theorem test_f4_ties : ([(1, 4), (3, 4), (5, 4), (7, 4), (5, 2), (7, 2), (5, 1)].map fun x : Nat × Nat => (f4Enc ⟨x.1, x.2⟩).1) = [0, 2, 2, 4, 4, 6, 6] := by
  decide +kernel
/-- R50: element 2k in bits [3:0] of byte k, element 2k + 1 in bits [7:4]. -/
theorem test_f4_nibbles : nibbles [1, 2, 3, 4] = [0x21, 0x43] := by decide +kernel
/-- R18's partition of bed 5 with four partitions, and R17's ports of partition 2. -/
theorem test_partitions : (up.put pgGlobals .PART_LOG2 2).partOf 5 = 2 ∧ (up.put pgGlobals .PART_LOG2 2).partPorts 2 = [8, 9, 10, 11] := by decide +kernel
/-- R126: 1 + 2^-23 doubled, and 3 × 2 + 1 in one rounding. -/
theorem test_vector_arith : addF 0x3F800001 0x3F800001 = 0x40000001 ∧ fmaF 0x40400000 0x40000000 0x3F800000 = 0x40E00000 := by decide +kernel
/-- R126: SHL by 32 gives 0, SHL by 31 keeps bit 0. -/
theorem test_vector_shift : (after (.vShl ⟨0, 0, 0, false, 0, 0, 0, 0⟩ ⟨1, 0x40, 0x40, 0x40, 32⟩) up).vreg 0 1 0 = 0 ∧
    (after (.vShl ⟨0, 0, 0, false, 0, 0, 0, 0⟩ ⟨1, 0x40, 0x40, 0x40, 31⟩) up).vreg 0 1 0 = 0x80000000#32 := by decide +kernel
/-- R134: a bed at frame 0 whose tick at 16 µs has come begins frame 1. -/
theorem test_tick : (after (.frameTick 0) (bedAt 0 16000)).get (pgBed 0) .FRAME_NUMBER = 1 := by decide +kernel
/-- R134: the tick of a bed that is not due changes nothing. -/
theorem test_tick_early : (after (.frameTick 0) (bedAt 0 15999)).get (pgBed 0) .FRAME_NUMBER = 0 := by decide +kernel
/-- R33: a committed set of a page whose block does not run takes effect at the flush. -/
theorem test_commit : (after (.stagingSetFlush (pgReg 0)) (after (.commit (pgReg 0)) (after (.registerWrite .host 0x2002040 4 5) up))).get (pgReg 0) .HOST_BUDGET = 5 ∧
    (after (.commit (pgReg 0)) (after (.registerWrite .host 0x2002040 4 5) up)).get (pgReg 0) .HOST_BUDGET = up.get (pgReg 0) .HOST_BUDGET := by decide +kernel
/-- R237: the third missed heartbeat takes the port down. -/
theorem test_heartbeat_timeout : (after (.heartbeatTimeout 0) linked).link 0 = 0 := by decide +kernel
/-- R314: a trip at 108 °C leads to Off, and only SYS_RESET_N below 90 °C clears the latch. -/
theorem test_therm_trip : (after (.thermTrip 3 108) up).pw.thermLatch = true ∧ (after (.deviceReset true) (after (.thermTrip 3 108) up)).pw.thermLatch = true ∧
    (after (.deviceReset true) (after (.junctionSensorRead 3 89) (after (.thermTrip 3 108) up))).pw.thermLatch = false := by decide +kernel
/-- R323's shares of an interval: what rounding down leaves is UNATTRIBUTED. -/
theorem test_attribution : (after (.attributionInterval 1000003 0 [1000, 2000, 0, 0, 0, 0, 0, 0] 101) metering).isl.unattrib = 1 := by decide +kernel
/-- R170: with the bridge's RUN at 0 a line read is an address fault and reads poison. -/
theorem test_line_fault : (after (.lineRead ⟨0, 0, 0, 0, 0, false⟩ .none) up).out.ep = true ∧
    (after (.lineRead ⟨0, 0, 0, 0, 0, false⟩ .none) up).get (pgBridge 0) .ADDR_FAULTS = 1 := by decide +kernel
/-- R186: a written byte reads back, the one beside it as before. -/
theorem test_line_write : (after (.lineWrite ⟨0, 0, 0, 0, 0, false⟩ 3 [0xAB] false) (up.put (pgBridge 0) .RUN 1)).mem.raw 3 = some 0xAB#8 ∧
    (after (.lineWrite ⟨0, 0, 0, 0, 0, false⟩ 3 [0xAB] false) (up.put (pgBridge 0) .RUN 1)).mem.raw 4 = none := by decide +kernel
/-- A step takes the command from the queue and runs it; on an empty queue time goes on by 1 ns (log 1). -/
theorem test_step : completes (step { State.reset with pending := [.setEndpointId 9, .hours] }) = true ∧ completes (step State.reset) = true := by decide +kernel

end Sys2Proof.Tests.Slice0
end

section
/-! PROOFS. Settles FieldWritesFlushAndWindow (O10): one host write of a 32-bit register and one access of a core window, each reduced to the register that it reaches. -/

namespace Sys2Proof.Machine

/-! ### Which pages and registers an offset reaches -/

/-- A page that a BAR0 offset reaches has the head of R31, unless it is the directory. -/
theorem State.headed_of_pageAt {s : State} {off o : Nat} {p : Page} (h : s.pageAt off = some (p, o))
    (hd : p.kind ≠ .pageDirectory) : headed p.kind = true := by
  have e := s.pageAt_headed off
  rw [h] at e
  simpa [headedHit, hd] using e

/-- Every headed page has its EVT register at 0x010 (R31). -/
theorem fieldsAt_evt (k : PageKind) (h : headed k = true) : fieldsAt k 0x10 = [(.EVT, 0)] := by
  revert h; cases k <;> decide

/-- Every headed page has its EVT_EN register at 0x014 (R31). -/
theorem fieldsAt_evtEn (k : PageKind) (h : headed k = true) : fieldsAt k 0x14 = [(.EVT_EN, 0)] := by
  revert h; cases k <;> decide

/-- Every headed page has its ERR_CAP register at 0x018 (R31). -/
theorem fieldsAt_errCap (k : PageKind) (h : headed k = true) :
    fieldsAt k 0x18 = [(.CAP_CODE, 0), (.CAP_FRAME_LO, 0), (.CAP_VALID, 0)] := by
  revert h; cases k <;> decide

/-- No register of the head from STS to ERR_CNT and none at 0x024 is wider than 32 bits, so that the registers behind them are no high words (R27, R31). -/
theorem highWord_head (k : PageKind) (h : headed k = true) :
    highWord k 0x10 = false ∧ highWord k 0x14 = false ∧ highWord k 0x18 = false ∧ highWord k 0x28 = false := by
  revert h; cases k <;> decide

/-- Offsets below 0x800 are the page's own, on the core window's page too (R39). -/
theorem inWindow_low (p : Page) {o : Nat} (h : o < 0x800) : inWindow p o = false := by
  have : ¬ 0x800 ≤ o := by omega
  simp [inWindow, this]

/-- BAR0's map at a core window page (R28). -/
theorem State.pageAt_coreWindow (s : State) (b : Bed) {o : Nat} (h : o < 0x1000) :
    s.pageAt (0x10FF000 + 0x100000 * b.val + o) = some (⟨.coreWindow, b.val⟩, o) := by
  have hb := b.isLt
  have hq : (0x10FF000 + 0x100000 * b.val + o - 0x1000000) % 0x100000 / 0x1000 = 0xFF := by omega
  have hn : (0x10FF000 + 0x100000 * b.val + o - 0x1000000) / 0x100000 = b.val := by omega
  have hr : (0x10FF000 + 0x100000 * b.val + o) % 0x1000 = o := by omega
  unfold State.pageAt
  dsimp only
  rw [if_neg (by omega), if_neg (by omega), if_neg (by omega), if_pos (by omega), hq, hn, hr]
  rfl

/-- BAR0's map at a bridge's regulator page (R28). -/
theorem State.pageAt_regulators (s : State) (b : Bed) {o : Nat} (h : o < 0x1000) :
    s.pageAt (0x2002000 + 0x100000 * b.val + o) = some (pgReg b.val, o) := by
  have hb := b.isLt
  have hq : (0x2002000 + 0x100000 * b.val + o - 0x2000000) % 0x100000 / 0x1000 = 2 := by omega
  have hn : (0x2002000 + 0x100000 * b.val + o - 0x2000000) / 0x100000 = b.val := by omega
  have hr : (0x2002000 + 0x100000 * b.val + o) % 0x1000 = o := by omega
  unfold State.pageAt
  dsimp only
  rw [if_neg (by omega), if_neg (by omega), if_neg (by omega), if_neg (by omega), if_neg (by omega), if_pos (by omega), hq, hn, hr]
  rfl

/-! ### What a 32-bit write does to a field -/

/-- A write that covers a field gives it the bits at its place. -/
theorem fieldBits_covered (i : FieldInfo) (lo n value old : Nat) (hw : 0 < i.width) (hlo : lo ≤ i.lo) (hhi : i.lo + i.width ≤ lo + n)
    (ho : old < 2 ^ i.width) : fieldBits i lo n value old = (bits value i.lo i.width, bits value i.lo i.width) := by
  unfold fieldBits
  rw [max_eq_left hlo, min_eq_left hhi, if_neg (by omega)]
  simp [bits, Nat.mod_eq_of_lt ho]

/-- A read-only field is not touched (R3). -/
theorem State.touchOne_ro (s : State) (hp p : Page) (lo n value : Nat) (e : Fld × Nat) (h : (fieldInfo e.1).acc = .ro) :
    s.touchOne hp p lo n value e = none := by
  unfold State.touchOne
  cases s.keyAt p e.1 e.2 <;> simp [h]

/-- The bits that a 32-bit word holds at a field's place. -/
def wordField (f : Fld) (w : Nat) : Nat := bits w (fieldInfo f).lo (fieldInfo f).width

/-- One bit of a number, as a value. -/
theorem bits_one (x n : Nat) : bits x n 1 = b2n (bitAt x n) := by
  unfold bits bitAt b2n
  rcases Nat.mod_two_eq_zero_or_one (x / 2 ^ n) with h | h <;> simp [h]

/-- The touch of a writable field by a whole word: of an RW field a change, of any other field the bits written 1 (R389). -/
theorem State.touchOne_word (s : State) (hp q : Page) (w : Nat) (f : Fld) (hk : s.keyAt q f 0 = some ⟨q, f, 0⟩)
    (ha : (fieldInfo f).acc ≠ .ro) (hw : 0 < (fieldInfo f).width) (hhi : (fieldInfo f).lo + (fieldInfo f).width ≤ 32) :
    s.touchOne hp q 0 32 w (f, 0) =
      if wordField f w = (if (fieldInfo f).acc = .rw then s.heldValue hp ⟨q, f, 0⟩ else 0) then none
      else some ⟨⟨q, f, 0⟩, wordField f w, wordField f w⟩ := by
  have hm : mirrorField q ⟨q, f, 0⟩ = false := by simp [mirrorField]
  have hbits := fieldBits_covered (fieldInfo f) 0 32 w _ hw (Nat.zero_le _) (by simpa using hhi) (s.heldValue_lt hp ⟨q, f, 0⟩)
  unfold State.touchOne wordField
  simp only [hk, hm, ha, hbits, Bool.or_false, decide_false, Bool.false_eq_true, if_false]
  by_cases h : (fieldInfo f).acc = .rw <;> simp [h]

/-- A field that is not RW is not touched where no 1 is written to it. -/
theorem State.touchOne_noOnes (s : State) (hp q : Page) (w : Nat) (f : Fld) (hk : s.keyAt q f 0 = some ⟨q, f, 0⟩)
    (ha : (fieldInfo f).acc ≠ .ro ∧ (fieldInfo f).acc ≠ .rw) (hw : 0 < (fieldInfo f).width)
    (hhi : (fieldInfo f).lo + (fieldInfo f).width ≤ 32) (h0 : wordField f w = 0) : s.touchOne hp q 0 32 w (f, 0) = none := by
  rw [s.touchOne_word hp q w f hk ha.1 hw hhi, if_neg ha.2, if_pos h0]

/-- A 32-bit write of BAR0 to a word that is no high word is one register write. -/
theorem State.writeBar_word (s : State) (a : Agent) (off v : Nat) (p : Page) (o : Nat) (h4 : off % 4 = 0)
    (hp : s.pageAt off = some (p, o)) (hm : p.kind ≠ .mirror) (hd : p.kind ≠ .pageDirectory) (hi : inWindow p o = false)
    (hh : highWord p.kind o = false) :
    s.writeBar a off 4 v = s.writeReg a p p off v o 0 32 (v % 2 ^ 32) := by
  simp [State.writeBar, badAccess, h4, hp, hm, hd, hi, State.writePage, State.writeWord, hh]

/-- REGISTER_WRITE by the host of a 32-bit word below a page's window. -/
theorem execRegisterWrite_word (s : State) (off v : Nat) (p : Page) (o : Nat) (hb : s.barUp = true) (h4 : off % 4 = 0)
    (hp : s.pageAt off = some (p, o)) (hm : p.kind ≠ .mirror) (hd : p.kind ≠ .pageDirectory) (ho : o < 0x800)
    (hh : highWord p.kind o = false) :
    exec (.registerWrite .host off 4 v) s = s.writeReg .host p p off v o 0 32 (v % 2 ^ 32) := by
  have he : exec (.registerWrite .host off 4 v) s = execRegisterWrite .host off 4 v s := rfl
  rw [he]
  simp only [execRegisterWrite, State.onBus, hb, Bool.not_true, Bool.and_false, Bool.false_eq_true, if_false]
  exact s.writeBar_word .host off v p o h4 hp hm hd (inWindow_low p ho) hh

/-- A live or staged field of a 32-bit register whose writes nothing but LOCK refuses (R5, R35 to R37). -/
def openField (f : Fld) : Bool :=
  ((fieldInfo f).kind == .live || (fieldInfo f).kind == .frame) && (fieldInfo f).acc != .ro && decide (0 < (fieldInfo f).width) &&
    decide ((fieldInfo f).lo + (fieldInfo f).width ≤ 32) && !armatureOwned f && f != .RUN && f != .MBX_GO

/-- What a 32-bit write leaves that touches at most one field, an open one of a page that is not locked or whose LOCK leaves it open: an RW field that keeps its value, or no 1 for any other field, changes nothing (R389). -/
theorem State.writeReg_field (s : State) (a : Agent) (hp q : Page) (bar word o w : Nat) (f : Fld) (pre post : List (Fld × Nat))
    (hf : fieldsAt q.kind o = pre ++ (f, 0) :: post) (hx : ∀ x ∈ pre ++ post, s.touchOne hp q 0 32 w x = none)
    (ho : openField f = true) (hk : s.keyAt q f 0 = some ⟨q, f, 0⟩) (hu : undefinedValue f (wordField f w) = false)
    (hl : s.flag hp .LOCKED = false ∨ lockable f = false) :
    s.writeReg a hp q bar word o 0 32 w =
      .next (if wordField f w = (if (fieldInfo f).acc = .rw then s.heldValue hp ⟨q, f, 0⟩ else 0) then s
        else s.applyField hp ⟨q, f, 0⟩ (wordField f w) (wordField f w)) := by
  simp only [openField, Bool.and_eq_true, Bool.or_eq_true, beq_iff_eq, bne_iff_ne, decide_eq_true_eq, Bool.not_eq_true'] at ho
  obtain ⟨⟨⟨⟨⟨⟨hkind, hacc⟩, hw⟩, hhi⟩, harm⟩, hrun⟩, hgo⟩ := ho
  have hnone : ∀ l ⊆ pre ++ post, l.filterMap (s.touchOne hp q 0 32 w) = [] :=
    fun l hl => List.filterMap_eq_nil_iff.2 fun x h => hx x (hl h)
  have ht : s.touched hp q o 0 32 w = (s.touchOne hp q 0 32 w (f, 0)).toList := by
    rw [State.touched_eq, hf, List.filterMap_append, hnone pre (List.subset_append_left ..), List.nil_append, List.filterMap_cons,
      hnone post (List.subset_append_right ..)]
    cases s.touchOne hp q 0 32 w (f, 0) <;> rfl
  rw [s.touchOne_word hp q w f hk hacc hw hhi] at ht
  by_cases h : wordField f w = (if (fieldInfo f).acc = .rw then s.heldValue hp ⟨q, f, 0⟩ else 0)
  · rw [if_pos h] at ht ⊢
    exact s.writeReg_none a hp q bar word o 0 32 w ht
  · rw [if_neg h] at ht ⊢
    exact s.writeReg_one a hp q bar word o 0 32 w _ ht (s.refusalOf_free a hp _ _ hkind hl harm (.inl hrun) hu) hgo

/-! ### The registers of the statement -/

section Head

variable {s : State} {off : Nat} {p : Page} (hb : s.barUp = true) (h4 : off % 4 = 0) (hm : p.kind ≠ .mirror) (hd : p.kind ≠ .pageDirectory)
include hb h4 hm hd

/-- EVT_EN is live and takes the word written (R31, R389). -/
theorem registerWrite_evtEn (v : Nat) (hp : s.pageAt off = some (p, 0x014)) (hv : v < 2 ^ 32) :
    exec (.registerWrite .host off 4 v) s = .next (if v = s.get p .EVT_EN % 2 ^ 32 then s else s.put p .EVT_EN v) := by
  have hh := State.headed_of_pageAt hp hd
  obtain ⟨-, h14, -, -⟩ := highWord_head _ hh
  have hw : wordField .EVT_EN v = v := by simpa [wordField, bits, fieldInfo] using hv
  rw [execRegisterWrite_word s off v p _ hb h4 hp hm hd (by decide) h14, Nat.mod_eq_of_lt hv,
    s.writeReg_field .host p p off v _ v .EVT_EN [] [] (fieldsAt_evtEn _ hh) (by simp) rfl rfl rfl (.inr rfl), hw]
  rfl

/-- EVT loses exactly the bits written 1 (R3, R31). -/
theorem registerWrite_evt (v : Nat) (hp : s.pageAt off = some (p, 0x010)) (hv : v < 2 ^ 32) :
    exec (.registerWrite .host off 4 v) s =
      .next (if v = 0 then s else s.put p .EVT (s.get p .EVT - (s.get p .EVT &&& v))) := by
  have hh := State.headed_of_pageAt hp hd
  obtain ⟨h10, -, -, -⟩ := highWord_head _ hh
  have hw : wordField .EVT v = v := by simpa [wordField, bits, fieldInfo] using hv
  rw [execRegisterWrite_word s off v p _ hb h4 hp hm hd (by decide) h10, Nat.mod_eq_of_lt hv,
    s.writeReg_field .host p p off v _ v .EVT [] [] (fieldsAt_evt _ hh) (by simp) rfl rfl rfl (.inr rfl), hw]
  rfl

/-- A 1 at ERR_CAP.VALID clears it; the captured code and frame are read-only (R31). -/
theorem registerWrite_errCap (v : Nat) (hp : s.pageAt off = some (p, 0x018)) (hv : v < 2 ^ 32) :
    exec (.registerWrite .host off 4 v) s =
      .next (if bitAt v 31 then s.put p .CAP_VALID (s.get p .CAP_VALID - (s.get p .CAP_VALID &&& 1)) else s) := by
  have hh := State.headed_of_pageAt hp hd
  obtain ⟨-, -, h18, -⟩ := highWord_head _ hh
  have hro : ∀ x ∈ [(Fld.CAP_CODE, 0), (Fld.CAP_FRAME_LO, 0)] ++ [], s.touchOne p p 0 32 v x = none := by
    simp only [List.append_nil, List.forall_mem_cons, List.not_mem_nil, false_implies, implies_true, and_true]
    exact ⟨s.touchOne_ro p p 0 32 v _ rfl, s.touchOne_ro p p 0 32 v _ rfl⟩
  have hw : wordField .CAP_VALID v = b2n (bitAt v 31) := bits_one v 31
  rw [execRegisterWrite_word s off v p _ hb h4 hp hm hd (by decide) h18, Nat.mod_eq_of_lt hv,
    s.writeReg_field .host p p off v _ v .CAP_VALID _ [] (fieldsAt_errCap _ hh) hro rfl rfl rfl (.inr rfl), hw]
  cases bitAt v 31 <;> rfl

/-- LOCK: a 0 changes nothing, a 1 at LOCKED discards the open set and locks the page (R38). -/
theorem registerWrite_lock (l : Bool) (hp : s.pageAt off = some (p, 0x028)) :
    exec (.registerWrite .host off 4 (b2n l)) s =
      .next (if l then (s.setStaging p { s.stagingOf p with openSet := [] }).put p .LOCKED 1 else s) := by
  have hh := State.headed_of_pageAt hp hd
  obtain ⟨-, -, -, h28⟩ := highWord_head _ hh
  have hmod : b2n l % 2 ^ 32 = b2n l := by cases l <;> rfl
  have hunlock : ∀ x ∈ [] ++ [(Fld.UNLOCK, 0)], s.touchOne p p 0 32 (b2n l) x = none := by
    simp only [List.nil_append, List.forall_mem_singleton]
    exact s.touchOne_noOnes p p _ .UNLOCK rfl (by decide) (by decide) (by decide) (by cases l <;> rfl)
  have hw : wordField .LOCKED (b2n l) = b2n l := by cases l <;> rfl
  rw [execRegisterWrite_word s off _ p _ hb h4 hp hm hd (by decide) h28, hmod,
    s.writeReg_field .host p p off _ _ _ .LOCKED [] _ (fieldsAt_lock _ hh) hunlock rfl rfl rfl (.inr rfl), hw]
  cases l <;> rfl

end Head

/-- HOST_BUDGET of a regulator page is staged (R32). -/
theorem registerWrite_hostBudget (s : State) (b : Bed) (v : Nat) (hb : s.barUp = true) (hl : s.flag (pgReg b.val) .LOCKED = false)
    (hv : v < 2 ^ 24) :
    exec (.registerWrite .host (0x2002040 + 0x100000 * b.val) 4 v) s =
      .next (if v = s.heldValue (pgReg b.val) ⟨pgReg b.val, .HOST_BUDGET, 0⟩ then s
        else s.stage (pgReg b.val) ⟨pgReg b.val, .HOST_BUDGET, 0⟩ v) := by
  have hp : s.pageAt (0x2002040 + 0x100000 * b.val) = some (pgReg b.val, 0x40) := by
    rw [← s.pageAt_regulators b (o := 0x40) (by decide)]; congr 1; omega
  have hw : wordField .HOST_BUDGET v = v := by simpa [wordField, bits, fieldInfo] using hv
  rw [execRegisterWrite_word s _ v (pgReg b.val) 0x40 hb (by omega) hp (by simp [pgReg]) (by simp [pgReg]) (by decide)
      (show highWord .regulators 0x40 = false by decide), Nat.mod_eq_of_lt (by omega),
    s.writeReg_field .host (pgReg b.val) (pgReg b.val) _ v _ v .HOST_BUDGET [] []
      (show fieldsAt .regulators 0x40 = _ by decide) (by simp) rfl rfl rfl (.inl hl), hw]
  rfl

/-! ### STAGING_SET_FLUSH (R33, R310) -/

/-- STAGING_SET_FLUSH of a page flushes its due sets; of the power page, where no bed runs, the clock plan is then in force. -/
theorem stagingSetFlush_eq (s : State) (p : Page) :
    exec (.stagingSetFlush p) s =
      .next (if p.kind = .powerMgmt ∧ s.lowestRunning = none then (s.flushPage p).takePlan.setClock else s.flushPage p) := by
  have he : exec (.stagingSetFlush p) s = execStagingSetFlush p s := rfl
  simp [he, execStagingSetFlush]

/-! ### The core window (R39) -/

/-- An aligned access of 4 or 8 bytes has a form that R25 accepts. -/
theorem badAccess_aligned {off size : Nat} (hs : size = 4 ∨ size = 8) (ha : off % size = 0) : badAccess off size = false := by
  rcases hs with rfl | rfl <;> simp [badAccess, ha]

/-- The BAR0 offset of a byte of a core window page (R28). -/
theorem pageBase_coreWindow (b off : Nat) : pageBase ⟨.coreWindow, b⟩ + off = 0x10FF000 + 0x100000 * b + off := by
  simp only [pageBase]; omega

/-- The offsets from 0x800 on of a core window page are the window (R39). -/
theorem inWindow_coreWindow (b : Nat) {o : Nat} (h : 0x800 ≤ o) : inWindow ⟨.coreWindow, b⟩ o = true := by
  simp [inWindow, h]

/-- A window shows core subpages only (R39). -/
theorem State.windowPage_kind {s : State} {b : Nat} {q : Page} (h : s.windowPage b = some q) :
    q.kind ∈ [PageKind.coreSub0, .coreSub1, .coreSub2, .coreSub3] := by
  unfold State.windowPage at h
  dsimp only at h
  split_ifs at h <;> cases h <;> simp [pgCore]

section Window

variable {s : State} {b : Bed} {off size : Nat} (hb : s.barUp = true) (hlo : 0x800 ≤ off) (hhi : off < 0x1000)
include hb hlo hhi

/-- CORE_WINDOW_ACCESS that reads, of good form, is the read of BAR0 at its offset. -/
theorem coreWindowAccess_read (hs : size = 4 ∨ size = 8) (ha : off % size = 0) :
    exec (.coreWindowAccess b off size none) s =
      .next ((s.readBar (0x10FF000 + 0x100000 * b.val + off) size).1.answer (s.readBar (0x10FF000 + 0x100000 * b.val + off) size).2) := by
  have he : exec (.coreWindowAccess b off size none) s = execCoreWindowAccess b off size none s := rfl
  have hbad : badAccess (0x10FF000 + 0x100000 * b.val + off) size = false :=
    badAccess_aligned hs (by rcases hs with rfl | rfl <;> omega)
  rw [he, execCoreWindowAccess, if_neg (by omega), pageBase_coreWindow]
  simp [State.onBar, hb, hbad]

/-- CORE_WINDOW_ACCESS that writes is the write of BAR0 at its offset. -/
theorem coreWindowAccess_write (v : Nat) :
    exec (.coreWindowAccess b off size (some v)) s = s.writeBar .host (0x10FF000 + 0x100000 * b.val + off) size v := by
  have he : exec (.coreWindowAccess b off size (some v)) s = execCoreWindowAccess b off size (some v) s := rfl
  rw [he, execCoreWindowAccess, if_neg (by omega), pageBase_coreWindow]
  simp [State.onBus, hb]

/-- A read while BAD_SEL is 1 answers 0 and leaves one record (R39). -/
theorem coreWindowAccess_read_badSel (hs : size = 4 ∨ size = 8) (ha : off % size = 0) (hw : s.windowPage b.val = none) :
    exec (.coreWindowAccess b off size none) s =
      .next ((s.badOffset ⟨.coreWindow, b.val⟩ (0x10FF000 + 0x100000 * b.val + off) size).answer 0) := by
  rw [coreWindowAccess_read hb hlo hhi hs ha]
  simp [State.readBar, s.pageAt_coreWindow b hhi, inWindow_coreWindow _ hlo, hw]

/-- A write while BAD_SEL is 1 is discarded with one record (R39). -/
theorem coreWindowAccess_write_badSel (hs : size = 4 ∨ size = 8) (ha : off % size = 0) (hw : s.windowPage b.val = none) (v : Nat) :
    exec (.coreWindowAccess b off size (some v)) s =
      .next (s.badOffset ⟨.coreWindow, b.val⟩ (0x10FF000 + 0x100000 * b.val + off) size) := by
  have hbad : badAccess (0x10FF000 + 0x100000 * b.val + off) size = false :=
    badAccess_aligned hs (by rcases hs with rfl | rfl <;> omega)
  rw [coreWindowAccess_write hb hlo hhi v]
  simp [State.writeBar, hbad, s.pageAt_coreWindow b hhi, inWindow_coreWindow _ hlo, hw]

/-- A word read through the window shows the selected core's register, where it is neither wide nor a high word (R27, R39). -/
theorem coreWindowAccess_readWord {q : Page} (ha : off % 4 = 0) (hw : s.windowPage b.val = some q)
    (hh : highWord q.kind (off - 0x800) = false) (hwide : wideAt q.kind (off - 0x800) = false) :
    exec (.coreWindowAccess b off 4 none) s = .next (s.answer (s.regValue q (off - 0x800) % 2 ^ 32)) := by
  have hk := State.windowPage_kind hw
  have hdir : q.kind ≠ .pageDirectory := by rintro h; simp [h] at hk
  have hrec : q ≠ pgRec := by rintro rfl; simp [pgRec] at hk
  have hpow : q ≠ pgPower := by rintro rfl; simp [pgPower] at hk
  rw [coreWindowAccess_read hb hlo hhi (.inl rfl) ha]
  simp [State.readBar, s.pageAt_coreWindow b hhi, inWindow_coreWindow _ hlo, hw, State.readSize, State.readPage, hdir, hrec, hpow,
    State.readWord, hh, hwide]

end Window

/-- A core's FLAGS lose exactly the bits written 1 through the window, under the window page's LOCK (R37, R132). -/
theorem coreWindowAccess_flags {s : State} {b : Bed} {q : Page} (v : Nat) (hb : s.barUp = true) (hw : s.windowPage b.val = some q)
    (hq : q.kind = .coreSub0) (hl : s.flag ⟨.coreWindow, b.val⟩ .LOCKED = false) (hv : v < 16) :
    exec (.coreWindowAccess b 0x800 4 (some v)) s =
      .next (if v = 0 then s else s.put q .CORE_FLAGS (s.get q .CORE_FLAGS - (s.get q .CORE_FLAGS &&& v))) := by
  have hbad : badAccess (0x10FF000 + 0x100000 * b.val + 0x800) 4 = false := badAccess_aligned (.inl rfl) (by omega)
  have hfields : fieldsAt q.kind 0 =
      [] ++ (.CORE_FLAGS, 0) :: [(.NF_CAPT, 0), (.SLIP_SEEN, 0), (.CORE_ABANDONED, 0), (.CTX_ACTIVE, 0), (.SLOT_BUSY, 0)] := by
    rw [hq]; decide
  have hhigh : highWord q.kind 0 = false := by rw [hq]; decide
  have hother : ∀ x ∈ [] ++ [(Fld.NF_CAPT, 0), (.SLIP_SEEN, 0), (.CORE_ABANDONED, 0), (.CTX_ACTIVE, 0), (.SLOT_BUSY, 0)],
      s.touchOne ⟨.coreWindow, b.val⟩ q 0 32 v x = none := by
    have h5 : wordField .SLIP_SEEN v = 0 := by simp [wordField, bits, fieldInfo, Nat.div_eq_of_lt (show v < 32 by omega)]
    have h6 : wordField .CORE_ABANDONED v = 0 := by simp [wordField, bits, fieldInfo, Nat.div_eq_of_lt (show v < 64 by omega)]
    simp only [List.nil_append, List.forall_mem_cons, List.not_mem_nil, false_implies, implies_true, and_true]
    exact ⟨s.touchOne_ro _ q 0 32 v _ rfl,
      s.touchOne_noOnes _ q v .SLIP_SEEN rfl (by decide) (by decide) (by decide) h5,
      s.touchOne_noOnes _ q v .CORE_ABANDONED rfl (by decide) (by decide) (by decide) h6,
      s.touchOne_ro _ q 0 32 v _ rfl, s.touchOne_ro _ q 0 32 v _ rfl⟩
  have hflags : wordField .CORE_FLAGS v = v := by simpa [wordField, bits, fieldInfo] using hv
  have hreg := s.writeReg_field .host ⟨.coreWindow, b.val⟩ q (0x10FF000 + 0x100000 * b.val + 0x800) v 0 v .CORE_FLAGS [] _ hfields hother
    rfl rfl rfl (.inl hl)
  rw [hflags] at hreg
  rw [coreWindowAccess_write hb (by decide) (by decide) v]
  simp only [State.writeBar, hbad, s.pageAt_coreWindow b (o := 0x800) (by decide), inWindow_coreWindow _ (le_refl 0x800), hw,
    State.writePage, State.writeWord, hhigh, Nat.mod_eq_of_lt (show v < 2 ^ 32 by omega), Nat.sub_self, Bool.false_eq_true, if_false,
    if_true, reduceCtorEq, hreg]
  rfl

/-- Settles O10: each clause is the rule of its register or of its kind of window access. -/
theorem fieldWritesFlushAndWindow : Obligations.FieldWritesFlushAndWindow := by
  refine ⟨⟨?evtEn, ?unchanged, ?hostBudget, ?evt, ?errCap, ?coreFlags, ?lock⟩, ?flush, ?flushPower, ?badSel, ?window⟩
  case evtEn =>
    intro off v p s hb h4 hp hm hd hv hne
    rw [registerWrite_evtEn hb h4 hm hd v hp hv, if_neg hne]
  case unchanged =>
    intro off p s hb h4 hp hm hd
    rw [registerWrite_evtEn hb h4 hm hd _ hp (Nat.mod_lt _ (by decide)), if_pos rfl]
  case hostBudget =>
    intro b v s hb hl hv hne
    rw [registerWrite_hostBudget s b v hb hl hv, if_neg hne]
  case evt =>
    intro off v p s hb h4 hp hm hd hv _
    exact registerWrite_evt hb h4 hm hd v hp hv
  case errCap =>
    intro off v p s hb h4 hp hm hd hv _
    exact registerWrite_errCap hb h4 hm hd v hp hv
  case coreFlags =>
    intro b v q s hb hw hq hl hv
    exact coreWindowAccess_flags v hb hw hq hl hv
  case lock =>
    intro off p s hb h4 hp hm hd _
    exact ⟨registerWrite_lock hb h4 hm hd false hp, registerWrite_lock hb h4 hm hd true hp⟩
  case flush =>
    intro p s hp
    rw [stagingSetFlush_eq, if_neg fun h => hp h.1]
    rfl
  case flushPower =>
    intro s hs
    rw [stagingSetFlush_eq, if_pos ⟨rfl, hs⟩]
  case badSel =>
    intro b off size s hb hlo hhi hs ha hw
    exact ⟨coreWindowAccess_read_badSel hb hlo hhi hs ha hw, coreWindowAccess_write_badSel hb hlo hhi hs ha hw⟩
  case window =>
    intro b off q s hb hlo hhi ha hw hh hwide
    exact coreWindowAccess_readWord hb hlo hhi ha hw hh hwide

end Sys2Proof.Machine
end

section
/-! PROOFS. Refutes ConfigurationWrites (O12): its clause on LAYER_ST asks that the layer precision page's block does not run, which does not keep an armature from running on the partition. -/

namespace Sys2Proof.Machine

/-- An armature runs on bed 0 while CTL.RUN has stopped the block of bed 0's layer precision page (R31, log 18). -/
def layerPageHalted : State :=
  ((({ State.reset with pw := { State.reset.pw with power := .run } }.put pgPcie .BOOT_DONE 1).put (pgBed 0) .SEQ_STATE seqRunning).put
    (pgBed 0) .RUN 1).halt (pgLayer 0)

/-- STS.STATE_ERR of a page in the state that a command leaves. -/
def stateErrAfter (p : Page) : Host.Outcome State Fault Refusal → Option Nat
  | .next s => some (s.get p .STATE_ERR)
  | .fault _ => none
  | .refused _ => none

/-- The halted page's block does not run, though an armature does: this is what the statement's premise leaves open. -/
theorem layerPageHalted_runs : layerPageHalted.running (pgLayer 0) = false ∧ layerPageHalted.armatureRuns (pgLayer 0) = true := by
  decide

/-- The model refuses the host's write of the armature-owned field: STATE_ERR is set (R36, R389). -/
theorem layerStateWrite_layerPageHalted : stateErrAfter (pgLayer 0) (exec (.layerStateWrite 0 1) layerPageHalted) = some 1 := by
  decide

/-- Refutes O12: on `layerPageHalted` every premise of the clause on LAYER_ST holds, and a write of STATE 1 of the selected layer is refused with STATE_ERR, where the clause has STATE written and STATE_ERR as it was. -/
theorem not_configurationWrites : ¬ Obligations.ConfigurationWrites := by
  rintro ⟨-, -, -, -, layerState, -⟩
  have h := layerState 0 1 layerPageHalted (by decide) (by decide) (by decide) (by decide) (by decide) layerPageHalted_runs.1 (by decide)
  have herr := layerStateWrite_layerPageHalted
  rw [h] at herr
  exact absurd herr (by decide)

end Sys2Proof.Machine
end

section
/-! PROOFS. What every step keeps of the staging sets (R32, R34) and of the partition count (R16): the relation Keeps, and its rules for the plain updates of registers and staging. -/

namespace Sys2Proof.Machine

/-- Legal staging of a state is legal in the later one, and so is its partition count. -/
structure Keeps (s t : State) : Prop where
  staging : s.stagingLegal → t.stagingLegal
  parts : s.partsLegal → t.partsLegal

/-- An outcome's next state, if it has one, keeps what the state before had. -/
def KeepsNext (s : State) : Host.Outcome State Fault Refusal → Prop
  | .next t => Keeps s t
  | .fault _ => True
  | .refused _ => True

variable {s t u : State}

theorem Keeps.refl (s : State) : Keeps s s := ⟨id, id⟩

theorem Keeps.next (h : Keeps s t) : KeepsNext s (.next t) := h

theorem KeepsNext.fault {r : Fault} : KeepsNext s (.fault r) := trivial

theorem KeepsNext.refused {r : Refusal} : KeepsNext s (.refused r) := trivial

theorem Keeps.ite {c : Prop} {_ : Decidable c} (ht : Keeps s t) (hu : Keeps s u) : Keeps s (if c then t else u) := by
  split
  · exact ht
  · exact hu

theorem KeepsNext.ite {c : Prop} {_ : Decidable c} {x y : Host.Outcome State Fault Refusal} (hx : KeepsNext s x) (hy : KeepsNext s y) :
    KeepsNext s (if c then x else y) := by
  split
  · exact hx
  · exact hy

/-- The next state of an outcome that keeps the forms. -/
theorem KeepsNext.out {x : Host.Outcome State Fault Refusal} (h : KeepsNext s x) (he : x = .next t) : Keeps s t := by
  subst he
  exact h

/-- The state of an operation that gives it with something more. -/
theorem Keeps.of_fst {α : Type} {x : State × α} {a : α} (h : Keeps s x.1) (he : x = (t, a)) : Keeps s t := by
  subst he
  exact h

/-- A fold of an operation that keeps the forms keeps them. -/
theorem Keeps.foldl {α : Type} {f : State → α → State} {l : List α} (h : Keeps s t) (hf : ∀ u a, Keeps s u → Keeps s (f u a)) :
    Keeps s (l.foldl f t) :=
  List.foldlRecOn l f h fun u hu a _ => hf u a hu

/-- The same of an operation that keeps the forms for the members of the list. -/
theorem Keeps.foldl_mem {α : Type} {f : State → α → State} {l : List α} (h : Keeps s t)
    (hf : ∀ u, ∀ a ∈ l, Keeps s u → Keeps s (f u a)) :
    Keeps s (l.foldl f t) :=
  List.foldlRecOn l f h fun u hu a ha => hf u a ha hu

/-- The same of a fold that carries a value beside the state. -/
theorem Keeps.foldlPair {α γ : Type} {f : State × γ → α → State × γ} {l : List α} {c : γ} (h : Keeps s t)
    (hf : ∀ y a, Keeps s y.1 → Keeps s (f y a).1) : Keeps s (l.foldl f (t, c)).1 :=
  List.foldlRecOn (motive := fun y => Keeps s y.1) l f h fun y hy a _ => hf y a hy

/-- Any state with the registers and the staging of one that keeps the forms keeps them; the fields stand one by one,
so that an update of any of the others is a case of it. -/
theorem Keeps.frame (h : Keeps s t)
    {pending free out latches coarse directory stops halted once time pw beds parts arms cores mem upd fab red noise evr sec host isl tap} :
    Keeps s ⟨pending, free, out, t.regs, latches, coarse, t.staging, directory, stops, halted, once, time, pw, beds, parts, arms, cores,
      mem, upd, fab, red, noise, evr, sec, host, isl, tap⟩ := ⟨h.staging, h.parts⟩

/-! ### Registers: a value is cut to its field's width, so that no write makes PART_LOG2 more than 3 -/

/-- A write of any field leaves a legal partition count: PART_LOG2 has two bits (R19). -/
theorem State.put_partsLegal (p : Page) (f : Fld) (v i : Nat) (h : s.partsLegal) : (s.put p f v i).partsLegal := by
  unfold State.partsLegal State.get State.put
  rw [Tab.get_put]
  split
  case isTrue hk =>
    obtain rfl : Fld.PART_LOG2 = f := congrArg FieldKey.fld hk
    exact Nat.mod_lt _ (by decide)
  case isFalse => exact h

/-- Registers put back at their reset values leave a legal partition count: PART_LOG2's is 0. -/
theorem State.delRegs_partsLegal (f : FieldKey → Bool) (h : t.partsLegal) : State.partsLegal { t with regs := t.regs.delIf f } := by
  unfold State.partsLegal State.get Tab.get at h ⊢
  rw [Tab.find?_delIf]
  split
  · decide
  · exact h

theorem Keeps.put (h : Keeps s t) {p : Page} {f : Fld} {v i : Nat} : Keeps s (t.put p f v i) where
  staging := h.staging
  parts hl := State.put_partsLegal p f v i (h.parts hl)

/-- Registers put back at their reset values, whatever else but the staging changes. -/
theorem Keeps.delRegs (h : Keeps s t) {f : FieldKey → Bool}
    {pending free out latches coarse directory stops halted once time pw beds parts arms cores mem upd fab red noise evr sec host isl tap} :
    Keeps s ⟨pending, free, out, t.regs.delIf f, latches, coarse, t.staging, directory, stops, halted, once, time, pw, beds, parts, arms,
      cores, mem, upd, fab, red, noise, evr, sec, host, isl, tap⟩ where
  staging := h.staging
  parts hl := State.delRegs_partsLegal f (h.parts hl)

/-- What a sparse table reads at a key stands in it. -/
theorem Tab.mem_of_find? {κ α : Type} [DecidableEq κ] {t : Tab κ α} {k : κ} {v : α} (h : t.find? k = some v) : (k, v) ∈ t := by
  induction t with
  | nil => cases h
  | cons e t ih =>
    obtain ⟨k', v'⟩ := e
    unfold Tab.find? at h
    split at h
    case isTrue hk =>
      cases h
      exact hk ▸ List.mem_cons_self
    case isFalse => exact List.mem_cons_of_mem _ (ih h)

/-- What a sparse table does not list is listed by what is appended to it, if at all. -/
theorem Tab.find?_append {κ α : Type} [DecidableEq κ] (a b : Tab κ α) (k : κ) :
    Tab.find? (a ++ b) k = (Tab.find? a k).or (Tab.find? b k) := by
  induction a with
  | nil => rfl
  | cons e a ih =>
    obtain ⟨k', v⟩ := e
    by_cases hk : k' = k <;> simp [Tab.find?, hk, ih]

/-- Registers listed again leave a legal partition count where PART_LOG2 is none of them. -/
theorem Keeps.addRegs (h : Keeps s t) {l : Tab FieldKey Nat} (hl : ∀ e ∈ l, e.1.fld ≠ .PART_LOG2) :
    Keeps s { t with regs := t.regs ++ l } where
  staging := h.staging
  parts hp := by
    have hn : Tab.find? l ⟨pgGlobals, .PART_LOG2, 0⟩ = none := by
      cases hf : Tab.find? l ⟨pgGlobals, .PART_LOG2, 0⟩ with
      | none => rfl
      | some v => exact absurd rfl (hl _ (Tab.mem_of_find? hf))
    have ht := h.parts hp
    unfold State.partsLegal State.get Tab.get at ht ⊢
    rwa [Tab.find?_append, hn, Option.or_none]

/-! ### Staging: one entry per page, each with values of that page's frame-committed fields -/

/-- Each staged value of a page's sets is one of a frame-committed field of that page (R32). -/
def stagedLegal (p : Page) (x : Staging) : Prop :=
  ∀ e ∈ x.openSet ++ x.waiting.flatMap (·.1), e.1.page = p ∧ (fieldInfo e.1.fld).kind = .frame

section Tables
variable {κ α : Type} [DecidableEq κ]

/-- An entry of a table after a write is the one written or was there before. -/
theorem Tab.mem_put {t : Tab κ α} {k : κ} {v : α} {e : κ × α} (h : e ∈ t.put k v) : e = (k, v) ∨ e ∈ t := by
  induction t with
  | nil => exact .inl (List.mem_singleton.mp h)
  | cons x t ih =>
    obtain ⟨k', v'⟩ := x
    unfold Tab.put at h
    split at h
    · exact (List.mem_cons.mp h).imp_right (List.mem_cons_of_mem _)
    · rcases List.mem_cons.mp h with rfl | h
      · exact .inr List.mem_cons_self
      · exact (ih h).imp_right (List.mem_cons_of_mem _)

/-- A write to a table with one entry per key leaves one entry per key. -/
theorem Tab.nodup_put {t : Tab κ α} (k : κ) (v : α) (h : (t.map (·.1)).Nodup) : ((t.put k v).map (·.1)).Nodup := by
  induction t with
  | nil => exact List.nodup_singleton k
  | cons x t ih =>
    obtain ⟨k', v'⟩ := x
    obtain ⟨hx, ht⟩ := List.nodup_cons.mp h
    unfold Tab.put
    split
    case isTrue hk => exact hk ▸ h
    case isFalse hk =>
      refine List.nodup_cons.mpr ⟨fun hm => ?_, ih ht⟩
      obtain ⟨e, he, rfl⟩ := List.mem_map.mp hm
      rcases Tab.mem_put he with rfl | he
      · exact hk rfl
      · exact hx (List.mem_map.mpr ⟨e, he, rfl⟩)

end Tables

/-- A page's sets are legal where the staging is. -/
theorem State.stagingLegal.of (h : s.stagingLegal) (p : Page) : stagedLegal p (s.stagingOf p) := by
  unfold State.stagingOf Tab.get
  cases hf : Tab.find? s.staging p with
  | none => intro e he; cases he
  | some x => exact h.2 (p, x) (Tab.mem_of_find? hf)

/-- A page's sets that are legal where they were legal before. -/
theorem Keeps.setStaging (h : Keeps s t) {p : Page} {x : Staging} (hx : stagedLegal p (t.stagingOf p) → stagedLegal p x) :
    Keeps s (t.setStaging p x) where
  staging hl := by
    obtain ⟨hn, hm⟩ := h.staging hl
    refine ⟨Tab.nodup_put p x hn, fun e he => ?_⟩
    rcases Tab.mem_put he with rfl | he
    · exact hx (State.stagingLegal.of ⟨hn, hm⟩ p)
    · exact hm e he
  parts := h.parts

/-- Sets whose values all stood in legal ones are legal. -/
theorem stagedLegal.mono {p : Page} {x y : Staging} (h : stagedLegal p x) (ho : y.openSet ⊆ x.openSet)
    (hw : y.waiting.flatMap (·.1) ⊆ x.waiting.flatMap (·.1)) : stagedLegal p y := fun e he =>
  h e (List.mem_append.mpr ((List.mem_append.mp he).imp (@ho e) (@hw e)))

/-- A tick's aging of the waiting sets changes none of their values (R34). -/
theorem flatMap_ageSets (l : List (List (FieldKey × Nat) × Nat)) : (ageSets l).flatMap (·.1) = l.flatMap (·.1) :=
  List.flatMap_map ..

/-- Pages' sets dropped from the staging (R107). -/
theorem Keeps.delStaging (h : Keeps s t) {f : Page → Bool} : Keeps s { t with staging := t.staging.delIf f } where
  staging hl := by
    obtain ⟨hn, hm⟩ := h.staging hl
    exact ⟨hn.sublist (List.filter_sublist.map _), fun e he => hm e (List.mem_of_mem_filter he)⟩
  parts := h.parts

/-- No staging at all, as reset leaves it. -/
theorem Keeps.noStaging (h : Keeps s t) : Keeps s { t with staging := [] } where
  staging _ := ⟨List.nodup_nil, fun _ he => nomatch he⟩
  parts := h.parts

/-- A value staged for a frame-committed field of the page (R32). -/
theorem Keeps.stage (h : Keeps s t) {p : Page} {k : FieldKey} {v : Nat} (hp : k.page = p) (hk : (fieldInfo k.fld).kind = .frame) :
    Keeps s (t.stage p k v) := by
  refine h.setStaging fun hx e he => ?_
  rcases List.mem_append.mp he with he | he
  · rcases List.mem_append.mp he with he | he
    · exact hx e (List.mem_append_left _ (List.mem_of_mem_filter he))
    · obtain rfl := List.mem_singleton.mp he
      exact ⟨hp, hk⟩
  · exact hx e (List.mem_append_right _ he)

/-- ABORT only drops staged values (R31). -/
theorem Keeps.doAbort (h : Keeps s t) {p : Page} : Keeps s (t.doAbort p) :=
  h.setStaging fun hx => hx.mono (List.nil_subset _) (List.Subset.refl _)

/-- Sets that fall due hold what they held (R33). -/
theorem Keeps.dueSets (h : Keeps s t) {b : Nat} : Keeps s (t.dueSets b) where
  staging hl := by
    obtain ⟨hn, hm⟩ := h.staging hl
    constructor
    · have hkeys : (t.dueSets b).staging.map (·.1) = t.staging.map (·.1) := by
        simp only [State.dueSets, List.map_map]
        exact List.map_congr_left fun e _ => by dsimp only [Function.comp]; split <;> rfl
      exact hkeys ▸ hn
    · intro e he
      obtain ⟨e', he', rfl⟩ := List.mem_map.mp he
      split
      · exact hm e' he'
      · exact hm e' he'
  parts := h.parts

end Sys2Proof.Machine
end

section
/-! PROOFS. Every operation of the model keeps the staging legal and the partition count one of R16 (`Keeps`): the state's operations, device memory and the cores. -/

namespace Sys2Proof.Machine

variable {s t : State}

/-! ### Records, events, counters and the registers' read and write side (R31 to R37) -/

theorem Keeps.bump (h : Keeps s t) {p : Page} {f : Fld} {n i : Nat} : Keeps s (t.bump p f n i) := h.put

theorem Keeps.resetFields (h : Keeps s t) {p : Page} {fs : List Fld} : Keeps s (t.resetFields p fs) := h.delRegs

theorem Keeps.setBed (h : Keeps s t) {b : Nat} {x : BedSt} : Keeps s (t.setBed b x) := h.frame

theorem Keeps.setPart (h : Keeps s t) {p : Nat} {x : PartSt} : Keeps s (t.setPart p x) := h.frame

theorem Keeps.setSession (h : Keeps s t) {p : Nat} {x : Session} : Keeps s (t.setSession p x) := h.frame

theorem Keeps.enqueue (h : Keeps s t) {r : Record} : Keeps s (t.enqueue r) := .ite h.put.frame h.put.frame

theorem Keeps.capture (h : Keeps s t) {code : Nat} {p : Page} {frame : Nat} : Keeps s (t.capture code p frame) := .ite h h.put.put.put

theorem Keeps.queueGeneral (h : Keeps s t) {r : Record} : Keeps s (t.queueGeneral r) := .ite h.enqueue h.frame.bump.put

theorem Keeps.postGeneral (h : Keeps s t) {r : Record} : Keeps s (t.postGeneral r) :=
  .ite h.frame.bump (.ite h.frame.queueGeneral h.queueGeneral)

theorem Keeps.postProtected (h : Keeps s t) {r : Record} : Keeps s (t.postProtected r) := .ite h.enqueue (.ite h.bump h.frame)

theorem Keeps.recordAt (h : Keeps s t) {code : Nat} {p : Page} {payload : List Byte} {frame : Nat} :
    Keeps s (t.recordAt code p payload frame) :=
  .ite (Keeps.ite h.postProtected h.postGeneral).capture h

theorem Keeps.record (h : Keeps s t) {code : Nat} {p : Page} {payload : List Byte} : Keeps s (t.record code p payload) := h.recordAt

theorem Keeps.evt (h : Keeps s t) {p : Page} {bit : Nat} : Keeps s (t.evt p bit) := h.put

theorem Keeps.raise (h : Keeps s t) {p : Page} {bit : Nat} {payload : List Byte} : Keeps s (t.raise p bit payload) := h.evt.record

theorem Keeps.common (h : Keeps s t) {p : Page} {loc : Nat} {payload : List Byte} : Keeps s (t.common p loc payload) := h.record

theorem Keeps.onceDo (h : Keeps s t) {k : Nat × Nat × Nat} {f : State → State}
    (hf : ∀ u, Keeps s u → Keeps s (f u)) :
    Keeps s (t.onceDo k f) :=
  .ite h (hf _ h).frame

theorem Keeps.answer (h : Keeps s t) {d : Nat} {ep : Bool} : Keeps s (t.answer d ep) := h.frame

theorem Keeps.onBar (h : Keeps s t) {f : State → State}
    (hf : ∀ u, Keeps s u → Keeps s (f u)) : Keeps s (t.onBar f) :=
  .ite (hf _ h) h.frame

theorem Keeps.applyOne (h : Keeps s t) {k : FieldKey} {v : Nat} : Keeps s (t.applyOne k v) := by
  unfold State.applyOne
  dsimp only
  split
  · exact .ite h.put.common h.put
  · exact h.put
  · exact .ite h.put h.common
  · exact h.put

theorem Keeps.applySet (h : Keeps s t) {p : Page} {set : List (FieldKey × Nat)} : Keeps s (t.applySet p set) :=
  (h.foldl (fun _ _ h => h.applyOne)).put.put

/-- A page's tick takes the oldest waiting set away or ages the sets (R33, R34). -/
theorem Keeps.tickPage (h : Keeps s t) {p : Page} : Keeps s (t.tickPage p) := by
  unfold State.tickPage
  dsimp only
  split
  next => exact h
  next l hw =>
    apply Keeps.applySet
    refine h.setStaging fun hx => hx.mono (fun _ h => h) ?_
    rw [flatMap_ageSets, hw, List.flatMap_cons]
    exact List.subset_append_right ..
  next =>
    refine h.setStaging fun hx => hx.mono (fun _ h => h) ?_
    rw [flatMap_ageSets]
    exact List.Subset.refl _

/-- The sets that fall due without a tick leave the staging (R33). -/
theorem Keeps.flushPage (h : Keeps s t) {p : Page} : Keeps s (t.flushPage p) := by
  unfold State.flushPage
  refine Keeps.foldl (h.setStaging fun hx => hx.mono (fun _ h => h) ?_) fun _ _ h => h.applySet
  intro e he
  obtain ⟨w, hw, he⟩ := List.mem_flatMap.mp he
  exact List.mem_flatMap.mpr ⟨w, List.mem_of_mem_drop hw, he⟩

theorem Keeps.halt (h : Keeps s t) {p : Page} : Keeps s (t.halt p) := h.frame.put

theorem Keeps.endStops (h : Keeps s t) {b : Nat} : Keeps s (t.endStops b) := h.foldl (fun _ _ h => h.halt)

theorem Keeps.lockedOut (h : Keeps s t) {p : Page} {off value : Nat} : Keeps s (t.lockedOut p off value) := h.put.common

theorem Keeps.hostWriteL (h : Keeps s t) {p : Page} {off value : Nat} {f : State → State}
    (hf : ∀ u, Keeps s u → Keeps s (f u)) :
    Keeps s (t.hostWriteL p off value f) :=
  h.onBar (fun _ h => .ite h.lockedOut (hf _ h))

/-- COMMIT moves the open set behind the waiting ones (R33, R34). -/
theorem Keeps.doCommit (h : Keeps s t) {p : Page} : Keeps s (t.doCommit p) := by
  unfold State.doCommit
  refine .ite h.put.common (h.setStaging fun hx e he => hx e ?_)
  simpa [or_comm] using he

theorem Keeps.doLock (h : Keeps s t) {p : Page} : Keeps s (t.doLock p) := h.doAbort.put

theorem Keeps.doUnlock (h : Keeps s t) {p : Page} : Keeps s (t.doUnlock p) := h.put

theorem Keeps.reply (h : Keeps s t) {st : Nat} {data : List Byte} : Keeps s (t.reply st data) := h.frame

theorem Keeps.refuse (h : Keeps s t) {p : Page} {st code : Nat} {path : Sys2Proof.Path} {arg : Nat} :
    Keeps s (t.refuse p st code path arg) :=
  .ite h.reply h.reply.common

theorem Keeps.draw (h : Keeps s t) : Keeps s t.draw.2 := h.frame

/-! ### Device memory and its lines -/

theorem Keeps.countFault (h : Keeps s t) {a : Nat} : Keeps s (t.countFault a) := h.bump.put.raise

theorem Keeps.setMem (h : Keeps s t) {m : MemSt} : Keeps s (t.setMem m) := h.frame

theorem Keeps.overdraw (h : Keeps s t) {b key : Nat} {fld : Fld} {idx n bit : Nat} : Keeps s (t.overdraw b key fld idx n bit) :=
  .ite h.setMem.bump.raise h.setMem

theorem Keeps.moved (h : Keeps s t) {b cls bed : Nat} : Keeps s (t.moved b cls bed) :=
  .ite (Keeps.ite h.setMem.overdraw h.setMem).overdraw (.ite h.setMem.overdraw h.setMem)

theorem Keeps.serveOver (h : Keeps s t) {b cls bed : Nat} : Keeps s (t.serveOver b cls bed) := h.moved.setMem

theorem Keeps.delayOver (h : Keeps s t) {b cls bed : Nat} : Keeps s (t.delayOver b cls bed) := h.setMem

theorem Keeps.meter (h : Keeps s t) {b cls bed : Nat} : Keeps s (t.meter b cls bed) :=
  .ite h (.ite h.moved (.ite h.delayOver (.ite h.serveOver (.ite h.frame.delayOver h.frame.serveOver))))

theorem Keeps.meterN (h : Keeps s t) {b cls bed n : Nat} : Keeps s (t.meterN b cls bed n) := by
  induction n generalizing t with
  | zero => exact h
  | succ n ih => exact ih h.meter

theorem Keeps.clipWaiting (h : Keeps s t) {b : Nat} : Keeps s (t.clipWaiting b) := h.setMem.foldl (fun _ _ h => h.overdraw.meterN)

theorem Keeps.corrected (h : Keeps s t) {mc : Nat} : Keeps s (t.corrected mc) := h.bump.raise

theorem Keeps.uncorrectable (h : Keeps s t) {a : Nat} : Keeps s (t.uncorrectable a) := h.setMem.bump.put.raise

theorem Keeps.stackRead (h : Keeps s t) {a : Nat} {err : LineErr} : Keeps s (t.stackRead a err).1 := by
  unfold State.stackRead
  extract_lets l
  split
  · exact h
  · cases err with
    | corrected => exact h.corrected
    | uncorrectable => exact h.uncorrectable
    | none => exact h
    | sram => exact h

theorem Keeps.stackWrite (h : Keeps s t) {a : Nat} {data : List Byte} {poison rel : Bool} : Keeps s (t.stackWrite a data poison rel) :=
  .ite h h.setMem

theorem Keeps.stackPatch (h : Keeps s t) {a first : Nat} {data : List Byte} {poison rel : Bool} :
    Keeps s (t.stackPatch a first data poison rel) :=
  .ite h h.setMem

theorem Keeps.setCache (h : Keeps s t) {l : Nat} {c : CacheLine} : Keeps s (t.setCache l c) := h.setMem

theorem Keeps.freeCache (h : Keeps s t) {l : Nat} : Keeps s (t.freeCache l) := h.setMem

theorem Keeps.dalFree (h : Keeps s t) {l : Nat} : Keeps s (t.dalFree l) := h.freeCache.setMem.bump

theorem Keeps.releaseLine (h : Keeps s t) {l : Nat} : Keeps s (t.releaseLine l) := by
  unfold State.releaseLine
  split
  · exact h
  · exact .ite h.freeCache.stackWrite h.freeCache

theorem Keeps.staleLine (h : Keeps s t) {l : Nat} {c : CacheLine} : Keeps s (t.staleLine l c) := .ite h.releaseLine.meter h.releaseLine

theorem Keeps.dropLine (h : Keeps s t) {l : Nat} : Keeps s (t.dropLine l) := by
  unfold State.dropLine
  split
  · exact h
  · exact h.freeCache.setMem

theorem Keeps.refused (h : Keeps s t) {b : Nat} : Keeps s (t.refused b) := h.bump.raise

theorem Keeps.useLine (h : Keeps s t) {l : Nat} {c : CacheLine} : Keeps s (t.useLine l c) := by
  unfold State.useLine
  split
  · exact h
  · exact .ite h.dalFree h.setCache

theorem Keeps.serveHit (h : Keeps s t) {r : MemReq} {err : LineErr} {c : CacheLine} : Keeps s (t.serveHit r err c).1 := by
  unfold State.serveHit
  split
  · exact .ite h.raise.uncorrectable.setCache h.raise.uncorrectable.setCache.useLine
  · exact .ite h h.useLine

theorem Keeps.serveMiss (h : Keeps s t) {r : MemReq} {d : List Byte} {p : Bool} : Keeps s (t.serveMiss r d p) :=
  .ite h (.ite h.refused (.ite h.setCache (.ite h.dalFree h.setCache)))

theorem Keeps.serveRead (h : Keeps s t) {r : MemReq} {err : LineErr} : Keeps s (t.serveRead r err).1 := by
  unfold State.serveRead
  split
  · exact h.bump.serveHit
  · exact h.bump.meter.stackRead.serveMiss

theorem Keeps.serveWrite (h : Keeps s t) {r : MemReq} {first : Nat} {data : List Byte} {poison rel : Bool} :
    Keeps s (t.serveWrite r first data poison rel) := by
  unfold State.serveWrite
  extract_lets l b full hint
  split
  · exact h.bump.setCache
  · refine .ite (.ite h.bump.meter.stackWrite h.bump.meter.stackPatch)
      (.ite (.ite h.refused.bump.meter.stackWrite h.refused.bump.meter.stackPatch) ?_)
    have ho : Keeps s (if full then (t, data, false)
        else ((t.bump (pgCache b) .MISSES).meter b r.cls r.bed.val).stackRead r.addr .none).1 := by
      split
      · exact h
      · exact h.bump.meter.stackRead
    exact ho.setCache

theorem Keeps.denyRead (h : Keeps s t) {a : Nat} {first : Bool} : Keeps s (t.denyRead a first) :=
  .ite h.bump.put.setMem.raise h.bump.put.evt

theorem Keeps.denyWrite (h : Keeps s t) {a kind : Nat} : Keeps s (t.denyWrite a kind) := .ite h.bump.setMem.record h.bump

theorem Keeps.readLine (h : Keeps s t) {r : MemReq} {err : LineErr} {first : Bool} : Keeps s (t.readLine r err first).1 := by
  unfold State.readLine
  split
  · exact h.countFault
  · split
    · exact h.denyRead
    · exact h.serveRead

theorem Keeps.writeLine (h : Keeps s t) {r : MemReq} {first : Nat} {data : List Byte} {poison rel : Bool} :
    Keeps s (t.writeLine r first data poison rel) :=
  .ite h.countFault h.serveWrite

theorem Keeps.readSpan (h : Keeps s t) {r : MemReq} {n : Nat} : Keeps s (t.readSpan r n).1 := h.foldlPair (fun _ _ h => h.readLine)

theorem Keeps.writeSpan (h : Keeps s t) {r : MemReq} {data : List Byte} {poison rel : Bool} : Keeps s (t.writeSpan r data poison rel) :=
  h.foldl (fun _ _ h => h.writeLine)

theorem Keeps.hostRead (h : Keeps s t) {part a : Nat} {err : LineErr} {first : Bool} : Keeps s (t.hostRead part a err first).1 := by
  unfold State.hostRead
  split
  · exact h.countFault
  · exact h.readLine

theorem Keeps.hostWrite (h : Keeps s t) {part a first : Nat} {data : List Byte} {poison sealed : Bool} {kind : Nat} :
    Keeps s (t.hostWrite part a first data poison sealed kind) :=
  .ite h.countFault (.ite h.denyWrite h.writeLine)

theorem Keeps.hold (h : Keeps s t) {w : HostWait} : Keeps s (t.hold w) := h.frame

theorem Keeps.serveHost (h : Keeps s t) {w : HostWait} : Keeps s (t.serveHost w) := by
  unfold State.serveHost
  split
  · exact h.hostRead.answer
  · exact h.hostWrite

theorem Keeps.serveWaits (h : Keeps s t) : Keeps s t.serveWaits := h.frame.foldl (fun _ _ h => h.serveHost)

theorem Keeps.copyLists (h : Keeps s t) {b slot : Nat} : Keeps s (t.copyLists b slot) := h.readSpan

theorem Keeps.localPut (h : Keeps s t) {c a : Nat} {bs : List Byte} : Keeps s (t.localPut c a bs) := h.frame

/-! ### The cores' slots, engines and transfers -/

theorem Keeps.setCores (h : Keeps s t) {c : CoreSt} : Keeps s (t.setCores c) := h.frame

theorem Keeps.setSlot (h : Keeps s t) {c k : Nat} {m : SlotMeta} : Keeps s (t.setSlot c k m) := h.setCores

theorem Keeps.freeSlots (h : Keeps s t) {c k : Nat} {d : Desc} : Keeps s (t.freeSlots c k d) := h.foldl (fun _ _ h => h.setSlot)

theorem Keeps.abandon (h : Keeps s t) {c k n : Nat} : Keeps s (t.abandon c k n) := h.foldl (fun _ _ h => h.setSlot)

theorem Keeps.compUp (h : Keeps s t) {c x : Nat} : Keeps s (t.compUp c x) := h.setCores

theorem Keeps.taint (h : Keeps s t) {c x : Nat} : Keeps s (t.taint c x) := .ite h h.setCores

theorem Keeps.setCursor (h : Keeps s t) {c e k : Nat} : Keeps s (t.setCursor c e k) := h.setCores

theorem Keeps.onCores (h : Keeps s t) {b : Nat} {g : State → Nat → State}
    (hg : ∀ u a1, Keeps s u → Keeps s (g u a1)) :
    Keeps s (t.onCores b g) :=
  .ite h (h.foldl (fun _ _ h => hg _ _ h))

theorem Keeps.release (h : Keeps s t) {c : Nat} {r : Released} : Keeps s (t.release c r) := h.setCores

theorem Keeps.poisonNorms (h : Keeps s t) {n : Nat} {m : MatBlk} : Keeps s (t.poisonNorms n m) := h.foldl (fun _ _ h => h.localPut)

theorem Keeps.skipMatrix (h : Keeps s t) {b c : Nat} {arm : Option Nat} {m : MatBlk} : Keeps s (t.skipMatrix b c arm m) :=
  .ite (.ite h.abandon.poisonNorms h.abandon) (.ite h.abandon.release h.abandon)

theorem Keeps.skipEntry (h : Keeps s t) {b c e : Nat} {i : Issue} :
    Keeps s (t.skipEntry b c e i) :=
  .ite (.ite h.bump.skipMatrix h.bump) h

theorem Keeps.skipEngine (h : Keeps s t) {b c e : Nat} : Keeps s (t.skipEngine b c e) := (h.foldl (fun _ _ h => h.skipEntry)).setCursor

theorem Keeps.skipXfer (h : Keeps s t) {b c x : Nat} : Keeps s (t.skipXfer b c x) := h.bump.compUp.taint

theorem Keeps.skipXfers (h : Keeps s t) {b c x : Nat} : Keeps s (t.skipXfers b c x) := (h.foldl (fun _ _ h => h.skipXfer)).setCores

theorem Keeps.skipFrame (h : Keeps s t) {b : Nat} : Keeps s (t.skipFrame b) :=
  h.onCores (fun _ _ h => (h.foldl (fun _ _ h => h.skipEngine)).foldl (fun _ _ h => h.skipXfers))

theorem Keeps.stopEngine (h : Keeps s t) {b c e : Nat} : Keeps s (t.stopEngine b c e) := by
  unfold State.stopEngine
  split
  · exact h
  · exact .ite h.setCores.bump.put.skipMatrix h.setCores.bump.put

theorem Keeps.stopXfer (h : Keeps s t) {b c x : Nat} : Keeps s (t.stopXfer b c x) := .ite h.setCores.skipXfer h

theorem Keeps.stopRunning (h : Keeps s t) {b : Nat} : Keeps s (t.stopRunning b) :=
  h.onCores (fun _ _ h => (h.foldl (fun _ _ h => h.stopEngine)).foldl (fun _ _ h => h.stopXfer))

theorem Keeps.openFrame (h : Keeps s t) {b : Nat} : Keeps s (t.openFrame b) := h.setBed.setCores

theorem Keeps.openStep (h : Keeps s t) {b : Nat} : Keeps s (t.openStep b) := (h.foldl (fun _ _ h => .ite h.put h)).setCores

theorem Keeps.ctxReset (h : Keeps s t) {b c x code : Nat} : Keeps s (t.ctxReset b c x code) := by
  unfold State.ctxReset
  extract_lets n rest u1 _ u2 u3 u4
  have h1 : Keeps s u1 := by
    dsimp only [u1]
    exact h.foldl (fun _ _ h => by split; exacts [.ite h.stopEngine h, h])
  have h2 : Keeps s u2 := h1.setCores
  have h3 : Keeps s u3 := h2.put.put
  have h4 : Keeps s u4 := h3.bump.put
  exact h4.record

/-! ### Stopping, unloading and Hold -/

theorem Keeps.setSeq (h : Keeps s t) {b st : Nat} : Keeps s (t.setSeq b st) := .ite h.dueSets.endStops.put.put h.put.put

theorem Keeps.showArm (h : Keeps s t) {b : Nat} : Keeps s (t.showArm b) := h.put

theorem Keeps.clearOrigin (h : Keeps s t) {b : Nat} : Keeps s (t.clearOrigin b) := h.setBed.put.put

theorem Keeps.dropPending (h : Keeps s t) {b : Nat} : Keeps s (t.dropPending b) := by
  unfold State.dropPending
  split
  · exact h
  · exact .ite h.setBed.put.clearOrigin h.setBed.put

theorem Keeps.cancelArmed (h : Keeps s t) {b st cause : Nat} : Keeps s (t.cancelArmed b st cause) := h.dropPending.setSeq.record

theorem Keeps.askUnits (h : Keeps s t) {b : Nat} : Keeps s (t.askUnits b) := h.frame

theorem Keeps.holdBed (h : Keeps s t) {b cause : Nat} : Keeps s (t.holdBed b cause) :=
  .ite h.cancelArmed (.ite h.stopRunning.skipFrame.askUnits.dropPending.setSeq.setBed h)

theorem Keeps.holdBeds (h : Keeps s t) {l : List Nat} {cause : Nat} : Keeps s (t.holdBeds l cause) := h.foldl (fun _ _ h => h.holdBed)

theorem Keeps.idleBed (h : Keeps s t) {b : Nat} : Keeps s (t.idleBed b) :=
  h.stopRunning.skipFrame.askUnits.dropPending.setSeq.setBed.showArm

theorem Keeps.unloadSlot (h : Keeps s t) {p k : Nat} : Keeps s (t.unloadSlot p k) := h.frame.foldl (fun _ _ h => .ite h.setBed.showArm h)

theorem Keeps.unloadAll (h : Keeps s t) {p : Nat} : Keeps s (t.unloadAll p) := h.foldl (fun _ _ h => h.unloadSlot)

theorem Keeps.leaveGroup (h : Keeps s t) {p : Nat} : Keeps s (t.leaveGroup p) := .ite h.setPart.frame h

theorem Keeps.leaveAll (h : Keeps s t) : Keeps s t.leaveAll := h.foldl (fun _ _ h => h.leaveGroup)

theorem Keeps.setDomains (h : Keeps s t) {w : Nat × Nat × Nat} : Keeps s (t.setDomains w) := h.put.put.put

theorem Keeps.setPower (h : Keeps s t) {p : PowerState} : Keeps s (t.setPower p) := h.frame.put.setDomains

theorem Keeps.beginTransition (h : Keeps s t) {p : PowerState} {cause : Nat} : Keeps s (t.beginTransition p cause) := h.frame.put

theorem Keeps.enterHold (h : Keeps s t) {cause : Nat} : Keeps s (t.enterHold cause) :=
  .ite h (.ite (.ite h h.holdBeds.leaveAll.beginTransition) (.ite h.frame h))

theorem Keeps.dropStage (h : Keeps s t) {cause : Nat} : Keeps s (t.dropStage cause) := h.frame.put.setDomains

theorem Keeps.enterOff (h : Keeps s t) {cause : Nat} : Keeps s (t.enterOff cause) :=
  .ite (.ite h.dropStage h) h.holdBeds.leaveAll.beginTransition

theorem Keeps.setPoint (h : Keeps s t) {p : Nat} : Keeps s (t.setPoint p) := h.put.put

theorem Keeps.floorCause (h : Keeps s t) {c : FloorCause} {cause code : Nat} {payload : List Byte} :
    Keeps s (t.floorCause c cause code payload) := by
  unfold State.floorCause
  refine .ite ?_ (.ite h.frame h.frame.record)
  refine .ite (Keeps.ite h.frame.setPoint.bump.frame.setPower.put h.frame.setPoint.bump.frame).raise ?_
  exact (Keeps.ite h.frame.setPoint.bump.frame.setPower.put h.frame.setPoint.bump.frame).evt.record

theorem Keeps.floorClear (h : Keeps s t) {c : FloorCause} : Keeps s (t.floorClear c) := h.frame

theorem Keeps.startScrub (h : Keeps s t) {b : Nat} : Keeps s (t.startScrub b) := .ite h.setMem.put.unloadAll h.setMem.put

theorem Keeps.failDma (h : Keeps s t) {p : Nat} : Keeps s (t.failDma p) := h.frame

theorem Keeps.setSessionState (h : Keeps s t) {p st : Nat} : Keeps s (t.setSessionState p st) := h.put.put.put

theorem Keeps.eraseKeys (h : Keeps s t) {p : Nat} : Keeps s (t.eraseKeys p) :=
  ((h.setSession.foldl (fun _ _ h => h.put.put)).foldl (fun _ _ h => h.put)).put.put.raise.frame.put.put

theorem Keeps.finishClose (h : Keeps s t) {p : Nat} : Keeps s (t.finishClose p) :=
  ((h.foldl (fun _ _ h => h.put)).foldl (fun _ _ h => h.doUnlock)).setSession.setSessionState.put.raise

theorem Keeps.closeBeds (h : Keeps s t) {p : Nat} : Keeps s (t.closeBeds p) := h.foldl (fun _ _ h => .ite h.setSeq h.holdBed)

theorem Keeps.beginClose (h : Keeps s t) {p : Nat} : Keeps s (t.beginClose p) := by
  unfold State.beginClose
  refine .ite h.closeBeds.failDma.eraseKeys.setSessionState.setSession ?_
  exact h.closeBeds.failDma.eraseKeys.setSessionState.foldl (fun _ _ h => h.startScrub)

theorem Keeps.endSessionNow (h : Keeps s t) {p : Nat} : Keeps s (t.endSessionNow p) := .ite h h.closeBeds.failDma.eraseKeys.finishClose

theorem Keeps.endSessions (h : Keeps s t) : Keeps s t.endSessions := h.foldl (fun _ _ h => h.endSessionNow)

/-! ### The issue of armature entries -/

theorem Keeps.nextEntry (h : Keeps s t) {b c e : Nat} {l : List Issue} {k : Nat} : Keeps s (State.nextEntry b c e l k t).1 := by
  induction l generalizing k t with
  | nil => exact h.setCursor
  | cons i l ih =>
    unfold State.nextEntry
    split
    · exact ih h
    · split
      · exact ih h.skipEntry
      · exact h.setCursor

theorem Keeps.slip (h : Keeps s t) {n d : Nat} : Keeps s (t.slip n d) := .ite h h.bump.bump.put

theorem Keeps.started (h : Keeps s t) {b c e : Nat} {i : Issue} {k at_ len : Nat} : Keeps s (t.started b c e i k at_ len) :=
  h.slip.bump.setCores.put.put.put

theorem Keeps.dueEntry (h : Keeps s t) {b c e ready : Nat} : Keeps s (t.dueEntry b c e ready).1 := by
  unfold State.dueEntry
  dsimp only
  split
  · exact h
  · split
    · exact h.nextEntry
    · split
      · exact h.nextEntry
      · exact h.nextEntry

/-! ### Flags of the engines -/

theorem Keeps.raiseFlags (h : Keeps s t) {n : Nat} {fl : Flags} : Keeps s (t.raiseFlags n fl) := .ite h h.put

theorem Keeps.latchCapture (h : Keeps s t) {b : Nat} {c : Capture} : Keeps s (t.latchCapture b c) := h.setBed

theorem Keeps.captureNf (h : Keeps s t) {b c : Nat} {fl : Flags} {i : CapInfo} : Keeps s (t.captureNf b c fl i) :=
  .ite h h.put.put.put.put.put.put.put.put.put.put.put.put.put.latchCapture

theorem Keeps.result (h : Keeps s t) {b c : Nat} {fl : Flags} {i : CapInfo} : Keeps s (t.result b c fl i) := h.raiseFlags.captureNf

end Sys2Proof.Machine
end

section
/-! PROOFS. Every operation of the model keeps the staging legal and the partition count one of R16 (`Keeps`): the engines and the clocks. -/

namespace Sys2Proof.Machine

variable {s t : State}

/-! ### Tiles -/

theorem Keeps.tileFaulted (h : Keeps s t) {b c : Nat} {d : Desc} {t' : List Byte} {tile : Nat} : Keeps s (t.tileFaulted b c d t' tile) :=
  h.foldl (fun _ _ h => h.raiseFlags.record)

/-! ### The matrix engine -/

theorem Keeps.putPos (h : Keeps s t) {n slot j : Nat} {p : Pos} : Keeps s (t.putPos n slot j p) := h.localPut.localPut

theorem Keeps.operandFaults (h : Keeps s t) {b c : Nat} {o : Operand} : Keeps s (t.operandFaults b c o) :=
  h.foldl (fun _ _ h => h.tileFaulted)

theorem Keeps.openSlots (h : Keeps s t) {n ctx : Nat} {m : MatBlk} {o : Desc} : Keeps s (t.openSlots n ctx m o) :=
  h.foldl (fun _ _ h => h.setSlot)

theorem Keeps.countSats (h : Keeps s t) {n k : Nat} : Keeps s (t.countSats n k) := .ite h h.setCores

theorem Keeps.putAll (h : Keeps s t) {b c e : Nat} {i : Issue} {k : Nat} {m : MatBlk} {p : MatProd} {count : Nat}
    {ends : List Nat} {start : Nat} {l : List ((Nat × Nat) × Nat × Nat × Pos)} :
    Keeps s (t.putAll b c e i k m p count ends start l) := by
  unfold State.putAll
  dsimp only
  split
  · exact h.foldl (fun _ _ h => h.putPos.raiseFlags.countSats)
  · exact (h.foldl (fun _ _ h => h.putPos.raiseFlags.countSats)).captureNf

theorem Keeps.matrixRun (h : Keeps s t) {b c e : Nat} {i : Issue} {k at_ : Nat} {m : MatBlk} : Keeps s (t.matrixRun b c e i k at_ m) :=
  h.operandFaults.operandFaults.openSlots.putAll.setSlot.bump

theorem Keeps.countSamples (h : Keeps s t) {b n : Nat} : Keeps s (t.countSamples b n) := by
  unfold State.countSamples
  dsimp only
  split
  · exact h.frame
  · exact h

theorem Keeps.gramPut (h : Keeps s u) {b c e : Nat} {iss : Issue} {k : Nat} {m : MatBlk} {i start : Nat} :
    Keeps s (t.gramPut u b c e iss k m i start).1 := h.foldlPair fun _ _ h => h.putAll

theorem Keeps.normEntry (h : Keeps s t) {b c e : Nat} {iss : Issue} {k cycle : Nat} {m : MatBlk} {j : Nat}
    {bad : Bool} {sums : List (List Nat)} :
    Keeps s (t.normEntry b c e iss k cycle m j bad sums) :=
  .ite (.ite h h.localPut) (Keeps.ite h h.localPut).localPut.result

theorem Keeps.normRun (h : Keeps s t) {b c e : Nat} {i : Issue} {k at_ : Nat} {m : MatBlk} : Keeps s (t.normRun b c e i k at_ m) := by
  unfold State.normRun
  extract_lets n o l z0 u1 u2 bad r parts spills z u3
  have h1 : Keeps s u1 := (h.foldl (fun _ _ h => h.operandFaults)).countSamples
  have h2 : Keeps s u2 := h1.openSlots
  have h3 : Keeps s u3 := (h2.foldlPair (fun _ _ h => h.gramPut.normEntry)).setSlot
  exact h3.bump

theorem execMatrixInstructionBlock_keeps (h : Keeps s t) {bed : Bed} {core : Core} {engine : Fin 3} {ready : Nat} :
    KeepsNext s (execMatrixInstructionBlock bed core engine ready t) := by
  unfold execMatrixInstructionBlock
  extract_lets b c e n
  split
  next hu => exact (h.dueEntry.of_fst hu).next
  next u i k at_ hu =>
    extract_lets m p ends last u1 tt u2 u3
    have h1 : Keeps s u1 := (h.dueEntry.of_fst hu).started
    have h2 : Keeps s u2 := .ite h1 h1.result
    have h3 : Keeps s u3 := .ite h2.normRun h2.matrixRun
    exact h3.setCores.next

theorem Keeps.endSpill (h : Keeps s t) {b c e : Nat} {r : Running} {m : MatBlk} : Keeps s (t.endSpill b c e r m) :=
  (Keeps.ite h (h.foldl (fun _ _ h => h.putPos.result))).setSlot

theorem execMatrixBlockEnd_keeps (h : Keeps s t) {bed : Bed} {core : Core} {engine : Fin 3} :
    KeepsNext s (execMatrixBlockEnd bed core engine t) := by
  unfold execMatrixBlockEnd
  dsimp only
  split
  · exact h.next
  · refine .ite h.setCores.put.next ?_
    refine .ite (Keeps.ite h.setCores.put.endSpill h.setCores.put).release.next ?_
    exact (Keeps.ite h.setCores.put.endSpill h.setCores.put).next

/-! ### Clocks, time and armed starts -/

theorem Keeps.showSteps (h : Keeps s t) : Keeps s t.showSteps := h.put.put.put

theorem Keeps.setStack (h : Keeps s t) {l : List Nat} : Keeps s (t.setStack l) := h.frame.showSteps

theorem Keeps.takePlan (h : Keeps s t) : Keeps s t.takePlan := by
  unfold State.takePlan
  refine .ite ((Keeps.ite h.put.raise h).frame.put.foldl (fun _ _ h => h.record)) ?_
  exact (Keeps.ite h.put.raise h).frame.put

theorem Keeps.takeCap (h : Keeps s t) : Keeps s t.takeCap := by
  unfold State.takeCap
  refine .ite h ?_
  split
  · exact h.setStack.raise
  · exact h.raise

theorem Keeps.setClock (h : Keeps s t) : Keeps s t.setClock := (Keeps.ite h.setPower h).frame.put.put

theorem Keeps.applyClock (h : Keeps s t) : Keeps s t.applyClock := by
  unfold State.applyClock
  extract_lets b _ _ u1
  have h1 : Keeps s u1 := h.takePlan.frame
  exact h1.takeCap.setClock.frame.put

theorem Keeps.openStretch (h : Keeps s t) {forced : Bool} : Keeps s (t.openStretch forced) := h.frame

theorem Keeps.sampleWatts (h : Keeps s t) : Keeps s t.sampleWatts := h.draw.put

theorem Keeps.raiseTrim (h : Keeps s t) : Keeps s t.raiseTrim := .ite h.put.frame.raise h.put.frame

theorem Keeps.trimTick (h : Keeps s t) : Keeps s t.trimTick := .ite h.raiseTrim h

theorem Keeps.clockTick (h : Keeps s t) : Keeps s t.clockTick := by
  unfold State.clockTick
  refine .ite h.put.openStretch ?_
  exact .ite h.applyClock.openStretch (.ite h.applyClock.bump.raise.bump.openStretch h.bump.raise.openStretch)

theorem execCapRelease_keeps (h : Keeps s t) :
    KeepsNext s (execCapRelease t) :=
  .ite (Keeps.ite h.setStack.setClock h.setStack).next h.next

/-! ### Operands -/

theorem Keeps.setVreg (h : Keeps s t) {n r l : Nat} {v : W32} : Keeps s (t.setVreg n r l v) := h.setCores

theorem Keeps.laneOut (h : Keeps s t) {w : VWhere} {i : VArgs} {source l : Nat} {r : LaneResult} : Keeps s (t.laneOut w i source l r) :=
  h.setVreg.result

theorem Keeps.vectorOp (h : Keeps s t) {w : VWhere} {i : VArgs} {f : Nat → Nat → Nat → LaneResult} :
    KeepsNext s (t.vectorOp w i f) :=
  .ite (h.foldl (fun _ _ h => h.laneOut)).next .fault

/-! ### The vector engine -/

theorem Keeps.vecLoad (h : Keeps s t) {w : VWhere} {i : VArgs} : Keeps s (t.vecLoad w i) :=
  (h.foldl (fun _ _ h => h.tileFaulted)).foldl (fun _ _ h => h.laneOut)

theorem Keeps.vecStore (h : Keeps s t) {w : VWhere} {i : VArgs} : Keeps s (t.vecStore w i) := h.foldl (fun _ _ h => .ite h h.setCores)

theorem execVAdd_keeps (h : Keeps s t) {w : VWhere} {i : VArgs} : KeepsNext s (execVAdd w i t) := h.vectorOp

theorem execVSub_keeps (h : Keeps s t) {w : VWhere} {i : VArgs} : KeepsNext s (execVSub w i t) := h.vectorOp

theorem execVMul_keeps (h : Keeps s t) {w : VWhere} {i : VArgs} : KeepsNext s (execVMul w i t) := h.vectorOp

theorem execVFma_keeps (h : Keeps s t) {w : VWhere} {i : VArgs} : KeepsNext s (execVFma w i t) := h.vectorOp

theorem execVMin_keeps (h : Keeps s t) {w : VWhere} {i : VArgs} : KeepsNext s (execVMin w i t) := h.vectorOp

theorem execVMax_keeps (h : Keeps s t) {w : VWhere} {i : VArgs} : KeepsNext s (execVMax w i t) := h.vectorOp

theorem execVAbs_keeps (h : Keeps s t) {w : VWhere} {i : VArgs} : KeepsNext s (execVAbs w i t) := h.vectorOp

theorem execVNeg_keeps (h : Keeps s t) {w : VWhere} {i : VArgs} : KeepsNext s (execVNeg w i t) := h.vectorOp

theorem execVCmplt_keeps (h : Keeps s t) {w : VWhere} {i : VArgs} : KeepsNext s (execVCmplt w i t) := h.vectorOp

theorem execVCmpeq_keeps (h : Keeps s t) {w : VWhere} {i : VArgs} : KeepsNext s (execVCmpeq w i t) := h.vectorOp

theorem execVSel_keeps (h : Keeps s t) {w : VWhere} {i : VArgs} : KeepsNext s (execVSel w i t) := h.vectorOp

theorem execVSqrt_keeps (h : Keeps s t) {w : VWhere} {i : VArgs} : KeepsNext s (execVSqrt w i t) := h.vectorOp

theorem execVRcp_keeps (h : Keeps s t) {w : VWhere} {i : VArgs} : KeepsNext s (execVRcp w i t) := h.vectorOp

theorem execVRsqrt_keeps (h : Keeps s t) {w : VWhere} {i : VArgs} : KeepsNext s (execVRsqrt w i t) := h.vectorOp

theorem execVExp2_keeps (h : Keeps s t) {w : VWhere} {i : VArgs} : KeepsNext s (execVExp2 w i t) := h.vectorOp

theorem execVLog2_keeps (h : Keeps s t) {w : VWhere} {i : VArgs} : KeepsNext s (execVLog2 w i t) := h.vectorOp

theorem execVCvtInt32_keeps (h : Keeps s t) {w : VWhere} {i : VArgs} : KeepsNext s (execVCvtInt32 w i t) := h.vectorOp

theorem execVCvtBf16_keeps (h : Keeps s t) {w : VWhere} {i : VArgs} : KeepsNext s (execVCvtBf16 w i t) := h.vectorOp

theorem execVIadd_keeps (h : Keeps s t) {w : VWhere} {i : VArgs} : KeepsNext s (execVIadd w i t) := h.vectorOp

theorem execVAnd_keeps (h : Keeps s t) {w : VWhere} {i : VArgs} : KeepsNext s (execVAnd w i t) := h.vectorOp

theorem execVOr_keeps (h : Keeps s t) {w : VWhere} {i : VArgs} : KeepsNext s (execVOr w i t) := h.vectorOp

theorem execVXor_keeps (h : Keeps s t) {w : VWhere} {i : VArgs} : KeepsNext s (execVXor w i t) := h.vectorOp

theorem execVShl_keeps (h : Keeps s t) {w : VWhere} {i : VArgs} : KeepsNext s (execVShl w i t) := h.vectorOp

theorem execVShr_keeps (h : Keeps s t) {w : VWhere} {i : VArgs} : KeepsNext s (execVShr w i t) := h.vectorOp

theorem execVectorLoad_keeps (h : Keeps s t) {w : VWhere} {i : VArgs} : KeepsNext s (execVectorLoad w i t) := .ite h.vecLoad.next .fault

theorem execVectorStore_keeps (h : Keeps s t) {w : VWhere} {i : VArgs} :
    KeepsNext s (execVectorStore w i t) :=
  .ite h.vecStore.next .fault

/-- A choice of a vector instruction each of which keeps the forms. -/
def KeepsVec (s : State) (o : Option (VWhere → VArgs → State → Host.Outcome State Fault Refusal)) : Prop :=
  ∀ f ∈ o, ∀ w i t, Keeps s t → KeepsNext s (f w i t)

theorem KeepsVec.ite {c : Prop} {_ : Decidable c} {f : VWhere → VArgs → State → Host.Outcome State Fault Refusal}
    {o : Option (VWhere → VArgs → State → Host.Outcome State Fault Refusal)} (hf : ∀ w i t, Keeps s t → KeepsNext s (f w i t))
    (ho : KeepsVec s o) : KeepsVec s (if c then some f else o) := by
  split
  · intro g hg
    obtain rfl := Option.mem_some_iff.mp hg
    exact hf
  · exact ho

theorem vecExec_keeps (op : Nat) : KeepsVec s (vecExec op) := by
  unfold vecExec
  refine .ite (fun _ _ _ h => execVAdd_keeps h) ?_
  refine .ite (fun _ _ _ h => execVSub_keeps h) ?_
  refine .ite (fun _ _ _ h => execVMul_keeps h) ?_
  refine .ite (fun _ _ _ h => execVFma_keeps h) ?_
  refine .ite (fun _ _ _ h => execVMin_keeps h) ?_
  refine .ite (fun _ _ _ h => execVMax_keeps h) ?_
  refine .ite (fun _ _ _ h => execVAbs_keeps h) ?_
  refine .ite (fun _ _ _ h => execVNeg_keeps h) ?_
  refine .ite (fun _ _ _ h => execVCmplt_keeps h) ?_
  refine .ite (fun _ _ _ h => execVCmpeq_keeps h) ?_
  refine .ite (fun _ _ _ h => execVSel_keeps h) ?_
  refine .ite (fun _ _ _ h => execVSqrt_keeps h) ?_
  refine .ite (fun _ _ _ h => execVRcp_keeps h) ?_
  refine .ite (fun _ _ _ h => execVRsqrt_keeps h) ?_
  refine .ite (fun _ _ _ h => execVExp2_keeps h) ?_
  refine .ite (fun _ _ _ h => execVLog2_keeps h) ?_
  refine .ite (fun _ _ _ h => execVCvtInt32_keeps h) ?_
  refine .ite (fun _ _ _ h => execVCvtBf16_keeps h) ?_
  refine .ite (fun _ _ _ h => execVIadd_keeps h) ?_
  refine .ite (fun _ _ _ h => execVAnd_keeps h) ?_
  refine .ite (fun _ _ _ h => execVOr_keeps h) ?_
  refine .ite (fun _ _ _ h => execVXor_keeps h) ?_
  refine .ite (fun _ _ _ h => execVShl_keeps h) ?_
  refine .ite (fun _ _ _ h => execVShr_keeps h) ?_
  refine .ite (fun _ _ _ h => execVectorLoad_keeps h) ?_
  refine .ite (fun _ _ _ h => execVectorStore_keeps h) ?_
  exact fun _ hf => nomatch hf

theorem runProgram_keeps (h : Keeps s t) {w : VWhere} {at_ : Nat} {l : List (Nat × VArgs)} : KeepsNext s (runProgram w at_ l t) := by
  induction l generalizing at_ t with
  | nil => exact h.next
  | cons x l ih =>
    obtain ⟨op, i⟩ := x
    unfold runProgram
    split
    next => exact .fault
    next f hf =>
      have hx := vecExec_keeps op f hf { w with cycle := at_ } i t h
      split
      next hu => exact ih (hx.out hu)
      next => exact .fault
      next => exact .refused

theorem execVectorInstructionBlock_keeps (h : Keeps s t) {bed : Bed} {core : Core} {backward : Bool} {ready : Nat} :
    KeepsNext s (execVectorInstructionBlock bed core backward ready t) := by
  unfold execVectorInstructionBlock
  extract_lets b c e
  split
  next hu => exact (h.dueEntry.of_fst hu).next
  next u i k at_ hu =>
    extract_lets p w
    have hp : KeepsNext s (runProgram w at_ p (u.started b c e i k at_ (programCycles p))) :=
      runProgram_keeps (h.dueEntry.of_fst hu).started
    split
    next hv => exact (hp.out hv).put.next
    next => exact hp

/-! ### Time references -/

theorem Keeps.opTime (h : Keeps s t) : Keeps s t.opTime := .ite h h.frame

theorem Keeps.count (h : Keeps s t) : Keeps s t.count := .ite h.frame h.frame

theorem Keeps.idle (h : Keeps s t) : Keeps s t.idle := .ite h.count.opTime h

theorem Keeps.moveTime (h : Keeps s t) {d : Int} : Keeps s (t.moveTime d) :=
  .ite h ((Keeps.ite h.frame h.frame).foldl (fun _ _ h => h.clearOrigin)).record

theorem Keeps.steerRate (h : Keeps s t) {off : Int} : Keeps s (t.steerRate off) := h.frame

theorem Keeps.seqFromTime (h : Keeps s t) : Keeps s t.seqFromTime := h.frame

theorem Keeps.setAligned (h : Keeps s t) {on : Bool} : Keeps s (t.setAligned on) := .ite h.put.seqFromTime h.put

theorem Keeps.alignOffset (h : Keeps s t) {off : Int} : Keeps s (t.alignOffset off) := by
  unfold State.alignOffset
  refine .ite h.moveTime.put.setAligned ?_
  extract_lets e u1 u2 u3
  have h1 : Keeps s u1 := h.put.steerRate
  have h2 : Keeps s u2 := h1.setAligned
  have h3 : Keeps s u3 := .ite (h2.put.onceDo (fun _ h => h.record)) h2
  exact h3.frame

theorem Keeps.setTref (h : Keeps s t) {v : Nat} : Keeps s (t.setTref v) := .ite h.put h.put.frame.put.put

theorem Keeps.setHoldover (h : Keeps s t) {on : Bool} : Keeps s (t.setHoldover on) := .ite h h.put.record

theorem execGroupAlignTimeout_keeps (h : Keeps s t) {part : Bed} : KeepsNext s (execGroupAlignTimeout part t) :=
  .ite h.frame.record.leaveGroup.enterHold.next h.next

theorem execTimeRefEdge_keeps (h : Keeps s t) : KeepsNext s (execTimeRefEdge t) := by
  unfold execTimeRefEdge
  refine .ite h.next ?_
  extract_lets now bad _ u1 u2
  have h1 : Keeps s u1 := h.frame
  have h2 : Keeps s u2 := h1.setHoldover
  exact .ite h1.put.setHoldover.next (.ite h2.put.steerRate.next (.ite h2.put.steerRate.next h2.frame.moveTime.put.next))

theorem execTrefHoldoverTimeout_keeps (h : Keeps s t) : KeepsNext s (execTrefHoldoverTimeout t) := .ite h.put.setHoldover.next h.next

theorem execTimeHoldEnd_keeps (h : Keeps s t) : KeepsNext s (execTimeHoldEnd t) := h.frame.next

end Sys2Proof.Machine
end

section
/-! PROOFS. Every operation of the model keeps the staging legal and the partition count one of R16 (`Keeps`): the fabric. -/

namespace Sys2Proof.Machine

variable {s t : State}

/-! ### The fabric's ports, packets and heartbeats -/

theorem Keeps.setFab (h : Keeps s t) {f : FabricSt} : Keeps s (t.setFab f) := h.frame

theorem Keeps.queueOn (h : Keeps s t) {p : Nat} {k : Packet} : Keeps s (t.queueOn p k) := h.setFab

theorem Keeps.takeSeq (h : Keeps s t) {q : Nat} : Keeps s (t.takeSeq q).2 := h.setFab

theorem Keeps.send (h : Keeps s t) {q dest cls ty : Nat} {tf payload : List Byte} {poison : Bool} :
    Keeps s (t.send q dest cls ty tf payload poison) :=
  h.setFab.foldl (fun _ _ h => h.queueOn)

theorem Keeps.numbered (h : Keeps s t) {k : Packet} : Keeps s (t.numbered k).1 := by
  unfold State.numbered
  split
  · exact h
  · split
    · exact h.setFab
    · exact .ite h.takeSeq.setFab h.takeSeq

theorem Keeps.transmit (h : Keeps s t) {p : Nat} {k : Packet} : Keeps s (t.transmit p k) := (Keeps.ite h.setFab.setFab h.setFab).bump

theorem Keeps.askedFor (h : Keeps s t) {p n : Nat} : Keeps s (t.askedFor p n) := by
  unfold State.askedFor
  split
  · exact h.setFab
  · exact h

theorem Keeps.sendBeat (h : Keeps s t) {p : Nat} : Keeps s (t.sendBeat p) := h.transmit

theorem Keeps.sendPicked (h : Keeps s t) {p : Nat} {k : Packet} {rest : List Packet} : Keeps s (t.sendPicked p k rest) := by
  unfold State.sendPicked
  dsimp only
  split
  · exact h.setFab.numbered.transmit
  · exact h.setFab.bump

theorem Keeps.countDiscard (h : Keeps s t) {p : Nat} : Keeps s (t.countDiscard p) := h.setFab

theorem Keeps.openPacket (h : Keeps s t) {p : Nat} {k : Packet} : Keeps s (t.openPacket p k).1 := by
  unfold State.openPacket
  dsimp only
  split
  · exact h
  · split
    · split
      · exact h.bump
      · exact h
    · split
      · exact h
      · exact h.bump.raise

theorem Keeps.countLate (h : Keeps s t) {p : Nat} {k : Packet} : Keeps s (t.countLate p k) := .ite h.bump.raise h

theorem Keeps.takeIn (h : Keeps s t) {p : Nat} {k : Packet} : Keeps s (t.takeIn p k).1 := by
  unfold State.takeIn
  extract_lets q
  split
  · exact h
  split
  · exact h.countDiscard
  split
  · exact h
  split
  · exact h
  split
  next hu => exact h.openPacket.of_fst hu
  next hu =>
    have h1 := h.openPacket.of_fst hu
    split
    · exact h1.countLate
    split
    · exact h1
    · exact h1.setFab.countLate

theorem Keeps.consume (h : Keeps s t) {p : Nat} {k : Packet} {ty : Nat} {f : State → Packet → State}
    (hf : ∀ u a1, Keeps s u → Keeps s (f u a1)) : KeepsNext s (t.consume p k ty f) := by
  unfold State.consume
  refine .ite h.next ?_
  split
  next hu => exact (hf _ _ (h.takeIn.of_fst hu)).next
  next hu => exact (h.takeIn.of_fst hu).next

theorem Keeps.dataIn (h : Keeps s t) {p : Nat} {k : Packet} : Keeps s (t.dataIn p k) := h.writeSpan

theorem execDataReceive_keeps (h : Keeps s t) {port : Port} {packet : Packet} : KeepsNext s (execDataReceive port packet t) :=
  h.consume (fun _ _ h => h.dataIn)

theorem Keeps.heartbeatIn (h : Keeps s t) {p : Nat} {k : Packet} : Keeps s (t.heartbeatIn p k) := h.setFab.bump

theorem execHeartbeatReceive_keeps (h : Keeps s t) {port : Port} {packet : Packet} : KeepsNext s (execHeartbeatReceive port packet t) :=
  h.consume (fun _ _ h => h.heartbeatIn)

theorem Keeps.portDown (h : Keeps s t) {p st : Nat} : Keeps s (t.portDown p st) := h.setFab.put.put

theorem execHeartbeatTimeout_keeps (h : Keeps s t) {port : Port} : KeepsNext s (execHeartbeatTimeout port t) :=
  .ite h.next h.setFab.bump.bump.portDown.evt.evt.record.next

theorem Keeps.timeRequestIn (h : Keeps s t) {p : Nat} {k : Packet} : Keeps s (t.timeRequestIn p k) := .ite h h.queueOn

theorem execTimeRequestReceive_keeps (h : Keeps s t) {port : Port} {packet : Packet} :
    KeepsNext s (execTimeRequestReceive port packet t) :=
  h.consume (fun _ _ h => h.timeRequestIn)

theorem Keeps.timeResponseIn (h : Keeps s t) {p : Nat} {k : Packet} : Keeps s (t.timeResponseIn p k) := .ite h h.alignOffset

theorem Keeps.fencePort (h : Keeps s t) {p : Nat} : Keeps s (t.fencePort p) := h.portDown.put.evt

theorem Keeps.mismatch (h : Keeps s t) {p : Nat} : Keeps s (t.mismatch p) := h.raise

theorem Keeps.deriveId (h : Keeps s t) : Keeps s t.deriveId := by
  unfold State.deriveId
  split
  · exact h.foldl (fun _ _ h => h.put.put)
  · exact (h.foldl (fun _ _ h => h.put.put)).foldl (fun _ _ h => .ite h.put.fencePort.mismatch h)

theorem Keeps.positionIn (h : Keeps s t) {p : Nat} {k : Packet} : Keeps s (t.positionIn p k) :=
  .ite h (.ite h.put.mismatch.deriveId h.put.put.put.put.deriveId)

theorem Keeps.applyTopo (h : Keeps s t) : Keeps s t.applyTopo := by
  unfold State.applyTopo
  split
  · exact h
  · exact (h.setFab.foldl (fun _ _ h => h.put.put.raise)).foldl (fun _ _ h => .ite h h.raise)

theorem Keeps.reportIn (h : Keeps s t) {k : Packet} : Keeps s (t.reportIn k) := .ite h.setFab h.setFab.applyTopo

theorem Keeps.topologyIn (h : Keeps s t) {p : Nat} {k : Packet} : Keeps s (t.topologyIn p k) := .ite h.positionIn (.ite h.reportIn h)

theorem execTopologyReceive_keeps (h : Keeps s t) {port : Port} {packet : Packet} : KeepsNext s (execTopologyReceive port packet t) :=
  h.consume (fun _ _ h => h.topologyIn)

theorem Keeps.train (h : Keeps s t) {p : Nat} : Keeps s (t.train p) := h.portDown.setFab

theorem execPortRetrain_keeps (h : Keeps s t) {port : Port} : KeepsNext s (execPortRetrain port t) := (Keeps.ite h.train h).next

theorem execPortTrainingTimeout_keeps (h : Keeps s t) {port : Port} : KeepsNext s (execPortTrainingTimeout port t) :=
  .ite h.next (.ite h.record.fencePort.next h.record.setFab.next)

theorem execLinkUp_keeps (h : Keeps s t) {port : Port} : KeepsNext s (execLinkUp port t) :=
  .ite h.next (Keeps.ite h.put.put.setFab.raise.raise h.put.put.setFab.raise).queueOn.next

theorem execD2dFlitRetry_keeps (h : Keeps s t) {link : Fin 11} {compute : Bool} : KeepsNext s (execD2dFlitRetry link t compute) :=
  h.bump.next

theorem execD2dTrainingLost_keeps (h : Keeps s t) {link : Fin 11} : KeepsNext s (execD2dTrainingLost link t) := h.frame.next

theorem execD2dTrainingRecovered_keeps (h : Keeps s t) {link : Fin 11} : KeepsNext s (execD2dTrainingRecovered link t) := h.frame.next

theorem execD2dTrainingTimeout_keeps (h : Keeps s t) {link : Fin 11} : KeepsNext s (execD2dTrainingTimeout link t) :=
  .ite h.frame.record.enterHold.next h.next

/-! ### Reductions -/

theorem Keeps.setRed (h : Keeps s t) {r : RedSt} : Keeps s (t.setRed r) := h.frame

theorem Keeps.openBuckets (h : Keeps s t) {q step frame epoch : Nat} {anew grafted : Bool} :
    Keeps s (t.openBuckets q step frame epoch anew grafted) :=
  .ite h h.setRed

theorem Keeps.setPartAt (h : Keeps s t) {k : PartKey} {x : OpenPart} : Keeps s (t.setPartAt k x) := h.setRed

theorem Keeps.redCount (h : Keeps s t) {p : Page} {f : Fld} {bit : Nat} : Keeps s (t.redCount p f bit) := h.bump.raise

theorem Keeps.setNoise (h : Keeps s t) {q : Nat} {n : Noise} : Keeps s (t.setNoise q n) := h.frame

theorem Keeps.onStep (h : Keeps s t) {q step : Nat} {g : OpenStep → OpenStep} : Keeps s (t.onStep q step g) := by
  unfold State.onStep
  split
  · exact h.setRed
  · exact h

theorem Keeps.noiseFailed (h : Keeps s t) {q step : Nat} : Keeps s (t.noiseFailed q step) := h.bump.raise.onStep

theorem Keeps.retain (h : Keeps s t) {k : PartKey} {o : OpenStep} {c : Cert} {sums : List Int} : Keeps s (t.retain k o c sums) :=
  (Keeps.ite h.writeSpan h).writeSpan.writeSpan.setRed

theorem Keeps.rootCert (h : Keeps s t) {k : PartKey} {o : OpenStep} {x : OpenPart} : Keeps s (t.rootCert k o x).1 := by
  unfold State.rootCert
  dsimp only
  split
  · exact h
  · split
    · exact h
    · split
      · exact h
      · split
        · exact h
        · split
          · exact h.noiseFailed
          · exact h.setNoise.bump.bump.onStep

theorem Keeps.certify (h : Keeps s t) {k : PartKey} {o : OpenStep} : Keeps s (t.certify k o) :=
  (h.setPartAt.rootCert.foldl (fun _ _ h => h.send)).bump.retain

theorem Keeps.forwardPart (h : Keeps s t) {k : PartKey} {o : OpenStep} {t' : Machine.Tree} {rank : Nat} :
    Keeps s (t.forwardPart k o t' rank) :=
  (Keeps.ite h.setPartAt.bump h.setPartAt).send

theorem Keeps.sendOn (h : Keeps s t) {k : PartKey} {o : OpenStep} {t' : Machine.Tree} {rank : Nat} : Keeps s (t.sendOn k o t' rank) :=
  .ite h.certify h.forwardPart

theorem Keeps.sendOnWhole (h : Keeps s t) {k : PartKey} {o : OpenStep} {t' : Machine.Tree} {rank : Nat} :
    Keeps s (t.sendOnWhole k o t' rank) :=
  .ite h.sendOn h

theorem Keeps.ownPart (h : Keeps s t) {k : PartKey} {o : OpenStep} {sums : List Int} {sat poison : Bool} :
    Keeps s (t.ownPart k o sums sat poison) := by
  unfold State.ownPart
  dsimp only
  split
  · exact h
  · exact .ite h.redCount (Keeps.ite h.setPartAt (.ite h.setPartAt.redCount h.setPartAt)).sendOnWhole

theorem Keeps.contribute (h : Keeps s t) {q step desc tile : Nat} {qs : List Int} {sats : List Bool} {poison : Bool} :
    Keeps s (t.contribute q step desc tile qs sats poison) := by
  unfold State.contribute
  split
  · exact h
  · split
    · exact h
    · exact h.foldl (fun _ _ h => h.ownPart)

theorem Keeps.takeSums (h : Keeps s t) {w n : Nat} {payload : List Byte} : Keeps s (t.takeSums w n payload).1 := h.setRed

theorem Keeps.reduceIn (h : Keeps s t) {port q : Nat} {k : Packet} : Keeps s (t.reduceIn port q k) := by
  unfold State.reduceIn
  extract_lets pg
  split
  · exact h.redCount
  · extract_lets b t' x
    split
    · exact h.redCount
    · refine .ite h.redCount ?_
      refine .ite h.redCount ?_
      exact .ite h.redCount (Keeps.ite h.takeSums.setPartAt.bump (.ite h.setPartAt.redCount h.setPartAt)).sendOnWhole

theorem Keeps.certIn (h : Keeps s t) {port q : Nat} {k : Packet} : Keeps s (t.certIn port q k) := by
  unfold State.certIn
  dsimp only
  split
  · exact h.redCount
  · exact .ite h.redCount (.ite h.redCount (.ite h.redCount (Keeps.retain (by split; exacts [h, h.takeSums]))))

theorem Keeps.cutoff (h : Keeps s t) {q bucket step tile piece : Nat} {root : Bool} :
    Keeps s (t.cutoff q bucket step tile piece root) := by
  unfold State.cutoff
  split
  · exact h
  · dsimp only
    split
    · exact h
    · exact .ite h h.sendOn

theorem execLevelCutoff_keeps (h : Keeps s t) {part : Bed} {bucket step tile piece : Nat} :
    KeepsNext s (execLevelCutoff part bucket step tile piece t) :=
  h.cutoff.next

theorem execRootDeadline_keeps (h : Keeps s t) {part : Bed} {bucket step tile piece : Nat} :
    KeepsNext s (execRootDeadline part bucket step tile piece t) :=
  h.cutoff.next

theorem Keeps.setNextExps (h : Keeps s t) {q bucket step : Nat} {ok : Bool} : Keeps s (t.setNextExps q bucket step ok) := by
  unfold State.setNextExps
  split
  · exact h
  · exact h.foldl (fun _ _ h => h.setRed)

theorem Keeps.settle (h : Keeps s t) {q bucket step : Nat} {ok : Bool} : Keeps s (t.settle q bucket step ok) := by
  unfold State.settle
  refine .ite h ?_
  extract_lets pg u1 _ u2 u3
  have h1 : Keeps s u1 := h.setNextExps
  have h2 : Keeps s u2 := h1.setRed
  have h3 : Keeps s u3 := .ite h2 h2.bump.evt.record
  split
  · exact .ite h3.put.onStep h3
  · exact h3

/-! ### Keys of the fabric -/

theorem Keeps.drawBytes (h : Keeps s t) {n : Nat} : Keeps s (t.drawBytes n).2 := h.frame

theorem Keeps.seqNow (h : Keeps s t) {p : Nat} : Keeps s (t.seqNow p) := h.setFab

theorem Keeps.sendKa (h : Keeps s t) {p dest code : Nat} {body : List Byte} : Keeps s (t.sendKa p dest code body) := h.send

theorem Keeps.installLink (h : Keeps s t) {p : Nat} {gk : List Byte} : Keeps s (t.installLink p gk) := by
  unfold State.installLink
  split
  · exact h
  · exact .ite h h.setSession.seqNow.put

theorem Keeps.encPorts (h : Keeps s t) {p : Nat} : Keeps s (t.encPorts p) := h.foldl (fun _ _ h => h.put)

theorem Keeps.kaFail (h : Keeps s t) {p peer : Nat} : Keeps s (t.kaFail p peer) := h.raise.sendKa

theorem Keeps.sendSigned (h : Keeps s t) {p src : Nat} : Keeps s (t.sendSigned p src) := by
  unfold State.sendSigned
  split
  · exact h
  · exact h.sendKa

theorem Keeps.notePeer (h : Keeps s t) {p src : Nat} {key : List Byte} : Keeps s (t.notePeer p src key) := h.frame.setSession

theorem Keeps.takeEarly (h : Keeps s t) {p : Nat} : Keeps s (t.takeEarly p) := h.frame.foldl (fun _ _ h => .ite h.notePeer h.kaFail)

theorem Keeps.startKeying (h : Keeps s t) {p : Nat} : Keeps s (t.startKeying p) := by
  unfold State.startKeying
  refine .ite ?_ h.frame.setSession.sendKa
  refine .ite (h.takeEarly.drawBytes.installLink.foldl (fun _ _ h => h.sendSigned)).encPorts ?_
  exact h.takeEarly.drawBytes.installLink.foldl (fun _ _ h => h.sendSigned)

theorem Keeps.tryKey (h : Keeps s t) {p : Nat} : Keeps s (t.tryKey p) := by
  unfold State.tryKey
  refine .ite h ?_
  split
  · exact .ite h.startKeying h.installLink.encPorts
  · exact h

theorem Keeps.kaKeyIn (h : Keeps s t) {p src : Nat} {key : List Byte} : Keeps s (t.kaKeyIn p src key) :=
  .ite h (.ite h.notePeer.sendSigned h.notePeer)

theorem Keeps.kaSignedIn (h : Keeps s t) {p src : Nat} {key sig hash : List Byte} : Keeps s (t.kaSignedIn p src key sig hash) := by
  unfold State.kaSignedIn
  split
  · exact h
  · exact .ite h.setSession.sendKa h.kaFail

theorem Keeps.kaProofIn (h : Keeps s t) {p src : Nat} {sig hash : List Byte} : Keeps s (t.kaProofIn p src sig hash) := by
  unfold State.kaProofIn
  split
  · exact .ite (.ite h.sendKa.setSession.encPorts h.sendKa.setSession) h.kaFail
  · exact h

theorem Keeps.kaGroupIn (h : Keeps s t) {p src : Nat} {sealed : List Byte} : Keeps s (t.kaGroupIn p src sealed) := by
  unfold State.kaGroupIn
  split
  · exact h
  · dsimp only
    split
    · exact h.kaFail
    · exact .ite h.installLink.encPorts h.installLink

theorem Keeps.keyMessage (h : Keeps s t) {p src code : Nat} {body : List Byte} : Keeps s (t.keyMessage p src code body) := by
  unfold State.keyMessage
  refine .ite (.ite h.frame h) ?_
  refine .ite h.raise ?_
  split
  · exact h.kaFail
  · exact .ite h.kaKeyIn (.ite h.kaSignedIn (.ite h.kaProofIn h.kaGroupIn))

theorem Keeps.keyAnew (h : Keeps s t) {p : Nat} : Keeps s (t.keyAnew p) := by
  unfold State.keyAnew
  split
  · exact h
  · exact .ite h h.setSession.put.tryKey

theorem Keeps.setTimeRef (h : Keeps s t) {q : Nat} : Keeps s (t.setTimeRef q) := .ite h (.ite h.put.put.setAligned h.put.put)

theorem Keeps.askTime (h : Keeps s t) {q : Nat} : Keeps s (t.askTime q) := by
  unfold State.askTime
  refine .ite h.setTimeRef.tryKey ?_
  split
  · exact h.setTimeRef.tryKey.queueOn
  · exact h.setTimeRef.tryKey

/-! ### Votes and certificates -/

theorem Keeps.sendVote (h : Keeps s t) {k : VoteKey} {v : Vote} {ty dest : Nat} {x : VoteSum} :
    Keeps s (t.sendVote k v ty dest x) :=
  h.send

theorem Keeps.setVote (h : Keeps s t) {k : VoteKey} {v : Vote} : Keeps s (t.setVote k v) := h.setRed

theorem Keeps.openVote (h : Keeps s t) {b : Ballot} {piece : Nat} {elems : List Int} : Keeps s (t.openVote b piece elems) := by
  unfold State.openVote
  dsimp only
  split
  · exact h
  · exact .ite h.setVote (.ite h.setVote.sendVote (.ite (h.setVote.foldl (fun _ _ h => h.sendVote)) h.setVote))

theorem Keeps.openParts (h : Keeps s t) {b : Ballot} {elems : List Int} :
    Keeps s (t.openParts b elems) :=
  h.foldl (fun _ _ h => h.openVote)

theorem Keeps.openRunVotes (h : Keeps s t) {q v : Nat} : Keeps s (t.openRunVotes q v) := by
  unfold State.openRunVotes
  refine .ite h ?_
  refine .ite (Keeps.ite (Keeps.ite h.openParts h).openParts (.ite h.openParts h)).openParts ?_
  exact .ite (Keeps.ite h.openParts h).openParts (.ite h.openParts h)

theorem Keeps.openCloseVotes (h : Keeps s t) {q v : Nat} : Keeps s (t.openCloseVotes q v) := h.foldl (fun _ _ h => h.openParts)

theorem Keeps.openActivationVote (h : Keeps s t) {q v : Nat} : Keeps s (t.openActivationVote q v) := by
  unfold State.openActivationVote
  split
  · exact h
  · exact .ite h h.openParts

theorem Keeps.openGraftVote (h : Keeps s t) {q v : Nat} : Keeps s (t.openGraftVote q v) := h.foldl (fun _ _ h => h.openParts)

theorem Keeps.openVotes (h : Keeps s t) {q v : Nat} : Keeps s (t.openVotes q v) :=
  .ite h.setRed h.setRed.openRunVotes.openCloseVotes.openActivationVote.openGraftVote

theorem Keeps.voteAct (h : Keeps s t) {k : VoteKey} {v : Vote} {res : List Nat} {slot : Nat} : Keeps s (t.voteAct k v res slot) := by
  unfold State.voteAct
  extract_lets tree d due x
  split
  next => exact h
  next rank _ =>
    extract_lets u1 v'
    have h1 : Keeps s u1 := .ite h (.ite (.ite h.setVote.sendVote h) (.ite (h.setVote.foldl fun _ _ h => h.sendVote) h))
    exact .ite h1.setVote.sendVote h1

theorem Keeps.voteSlot (h : Keeps s t) {p slot : Nat} : Keeps s (t.voteSlot p slot) := .ite (h.foldl (fun _ _ h => h.voteAct)) h

theorem Keeps.slotZero (h : Keeps s t) {p : Nat} : Keeps s (t.slotZero p) := .ite (.ite h.sendBeat h) (Keeps.ite h.sendBeat h).askTime

theorem Keeps.slotOther (h : Keeps s t) {p slot : Nat} : Keeps s (t.slotOther p slot) := by
  unfold State.slotOther
  dsimp only
  split
  · exact h.voteSlot.setFab.transmit.bump
  · split
    · exact h.voteSlot.sendPicked
    · exact h.voteSlot

theorem execSlotSend_keeps (h : Keeps s t) {port : Port} {slot : Nat} : KeepsNext s (execSlotSend port slot t) :=
  (Keeps.ite (.ite h.sendBeat h) (.ite h (.ite h.slotZero h.slotOther))).next

theorem Keeps.voteInput (h : Keeps s t) {v : Vote} {k : Packet} : Keeps s (t.voteInput v k).1 := h.takeSums

theorem Keeps.voteIn (h : Keeps s t) {port q : Nat} {k : Packet} : Keeps s (t.voteIn port q k) := by
  unfold State.voteIn
  dsimp only
  split
  · exact h.redCount
  · split
    · refine .ite h.redCount ?_
      refine .ite (.ite h.redCount (.ite h.redCount h.voteInput.setVote.bump)) ?_
      exact .ite (.ite h.redCount h.voteInput.setVote.bump) h.redCount
    · exact h.redCount

theorem Keeps.voteFail (h : Keeps s t) {q : Nat} : Keeps s (t.voteFail q) := h.bump.evt.record.leaveGroup.frame.enterHold

theorem Keeps.voteCertIn (h : Keeps s t) {port q : Nat} {k : Packet} : Keeps s (t.voteCertIn port q k) := by
  unfold State.voteCertIn
  dsimp only
  split
  · exact h.redCount
  · refine .ite h.redCount ?_
    split
    · exact .ite h h.voteInput.setVote
    · exact .ite h h.voteFail

theorem execReduceReceive_keeps (h : Keeps s t) {port : Port} {packet : Packet} : KeepsNext s (execReduceReceive port packet t) :=
  h.consume (fun _ _ h => .ite h.voteIn h.reduceIn)

theorem execCertReceive_keeps (h : Keeps s t) {port : Port} {packet : Packet} : KeepsNext s (execCertReceive port packet t) :=
  h.consume (fun _ _ h => .ite h.voteCertIn h.certIn)

theorem Keeps.actPrecision (h : Keeps s t) {q step : Nat} {l : List Int} : Keeps s (t.actPrecision q step l) := h.setPart

theorem Keeps.actLoss (h : Keeps s t) {q v : Nat} {l : List Int} : Keeps s (t.actLoss q v l) :=
  .ite h (.ite h.setPart.setRed.record.leaveGroup.enterHold h.setPart.setRed)

theorem Keeps.refuseSwitch (h : Keeps s t) {b : Nat} : Keeps s (t.refuseSwitch b) := by
  unfold State.refuseSwitch
  split
  · exact h
  · exact (Keeps.ite h.dropPending h.dropPending.setSeq).evt

theorem Keeps.actActivation (h : Keeps s t) {q : Nat} {c : VoteSum} : Keeps s (t.actActivation q c) := by
  unfold State.actActivation
  split
  · exact h
  · extract_lets id same beds
    refine .ite (h.foldl (fun _ _ h => by split; exacts [h.setBed, h])) ?_
    exact (h.foldl (fun _ _ h => h.refuseSwitch)).record

theorem Keeps.releaseGrads (h : Keeps s t) {q step : Nat} : Keeps s (t.releaseGrads q step) := by
  unfold State.releaseGrads
  extract_lets f
  exact h.foldl (fun _ _ h => h.foldl (fun _ _ h => by split; exacts [.ite h.releaseLine h, h]))

theorem Keeps.actCommit (h : Keeps s t) {q step : Nat} {sum : Int} : Keeps s (t.actCommit q step sum) :=
  .ite (h.foldl (fun _ _ h => h.releaseGrads)).setPart h.setPart

theorem Keeps.actGraft (h : Keeps s t) {q v step count : Nat} : Keeps s (t.actGraft q v step count) := by
  unfold State.actGraft
  split
  · exact h
  · exact .ite h.setPart h.setPart.raise

theorem Keeps.actClose (h : Keeps s t) {q : Nat} {l : List (Nat × Nat)} {c : VoteSum} : Keeps s (t.actClose q l c) :=
  h.foldl (fun _ _ h => h.settle)

theorem Keeps.actVote (h : Keeps s t) {q code v step : Nat} {about : List (Nat × Nat)} {c : VoteSum} :
    Keeps s (t.actVote q code v step about c) := by
  unfold State.actVote
  refine .ite h.actPrecision ?_
  exact .ite h.actLoss (.ite h.actActivation (.ite h.actCommit (.ite h.actGraft h.actClose)))

theorem Keeps.noCert (h : Keeps s t) {q code v step : Nat} : Keeps s (t.noCert q code v step) := .ite h.voteFail (.ite h.actGraft h)

theorem Keeps.closeVote (h : Keeps s t) {q code frame step : Nat} : Keeps s (t.closeVote q code frame step) := by
  unfold State.closeVote
  have h1 : Keeps s ((t.voteParts q code frame step).foldl
      (fun s e => s.setVote e.1 { e.2 with acted := true, cert := certOf e.2 }) t) := h.foldl fun _ _ h => h.setVote
  dsimp only
  split
  · exact h1
  · exact .ite h1 (.ite (Keeps.ite h1.bump h1).actVote h1.noCert)

theorem Keeps.actVotes (h : Keeps s t) {q n : Nat} : Keeps s (t.actVotes q n) := h.foldl (fun _ _ h => h.foldl (fun _ _ h => h.closeVote))

end Sys2Proof.Machine
end

section
/-! PROOFS. Every operation of the model keeps the staging legal and the partition count one of R16 (`Keeps`): tiles, layers and frame ticks. -/

namespace Sys2Proof.Machine

variable {s t : State}

/-! ### Quantised tiles -/

theorem Keeps.watchAdd (h : Keeps s t) {b : Nat} {d : Desc} {counts : List Nat} : Keeps s (t.watchAdd b d counts) := .ite h.setCores h

theorem Keeps.quantEvt (h : Keeps s t) {b : Nat} {d : Desc} {step bit : Nat} {on : Bool} : Keeps s (t.quantEvt b d step bit on) :=
  .ite h (.ite (h.evt.onceDo (fun _ h => h.record)) h.evt)

theorem Keeps.watchNorm (h : Keeps s t) {b c : Nat} {d : Desc} {order x : List Nat} : Keeps s (t.watchNorm b c d order x) :=
  .ite h.raiseFlags.setCores h

theorem Keeps.watchAmax (h : Keeps s t) {b : Nat} {d : Desc} {x : List Nat} : Keeps s (t.watchAmax b d x) := .ite h.setCores h

theorem Keeps.quantWrite (h : Keeps s t) {b : Nat} {d : Desc} {addr : Nat} {bs : List Byte} {poison : Bool} :
    Keeps s (t.quantWrite b d addr bs poison) :=
  h.writeSpan

theorem Keeps.quantScaled (h : Keeps s t) {b c : Nat} {d : Desc} {r : Released} {x : List Nat} {tee : Nat} :
    Keeps s (t.quantScaled b c d r x tee) := by
  unfold State.quantScaled
  extract_lets t' turned x u1 y blocks pad req rd entry cal u2 rnd bs v mis sum sat esc ovf poi u3 u4 u5
  have h2 : Keeps s u2 := by
    dsimp only [u2, rd]
    split
    · exact h.watchAmax
    · exact h.watchAmax.readSpan
  have h3 : Keeps s u3 := .ite h2 h2.writeSpan
  have h5 : Keeps s u5 := .ite h3.quantWrite h3.quantWrite.quantWrite
  exact h5.raiseFlags.watchAdd.quantEvt.quantEvt.quantEvt.quantEvt

theorem Keeps.quantPlain (h : Keeps s t) {b c : Nat} {d : Desc} {r : Released} {x : List Nat} : Keeps s (t.quantPlain b c d r x) :=
  h.quantWrite.raiseFlags.watchAdd

theorem Keeps.quantI16 (h : Keeps s t) {b c desc : Nat} {d : Desc} {r : Released} {x : List Nat} {e : Int} :
    Keeps s (t.quantI16 b c desc d r x e) :=
  h.raiseFlags.watchAdd.contribute

theorem Keeps.quantCopy (h : Keeps s t) {b c : Nat} {r : Released} {d : Desc} {x : List Nat} : Keeps s (t.quantCopy b c r d x) :=
  h.watchNorm.quantScaled

theorem Keeps.quantTile (h : Keeps s t) {b c : Nat} {r : Released} {e : Int} : Keeps s (t.quantTile b c r e) := by
  unfold State.quantTile
  extract_lets u1 n f d x u2 u3 u4
  have h1 : Keeps s u1 := h
  have h2 : Keeps s u2 := h.raiseFlags
  have h3 : Keeps s u3 := by
    dsimp only [u3]
    split
    · exact h2.freeSlots
    · exact h2
  have h4 : Keeps s u4 := h3.watchNorm
  refine .ite ?_ (.ite h4.quantI16 h4.quantPlain)
  split
  · exact .ite h4.quantScaled.quantCopy h4.quantScaled
  · exact h4.quantScaled

theorem Keeps.setReleased (h : Keeps s t) {n : Nat} {l : List Released} : Keeps s (t.setReleased n l) := h.setCores

theorem execQuantiseTile_keeps (h : Keeps s t) {bed : Bed} {core : Core} : KeepsNext s (execQuantiseTile bed core t) := by
  unfold execQuantiseTile
  refine .ite h.next ?_
  split
  · exact h.next
  · refine .ite ?_ h.setReleased.quantTile.next
    split
    · exact Keeps.next (by split; exacts [h.setReleased.freeSlots, h.setReleased])
    · split
      · exact h.setReleased.next
      · exact h.slip.setReleased.quantTile.next

/-! ### Layers and their precision -/

theorem Keeps.closeWatch (h : Keeps s t) {b : Nat} : Keeps s (t.closeWatch b) := h.setCores

theorem Keeps.normFlags (h : Keeps s t) {b : Nat} : Keeps s (t.normFlags b) := h.foldl (fun _ _ h => h.raiseFlags)

theorem Keeps.watchSnap (h : Keeps s t) {b step : Nat} : Keeps s (t.watchSnap b step) :=
  (h.closeWatch.normFlags.resetFields.foldl (fun _ _ h => h.foldl (fun _ _ h => h.put))).put.put

theorem Keeps.normSlot (h : Keeps s t) {q : Nat} {beds : List Nat} {slot : Nat} : Keeps s (t.normSlot q beds slot).1 := by
  unfold State.normSlot
  split
  · exact h
  · exact .ite (h.foldl (fun _ _ h => h.put.put)).setPart.raise (h.foldl (fun _ _ h => h.put.put)).setPart

theorem Keeps.norms (h : Keeps s t) {q : Nat} {beds : List Nat} : Keeps s (t.norms q beds).1 :=
  (h.foldl (fun _ _ h => h.resetFields)).foldlPair (fun _ _ h => h.normSlot)

theorem Keeps.localTrips (h : Keeps s t) {q : Nat} {beds jumps : List Nat} : Keeps s (t.localTrips q beds jumps) := by
  unfold State.localTrips
  refine .ite h.setPart (Keeps.setPart (Keeps.foldlPair h fun y l hy => ?_))
  extract_lets tests u1 u2 u3
  have h1 : Keeps s u1 := .ite hy.raise hy
  have h2 : Keeps s u2 := .ite h1.raise h1
  have h3 : Keeps s u3 := .ite h2.raise h2
  split
  · exact h3
  · exact hy

theorem Keeps.nextScale (h : Keeps s t) {k : Nat × Nat} {amax : Nat} : Keeps s (t.nextScale k amax) := by
  unfold State.nextScale
  dsimp only
  split
  · exact h.setCores
  · exact .ite h h.setCores

theorem Keeps.nextScales (h : Keeps s t) {j : Nat} : Keeps s (t.nextScales j) := (h.foldl (fun _ _ h => h.nextScale)).setCores

theorem Keeps.moveState (h : Keeps s t) {lp : Page} {layer st step : Nat} : Keeps s (t.moveState lp layer st step) := .ite h h.put.put.put

theorem Keeps.enterLayer (h : Keeps s t) {lp : Page} {layer st step byRetry shift : Nat} :
    Keeps s (t.enterLayer lp layer st step byRetry shift) :=
  h.put.put.put.put.put

theorem Keeps.noteMove (h : Keeps s t) {q layer step : Nat} : Keeps s (t.noteMove q layer step) := h.setPart

theorem Keeps.moveLayer (h : Keeps s t) {q : Nat} {f : File} {layer st step byRetry shift : Nat} :
    Keeps s (t.moveLayer q f layer st step byRetry shift) :=
  .ite h.enterLayer.noteMove h.record

theorem Keeps.evalLayer (h : Keeps s t) {q : Nat} {f : File} {layer step : Nat} : Keeps s (t.evalLayer q f layer step) := by
  unfold State.evalLayer
  refine .ite (.ite h.bump.record (.ite h.bump.put h.bump)) ?_
  exact .ite (.ite h.bump.put.record h.bump.moveLayer) (.ite h.bump.moveLayer (.ite h.bump.put h.bump))

theorem Keeps.evalLayers (h : Keeps s t) {q step : Nat} : Keeps s (t.evalLayers q step) :=
  (Keeps.ite h (h.foldl (fun _ _ h => h.evalLayer))).setPart

/-! ### Frame ticks: due sets, switches, starts and steps -/

theorem Keeps.passSkipped (h : Keeps s t) {b : Nat} : Keeps s (t.passSkipped b) :=
  .ite h (h.onCores (fun _ _ h => h.foldl (fun _ _ h => h.nextEntry)))

theorem Keeps.countStalls (h : Keeps s t) {b : Nat} : Keeps s (t.countStalls b) :=
  h.onCores (fun _ _ h => h.foldl (fun _ _ h => .ite h.bump.put h))

theorem Keeps.realign (h : Keeps s t) {b : Nat} : Keeps s (t.realign b) := by
  unfold State.realign
  extract_lets u1 u2 u3 u4
  have h1 : Keeps s u1 := h.bump
  have h2 : Keeps s u2 := .ite h1.evt h1.raise
  have h3 : Keeps s u3 := h2.onCores (fun _ _ h => h.foldl (fun _ _ h => .ite h.ctxReset h))
  have h4 : Keeps s u4 := h3.stopRunning.setSeq
  exact h4.setBed

theorem Keeps.overrun (h : Keeps s t) {b : Nat} : Keeps s (t.overrun b) := h.bump.raise.skipFrame.setSeq.setBed

theorem Keeps.noteSlack (h : Keeps s t) {b : Nat} : Keeps s (t.noteSlack b) := h.setBed

theorem Keeps.closeRun (h : Keeps s t) {b : Nat} : Keeps s (t.closeRun b) := by
  unfold State.closeRun
  refine .ite h.passSkipped.countStalls.noteSlack.idleBed ?_
  refine .ite h.passSkipped.countStalls.noteSlack.realign ?_
  exact .ite h.passSkipped.countStalls.noteSlack.overrun h.passSkipped.countStalls.noteSlack

theorem Keeps.coarseSnap (h : Keeps s t) {b : Nat} : Keeps s (t.coarseSnap b) := h.frame

theorem Keeps.tickPages (h : Keeps s t) {b : Nat} : Keeps s (t.tickPages b) := h.foldl (fun _ _ h => .ite h.tickPage h)

theorem Keeps.dalStale (h : Keeps s t) {b : Nat} : Keeps s (t.dalStale b) := by
  unfold State.dalStale
  extract_lets l u1
  have h1 : Keeps s u1 := by
    dsimp only [u1]
    exact h.foldl (fun _ _ h => by split; exacts [h.staleLine.bump, h.setCache])
  exact .ite h1.raise h1

theorem Keeps.nfStep (h : Keeps s t) {b step : Nat} : Keeps s (t.nfStep b step) := by
  unfold State.nfStep
  dsimp only
  split
  · exact h.put.put.put.put
  · exact h.put.put.put.put.recordAt.setBed

theorem Keeps.bedBoundary (h : Keeps s t) {b : Nat} : Keeps s (t.bedBoundary b) := by
  unfold State.bedBoundary
  extract_lets p step u1 _ u2 u3 u4
  have h1 : Keeps s u1 := h.nfStep.dalStale.put
  have h2 : Keeps s u2 := h1.setBed
  have h3 : Keeps s u3 := h2.frame
  have h4 : Keeps s u4 := .ite h3 h3.nextScales
  exact h4.put.put.openStep

theorem Keeps.creditUnit (h : Keeps s t) {q : Nat} {f : File} {u' step : Nat} : Keeps s (t.creditUnit q f u' step) := .ite h.put h

theorem Keeps.creditUnits (h : Keeps s t) {q step : Nat} : Keeps s (t.creditUnits q step) := h.foldl (fun _ _ h => h.creditUnit)

theorem Keeps.forgetUpdates (h : Keeps s t) {q : Nat} : Keeps s (t.forgetUpdates q) := h.frame

theorem Keeps.latchGroups (h : Keeps s t) {q step : Nat} : Keeps s (t.latchGroups q step) := h.frame

theorem Keeps.reseedFail (h : Keeps s t) {q : Nat} : Keeps s (t.reseedFail q) := h.setNoise.put.record

theorem Keeps.reseedOk (h : Keeps s t) {q : Nat} : Keeps s (t.reseedOk q) := h.frame.bump.put.put.put

theorem Keeps.retryNoise (h : Keeps s t) {q : Nat} : Keeps s (t.retryNoise q) := .ite h (.ite h.reseedFail h.reseedOk)

theorem Keeps.partWatch (h : Keeps s t) {q : Nat} : Keeps s (t.partWatch q) := h.norms.localTrips.setCores

theorem Keeps.partBoundary (h : Keeps s t) {q step : Nat} : Keeps s (t.partBoundary q step) := by
  unfold State.partBoundary
  refine .ite h.nextScales.put.put.creditUnits.evalLayers.setPart.latchGroups.retryNoise.holdBeds.raise ?_
  exact h.nextScales.put.put.creditUnits.evalLayers.setPart.latchGroups.retryNoise

theorem Keeps.putOwned (h : Keeps s t) {p : Page} {f : Fld} {v step : Nat} : Keeps s (t.putOwned p f v step) :=
  .ite (.ite h.moveState h.moveState.noteMove) h.put

theorem Keeps.writeOwned (h : Keeps s t) {mine : Page → Bool} {states : Bool} {step off v : Nat} :
    Keeps s (t.writeOwned mine states step off v) := by
  unfold State.writeOwned
  split
  · exact h
  · exact .ite (h.foldl (fun _ _ h => .ite h.putOwned h)) h

theorem Keeps.writeAllOwned (h : Keeps s t) {b : Nat} {f : File} {states : Bool} {step : Nat} :
    Keeps s (t.writeAllOwned b f states step) :=
  h.foldl (fun _ _ h => h.writeOwned)

theorem Keeps.loadGroups (h : Keeps s t) {q : Nat} {f : File} : Keeps s (t.loadGroups q f) :=
  .ite h ((h.resetFields.foldl (fun _ _ h => .ite h h.put)).foldl (fun _ _ h => h.put))

theorem Keeps.zeroCounters (h : Keeps s t) {b : Nat} : Keeps s (t.zeroCounters b) := by
  unfold State.zeroCounters
  extract_lets q u1 u2 u3 u4
  have h1 : Keeps s u1 := h.resetFields
  have h2 : Keeps s u2 := h1.delRegs
  have h3 : Keeps s u3 := h2.foldl (fun _ _ h => h.resetFields)
  have h4 : Keeps s u4 := h3.foldl (fun _ _ h => h.resetFields)
  exact .ite h4.resetFields.put.put.put h4

theorem Keeps.seedNoise (h : Keeps s t) {q : Nat} : Keeps s (t.seedNoise q) :=
  .ite h.put.setNoise.put.reseedFail h.put.draw.setNoise.put.put

theorem Keeps.setHeader (h : Keeps s t) {b n : Nat} {f : File} : Keeps s (t.setHeader b n f) := (Keeps.ite h h.put.put.setBed).put.put.put

theorem Keeps.switchBed (h : Keeps s t) {b slot step epoch n : Nat} : Keeps s (t.switchBed b slot step epoch n) := by
  unfold State.switchBed
  extract_lets q f x u1 _ u2 u3 u4 p u5 u6 u7
  have h1 : Keeps s u1 := h.setBed
  have h2 : Keeps s u2 := h1.setCores
  have h3 : Keeps s u3 := h2.copyLists.setHeader.showArm
  have h4 : Keeps s u4 := h3.zeroCounters
  have h5 : Keeps s u5 := h4.put.put.put
  have h6 : Keeps s u6 := h5.setSeq.openStep
  have h7 : Keeps s u7 := h6.foldl (fun _ _ h => h.put)
  exact h7.raise

theorem Keeps.newJob (h : Keeps s t) {q : Nat} : Keeps s (t.newJob q) := .ite h.frame h

theorem Keeps.dropScales (h : Keeps s t) {j : Nat} : Keeps s (t.dropScales j) := h.setCores

theorem Keeps.switchPart (h : Keeps s t) {q slot step : Nat} {job : Bool} : Keeps s (t.switchPart q slot step job) := by
  unfold State.switchPart
  extract_lets f x u1 u2 u3
  have h1 : Keeps s u1 := h.setPart
  have h2 : Keeps s u2 := .ite h1.forgetUpdates.dropScales h1
  have h3 : Keeps s u3 := (Keeps.ite h2.newJob.seedNoise h2).setTimeRef
  exact h3.loadGroups.latchGroups

theorem Keeps.activateAt (h : Keeps s t) {b n : Nat} : Keeps s (t.activateAt b n) := by
  unfold State.activateAt
  split
  · exact h
  · refine .ite h (.ite h.refuseSwitch.record ?_)
    extract_lets lead _ u1 u2 u3
    have h1 : Keeps s u1 := h.setBed.put
    have h2 : Keeps s u2 := .ite h1 h1.dropScales
    have h3 : Keeps s u3 := .ite h2.switchPart h2
    exact h3.switchBed.writeAllOwned

theorem Keeps.epochBoundary (h : Keeps s t) {q n step : Nat} : Keeps s (t.epochBoundary q n step) := by
  unfold State.epochBoundary
  split
  · exact h
  · extract_lets beds ids v epoch _ u1 u2
    have h1 : Keeps s u1 := h.setPart
    have h2 : Keeps s u2 := h1.foldl fun _ _ h => h.put
    refine .ite h2.holdBeds.setPart ?_
    cases v with
    | none => exact h2.holdBeds.raise
    | some x => exact (Keeps.ite h2.switchPart h2.switchPart.setPart).foldl fun _ _ h => h.switchBed.writeAllOwned

theorem Keeps.graftLayer (h : Keeps s t) {lp : Page} {h' step l : Nat} : Keeps s (t.graftLayer lp h' step l) := h.put.put.put.put.put

theorem Keeps.joinGraft (h : Keeps s t) {q n : Nat} : Keeps s (t.joinGraft q n) := by
  unfold State.joinGraft
  split
  · exact h
  · extract_lets f epoch lp beds u1 u2 u3 _ u4
    have h1 : Keeps s u1 := h.switchPart.foldl (fun _ _ h => h.switchBed)
    have h2 : Keeps s u2 := h1.foldl (fun _ _ h => h.writeAllOwned)
    have h3 : Keeps s u3 := h2.foldl (fun _ _ h => h.graftLayer)
    have h4 : Keeps s u4 := h3.setPart
    exact h4.setFab

theorem Keeps.newBudgets (h : Keeps s t) {b : Nat} :
    Keeps s (t.newBudgets b) :=
  .ite h.setMem (h.setMem.foldl (fun _ _ h => h.put)).put.put

theorem Keeps.openBudgets (h : Keeps s t) {b : Nat} : Keeps s (t.openBudgets b) := h.newBudgets.clipWaiting

theorem Keeps.openBed (h : Keeps s t) {b : Nat} : Keeps s (t.openBed b) := .ite h.openFrame.openBudgets.skipFrame h.openFrame.openBudgets

theorem Keeps.streamLines (h : Keeps s t) {q dest a len : Nat} {place : Nat → Nat} : Keeps s (t.streamLines q dest a len place) :=
  h.foldl (fun _ _ h => h.readSpan.send)

theorem Keeps.streamWard (h : Keeps s t) {q n : Nat} : Keeps s (t.streamWard q n) := by
  unfold State.streamWard
  dsimp only
  split
  · exact h
  · exact .ite h.streamLines h

theorem Keeps.streamStep (h : Keeps s t) {q : Nat} {f : File} {dest step : Nat} : Keeps s (t.streamStep q f dest step) :=
  (h.foldl (fun _ _ h => h.streamLines)).streamLines

theorem Keeps.streamSource (h : Keeps s t) {q n : Nat} : Keeps s (t.streamSource q n) := by
  unfold State.streamSource
  dsimp only
  split
  · exact h
  · refine .ite h ?_
    split
    · exact h
    · exact h.foldl (fun _ _ h => h.streamStep)

theorem Keeps.openPart (h : Keeps s t) {q n : Nat} {anew grafted : Bool} : Keeps s (t.openPart q n anew grafted) :=
  (Keeps.ite h.openBuckets h).openVotes.askTime.streamWard.streamSource

theorem Keeps.closeBed (h : Keeps s t) {b n : Nat} {boundary : Bool} : Keeps s (t.closeBed b n boundary) := by
  unfold State.closeBed
  refine .ite (Keeps.ite h.closeRun h).setBed.put.coarseSnap.endStops.tickPages.watchSnap ?_
  exact (Keeps.ite h.closeRun h).setBed.put.coarseSnap.endStops.tickPages

theorem Keeps.countStep (h : Keeps s t) {b : Nat} {boundary : Bool} :
    Keeps s (t.countStep b boundary) :=
  .ite h.bedBoundary (.ite h.put h)

theorem Keeps.tickPart (h : Keeps s t) {q n : Nat} {boundary : Bool} : Keeps s (t.tickPart q n boundary) :=
  .ite (Keeps.ite h.partBoundary h).epochBoundary (Keeps.ite h.partBoundary h).joinGraft

theorem Keeps.tick (h : Keeps s t) {b : Nat} : Keeps s (t.tick b) := by
  unfold State.tick
  extract_lets q n beds lead first edge u1 u2 u3 u4 anew grafted u5 u6 u7 u8
  have h1 : Keeps s u1 := h.foldl (fun _ _ h => h.closeBed)
  have h2 : Keeps s u2 := .ite h1.partWatch h1
  have h3 : Keeps s u3 := h2.foldl (fun _ _ h => h.countStep)
  have h4 : Keeps s u4 := .ite h3.actVotes h3
  have h5 : Keeps s u5 := .ite h4.tickPart h4
  have h6 : Keeps s u6 := h5.foldl (fun _ _ h => h.activateAt)
  have h7 : Keeps s u7 := .ite h6.sampleWatts.clockTick.trimTick h6
  have h8 : Keeps s u8 := (h7.foldl (fun _ _ h => h.openBed)).applyTopo
  exact .ite h8.openPart h8

theorem Keeps.tickIf (h : Keeps s t) {b : Nat} {on : Bool} : Keeps s (t.tickIf b on) := .ite h.tick h

theorem execFrameTick_keeps (h : Keeps s t) {bed : Bed} : KeepsNext s (execFrameTick bed t) := h.tickIf.next

theorem execStepBoundary_keeps (h : Keeps s t) {bed : Bed} : KeepsNext s (execStepBoundary bed t) := h.tickIf.next

theorem Keeps.leadTick (h : Keeps s t) {q : Nat} {on : Nat → Bool} : Keeps s (t.leadTick q on) := h.tickIf

theorem execVoteDeadline_keeps (h : Keeps s t) {part : Bed} {code : Nat} : KeepsNext s (execVoteDeadline part code t) := h.leadTick.next

theorem execPrecisionRetry_keeps (h : Keeps s t) {part : Bed} {layer : Nat} : KeepsNext s (execPrecisionRetry part layer t) :=
  h.leadTick.next

theorem execPrecisionShiftReset_keeps (h : Keeps s t) {part : Bed} {layer : Nat} : KeepsNext s (execPrecisionShiftReset part layer t) :=
  h.leadTick.next

theorem execChangeForced_keeps (h : Keeps s t) {bed : Bed} : KeepsNext s (execChangeForced bed t) := h.tickIf.next

theorem execNfTrap_keeps (h : Keeps s t) {bed : Bed} : KeepsNext s (execNfTrap bed t) := .ite h.setBed.next h.next

theorem execContextStallTimeout_keeps (h : Keeps s t) {bed : Bed} {core : Core} {ctx : Sys2Proof.Ctx} :
    KeepsNext s (execContextStallTimeout bed core ctx t) :=
  .ite h.ctxReset.next h.next

theorem execSequencerAckTimeout_keeps (h : Keeps s t) {bed : Bed} : KeepsNext s (execSequencerAckTimeout bed t) :=
  .ite h.record.skipFrame.setSeq.setBed.next h.next

end Sys2Proof.Machine
end

section
/-! PROOFS. Every operation of the model keeps the staging legal and the partition count one of R16 (`Keeps`): the recorder, power, commands, transfers and the update units. -/

namespace Sys2Proof.Machine

variable {s t : State}

/-! ### The event recorder -/

theorem Keeps.showHoldup (h : Keeps s t) : Keeps s t.showHoldup := h.put.put

theorem execHoldupSample_keeps (h : Keeps s t) {millivolts : Nat} : KeepsNext s (execHoldupSample millivolts t) :=
  .ite h.frame.showHoldup.next h.next

theorem Keeps.holdupLow (h : Keeps s t) : Keeps s t.holdupLow := .ite h.bump h.bump.raise

theorem Keeps.beginStore (h : Keeps s t) {kind : Nat} : Keeps s (t.beginStore kind) := h.put.put

theorem Keeps.spend (h : Keeps s t) {kind : Nat} : Keeps s (t.spend kind) := h.frame.showHoldup

theorem Keeps.setRec (h : Keeps s t) {r : RecSt} : Keeps s (t.setRec r) := h.frame

theorem Keeps.storeRecord (h : Keeps s t) {r : Record} : Keeps s (t.storeRecord r) := by
  unfold State.storeRecord
  refine .ite ?_ h.setRec.put
  split
  · exact h
  · exact h.setRec.put

theorem Keeps.noteLedger (h : Keeps s t) {r : Record} : Keeps s (t.noteLedger r) := by
  unfold State.noteLedger
  refine .ite ?_ h
  split
  · exact h
  · exact Keeps.put (by split; exacts [h.frame, h])

theorem Keeps.checkProt (h : Keeps s t) : Keeps s t.checkProt := .ite h.put.raise h.put

theorem Keeps.enqueueAll (h : Keeps s t) {l : List Record} : Keeps s (t.enqueueAll l) := h.foldl (fun _ _ h => h.enqueue)

theorem Keeps.feedPending (h : Keeps s t) : Keeps s t.feedPending := h.foldl (fun _ _ h => .ite h.setRec.enqueue h)

theorem Keeps.feedLedger (h : Keeps s t) {q : Nat} : Keeps s (t.feedLedger q) := h.foldl (fun _ _ h => .ite h.frame.enqueueAll h)

theorem Keeps.feedAudit (h : Keeps s t) : Keeps s t.feedAudit := h.foldl (fun _ _ h => .ite h.setRec.enqueueAll h)

theorem Keeps.feedDropped (h : Keeps s t) : Keeps s t.feedDropped := by
  unfold State.feedDropped
  split
  · exact h
  · exact .ite h.setRec.postGeneral h

theorem Keeps.feed (h : Keeps s t) : Keeps s t.feed := (h.feedPending.feedAudit.foldl (fun _ _ h => h.feedLedger)).feedDropped

theorem Keeps.takeBatch (h : Keeps s t) : Keeps s t.takeBatch := h.setRec

theorem Keeps.writeBatch (h : Keeps s t) : Keeps s t.writeBatch := (h.foldl (fun _ _ h => h.storeRecord.noteLedger)).setRec.checkProt.feed

theorem Keeps.beginBatch (h : Keeps s t) : Keeps s t.beginBatch := h.takeBatch.beginStore.put.put

theorem Keeps.tryStore (h : Keeps s t) {kind : Nat} : Keeps s (t.tryStore kind) :=
  .ite h (.ite (Keeps.ite h.put h).holdupLow (.ite h.beginBatch h.beginStore))

theorem execDurableStoreStart_keeps (h : Keeps s t) {kind : Fin 4} : KeepsNext s (execDurableStoreStart kind t) := h.tryStore.next

theorem execDurableStoreRetry_keeps (h : Keeps s t) {kind : Fin 4} : KeepsNext s (execDurableStoreRetry kind t) :=
  (Keeps.ite h.tryStore h).next

theorem execEventBatchStore_keeps (h : Keeps s t) : KeepsNext s (execEventBatchStore t) :=
  (Keeps.ite (Keeps.ite h.tryStore h).writeBatch (.ite h.tryStore h)).next

theorem Keeps.writeHdr (h : Keeps s t) : Keeps s t.writeHdr := h.frame

theorem Keeps.readHdr (h : Keeps s t) : Keeps s t.readHdr := by
  unfold State.readHdr
  split
  · exact h
  · exact h.frame.put

theorem Keeps.storeDone (h : Keeps s t) {kind : Nat} : Keeps s (t.storeDone kind) :=
  .ite (Keeps.ite h h.writeBatch).put (.ite h.frame (.ite h.frame h.writeHdr))

theorem Keeps.finishStore (h : Keeps s t) : Keeps s t.finishStore := .ite h.storeDone.put.spend h

theorem execDurableStoreComplete_keeps (h : Keeps s t) : KeepsNext s (execDurableStoreComplete t) := h.finishStore.next

theorem execOpSecond_keeps (h : Keeps s t) : KeepsNext s (execOpSecond t) := .ite h.next h.setRec.bump.next

theorem execHours_keeps (h : Keeps s t) : KeepsNext s (execHours t) := .ite h.record.next h.next

theorem execRepeatSecond_keeps (h : Keeps s t) : KeepsNext s (execRepeatSecond t) := (h.foldl (fun _ _ h => h.queueGeneral)).frame.next

theorem Keeps.askFreeze (h : Keeps s t) : Keeps s t.askFreeze := .ite h h.setRec

theorem Keeps.endFreeze (h : Keeps s t) : Keeps s t.endFreeze := h.setRec.put.put

theorem execFreeze_keeps (h : Keeps s t) : KeepsNext s (execFreeze t) := (h.hostWriteL (fun _ h => h.askFreeze)).next

theorem execUnfreeze_keeps (h : Keeps s t) : KeepsNext s (execUnfreeze t) := (h.hostWriteL (fun _ h => h.endFreeze)).next

theorem execFreezeEffective_keeps (h : Keeps s t) : KeepsNext s (execFreezeEffective t) := .ite h.setRec.put.put.next h.next

theorem execFreezeTimeout_keeps (h : Keeps s t) : KeepsNext s (execFreezeTimeout t) := .ite h.endFreeze.evt.record.next h.next

theorem Keeps.markRead (h : Keeps s t) {k : Nat} : Keeps s (t.markRead k) := .ite h.setRec h

theorem execRecordRead_keeps (h : Keeps s t) : KeepsNext s (execRecordRead t) := (h.onBar (fun _ h => h.markRead.answer)).next

/-! ### The ledger -/

theorem execLedgerEntryWrite_keeps (h : Keeps s t) {part : Bed} : KeepsNext s (execLedgerEntryWrite part t) := by
  unfold execLedgerEntryWrite
  dsimp only
  split
  · exact h.next
  · exact h.setNoise.onStep.feed.next

theorem execLedgerStall_keeps (h : Keeps s t) {part : Bed} : KeepsNext s (execLedgerStall part t) :=
  .ite h.put.evt.record.enterHold.next h.next

theorem execDrbgReseed_keeps (h : Keeps s t) {part : Bed} {ok : Bool} : KeepsNext s (execDrbgReseed part ok t) :=
  (Keeps.ite (.ite h.frame.tick h) (.ite (.ite h.reseedOk h.reseedFail) h)).next

theorem execEntropyHealthFail_keeps (h : Keeps s t) : KeepsNext s (execEntropyHealthFail t) :=
  .ite (h.foldl (fun _ _ h => .ite h.setNoise.put h)).frame.put.raise.next h.next

/-! ### Sessions -/

theorem Keeps.clearSealed (h : Keeps s t) {p : Nat} : Keeps s (t.clearSealed p) := h.foldl (fun _ _ h => h.put)

theorem Keeps.keyBridges (h : Keeps s t) {p : Nat} : Keeps s (t.keyBridges p) := h.foldl (fun _ _ h => h.put.bump.put.startScrub)

theorem Keeps.beginSession (h : Keeps s t) {p grantSeq : Nat} {group tenant exportSecret : List Byte}
    {roster : List (Nat × List Byte)} {digest : List Byte} :
    Keeps s (t.beginSession p grantSeq group tenant exportSecret roster digest) := by
  unfold State.beginSession
  refine .ite h.drawBytes.drawBytes.setSession.setSessionState.put.put.clearSealed.keyBridges.seqNow ?_
  exact h.drawBytes.drawBytes.setSession.setSessionState.put.put.clearSealed.keyBridges

theorem Keeps.finishOpen (h : Keeps s t) {p : Nat} : Keeps s (t.finishOpen p) := by
  unfold State.finishOpen
  extract_lets u1 u2
  have h1 : Keeps s u1 := h.foldl (fun _ _ h => h.put.put)
  have h2 : Keeps s u2 := h1.foldl (fun _ _ h => h.doLock)
  exact h2.seedNoise.setSessionState.raise.tryKey

theorem execScrubDone_keeps (h : Keeps s t) {bridge : Bed} : KeepsNext s (execScrubDone bridge t) := by
  unfold execScrubDone
  refine .ite h.next ?_
  refine .ite h.put.raise.next ?_
  exact .ite h.put.raise.finishOpen.next (.ite h.put.raise.finishClose.next h.put.raise.next)

/-! ### Power, Hold and recovery -/

theorem Keeps.setPw (h : Keeps s t) {p : PowerSt} : Keeps s (t.setPw p) := h.frame

theorem Keeps.setIsl (h : Keeps s t) {x : IslandSt} : Keeps s (t.setIsl x) := h.frame

theorem execVinExcursion_keeps (h : Keeps s t) {millivolts : Nat} : KeepsNext s (execVinExcursion millivolts t) :=
  .ite h.next (.ite h.setPw.next (.ite h.setPw.enterOff.next (.ite h.setPw.next h.setPw.floorCause.next)))

theorem execVinRestore_keeps (h : Keeps s t) {millivolts : Nat} : KeepsNext s (execVinRestore millivolts t) :=
  .ite h.setPw.floorClear.next h.next

theorem execInputOvercurrent_keeps (h : Keeps s t) {watts : Nat} : KeepsNext s (execInputOvercurrent watts t) :=
  .ite h.setPw.put.next h.next

theorem execVauxLow_keeps (h : Keeps s t) : KeepsNext s (execVauxLow t) := .ite h.setPw.setIsl.endSessions.enterOff.next h.next

theorem execConverterFault_keeps (h : Keeps s t) {modules regulators : List Nat} :
    KeepsNext s (execConverterFault modules regulators t) := by
  unfold execConverterFault
  refine .ite h.next ?_
  dsimp only
  split
  · exact h.floorClear.next
  · exact (Keeps.ite (h.floorCause.foldl (fun _ _ h => h.record)).enterOff (h.floorCause.foldl (fun _ _ h => h.record))).next

theorem execPwrAlert_keeps (h : Keeps s t) : KeepsNext s (execPwrAlert t) := .ite h.setPw.floorCause.next h.next

theorem execFloorExit_keeps (h : Keeps s t) : KeepsNext s (execFloorExit t) := .ite h.next (Keeps.ite h.setPw.setClock h.setPw).next

theorem execDroopDetect_keeps (h : Keeps s t) {edges : Nat} : KeepsNext s (execDroopDetect edges t) :=
  .ite (h.setPw.foldl (fun _ _ h => h.setBed)).bump.bump.next h.next

theorem execSustainedDroop_keeps (h : Keeps s t) : KeepsNext s (execSustainedDroop t) := .ite h.floorCause.evt.next h.next

theorem execMarginCheck_keeps (h : Keeps s t) {monitor : Nat} {below : Bool} : KeepsNext s (execMarginCheck monitor below t) :=
  .ite h.next (.ite h.put.next (Keeps.ite h.put.raiseTrim h.put.setPw).next)

theorem execFlowFault_keeps (h : Keeps s t) : KeepsNext s (execFlowFault t) := .ite h.setPw.setMem.raise.enterHold.next h.next

theorem execFlowFaultClear_keeps (h : Keeps s t) : KeepsNext s (execFlowFaultClear t) := h.setPw.setMem.serveWaits.next

theorem Keeps.enterDormant (h : Keeps s t) {cause : Nat} : Keeps s (t.enterDormant cause) :=
  (h.foldl (fun _ _ h => h.releaseLine)).beginTransition

theorem execFlowFaultDormant_keeps (h : Keeps s t) : KeepsNext s (execFlowFaultDormant t) := .ite h.enterDormant.next h.next

theorem execThermTrip_keeps (h : Keeps s t) {sensor celsius : Nat} : KeepsNext s (execThermTrip sensor celsius t) :=
  .ite h.next h.setPw.put.put.record.enterOff.next

theorem Keeps.thermStep (h : Keeps s t) : Keeps s t.thermStep := by
  unfold State.thermStep
  extract_lets _ u1 _ u2 u3
  have h1 : Keeps s u1 := h.setPw
  have h2 : Keeps s u2 := .ite h1.setPw (.ite h1.setPw h1)
  have h3 : Keeps s u3 := .ite h2 h2.put.raise
  exact .ite h3.setClock h3

theorem execJunctionSensorRead_keeps (h : Keeps s t) {sensor celsius : Nat} : KeepsNext s (execJunctionSensorRead sensor celsius t) := by
  unfold execJunctionSensorRead
  refine .ite h.setPw.next ?_
  refine .ite h.setPw.put.put.setPw.next ?_
  refine .ite h.setPw.put.put.next ?_
  split
  · exact h.setPw.put.put.thermStep.next
  · exact (Keeps.ite h.setPw.put.put.thermStep h.setPw.put.put).next

theorem execThrottleRestore_keeps (h : Keeps s t) : KeepsNext s (execThrottleRestore t) :=
  .ite (Keeps.ite (Keeps.ite h.setPw.put h.setPw).setClock (.ite h.setPw.put h.setPw)).next h.next

theorem Keeps.wipeCores (h : Keeps s t) : Keeps s t.wipeCores := h.delRegs

theorem Keeps.wipeDevice (h : Keeps s t) : Keeps s t.wipeDevice := by
  unfold State.wipeDevice
  extract_lets u1 m trim
  have h1 : Keeps s u1 := h.foldl fun _ _ h => h.setMem
  exact h1.noStaging.delRegs.put

theorem Keeps.reachOff (h : Keeps s t) : Keeps s t.reachOff := by
  unfold State.reachOff
  extract_lets parts cause regs beds u1 u2 _ u3
  have hregs : ∀ e ∈ regs, e.1.fld ≠ .PART_LOG2 := by
    intro e he hf
    have hc := (List.mem_filter.mp he).2
    simp [coldField, hf] at hc
  have h1 : Keeps s u1 := h.wipeDevice
  have h2 : Keeps s u2 := (h1.addRegs hregs).frame
  have h3 : Keeps s u3 := h2.setPw.put
  exact h3.put.setDomains

theorem Keeps.sleepBridges (h : Keeps s t) : Keeps s t.sleepBridges := h.foldl (fun _ _ h => h.put.put.foldl (fun _ _ h => h.put))

theorem Keeps.wakeBridges (h : Keeps s t) : Keeps s t.wakeBridges := by
  unfold State.wakeBridges
  extract_lets u1
  have h1 : Keeps s u1 := h.foldl (fun _ _ h => h.put.put.foldl (fun _ _ h => h.put))
  exact h1.foldl (fun _ _ h => .ite (h.setSession.foldl (fun _ _ h => h.startScrub)) h)

/-- A context whose anchor does not hold is refused and unloaded. -/
theorem Keeps.badAnchor (h : Keeps s t) {p b k : Nat} {a : Anchor} :
    Keeps s (if t.anchored p k a then t.copyLists b k
      else (((t.dropPending b).unloadSlot p k).setSeq b seqHeld).record 0x0440 (pgBed b) (leBytes 4 a.armId)) :=
  .ite h.copyLists h.dropPending.unloadSlot.setSeq.record

theorem Keeps.checkAnchor (h : Keeps s t) {b : Nat} : Keeps s (t.checkAnchor b) := by
  unfold State.checkAnchor
  extract_lets p bad u1
  have h1 : Keeps s u1 := by
    dsimp only [u1]
    split
    · exact h.badAnchor
    · exact h
  split
  · exact h1
  · split
    · exact h1.badAnchor
    · exact h1

theorem Keeps.dormantPorts (h : Keeps s t) : Keeps s t.dormantPorts := h.foldl (fun _ _ h => .ite h.put.put (.ite h.portDown h))

theorem Keeps.wakePorts (h : Keeps s t) :
    Keeps s t.wakePorts :=
  h.foldl (fun _ _ h => .ite (Keeps.ite h.sendBeat h).train (.ite h.train h))

theorem Keeps.resetEndpoint (h : Keeps s t) : Keeps s t.resetEndpoint := h.frame.resetFields.raise

theorem Keeps.linkTrained (h : Keeps s t) : Keeps s t.linkTrained := h.put.put

theorem execPowerTransitionComplete_keeps (h : Keeps s t) : KeepsNext s (execPowerTransitionComplete t) := by
  unfold execPowerTransitionComplete
  split
  · exact h.next
  · exact h.next
  · exact h.next
  · refine .ite h.next ?_
    refine .ite ?_ h.wipeCores.setPower.next
    extract_lets u1
    have h1 : Keeps s u1 := h.setPower.wakeBridges.wakePorts.linkTrained
    exact (h1.foldl (fun _ _ h => h.checkAnchor)).next
  · extract_lets u1
    have h1 : Keeps s u1 := h.sleepBridges.dormantPorts.setPower.resetEndpoint
    exact h1.frame.put.put.next
  · exact (Keeps.ite h h.reachOff).next

theorem execClustersOn_keeps (h : Keeps s t) : KeepsNext s (execClustersOn t) := .ite h.setPower.setClock.next h.next

theorem Keeps.askPower (h : Keeps s t) {target : Nat} : Keeps s (t.askPower target).2 := by
  unfold State.askPower
  split
  · exact h
  · split
    · split
      · exact h
      · exact h.enterOff
    · split
      · exact h
      · split
        · exact h.enterHold
        · split
          · exact h.beginTransition
          · split
            · exact h.beginTransition
            · split
              · exact h.enterDormant
              · exact h

theorem execPowerUp_keeps (h : Keeps s t) : KeepsNext s (execPowerUp t) := .ite h.setPw.readHdr.next h.next

theorem Keeps.markFailed (h : Keeps s t) {k : Nat} : Keeps s (t.markFailed k) := h.setPw

theorem Keeps.fallBack (h : Keeps s t) {k : Nat} : Keeps s (t.fallBack k) := h.frame.put.raise.markFailed

theorem Keeps.failSlot (h : Keeps s t) {k : Nat} : Keeps s (t.failSlot k) := .ite (.ite h.frame h.frame.fallBack) h.markFailed

theorem Keeps.bootPages (h : Keeps s t) : Keeps s t.bootPages := by
  unfold State.bootPages
  extract_lets u1 u2
  have h1 : Keeps s u1 := h.foldl (fun _ _ h => h.put.put.foldl (fun _ _ h => h.put))
  have h2 : Keeps s u2 := h1.foldl (fun _ _ h => h.put.train)
  exact h2.foldl (fun _ _ h => h.put)

theorem Keeps.bootSession (h : Keeps s t) {p : Nat} : Keeps s (t.bootSession p) := by
  unfold State.bootSession
  refine .ite h ?_
  refine .ite (h.setSession.foldl (fun _ _ h => h.startScrub)) ?_
  extract_lets u1 u2
  have h1 : Keeps s u1 := h.foldl (fun _ _ h => h.put.bump.put.put.startScrub)
  have h2 : Keeps s u2 := .ite (h1.foldl (fun _ _ h => h.doLock)) h1
  exact h2.setSession.put

theorem Keeps.bootWith (h : Keeps s t) {k : Nat} : Keeps s (t.bootWith k) := by
  unfold State.bootWith
  extract_lets f fresh _ u1 u2 u3 _ u4 _ u5 u6 _ u7 u8
  have h1 : Keeps s u1 := h.frame
  have h2 : Keeps s u2 := h1.put.put.put
  have h3 : Keeps s u3 := .ite h2.put h2
  have h4 : Keeps s u4 := h3.bootPages.frame
  have h5 : Keeps s u5 := h4.setPw.setPower
  have h6 : Keeps s u6 := h5.seqFromTime.foldl (fun _ _ h => h.bootSession)
  have h7 : Keeps s u7 := h6.frame
  have h8 : Keeps s u8 := h7.linkTrained.put
  exact h8.record

theorem Keeps.enterRecovery (h : Keeps s t) : Keeps s t.enterRecovery := h.frame.setPw.put

theorem Keeps.trySlot (h : Keeps s t) {k : Nat} {complete : Bool} : Keeps s (t.trySlot k complete) :=
  .ite h.bootWith (.ite h.failSlot.enterRecovery h.failSlot)

theorem execBoot_keeps (h : Keeps s t) {complete : Bool} : KeepsNext s (execBoot t complete) := by
  unfold execBoot
  refine .ite ?_ h.next
  split
  · exact h.trySlot.next
  · exact h.enterRecovery.next

theorem Keeps.resetSecurity (h : Keeps s t) : Keeps s t.resetSecurity := h.resetFields.frame

theorem execDeviceReset_keeps (h : Keeps s t) {sysReset : Bool} : KeepsNext s (execDeviceReset sysReset t) :=
  .ite h.next h.endSessions.finishStore.wipeDevice.resetSecurity.seqFromTime.delRegs.setPw.setDomains.next

theorem execKeeperStop_keeps (h : Keeps s t) : KeepsNext s (execKeeperStop t) := .ite h.next h.finishStore.wipeDevice.setPw.delRegs.next

theorem Keeps.keeperUp (h : Keeps s t) : Keeps s t.keeperUp := h.setPw.setDomains.put.put.put.setRec.put.checkProt

theorem execVauxRise_keeps (h : Keeps s t) : KeepsNext s (execVauxRise t) := .ite h.keeperUp.next (.ite h.next h.setPw.next)

theorem execCpWatchdogTimeout_keeps (h : Keeps s t) : KeepsNext s (execCpWatchdogTimeout t) := .ite h.next h.setPw.record.next

theorem execCpRestartComplete_keeps (h : Keeps s t) : KeepsNext s (execCpRestartComplete t) := h.setPw.next

theorem execCpRestartLimit_keeps (h : Keeps s t) : KeepsNext s (execCpRestartLimit t) := .ite h.setPw.record.enterHold.next h.next

/-! ### Commands of the control processor -/

theorem Keeps.turnDown (h : Keeps s t) {c : Cmd} {req : Req} {authOk : Bool} {arg st : Nat} : Keeps s (t.turnDown c req authOk arg st) :=
  .ite h.reply.raise (.ite h.bump.evt.refuse h.refuse)

theorem Keeps.command (h : Keeps s t) {c : Cmd} {req : Req} {authOk : Bool} {own : List (Bool × Nat)} {ok : State → State} {arg : Nat}
    (hok : ∀ u, Keeps s u → Keeps s (ok u)) :
    KeepsNext s (t.command c req authOk own ok arg) := by
  unfold State.command
  refine .ite h.next ?_
  split
  · exact h.turnDown.next
  · exact (hok _ h).next

theorem Keeps.done (h : Keeps s t) {data : List Byte} : Keeps s (t.done data) := h.reply

theorem Keeps.useNonce (h : Keeps s t) {req : Req} : Keeps s (t.useNonce req) := by
  unfold State.useNonce
  split
  · exact h.frame
  · exact h

theorem execGetStatus_keeps (h : Keeps s t) {req : Req} : KeepsNext s (execGetStatus req t) := h.command (fun _ h => h.done)

theorem execGetNonce_keeps (h : Keeps s t) {req : Req} : KeepsNext s (execGetNonce req t) := h.command fun _ h => h.drawBytes.frame.done

theorem execReadPower_keeps (h : Keeps s t) {req : Req} : KeepsNext s (execReadPower req t) := h.command (fun _ h => h.draw.done)

theorem execSetPowerState_keeps (h : Keeps s t) {req : Req} {target : Nat} : KeepsNext s (execSetPowerState req target t) :=
  h.command (fun _ h => h.askPower.done)

theorem execHaltAndHold_keeps (h : Keeps s t) {req : Req} : KeepsNext s (execHaltAndHold req t) := .ite h.enterHold.done.next h.next

theorem execEvrRead_keeps (h : Keeps s t) {req : Req} {first : Nat} : KeepsNext s (execEvrRead req first t) :=
  h.command (fun _ h => (h.foldl (fun _ _ h => h.markRead)).done)

theorem execEvrFreeze_keeps (h : Keeps s t) {req : Req} : KeepsNext s (execEvrFreeze req t) := h.command (fun _ h => h.askFreeze.done)

theorem execEvrUnfreeze_keeps (h : Keeps s t) {req : Req} : KeepsNext s (execEvrUnfreeze req t) := h.command (fun _ h => h.endFreeze.done)

theorem Keeps.clearSlots (h : Keeps s t) {scope upTo : Nat} : Keeps s (t.clearSlots scope upTo) :=
  h.setRec.enqueue.setRec.writeBatch.evt.spend

theorem execEvrClear_keeps (h : Keeps s t) {req : Req} {scope upToSeq : Nat} : KeepsNext s (execEvrClear req scope upToSeq t) :=
  h.command (fun _ h => h.useNonce.finishStore.clearSlots.done)

/-! ### Armatures -/

theorem Keeps.holdArm (h : Keeps s t) {p addr : Nat} {f : File} : Keeps s (t.holdArm p addr f) := by
  unfold State.holdArm
  split
  · exact h.readSpan.writeSpan.frame
  · exact h

theorem execArmatureLoad_keeps (h : Keeps s t) {req : Req} {addr len : Nat} : KeepsNext s (execArmatureLoad req addr len t) :=
  h.command (fun _ h => h.holdArm.done)

theorem execArmatureUnload_keeps (h : Keeps s t) {req : Req} {armId : Nat} : KeepsNext s (execArmatureUnload req armId t) :=
  h.command (fun _ h => Keeps.done (by split; exacts [h.unloadSlot, h]))

theorem Keeps.setOrigin (h : Keeps s t) {b : Nat} {f : File} {a : Start} : Keeps s (t.setOrigin b f a) := .ite h h.setBed.put.put

theorem Keeps.armBed (h : Keeps s t) {slot : Nat} {f : File} {a : Start} {b : Nat} : Keeps s (t.armBed slot f a b) :=
  .ite h.setOrigin.setBed.put h.setOrigin.setBed.put.setSeq

theorem execArmatureActivate_keeps (h : Keeps s t) {req : Req} {armId startFrame startStep startEpoch startTime : Nat} :
    KeepsNext s (execArmatureActivate req armId startFrame startStep startEpoch startTime t) := by
  unfold execArmatureActivate
  extract_lets p a slot f
  exact h.command (fun _ h => (h.foldl (fun _ _ h => h.armBed)).done)

theorem Keeps.joinOrigin (h : Keeps s t) {q hash step : Nat} :
    Keeps s (t.joinOrigin q hash step) :=
  h.foldl (fun _ _ h => h.setBed.put.put)

theorem Keeps.joinOrigins (h : Keeps s t) : Keeps s t.joinOrigins := h.foldl (fun _ _ h => by split; exacts [.ite h h.joinOrigin, h])

theorem execTimeResponseReceive_keeps (h : Keeps s t) {port : Port} {packet : Packet} :
    KeepsNext s (execTimeResponseReceive port packet t) :=
  h.consume (fun _ _ h => .ite (h.timeResponseIn.joinOrigins.foldl (fun _ _ h => h.tryKey)) h.timeResponseIn)

theorem execGraftPlan_keeps (h : Keeps s t) {req : Req} {memberHash step : Nat} : KeepsNext s (execGraftPlan req memberHash step t) :=
  h.command (fun _ h => (Keeps.ite h.setPart.joinOrigin.keyAnew h.setPart).done)

theorem execRegrow_keeps (h : Keeps s t) {req : Req} {partner source cutStep : Nat} {partnerValid sourceHolds : Bool} :
    KeepsNext s (execRegrow req partner source cutStep partnerValid sourceHolds t) :=
  h.command (fun _ h => h.forgetUpdates.setPart.done)

/-! ### Configuration space -/

theorem Keeps.writeConfig (h : Keeps s t) {w v : Nat} : Keeps s (t.writeConfig w v) := .ite h.resetEndpoint h.frame

/-! ### Transfers -/

theorem Keeps.beginTransfer (h : Keeps s t) {b c x : Nat} : Keeps s (t.beginTransfer b c x) := h.setCores

theorem Keeps.loadTile (h : Keeps s t) {b c : Nat} {x : Transfer} {d : Desc} {i : Nat} : Keeps s (t.loadTile b c x d i) := by
  unfold State.loadTile
  extract_lets n t' a r sd side bad bytes u1
  have h1 : Keeps s side.1 := by
    dsimp only [side]
    split
    · exact h.readSpan.readSpan
    · exact h.readSpan
  exact .ite h1.localPut h1.localPut.raiseFlags

theorem Keeps.prefetchTile (h : Keeps s t) {b : Nat} {x : Transfer} {d : Desc} {i : Nat} : Keeps s (t.prefetchTile b x d i) :=
  .ite h.readSpan.readSpan h.readSpan

theorem Keeps.unpinLine (h : Keeps s t) {b cls l : Nat} {drop : Bool} : Keeps s (t.unpinLine b cls l drop) := by
  unfold State.unpinLine
  refine .ite h.countFault ?_
  refine .ite h.dropLine ?_
  split
  · exact .ite h.releaseLine.meter h.releaseLine
  · exact h

theorem Keeps.transfer (h : Keeps s t) {bed : Bed} {core : Core} {ctx : Sys2Proof.Ctx} {op : Nat}
    {f : State → Transfer → Desc → State}
    (hf : ∀ u a1 a2, Keeps s u → Keeps s (f u a1 a2)) :
    KeepsNext s (t.transfer bed core ctx op f) := by
  unfold State.transfer
  dsimp only
  split
  · exact .ite (hf _ _ _ h.beginTransfer).next h.next
  · exact h.next

theorem execTransferLoad_keeps (h : Keeps s t) {bed : Bed} {core : Core} {ctx : Sys2Proof.Ctx} :
    KeepsNext s (execTransferLoad bed core ctx t) :=
  h.transfer (fun _ _ _ h => h.foldl (fun _ _ h => h.loadTile))

theorem execTransferPrefetch_keeps (h : Keeps s t) {bed : Bed} {core : Core} {ctx : Sys2Proof.Ctx} :
    KeepsNext s (execTransferPrefetch bed core ctx t) :=
  h.transfer (fun _ _ _ h => h.foldl (fun _ _ h => h.prefetchTile))

theorem execTransferRelease_keeps (h : Keeps s t) {bed : Bed} {core : Core} {ctx : Sys2Proof.Ctx} :
    KeepsNext s (execTransferRelease bed core ctx t) :=
  h.transfer (fun _ _ _ h => h.foldl (fun _ _ h => h.unpinLine))

theorem execTransferDrop_keeps (h : Keeps s t) {bed : Bed} {core : Core} {ctx : Sys2Proof.Ctx} :
    KeepsNext s (execTransferDrop bed core ctx t) :=
  h.transfer (fun _ _ _ h => h.foldl (fun _ _ h => h.unpinLine))

theorem execTransferComplete_keeps (h : Keeps s t) {bed : Bed} {core : Core} {ctx : Sys2Proof.Ctx} :
    KeepsNext s (execTransferComplete bed core ctx t) :=
  .ite h.setCores.compUp.next h.next

theorem execLineRead_keeps (h : Keeps s t) {req : MemReq} {err : LineErr} : KeepsNext s (execLineRead req err t) := h.readLine.frame.next

theorem execLineWrite_keeps (h : Keeps s t) {req : MemReq} {first : Nat} {data : List Byte} {poison : Bool} :
    KeepsNext s (execLineWrite req first data poison t) :=
  .ite h.denyWrite.next h.writeLine.next

theorem execPatrolScrub_keeps (h : Keeps s t) {stack : Stack} {addr : Nat} {err : LineErr} {passDone : Bool} :
    KeepsNext s (execPatrolScrub stack addr err passDone t) :=
  .ite h.next (Keeps.ite (Keeps.ite h h.stackRead).bump (.ite h h.stackRead)).next

theorem Keeps.retrain (h : Keeps s t) {u' ch : Nat} : Keeps s (t.retrain u' ch) := h.setMem.bump.put

theorem execMemoryTrainingCheck_keeps (h : Keeps s t) {stack : Stack} {channel : Fin 32} {ok : Bool} :
    KeepsNext s (execMemoryTrainingCheck stack channel ok t) :=
  .ite h.next h.retrain.evt.record.next

theorem execChannelRetrain_keeps (h : Keeps s t) {stack : Stack} {channel : Fin 32} {errors : Nat} :
    KeepsNext s (execChannelRetrain stack channel errors t) :=
  .ite h.next h.setMem.retrain.raise.next

theorem Keeps.fenceChannel (h : Keeps s t) {u' ch : Nat} : Keeps s (t.fenceChannel u' ch) := h.put.put.evt.raise

theorem execRetrainEnd_keeps (h : Keeps s t) {stack : Stack} {channel : Fin 32} {ok : Bool} :
    KeepsNext s (execRetrainEnd stack channel ok t) := by
  unfold execRetrainEnd
  refine .ite h.next ?_
  exact .ite h.setMem.bump.next (Keeps.ite h.setMem.setMem.put h.setMem.setMem.put.fenceChannel).next

theorem execRefreshLate_keeps (h : Keeps s t) {stack : Stack} {channel : Fin 32} : KeepsNext s (execRefreshLate stack channel t) :=
  h.bump.evt.record.next

theorem execStackHot_keeps (h : Keeps s t) {stack : Stack} {celsius : Nat} : KeepsNext s (execStackHot stack celsius t) :=
  (Keeps.ite h.put.put.raise h.put.put).next

/-! ### The update units -/

theorem Keeps.readGrad (h : Keeps s t) {b : Nat} {f : File} {e : Pass} {step g : Nat} : Keeps s (t.readGrad b f e step g).1 :=
  h.readSpan.readSpan

theorem Keeps.readRing (h : Keeps s t) {b : Nat} {f : File} {layer step : Nat} : Keeps s (t.readRing b f layer step).1 := h.readSpan

theorem Keeps.readGroup (h : Keeps s t) {b : Nat} {e : Pass} {g : Nat} : Keeps s (t.readGroup b e g).1 := h.readSpan

theorem Keeps.readOld (h : Keeps s t) {b : Nat} {f : File} {e : Pass} {step g : Nat} : Keeps s (t.readOld b f e step g).st := by
  unfold State.readOld
  extract_lets r
  have hr : Keeps s r.1 := h.readRing
  split
  · exact hr
  · split
    · exact hr
    · exact hr.readGrad

theorem Keeps.runGroup (h : Keeps s t) {b : Nat} {f : File} {e : Pass} {step g ratio : Nat} {skip : Bool} :
    Keeps s (t.runGroup b f e step g ratio skip).1 := by
  unfold State.runGroup
  extract_lets q x gr p old
  have hgr : Keeps s gr.1 := by
    dsimp only [gr]
    split
    · exact h.readGroup
    · exact h.readGroup.readGrad
  dsimp only [old]
  split
  · exact hgr.readOld
  · exact hgr

theorem Keeps.writeGroup (h : Keeps s t) {b : Nat} {x : GroupIn} {bs : List Byte} {lines : List Nat} :
    Keeps s (t.writeGroup b x bs lines) :=
  h.foldl (fun _ _ h => h.writeLine)

theorem Keeps.countN (h : Keeps s t) {p : Page} {f : Fld} {n : Nat} : Keeps s (t.countN p f n) := .ite h h.bump

/-- A group whose tag does not hold is recorded once a step. -/
theorem Keeps.groupChecked (h : Keeps s t) {ok : Bool} {key : Nat × Nat × Nat} {p : Page} {pay : List Byte} :
    Keeps s (if ok then t else t.onceDo key fun s => s.record 0x0841 p pay) :=
  .ite h (h.onceDo fun _ h => h.record)

theorem Keeps.countBlock (h : Keeps s t) {u' q layer step : Nat} {o : BlkOut} : Keeps s (t.countBlock u' q layer step o) := by
  unfold State.countBlock
  extract_lets p key rs held bad u1 u2 u3 u4 u5 no
  have h1 : Keeps s u1 := h.countN
  have h2 : Keeps s u2 := .ite h1.raise h1
  have h3 : Keeps s u3 := .ite h2.raise h2
  have h4 : Keeps s u4 := .ite (h3.bump.onceDo fun _ h => h.raise) h3
  have h5 : Keeps s u5 := .ite h4 (h4.bump.onceDo fun _ h => h.raise)
  exact h5.groupChecked.groupChecked

theorem Keeps.countGroup (h : Keeps s t) {u' q layer step : Nat} {x : GroupIn} {e : Pass} {g : Nat} {os : List BlkOut} :
    Keeps s (t.countGroup u' q layer step x e g os) :=
  .ite h.bump.raise (h.foldl (fun _ _ h => h.countBlock))

theorem Keeps.countRsv (h : Keeps s t) {u' n : Nat} : Keeps s (t.countRsv u' n) := .ite h h.frame

theorem Keeps.readNorm (h : Keeps s t) {b : Nat} {f : File} {layer : Nat} : Keeps s (t.readNorm b f layer).1 := h.readSpan

theorem Keeps.layerRatio (h : Keeps s t) {b : Nat} {f : File} {layer step : Nat} {skip : Bool} :
    Keeps s (t.layerRatio b f layer step skip).1 := by
  unfold State.layerRatio
  extract_lets q sums norm x u1
  cases t.upd.ratio.find? (q, layer, step) with
  | some r => exact h
  | none =>
    have hx : Keeps s x.1 := by
      dsimp only [x]
      split
      · exact h
      · exact h.readNorm
    exact hx.writeSpan.frame

theorem Keeps.writeNorm (h : Keeps s t) {b : Nat} {f : File} {layer step r : Nat} : Keeps s (t.writeNorm b f layer step r) :=
  h.readNorm.writeSpan

theorem Keeps.mirror (h : Keeps s t) {u' : Nat} {f : File} {step : Nat} {x : GroupIn} {bs : List Byte} :
    Keeps s (t.mirror u' f step x bs) :=
  .ite h (h.foldl (fun _ _ h => h.send)).frame.bump

theorem Keeps.writeWork (h : Keeps s t) {b : Nat} {d : Desc} {tile : Nat} {vals : List Nat} {lo hi : Nat} :
    Keeps s (t.writeWork b d tile vals lo hi) :=
  .ite (h.foldl (fun _ _ h => h.writeSpan)) (h.foldl (fun _ _ h => h.writeSpan)).writeSpan

theorem Keeps.passOne (h : Keeps s t) {u' : Nat} {f : File} {e : Pass} {step g ratio : Nat} {skip : Bool} {vals : List Nat} :
    Keeps s (t.passOne u' f e step g ratio skip vals).1 := by
  unfold State.passOne
  extract_lets b q r x os d has old vals bs f4 work bytes u1 u2 u3 k _ u4 u5 n
  have h1 : Keeps s u1 := h.runGroup.writeGroup
  have h2 : Keeps s u2 := h1.countGroup.countN.countRsv
  have h3 : Keeps s u3 := h2.put
  have h4 : Keeps s u4 := h3.frame
  have h5 : Keeps s u5 := h4.mirror
  exact .ite h5.writeWork h5

theorem Keeps.setRun (h : Keeps s t) {u' : Nat} {r : Option UnitRun} : Keeps s (t.setRun u' r) := h.frame

theorem Keeps.endPass (h : Keeps s t) {u' : Nat} {f : File} {k : Nat} {e : Pass} {step ratio : Nat} {skip : Bool} :
    Keeps s (t.endPass u' f k e step ratio skip) :=
  (Keeps.ite h.frame.setRun.put.put.writeNorm h.frame.setRun.put.put).creditUnit

theorem Keeps.advance (h : Keeps s t) {u' : Nat} {r : UnitRun} {e : Pass} : Keeps s (t.advance u' r e) :=
  .ite h.layerRatio.put.put.passOne.endPass h.layerRatio.put.put.passOne.setRun

theorem execUpdateEntry_keeps (h : Keeps s t) {unit : Stack} : KeepsNext s (execUpdateEntry unit t) := by
  unfold execUpdateEntry
  refine .ite h.next ?_
  split
  · exact h.advance.next
  · split
    · exact h.advance.next
    · exact h.next

theorem Keeps.prepass (h : Keeps s t) {u' : Nat} {f : File} {k : Nat} {e : Pass} {step : Nat} : Keeps s (t.prepass u' f k e step) := by
  unfold State.prepass
  extract_lets q key r _ _ u1
  have hr : Keeps s r.1 := h.foldlPair fun _ _ h => h.runGroup (ratio := oneF)
  have h1 : Keeps s u1 := hr.frame
  exact h1.put.put

theorem execUpdatePrepass_keeps (h : Keeps s t) {unit : Stack} : KeepsNext s (execUpdatePrepass unit t) := by
  unfold execUpdatePrepass
  refine .ite h.next ?_
  split
  · exact h.prepass.next
  · exact h.next

theorem execUnitStop_keeps (h : Keeps s t) {unit : Stack} : KeepsNext s (execUnitStop unit t) :=
  .ite (Keeps.ite h.frame h.frame.setRun).put.put.put.next h.next

theorem Keeps.replayEntry (h : Keeps s t) {f : File} {k : Nat} {e : Pass} {step : Nat} : Keeps s (t.replayEntry f k e step) := by
  unfold State.replayEntry
  extract_lets u' ring
  split
  · exact h.readRing
  · extract_lets r
    exact (h.readRing.foldlPair (fun _ _ h => h.passOne)).endPass

theorem execRegrowReplay_keeps (h : Keeps s t) {part : Bed} {step : Nat} : KeepsNext s (execRegrowReplay part step t) :=
  .ite (h.foldl (fun _ _ h => .ite h.replayEntry h)).setPart.next h.next

end Sys2Proof.Machine
end

section
/-! PROOFS. Every operation of the model keeps the staging legal and the partition count one of R16 (`Keeps`): ownership, raw commands and the host's side. -/

namespace Sys2Proof.Machine

variable {s t : State}

/-! ### Cuttings -/

theorem Keeps.rejectCut (h : Keeps s t) {q src off : Nat} : Keeps s (t.rejectCut q src off) := h.bump.record

theorem Keeps.setWard (h : Keeps s t) {q k : Nat} {x : Option (Nat × List Nat)} : Keeps s (t.setWard q k x) := h.frame

theorem Keeps.beginWard (h : Keeps s t) {q k step : Nat} : Keeps s (t.beginWard q k step) :=
  .ite h.setWard.setWard.put.raise h.setWard.setWard.put

theorem Keeps.wardLine (h : Keeps s t) {port q : Nat} {f : File} {k : Packet} : Keeps s (t.wardLine port q f k) := by
  unfold State.wardLine
  extract_lets step off n p r whole u1 u2
  have h1 : Keeps s u1 := by
    dsimp only [u1]
    split
    · exact .ite h h.beginWard
    · exact .ite h h.beginWard
  have h2 : Keeps s u2 := h1.writeSpan
  split
  · exact h2
  · extract_lets l
    exact .ite h2.setWard.put.put.send h2.setWard

theorem Keeps.cuttingIn (h : Keeps s t) {port : Nat} {k : Packet} : Keeps s (t.cuttingIn port k) := .ite h.rejectCut h.wardLine

theorem execCuttingReceive_keeps (h : Keeps s t) {port : Port} {packet : Packet} : KeepsNext s (execCuttingReceive port packet t) :=
  h.consume (fun _ _ h => h.cuttingIn)

theorem Keeps.cutAckIn (h : Keeps s t) {port : Nat} {k : Packet} : Keeps s (t.cutAckIn port k) := .ite h.put.raise h

theorem execCutAckReceive_keeps (h : Keeps s t) {port : Port} {packet : Packet} : KeepsNext s (execCutAckReceive port packet t) :=
  h.consume (fun _ _ h => h.cutAckIn)

/-! ### Device ownership -/

theorem Keeps.setSec (h : Keeps s t) {x : SecSt} : Keeps s (t.setSec x) := h.frame

theorem Keeps.showOwner (h : Keeps s t) : Keeps s t.showOwner := h.put.put

theorem execOwnerEnroll_keeps (h : Keeps s t) {req : Req} {keyHash : List Byte} : KeepsNext s (execOwnerEnroll req keyHash t) :=
  h.command (fun _ h => h.useNonce.setSec.showOwner.done)

theorem execOwnerRevoke_keeps (h : Keeps s t) {req : Req} : KeepsNext s (execOwnerRevoke req t) :=
  h.command (fun _ h => h.useNonce.setSec.showOwner.done)

theorem execSessionOpen_keeps (h : Keeps s t) {req : Req} {payload : List Byte} : KeepsNext s (execSessionOpen req payload t) := by
  unfold execSessionOpen
  exact h.command (fun _ h => h.readSpan.beginSession.done)

theorem execSessionClose_keeps (h : Keeps s t) {req : Req} : KeepsNext s (execSessionClose req t) :=
  h.command (fun _ h => (Keeps.ite h.useNonce.endSessionNow h.useNonce.beginClose).done)

theorem Keeps.writeChunk (h : Keeps s t) {slot image offset : Nat} {chunk : List Byte} : Keeps s (t.writeChunk slot image offset chunk) :=
  (Keeps.ite h.setSec.setSec.put h.setSec).beginStore

theorem Keeps.passSlot (h : Keeps s t) {k : Nat} : Keeps s (t.passSlot k) := h.setSec

theorem Keeps.markPending (h : Keeps s t) {k : Nat} : Keeps s (t.markPending k) := h.setSec.put

theorem execFwUpdate_keeps (h : Keeps s t) {req : Req} {image offset : Nat} {chunk : List Byte} {last : Bool} :
    KeepsNext s (execFwUpdate req image offset chunk last t) := by
  unfold execFwUpdate
  extract_lets slot
  exact h.command (fun _ h => .ite h.useNonce.writeChunk.done
    (.ite h.useNonce.writeChunk.passSlot.markPending.done h.useNonce.writeChunk.refuse))

theorem execFwCommit_keeps (h : Keeps s t) {req : Req} : KeepsNext s (execFwCommit req t) := h.command (fun _ h => h.useNonce.put.done)

theorem execPageUnlock_keeps (h : Keeps s t) {req : Req} {page : Page} : KeepsNext s (execPageUnlock req page t) :=
  h.command (fun _ h => h.useNonce.doUnlock.done)

theorem execRecoveryWrite_keeps (h : Keeps s t) {req : Req} {image offset : Nat} {chunk : List Byte} {last : Bool} :
    KeepsNext s (execRecoveryWrite req image offset chunk last t) :=
  h.command (fun _ h => .ite h.writeChunk.done (.ite h.writeChunk.passSlot.setSec.setPw.done h.writeChunk.refuse))

theorem execUnknownCommand_keeps (h : Keeps s t) {req : Req} {code : Nat} : KeepsNext s (execUnknownCommand req code t) :=
  .ite h.next h.refuse.next

theorem execManagementCommandTimeout_keeps (h : Keeps s t) {req : Req} {code phase : Nat} :
    KeepsNext s (execManagementCommandTimeout req code phase t) :=
  .ite h.next h.refuse.next

/-! ### Commands as raw bytes -/

theorem Keeps.runOwner (h : Keeps s t) {path : Sys2Proof.Path} {c : RawCmd} : KeepsNext s (t.runOwner path c) := by
  unfold State.runOwner
  refine .ite (execEvrClear_keeps h) ?_
  refine .ite (.ite (execOwnerEnroll_keeps h) (execOwnerEnroll_keeps h)) ?_
  refine .ite (execOwnerRevoke_keeps h) ?_
  refine .ite (execSessionOpen_keeps h) ?_
  refine .ite (execSessionClose_keeps h) ?_
  exact .ite (execFwUpdate_keeps h) (.ite (execFwCommit_keeps h) (execPageUnlock_keeps h))

theorem Keeps.runRecovery (h : Keeps s t) {path : Sys2Proof.Path} {c : RawCmd} : KeepsNext s (t.runRecovery path c) :=
  execRecoveryWrite_keeps h

theorem Keeps.runRegrow (h : Keeps s t) {path : Sys2Proof.Path} {c : RawCmd} : KeepsNext s (t.runRegrow path c) := execRegrow_keeps h.draw

theorem Keeps.runRaw (h : Keeps s t) {path : Sys2Proof.Path} {c : RawCmd} : KeepsNext s (t.runRaw path c) := by
  unfold State.runRaw
  refine .ite (execGetStatus_keeps h) ?_
  refine .ite (execGetNonce_keeps h) ?_
  refine .ite (execReadPower_keeps h) ?_
  refine .ite (execArmatureLoad_keeps h) ?_
  refine .ite (execArmatureActivate_keeps h) ?_
  refine .ite (execArmatureUnload_keeps h) ?_
  refine .ite (execSetPowerState_keeps h) ?_
  refine .ite (execHaltAndHold_keeps h) ?_
  refine .ite (execGraftPlan_keeps h) ?_
  refine .ite h.runRegrow ?_
  refine .ite (execEvrRead_keeps h) ?_
  refine .ite (execEvrFreeze_keeps h) ?_
  exact .ite (execEvrUnfreeze_keeps h) (.ite h.runRecovery (.ite h.runOwner (execUnknownCommand_keeps h)))

theorem Keeps.onMctp (h : Keeps s t) {f : State → State}
    (hf : ∀ u, Keeps s u → Keeps s (f u)) : KeepsNext s (t.onMctp f) :=
  .ite (hf _ h).next h.next

theorem execSetEndpointId_keeps (h : Keeps s t) {eid op : Nat} : KeepsNext s (execSetEndpointId eid t op) :=
  h.onMctp (fun _ h => .ite h.frame.done h.reply)

theorem execGetEndpointId_keeps (h : Keeps s t) : KeepsNext s (execGetEndpointId t) := h.onMctp (fun _ h => h.done)

theorem execGetMctpVersionSupport_keeps (h : Keeps s t) {type : Nat} : KeepsNext s (execGetMctpVersionSupport t type) :=
  h.onMctp (fun _ h => .ite h.done h.reply)

theorem execGetMessageTypeSupport_keeps (h : Keeps s t) : KeepsNext s (execGetMessageTypeSupport t) := h.onMctp (fun _ h => h.done)

theorem execGetVendorDefinedMessageSupport_keeps (h : Keeps s t) {selector : Nat} :
    KeepsNext s (execGetVendorDefinedMessageSupport t selector) :=
  h.onMctp (fun _ h => .ite h.done h.reply)

theorem Keeps.replyPacket (h : Keeps s t) {q : Nat} {k : Packet} : Keeps s (t.replyPacket q k) := h.send

theorem Keeps.mgmtIn (h : Keeps s t) {p : Nat} {k : Packet} : KeepsNext s (t.mgmtIn p k) := by
  unfold State.mgmtIn
  extract_lets q c
  refine .ite h.keyMessage.next (.ite h.next ?_)
  split
  next hu => exact (KeepsNext.out h.runRaw hu).replyPacket.next
  next => exact .fault
  next => exact .refused

theorem execMgmtReceive_keeps (h : Keeps s t) {port : Port} {packet : Packet} : KeepsNext s (execMgmtReceive port packet t) := by
  unfold execMgmtReceive
  refine .ite h.next ?_
  split
  next hu => exact (h.takeIn.of_fst hu).mgmtIn
  next hu => exact (h.takeIn.of_fst hu).next

theorem Keeps.deliver (h : Keeps s t) {port : Port} {k : Packet} : KeepsNext s (t.deliver port k) := by
  unfold State.deliver
  refine .ite (execDataReceive_keeps h) ?_
  refine .ite (execHeartbeatReceive_keeps h) ?_
  refine .ite (.ite (execTimeRequestReceive_keeps h) (execTimeResponseReceive_keeps h)) ?_
  refine .ite (execTopologyReceive_keeps h) ?_
  refine .ite (execReduceReceive_keeps h) ?_
  refine .ite (execCertReceive_keeps h) ?_
  refine .ite (execCuttingReceive_keeps h) ?_
  exact .ite (execCutAckReceive_keeps h) (.ite (execMgmtReceive_keeps h) h.takeIn.next)

theorem Keeps.countSlot (h : Keeps s t) {p corrected uncorrectable : Nat} {asked : Option Nat} :
    Keeps s (t.countSlot p corrected uncorrectable asked) := by
  unfold State.countSlot
  dsimp only
  split
  · exact h.setFab.bump.bump.askedFor
  · exact h.setFab.bump.bump

theorem execSlotReceive_keeps (h : Keeps s t) {port : Port} {corrected uncorrectable : Nat} {packet : Packet} {asked : Option Nat} :
    KeepsNext s (execSlotReceive port corrected uncorrectable packet t asked) := by
  unfold execSlotReceive
  refine .ite h.next ?_
  refine .ite ?_ (.ite h.countSlot.next h.countSlot.deliver)
  split
  · exact h.next
  · exact h.setFab.deliver

/-! ### The host's queues and mailbox -/

theorem Keeps.hostAccess (h : Keeps s t) {w : HostWait} : Keeps s (t.hostAccess w) := .ite h.hold h.serveHost

theorem execBar2Read_keeps (h : Keeps s t) {off : Nat} {err : LineErr} : KeepsNext s (execBar2Read off err t) :=
  .ite h.next (h.onBar (fun _ h => h.hostAccess)).next

theorem execBar2Write_keeps (h : Keeps s t) {off : Nat} {data : List Byte} {ep : Bool} : KeepsNext s (execBar2Write off data ep t) :=
  .ite h.next (h.onBar (fun _ h => h.hostAccess)).next

theorem Keeps.setFlying (h : Keeps s t) {q : Nat} {l : List InFlight} : Keeps s (t.setFlying q l) := h.frame.put

theorem Keeps.beginDesc (h : Keeps s t) {q : Nat} {d : DmaDesc} : Keeps s (t.beginDesc q d) := by
  unfold State.beginDesc
  extract_lets i k st n _ u1 u2 u3 u4
  have h1 : Keeps s u1 := h.frame.put
  have h2 : Keeps s u2 := .ite h1.put h1
  have h3 : Keeps s u3 := .ite h2.denyWrite h2
  have h4 : Keeps s u4 := by
    dsimp only [u4]
    refine .ite ?_ h3
    split
    · exact h3.countFault
    · exact h3
  exact h4.setFlying

theorem Keeps.fetch (h : Keeps s t) {n q : Nat} : Keeps s (State.fetch n t q) := by
  induction n generalizing t with
  | zero => exact h
  | succ n ih =>
    unfold State.fetch
    split
    · exact h
    · exact .ite (ih h.frame.beginDesc) h

theorem Keeps.runQueue (h : Keeps s t) {q : Nat} : Keeps s (t.runQueue q) := h.fetch

theorem Keeps.ring (h : Keeps s t) {q tail : Nat} {descs : List (List Byte)} : Keeps s (t.ring q tail descs) := h.put.frame.runQueue

theorem execDoorbell_keeps (h : Keeps s t) {queue : Queue} {tail : Nat} {descs : List (List Byte)} :
    KeepsNext s (execDoorbell queue tail descs t) :=
  (Keeps.ite h (h.hostWriteL (fun _ h => h.ring))).next

theorem Keeps.dmaWrite (h : Keeps s t) {part a : Nat} {data : List Byte} {sealed : Bool} : Keeps s (t.dmaWrite part a data sealed) :=
  h.foldl (fun _ _ h => h.hostWrite)

theorem Keeps.dmaRead (h : Keeps s t) {part a len : Nat} : Keeps s (t.dmaRead part a len).1 := by
  unfold State.dmaRead
  exact List.foldlRecOn (motive := fun (x : (State × List Byte × Bool) × Bool) => Keeps s x.1.1) _ _ h fun _ hx _ _ => hx.hostRead

theorem Keeps.onDesc (h : Keeps s t) {q op : Nat} {f : InFlight → State → State}
    (hf : ∀ a0 u, Keeps s u → Keeps s (f a0 u)) :
    Keeps s (t.onDesc q op f) := by
  unfold State.onDesc
  split
  · exact .ite (hf _ _ h) h
  · exact h

theorem execDmaHostToDevice_keeps (h : Keeps s t) {queue : Queue} {data : List Byte} : KeepsNext s (execDmaHostToDevice queue data t) :=
  (h.onDesc (fun _ _ h => .ite h.denyWrite.setFlying h.dmaWrite.setFlying)).next

theorem execDmaDeviceToHost_keeps (h : Keeps s t) {queue : Queue} : KeepsNext s (execDmaDeviceToHost queue t) :=
  (h.onDesc (fun _ _ h => h.dmaRead.frame.setFlying)).next

theorem execDmaSealedWrite_keeps (h : Keeps s t) {queue : Queue} {cipher tag : List Byte} :
    KeepsNext s (execDmaSealedWrite queue cipher tag t) :=
  Keeps.next (h.onDesc fun _ _ h => by
    extract_lets q part
    split
    · exact h.setFlying
    · exact h.dmaWrite.setFlying)

theorem Keeps.complete (h : Keeps s t) {q : Nat} {x : InFlight} {st : Nat} : Keeps s (t.complete q x st) := .ite h.frame h.frame.raise

theorem execDmaCompletion_keeps (h : Keeps s t) {queue : Queue} : KeepsNext s (execDmaCompletion queue t) := by
  unfold execDmaCompletion
  dsimp only
  split
  · exact h.next
  · split
    · exact h.next
    · exact .ite h.setFlying.complete.runQueue.next h.next

theorem execDmaDescriptorTimeout_keeps (h : Keeps s t) {queue : Queue} {moved : List Byte} :
    KeepsNext s (execDmaDescriptorTimeout queue moved t) := by
  unfold execDmaDescriptorTimeout
  dsimp only
  split
  · exact h.next
  · exact .ite h.next (Keeps.ite h.dmaRead.frame h.dmaWrite).setFlying.evt.record.next

theorem Keeps.fillMailbox (h : Keeps s t) {bs : List Byte} : Keeps s (t.fillMailbox bs) := h.foldl (fun _ _ h => h.put)

theorem Keeps.mailboxDone (h : Keeps s t) : Keeps s t.mailboxDone := h.fillMailbox.put.put.put.raise

theorem Keeps.mailboxGo (h : Keeps s t) : KeepsNext s t.mailboxGo := by
  unfold State.mailboxGo
  refine .ite h.reply.put.next ?_
  extract_lets n c u1
  have h1 : Keeps s u1 := h.put
  refine .ite h1.refuse.mailboxDone.next (.ite h1.next ?_)
  split
  next hu => exact (KeepsNext.out h1.runRaw hu).mailboxDone.next
  next => exact .fault
  next => exact .refused

theorem execMbxGo_keeps (h : Keeps s t) : KeepsNext s (execMbxGo t) := .ite (h.onBar (fun _ h => h.lockedOut)).next h.mailboxGo

theorem execMbxHalt_keeps (h : Keeps s t) : KeepsNext s (execMbxHalt t) := (h.hostWriteL (fun _ h => h.enterHold)).next

theorem Keeps.configAnswer (h : Keeps s t) {retry : Bool} {word : Nat} : Keeps s (t.configAnswer retry word) := h.frame

theorem Keeps.linkDuringBoot (h : Keeps s t) : Keeps s t.linkDuringBoot := .ite h h.draw.frame

theorem execPcieConfigRequest_keeps (h : Keeps s t) {dword : Nat} {write : Option Nat} :
    KeepsNext s (execPcieConfigRequest t dword write) := by
  unfold execPcieConfigRequest
  refine .ite (Keeps.next (by split; exacts [h.configAnswer, h.writeConfig.configAnswer])) ?_
  exact .ite (Keeps.ite h.linkDuringBoot.configAnswer h.linkDuringBoot).next h.next

theorem execFlr_keeps (h : Keeps s t) : KeepsNext s (execFlr t) := .ite h.resetEndpoint.next h.next

/-! ### Reads of the registers -/

theorem Keeps.readWord (h : Keeps s t) {p : Page} {o : Nat} : Keeps s (t.readWord p o).1 := by
  unfold State.readWord
  split
  · exact h
  · exact .ite h.frame h

theorem Keeps.badOffset (h : Keeps s t) {p : Page} {off size : Nat} : Keeps s (t.badOffset p off size) := h.common

theorem Keeps.readPage (h : Keeps s t) {p : Page} {o : Nat} : Keeps s (t.readPage p o).1 := by
  unfold State.readPage
  split
  · exact h
  · split
    · exact h.markRead.readWord
    · split
      · exact h.draw.readWord
      · exact h.readWord

theorem Keeps.readSize (h : Keeps s t) {p : Page} {o size : Nat} : Keeps s (t.readSize p o size).1 := by
  unfold State.readSize
  dsimp only
  split
  · exact h.readPage
  · exact h.readPage.readPage

theorem Keeps.readBar (h : Keeps s t) {off size : Nat} : Keeps s (t.readBar off size).1 := by
  unfold State.readBar
  split
  · exact h.badOffset
  · split
    · split
      · exact h.badOffset
      · exact h.readSize
    · exact h.readSize

theorem execBadAccess_keeps (h : Keeps s t) {off size : Nat} {write : Bool} : KeepsNext s (execBadAccess off size write t) :=
  .ite h.next (h.onBar (fun _ h => .ite h.badOffset h.badOffset.answer)).next

theorem Keeps.unimplemented (h : Keeps s t) {off size : Nat} {write : Bool} : Keeps s (t.unimplemented off size write) := by
  unfold State.unimplemented
  refine .ite h.badOffset.answer ?_
  split
  · exact h.badOffset
  · exact h.badOffset

theorem execUnimplementedAccess_keeps (h : Keeps s t) {off size : Nat} {write : Bool} :
    KeepsNext s (execUnimplementedAccess off size write t) :=
  .ite h.next (h.onBar (fun _ h => h.unimplemented)).next

theorem execLowWordRead_keeps (h : Keeps s t) {off size : Nat} : KeepsNext s (execLowWordRead off t size) :=
  .ite h.next (Keeps.ite h.readBar.answer (h.onBar (fun _ h => h.readBar.answer))).next

end Sys2Proof.Machine
end

section
/-! PROOFS. Every operation of the model keeps the staging legal and the partition count one of R16 (`Keeps`): writes on the bus. -/

namespace Sys2Proof.Machine

variable {s t : State}

/-! ### Writes on the bus: a frame-committed field is staged on its own page -/

theorem Keeps.noteRefusal (h : Keeps s t) {hp : Page} {pay : List Byte} {code : Nat} : Keeps s (t.noteRefusal hp pay code) :=
  (Keeps.ite h.put (.ite h.put (.ite h.put h))).common

theorem Keeps.setParts (h : Keeps s t) {v : Nat} : Keeps s (t.setParts v) := by
  unfold State.setParts
  extract_lets u1 u2
  have h1 : Keeps s u1 := h.foldl fun _ _ h => h.unloadAll
  have h2 : Keeps s u2 := h1.foldl fun _ _ h => h.clearOrigin
  clear_value u2
  refine Keeps.put ?_
  exact (h2.delStaging (f := fun p => p.kind == PageKind.layerPrecision)).delRegs

theorem Keeps.setLocalGib (h : Keeps s t) {b v : Nat} : Keeps s (t.setLocalGib b v) := .ite h.setMem.put.unloadAll h.setMem.put

theorem Keeps.setEnc (h : Keeps s t) {b v : Nat} : Keeps s (t.setEnc b v) := h.put.startScrub

theorem Keeps.setPortEnc (h : Keeps s t) {p v : Nat} : Keeps s (t.setPortEnc p v) := h.put

theorem Keeps.setTestPower (h : Keeps s t) {v : Nat} : Keeps s (t.setTestPower v) := h.put.put

theorem Keeps.stopBed (h : Keeps s t) {b : Nat} : Keeps s (t.stopBed b) := .ite h.cancelArmed (.ite h.setBed.askUnits.put h)

theorem Keeps.runPort (h : Keeps s t) {p v : Nat} : Keeps s (t.runPort p v) := .ite h.put.portDown h.put.put.train

theorem Keeps.runBlock (h : Keeps s t) {p : Page} {v : Nat} : Keeps s (t.runBlock p v) :=
  .ite h.put.frame.frame.put (.ite h.put.frame.halt h.put.frame.frame)

theorem Keeps.setCtlRun (h : Keeps s t) {p : Page} {v : Nat} : Keeps s (t.setCtlRun p v) := by
  unfold State.setCtlRun
  split
  · exact .ite h.stopBed h.record
  · exact h.runPort
  · exact h.put
  · exact h
  · exact h
  · exact h
  · exact h
  · exact h.runBlock

theorem Keeps.applyField (h : Keeps s t) {hp : Page} {k : FieldKey} {v mask : Nat}
    (hk : (fieldInfo k.fld).kind = .frame → k.page = hp) : Keeps s (t.applyField hp k v mask) := by
  unfold State.applyField
  dsimp only
  split
  · exact h.setCtlRun
  · exact h.put.put
  · exact h.doCommit
  · exact h.doAbort
  · exact h.doLock
  · exact h.doUnlock
  · exact h.setParts
  · exact h.setLocalGib
  · exact h.setEnc
  · exact h.setPortEnc
  · exact h.setTestPower
  · exact h.setTref
  · exact h.put.runQueue
  · exact h.ring
  · exact h
  · exact h.enterHold
  · exact h.moveState
  · exact h.askFreeze
  · exact h.endFreeze
  · split
    next hf => exact h.stage (hk hf) hf
    next => exact .ite h.put h.put

/-- A field that a page shows is its own, but for the update units' mirrors (R198). -/
theorem State.keyAt_page {p : Page} {f : Fld} {e : Nat} {k : FieldKey} (hk : t.keyAt p f e = some k) (hm : mirrorField p k = false) :
    k.fld = f ∧ k.page = p := by
  unfold State.keyAt at hk
  split at hk <;> grind [mirrorField]

/-- The fields of the core subpages are not frame-committed (R132). -/
theorem coreSub_noFrame (k : PageKind) (hk : k = .coreSub0 ∨ k = .coreSub1 ∨ k = .coreSub2 ∨ k = .coreSub3) :
    ∀ f ∈ allFields, onKind k (fieldInfo f) = true → (fieldInfo f).kind ≠ .frame := by
  rcases hk with rfl | rfl | rfl | rfl <;> decide +kernel

/-- The page whose staging sets hold what is written to a page: itself, or a core window's for a subpage, which has
no frame-committed field (R39, R132). -/
def stagesFor (hp p : Page) : Prop := hp = p ∨ ∀ f ∈ allFields, onKind p.kind (fieldInfo f) = true → (fieldInfo f).kind ≠ .frame

/-- A touched field is one of the register's, and on the page itself. -/
theorem State.touchOne_key {hp p : Page} {lo n value : Nat} {e : Fld × Nat} {x : Touch} (hx : t.touchOne hp p lo n value e = some x) :
    x.key.fld = e.1 ∧ x.key.page = p := by
  unfold State.touchOne at hx
  split at hx
  · cases hx
  next k hk =>
    have hm : mirrorField p k = false ∧ x.key = k := by grind
    exact hm.2 ▸ State.keyAt_page hk hm.1

/-- A frame-committed field that a write touches is one of the page whose staging holds it. -/
theorem State.touched_page {hp p : Page} {o lo n value : Nat} (hs : stagesFor hp p) :
    ∀ x ∈ t.touched hp p o lo n value, (fieldInfo x.key.fld).kind = .frame → x.key.page = hp := by
  intro x hx hf
  obtain ⟨e, he, hx⟩ := List.mem_filterMap.mp (t.touched_eq hp p o lo n value ▸ hx)
  obtain ⟨f, hfm, he⟩ := List.mem_filterMap.mp he
  obtain ⟨hfld, hpage⟩ := State.touchOne_key hx
  rcases hs with rfl | hs
  · exact hpage
  · obtain ⟨hk, he⟩ := Option.ite_none_right_eq_some.mp he
    obtain ⟨i, -, rfl⟩ := Option.map_eq_some_iff.mp he
    rw [hfld] at hf
    exact absurd hf (hs f hfm hk)

theorem abortWins_subset (l : List Touch) : abortWins l ⊆ l := by
  unfold abortWins
  split
  · exact List.filter_sublist.subset
  · exact List.Subset.refl _

theorem Keeps.writeReg (h : Keeps s t) {a : Agent} {hp p : Page} {bar word o lo n value : Nat} (hs : stagesFor hp p) :
    KeepsNext s (t.writeReg a hp p bar word o lo n value) := by
  unfold State.writeReg
  extract_lets l ok codes pay u1 u2
  have h1 : Keeps s u1 := h.foldl_mem fun u x hx hu =>
    hu.applyField (State.touched_page hs x (List.mem_of_mem_filter (abortWins_subset _ hx)))
  have h2 : Keeps s u2 := h1.foldl fun _ _ h => h.noteRefusal
  exact .ite h2.mailboxGo h2.next

theorem Keeps.writeWord (h : Keeps s t) {a : Agent} {hp p : Page} {bar o value : Nat} (hs : stagesFor hp p) :
    KeepsNext s (t.writeWord a hp p bar o value) :=
  .ite (h.writeReg hs) (h.writeReg hs)

theorem Keeps.writePage (h : Keeps s t) {a : Agent} {hp p : Page} {bar o size value : Nat} (hs : stagesFor hp p) :
    KeepsNext s (t.writePage a hp p bar o size value) := by
  unfold State.writePage
  refine .ite (h.writeWord hs) (.ite (h.writeReg hs) ?_)
  split
  next hu => exact ((h.writeWord hs).out hu).writeWord hs
  next => exact .fault
  next => exact .refused

theorem Keeps.dirWrite (h : Keeps s t) {off size : Nat} : Keeps s (t.dirWrite off size) := h.badOffset

theorem Keeps.mirrorNote (h : Keeps s t) {off value : Nat} : Keeps s (t.mirrorNote off value) := h.record

theorem Keeps.writeBar (h : Keeps s t) {a : Agent} {off size value : Nat} : KeepsNext s (t.writeBar a off size value) := by
  unfold State.writeBar
  refine .ite h.badOffset.next ?_
  split
  · exact h.unimplemented.next
  · refine .ite h.dirWrite.next (.ite h.mirrorNote.next (.ite ?_ (h.writePage (.inl rfl))))
    split
    next => exact h.badOffset.next
    next hq => exact h.writePage (.inr (coreSub_noFrame _ (by simpa using State.windowPage_kind hq)))

theorem Keeps.onBus (h : Keeps s t) {a : Agent} {f : State → Host.Outcome State Fault Refusal}
    (hf : ∀ u, Keeps s u → KeepsNext s (f u)) : KeepsNext s (t.onBus a f) :=
  .ite (h.onBar fun _ h => h).next (hf _ h)

theorem Keeps.writeField (h : Keeps s t) {a : Agent} {p : Page} {f : Fld} {v e : Nat} : KeepsNext s (t.writeField a p f v e) := by
  unfold State.writeField
  exact h.onBus fun _ h => h.writeReg (.inl rfl)

theorem execRegisterWrite_keeps (h : Keeps s t) {agent : Agent} {off size value : Nat} :
    KeepsNext s (execRegisterWrite agent off size value t) :=
  h.onBus (fun _ h => h.writeBar)

theorem execDirectoryWrite_keeps (h : Keeps s t) {off size value : Nat} : KeepsNext s (execDirectoryWrite off size value t) :=
  .ite (h.onBus (fun _ h => h.writeBar)) h.next

theorem execCtlRunWrite_keeps (h : Keeps s t) {agent : Agent} {page : Page} {run : Bool} :
    KeepsNext s (execCtlRunWrite agent page run t) :=
  .ite h.writeField h.next

theorem execCntClr_keeps (h : Keeps s t) {page : Page} : KeepsNext s (execCntClr page t) := .ite h.writeField h.next

theorem execCommit_keeps (h : Keeps s t) {page : Page} : KeepsNext s (execCommit page t) := .ite h.writeField h.next

theorem execAbort_keeps (h : Keeps s t) {page : Page} : KeepsNext s (execAbort page t) := .ite h.writeField h.next

theorem execStagingSetFlush_keeps (h : Keeps s t) {page : Page} : KeepsNext s (execStagingSetFlush page t) :=
  (Keeps.ite h.flushPage.takePlan.setClock h.flushPage).next

theorem execPageLock_keeps (h : Keeps s t) {page : Page} : KeepsNext s (execPageLock page t) := .ite h.writeField h.next

theorem execCoreWindowAccess_keeps (h : Keeps s t) {bed : Bed} {off size : Nat} {write : Option Nat} :
    KeepsNext s (execCoreWindowAccess bed off size write t) := by
  unfold execCoreWindowAccess
  refine .ite h.next ?_
  dsimp only
  split
  · exact h.onBus (fun _ h => h.writeBar)
  · exact (h.onBar (fun _ h => .ite h.badOffset.answer h.readBar.answer)).next

theorem execPartCfgWrite_keeps (h : Keeps s t) {agent : Agent} {value : Nat} :
    KeepsNext s (execPartCfgWrite agent value t) :=
  h.writeField

theorem execLayerStateWrite_keeps (h : Keeps s t) {bed : Bed} {value : Nat} : KeepsNext s (execLayerStateWrite bed value t) :=
  .ite (h.onBus (fun _ h => h.writeBar)) h.next

theorem execInactivePageWrite_keeps (h : Keeps s t) {bed : Bed} {off size : Nat} : KeepsNext s (execInactivePageWrite bed off size t) :=
  .ite h.next (h.onBus (fun _ h => h.writeBar))

theorem execGroupWordWrite_keeps (h : Keeps s t) {unit : Stack} {word : Fin 8} {value : Nat} :
    KeepsNext s (execGroupWordWrite unit word value t) :=
  h.writeField

theorem execBrMapWrite_keeps (h : Keeps s t) {bridge : Bed} {value : Nat} : KeepsNext s (execBrMapWrite bridge value t) := h.writeField

theorem execBridgeRunStop_keeps (h : Keeps s t) {bridge : Bed} : KeepsNext s (execBridgeRunStop bridge t) := h.writeField

theorem execPortRunWrite_keeps (h : Keeps s t) {port : Port} {run : Bool} : KeepsNext s (execPortRunWrite port run t) := h.writeField

theorem execEncCtlWrite_keeps (h : Keeps s t) {agent : Agent} {bridge : Bed} {enable : Bool} :
    KeepsNext s (execEncCtlWrite agent bridge enable t) :=
  h.writeField

theorem execBedRunStop_keeps (h : Keeps s t) {bed : Bed} : KeepsNext s (execBedRunStop bed t) := h.writeField

theorem execRunWriteIgnored_keeps (h : Keeps s t) {bed : Bed} : KeepsNext s (execRunWriteIgnored bed t) := h.writeField

theorem execMirrorWrite_keeps (h : Keeps s t) {off size value : Nat} : KeepsNext s (execMirrorWrite off size value t) :=
  .ite h.next (h.onBus (fun _ h => h.writeBar))

end Sys2Proof.Machine
end

section
/-! PROOFS. Every operation of the model keeps the staging legal and the partition count one of R16 (`Keeps`): the metering island, SPDM and the tap; then every command. -/

namespace Sys2Proof.Machine

variable {s t : State}

/-! ### The metering island -/

theorem execAttributionInterval_keeps (h : Keeps s t) {inputMicrojoule auxMicrojoule : Nat} {branches : List Nat} {milliamps : Nat} :
    KeepsNext s (execAttributionInterval inputMicrojoule auxMicrojoule branches milliamps t) :=
  .ite h.setIsl.next h.next

theorem execMetPulse_keeps (h : Keeps s t) : KeepsNext s (execMetPulse t) := .ite h.setIsl.next h.next

theorem execOverrange_keeps (h : Keeps s t) {milliamps : Nat} : KeepsNext s (execOverrange milliamps t) := .ite h.setIsl.next h.next

theorem execMeterReady_keeps (h : Keeps s t) : KeepsNext s (execMeterReady t) := .ite h.setIsl.next h.next

theorem execMeterNotReady_keeps (h : Keeps s t) : KeepsNext s (execMeterNotReady t) := .ite h.record.next h.next

theorem execMeterCommit_keeps (h : Keeps s t) {holdupMillivolts : Nat} : KeepsNext s (execMeterCommit holdupMillivolts t) :=
  .ite h.setIsl.next h.next

theorem execSelfTestFail_keeps (h : Keeps s t) : KeepsNext s (execSelfTestFail t) := .ite h.setIsl.next h.next

theorem Keeps.copyAudit (h : Keeps s t) : Keeps s t.copyAudit := h.setIsl.setRec.feedAudit

theorem Keeps.mirrorPage (h : Keeps s t) : Keeps s t.mirrorPage :=
  (h.put.put.put.put.put.put.put.put.foldl (fun _ _ h => h.put)).put.put.put.put

theorem Keeps.followVersion (h : Keeps s t) : Keeps s t.followVersion := .ite h h.frame.record

theorem execSnapshot_keeps (h : Keeps s t) {crcOk : Bool} : KeepsNext s (execSnapshot crcOk t) :=
  .ite h.next (.ite h.bump.next h.mirrorPage.setIsl.followVersion.copyAudit.next)

theorem execSnapshotStale_keeps (h : Keeps s t) : KeepsNext s (execSnapshotStale t) := .ite h.put.next h.next

theorem execSealChange_keeps (h : Keeps s t) {closed : Bool} : KeepsNext s (execSealChange closed t) := .ite h.setIsl.next h.next

theorem Keeps.onPort (h : Keeps s t) {pec : Bool} {bad : List (Bool × Nat)} {ok : State → State}
    (hok : ∀ u, Keeps s u → Keeps s (ok u)) :
    KeepsNext s (t.onPort pec bad ok) := by
  unfold State.onPort
  refine .ite h.next ?_
  split
  · exact h.reply.next
  · exact (hok _ h).next

theorem execReadEnergy_keeps (h : Keeps s t) {pec : Bool} : KeepsNext s (execReadEnergy t pec) := h.onPort (fun _ h => h.reply)

theorem execReadStatus_keeps (h : Keeps s t) {pec : Bool} : KeepsNext s (execReadStatus t pec) := h.onPort (fun _ h => h.reply)

theorem execReadSwId_keeps (h : Keeps s t) {pec : Bool} : KeepsNext s (execReadSwId t pec) := h.onPort (fun _ h => h.reply)

theorem execReadAudit_keeps (h : Keeps s t) {index : Nat} {pec : Bool} : KeepsNext s (execReadAudit index t pec) :=
  h.onPort (fun _ h => h.reply)

theorem execReadCfg_keeps (h : Keeps s t) {pec : Bool} : KeepsNext s (execReadCfg t pec) := h.onPort (fun _ h => h.reply)

theorem execCfgWrite_keeps (h : Keeps s t) {holdupMillifarad holdupMillivolts : Nat} {pec : Bool} :
    KeepsNext s (execCfgWrite holdupMillifarad holdupMillivolts t pec) :=
  h.onPort (fun _ h => h.setIsl.reply)

theorem execFwBegin_keeps (h : Keeps s t) {length milliamps : Nat} {pec : Bool} : KeepsNext s (execFwBegin length milliamps t pec) :=
  h.onPort (fun _ h => h.setIsl.reply)

theorem execFwChunk_keeps (h : Keeps s t) {offset : Nat} {data : List Byte} {pec : Bool} : KeepsNext s (execFwChunk offset data t pec) :=
  h.onPort (fun _ h => h.setIsl.reply)

theorem execFwEnd_keeps (h : Keeps s t) {holdupMillivolts milliamps : Nat} {payload : List Byte} {pec : Bool} :
    KeepsNext s (execFwEnd holdupMillivolts milliamps payload t pec) :=
  h.onPort (fun _ h => by split; exacts [h.setIsl.reply, h.setIsl.reply])

theorem execIslandUnknownCommand_keeps (h : Keeps s t) {code : Nat} {pec : Bool} : KeepsNext s (execIslandUnknownCommand code t pec) := by
  unfold execIslandUnknownCommand
  split
  · exact h.onPort (fun _ h => h.reply)
  · exact h.next

/-! ### SPDM -/

theorem Keeps.spdmError (h : Keeps s t) {code : Nat} : Keeps s (t.spdmError code) := h.reply

theorem Keeps.onSpdm (h : Keeps s t) {f : State → State}
    (hf : ∀ u, Keeps s u → Keeps s (f u)) : KeepsNext s (t.onSpdm f) :=
  .ite (hf _ h).next h.next

theorem Keeps.onNegotiated (h : Keeps s t) {f : State → State}
    (hf : ∀ u, Keeps s u → Keeps s (f u)) : KeepsNext s (t.onNegotiated f) :=
  h.onSpdm (fun _ h => .ite (hf _ h) h.spdmError)

theorem execGetVersion_keeps (h : Keeps s t) : KeepsNext s (execGetVersion t) := h.onSpdm (fun _ h => h.setSec.done)

theorem execGetCapabilities_keeps (h : Keeps s t) : KeepsNext s (execGetCapabilities t) := h.onSpdm (fun _ h => h.done)

theorem execNegotiateAlgorithms_keeps (h : Keeps s t) {offered : List Nat} : KeepsNext s (execNegotiateAlgorithms offered t) :=
  h.onSpdm (fun _ h => h.setSec.done)

theorem execGetDigests_keeps (h : Keeps s t) : KeepsNext s (execGetDigests t) := h.onNegotiated (fun _ h => h.done)

theorem execGetCertificate_keeps (h : Keeps s t) {slot offset len : Nat} : KeepsNext s (execGetCertificate slot offset len t) :=
  h.onNegotiated (fun _ h => .ite h.spdmError (.ite h.spdmError h.done))

theorem execChallenge_keeps (h : Keeps s t) {slot : Nat} {nonce : List Byte} : KeepsNext s (execChallenge slot nonce t) :=
  h.onNegotiated (fun _ h => .ite h.spdmError h.drawBytes.done)

theorem execGetMeasurements_keeps (h : Keeps s t) {index : Nat} {nonce : List Byte} : KeepsNext s (execGetMeasurements index nonce t) :=
  h.onNegotiated (fun _ h => .ite h.done (.ite h.spdmError h.done))

theorem execKeyExchange_keeps (h : Keeps s t) {mutualAuth : Bool} {digest key cert : List Byte} :
    KeepsNext s (execKeyExchange mutualAuth digest key t cert) :=
  h.onNegotiated (fun _ h => .ite h.spdmError (by split; exacts [h.spdmError, h.setSec.done]))

theorem Keeps.onSession (h : Keeps s t) {k : Nat} {f : State → SpdmSession → State}
    (hf : ∀ u a1, Keeps s u → Keeps s (f u a1)) :
    KeepsNext s (t.onSession k f) :=
  h.onSpdm (fun _ h => by split; exacts [.ite (hf _ _ h) h.spdmError, h.spdmError])

theorem execFinish_keeps (h : Keeps s t) {session : Nat} {verified : Bool} : KeepsNext s (execFinish session verified t) :=
  h.onSpdm (fun _ h => by split; exacts [h.spdmError, .ite h.spdmError (.ite h.setSec.done h.setSec.spdmError)])

theorem execEndSession_keeps (h : Keeps s t) {session : Nat} : KeepsNext s (execEndSession session t) :=
  h.onSession (fun _ _ h => h.setSec.done)

theorem execKeyUpdate_keeps (h : Keeps s t) {session : Nat} : KeepsNext s (execKeyUpdate session t) :=
  h.onSession (fun _ _ h => h.setSec.done)

theorem execVendorDefinedRequest_keeps (h : Keeps s t) {session : Nat} {cmd : RawCmd} :
    KeepsNext s (execVendorDefinedRequest session cmd t) := by
  unfold execVendorDefinedRequest
  split
  · exact .ite h.runRaw (h.onSpdm (fun _ h => h.spdmError))
  · exact h.onSpdm (fun _ h => h.spdmError)

theorem execSpdmUnsupportedRequest_keeps (h : Keeps s t) {code : Nat} : KeepsNext s (execSpdmUnsupportedRequest code t) :=
  .ite h.next (h.onSpdm (fun _ h => h.spdmError))

/-! ### The tap -/

theorem Keeps.onTap (h : Keeps s t) {f : State → State}
    (hf : ∀ u, Keeps s u → Keeps s (f u)) : KeepsNext s (t.onTap f) :=
  .ite (hf _ h).next h.next

theorem Keeps.setInstr (h : Keeps s t) {n : Nat} : Keeps s (t.setInstr n) := h.frame

theorem execBypass_keeps (h : Keeps s t) {opcode : Nat} : KeepsNext s (execBypass opcode t) := h.onTap (fun _ h => .ite h.setInstr h)

theorem execIdcode_keeps (h : Keeps s t) : KeepsNext s (execIdcode t) := h.onTap (fun _ h => h.setInstr.answer)

theorem execSamplePreload_keeps (h : Keeps s t) {preload : Option (List Bool)} : KeepsNext s (execSamplePreload preload t) :=
  h.onTap (fun _ h => by split; exacts [h.setInstr.frame, h.draw.setInstr.frame])

theorem Keeps.loadDriving (h : Keeps s t) {n : Nat} : KeepsNext s (t.loadDriving n) :=
  h.onTap (fun _ h => .ite h.setInstr h.setInstr.record)

theorem execExtest_keeps (h : Keeps s t) : KeepsNext s (execExtest t) := h.loadDriving

theorem execExtestPulse_keeps (h : Keeps s t) : KeepsNext s (execExtestPulse t) := h.loadDriving

theorem execExtestTrain_keeps (h : Keeps s t) : KeepsNext s (execExtestTrain t) := h.loadDriving

theorem execClamp_keeps (h : Keeps s t) : KeepsNext s (execClamp t) := h.loadDriving

theorem execHighz_keeps (h : Keeps s t) : KeepsNext s (execHighz t) := h.loadDriving

theorem execBoardOtp_keeps (h : Keeps s t) {word : Nat} : KeepsNext s (execBoardOtp word t) :=
  h.onTap (fun _ h => .ite h.setInstr.record h.setInstr.frame.put.showHoldup)

/-! ### Every command -/

theorem exec_keeps (h : Keeps s t) {i : Instr} : KeepsNext s (exec i t) := by
  cases i with
  | badAccess => exact execBadAccess_keeps h
  | unimplementedAccess => exact execUnimplementedAccess_keeps h
  | lowWordRead => exact execLowWordRead_keeps h
  | registerWrite => exact execRegisterWrite_keeps h
  | directoryWrite => exact execDirectoryWrite_keeps h
  | ctlRunWrite => exact execCtlRunWrite_keeps h
  | cntClr => exact execCntClr_keeps h
  | commit => exact execCommit_keeps h
  | abort => exact execAbort_keeps h
  | stagingSetFlush => exact execStagingSetFlush_keeps h
  | pageLock => exact execPageLock_keeps h
  | coreWindowAccess => exact execCoreWindowAccess_keeps h
  | partCfgWrite => exact execPartCfgWrite_keeps h
  | layerStateWrite => exact execLayerStateWrite_keeps h
  | inactivePageWrite => exact execInactivePageWrite_keeps h
  | groupWordWrite => exact execGroupWordWrite_keeps h
  | brMapWrite => exact execBrMapWrite_keeps h
  | bridgeRunStop => exact execBridgeRunStop_keeps h
  | portRunWrite => exact execPortRunWrite_keeps h
  | encCtlWrite => exact execEncCtlWrite_keeps h
  | bedRunStop => exact execBedRunStop_keeps h
  | runWriteIgnored => exact execRunWriteIgnored_keeps h
  | mirrorWrite => exact execMirrorWrite_keeps h
  | recordRead => exact execRecordRead_keeps h
  | freeze => exact execFreeze_keeps h
  | unfreeze => exact execUnfreeze_keeps h
  | freezeEffective => exact execFreezeEffective_keeps h
  | freezeTimeout => exact execFreezeTimeout_keeps h
  | doorbell => exact execDoorbell_keeps h
  | mbxGo => exact execMbxGo_keeps h
  | mbxHalt => exact execMbxHalt_keeps h
  | frameTick => exact execFrameTick_keeps h
  | stepBoundary => exact execStepBoundary_keeps h
  | precisionRetry => exact execPrecisionRetry_keeps h
  | precisionShiftReset => exact execPrecisionShiftReset_keeps h
  | changeForced => exact execChangeForced_keeps h
  | capRelease => exact execCapRelease_keeps h
  | matrixInstructionBlock => exact execMatrixInstructionBlock_keeps h
  | matrixBlockEnd => exact execMatrixBlockEnd_keeps h
  | vectorInstructionBlock => exact execVectorInstructionBlock_keeps h
  | vAdd => exact execVAdd_keeps h
  | vSub => exact execVSub_keeps h
  | vMul => exact execVMul_keeps h
  | vFma => exact execVFma_keeps h
  | vMin => exact execVMin_keeps h
  | vMax => exact execVMax_keeps h
  | vAbs => exact execVAbs_keeps h
  | vNeg => exact execVNeg_keeps h
  | vCmplt => exact execVCmplt_keeps h
  | vCmpeq => exact execVCmpeq_keeps h
  | vSel => exact execVSel_keeps h
  | vSqrt => exact execVSqrt_keeps h
  | vRcp => exact execVRcp_keeps h
  | vRsqrt => exact execVRsqrt_keeps h
  | vExp2 => exact execVExp2_keeps h
  | vLog2 => exact execVLog2_keeps h
  | vCvtInt32 => exact execVCvtInt32_keeps h
  | vCvtBf16 => exact execVCvtBf16_keeps h
  | vIadd => exact execVIadd_keeps h
  | vAnd => exact execVAnd_keeps h
  | vOr => exact execVOr_keeps h
  | vXor => exact execVXor_keeps h
  | vShl => exact execVShl_keeps h
  | vShr => exact execVShr_keeps h
  | vectorLoad => exact execVectorLoad_keeps h
  | vectorStore => exact execVectorStore_keeps h
  | quantiseTile => exact execQuantiseTile_keeps h
  | nfTrap => exact execNfTrap_keeps h
  | contextStallTimeout => exact execContextStallTimeout_keeps h
  | sequencerAckTimeout => exact execSequencerAckTimeout_keeps h
  | transferLoad => exact execTransferLoad_keeps h
  | transferPrefetch => exact execTransferPrefetch_keeps h
  | transferRelease => exact execTransferRelease_keeps h
  | transferDrop => exact execTransferDrop_keeps h
  | transferComplete => exact execTransferComplete_keeps h
  | lineRead => exact execLineRead_keeps h
  | lineWrite => exact execLineWrite_keeps h
  | scrubDone => exact execScrubDone_keeps h
  | patrolScrub => exact execPatrolScrub_keeps h
  | memoryTrainingCheck => exact execMemoryTrainingCheck_keeps h
  | channelRetrain => exact execChannelRetrain_keeps h
  | retrainEnd => exact execRetrainEnd_keeps h
  | refreshLate _ channel => exact execRefreshLate_keeps (channel := channel) h
  | updateEntry => exact execUpdateEntry_keeps h
  | updatePrepass => exact execUpdatePrepass_keeps h
  | unitStop => exact execUnitStop_keeps h
  | slotSend => exact execSlotSend_keeps h
  | slotReceive => exact execSlotReceive_keeps h
  | dataReceive => exact execDataReceive_keeps h
  | heartbeatReceive => exact execHeartbeatReceive_keeps h
  | heartbeatTimeout => exact execHeartbeatTimeout_keeps h
  | timeRequestReceive => exact execTimeRequestReceive_keeps h
  | timeResponseReceive => exact execTimeResponseReceive_keeps h
  | groupAlignTimeout => exact execGroupAlignTimeout_keeps h
  | timeRefEdge => exact execTimeRefEdge_keeps h
  | trefHoldoverTimeout => exact execTrefHoldoverTimeout_keeps h
  | topologyReceive => exact execTopologyReceive_keeps h
  | reduceReceive => exact execReduceReceive_keeps h
  | levelCutoff => exact execLevelCutoff_keeps h
  | rootDeadline => exact execRootDeadline_keeps h
  | certReceive => exact execCertReceive_keeps h
  | voteDeadline => exact execVoteDeadline_keeps h
  | cuttingReceive => exact execCuttingReceive_keeps h
  | cutAckReceive => exact execCutAckReceive_keeps h
  | mgmtReceive => exact execMgmtReceive_keeps h
  | portRetrain => exact execPortRetrain_keeps h
  | portTrainingTimeout => exact execPortTrainingTimeout_keeps h
  | linkUp => exact execLinkUp_keeps h
  | d2dFlitRetry => exact execD2dFlitRetry_keeps h
  | d2dTrainingLost => exact execD2dTrainingLost_keeps h
  | d2dTrainingTimeout => exact execD2dTrainingTimeout_keeps h
  | ledgerEntryWrite => exact execLedgerEntryWrite_keeps h
  | ledgerStall => exact execLedgerStall_keeps h
  | drbgReseed => exact execDrbgReseed_keeps h
  | entropyHealthFail => exact execEntropyHealthFail_keeps h
  | armatureLoad => exact execArmatureLoad_keeps h
  | armatureActivate => exact execArmatureActivate_keeps h
  | armatureUnload => exact execArmatureUnload_keeps h
  | graftPlan => exact execGraftPlan_keeps h
  | regrow => exact execRegrow_keeps h
  | regrowReplay => exact execRegrowReplay_keeps h
  | getStatus => exact execGetStatus_keeps h
  | getNonce => exact execGetNonce_keeps h
  | readPower => exact execReadPower_keeps h
  | setPowerState => exact execSetPowerState_keeps h
  | haltAndHold => exact execHaltAndHold_keeps h
  | evrRead => exact execEvrRead_keeps h
  | evrFreeze => exact execEvrFreeze_keeps h
  | evrUnfreeze => exact execEvrUnfreeze_keeps h
  | evrClear => exact execEvrClear_keeps h
  | ownerEnroll => exact execOwnerEnroll_keeps h
  | ownerRevoke => exact execOwnerRevoke_keeps h
  | sessionOpen => exact execSessionOpen_keeps h
  | sessionClose => exact execSessionClose_keeps h
  | fwUpdate => exact execFwUpdate_keeps h
  | fwCommit => exact execFwCommit_keeps h
  | pageUnlock => exact execPageUnlock_keeps h
  | recoveryWrite => exact execRecoveryWrite_keeps h
  | unknownCommand => exact execUnknownCommand_keeps h
  | managementCommandTimeout => exact execManagementCommandTimeout_keeps h
  | setEndpointId => exact execSetEndpointId_keeps h
  | getEndpointId => exact execGetEndpointId_keeps h
  | getMctpVersionSupport => exact execGetMctpVersionSupport_keeps h
  | getMessageTypeSupport => exact execGetMessageTypeSupport_keeps h
  | getVendorDefinedMessageSupport => exact execGetVendorDefinedMessageSupport_keeps h
  | getVersion => exact execGetVersion_keeps h
  | getCapabilities => exact execGetCapabilities_keeps h
  | negotiateAlgorithms => exact execNegotiateAlgorithms_keeps h
  | getDigests => exact execGetDigests_keeps h
  | getCertificate => exact execGetCertificate_keeps h
  | challenge => exact execChallenge_keeps h
  | getMeasurements => exact execGetMeasurements_keeps h
  | keyExchange => exact execKeyExchange_keeps h
  | finish => exact execFinish_keeps h
  | endSession => exact execEndSession_keeps h
  | keyUpdate => exact execKeyUpdate_keeps h
  | vendorDefinedRequest => exact execVendorDefinedRequest_keeps h
  | spdmUnsupportedRequest => exact execSpdmUnsupportedRequest_keeps h
  | bar2Read => exact execBar2Read_keeps h
  | bar2Write => exact execBar2Write_keeps h
  | dmaHostToDevice => exact execDmaHostToDevice_keeps h
  | dmaDeviceToHost => exact execDmaDeviceToHost_keeps h
  | dmaSealedWrite => exact execDmaSealedWrite_keeps h
  | dmaCompletion => exact execDmaCompletion_keeps h
  | dmaDescriptorTimeout => exact execDmaDescriptorTimeout_keeps h
  | pcieConfigRequest => exact execPcieConfigRequest_keeps h
  | flr => exact execFlr_keeps h
  | deviceReset => exact execDeviceReset_keeps h
  | powerUp => exact execPowerUp_keeps h
  | boot => exact execBoot_keeps h
  | cpWatchdogTimeout => exact execCpWatchdogTimeout_keeps h
  | cpRestartComplete => exact execCpRestartComplete_keeps h
  | cpRestartLimit => exact execCpRestartLimit_keeps h
  | vinExcursion => exact execVinExcursion_keeps h
  | inputOvercurrent => exact execInputOvercurrent_keeps h
  | vauxLow => exact execVauxLow_keeps h
  | converterFault => exact execConverterFault_keeps h
  | pwrAlert => exact execPwrAlert_keeps h
  | floorExit => exact execFloorExit_keeps h
  | flowFault => exact execFlowFault_keeps h
  | flowFaultDormant => exact execFlowFaultDormant_keeps h
  | thermTrip => exact execThermTrip_keeps h
  | junctionSensorRead => exact execJunctionSensorRead_keeps h
  | throttleRestore => exact execThrottleRestore_keeps h
  | droopDetect => exact execDroopDetect_keeps h
  | sustainedDroop => exact execSustainedDroop_keeps h
  | marginCheck => exact execMarginCheck_keeps h
  | clustersOn => exact execClustersOn_keeps h
  | holdupSample => exact execHoldupSample_keeps h
  | durableStoreStart => exact execDurableStoreStart_keeps h
  | durableStoreComplete => exact execDurableStoreComplete_keeps h
  | durableStoreRetry => exact execDurableStoreRetry_keeps h
  | eventBatchStore => exact execEventBatchStore_keeps h
  | hours => exact execHours_keeps h
  | opSecond => exact execOpSecond_keeps h
  | repeatSecond => exact execRepeatSecond_keeps h
  | meterReady => exact execMeterReady_keeps h
  | meterNotReady => exact execMeterNotReady_keeps h
  | attributionInterval => exact execAttributionInterval_keeps h
  | metPulse => exact execMetPulse_keeps h
  | overrange => exact execOverrange_keeps h
  | meterCommit => exact execMeterCommit_keeps h
  | selfTestFail => exact execSelfTestFail_keeps h
  | snapshot => exact execSnapshot_keeps h
  | snapshotStale => exact execSnapshotStale_keeps h
  | sealChange => exact execSealChange_keeps h
  | readEnergy => exact execReadEnergy_keeps h
  | readStatus => exact execReadStatus_keeps h
  | readSwId => exact execReadSwId_keeps h
  | readAudit => exact execReadAudit_keeps h
  | readCfg => exact execReadCfg_keeps h
  | cfgWrite => exact execCfgWrite_keeps h
  | fwBegin => exact execFwBegin_keeps h
  | fwChunk => exact execFwChunk_keeps h
  | fwEnd => exact execFwEnd_keeps h
  | islandUnknownCommand => exact execIslandUnknownCommand_keeps h
  | bypass => exact execBypass_keeps h
  | idcode => exact execIdcode_keeps h
  | samplePreload => exact execSamplePreload_keeps h
  | extest => exact execExtest_keeps h
  | extestPulse => exact execExtestPulse_keeps h
  | extestTrain => exact execExtestTrain_keeps h
  | clamp => exact execClamp_keeps h
  | highz => exact execHighz_keeps h
  | boardOtp => exact execBoardOtp_keeps h
  | vauxRise => exact execVauxRise_keeps h
  | vinRestore => exact execVinRestore_keeps h
  | keeperStop => exact execKeeperStop_keeps h
  | flowFaultClear => exact execFlowFaultClear_keeps h
  | d2dTrainingRecovered => exact execD2dTrainingRecovered_keeps h
  | timeHoldEnd => exact execTimeHoldEnd_keeps h
  | stackHot => exact execStackHot_keeps h
  | powerTransitionComplete => exact execPowerTransitionComplete_keeps h

end Sys2Proof.Machine
end

section
/-! PROOFS. Settles PartitionTable (O6), ResetKeepsAccounts (O2) and StepKeepsStagingAndParts (O5). -/

namespace Sys2Proof.Machine

/-! ### The partitions (R16) -/

/-- The beds of a partition by the value of PART_LOG2. -/
theorem State.partBeds_eq {s : State} {n : Nat} (hn : s.get pgGlobals .PART_LOG2 = n) (q : Nat) :
    s.partBeds q = allBeds.filter fun b => b / (8 / 2 ^ n) == q := by
  unfold State.partBeds State.partOf State.partSize State.partCount
  rw [hn]

/-- A number that is no partition's names no bed: a bed's partition is one of the eight at most. -/
theorem partBeds_none {q : Nat} (n : Nat) (hq : 8 ≤ q) : (allBeds.filter fun b => b / (8 / 2 ^ n) == q) = [] := by
  rw [List.filter_eq_nil_iff]
  intro b hb
  have hb : b < 8 := by revert b; decide
  have := Nat.div_le_self b (8 / 2 ^ n)
  simp only [beq_iff_eq]
  omega

/-- Each partition in force has 8 ÷ their count beds, any other number none (R16). -/
theorem length_partBeds {n : Nat} (hn : n < 4) (q : Nat) :
    (allBeds.filter fun b => b / (8 / 2 ^ n) == q).length = if q < 2 ^ n then 8 / 2 ^ n else 0 := by
  by_cases hq : q < 8
  · revert n q
    decide
  · have := Nat.pow_le_pow_right (n := 2) (by decide) (Nat.le_of_lt_succ hn)
    rw [partBeds_none n (Nat.le_of_not_lt hq), if_neg (by omega)]
    rfl

/-- Settles O6: a legal PART_LOG2 is 0, 1, 2 or 3, and each gives the beds of the table in R16. -/
theorem partitionTable : Obligations.PartitionTable := by
  intro s hs
  obtain ⟨n, hn⟩ : ∃ n, s.get pgGlobals .PART_LOG2 = n := ⟨_, rfl⟩
  have hlt : n < 4 := hn ▸ hs
  have hc : s.partCount = 2 ^ n := congrArg (2 ^ ·) hn
  simp only [State.partBeds_eq hn, hc]
  refine ⟨?_, length_partBeds hlt, ?_⟩
  · interval_cases n <;> decide
  · interval_cases n <;> decide

/-- Settles O2: reset has no staging, no memory, PART_LOG2 0 and every energy 0. -/
theorem resetKeepsAccounts : Obligations.ResetKeepsAccounts := by
  refine ⟨?_, rfl, rfl, ?_, ?_⟩
  · exact ⟨rfl, rfl, rfl, rfl⟩
  · unfold State.partsLegal
    decide
  · exact ⟨List.nodup_nil, fun _ he => nomatch he⟩

/-- A step keeps the staging legal and the partition count one of R16. -/
theorem step_keeps (s : State) : KeepsNext s (step s) := by
  unfold step
  split
  · exact (Keeps.refl s).idle.next
  · exact exec_keeps (Keeps.refl s).frame

/-- Settles O5: every command carries the two forms from state to state (`exec_keeps`), and so does an idle nanosecond. -/
theorem stepKeepsStagingAndParts : Obligations.StepKeepsStagingAndParts :=
  ⟨fun s _ hst => ((step_keeps s).out hst).staging, fun s _ hst _ => ((step_keeps s).out hst).parts⟩

end Sys2Proof.Machine
end

section
/-! PROOFS. Settles LinkUpkeep (O55): the ports' registers through training and loss of a link, and what Hold after a lost die-to-die link leaves of the beds. -/

namespace Sys2Proof.Machine

/-! ### Heartbeats (R237) -/

/-- A heartbeat passes the receiver's checks unchanged: it belongs to one link and is never late (R231, R236, R244). -/
theorem State.takeIn_heartbeat {s : State} {p : Nat} {k : Packet} (hp : (s.portUp p || s.link p == 4) = true)
    (hw : s.pw.wedged = false) (ht : k.type = tyHeartbeat) (hr : k.rsv = false) (hf : tfReserved k = false) :
    s.takeIn p k = (s, some k) := by
  have ht1 : k.type = 1 := ht
  have hl : linkType 1 = true := rfl
  have ho : s.openPacket p k = (s, some k) := by simp [State.openPacket, encType, ht1, hl]
  have hlate : s.countLate p k = s := by simp [State.countLate, State.late0, ht1, hl, tyTime]
  simp [State.takeIn, hw, hp, hr, hf, ho, hlate, ht1, hl, tyHeartbeat]

/-! ### The registers of a port -/

/-- A port taken down keeps every register but its LINK_STATE and its LANES_UP. -/
theorem State.portDown_get (s : State) (p st : Nat) (q : Page) {g : Fld} (j : Nat) (h1 : g ≠ .LINK_STATE) (h2 : g ≠ .LANES_UP) :
    (s.portDown p st).get q g j = s.get q g j := by
  unfold State.portDown
  rw [State.get_put_fld _ _ _ _ _ _ h2, State.get_put_fld _ _ _ _ _ _ h1, State.setFab_get]

/-- The LINK_STATE of a port taken down is the state named, cut to its three bits. -/
theorem State.portDown_link (s : State) (p st : Nat) : (s.portDown p st).link p = st % 8 := by
  unfold State.portDown State.link
  rw [State.get_put_fld _ _ _ _ _ _ (by decide), State.get_put_same]
  rfl

/-- Another port's LINK_STATE stays. -/
theorem State.portDown_link_ne (s : State) {p x : Nat} (st : Nat) (h : x ≠ p) : (s.portDown p st).link x = s.link x := by
  have hp : pgPort x ≠ pgPort p := fun e => h (congrArg Page.inst e)
  unfold State.portDown State.link
  rw [State.get_put_page _ _ _ _ _ _ hp, State.get_put_page _ _ _ _ _ _ hp, State.setFab_get]

/-- A port taken down has no lanes. -/
theorem State.portDown_lanes (s : State) (p st : Nat) : (s.portDown p st).get (pgPort p) .LANES_UP = 0 := by
  unfold State.portDown
  rw [State.get_put_same]
  rfl

/-- A record leaves a port's LINK_STATE. -/
theorem State.record_link (s : State) (c : Nat) (p : Page) (d : List Byte) (x : Nat) : (s.record c p d).link x = s.link x :=
  State.record_get _ _ _ _ _ _ rfl fun _ => by decide

/-- An EVT bit leaves a port's LINK_STATE. -/
theorem State.evt_link (s : State) (p : Page) (b x : Nat) : (s.evt p b).link x = s.link x := State.get_evt _ _ _ _ _ _ (by decide)

/-- A fenced port is down, and PORT_FENCED is set (R221). -/
theorem State.fencePort_fenced (s : State) (p : Nat) :
    (s.fencePort p).link p = 0 ∧ (s.fencePort p).flag (pgPort p) .PORT_FENCED = true := by
  unfold State.fencePort
  constructor
  · rw [State.evt_link]
    unfold State.link
    rw [State.get_put_fld _ _ _ _ _ _ (by decide)]
    exact s.portDown_link p 0
  · unfold State.flag
    rw [State.get_evt _ _ _ _ _ _ (by decide), State.get_put_same]
    rfl

/-- A port that begins to train carries nothing, keeps its queue, and makes attempt 1, or attempt 3 under FORCE_FALLBACK (R221). -/
theorem State.train_port (s : State) (p : Nat) :
    (s.train p).link p = 1 ∧ (s.train p).get (pgPort p) .LANES_UP = 0 ∧
      (s.train p).fab.attempts.get p 1 = (if s.flag (pgPort p) .FORCE_FALLBACK then 3 else 1) ∧ (s.train p).fab.queue = s.fab.queue := by
  refine ⟨s.portDown_link p 1, s.portDown_lanes p 1, ?_, rfl⟩
  have hf : (s.portDown p 1).flag (pgPort p) .FORCE_FALLBACK = s.flag (pgPort p) .FORCE_FALLBACK := by
    unfold State.flag
    rw [s.portDown_get p 1 _ _ (by decide) (by decide)]
  rw [← hf]
  exact Tab.get_put_same ..

/-- A counter raised by n, as `satAdd` gives it. -/
theorem State.get_bump_satAdd (s : State) (p : Page) (f : Fld) (n : Nat) :
    (s.bump p f n).get p f = satAdd (fieldInfo f).width (s.get p f) n := State.get_bump_same ..

/-- Another field than the counter raised stays. -/
theorem State.get_bump_fld (s : State) (p q : Page) {f g : Fld} (n j : Nat) (h : g ≠ f) : (s.bump p f n).get q g j = s.get q g j :=
  State.get_put_fld _ _ _ _ _ _ h

/-- The third miss in a row takes the port down, with HB_MISS and DOWN_CNT counted; the other ports' links stay (R237, R351). -/
theorem execHeartbeatTimeout_down (p : Port) {s : State} (hp : (s.portUp p.val || s.link p.val == 4) = true) :
    ∃ t : State, execHeartbeatTimeout p s = .next t ∧ t.link p.val = 0 ∧ t.get (pgPort p.val) .LANES_UP = 0 ∧
      t.get (pgPort p.val) .HB_MISS = satAdd 32 (s.get (pgPort p.val) .HB_MISS) 3 ∧
      t.get (pgPort p.val) .DOWN_CNT = satAdd 16 (s.get (pgPort p.val) .DOWN_CNT) 1 ∧
      ∀ x < 16, x ≠ p.val → t.link x = s.link x := by
  unfold execHeartbeatTimeout
  extract_lets n _ u1 u2
  have hu1 : ∀ (q : Page) (g : Fld), u1.get q g = s.get q g := fun _ _ => rfl
  clear_value u1
  have hget : ∀ (q : Page) (g : Fld), recordField g = false → g ≠ .EVT →
      (((u2.evt (pgPort n) 6).evt (pgPort n) 0).record 0x0A10 (pgPort n)).get q g = u2.get q g := by
    intro q g hr he
    rw [State.record_get _ _ _ _ _ _ hr fun _ => he, State.get_evt _ _ _ _ _ _ he, State.get_evt _ _ _ _ _ _ he]
  refine ⟨_, if_neg (by rw [hp]; decide), (hget _ .LINK_STATE rfl (by decide)).trans (State.portDown_link ..),
    (hget _ .LANES_UP rfl (by decide)).trans (State.portDown_lanes ..), (hget _ .HB_MISS rfl (by decide)).trans ?_,
    (hget _ .DOWN_CNT rfl (by decide)).trans ?_, fun x _ hx => (hget _ .LINK_STATE rfl (by decide)).trans ?_⟩
  · rw [State.portDown_get _ _ _ _ _ (by decide) (by decide), State.get_bump_fld _ _ _ _ _ (by decide), State.get_bump_satAdd, hu1]
    rfl
  · rw [State.portDown_get _ _ _ _ _ (by decide) (by decide), State.get_bump_satAdd, State.get_bump_fld _ _ _ _ _ (by decide), hu1]
    rfl
  · refine (State.portDown_link_ne _ 0 hx).trans ?_
    unfold State.link
    rw [State.get_bump_fld _ _ _ _ _ (by decide), State.get_bump_fld _ _ _ _ _ (by decide), hu1]

/-- Training not completed leads to the next attempt, and the third to the fence (R221). -/
theorem execPortTrainingTimeout_eq (p : Port) {s u : State} (h : s.link p.val = 1)
    (hu : s.record 0x0A11 (pgPort p.val) (leBytes 1 (s.fab.attempts.get p.val 1)) = u) :
    execPortTrainingTimeout p s = .next (if 3 ≤ s.fab.attempts.get p.val 1 then u.fencePort p.val
      else u.setFab { u.fab with attempts := s.fab.attempts.put p.val (s.fab.attempts.get p.val 1 + 1) }) := by
  have hf : u.fab = s.fab := hu ▸ State.record_fab ..
  unfold execPortTrainingTimeout
  rw [if_neg (not_not_intro h)]
  dsimp only
  rw [hu, hf]
  split <;> rfl

/-- A port that comes up carries traffic at the attempt's rate on all its lanes, has missed no heartbeat, and sends its identity (R221, R223). -/
theorem execLinkUp_up (p : Port) {s : State} (h : s.link p.val = 1) : ∃ t : State, execLinkUp p s = .next t ∧
    t.link p.val = (if 3 ≤ s.fab.attempts.get p.val 1 then 3 else 2) ∧ t.get (pgPort p.val) .LANES_UP = 0xFF ∧
    t.fab.missed.get p.val 0 = 0 ∧
    ∃ k, t.fab.queue.get p.val [] = s.fab.queue.get p.val [] ++ [k] ∧ k.type = tyTopology ∧ k.cls = 0 := by
  unfold execLinkUp
  extract_lets n fb u1 _ u2 u3 u4
  have hget : ∀ (q : Page) (g : Fld), recordField g = false → g ≠ .EVT → u4.get q g = u1.get q g := by
    intro q g hr he
    have h3 : u3.get q g = u1.get q g := State.raise_get _ _ _ _ _ _ hr he
    dsimp only [u4]
    split
    · rw [State.raise_get _ _ _ _ _ _ hr he, h3]
    · exact h3
  have hfab : u4.fab = u2.fab := by
    have h3 : u3.fab = u2.fab := State.raise_fab ..
    dsimp only [u4]
    split
    · rw [State.raise_fab, h3]
    · exact h3
  refine ⟨_, if_neg (not_not_intro h), (hget _ .LINK_STATE rfl (by decide)).trans ?_, (hget _ .LANES_UP rfl (by decide)).trans ?_,
    ?_, u4.identity n, ?_, rfl, rfl⟩
  · rw [State.get_put_fld _ _ _ _ _ _ (by decide), State.get_put_same]
    have hw : (fieldInfo .LINK_STATE).width = 3 := rfl
    by_cases ha : 3 ≤ s.fab.attempts.get n 1
    · simp [fb, n, ha, hw]
    · simp [fb, n, ha, hw]
  · rw [State.get_put_same]
    rfl
  · show u4.fab.missed.get n 0 = 0
    rw [hfab]
    exact Tab.get_put_same ..
  · show (u4.fab.queue.put n (u4.fab.queue.get n [] ++ [u4.identity n])).get n [] = _
    rw [Tab.get_put_same, hfab]
    rfl

/-! ### Beds that enter Hold (R153, R305) -/

/-- An operation that leaves the power state's part and every bed's SEQ_STATE as they were. -/
structure SameRun (s t : State) : Prop where
  pw : t.pw = s.pw
  seq : ∀ b, t.seq b = s.seq b

section
variable {s t u : State}

theorem SameRun.refl (s : State) : SameRun s s := ⟨rfl, fun _ => rfl⟩

theorem SameRun.ite {c : Prop} {_ : Decidable c} (ht : SameRun s t) (hu : SameRun s u) : SameRun s (if c then t else u) := by
  split
  · exact ht
  · exact hu

theorem SameRun.foldl {α : Type} {f : State → α → State} {l : List α} (h : SameRun s t)
    (hf : ∀ u a, SameRun s u → SameRun s (f u a)) : SameRun s (l.foldl f t) :=
  List.foldlRecOn l f h fun u hu a _ => hf u a hu

/-- A write of any field but SEQ_STATE. -/
theorem SameRun.put (h : SameRun s t) {p : Page} {f : Fld} {v i : Nat} (hf : .SEQ_STATE ≠ f) : SameRun s (t.put p f v i) where
  pw := h.pw
  seq b := (State.get_put_fld _ _ _ _ _ _ hf).trans (h.seq b)

theorem SameRun.bump (h : SameRun s t) {p : Page} {f : Fld} {n i : Nat} (hf : .SEQ_STATE ≠ f) : SameRun s (t.bump p f n i) := h.put hf

theorem SameRun.record (h : SameRun s t) {c : Nat} {p : Page} {d : List Byte} : SameRun s (t.record c p d) where
  pw := (State.record_pw ..).trans h.pw
  seq b := (State.record_get _ _ _ _ _ _ rfl fun _ => by decide).trans (h.seq b)

/-- The cores' own state is none of it. -/
theorem SameRun.setCores (h : SameRun s t) {c : CoreSt} : SameRun s (t.setCores c) := ⟨h.pw, h.seq⟩

theorem SameRun.setBed (h : SameRun s t) {b : Nat} {x : BedSt} : SameRun s (t.setBed b x) := ⟨h.pw, h.seq⟩

theorem SameRun.localPut (h : SameRun s t) {c a : Nat} {d : List Byte} : SameRun s (t.localPut c a d) := ⟨h.pw, h.seq⟩

theorem SameRun.onCores (h : SameRun s t) {b : Nat} {g : State → Nat → State} (hg : ∀ u c, SameRun s u → SameRun s (g u c)) :
    SameRun s (t.onCores b g) := .ite h (h.foldl hg)

theorem SameRun.abandon (h : SameRun s t) {c k n : Nat} : SameRun s (t.abandon c k n) := h.foldl fun _ _ h => h.setCores

theorem SameRun.skipMatrix (h : SameRun s t) {b c : Nat} {arm : Option Nat} {m : MatBlk} : SameRun s (t.skipMatrix b c arm m) :=
  .ite (.ite (h.abandon.foldl fun _ _ h => h.localPut) h.abandon) (.ite h.abandon.setCores h.abandon)

theorem SameRun.skipEntry (h : SameRun s t) {b c e : Nat} {i : Issue} : SameRun s (t.skipEntry b c e i) :=
  .ite (.ite (h.bump (by decide)).skipMatrix (h.bump (by decide))) h

theorem SameRun.skipEngine (h : SameRun s t) {b c e : Nat} : SameRun s (t.skipEngine b c e) :=
  (h.foldl fun _ _ h => h.skipEntry).setCores

theorem SameRun.skipXfer (h : SameRun s t) {b c x : Nat} : SameRun s (t.skipXfer b c x) :=
  .ite (h.bump (by decide)).setCores (h.bump (by decide)).setCores.setCores

theorem SameRun.skipXfers (h : SameRun s t) {b c x : Nat} : SameRun s (t.skipXfers b c x) :=
  (h.foldl fun _ _ h => h.skipXfer).setCores

theorem SameRun.skipFrame (h : SameRun s t) {b : Nat} : SameRun s (t.skipFrame b) :=
  h.onCores fun _ _ h => (h.foldl fun _ _ h => h.skipEngine).foldl fun _ _ h => h.skipXfers

theorem SameRun.stopEngine (h : SameRun s t) {b c e : Nat} : SameRun s (t.stopEngine b c e) := by
  unfold State.stopEngine
  split
  · exact h
  · extract_lets _ u1 u2 u3
    have h3 : SameRun s u3 := (h.setCores.bump (by decide)).put (by decide)
    exact .ite h3.skipMatrix h3

theorem SameRun.stopXfer (h : SameRun s t) {b c x : Nat} : SameRun s (t.stopXfer b c x) := .ite h.setCores.skipXfer h

theorem SameRun.stopRunning (h : SameRun s t) {b : Nat} : SameRun s (t.stopRunning b) :=
  h.onCores fun _ _ h => (h.foldl fun _ _ h => h.stopEngine).foldl fun _ _ h => h.stopXfer

theorem SameRun.askUnits (h : SameRun s t) {b : Nat} : SameRun s (t.askUnits b) := ⟨h.pw, h.seq⟩

theorem SameRun.dropPending (h : SameRun s t) {b : Nat} : SameRun s (t.dropPending b) := by
  unfold State.dropPending
  split
  · exact h
  · extract_lets _ u1
    have h1 : SameRun s u1 := h.setBed.put (by decide)
    exact .ite ((h1.setBed.put (by decide)).put (by decide)) h1

theorem SameRun.halt (h : SameRun s t) {p : Page} : SameRun s (t.halt p) :=
  ⟨h.pw, fun b => (State.get_put_fld _ _ _ _ _ _ (by decide)).trans (h.seq b)⟩

theorem SameRun.endStops (h : SameRun s t) {b : Nat} : SameRun s (t.endStops b) := h.foldl fun _ _ h => h.halt

theorem SameRun.leaveGroup (h : SameRun s t) {p : Nat} : SameRun s (t.leaveGroup p) := .ite ⟨h.pw, h.seq⟩ h

theorem SameRun.leaveAll (h : SameRun s t) : SameRun s t.leaveAll := h.foldl fun _ _ h => h.leaveGroup

end

/-- A bed put to HELD: its SEQ_STATE is 4, the other beds' and the power state's part stay. -/
theorem State.setSeq_held (s : State) (b : Nat) : (s.setSeq b seqHeld).pw = s.pw ∧ (s.setSeq b seqHeld).seq b = seqHeld ∧
    ∀ x, x ≠ b → (s.setSeq b seqHeld).seq x = s.seq x := by
  have hs : SameRun s (s.dueSets b) := ⟨rfl, fun _ => rfl⟩
  have hd : SameRun s ((s.dueSets b).endStops b) := hs.endStops
  refine ⟨hd.pw, ?_, fun x hx => ?_⟩
  · exact (State.get_put_fld _ _ _ _ _ _ (by decide)).trans (State.get_put_same ..)
  · have hp : pgBed x ≠ pgBed b := fun e => hx (congrArg Page.inst e)
    exact (State.get_put_fld _ _ _ _ _ _ (by decide)).trans ((State.get_put_page _ _ _ _ _ _ hp).trans (hd.seq x))

/-- What holding one bed leaves: the power state's part, the other beds' SEQ_STATE, and a bed that does not run. -/
structure Held (s t : State) (b : Nat) : Prop where
  pw : t.pw = s.pw
  others : ∀ x, x ≠ b → t.seq x = s.seq x
  stopped : t.bedRuns b = false

/-- A bed put to HELD after an operation that changes no SEQ_STATE is held, and stays so after another. -/
theorem Held.of_setSeq {s u t : State} {b : Nat} (hu : SameRun s u) (ht : SameRun (u.setSeq b seqHeld) t) : Held s t b := by
  obtain ⟨hpw, hseq, hother⟩ := u.setSeq_held b
  refine ⟨ht.pw.trans (hpw.trans hu.pw), fun x hx => (ht.seq x).trans ((hother x hx).trans (hu.seq x)), ?_⟩
  unfold State.bedRuns
  rw [ht.seq, hseq]
  rfl

/-- Entering HELD from any state of the bed leaves it not running (R153). -/
theorem State.holdBed_held (s : State) (b cause : Nat) : Held s (s.holdBed b cause) b := by
  unfold State.holdBed
  split
  · exact .of_setSeq (SameRun.refl s).dropPending (SameRun.refl _).record
  next hna =>
    split
    · exact .of_setSeq (SameRun.refl s).stopRunning.skipFrame.askUnits.dropPending (SameRun.refl _).setBed
    next hnr =>
      refine ⟨rfl, fun _ _ => rfl, ?_⟩
      have h1 : s.seq b ≠ 1 := hna
      obtain ⟨h2, h3⟩ : s.seq b ≠ seqRunning ∧ s.seq b ≠ seqPaused := by
        simpa only [Bool.or_eq_true, decide_eq_true_eq, not_or] using hnr
      have h2 : s.seq b ≠ 2 := h2
      have h3 : s.seq b ≠ 3 := h3
      simp only [State.bedRuns, Bool.and_eq_false_iff, decide_eq_false_iff_not]
      omega

/-- Beds that do not run still do not when others are held. -/
theorem State.holdBeds_stays {l : List Nat} {s : State} {cause b : Nat} (h : s.bedRuns b = false) :
    (s.holdBeds l cause).bedRuns b = false := by
  refine List.foldlRecOn (motive := fun t : State => t.bedRuns b = false) l _ h fun t ht a _ => ?_
  have hh := t.holdBed_held a cause
  by_cases hb : b = a
  · exact hb ▸ hh.stopped
  · unfold State.bedRuns at ht ⊢
    rwa [hh.others b hb]

/-- No bed of a list that is held runs. -/
theorem State.holdBeds_stopped {l : List Nat} {s : State} {cause b : Nat} (h : b ∈ l) : (s.holdBeds l cause).bedRuns b = false := by
  induction l generalizing s with
  | nil => cases h
  | cons a l ih =>
    rcases List.mem_cons.mp h with rfl | h
    · exact State.holdBeds_stays (s := s.holdBed b cause) (s.holdBed_held b cause).stopped
    · exact ih (s := s.holdBed a cause) h

/-- Holding beds leaves the power state's part. -/
theorem State.holdBeds_pw (l : List Nat) (s : State) (cause : Nat) : (s.holdBeds l cause).pw = s.pw :=
  List.foldlRecOn (motive := fun t : State => t.pw = s.pw) l _ rfl fun t ht a _ => (t.holdBed_held a cause).pw.trans ht

theorem State.beginTransition_pw (s : State) (p : PowerState) (cause : Nat) :
    (s.beginTransition p cause).pw = { s.pw with transition := some p } := rfl

theorem SameRun.beginTransition_seq {s t : State} (h : SameRun s t) (p : PowerState) (cause b : Nat) :
    (t.beginTransition p cause).seq b = s.seq b := (State.get_put_fld _ _ _ _ _ _ (by decide)).trans (h.seq b)

/-- Hold begun from Run or Floor: the transition is under way and no bed runs (R305). -/
theorem State.enterHold_begun {s : State} {cause : Nat} (hr : s.inRun = true) (ht : s.pw.transition = none) :
    (s.enterHold cause).pw = { s.pw with transition := some .hold } ∧ ∀ b ∈ allBeds, (s.enterHold cause).bedRuns b = false := by
  have he : s.enterHold cause = ((s.holdBeds allBeds 1).leaveAll).beginTransition .hold cause := by
    simp [State.enterHold, hr, ht]
  have hl : SameRun (s.holdBeds allBeds 1) (s.holdBeds allBeds 1).leaveAll := (SameRun.refl _).leaveAll
  rw [he, State.beginTransition_pw, hl.pw, State.holdBeds_pw]
  refine ⟨rfl, fun b hb => ?_⟩
  unfold State.bedRuns
  rw [hl.beginTransition_seq]
  exact State.holdBeds_stopped hb

/-! ### Die-to-die links (R10, R11, R353) -/

/-- A number marked is listed, and one whose mark is taken is not. -/
theorem contains_setMark_same (l : List Nat) (x : Nat) (on : Bool) : (setMark l x on).contains x = on := by
  unfold setMark
  cases on with
  | true => by_cases h : x ∈ l <;> simp [h]
  | false => simp

/-- A link that does not recover wedges the device on its way to Hold: no bed runs and no BAR is answered (R11, R353). -/
theorem execD2dTrainingTimeout_wedged (l : Fin 11) {s : State} (hd : s.pw.d2dDown.contains l.val = true) (hr : s.inRun = true)
    (ht : s.pw.transition = none) : ∃ t : State, execD2dTrainingTimeout l s = .next t ∧ t.pw.wedged = true ∧
      t.pw.transition = some .hold ∧ t.barUp = false ∧ ∀ b < 8, t.bedRuns b = false := by
  have hpw : ({ s with pw := { s.pw with wedged := true } }.record 0x0110 pgGlobals (leBytes 1 l.val)).pw
      = { s.pw with wedged := true } := State.record_pw ..
  have hr' : ({ s with pw := { s.pw with wedged := true } }.record 0x0110 pgGlobals (leBytes 1 l.val)).inRun = true := by
    unfold State.inRun
    rw [hpw]
    exact hr
  obtain ⟨hp, hb⟩ := State.enterHold_begun (cause := 7) hr' (by rw [hpw]; exact ht)
  rw [hpw] at hp
  refine ⟨_, if_pos hd, by rw [hp], by rw [hp], ?_, fun b hlt => hb b ?_⟩
  · unfold State.barUp
    rw [hp]
    simp
  · revert b
    decide

/-- Settles O55: each command's state is the ports' registers after `portDown`, `train` and LINK_UP, the marks of the links that are down, and the beds after Hold. -/
theorem linkUpkeep : Obligations.LinkUpkeep := by
  refine ⟨⟨?_, fun p s hp => execHeartbeatTimeout_down p hp⟩, ⟨?_, ?_, ?_, fun p s h => execLinkUp_up p h⟩,
    fun l s => ⟨rfl, rfl⟩, ?_, ?_, fun l s => execD2dTrainingTimeout_wedged l⟩
  · intro p k s hp hw ht hr hf
    show s.consume p.val k tyHeartbeat (fun s k => s.heartbeatIn p.val k) = _
    unfold State.consume
    rw [if_neg (not_not_intro ht), State.takeIn_heartbeat hp hw ht hr hf]
    rfl
  · intro p s hp
    obtain ⟨hlink, hlanes, hatt, hq⟩ := s.train_port p.val
    refine ⟨_, congrArg Host.Outcome.next (if_pos hp), hlink, hlanes, ?_, hatt, hq⟩
    unfold State.portSlots
    rw [hlink]
    rfl
  · intro p s h ha
    refine ⟨_, (execPortTrainingTimeout_eq p h rfl).trans (congrArg Host.Outcome.next (if_neg (by omega))), ?_, Tab.get_put_same ..⟩
    exact (State.record_link ..).trans h
  · intro p s h ha
    obtain ⟨hl, hf⟩ := (s.record 0x0A11 (pgPort p.val) (leBytes 1 (s.fab.attempts.get p.val 1))).fencePort_fenced p.val
    exact ⟨_, (execPortTrainingTimeout_eq p h rfl).trans (congrArg Host.Outcome.next (if_pos ha)), hl, hf⟩
  · exact fun l s => ⟨_, rfl, contains_setMark_same s.pw.d2dDown l.val true, rfl⟩
  · exact fun l s => ⟨_, rfl, contains_setMark_same s.pw.d2dDown l.val false, rfl⟩

end Sys2Proof.Machine
end

section
/-! PROOFS. Refutes StagedSetsAndSwitches (O36): its clause on the switch asks nothing of the file's header, and FRAME_CFG keeps seven of the sixteen bits of the header's FRAME_US. -/

namespace Sys2Proof.Machine

/-- A file whose header says FRAME_US 128 and nothing else (R140): no beds, no group, no section. -/
def longFrameFile : File := List.replicate 16 0 ++ leBytes 2 128

/-- The activation of that file from slot 0 at frame 1, asked for in IDLE (R151). -/
def longFrameActivation : Activation := ⟨0, 0, 1, 0, 0, false, seqIdle, false, false, none⟩

/-- Bed 1 ARMED with that activation at the instant of the tick that begins frame 1. Bed 0, ARMED without an origin, is the lowest running bed, so that bed 1's tick leaves the clock and its free power readings alone (R310). -/
def longFrameArmed : State :=
  { State.reset with
    beds := [(1, { BedSt.reset with origin := true, started := true, us := 16, pend := some longFrameActivation })]
    arms := [((0, 0), ⟨longFrameFile, []⟩)]
    time := { State.reset.time with now := 16000 } }.put (pgBed 0) .SEQ_STATE seqArmed |>.put (pgBed 1) .SEQ_STATE seqArmed

/-- FRAME_CFG.FRAME_US of a bed in the state that a command leaves. -/
def frameUsAfter (b : Nat) : Host.Outcome State Fault Refusal → Option Nat
  | .next s => some (s.get (pgBed b) .FRAME_US)
  | .fault _ => none
  | .refused _ => none

/-- The tick is due on legal partitions, bed 1 is its partition's lead bed and its activation is planned for the frame that begins. -/
theorem longFrameArmed_due : longFrameArmed.tickDue 1 = true ∧ longFrameArmed.partsLegal ∧ longFrameArmed.seq 1 = seqArmed ∧
    longFrameArmed.runsArm (longFrameArmed.leadBed (longFrameArmed.partOf 1)) = false ∧
    (longFrameArmed.bed 1).pend = some longFrameActivation ∧ longFrameActivation.startFrame = longFrameArmed.nextFrame 1 := by
  unfold State.partsLegal
  decide

/-- Nothing is staged. -/
theorem longFrameArmed_stagingLegal : longFrameArmed.stagingLegal := by
  unfold State.stagingLegal
  decide

/-- The file needs no vote, and its frame length does not fit FRAME_CFG.FRAME_US. -/
theorem longFrameFile_header : longFrameArmed.fileOf (longFrameArmed.partOf 1) longFrameActivation.slot = longFrameFile ∧
    armGroup longFrameFile ≤ 1 ∧ armFrameUs longFrameFile = 128 := by
  decide

/-- The switch at the tick leaves 128 mod 2^7 in FRAME_CFG.FRAME_US (R167). -/
theorem frameTick_longFrameArmed : frameUsAfter 1 (exec (.frameTick 1) longFrameArmed) = some 0 := by
  decide +kernel

/-- Refutes O36: on `longFrameArmed` every premise of the clause on the switch holds, but FRAME_CFG.FRAME_US is 0 after it, where the clause has it at the header's 128. -/
theorem not_stagedSetsAndSwitches : ¬ Obligations.StagedSetsAndSwitches := by
  rintro ⟨-, -, switch⟩
  obtain ⟨hdue, hparts, hseq, hlead, hpend, hframe⟩ := longFrameArmed_due
  obtain ⟨hfile, hgroup, hus⟩ := longFrameFile_header
  obtain ⟨switched, -⟩ := switch 1 longFrameActivation _ longFrameArmed hdue longFrameArmed_stagingLegal hparts (fun _ => rfl)
    (fun _ => rfl) hseq hlead hpend hframe hfile.symm
  obtain ⟨t, ht, -, -, -, -, -, -, -, -, hframeUs, -⟩ := switched (.inl hgroup)
  have h := frameTick_longFrameArmed
  rw [ht] at h
  have h0 : t.get (pgBed 1) .FRAME_US = 0 := Option.some.inj h
  exact absurd (hus.symm.trans (hframeUs.symm.trans h0)) (by decide)

end Sys2Proof.Machine
end

section
/-! PROOFS. Settles EventRecordsAreQueued (O14): a general record that finds a place is queued with the next SEQ and then captured in ERR_CAP (R31, R337, R340). -/

namespace Sys2Proof.Machine

variable (s : State)

/-- The state with one more record counted for a page and code in this second (R344). -/
def State.countPair (code : Nat) (p : Page) : State :=
  s.setRec { s.evr with perSecond := s.evr.perSecond.put (pageSource p, code) (s.evr.perSecond.get (pageSource p, code) 0 + 1) }

@[simp] theorem State.mkRecord_code (code : Nat) (p : Page) (pay : List Byte) (n : Nat) : (s.mkRecord code p pay n).code = code := rfl
@[simp] theorem State.mkRecord_source (code : Nat) (p : Page) (pay : List Byte) (n : Nat) :
    (s.mkRecord code p pay n).source = pageSource p := rfl

/-- A general record below its pair's limit and with a free place is counted, queued and captured. -/
theorem State.record_general {code : Nat} {p : Page} {pay : List Byte} (hk : s.pw.keeperOn = true) (hc : protectedCode code = false)
    (hn : s.evr.perSecond.get (pageSource p, code) 0 < 64) (hq : s.evr.queueGen.length < 4096) :
    s.record code p pay =
      ((s.countPair code p).enqueue (s.mkRecord code p pay (s.pageFrame p))).capture code p (s.pageFrame p) := by
  have hlimit : ¬ 64 ≤ s.evr.perSecond.get (pageSource p, code) 0 := by omega
  simp [State.record, State.recordAt, State.postGeneral, State.queueGeneral, State.countPair, State.setRec, hk, hc, hlimit, hq]

/-- A record that is queued takes NEXT_SEQ and leaves every other field. -/
theorem State.get_enqueue (r : Record) (q : Page) (g : Fld) (j : Nat) :
    (s.enqueue r).get q g j = (s.put pgRec .NEXT_SEQ (s.get pgRec .NEXT_SEQ + 1)).get q g j := by
  unfold State.enqueue; dsimp only; split <;> rfl

/-- A general record joins the general queue alone. -/
theorem State.enqueue_general_evr {r : Record} (h : protectedCode r.code = false) :
    (s.enqueue r).evr = { s.evr with queueGen := s.evr.queueGen ++ [{ r with seq := s.get pgRec .NEXT_SEQ }] } := by
  simp [State.enqueue, h]

/-- ERR_CAP of a page whose VALID is set, or that meets a notice, stays as it is. -/
theorem State.capture_of_valid {code : Nat} {p : Page} {n : Nat} (h : s.flag p .CAP_VALID = true) : s.capture code p n = s := by
  simp [State.capture, h]

/-- The first error since VALID was cleared is captured with its code and frame (R31). -/
theorem State.capture_of_error {code : Nat} {p : Page} {n : Nat} (hv : s.flag p .CAP_VALID = false) (hc : noticeCode code = false) :
    s.capture code p n = ((s.put p .CAP_CODE code).put p .CAP_FRAME_LO (n % 4096)).put p .CAP_VALID 1 := by
  simp [State.capture, hv, hc]

/-- A capture leaves the recorder's counters and queues as they are. -/
theorem State.capture_nextSeq (code : Nat) (p : Page) (n : Nat) (q : Page) (j : Nat) :
    (s.capture code p n).get q .NEXT_SEQ j = s.get q .NEXT_SEQ j := by
  unfold State.capture
  split
  · rfl
  · simp only [State.get_put_fld _ _ _ _ _ _ (show Fld.NEXT_SEQ ≠ .CAP_VALID by decide),
      State.get_put_fld _ _ _ _ _ _ (show Fld.NEXT_SEQ ≠ .CAP_FRAME_LO by decide),
      State.get_put_fld _ _ _ _ _ _ (show Fld.NEXT_SEQ ≠ .CAP_CODE by decide)]

@[inherit_doc State.capture_nextSeq] theorem State.capture_evr (code : Nat) (p : Page) (n : Nat) : (s.capture code p n).evr = s.evr := by
  unfold State.capture; split <;> rfl

/-- A field of the page's capture word is the same after a record has joined a queue. -/
theorem State.enqueue_countPair_get (code : Nat) (p : Page) (r : Record) (q : Page) (g : Fld) (j : Nat) (h : g ≠ .NEXT_SEQ) :
    ((s.countPair code p).enqueue r).get q g j = s.get q g j := by
  rw [State.get_enqueue, State.get_put_fld _ _ _ _ _ _ h]
  rfl

/-- A payload no longer than a record's field stands at the field's start (R337). -/
theorem take_padTo {n : Nat} {l : List Byte} (h : l.length ≤ n) : (padTo n l).take l.length = l := by
  rw [padTo, List.take_take, Nat.min_eq_left h, List.take_left]

/-- Settles O14: the record is queued and then captured, and a capture touches ERR_CAP alone. -/
theorem eventRecordsAreQueued : Obligations.EventRecordsAreQueued := by
  intro s code p pay hk hc hn hq _ hlen
  have hrec := s.record_general (pay := pay) hk hc hn hq
  have hevr : (s.record code p pay).evr = { (s.countPair code p).evr with
      queueGen := s.evr.queueGen ++ [{ s.mkRecord code p pay (s.pageFrame p) with seq := s.get pgRec .NEXT_SEQ }] } := by
    rw [hrec, State.capture_evr, State.enqueue_general_evr _ hc]
    rfl
  have hvalid : ((s.countPair code p).enqueue (s.mkRecord code p pay (s.pageFrame p))).flag p .CAP_VALID = s.flag p .CAP_VALID := by
    simp [State.flag, State.enqueue_countPair_get]
  refine ⟨by rw [hevr], ?seq, by rw [hevr]; rfl, by rw [hevr]; rfl, ?first, ?later, rfl, rfl, rfl, take_padTo hlen⟩
  case seq =>
    rw [hrec, State.capture_nextSeq, State.get_enqueue, State.get_put_same]
    rfl
  case first =>
    intro hv hnotice hcode
    rw [hrec, State.capture_of_error _ (hvalid.trans hv) hnotice]
    refine ⟨?_, by simp [fieldInfo], ?_⟩
    · simp [State.get_put_fld, fieldInfo]
      omega
    · simp [State.get_put_fld, fieldInfo]
  case later =>
    intro hv
    rw [hrec, State.capture_of_valid _ (hvalid.trans hv), State.enqueue_countPair_get _ _ _ _ _ _ _ (by decide)]

end Sys2Proof.Machine
end

section
/-! PROOFS. How a management command is taken (R41, R285), and with it RefusalOrder (O20). -/

namespace Sys2Proof.Machine

/-! ### The status that is picked -/

/-- Conditions that do not hold pick no status. -/
theorem pickStatus_clear_append {l : List (Bool × Nat)} (own : List (Bool × Nat)) (h : ∀ x ∈ l, x.1 = false) :
    pickStatus (l ++ own) = pickStatus own := by
  have hl : ∀ st, (l.any fun c => c.1 && c.2 == st) = false := fun st => List.any_eq_false.2 fun x hx => by simp [h x hx]
  simp [pickStatus, hl]

@[inherit_doc pickStatus_clear_append] theorem pickStatus_clear {l : List (Bool × Nat)} (h : ∀ x ∈ l, x.1 = false) : pickStatus l = none := by
  rw [← List.append_nil l, pickStatus_clear_append [] h]
  rfl

/-- Want of authority comes before every other status (R41). -/
theorem pickStatus_notAuth {l : List (Bool × Nat)} (h : (true, stNotAuth) ∈ l) : pickStatus l = some stNotAuth := by
  have hl : (l.any fun c => c.1 && c.2 == stNotAuth) = true := List.any_eq_true.2 ⟨_, h, rfl⟩
  simp [pickStatus, r41, hl]

/-- A wrong length comes next (R41). -/
theorem pickStatus_badLen {l : List (Bool × Nat)} (ha : ∀ x ∈ l, x.1 = true → x.2 ≠ stNotAuth) (h : (true, stBadLen) ∈ l) :
    pickStatus l = some stBadLen := by
  have hl : (l.any fun c => c.1 && c.2 == stBadLen) = true := List.any_eq_true.2 ⟨_, h, rfl⟩
  have hn : (l.any fun c => c.1 && c.2 == stNotAuth) = false := List.any_eq_false.2 fun x hx => by
    have := ha x hx
    simp_all
  simp [pickStatus, r41, hl, hn]

/-! ### A command -/

section Taken

variable {s : State} {c : Cmd} {req : Req} {own : List (Bool × Nat)} {ok : State → State} {arg : Nat}

/-- What reaches nothing that answers changes nothing (R4, R353). -/
theorem State.command_unreached (authOk : Bool) (h : s.reaches req.path c.code req.part = false) :
    s.command c req authOk own ok arg = .next s := by
  simp [State.command, h]

/-- Without its authority a command ends in AUTH_FAIL (R285). -/
theorem State.command_unauthorised (h : s.reaches req.path c.code req.part = true) :
    s.command c req false own ok arg = .next ((s.reply stNotAuth).raise pgSec 0) := by
  simp [State.command, h, pickStatus_notAuth (List.mem_cons_self ..), State.turnDown]

/-- A command that needs a secured session and comes on another path is NOT_AUTHORISED, whatever else stands against it (R41). -/
theorem State.command_unsecured (authOk : Bool) (h : s.reaches req.path c.code req.part = true) (hc : c.secured = true)
    (hp : isSecured req.path = false) : s.command c req authOk own ok arg = .next (s.turnDown c req authOk arg stNotAuth) := by
  have hpick : pickStatus ((!authOk, stNotAuth) :: s.common41 c req ++ own) = some stNotAuth :=
    pickStatus_notAuth (by simp [State.common41, hc, hp])
  simp only [State.command, h, Bool.not_true, Bool.false_eq_true, if_false, hpick]

/-- A wrong length is answered before every other check but authority (R41). -/
theorem State.command_badLen (h : s.reaches req.path c.code req.part = true) (hc : c.secured = false) (hl : req.lenOk = false)
    (ho : ∀ x ∈ own, x.2 ≠ stNotAuth) :
    s.command c req true own ok arg = .next (s.refuse pgCp stBadLen c.code req.path req.part) := by
  have hpick : pickStatus ((!true, stNotAuth) :: s.common41 c req ++ own) = some stBadLen := by
    refine pickStatus_badLen ?_ (by simp [State.common41, hl])
    simp only [State.common41, List.cons_append, List.nil_append, List.forall_mem_cons, hc, Bool.not_true, Bool.false_and,
      Bool.false_eq_true, false_implies, true_and]
    exact ⟨fun _ => by decide, fun _ => by decide, fun _ => by decide, fun _ => by decide, fun _ => by decide, fun x hx _ => ho x hx⟩
  simp only [State.command, h, Bool.not_true, Bool.false_eq_true, if_false] at hpick ⊢
  rw [hpick]
  rfl

/-- Once nothing common stands against a command, its own conditions decide. -/
theorem State.command_admitted (h : s.admits c req) :
    s.command c req true own ok arg = .next ((pickStatus own).elim (ok s) (s.turnDown c req true arg)) := by
  obtain ⟨hr, hc⟩ := h
  have hpick : pickStatus ((!true, stNotAuth) :: s.common41 c req ++ own) = pickStatus own :=
    pickStatus_clear_append own (List.forall_mem_cons.2 ⟨rfl, hc⟩)
  simp only [State.command, hr, Bool.not_true, Bool.false_eq_true, if_false] at hpick ⊢
  rw [hpick]
  cases pickStatus own <;> rfl

/-- A command that nothing stands against has its effect, if it has the authority that it needs. -/
theorem State.command_authorised (authOk : Bool) (h : s.admits c req) (ho : ∀ x ∈ own, x.1 = false) :
    s.command c req authOk own ok arg = .next (if authOk then ok s else (s.reply stNotAuth).raise pgSec 0) := by
  cases authOk with
  | true => rw [State.command_admitted h, pickStatus_clear ho]; rfl
  | false => rw [State.command_unauthorised h.1]; rfl

/-- A command refused by its own argument: the record shows it (R350). -/
theorem State.command_badArg (h : s.admits c req) (ho : pickStatus own = some stBadArg) :
    s.command c req true own ok arg = .next (s.refuse pgCp stBadArg c.code req.path arg) := by
  have hframe : req.reserved = 0 ∧ s.partOk c req.part = true := by
    have := h.2 (req.reserved != 0 || !s.partOk c req.part, stBadArg) (by simp [State.common41])
    simpa using this
  rw [State.command_admitted h, ho]
  have harg : s.refusalArg c req arg stBadArg = arg := by
    rw [State.refusalArg, if_neg (by decide), if_neg (by simp [hframe]), if_neg (by simp [hframe])]
  have hturn : s.turnDown c req true arg stBadArg = s.refuse pgCp stBadArg c.code req.path (s.refusalArg c req arg stBadArg) := rfl
  simp only [Option.elim_some, hturn, harg]

/-- A command refused as BUSY leaves no record (R350). -/
theorem State.command_busy (h : s.admits c req) (ho : pickStatus own = some stBusy) :
    s.command c req true own ok arg = .next (s.reply stBusy) := by
  rw [State.command_admitted h, ho]
  rfl

end Taken

/-! ### The commands of the statement, as R371 lists them -/

theorem exec_getStatus (req : Req) (s : State) :
    exec (.getStatus req) s = s.command ⟨0x01, false, false, false, true⟩ req true [] fun s => s.done s.statusData := rfl

theorem exec_evrRead (req : Req) (first : Nat) (s : State) :
    exec (.evrRead req first) s = s.command ⟨0x40, false, false, false, true⟩ req true [(decide (32768 ≤ first), stBadArg)] (arg := first) fun s =>
      ((evrSlots first).foldl (fun s k => s.markRead k) s).done
        (leBytes 1 (evrSlots first).length ++ [0, 0, 0] ++ (evrSlots first).flatMap s.slotBytes) := rfl

theorem exec_evrFreeze (req : Req) (s : State) :
    exec (.evrFreeze req) s =
      s.command ⟨0x41, false, false, false, true⟩ req true [(s.flag pgRec .FROZEN, stBusy)] fun s => s.askFreeze.done := rfl

/-- Settles O20: each clause is the rule of its status. -/
theorem refusalOrder : Obligations.RefusalOrder := by
  refine ⟨?statusLen, ?readArg, ?readLen, ?freezeBusy, ?unreached⟩
  case statusLen =>
    intro req s hr hl
    rw [exec_getStatus, State.command_badLen hr rfl hl (by simp)]
    rfl
  case readArg =>
    intro req first s h hf
    rw [exec_evrRead, State.command_badArg h (by rw [decide_eq_true hf]; rfl)]
    rfl
  case readLen =>
    intro req first s hr hl _
    rw [exec_evrRead, State.command_badLen hr rfl hl (by simp [stBadArg, stNotAuth])]
    rfl
  case freezeBusy =>
    intro req s h hf
    rw [exec_evrFreeze, State.command_busy h (by rw [hf]; rfl)]
    rfl
  case unreached =>
    intro req s hr
    rw [exec_getStatus, State.command_unreached true hr]

end Sys2Proof.Machine
end

section
/-! PROOFS. Settles SecurityCommands (O22): each command under the rule for what nothing stands against (`State.command_authorised`), and the states of the firmware slots (R296, R297, R365). -/

namespace Sys2Proof.Machine

/-! ### A used nonce (R285) -/

section Nonce

variable (s : State) (req : Req)

/-- Only the list of nonces changes. -/
theorem State.useNonce_eq : s.useNonce req = s.setSec { s.sec with nonces := (s.useNonce req).sec.nonces } := by
  unfold State.useNonce
  cases req.auth <;> rfl

@[simp] theorem State.useNonce_owners : (s.useNonce req).sec.owners = s.sec.owners := by rw [State.useNonce_eq]; rfl
@[simp] theorem State.useNonce_ownerSlot : (s.useNonce req).ownerSlot = s.ownerSlot := by rw [State.useNonce_eq]; rfl
@[simp] theorem State.useNonce_pw : (s.useNonce req).pw = s.pw := by rw [State.useNonce_eq]; rfl
@[simp] theorem State.useNonce_flash : (s.useNonce req).sec.flash = s.sec.flash := by rw [State.useNonce_eq]; rfl
@[simp] theorem State.useNonce_active : (s.useNonce req).sec.active = s.sec.active := by rw [State.useNonce_eq]; rfl
@[simp] theorem State.useNonce_get (p : Page) (f : Fld) (i : Nat) : (s.useNonce req).get p f i = s.get p f i := by rw [State.useNonce_eq]; rfl

end Nonce

/-! ### The commands of the statement, as R371 lists them -/

section Commands

variable (req : Req) (s : State)

/-- The owner slots replaced, with what the security page shows of them (R284). -/
def State.setOwners (s : State) (l : List (List Byte × Bool)) : State := (s.setSec { s.sec with owners := l }).showOwner

theorem exec_ownerEnroll (h : List Byte) :
    exec (.ownerEnroll req h) s = s.command ⟨0x50, !s.sec.owners.isEmpty, false, false, false⟩ req
      (s.sec.owners.isEmpty || s.authorised 0x50 h req) [(h.length != 48, stBadLen), (decide (4 ≤ s.sec.owners.length), stConflict)]
      fun s => ((s.useNonce req).setOwners ((s.useNonce req).sec.owners ++ [(h, false)])).done := rfl

theorem exec_ownerRevoke :
    exec (.ownerRevoke req) s = s.command ⟨0x51, true, false, false, false⟩ req (s.authorised 0x51 [] req) [(!s.laterOwner, stConflict)]
      fun s => ((s.useNonce req).setOwners
        ((s.useNonce req).sec.owners.modify ((s.useNonce req).ownerSlot.getD 0) fun o => (o.1, true))).done := rfl

theorem exec_sessionClose :
    exec (.sessionClose req) s = s.command ⟨0x53, true, false, true, false⟩ req
      (s.isTenant req.path (s.session req.part).tenant || s.authorised 0x53 [] req)
      [(s.sessionState req.part == 0 || s.sessionState req.part == 3, stConflict)]
      fun s => (if (s.useNonce req).pw.power = .off then (s.useNonce req).endSessionNow req.part
        else (s.useNonce req).beginClose req.part).done := rfl

theorem exec_fwUpdate (image offset : Nat) (chunk : List Byte) (last : Bool) :
    exec (.fwUpdate req image offset chunk last) s = s.command ⟨0x54, true, false, false, false⟩ req
      (s.authorised 0x54 (chunkPayload image offset chunk last) req)
      [(chunkLenBad image offset chunk, stBadLen), (decide (2 ≤ image), stBadArg), (s.sec.chunkBusy, stConflict),
        (s.flag pgKeeper .STORE_ACTIVE, stBusy), (!s.canStore 1, stHoldupLow)] (arg := image)
      fun u =>
        let t := (u.useNonce req).writeChunk (1 - s.sec.active) image offset chunk
        if !last then t.done
        else if t.slotGood (1 - s.sec.active) then ((t.passSlot (1 - s.sec.active)).markPending (1 - s.sec.active)).done
        else t.refuse pgCp stIntegrity 0x54 req.path image := rfl

theorem exec_fwCommit :
    exec (.fwCommit req) s = s.command ⟨0x55, true, false, false, false⟩ req (s.authorised 0x55 [] req) [(!s.sec.bootedNew, stConflict)]
      fun s => ((s.useNonce req).put pgSec .FUSE_COUNT (max ((s.useNonce req).get pgSec .FUSE_COUNT)
        (min 64 ((s.useNonce req).sec.flash.get (s.useNonce req).sec.active FwSlot.reset).svn))).done := rfl

/-- A session is open on the partition that a page belongs to. -/
def State.pageSession (s : State) (p : Page) : Bool := match s.pagePart p with
  | some q => s.sessionOpen q
  | none => false

theorem exec_pageUnlock (p : Page) :
    exec (.pageUnlock req p) s = s.command ⟨0x56, true, false, false, false⟩ req (s.authorised 0x56 (leBytes 4 (pageBase p)) req)
      [(!s.isPage p, stBadArg), (s.pageSession p, stConflict)] (arg := pageBase p) fun s => ((s.useNonce req).doUnlock p).done := rfl

/-- The state in which recovery ends: slot A active and the ROM booting it anew (R365). -/
def State.recovered (s : State) : State :=
  ((s.passSlot 0).setSec { (s.passSlot 0).sec with active := 0, pending := none, hdrWaiting := true }).setPw
    { (s.passSlot 0).pw with recovery := false, bootPhase := 3, bootFailed := [] }

theorem exec_recoveryWrite (image offset : Nat) (chunk : List Byte) (last : Bool) :
    exec (.recoveryWrite req image offset chunk last) s = s.command ⟨0x60, false, false, false, false⟩ req true
      [(!s.pw.recovery || !s.sec.sfdpOk, stNotSupported), (chunkLenBad image offset chunk, stBadLen), (decide (2 ≤ image), stBadArg),
        (s.sec.chunkBusy || s.flag pgKeeper .STORE_ACTIVE, stBusy), (!s.canStore 1, stHoldupLow)] (arg := image)
      fun s =>
        let t := s.writeChunk 0 image offset chunk
        if !last then t.done else if t.slotGood 0 then t.recovered.done else t.refuse pgCp stIntegrity 0x60 req.path image := rfl

end Commands

/-! ### SESSION_OPEN (R289) -/

/-- The export secret of a path's SPDM session. -/
def State.pathSecret (s : State) (path : Sys2Proof.Path) : List Byte := match s.spdmOf path with
  | some x => x.exportSecret
  | none => []

/-- What an accepted grant begins: the roster read, and the session begun with the grant's fields (R289, R290). -/
def State.openGranted (s : State) (req : Req) (pay : List Byte) : State :=
  (s.readSpan (engineReq (bedOf (s.partFirst req.part)) 0 0 0 (fieldAt pay 192 8)) (64 * fieldAt pay 200 4)).1.beginSession req.part
    (fieldAt pay 12 4) ((pay.drop 160).take 32) ((pay.drop 16).take 48) (s.pathSecret req.path)
    (rosterEntries (s.peek (fieldAt pay 192 8) (64 * fieldAt pay 200 4)) (fieldAt pay 200 4)) ((pay.drop 208).take 48)

theorem exec_sessionOpen (req : Req) (pay : List Byte) (s : State) :
    exec (.sessionOpen req pay) s = s.command ⟨0x52, true, false, true, false⟩ req (s.grantOk req.part req.path pay)
      [(pay.length != 256, stBadLen), (!openReserved pay || !s.rosterOk req.part pay, stBadArg),
        (s.sessionOpen req.part || (s.partBeds req.part).any (fun b => !s.bedQuiet b) || (!s.cpOn && !s.starting), stConflict),
        (!s.cpOn || s.openBusy req.part, stBusy)] (arg := openFailing pay) fun s => (s.openGranted req pay).done := rfl

/-- Where only the grant and the roster can stand against SESSION_OPEN, they alone decide. -/
theorem sessionOpen_decided {req : Req} {pay : List Byte} {s : State} (h : s.admits ⟨0x52, true, false, true, false⟩ req)
    (hlen : pay.length = 256) (hres : openReserved pay = true) (hclosed : s.sessionState req.part = 0)
    (hquiet : ∀ b ∈ s.partBeds req.part, s.bedQuiet b = true) (hbusy : s.openBusy req.part = false) (hcp : s.cpOn = true) :
    exec (.sessionOpen req pay) s = .next (if !s.grantOk req.part req.path pay then (s.reply stNotAuth).raise pgSec 0
      else if !s.rosterOk req.part pay then s.refuse pgCp stBadArg 0x52 req.path (fieldAt pay 192 8)
      else (s.openGranted req pay).done) := by
  have hopen : s.sessionOpen req.part = false := by simp [State.sessionOpen, hclosed]
  have hbeds : ((s.partBeds req.part).any fun b => !s.bedQuiet b) = false := List.any_eq_false.2 fun b hb => by simp [hquiet b hb]
  have hfailing : openFailing pay = fieldAt pay 192 8 := by
    simp only [openReserved, Bool.and_eq_true, beq_iff_eq] at hres
    simp [openFailing, hres]
  rw [exec_sessionOpen]
  cases hg : s.grantOk req.part req.path pay with
  | false => rw [State.command_unauthorised h.1]; rfl
  | true =>
    cases hr : s.rosterOk req.part pay with
    | false => rw [State.command_badArg h (by simp [hlen, hres, hopen, hbeds, hcp, hbusy]; rfl), hfailing]; rfl
    | true => rw [State.command_authorised true h (by simp [hlen, hres, hopen, hbeds, hcp, hbusy])]; rfl

/-- SESSION_CLOSE of a session that is opening or open is the tenant's or the owner's (R295); in Off the session ends at once (R307). -/
theorem sessionClose_decided {req : Req} {s : State} (h : s.admits ⟨0x53, true, false, true, false⟩ req)
    (hst : s.sessionState req.part = 1 ∨ s.sessionState req.part = 2) :
    exec (.sessionClose req) s = .next (if s.isTenant req.path (s.session req.part).tenant = true ∨ s.authorised 0x53 [] req = true then
      (if s.pw.power = .off then (s.useNonce req).endSessionNow req.part else (s.useNonce req).beginClose req.part).done
      else (s.reply stNotAuth).raise pgSec 0) := by
  rw [exec_sessionClose, State.command_authorised _ h (by rcases hst with h | h <;> simp [h]), State.useNonce_pw]
  simp only [Bool.or_eq_true]

/-! ### Firmware slots (R296, R297) -/

/-- A slot that verified and is marked pending: its SVN is the lower one of its images. -/
theorem State.passSlot_flash (s : State) (k : Nat) :
    (s.passSlot k).sec.flash.get k FwSlot.reset = { s.sec.flash.get k FwSlot.reset with
      version := Config.imageVersion (s.sec.flash.get k FwSlot.reset).cpImage
      svn := min (Config.imageSvn (s.sec.flash.get k FwSlot.reset).keeperImage) (Config.imageSvn (s.sec.flash.get k FwSlot.reset).cpImage)
      ok := true } := Tab.get_put_same ..

/-- RECOVERY_WRITE that nothing stands against (R365): the chunk is written; the last one has the whole slot verified. -/
theorem recoveryWrite_accepted {req : Req} {image offset : Nat} {chunk : List Byte} {s : State}
    (ha : s.admits ⟨0x60, false, false, false, false⟩ req) (hr : s.pw.recovery = true) (hf : s.sec.sfdpOk = true) (hi : image < 2)
    (hl : chunkLenBad image offset chunk = false) (hb : s.sec.chunkBusy = false) (hs : s.flag pgKeeper .STORE_ACTIVE = false)
    (hc : s.canStore 1 = true) (last : Bool) :
    exec (.recoveryWrite req image offset chunk last) s = .next (
      if !last then (s.writeChunk 0 image offset chunk).done
      else if (s.writeChunk 0 image offset chunk).slotGood 0 then (s.writeChunk 0 image offset chunk).recovered.done
      else (s.writeChunk 0 image offset chunk).refuse pgCp stIntegrity 0x60 req.path image) := by
  rw [exec_recoveryWrite, State.command_authorised true ha (by simp [hr, hf, hi, hl, hb, hs, hc])]
  rfl

/-- Settles O22: each command has its effect under its authority, and AUTH_FAIL without it (`State.command_authorised`). -/
theorem securityCommands : Obligations.SecurityCommands := by
  refine ⟨?enrollFirst, ?enroll, ?revoke, ?sessionOpen, ?close, ?closeOff, ?chunk, ?lastChunk, ?pending, ?commit, ?unlock, ?recovery⟩
  case enrollFirst =>
    intro req h s ha he hl
    have hfirst : s.sec.owners.isEmpty = true := by simp [he]
    rw [exec_ownerEnroll, hfirst, Bool.not_true, State.command_authorised _ ha (by simp [hl, he]), State.useNonce_owners, he]
    rfl
  case enroll =>
    intro req h s ha hne hlt hl
    rw [exec_ownerEnroll, List.isEmpty_eq_false_iff.2 hne, Bool.not_false, State.command_authorised _ ha (by simp [hl, hlt]),
      State.useNonce_owners]
    rfl
  case revoke =>
    intro req k s ha hk hlt
    have hlater : s.laterOwner = true := by simp [State.laterOwner, hk, hlt]
    rw [exec_ownerRevoke, State.command_authorised _ ha (by simp [hlater]), State.useNonce_owners, State.useNonce_ownerSlot, hk]
    rfl
  case sessionOpen =>
    intro req pay s ha hlen hres hclosed hquiet hbusy hcp
    rw [sessionOpen_decided ha hlen hres hclosed hquiet hbusy hcp]
    rfl
  case close =>
    intro req s ha hst hp
    rw [sessionClose_decided ha hst, if_neg hp]
    rfl
  case closeOff =>
    intro req s ha hst hp
    rw [sessionClose_decided ha hst, if_pos hp]
    rfl
  case chunk =>
    intro req image offset chunk s ha hi hl hb hs hc
    rw [exec_fwUpdate, State.command_authorised _ ha (by simp [hi, hl, hb, hs, hc])]
    rfl
  case lastChunk =>
    rintro req image offset chunk s t ha hi hl hb hs hc rfl
    rw [exec_fwUpdate, State.command_authorised _ ha (by simp [hi, hl, hb, hs, hc])]
    cases s.authorised 0x54 (chunkPayload image offset chunk true) req <;> rfl
  case pending =>
    intro k s
    have hflash : ((s.passSlot k).markPending k).sec.flash = (s.passSlot k).sec.flash := rfl
    refine ⟨rfl, State.get_put_same .., rfl, ?_, ?_⟩ <;> rw [hflash, State.passSlot_flash]
  case commit =>
    intro req s ha hb
    rw [exec_fwCommit, State.command_authorised _ ha (by simp [hb]), State.useNonce_get, State.useNonce_flash, State.useNonce_active]
    rfl
  case unlock =>
    intro req p s ha hp hs
    have hsession : s.pageSession p = false := by
      unfold State.pageSession
      cases hq : s.pagePart p with
      | none => rfl
      | some q => simpa [State.sessionOpen] using hs q hq
    rw [exec_pageUnlock, State.command_authorised _ ha (by simp [hp, hsession])]
    rfl
  case recovery =>
    intro req image offset chunk s ha hr hf hi hl hb hs hc
    have hrun := recoveryWrite_accepted ha hr hf hi hl hb hs hc
    refine ⟨hrun false, fun hbad => ?_, fun hgood => ⟨(s.writeChunk 0 image offset chunk).recovered.done, ?_, rfl, rfl, rfl, rfl, rfl, ?_⟩⟩
    · rw [hrun true, hbad]
      rfl
    · rw [hrun true, hgood]
      rfl
    · exact congrArg FwSlot.ok (State.passSlot_flash _ 0)

end Sys2Proof.Machine
end

section
/-! PROOFS. Settles HeadCommandsAndRefusals (O9) and RunWrites (O11): the head's commands and CTL.RUN are writes of one field of a page, accepted or refused whole (R31, R389). -/

namespace Sys2Proof.Machine

/-! ### The registers of the head that the commands write (R31) -/

/-- A command's write of a field that is not selected and that nothing refuses, by the host. -/
theorem State.writeField_accepted (s : State) (p : Page) (f : Fld) (v : Nat) (pre post : List (Fld × Nat)) (hb : s.barUp = true)
    (hf : fieldsAt p.kind ((fieldInfo f).off + (fieldInfo f).stride * 0) = pre ++ (f, 0) :: post)
    (hd : (pre ++ post).all (fun x => decide ((fieldInfo f).lo + (fieldInfo f).width ≤ (fieldInfo x.1).lo ∨
      (fieldInfo x.1).lo + (fieldInfo x.1).width ≤ (fieldInfo f).lo)) = true)
    (hk : s.keyAt p f 0 = some ⟨p, f, 0⟩) (ha : (fieldInfo f).acc ≠ .ro ∧ (fieldInfo f).kind = .live ∧ 0 < (fieldInfo f).width)
    (hv : v < 2 ^ (fieldInfo f).width) (hn : v ≠ if (fieldInfo f).acc = .rw then s.heldValue p ⟨p, f, 0⟩ else 0)
    (hl : s.flag p .LOCKED = false ∨ lockable f = false) (hr : f ≠ .RUN ∨ v ≠ 0 ∨ s.stopRefused p = false)
    (ho : armatureOwned f = false ∧ undefinedValue f v = false ∧ f ≠ .MBX_GO) :
    s.writeField .host p f v = .next (s.applyField p ⟨p, f, 0⟩ v v) := by
  obtain ⟨hacc, hkind, hw⟩ := ha
  obtain ⟨harm, hu, hgo⟩ := ho
  have hmod : v % 2 ^ (fieldInfo f).width = v := Nat.mod_eq_of_lt hv
  have hr' : s.refusalOf .host p ⟨p, f, 0⟩ v = none := s.refusalOf_free .host p ⟨p, f, 0⟩ v (.inl hkind) hl harm hr hu
  rw [s.writeField_next .host p f v 0 ⟨p, f, 0⟩ pre post (fun _ => hb) hf hd hk (by simp [mirrorField]) hacc hw (s.heldValue_lt _ _)
    (by rw [hmod]; split <;> simp_all) (by rw [hmod]; exact hr') hgo, hmod]

/-- A command's write of a field that is not selected and that is refused, by the host. -/
theorem State.writeField_rejected (s : State) (p : Page) (f : Fld) (v c w : Nat) (pre post : List (Fld × Nat)) (hb : s.barUp = true)
    (hf : fieldsAt p.kind ((fieldInfo f).off + (fieldInfo f).stride * 0) = pre ++ (f, 0) :: post)
    (hd : (pre ++ post).all (fun x => decide ((fieldInfo f).lo + (fieldInfo f).width ≤ (fieldInfo x.1).lo ∨
      (fieldInfo x.1).lo + (fieldInfo x.1).width ≤ (fieldInfo f).lo)) = true)
    (hk : s.keyAt p f 0 = some ⟨p, f, 0⟩) (ha : (fieldInfo f).acc ≠ .ro ∧ 0 < (fieldInfo f).width)
    (hv : v < 2 ^ (fieldInfo f).width) (hn : v ≠ if (fieldInfo f).acc = .rw then s.heldValue p ⟨p, f, 0⟩ else 0)
    (hw : s.writtenBack p ((fieldInfo f).off + (fieldInfo f).stride * 0) f = w) (hr : s.refusalOf .host p ⟨p, f, 0⟩ v = some c) :
    s.writeField .host p f v = .next (s.noteRefusal p
      (leBytes 4 (pageBase p + ((fieldInfo f).off + (fieldInfo f).stride * 0)) ++ leBytes 4 (w + v * 2 ^ (fieldInfo f).lo)) c) := by
  have hmod : v % 2 ^ (fieldInfo f).width = v := Nat.mod_eq_of_lt hv
  rw [s.writeField_refused .host p f v 0 c ⟨p, f, 0⟩ pre post (fun _ => hb) hf hd hk (by simp [mirrorField]) ha.1 ha.2
    (s.heldValue_lt _ _) (by rw [hmod]; split <;> simp_all) (by rw [hmod]; exact hr), hmod, hw]

/-- CTL with RUN written: TRAP_EN is written back as it is held. -/
theorem State.writtenBack_run (s : State) (p : Page) (h : headed p.kind = true) :
    s.writtenBack p 8 .RUN = 2 * s.heldValue p ⟨p, .TRAP_EN, 0⟩ := by
  simp [State.writtenBack, fieldsAt_ctl _ h, State.keyAt, fieldInfo, Nat.mul_comm]

/-- CTL with CNT_CLR written: RUN and TRAP_EN are written back as they are held. -/
theorem State.writtenBack_cntClr (s : State) (p : Page) (h : headed p.kind = true) :
    s.writtenBack p 8 .CNT_CLR = s.heldValue p ⟨p, .RUN, 0⟩ + 2 * s.heldValue p ⟨p, .TRAP_EN, 0⟩ := by
  simp [State.writtenBack, fieldsAt_ctl _ h, State.keyAt, fieldInfo, Nat.mul_comm]

/-- RUN of a page whose RUN is its own register holds what is stored. -/
theorem State.heldValue_run (s : State) (p : Page) (h : p.kind ∉ [PageKind.keeper, .recorder, .mirror, .powerMgmt]) :
    s.heldValue p ⟨p, .RUN, 0⟩ = s.get p .RUN % 2 := by
  simp only [List.mem_cons, List.not_mem_nil, or_false, not_or] at h
  obtain ⟨hk, hr, hm, hp⟩ := h
  rw [State.heldValue_now _ _ _ (by simp [fieldInfo])]
  simp [State.live, hk, hr, hm, hp, fieldInfo]

section Head

variable {s : State} {p : Page} (hb : s.barUp = true) (hh : headed p.kind = true)
include hb hh

theorem State.writeField_cntClr (hl : s.flag p .LOCKED = false) :
    s.writeField .host p .CNT_CLR 1 = .next ((s.put p .ERR_CORR 0).put p .ERR_UNCORR 0) :=
  s.writeField_accepted p .CNT_CLR 1 [(.RUN, 0), (.TRAP_EN, 0)] [] hb (fieldsAt_ctl _ hh) (by decide) rfl (by decide) (by decide)
    (by simp [fieldInfo]) (.inl hl)
    (.inl (by decide)) (by decide)

theorem State.writeField_commit (hl : s.flag p .LOCKED = false) : s.writeField .host p .COMMIT_BIT 1 = .next (s.doCommit p) :=
  s.writeField_accepted p .COMMIT_BIT 1 [] _ hb (fieldsAt_commit _ hh) (by decide) rfl (by decide) (by decide) (by simp [fieldInfo]) (.inl hl)
    (.inl (by decide)) (by decide)

theorem State.writeField_abort (hl : s.flag p .LOCKED = false) : s.writeField .host p .ABORT_BIT 1 = .next (s.doAbort p) :=
  s.writeField_accepted p .ABORT_BIT 1 [(.COMMIT_BIT, 0)] [] hb (fieldsAt_commit _ hh) (by decide) rfl (by decide) (by decide)
    (by simp [fieldInfo]) (.inl hl) (.inl (by decide)) (by decide)

/-- LOCK closes no LOCK register (R37). -/
theorem State.writeField_lock : s.writeField .host p .LOCKED 1 = .next (s.doLock p) :=
  s.writeField_accepted p .LOCKED 1 [] _ hb (fieldsAt_lock _ hh) (by decide) rfl (by decide) (by decide) (by simp [fieldInfo])
    (.inr (by decide)) (.inl (by decide)) (by decide)

theorem State.writeField_cntClr_locked (hl : s.flag p .LOCKED = true) :
    s.writeField .host p .CNT_CLR 1 = .next ((s.put p .LOCK_ERR 1).common p 0xF3
      (leBytes 4 (pageBase p + 8) ++ leBytes 4 (s.heldValue p ⟨p, .RUN, 0⟩ + 2 * s.heldValue p ⟨p, .TRAP_EN, 0⟩ + 4))) := by
  have hr : s.refusalOf .host p ⟨p, .CNT_CLR, 0⟩ 1 = some 0xF3 := by simp [State.refusalOf, fieldInfo, hl, lockable]
  exact s.writeField_rejected p .CNT_CLR 1 0xF3 _ [(.RUN, 0), (.TRAP_EN, 0)] [] hb (fieldsAt_ctl _ hh) (by decide) rfl (by decide)
    (by decide) (by simp [fieldInfo]) (s.writtenBack_cntClr p hh) hr

/-- CTL.RUN changed where nothing refuses it. -/
theorem State.writeField_run (run : Bool) (hk : p.kind ∉ [PageKind.keeper, .recorder, .mirror, .powerMgmt])
    (hl : s.flag p .LOCKED = false) (hv : s.get p .RUN = 1 - b2n run) (hs : run = true ∨ s.stopRefused p = false) :
    s.writeField .host p .RUN (b2n run) = .next (s.setCtlRun p (b2n run)) := by
  have hheld : b2n run ≠ s.heldValue p ⟨p, .RUN, 0⟩ := by rw [s.heldValue_run p hk, hv]; cases run <;> decide
  exact s.writeField_accepted p .RUN (b2n run) [] _ hb (fieldsAt_ctl _ hh) (by decide) rfl (by decide) (by cases run <;> decide)
    hheld (.inl hl) (.inr (hs.imp (by rintro rfl; decide) id)) ⟨rfl, rfl, by decide⟩

/-- A stop of CTL.RUN refused by the block (R192, R245). -/
theorem State.writeField_run_refused (hk : p.kind ∉ [PageKind.keeper, .recorder, .mirror, .powerMgmt])
    (hl : s.flag p .LOCKED = false) (hv : s.get p .RUN = 1) (hs : s.stopRefused p = true) :
    s.writeField .host p .RUN 0 = .next ((s.put p .STATE_ERR 1).common p 0xF1
      (leBytes 4 (pageBase p + 8) ++ leBytes 4 (2 * s.heldValue p ⟨p, .TRAP_EN, 0⟩))) := by
  have hr : s.refusalOf .host p ⟨p, .RUN, 0⟩ 0 = some 0xF1 := by
    simp [State.refusalOf, fieldInfo, hl, lockable, armatureOwned, hs]
  have hheld : s.heldValue p ⟨p, .RUN, 0⟩ = 1 := by rw [s.heldValue_run p hk, hv]
  exact s.writeField_rejected p .RUN 0 0xF1 _ [] _ hb (fieldsAt_ctl _ hh) (by decide) rfl (by decide) (by decide)
    (by simp [fieldInfo, hheld]) (s.writtenBack_run p hh) hr

end Head

/-! ### ENC_CTL of a bridge (R185, R389) -/

/-- ENC_EN is the security owner's: the host's write leaves AUTH_ERR and a record (R5, R389). -/
theorem State.writeField_encEn_host (s : State) (b : Bed) (hb : s.barUp = true) (h0 : s.get (pgBridge b.val) .ENC_EN = 0) :
    s.writeField .host (pgBridge b.val) .ENC_EN 1 = .next ((s.put (pgBridge b.val) .AUTH_ERR 1).common (pgBridge b.val) 0xF2
      (leBytes 4 (pageBase (pgBridge b.val) + 0x048) ++ leBytes 4 1)) := by
  have hf : fieldsAt PageKind.bridge 0x048 = [] ++ (.ENC_EN, 0) :: (fieldsAt PageKind.bridge 0x048).tail := by decide
  have hback : s.writtenBack (pgBridge b.val) 0x048 .ENC_EN = 0 := by
    have hro : ∀ x ∈ fieldsAt PageKind.bridge 0x048, (x.1 != .ENC_EN && (fieldInfo x.1).acc == .rw) = false := by decide
    unfold State.writtenBack
    refine List.foldlRecOn (motive := fun a => a = 0) _ _ rfl fun a ha x hx => ?_
    have hx0 : (x.1 != .ENC_EN && (fieldInfo x.1).acc == .rw) = false := hro x hx
    cases s.keyAt (pgBridge b.val) x.1 x.2 <;> simp [ha, hx0]
  have hheld : s.heldValue (pgBridge b.val) ⟨pgBridge b.val, .ENC_EN, 0⟩ = 0 := by
    rw [State.heldValue_now _ _ _ (by simp [fieldInfo])]
    simp [State.live, h0]
  exact s.writeField_rejected (pgBridge b.val) .ENC_EN 1 0xF2 0 [] _ hb hf (by decide) rfl (by decide) (by decide)
    (by simp [fieldInfo, hheld]) hback (by simp [State.refusalOf, fieldInfo])

/-! ### The commands -/

theorem exec_ctlRunWrite (a : Agent) (p : Page) (run : Bool) (s : State) : exec (.ctlRunWrite a p run) s =
    if s.isPage p && p.kind != .mirror then s.writeField a p .RUN (b2n run) else .next s := rfl
theorem exec_cntClr (p : Page) (s : State) : exec (.cntClr p) s =
    if s.isPage p && p.kind != .mirror then s.writeField .host p .CNT_CLR 1 else .next s := rfl
theorem exec_commit (p : Page) (s : State) : exec (.commit p) s =
    if s.isPage p && p.kind != .mirror then s.writeField .host p .COMMIT_BIT 1 else .next s := rfl
theorem exec_abort (p : Page) (s : State) : exec (.abort p) s =
    if s.isPage p && p.kind != .mirror then s.writeField .host p .ABORT_BIT 1 else .next s := rfl
theorem exec_pageLock (p : Page) (s : State) : exec (.pageLock p) s =
    if s.isPage p && p.kind != .mirror then s.writeField .host p .LOCKED 1 else .next s := rfl
theorem exec_encCtlWrite (a : Agent) (b : Bed) (e : Bool) (s : State) :
    exec (.encCtlWrite a b e) s = s.writeField a (pgBridge b.val) .ENC_EN (b2n e) := rfl
theorem exec_runWriteIgnored (b : Bed) (s : State) : exec (.runWriteIgnored b) s = s.writeField .host (pgBed b.val) .RUN 1 := rfl
theorem exec_bedRunStop (b : Bed) (s : State) : exec (.bedRunStop b) s = s.writeField .host (pgBed b.val) .RUN 0 := rfl
theorem exec_bridgeRunStop (b : Bed) (s : State) : exec (.bridgeRunStop b) s = s.writeField .host (pgBridge b.val) .RUN 0 := rfl
theorem exec_portRunWrite (q : Port) (run : Bool) (s : State) :
    exec (.portRunWrite q run) s = s.writeField .host (pgPort q.val) .RUN (b2n run) := rfl

/-- A COMMIT while fewer than two sets wait (R33). -/
theorem State.doCommit_waits (s : State) (p : Page) (h : (s.stagingOf p).waiting.length < 2) :
    s.doCommit p = s.setStaging p ⟨[], (s.stagingOf p).waiting ++ [((s.stagingOf p).openSet, b2n (s.inGuard p))],
      if s.running p = false ∨ s.tickBed p = none then (s.stagingOf p).waiting.length + 1 else (s.stagingOf p).due⟩ := by
  simp [State.doCommit, Nat.not_le.2 h]

/-- A third COMMIT (R34). -/
theorem State.doCommit_refused (s : State) (p : Page) (h : 2 ≤ (s.stagingOf p).waiting.length) :
    s.doCommit p = (s.put p .STATE_ERR 1).common p 0xF4 (leBytes 1 (s.stagingOf p).waiting.length) := by
  simp [State.doCommit, h]

/-- Settles O9, from one field write of the head for each command (`State.writeField_accepted`, `State.writeField_refused`). -/
theorem headCommandsAndRefusals : Obligations.HeadCommandsAndRefusals := by
  unfold Obligations.HeadCommandsAndRefusals
  refine ⟨fun p s hp hm hd hb => ⟨fun hl => ?_, fun hl hw => ?_, fun hl => ?_, ?_⟩, fun p s hp hm hd hb hl hw => ?_,
    fun p s hp hm hd hb hl => ?_, fun b s hb h0 => ?_, fun b s hb hl h0 => ?_⟩
  · simpa [exec_cntClr, hp, hm] using State.writeField_cntClr hb (s.headed_isPage p hp hd) hl
  · simpa [exec_commit, hp, hm, s.doCommit_waits p hw] using State.writeField_commit hb (s.headed_isPage p hp hd) hl
  · simpa [exec_abort, hp, hm, State.doAbort] using State.writeField_abort hb (s.headed_isPage p hp hd) hl
  · simpa [exec_pageLock, hp, hm, State.doLock, State.doAbort] using State.writeField_lock hb (s.headed_isPage p hp hd)
  · simpa [exec_commit, hp, hm, s.doCommit_refused p hw] using State.writeField_commit hb (s.headed_isPage p hp hd) hl
  · simpa [exec_cntClr, hp, hm] using State.writeField_cntClr_locked hb (s.headed_isPage p hp hd) hl
  · exact s.writeField_encEn_host b hb h0
  · exact State.writeField_run (p := pgBed b.val) hb rfl true (by simp [pgBed]) hl h0 (.inl rfl)

/-! ### CTL.RUN, page by page -/

/-- A block without own handling starts and, where no bed's frame is to end, stops at once (R31). -/
theorem State.runBlock_eq (s : State) (p : Page) (run : Bool) (h : run = true ∨ s.tickBed p = none) :
    s.runBlock p (b2n run) = { s.put p .RUN (b2n run) with
      stops := s.stops.filter (· != p)
      halted := (if run then [] else [p]) ++ s.halted.filter (· != p) }.put p .RUNNING (b2n run) := by
  cases run with
  | true => rfl
  | false => simp [State.runBlock, State.halt, b2n, h.resolve_left, List.filter_filter]

/-- On a page without own handling CTL.RUN is R31's. -/
theorem State.setCtlRun_block (s : State) (p : Page) (v : Nat)
    (h : p.kind ∉ [PageKind.bedSequencer, .port, .bridge, .keeper, .recorder, .mirror, .powerMgmt]) :
    s.setCtlRun p v = s.runBlock p v := by
  unfold State.setCtlRun
  split <;> simp_all

/-- A running bed finishes its frame (R153). -/
theorem State.stopBed_runs (s : State) (b : Nat) (h : s.seq b = seqRunning ∨ s.seq b = seqPaused) :
    s.stopBed b = ((s.setBed b { s.bed b with stopping := true }).askUnits b).put (pgBed b) .RUN 0 := by
  rcases h with h | h <;> simp [State.stopBed, h, seqRunning, seqPaused, seqArmed]

/-- Settles O11, from the write of CTL.RUN and what each page makes of it (R31, R153, R192, R221, R245). -/
theorem runWrites : Obligations.RunWrites := by
  unfold Obligations.RunWrites
  refine ⟨fun p run s hp hk hb hl hv hs => ?_, fun b s hb hl hv hs => ?_, fun b s hb hl hv hs => ?_, fun b s hb hl hv hs => ?_,
    fun q s hb hl hv => ?_, fun q s hb hl hv hs => ?_⟩
  · simp only [List.mem_cons, List.not_mem_nil, or_false, not_or] at hk
    obtain ⟨hdir, hbed, hport, hbridge, hkeeper, hrec, hmirror, hpower⟩ := hk
    have hrefuse : s.stopRefused p = false := by simp [State.stopRefused, hbridge, hport]
    rw [exec_ctlRunWrite, if_pos (by simp [hp, hmirror]),
      State.writeField_run hb (s.headed_isPage p hp hdir) run (by simp [hkeeper, hrec, hmirror, hpower]) hl hv (.inr hrefuse),
      s.setCtlRun_block p _ (by simp [hbed, hport, hbridge, hkeeper, hrec, hmirror, hpower]), s.runBlock_eq p run hs]
  · rw [exec_bedRunStop, ← s.stopBed_runs b.val hs]
    exact State.writeField_run (p := pgBed b.val) hb rfl false (by simp [pgBed]) hl hv (.inr rfl)
  · have hrefuse : s.stopRefused (pgBridge b.val) = false := by simpa [State.stopRefused, pgBridge] using hs
    exact State.writeField_run (p := pgBridge b.val) hb rfl false (by simp [pgBridge]) hl hv (.inr hrefuse)
  · have hrefuse : s.stopRefused (pgBridge b.val) = true := by simpa [State.stopRefused, pgBridge] using hs
    exact State.writeField_run_refused hb (p := pgBridge b.val) rfl (by simp [pgBridge]) hl hv hrefuse
  · exact State.writeField_run (p := pgPort q.val) hb rfl true (by simp [pgPort]) hl hv (.inl rfl)
  · have hrefuse : s.stopRefused (pgPort q.val) = false := by simpa [State.stopRefused, pgPort] using hs
    exact State.writeField_run (p := pgPort q.val) hb rfl false (by simp [pgPort]) hl hv (.inr hrefuse)

end Sys2Proof.Machine
end

section
/-! PROOFS. Settles BadAccessesAndWideReads (O8): what an access of BAR0 reaches decides the one record that it leaves or the word that it reads. -/

namespace Sys2Proof.Machine

/-! ### Where the accesses of the statement lead (R28, R29, R107) -/

/-- An access that is not an aligned one of 4 or 8 bytes has a form that R25 does not accept. -/
theorem badAccess_iff (off size : Nat) : badAccess off size = true ↔ ¬((size = 4 ∨ size = 8) ∧ off % size = 0) := by
  simp only [badAccess, Bool.or_eq_true, Bool.not_eq_true', Bool.or_eq_false_iff, beq_eq_false_iff_ne, bne_iff_ne]
  tauto

theorem State.pageAt_directory (s : State) {off : Nat} (hlo : 0x1000 ≤ off) (hhi : off < 0x10000) :
    s.pageAt off = some (⟨.pageDirectory, 0⟩, off - 0x1000) := by
  unfold State.pageAt
  dsimp only
  rw [if_neg (by omega), if_pos (by omega)]

theorem State.pageAt_mirror (s : State) {o : Nat} (h : o < 0x1000) : s.pageAt (0x3C00000 + o) = some (pgMirror, o) := by
  have hr : (0x3C00000 + o) % 0x1000 = o := by omega
  unfold State.pageAt
  dsimp only
  rw [if_neg (by omega), if_neg (by omega), if_neg (by omega), if_neg (by omega), if_neg (by omega), if_neg (by omega),
    if_neg (by omega), if_neg (by omega), if_neg (by omega), if_pos (by omega), hr]

/-- The layer precision page of a bed that is not its partition's lowest is inactive (R107). -/
theorem State.pageAt_inactiveLayer (s : State) (b : Bed) {o : Nat} (h : o < 0x1000) (hf : s.partFirst (s.partOf b.val) ≠ b.val) :
    s.pageAt (0x18000 + 0x1000 * b.val + o) = none := by
  have hb := b.isLt
  have hn : (0x18000 + 0x1000 * b.val + o - 0x18000) / 0x1000 = b.val := by omega
  unfold State.pageAt
  dsimp only
  rw [if_neg (by omega), if_neg (by omega), if_pos (by omega), if_neg (by omega), if_neg (by omega), if_pos (by simp; omega), hn,
    if_neg hf]

theorem layerBed_layer (b : Bed) {o : Nat} (h : o < 0x1000) : layerBed (0x18000 + 0x1000 * b.val + o) = some b.val := by
  have hb := b.isLt
  have hn : (0x18000 + 0x1000 * b.val + o - 0x18000) / 0x1000 = b.val := by omega
  rw [layerBed, if_pos (by omega), hn]

/-! ### The commands while BARs are answered -/

section Up

variable {s : State} (hb : s.barUp = true)
include hb

theorem exec_badAccess {off size : Nat} (w : Bool) (hf : badAccess off size = true) : exec (.badAccess off size w) s =
    .next (if w then s.badOffset pgGlobals off size else (s.badOffset pgGlobals off size).answer 0) := by
  have he : exec (.badAccess off size w) s = execBadAccess off size w s := rfl
  simp [he, execBadAccess, hf, State.onBar, hb]

theorem exec_unimplementedAccess {off size : Nat} (w : Bool) (hf : badAccess off size = false) (hp : s.pageAt off = none) :
    exec (.unimplementedAccess off size w) s = .next (s.unimplemented off size w) := by
  have he : exec (.unimplementedAccess off size w) s = execUnimplementedAccess off size w s := rfl
  simp [he, execUnimplementedAccess, hf, hp, State.onBar, hb]

theorem exec_directoryWrite {off size : Nat} (v : Nat) (hf : badAccess off size = false) (hlo : 0x1000 ≤ off) (hhi : off < 0x10000) :
    exec (.directoryWrite off size v) s = .next (s.badOffset ⟨.pageDirectory, 0⟩ off size) := by
  have he : exec (.directoryWrite off size v) s = execDirectoryWrite off size v s := rfl
  simp [he, execDirectoryWrite, hlo, hhi, State.onBus, hb, State.writeBar, hf, s.pageAt_directory hlo hhi, State.dirWrite]

theorem exec_mirrorWrite {off size : Nat} (v : Nat) (hf : badAccess (0x3C00000 + off) size = false) (h : off < 0x1000) :
    exec (.mirrorWrite off size v) s = .next (s.mirrorNote (0x3C00000 + off) v) := by
  have he : exec (.mirrorWrite off size v) s = execMirrorWrite off size v s := rfl
  have hbase : pageBase pgMirror + off = 0x3C00000 + off := rfl
  rw [he, execMirrorWrite, if_neg (by omega), hbase]
  simp [State.onBus, hb, State.writeBar, hf, s.pageAt_mirror h, show pgMirror.kind = .mirror from rfl]

theorem exec_inactivePageWrite (b : Bed) {off size : Nat} (hf : badAccess (0x18000 + 0x1000 * b.val + off) size = false)
    (h : off < 0x1000) (hp : s.partFirst (s.partOf b.val) ≠ b.val) : exec (.inactivePageWrite b off size) s =
    .next (s.badOffset (pgLayer b.val) (0x18000 + 0x1000 * b.val + off) size) := by
  have he : exec (.inactivePageWrite b off size) s = execInactivePageWrite b off size s := rfl
  have hbase : ∀ o, pageBase (pgLayer b.val) + o = 0x18000 + 0x1000 * b.val + o := fun _ => rfl
  have hpage : s.isPage (pgLayer b.val) = false := by
    have := s.pageAt_inactiveLayer b (o := 0) (by decide) hp
    rw [State.isPage, show pageBase (pgLayer b.val) = 0x18000 + 0x1000 * b.val + 0 from rfl, this]
    rfl
  rw [he, execInactivePageWrite, hpage, if_neg (by simp; omega), hbase]
  simp [State.onBus, hb, State.writeBar, hf, s.pageAt_inactiveLayer b h hp, State.unimplemented, layerBed_layer b h]

theorem exec_lowWordRead {off size : Nat} (hf : badAccess off size = false) :
    exec (.lowWordRead off size) s = .next ((s.readBar off size).1.answer (s.readBar off size).2) := by
  have he : exec (.lowWordRead off size) s = execLowWordRead off s size := rfl
  simp [he, execLowWordRead, hf, State.onBar, hb]

end Up

/-! ### Words of wide registers (R25, R27) -/

/-- A read of a page that shows its registers as they are is a word read. -/
theorem State.readPage_plain (s : State) (p : Page) (o : Nat) (hr : p ≠ pgRec) (hp : p ≠ pgPower) (hd : p.kind ≠ .pageDirectory) :
    s.readPage p o = s.readWord p o := by
  simp [State.readPage, hr, hp, hd]

theorem State.readWord_high (s : State) (p : Page) (o : Nat) (h : highWord p.kind o = true) :
    s.readWord p o = (s, s.latches.get ⟨p, o - 4, 0⟩ (s.regValue p (o - 4) / 2 ^ 32)) := by
  simp [State.readWord, h]

theorem State.readWord_wide (s : State) (p : Page) (o : Nat) (h : highWord p.kind o = false) (hw : wideAt p.kind o = true) :
    s.readWord p o = ({ s with latches := s.latches.put ⟨p, o, 0⟩ (s.regValue p o / 2 ^ 32) }, s.regValue p o % 2 ^ 32) := by
  simp [State.readWord, h, hw]

theorem State.readWord_single (s : State) (p : Page) (o : Nat) (h : highWord p.kind o = false) (hw : wideAt p.kind o = false) :
    s.readWord p o = (s, s.regValue p o % 2 ^ 32) := by
  simp [State.readWord, h, hw]

/-! ### DEVICE_TIME (R133) -/

theorem fieldsAt_deviceTime : fieldsAt .deviceGlobals 0x100 = [(.DEVICE_TIME, 0)] := by decide

/-- No session hides or coarsens DEVICE_TIME (R298). -/
theorem State.regValue_deviceTime (s : State) : s.regValue pgGlobals 0x100 = s.time.now % 2 ^ 64 := by
  have hf : fieldsAt pgGlobals.kind 0x100 = [(.DEVICE_TIME, 0)] := fieldsAt_deviceTime
  have hv : s.view ⟨pgGlobals, .DEVICE_TIME, 0⟩ = s.time.now % 2 ^ 64 := by
    have hhide : hiddenField .DEVICE_TIME = false := by decide
    have hc : s.coarsened ⟨pgGlobals, .DEVICE_TIME, 0⟩ = false := by
      have : Fld.DEVICE_TIME ∉ coarseFields := by decide
      simp [State.coarsened, this]
    simp [State.view, hhide, hc, State.live, fieldInfo]
  simp [State.regValue, hf, State.fieldView, State.keyAt, hv, fieldInfo]

/-- The 64-bit read of DEVICE_TIME takes its low word, which latches its high word, and then its high word (R27). -/
theorem State.readBar_deviceTime (s : State) (size : Nat) (hs : size = 4 ∨ size = 8) : s.readBar 0x100 size =
    ({ s with latches := s.latches.put ⟨pgGlobals, 0x100, 0⟩ (s.time.now % 2 ^ 64 / 2 ^ 32) },
      if size = 4 then s.time.now % 2 ^ 32 else s.time.now % 2 ^ 64) := by
  have hlow : highWord pgGlobals.kind 0x100 = false := by decide
  have hhigh : highWord pgGlobals.kind 0x104 = true := by decide
  have hwide : wideAt pgGlobals.kind 0x100 = true := by decide
  have hplain : ∀ (t : State) (o : Nat), t.readPage pgGlobals o = t.readWord pgGlobals o :=
    fun t o => t.readPage_plain _ o (by decide) (by decide) (by decide)
  have hlo : s.readPage pgGlobals 0x100 =
      ({ s with latches := s.latches.put ⟨pgGlobals, 0x100, 0⟩ (s.time.now % 2 ^ 64 / 2 ^ 32) }, s.time.now % 2 ^ 32) := by
    rw [hplain, s.readWord_wide _ _ hlow hwide, s.regValue_deviceTime, Nat.mod_mod_of_dvd _ (by decide)]
  have hbar : s.readBar 0x100 size = s.readSize pgGlobals 0x100 size := rfl
  rw [hbar, State.readSize, hlo]
  rcases hs with rfl | rfl
  · rfl
  · dsimp only
    rw [hplain, State.readWord_high _ _ _ hhigh]
    simp [Tab.get_put_same]
    omega

/-- Settles O8: each bad access leaves `State.badOffset` of the page that names it, and each word read is one of the three of R27. -/
theorem badAccessesAndWideReads : Obligations.BadAccessesAndWideReads := by
  unfold Obligations.BadAccessesAndWideReads
  refine ⟨⟨?bad, ?unimplRead, ?unimplWrite, ?directory, ?mirror, ?inactive⟩, ?word, ?time⟩
  case bad => exact fun off size w s hb hf => exec_badAccess hb w ((badAccess_iff off size).2 hf)
  case unimplRead => exact fun off size s hb hs ha hp => exec_unimplementedAccess hb false (badAccess_aligned hs ha) hp
  case unimplWrite =>
    intro off size s hb hs ha hp
    refine ⟨((layerBed off).map pgLayer).getD pgGlobals, ?_, fun ho => ?_⟩
    · rw [exec_unimplementedAccess hb true (badAccess_aligned hs ha) hp, State.unimplemented]
      cases layerBed off <;> rfl
    · rw [layerBed, if_neg (by omega)]
      rfl
  case directory => exact fun off size v s hb hs ha hlo hhi => exec_directoryWrite hb v (badAccess_aligned hs ha) hlo hhi
  case mirror =>
    exact fun off size v s hb hs ha h => exec_mirrorWrite hb v (badAccess_aligned hs (by rcases hs with rfl | rfl <;> omega)) h
  case inactive =>
    exact fun b off size s hb hs ha h hp =>
      exec_inactivePageWrite hb b (badAccess_aligned hs (by rcases hs with rfl | rfl <;> omega)) h hp
  case word =>
    intro off o p s hb ha hp hrec hpow hdir hwin
    have hread : s.readBar off 4 = s.readWord p o := by
      simp [State.readBar, hp, hwin, State.readSize, s.readPage_plain p o hrec hpow hdir]
    rw [exec_lowWordRead hb (badAccess_aligned (.inl rfl) ha), hread]
    cases hh : highWord p.kind o with
    | true => simp [s.readWord_high p o hh]
    | false => cases hw : wideAt p.kind o with
      | true => simp [s.readWord_wide p o hh hw]
      | false => simp [s.readWord_single p o hh hw]
  case time =>
    intro s hb
    rw [exec_lowWordRead hb (by decide), exec_lowWordRead hb (by decide), s.readBar_deviceTime 4 (.inl rfl),
      s.readBar_deviceTime 8 (.inr rfl)]
    exact ⟨rfl, rfl⟩

end Sys2Proof.Machine
end

section
/-! PROOFS. Settles HostAccesses (O16): accesses through BAR2 are one host access each, and a doorbell lengthens a ring and has it fetched (`State.fetch`), which begins descriptors in order and loses none. -/

namespace Sys2Proof.Machine

/-! ### BAR2 (R357) -/

section Bar2

variable {s : State} {off : Nat} (ho : off < 2 ^ 36) (hb : s.barUp = true)
include ho hb

theorem exec_bar2Read (err : LineErr) : exec (.bar2Read off err) s =
    .next (s.hostAccess ⟨s.get pgPcie .APERTURE_PART, s.apertureAddr off, err, none⟩) := by
  have he : exec (.bar2Read off err) s = execBar2Read off err s := rfl
  have hin : inBar2 off = true := by simpa [inBar2] using ho
  simp [he, execBar2Read, hin, State.onBar, hb]

theorem exec_bar2Write (data : List Byte) (ep : Bool) : exec (.bar2Write off data ep) s =
    .next (s.hostAccess ⟨s.get pgPcie .APERTURE_PART, s.apertureAddr off, .none, some (data, ep)⟩) := by
  have he : exec (.bar2Write off data ep) s = execBar2Write off data ep s := rfl
  have hin : inBar2 off = true := by simpa [inBar2] using ho
  simp [he, execBar2Write, hin, State.onBar, hb]

end Bar2

theorem State.hostAccess_served {s : State} (w : HostWait) (h : s.hostWaits = false) : s.hostAccess w = s.serveHost w := by
  simp [State.hostAccess, h]

theorem State.hostAccess_held {s : State} (w : HostWait) (h : s.hostWaits = true) : s.hostAccess w = s.hold w := by
  simp [State.hostAccess, h]

/-! ### A descriptor begun (R360, R361) -/

@[simp] theorem State.countFault_host (s : State) (a : Nat) : (s.countFault a).host = s.host := by simp [State.countFault]
@[simp] theorem State.countFault_halted (s : State) (a : Nat) : (s.countFault a).halted = s.halted := by simp [State.countFault]
@[simp] theorem State.denyWrite_host (s : State) (a k : Nat) : (s.denyWrite a k).host = s.host := by
  simp only [State.denyWrite]
  split <;> simp
@[simp] theorem State.denyWrite_halted (s : State) (a k : Nat) : (s.denyWrite a k).halted = s.halted := by
  simp only [State.denyWrite]
  split <;> simp

/-- A register of the endpoint that no record and no event changes. -/
theorem State.countFault_pcie (s : State) (a j : Nat) {g : Fld} (h : recordField g = false) (he : g ≠ .EVT) :
    (s.countFault a).get pgPcie g j = s.get pgPcie g j := by
  have hne : pgPcie ≠ pgBridge (homeOf a) := by simp [pgPcie, pgBridge]
  rw [State.countFault, State.raise_get _ _ _ _ _ _ h he, State.get_put_page _ _ _ _ _ _ hne, State.get_bump, if_neg (fun x => hne x.1)]

@[inherit_doc State.countFault_pcie]
theorem State.denyWrite_pcie (s : State) (a k j : Nat) {g : Fld} (h : recordField g = false) :
    (s.denyWrite a k).get pgPcie g j = s.get pgPcie g j := by
  have hne : pgPcie ≠ pgSec := by decide
  have hrec : pgPcie = pgRec → g ≠ .EVT := fun x => absurd x (by decide)
  simp only [State.denyWrite]
  split
  · rw [State.record_get _ _ _ _ _ _ h hrec, State.setMem_get, State.get_bump, if_neg (fun x => hne x.1)]
  · rw [State.get_bump, if_neg (fun x => hne x.1)]

/-- The queue's registers that name the descriptor fetched next, moved past it (R361, R362). -/
def State.fetchedDesc (s : State) (q : Nat) (d : DmaDesc) : State :=
  let i := s.get pgPcie .DMAQ_HEAD q
  let t := { s with out := { s.out with hostReads := s.out.hostReads ++ [s.get pgPcie .DMAQ_RING q * 4096 + 32 * i] } }.put pgPcie .DMAQ_HEAD
    ((i + 1) % 2 ^ s.get pgPcie .RING_LOG2 q) q
  if d.op = 2 then t.put pgPcie .SEALED_SEQ (s.get pgPcie .SEALED_SEQ (s.sealedIdx q) + 1) (t.sealedIdx q) else t

/-- What a descriptor that ends before it moves a line leaves (R170, R294). -/
def State.refusedDesc (s : State) (q : Nat) (d : DmaDesc) (st : Option Nat) : State :=
  let t := if st = some stNotAuth then s.denyWrite d.devAddr 1 else s
  if st = some stBadArg && !descForm d then
    match t.descFault q d with
    | some l => t.countFault (64 * l)
    | none => t
  else t

section Begin

variable (s : State) (q : Nat) (d : DmaDesc)

@[simp] theorem State.fetchedDesc_host : (s.fetchedDesc q d).host = s.host := by
  simp only [State.fetchedDesc]
  split <;> rfl

@[simp] theorem State.fetchedDesc_halted : (s.fetchedDesc q d).halted = s.halted := by
  simp only [State.fetchedDesc]
  split <;> rfl

@[simp] theorem State.refusedDesc_host (st : Option Nat) : (s.refusedDesc q d st).host = s.host := by
  simp only [State.refusedDesc]
  repeat' split
  all_goals simp

@[simp] theorem State.refusedDesc_halted (st : Option Nat) : (s.refusedDesc q d st).halted = s.halted := by
  simp only [State.refusedDesc]
  repeat' split
  all_goals simp

/-- A descriptor begun is fetched, left with its status and in flight behind the others. -/
theorem State.beginDesc_eq : s.beginDesc q d = ((s.fetchedDesc q d).refusedDesc q d (s.descStatus q d)).setFlying q
    (s.flying q ++ [⟨d, s.get pgPcie .DMAQ_HEAD q, s.descStatus q d, 0, s.get pgPcie .SEALED_SEQ (s.sealedIdx q)⟩]) := by
  have hf : s.flying q = ((s.fetchedDesc q d).refusedDesc q d (s.descStatus q d)).flying q := by simp [State.flying]
  rw [hf]
  rfl

/-- A descriptor that is not sealed and ends with no status at once moves HEAD on and is in flight. -/
theorem State.beginDesc_movesOn (hst : s.descStatus q d = none) (hop : d.op ≠ 2) : s.beginDesc q d =
    ({ s with out := { s.out with hostReads := s.out.hostReads ++ [s.get pgPcie .DMAQ_RING q * 4096 + 32 * s.get pgPcie .DMAQ_HEAD q] } }.put
      pgPcie .DMAQ_HEAD ((s.get pgPcie .DMAQ_HEAD q + 1) % 2 ^ s.get pgPcie .RING_LOG2 q) q).setFlying q
      (s.flying q ++ [(⟨d, s.get pgPcie .DMAQ_HEAD q, none, 0, s.get pgPcie .SEALED_SEQ (s.sealedIdx q)⟩ : InFlight)]) := by
  rw [State.beginDesc_eq, hst]
  simp [State.refusedDesc, State.fetchedDesc, hop]

/-- A register of the endpoint other than HEAD, SEALED_SEQ and IDLE. -/
theorem State.beginDesc_pcie (j : Nat) {g : Fld} (h : recordField g = false)
    (hg : g ∉ [Fld.EVT, .DMAQ_HEAD, .SEALED_SEQ, .DMAQ_IDLE]) : (s.beginDesc q d).get pgPcie g j = s.get pgPcie g j := by
  simp only [List.mem_cons, List.not_mem_nil, or_false, not_or] at hg
  obtain ⟨hevt, hhead, hseq, hidle⟩ := hg
  have hfetched : (s.fetchedDesc q d).get pgPcie g j = s.get pgPcie g j := by
    simp only [State.fetchedDesc]
    split
    · rw [State.get_put_fld _ _ _ _ _ _ hseq, State.get_put_fld _ _ _ _ _ _ hhead]; rfl
    · rw [State.get_put_fld _ _ _ _ _ _ hhead]; rfl
  have hrefused : ∀ (t : State) (st : Option Nat), (t.refusedDesc q d st).get pgPcie g j = t.get pgPcie g j := by
    intro t st
    simp only [State.refusedDesc]
    repeat' split
    all_goals simp only [State.countFault_pcie _ _ _ h hevt, State.denyWrite_pcie _ _ _ _ h]
  rw [State.beginDesc_eq, State.setFlying, State.get_put_fld _ _ _ _ _ _ hidle]
  exact (hrefused _ _).trans hfetched

@[simp] theorem State.beginDesc_halted : (s.beginDesc q d).halted = s.halted := by simp [State.beginDesc_eq, State.setFlying]

@[simp] theorem State.beginDesc_ringTail : (s.beginDesc q d).host.ringTail = s.host.ringTail := by
  simp [State.beginDesc_eq, State.setFlying]

@[simp] theorem State.beginDesc_flying : (s.beginDesc q d).flying q =
    s.flying q ++ [⟨d, s.get pgPcie .DMAQ_HEAD q, s.descStatus q d, 0, s.get pgPcie .SEALED_SEQ (s.sealedIdx q)⟩] := by
  simp [State.beginDesc_eq, State.setFlying, State.flying]

end Begin

/-! ### The fetch of a queue (R362) -/

/-- The descriptors of a queue that still wait in its ring. -/
def State.ringOf (s : State) (q : Nat) : List DmaDesc := s.host.ringTail.get q []

/-- The waiting descriptors of a queue replaced. -/
def State.setRing (s : State) (q : Nat) (l : List DmaDesc) : State := { s with host := { s.host with ringTail := s.host.ringTail.put q l } }

@[simp] theorem State.setRing_ringOf (s : State) (q : Nat) (l : List DmaDesc) : (s.setRing q l).ringOf q = l := by
  simp [State.ringOf, State.setRing]
@[simp] theorem State.setRing_flying (s : State) (q : Nat) (l : List DmaDesc) : (s.setRing q l).flying q = s.flying q := rfl
@[simp] theorem State.setRing_get (s : State) (q : Nat) (l : List DmaDesc) (p : Page) (f : Fld) (i : Nat) :
    (s.setRing q l).get p f i = s.get p f i := rfl
@[simp] theorem State.setRing_halted (s : State) (q : Nat) (l : List DmaDesc) : (s.setRing q l).halted = s.halted := rfl
@[simp] theorem State.beginDesc_ringOf (s : State) (q : Nat) (d : DmaDesc) : (s.beginDesc q d).ringOf q = s.ringOf q := by simp [State.ringOf]

/-- The queue may begin a descriptor: it is enabled, the endpoint runs, and fewer than four are in flight. -/
def State.mayFetch (s : State) (q : Nat) : Bool := s.flag pgPcie .DMAQ_EN q && !s.halts pgPcie && decide ((s.flying q).length < 4)

theorem State.fetch_empty (s : State) (q n : Nat) (h : s.ringOf q = []) : s.fetch n q = s := by
  cases n with
  | zero => rfl
  | succ n => rw [State.ringOf] at h; simp [State.fetch, h]

theorem State.fetch_stopped (s : State) (q n : Nat) (h : s.mayFetch q = false) : s.fetch n q = s := by
  cases n with
  | zero => rfl
  | succ n =>
    rw [State.mayFetch] at h
    unfold State.fetch
    split
    · rfl
    · simp [h]

theorem State.fetch_succ (s : State) (q n : Nat) (d : DmaDesc) (l : List DmaDesc) (hr : s.ringOf q = d :: l) (h : s.mayFetch q = true) :
    s.fetch (n + 1) q = ((s.setRing q l).beginDesc q d).fetch n q := by
  rw [State.ringOf] at hr
  rw [State.mayFetch] at h
  rw [State.fetch, hr]
  simp [h, State.setRing]

/-- Induction over a fetch: it ends at once, or begins the oldest waiting descriptor and goes on. -/
theorem State.fetch_induct (q : Nat) (P : State → State → Prop) (hstop : ∀ s, P s s)
    (hstep : ∀ s d l u, s.ringOf q = d :: l → s.mayFetch q = true → P ((s.setRing q l).beginDesc q d) u → P s u) (n : Nat) (s : State) :
    P s (s.fetch n q) := by
  induction n generalizing s with
  | zero => exact hstop s
  | succ n ih =>
    match hr : s.ringOf q with
    | [] => rw [s.fetch_empty q _ hr]; exact hstop s
    | d :: l => cases hm : s.mayFetch q with
      | false => rw [s.fetch_stopped q _ hm]; exact hstop s
      | true => rw [s.fetch_succ q n d l hr hm]; exact hstep s d l _ hr hm (ih _)

/-- A fetch loses no descriptor and keeps their order. -/
theorem State.fetch_conserves (s : State) (q n : Nat) :
    ((s.fetch n q).flying q).map (·.desc) ++ (s.fetch n q).ringOf q = (s.flying q).map (·.desc) ++ s.ringOf q :=
  State.fetch_induct q (fun s t => (t.flying q).map (·.desc) ++ t.ringOf q = (s.flying q).map (·.desc) ++ s.ringOf q) (fun _ => rfl)
    (fun s d l u hr _ hu => by rw [hu]; simp [hr]) n s

theorem State.fetch_tail (s : State) (q n : Nat) : (s.fetch n q).get pgPcie .DMAQ_TAIL q = s.get pgPcie .DMAQ_TAIL q :=
  State.fetch_induct q (fun s t => t.get pgPcie .DMAQ_TAIL q = s.get pgPcie .DMAQ_TAIL q) (fun _ => rfl)
    (fun s d l u _ _ hu => by rw [hu, State.beginDesc_pcie _ _ _ _ rfl (by decide)]; rfl) n s

/-- Four steps fetch all that the queue may hold. -/
theorem State.fetch_ends (s : State) (q n : Nat) (he : s.flag pgPcie .DMAQ_EN q = true) (hh : s.halts pgPcie = false)
    (hn : 4 ≤ n + (s.flying q).length) : (s.fetch n q).ringOf q = [] ∨ 4 ≤ ((s.fetch n q).flying q).length := by
  induction n generalizing s with
  | zero => exact .inr (by simpa [State.fetch] using hn)
  | succ n ih =>
    match hr : s.ringOf q with
    | [] => rw [s.fetch_empty q _ hr]; exact .inl hr
    | d :: l =>
      by_cases hlen : (s.flying q).length < 4
      · rw [s.fetch_succ q n d l hr (by simp [State.mayFetch, he, hh, hlen])]
        refine ih _ ?_ ?_ (by simp; omega)
        · rw [State.flag, State.beginDesc_pcie _ _ _ _ rfl (by decide)]; exact he
        · simpa [State.halts] using hh
      · rw [s.fetch_stopped q _ (by simp [State.mayFetch, hlen])]; exact .inr (Nat.not_lt.1 hlen)

/-! ### The doorbell (R362, R389) -/

/-- The ring entries between the old and the new TAIL. -/
def State.newEntries (s : State) (q tail : Nat) (descs : List (List Byte)) : List DmaDesc :=
  (descs.take ((tail % 2 ^ s.get pgPcie .RING_LOG2 q + 2 ^ s.get pgPcie .RING_LOG2 q -
    s.get pgPcie .DMAQ_TAIL q % 2 ^ s.get pgPcie .RING_LOG2 q) % 2 ^ s.get pgPcie .RING_LOG2 q)).map descOf

/-- TAIL written, before the queue fetches. -/
def State.rung (s : State) (q tail : Nat) (descs : List (List Byte)) : State :=
  (s.put pgPcie .DMAQ_TAIL tail q).setRing q (s.ringOf q ++ s.newEntries q tail descs)

theorem State.ring_eq (s : State) (q tail : Nat) (descs : List (List Byte)) : s.ring q tail descs = (s.rung q tail descs).fetch 4 q := rfl

/-- A TAIL equal to the one held names no entry. -/
theorem State.newEntries_same (s : State) (q : Nat) (descs : List (List Byte)) : s.newEntries q (s.get pgPcie .DMAQ_TAIL q) descs = [] := by
  simp [State.newEntries]

section Doorbell

variable (q : Queue) (tail : Nat) (descs : List (List Byte)) {s : State} (hb : s.barUp = true)
include hb

theorem exec_doorbell_same (h : s.get pgPcie .DMAQ_TAIL q.val = tail % 2 ^ 12) : exec (.doorbell q tail descs) s = .next s := by
  have he : exec (.doorbell q tail descs) s = execDoorbell q tail descs s := rfl
  simp only [he, execDoorbell, hb, fieldInfo, h]
  simp

theorem exec_doorbell_locked (h : s.get pgPcie .DMAQ_TAIL q.val ≠ tail % 2 ^ 12) (hl : s.flag pgPcie .LOCKED = true) :
    exec (.doorbell q tail descs) s = .next (s.lockedOut pgPcie 0x068 tail) := by
  have he : exec (.doorbell q tail descs) s = execDoorbell q tail descs s := rfl
  simp only [he, execDoorbell, hb, fieldInfo, h, State.hostWriteL, State.onBar, hl]
  simp

theorem exec_doorbell_rings (h : s.get pgPcie .DMAQ_TAIL q.val ≠ tail % 2 ^ 12) (hl : s.flag pgPcie .LOCKED = false) :
    exec (.doorbell q tail descs) s = .next ((s.rung q.val (tail % 2 ^ 12) descs).fetch 4 q.val) := by
  have he : exec (.doorbell q tail descs) s = execDoorbell q tail descs s := rfl
  rw [← State.ring_eq]
  simp only [he, execDoorbell, hb, fieldInfo, h, State.hostWriteL, State.onBar, hl]
  simp

end Doorbell

@[simp] theorem State.rung_ringOf (s : State) (q tail : Nat) (descs : List (List Byte)) :
    (s.rung q tail descs).ringOf q = s.ringOf q ++ s.newEntries q tail descs := by simp [State.rung]
@[simp] theorem State.rung_flying (s : State) (q tail : Nat) (descs : List (List Byte)) :
    (s.rung q tail descs).flying q = s.flying q := rfl
@[simp] theorem State.rung_halted (s : State) (q tail : Nat) (descs : List (List Byte)) : (s.rung q tail descs).halted = s.halted := rfl

theorem State.rung_get (s : State) (q tail : Nat) (descs : List (List Byte)) (p : Page) {g : Fld} (j : Nat) (h : g ≠ .DMAQ_TAIL) :
    (s.rung q tail descs).get p g j = s.get p g j := State.get_put_fld _ _ _ _ _ _ h

theorem State.rung_tail (s : State) (q tail : Nat) (descs : List (List Byte)) (h : tail < 2 ^ 12) :
    (s.rung q tail descs).get pgPcie .DMAQ_TAIL q = tail := by
  rw [State.rung, State.setRing_get, State.get_put_same]
  exact Nat.mod_eq_of_lt h

/-- Where an address lies in its stacks depends on the bridges' maps alone (R171). -/
theorem State.stackPc_congr {s t : State} (h : ∀ p, t.get p .LOCAL_GIB = s.get p .LOCAL_GIB) (a : Nat) : t.stackPc a = s.stackPc a := by
  have harea : t.areaB (homeOf a) = s.areaB (homeOf a) := by rw [State.areaB, h, State.areaB]
  unfold State.stackPc
  rw [harea, h]

/-- Fields on which the checks of an address depend (R16, R170, R171). -/
def addressFields : List Fld := [.PART_LOG2, .LOCAL_GIB, .RUN, .SCRUB_BUSY]

/-- The checks of an address read the partition count, the bridges' maps and states and the stopped memory controllers alone. -/
theorem State.faulty_congr {s t : State} (hg : ∀ p, ∀ g ∈ addressFields, t.get p g = s.get p g) (hh : t.halted = s.halted)
    (b : Nat) (host : Bool) (a : Nat) : t.faulty b host a = s.faulty b host a := by
  simp only [addressFields, List.forall_mem_cons, List.not_mem_nil, false_implies, implies_true, and_true, forall_and] at hg
  obtain ⟨hparts, hgib, hrun, hscrub⟩ := hg
  have hpart : ∀ x, t.partOf x = s.partOf x := fun x => by simp [State.partOf, State.partSize, State.partCount, hparts]
  have hstack : t.stackOf a = s.stackOf a := by rw [State.stackOf, State.stackPc_congr hgib, State.stackOf]
  have hregion : t.inRegion a = s.inRegion a := by
    simp [State.inRegion, hpart, State.partFirst, State.partSize, State.partCount, hparts]
  simp only [State.faulty, State.flag, State.halts, hpart, hstack, hregion, hrun, hscrub, hh]

/-- The status of a descriptor does not depend on TAIL and on the ring. -/
theorem State.rung_descStatus (s : State) (q tail : Nat) (descs : List (List Byte)) (l : List DmaDesc) (d : DmaDesc) :
    ((s.rung q tail descs).setRing q l).descStatus q d = s.descStatus q d := by
  have hg : ∀ (p : Page) (g : Fld) (j : Nat), g ≠ .DMAQ_TAIL → ((s.rung q tail descs).setRing q l).get p g j = s.get p g j :=
    fun p g j h => s.rung_get q tail descs p j h
  have hfaulty : ∀ b h a, ((s.rung q tail descs).setRing q l).faulty b h a = s.faulty b h a :=
    State.faulty_congr (fun p g h => hg p g 0 (by rintro rfl; simp [addressFields] at h)) rfl
  have hcount : ((s.rung q tail descs).setRing q l).partCount = s.partCount := by
    rw [State.partCount, hg _ _ _ (by decide), State.partCount]
  have hpart : ((s.rung q tail descs).setRing q l).queuePart q = s.queuePart q := hg _ _ _ (by decide)
  have hsession : ∀ r, ((s.rung q tail descs).setRing q l).sessionOpen r = s.sessionOpen r := fun r => by
    rw [State.sessionOpen, State.sessionState, hg _ _ _ (by decide), State.sessionOpen, State.sessionState]
  simp only [State.descStatus, State.descBad, State.descFault, State.hostFaulty, State.partFirst, State.partSize, hpart, hsession, hcount,
    hfaulty]

/-- TAIL and the ring do not decide whether a queue may fetch. -/
@[simp] theorem State.rung_mayFetch (s : State) (q tail : Nat) (descs : List (List Byte)) :
    (s.rung q tail descs).mayFetch q = s.mayFetch q := by
  rw [State.mayFetch, State.flag, State.rung_get _ _ _ _ _ _ (by decide)]
  rfl

/-- A queue that may begin one descriptor and is rung for it begins it and no other. -/
theorem State.rung_fetch_one {s : State} {q : Nat} {tail : Nat} {descs : List (List Byte)} {d : DmaDesc} (hr : s.ringOf q = [])
    (hn : s.newEntries q tail descs = [d]) (hm : s.mayFetch q = true) :
    (s.rung q tail descs).fetch 4 q = ((s.rung q tail descs).setRing q []).beginDesc q d := by
  rw [State.fetch_succ _ q 3 d [] (by simp [hr, hn]) (by simpa using hm), State.fetch_empty _ _ _ (by simp)]

/-- A descriptor of OP 1 that ends with no status at once, rung into an empty queue of 16 entries, is in flight. -/
theorem State.rung_begins {s : State} {q : Nat} {tail : Nat} {descs : List (List Byte)} {d : DmaDesc} (hr : s.ringOf q = [])
    (hn : s.newEntries q tail descs = [d]) (hm : s.mayFetch q = true) (hf : s.flying q = []) (hk : s.get pgPcie .RING_LOG2 q = 4)
    (hst : s.descStatus q d = none) (hop : d.op = 1) : ∃ t : State, (s.rung q tail descs).fetch 4 q = t ∧
    t.flying q = [⟨d, s.get pgPcie .DMAQ_HEAD q, none, 0, s.get pgPcie .SEALED_SEQ (s.sealedIdx q)⟩] ∧
    t.get pgPcie .DMAQ_HEAD q = (s.get pgPcie .DMAQ_HEAD q + 1) % 16 ∧
    t.out.hostReads = s.out.hostReads ++ [s.get pgPcie .DMAQ_RING q * 4096 + 32 * s.get pgPcie .DMAQ_HEAD q] ∧
    t.ringOf q = [] ∧ t.get pgPcie .DMAQ_IDLE q = 0 := by
  refine ⟨_, State.rung_fetch_one hr hn hm, ?_⟩
  have hget : ∀ (g : Fld) (j : Nat), g ≠ .DMAQ_TAIL → ((s.rung q tail descs).setRing q []).get pgPcie g j = s.get pgPcie g j :=
    fun g j h => s.rung_get q tail descs pgPcie j h
  have hidx : ((s.rung q tail descs).setRing q []).sealedIdx q = s.sealedIdx q := by
    rw [State.sealedIdx, State.queuePart, hget _ _ (by decide), State.sealedIdx, State.queuePart]
  rw [State.beginDesc_movesOn _ _ _ (by rw [State.rung_descStatus, hst]) (by rw [hop]; decide), hidx, hget _ _ (by decide),
    hget _ _ (by decide), hget _ _ (by decide), hget _ _ (by decide), State.setRing_flying, State.rung_flying, hf, hk]
  refine ⟨?flying, ?head, rfl, ?ring, ?idle⟩
  case flying => simp [State.flying, State.setFlying]
  case head =>
    have hmod : (s.get pgPcie .DMAQ_HEAD q + 1) % 2 ^ 4 % 2 ^ (fieldInfo .DMAQ_HEAD).width = (s.get pgPcie .DMAQ_HEAD q + 1) % 16 :=
      Nat.mod_mod_of_dvd' (by decide)
    rw [State.setFlying, State.get_put_fld _ _ _ _ _ _ (by decide)]
    exact (State.get_put_same ..).trans hmod
  case ring => exact State.setRing_ringOf (s.rung q tail descs) q []
  case idle => exact State.get_put_same ..

/-- Settles O16: BAR2 accesses by `State.hostAccess`, doorbells by `State.rung` and the laws of `State.fetch`. -/
theorem hostAccesses : Obligations.HostAccesses := by
  unfold Obligations.HostAccesses
  refine ⟨⟨?read, ?readFault, ?write, ?held, fun _ _ => rfl⟩, ?doorbell, ?locked, ?begun, ?desc⟩
  case read =>
    rintro off err s ho hb hw hf r rfl
    rw [exec_bar2Read ho hb, s.hostAccess_served _ hw, State.serveHost, State.hostRead]
    simp [hf]
  case readFault =>
    intro off err s ho hb hw hf
    rw [exec_bar2Read ho hb, s.hostAccess_served _ hw, State.serveHost, State.hostRead]
    simp [hf]
  case write =>
    intro off data ep s ho hb hw
    rw [exec_bar2Write ho hb, s.hostAccess_served _ hw]
    simp [State.serveHost, State.hostWrite]
  case held =>
    intro off err data ep s ho hb hw
    rw [exec_bar2Read ho hb, exec_bar2Write ho hb, s.hostAccess_held _ hw, s.hostAccess_held _ hw]
    exact ⟨rfl, rfl⟩
  case doorbell =>
    intro q tail descs s hb hl
    by_cases h : s.get pgPcie .DMAQ_TAIL q.val = tail % 2 ^ 12
    · have hnone : s.newEntries q.val (tail % 2 ^ 12) descs = [] := h ▸ s.newEntries_same q.val descs
      rw [State.newEntries] at hnone
      refine ⟨s, exec_doorbell_same q tail descs hb h, h, ?_, fun hne => absurd h hne, fun _ => ⟨rfl, rfl⟩⟩
      rw [hnone, List.append_nil]
    · have hlt : tail % 2 ^ 12 < 2 ^ 12 := Nat.mod_lt _ (by decide)
      have hen : (s.rung q.val (tail % 2 ^ 12) descs).flag pgPcie .DMAQ_EN q.val = s.flag pgPcie .DMAQ_EN q.val := by
        rw [State.flag, State.rung_get _ _ _ _ _ _ (by decide), State.flag]
      refine ⟨_, exec_doorbell_rings q tail descs hb h hl, ?_, ?_, fun _ he hh => ?_, fun hstop => ?_⟩
      · rw [State.fetch_tail, s.rung_tail _ _ _ hlt]
      · have := (s.rung q.val (tail % 2 ^ 12) descs).fetch_conserves q.val 4
        rw [State.rung_ringOf, State.rung_flying, ← List.append_assoc] at this
        exact this
      · exact (s.rung q.val (tail % 2 ^ 12) descs).fetch_ends q.val 4 (hen.trans he) hh (by omega)
      · have hmay : (s.rung q.val (tail % 2 ^ 12) descs).mayFetch q.val = false := by
          rw [State.rung_mayFetch, State.mayFetch]
          rcases hstop with h | h <;> simp [h]
        rw [State.fetch_stopped _ _ _ hmay]
        exact ⟨rfl, rfl⟩
  case locked =>
    intro q tail descs s hb hl h
    exact exec_doorbell_locked q tail descs hb h hl
  case begun =>
    intro q bytes s hb hl hh he hr hf hk ht hst hop
    have hnew : s.newEntries q.val (1 % 2 ^ 12) [bytes] = [descOf bytes] := by simp [State.newEntries, hk, ht]
    have hmay : s.mayFetch q.val = true := by simp [State.mayFetch, he, hh, hf]
    obtain ⟨t, hfetch, hbegun⟩ := State.rung_begins hr hnew hmay hf hk hst hop
    exact ⟨t, by rw [exec_doorbell_rings q 1 [bytes] hb (by rw [ht]; decide) hl, hfetch], hbegun⟩
  case desc =>
    intro bytes
    refine ⟨rfl, rfl, rfl, rfl, rfl, rfl, ?_⟩
    simp [descOf]

end Sys2Proof.Machine
end

section
/-! PROOFS. Settles HostPortCommands (O18): the mailbox runs one raw command and answers it, and configuration space is the words of R356. -/

namespace Sys2Proof.Machine

/-! ### A raw command always ends in a state (R369) -/

/-- The outcome is a state. -/
def Answers (o : Host.Outcome State Fault Refusal) : Prop := ∃ t, o = .next t

theorem Answers.ite {c : Prop} [Decidable c] {x y : Host.Outcome State Fault Refusal} (hx : Answers x) (hy : Answers y) :
    Answers (if c then x else y) := by
  split
  · exact hx
  · exact hy

theorem State.command_answers (s : State) (c : Cmd) (req : Req) (a : Bool) (own : List (Bool × Nat)) (ok : State → State) (arg : Nat) :
    Answers (s.command c req a own ok arg) := by
  unfold State.command
  split
  · exact ⟨_, rfl⟩
  · split <;> exact ⟨_, rfl⟩

section Others

variable (req : Req) (s : State)

theorem execArmatureLoad_answers (addr len : Nat) : Answers (execArmatureLoad req addr len s) := by
  unfold execArmatureLoad
  exact s.command_answers ..
theorem execArmatureActivate_answers (id frame step epoch time : Nat) : Answers (execArmatureActivate req id frame step epoch time s) := by
  unfold execArmatureActivate
  exact s.command_answers ..
theorem execSetPowerState_answers (target : Nat) : Answers (execSetPowerState req target s) := by
  unfold execSetPowerState
  exact s.command_answers ..
theorem execGraftPlan_answers (h step : Nat) : Answers (execGraftPlan req h step s) := by
  unfold execGraftPlan
  exact s.command_answers ..
theorem execRegrow_answers (partner source cut : Nat) (valid holds : Bool) : Answers (execRegrow req partner source cut valid holds s) := by
  unfold execRegrow
  exact s.command_answers ..
theorem execRecoveryWrite_answers (image offset : Nat) (chunk : List Byte) (last : Bool) :
    Answers (execRecoveryWrite req image offset chunk last s) := by
  unfold execRecoveryWrite
  exact s.command_answers ..

end Others

/-- The outcome is that of one command of a partition on a path. -/
def State.RunsOne (s : State) (path : Path) (part code : Nat) (secured : Bool) (o : Host.Outcome State Fault Refusal) : Prop :=
  ∃ c req a own ok arg, o = s.command c req a own ok arg ∧ c.code = code ∧ c.secured = secured ∧ req.path = path ∧ req.part = part

/-- The codes of the security engine's commands. -/
def ownerCodes : List Nat := [0x43, 0x50, 0x51, 0x52, 0x53, 0x54, 0x55, 0x56]

theorem exec_evrClear (req : Req) (scope upToSeq : Nat) (s : State) : exec (.evrClear req scope upToSeq) s =
    s.command ⟨0x43, true, false, false, false⟩ req (s.authorised 0x43 (leBytes 1 scope ++ leBytes 8 upToSeq) req)
      [(decide (2 ≤ scope), stBadArg),
        (s.flag pgRec .FROZEN || (scope == 1 && s.finishStore.unread upToSeq) || decide (s.get pgRec .NEXT_SEQ ≤ upToSeq), stConflict),
        (!s.finishStore.canStore 0, stHoldupLow)]
      (arg := scope) fun s => ((s.useNonce req).finishStore.clearSlots scope upToSeq).done := rfl

/-- Each code of the security engine is one command; all but the first owner slot's need a secured session (R284, R371). -/
theorem State.runOwner_runsOne (s : State) (path : Path) (c : RawCmd) (h : c.code ∈ ownerCodes) :
    s.RunsOne path c.part c.code (s.securedCode c.code) (s.runOwner path c) := by
  obtain ⟨code, part, reserved, payload⟩ := c
  simp only [ownerCodes, List.mem_cons, List.not_mem_nil, or_false] at h
  rcases h with rfl | rfl | rfl | rfl | rfl | rfl | rfl | rfl
  case inl => exact ⟨_, _, _, _, _, _, exec_evrClear .., rfl, rfl, rfl, rfl⟩
  case inr.inl =>
    have hrun : s.runOwner path ⟨0x50, part, reserved, payload⟩ =
        if s.sec.owners.isEmpty then execOwnerEnroll (plainReq path ⟨0x50, part, reserved, payload⟩ 48) payload s
        else execOwnerEnroll (signedReq path ⟨0x50, part, reserved, payload⟩ 48) (bodyOf payload) s := rfl
    rw [hrun]
    split
    · exact ⟨_, _, _, _, _, _, exec_ownerEnroll .., rfl, rfl, rfl, rfl⟩
    · exact ⟨_, _, _, _, _, _, exec_ownerEnroll .., rfl, rfl, rfl, rfl⟩
  case inr.inr.inl => exact ⟨_, _, _, _, _, _, exec_ownerRevoke .., rfl, rfl, rfl, rfl⟩
  case inr.inr.inr.inl => exact ⟨_, _, _, _, _, _, exec_sessionOpen .., rfl, rfl, rfl, rfl⟩
  case inr.inr.inr.inr.inl =>
    refine ⟨_, _, _, _, _, _, exec_sessionClose .., rfl, rfl, ?_, ?_⟩
    · split <;> rfl
    · split <;> rfl
  case inr.inr.inr.inr.inr.inl => exact ⟨_, _, _, _, _, _, exec_fwUpdate .., rfl, rfl, rfl, rfl⟩
  case inr.inr.inr.inr.inr.inr.inl => exact ⟨_, _, _, _, _, _, exec_fwCommit .., rfl, rfl, rfl, rfl⟩
  case inr.inr.inr.inr.inr.inr.inr => exact ⟨_, _, _, _, _, _, exec_pageUnlock .., rfl, rfl, rfl, rfl⟩

/-- A listed code that is none of the others is the security engine's (R371). -/
theorem State.runRaw_owner (s : State) (path : Path) (c : RawCmd) (h : c.code ∈ ownerCodes) : s.runRaw path c = s.runOwner path c := by
  obtain ⟨code, part, reserved, payload⟩ := c
  simp only [ownerCodes, List.mem_cons, List.not_mem_nil, or_false] at h
  rcases h with rfl | rfl | rfl | rfl | rfl | rfl | rfl | rfl <;> simp [State.runRaw, commandCodes]

theorem State.RunsOne.answers {s : State} {path : Path} {part code : Nat} {secured : Bool} {o : Host.Outcome State Fault Refusal}
    (h : s.RunsOne path part code secured o) : Answers o := by
  obtain ⟨c, req, a, own, ok, arg, rfl, -⟩ := h
  exact s.command_answers c req a own ok arg

theorem State.runOwner_answers (s : State) (path : Path) (c : RawCmd) : Answers (s.runOwner path c) := by
  by_cases h : c.code ∈ ownerCodes
  · exact (s.runOwner_runsOne path c h).answers
  · have hlast : s.runOwner path c = exec (.pageUnlock (signedReq path c 4) (s.pageNamed (fieldAt c.payload 0 4))) s := by
      simp only [ownerCodes, List.mem_cons, List.not_mem_nil, or_false, not_or] at h
      obtain ⟨h43, h50, h51, h52, h53, h54, h55, -⟩ := h
      simp only [State.runOwner, h43, h50, h51, h52, h53, h54, h55, if_false]
      rfl
    rw [hlast, exec_pageUnlock]
    exact s.command_answers ..

theorem State.runRaw_answers (s : State) (path : Path) (c : RawCmd) : Answers (s.runRaw path c) := by
  have howner : Answers (if commandCodes.contains c.code then s.runOwner path c
      else execUnknownCommand (plainReq path c c.payload.length) c.code s) := by
    split
    · exact s.runOwner_answers path c
    · exact .ite ⟨_, rfl⟩ ⟨_, rfl⟩
  exact .ite (s.command_answers ..) <|
    .ite (s.command_answers ..) <|
    .ite (s.command_answers ..) <|
    .ite (execArmatureLoad_answers ..) <|
    .ite (execArmatureActivate_answers ..) <|
    .ite (s.command_answers ..) <|
    .ite (execSetPowerState_answers ..) <|
    .ite (.ite ⟨_, rfl⟩ ⟨_, rfl⟩) <|
    .ite (execGraftPlan_answers ..) <|
    .ite (execRegrow_answers ..) <|
    .ite (s.command_answers ..) <|
    .ite (s.command_answers ..) <|
    .ite (s.command_answers ..) <|
    .ite (execRecoveryWrite_answers ..) howner

/-! ### Commands that need a secured session, on another path (R41) -/

theorem State.turnDown_notAuth_status (s : State) (c : Cmd) (req : Req) (a : Bool) (arg : Nat) :
    (s.turnDown c req a arg stNotAuth).out.status = stNotAuth := by
  cases a with
  | false => simp [State.turnDown, State.reply]
  | true => simp [State.turnDown, State.refuse, State.reply, stNotAuth, stHoldupLow, stOk, stBusy]

/-- A command that needs a secured session and comes on another path ends NOT_AUTHORISED. -/
theorem State.RunsOne.denied {s : State} {path : Path} {part code : Nat} {o : Host.Outcome State Fault Refusal}
    (h : s.RunsOne path part code true o) (hr : s.reaches path code part = true) (hp : isSecured path = false) :
    ∃ t : State, o = .next t ∧ t.out.status = stNotAuth := by
  obtain ⟨c, req, a, own, ok, arg, rfl, rfl, hc, rfl, rfl⟩ := h
  exact ⟨_, State.command_unsecured a hr hc hp, s.turnDown_notAuth_status ..⟩

theorem State.securedCode_mem {s : State} {code : Nat} (h : s.securedCode code = true) : code ∈ ownerCodes := by
  simp only [State.securedCode, Bool.or_eq_true, List.contains_eq_mem, decide_eq_true_eq, Bool.and_eq_true, beq_iff_eq,
    List.mem_cons, List.not_mem_nil, or_false] at h
  simp only [ownerCodes, List.mem_cons, List.not_mem_nil, or_false]
  tauto

/-! ### The mailbox (R369, R370) -/

/-- GO is no part of what a command reaches. -/
theorem State.reaches_putGo (s : State) (code part : Nat) :
    (s.put pgPcie .MBX_GO 1).reaches .mailbox code part = s.reaches .mailbox code part := by
  have hboot : (s.put pgPcie .MBX_GO 1).flag pgPcie .BOOT_DONE = s.flag pgPcie .BOOT_DONE := by
    rw [State.flag, State.get_put_fld _ _ _ _ _ _ (by decide), State.flag]
  simp [State.reaches, State.barUp, hboot]

section Mailbox

variable {s : State} (hb : s.barUp = true) (hl : s.flag pgPcie .LOCKED = false)
include hb hl

theorem exec_mbxGo : exec .mbxGo s = s.mailboxGo := by
  have he : exec .mbxGo s = execMbxGo s := rfl
  simp [he, execMbxGo, hb, hl]

theorem exec_mbxHalt : exec .mbxHalt s = .next (s.enterHold 0) := by
  have he : exec .mbxHalt s = execMbxHalt s := rfl
  simp [he, execMbxHalt, State.hostWriteL, State.onBar, hb, hl]

end Mailbox

theorem exec_mbxHalt_locked {s : State} (hb : s.barUp = true) (hl : s.flag pgPcie .LOCKED = true) :
    exec .mbxHalt s = .next (s.lockedOut pgPcie 0x078 2) := by
  have he : exec .mbxHalt s = execMbxHalt s := rfl
  simp [he, execMbxHalt, State.hostWriteL, State.onBar, hb, hl]

theorem exec_mbxHalt_down {s : State} (hb : s.barUp = false) :
    exec .mbxHalt s = .next { s with out := { s.out with rdata := 0, ep := false, ur := true } } := by
  have he : exec .mbxHalt s = execMbxHalt s := rfl
  simp [he, execMbxHalt, State.hostWriteL, State.onBar, hb]

/-- A command in progress (R370). -/
theorem State.mailboxGo_busy (s : State) (h : s.flag pgPcie .MBX_GO = true) :
    s.mailboxGo = .next ((s.reply stBusy).put pgPcie .MBX_STATUS stBusy) := by simp [State.mailboxGo, h]

/-- A wrong length whose code does not need a secured session (R41, R369). -/
theorem State.mailboxGo_badLen (s : State) (h : s.flag pgPcie .MBX_GO = false)
    (hn : s.get pgPcie .MBX_LEN < 4 ∨ 2048 < s.get pgPcie .MBX_LEN)
    (hc : s.get pgPcie .MBX_LEN < 2 ∨ s.securedCode (rawOf s.mailboxBytes).code = false) : s.mailboxGo =
    .next ((s.put pgPcie .MBX_GO 1).refuse pgCp stBadLen (rawOf s.mailboxBytes).code .mailbox (s.get pgPcie .MBX_LEN)).mailboxDone := by
  have hbad : ((decide (s.get pgPcie .MBX_LEN < 4) || decide (2048 < s.get pgPcie .MBX_LEN)) &&
      !(decide (2 ≤ s.get pgPcie .MBX_LEN) && (s.put pgPcie .MBX_GO 1).securedCode (rawOf s.mailboxBytes).code)) = true := by
    have hsame : (s.put pgPcie .MBX_GO 1).securedCode (rawOf s.mailboxBytes).code = s.securedCode (rawOf s.mailboxBytes).code := rfl
    rw [hsame]
    rcases hc with hc | hc
    · simp [Nat.not_le.2 hc, hn]
    · simp [hc, hn]
  simp only [State.mailboxGo, h, Bool.false_eq_true, if_false, hbad, if_true]

/-- A command of the right length, or one that needs a secured session, runs (R369). -/
theorem State.mailboxGo_runs (s : State) (h : s.flag pgPcie .MBX_GO = false)
    (hn : 4 ≤ s.get pgPcie .MBX_LEN ∧ s.get pgPcie .MBX_LEN ≤ 2048 ∨
      2 ≤ s.get pgPcie .MBX_LEN ∧ s.securedCode (rawOf s.mailboxBytes).code = true)
    (hr : s.reaches .mailbox (rawOf s.mailboxBytes).code (rawOf s.mailboxBytes).part = true) {t : State}
    (ht : (s.put pgPcie .MBX_GO 1).runRaw .mailbox (rawOf s.mailboxBytes) = .next t) : s.mailboxGo = .next t.mailboxDone := by
  have hgood : ((decide (s.get pgPcie .MBX_LEN < 4) || decide (2048 < s.get pgPcie .MBX_LEN)) &&
      !(decide (2 ≤ s.get pgPcie .MBX_LEN) && (s.put pgPcie .MBX_GO 1).securedCode (rawOf s.mailboxBytes).code)) = false := by
    have hsame : (s.put pgPcie .MBX_GO 1).securedCode (rawOf s.mailboxBytes).code = s.securedCode (rawOf s.mailboxBytes).code := rfl
    rw [hsame]
    rcases hn with ⟨hlo, hhi⟩ | ⟨hlo, hc⟩
    · simp [Nat.not_lt.2 hlo, Nat.not_lt.2 hhi]
    · simp [hlo, hc]
  simp only [State.mailboxGo, h, Bool.false_eq_true, if_false, hgood, s.reaches_putGo, hr, Bool.not_true, ht]

/-- Words written to MBX_BUF change no other field. -/
theorem State.fillMailbox_eq (s : State) (bs : List Byte) : ∃ r : Tab FieldKey Nat, s.fillMailbox bs = { s with regs := r } := by
  unfold State.fillMailbox
  refine List.foldlRecOn (motive := fun t => ∃ r : Tab FieldKey Nat, t = { s with regs := r }) _ _ ⟨s.regs, rfl⟩ fun t ht w _ => ?_
  obtain ⟨r, rfl⟩ := ht
  exact ⟨_, rfl⟩

/-- The response: GO is clear and STATUS holds the command's. -/
theorem State.mailboxDone_eq (s : State) : ∃ u : State, s.mailboxDone = ((u.put pgPcie .MBX_STATUS s.out.status).put pgPcie .MBX_RSP_LEN
    ((leBytes 1 s.out.status ++ [0, 0, 0] ++ s.out.data).take 2048).length |>.put pgPcie .MBX_GO 0).raise pgPcie 1 := by
  obtain ⟨r, hr⟩ := s.fillMailbox_eq ((leBytes 1 s.out.status ++ [0, 0, 0] ++ s.out.data).take 2048)
  refine ⟨{ s with regs := r }, ?_⟩
  simp only [State.mailboxDone, hr]

@[simp] theorem State.mailboxDone_go (s : State) : s.mailboxDone.get pgPcie .MBX_GO = 0 := by
  obtain ⟨u, hu⟩ := s.mailboxDone_eq
  rw [hu, State.raise_get _ _ _ _ _ _ rfl (by decide), State.get_put_same]
  rfl

@[simp] theorem State.mailboxDone_status (s : State) : s.mailboxDone.get pgPcie .MBX_STATUS = s.out.status % 256 := by
  obtain ⟨u, hu⟩ := s.mailboxDone_eq
  rw [hu, State.raise_get _ _ _ _ _ _ rfl (by decide), State.get_put_fld _ _ _ _ _ _ (by decide),
    State.get_put_fld _ _ _ _ _ _ (by decide), State.get_put_same]
  rfl

/-- An event's bit stands in EVT behind its record, on every page but the recorder's own. -/
theorem State.raise_evt_bit (s : State) (p : Page) (bit : Nat) (d : List Byte) (hp : p ≠ pgRec) (hbit : bit < 32) :
    bitAt ((s.raise p bit d).get p .EVT) bit = true := by
  rw [State.raise, State.record_get _ _ _ _ _ _ rfl (fun h => absurd h hp), State.evt, State.get_put_same]
  have htest : ((s.get p .EVT ||| 2 ^ bit) % 2 ^ (fieldInfo .EVT).width).testBit bit = true := by
    rw [Nat.testBit_mod_two_pow]
    simp [fieldInfo, hbit]
  simpa [bitAt, Nat.testBit_eq_decide_div_mod_eq] using htest

@[simp] theorem State.mailboxDone_event (s : State) : bitAt (s.mailboxDone.get pgPcie .EVT) 1 = true :=
  State.raise_evt_bit _ pgPcie 1 _ (by decide) (by decide)

/-! ### Configuration space (R356, R364) -/

section Config

variable {s : State} (hb : s.barUp = true)
include hb

theorem exec_configRead (d : Nat) : exec (.pcieConfigRequest d) s = .next (s.configAnswer false (s.configWord d)) := by
  have he : exec (.pcieConfigRequest d) s = execPcieConfigRequest s d none := rfl
  simp [he, execPcieConfigRequest, hb]

theorem exec_configWrite (d v : Nat) : exec (.pcieConfigRequest d (some v)) s = .next ((s.writeConfig d v).configAnswer false 0) := by
  have he : exec (.pcieConfigRequest d (some v)) s = execPcieConfigRequest s d (some v) := rfl
  simp [he, execPcieConfigRequest, hb]

end Config

/-- During boot with the link in L0 every request is answered with Request Retry Status (R364). -/
theorem exec_config_retry {s : State} (d : Nat) (w : Option Nat) (hb : s.barUp = false) (hk : s.pw.keeperOn = true)
    (hp : s.pw.power = .off) (h40 : s.pw.stage40 = true) (ha : s.pw.armed = true) (hr : s.pw.recovery = false)
    (hl : s.host.linkL0 = true) : exec (.pcieConfigRequest d w) s = .next (s.configAnswer true 0) := by
  have he : exec (.pcieConfigRequest d w) s = execPcieConfigRequest s d w := rfl
  have hlink : s.linkDuringBoot = s := by simp [State.linkDuringBoot, hl]
  simp [he, execPcieConfigRequest, hb, hk, hp, h40, ha, hr, hlink, hl]

/-- A word of the header: its fixed bits and what the host wrote to the writable ones. -/
theorem State.configWord_header (s : State) {w : Nat} (h : w < 16) :
    s.configWord w = (headerWord w).fixed ||| (s.configWritten w &&& (headerWord w).writable) := by
  simp [State.configWord, State.configBits, h]

/-- A header word that the host cannot write reads its fixed bits. -/
theorem State.configWord_fixed (s : State) {w : Nat} (h : w < 16) (hw : (headerWord w).writable = 0) :
    s.configWord w = (headerWord w).fixed := by simp [s.configWord_header h, hw]

/-- No capability stands in the header. -/
theorem capAt_header {w : Nat} (h : w < 16) : capAt w = none := by
  rw [capAt, List.find?_eq_none]
  intro c _
  simp [Nat.not_le.2 h]

/-- A write to a header word keeps the writable bits. -/
theorem State.writeConfig_header (s : State) {w : Nat} (v : Nat) (h : w < 16) : s.writeConfig w v =
    { s with host := { s.host with config := s.host.config.put w (v &&& (headerWord w).writable) } } := by
  simp [State.writeConfig, capAt_header h, State.configBits, h]

/-- A header word as it reads after a write. -/
theorem State.writeConfig_configWord (s : State) {w : Nat} (v : Nat) (h : w < 16) (word : Nat) :
    ((s.writeConfig w v).configAnswer false word).configWord w = (headerWord w).fixed ||| (v &&& (headerWord w).writable) := by
  have hw : ((s.writeConfig w v).configAnswer false word).configWritten w = v &&& (headerWord w).writable := by
    rw [s.writeConfig_header v h]
    exact Tab.get_put_same ..
  rw [State.configWord_header _ h, hw, Nat.and_assoc, Nat.and_self]

/-! ### Function-level reset (R372) -/

/-- A field is at its reset value where it was named, and as before elsewhere. -/
theorem State.get_resetFields (s : State) (p q : Page) (l : List Fld) (f : Fld) (i : Nat) :
    (s.resetFields p l).get q f i = if q = p ∧ f ∈ l then (fieldInfo f).reset else s.get q f i := by
  by_cases h : q = p ∧ f ∈ l <;> simp [State.resetFields, State.get, Tab.get, Tab.find?_delIf, h]

theorem exec_flr {s : State} (hb : s.barUp = true) : exec .flr s = .next s.resetEndpoint := by
  have he : exec .flr s = execFlr s := rfl
  simp only [State.barUp, Bool.and_eq_true, Bool.or_eq_true, beq_iff_eq] at hb
  obtain ⟨⟨hboot, -⟩, hpower⟩ := hb
  rcases hpower with (h | h) | h <;> simp [he, execFlr, hboot, h]

/-- Settles O18: the mailbox by `State.mailboxGo` and the one raw command that it runs, configuration space by the header's words. -/
theorem hostPortCommands : Obligations.HostPortCommands := by
  unfold Obligations.HostPortCommands
  refine ⟨?run, ?badLen, ?busy, ?denied, ?done, ?halt, ?haltLocked, ?haltDown, ?configRead, ?identity, ?bars, ?retry, ?flr⟩
  case run =>
    intro s hb hl hg hlo hhi hr
    obtain ⟨t, ht⟩ := (s.put pgPcie .MBX_GO 1).runRaw_answers .mailbox (rawOf s.mailboxBytes)
    exact ⟨t, ht, by rw [exec_mbxGo hb hl, s.mailboxGo_runs hg (.inl ⟨hlo, hhi⟩) hr ht]⟩
  case badLen =>
    intro s hb hl hg hn hc
    rw [exec_mbxGo hb hl, s.mailboxGo_badLen hg hn hc]
    rfl
  case busy =>
    intro s hb hl hg
    rw [exec_mbxGo hb hl, s.mailboxGo_busy hg]
    rfl
  case denied =>
    intro s hb hl hg hn hk hrec hc
    have hr : s.reaches .mailbox (rawOf s.mailboxBytes).code (rawOf s.mailboxBytes).part = true := by
      have hwedged : s.pw.wedged = false := by
        simp only [State.barUp, Bool.and_eq_true, Bool.not_eq_true'] at hb
        obtain ⟨⟨-, hwedged⟩, -⟩ := hb
        exact hwedged
      simp [State.reaches, hk, hrec, hwedged, hb]
    have hmem := State.securedCode_mem hc
    have hone := (s.put pgPcie .MBX_GO 1).runOwner_runsOne .mailbox (rawOf s.mailboxBytes) hmem
    have hsame : (s.put pgPcie .MBX_GO 1).securedCode (rawOf s.mailboxBytes).code = true := hc
    rw [hsame] at hone
    obtain ⟨t, ht, hst⟩ := hone.denied ((s.reaches_putGo _ _).trans hr) rfl
    rw [← State.runRaw_owner _ _ _ hmem] at ht
    refine ⟨_, (exec_mbxGo hb hl).trans (s.mailboxGo_runs hg (.inr ⟨by omega, hc⟩) hr ht), ?_, by simp⟩
    rw [State.mailboxDone_status, hst]
    rfl
  case done => exact fun s => ⟨by simp, by simp, by simp⟩
  case halt => exact fun s hb hl => exec_mbxHalt hb hl
  case haltLocked => exact fun s hb hl => exec_mbxHalt_locked hb hl
  case haltDown => exact fun s hb => exec_mbxHalt_down hb
  case configRead => exact fun d s hb => exec_configRead hb d
  case identity =>
    intro s
    have hvendor := Config.vendorId.isLt
    have hrev : (Config.configSpace 2).toNat % 256 < 256 := Nat.mod_lt _ (by decide)
    have h0 : s.configWord 0 = Config.vendorId.toNat + 0x3072 * 2 ^ 16 := s.configWord_fixed (by decide) rfl
    have h2 : s.configWord 2 = (Config.configSpace 2).toNat % 256 + 0x120000 * 2 ^ 8 := s.configWord_fixed (by decide) rfl
    refine ⟨by omega, by omega, ?_, ?_, ?_, ?_⟩
    · exact s.configWord_fixed (by decide) rfl
    · exact s.configWord_fixed (by decide) rfl
    · exact s.configWord_fixed (by decide) rfl
    · exact s.configWord_fixed (by decide) rfl
  case bars =>
    intro v s hb
    refine ⟨_, _, _, _, exec_configWrite hb 4 v, exec_configWrite hb 5 v, exec_configWrite hb 6 v, exec_configWrite hb 7 v, ?_, ?_, ?_, ?_,
      ?_, ?_⟩
    · exact s.writeConfig_configWord v (by decide) 0
    · exact (s.writeConfig_configWord v (by decide) 0).trans (Nat.zero_or _)
    · exact (s.writeConfig_configWord v (by decide) 0).trans (congrArg (0xC ||| ·) (Nat.and_zero v))
    · exact (s.writeConfig_configWord v (by decide) 0).trans (Nat.zero_or _)
    · rw [s.writeConfig_header v (by decide)]; rfl
    · rw [s.writeConfig_header v (by decide)]; rfl
  case retry => exact fun d w s hb hk hp h40 ha hr hl => exec_config_retry d w hb hk hp h40 ha hr hl
  case flr =>
    intro s hb
    refine ⟨_, exec_flr hb, rfl, rfl, fun q _ => ?_, ?_, ?_, ?_, fun p f i hp => ?_⟩
    all_goals rw [State.get_resetFields]
    · rfl
    · rfl
    · rfl
    · rfl
    · rw [if_neg fun h => hp h.1]; rfl

end Sys2Proof.Machine
end

section
/-! PROOFS. Settles QuantisedTiles (O44): a tile leaves the quantiser's input and its slots whatever it does elsewhere, and a plain tile is one span of bytes written. -/

namespace Sys2Proof.Machine

/-! ### What a tile's way to memory and to its bucket leaves of the cores -/

/-- What every step of a fold leaves alone, the fold leaves alone. -/
theorem foldl_unchanged {α β : Type} (g : State → β) (f : State → α → State) (h : ∀ s x, g (f s x) = g s) (l : List α) (s : State) :
    g (l.foldl f s) = g s := by
  induction l generalizing s with
  | nil => rfl
  | cons x l ih => rw [List.foldl_cons, ih, h]

section MemoryCores

variable (s : State)

@[simp] theorem State.setCache_cores (l : Nat) (c : CacheLine) : (s.setCache l c).cores = s.cores := rfl
@[simp] theorem State.freeCache_cores (l : Nat) : (s.freeCache l).cores = s.cores := rfl
@[simp] theorem State.dalFree_cores (l : Nat) : (s.dalFree l).cores = s.cores := rfl
@[simp] theorem State.refused_cores (b : Nat) : (s.refused b).cores = s.cores := by simp [State.refused]
@[simp] theorem State.countFault_cores (a : Nat) : (s.countFault a).cores = s.cores := by simp [State.countFault]
@[simp] theorem State.corrected_cores (mc : Nat) : (s.corrected mc).cores = s.cores := by simp [State.corrected]
@[simp] theorem State.uncorrectable_cores (a : Nat) : (s.uncorrectable a).cores = s.cores := by simp [State.uncorrectable]

@[simp] theorem State.denyRead_cores (a : Nat) (first : Bool) : (s.denyRead a first).cores = s.cores := by
  simp only [State.denyRead]
  split <;> simp

@[simp] theorem State.overdraw_cores (b key : Nat) (f : Fld) (i n bit : Nat) : (s.overdraw b key f i n bit).cores = s.cores := by
  simp only [State.overdraw]
  split <;> simp

@[simp] theorem State.moved_cores (b cls bed : Nat) : (s.moved b cls bed).cores = s.cores := by
  simp only [State.moved, apply_ite State.cores, State.overdraw_cores, State.setMem_cores, ite_self]

@[simp] theorem State.serveOver_cores (b cls bed : Nat) : (s.serveOver b cls bed).cores = s.cores := by simp [State.serveOver]
@[simp] theorem State.delayOver_cores (b cls bed : Nat) : (s.delayOver b cls bed).cores = s.cores := rfl

@[simp] theorem State.meter_cores (b cls bed : Nat) : (s.meter b cls bed).cores = s.cores := by
  simp only [State.meter, apply_ite State.cores, State.moved_cores, State.delayOver_cores, State.serveOver_cores, ite_self]

@[simp] theorem State.stackRead_cores (a : Nat) (err : LineErr) : (s.stackRead a err).1.cores = s.cores := by
  simp only [State.stackRead]
  split
  · rfl
  · split
    · exact s.corrected_cores _
    · exact s.uncorrectable_cores a
    · rfl
    · rfl

@[simp] theorem State.stackWrite_cores (a : Nat) (d : List Byte) (p rel : Bool) : (s.stackWrite a d p rel).cores = s.cores := by
  simp only [State.stackWrite, apply_ite State.cores, State.setMem_cores, ite_self]

@[simp] theorem State.stackPatch_cores (a first : Nat) (d : List Byte) (p rel : Bool) :
    (s.stackPatch a first d p rel).cores = s.cores := by
  simp only [State.stackPatch, apply_ite State.cores, State.setMem_cores, ite_self]

@[simp] theorem State.useLine_cores (l : Nat) (c : CacheLine) : (s.useLine l c).cores = s.cores := by
  unfold State.useLine
  cases c.dal with
  | none => rfl
  | some n => simp only [apply_ite State.cores, State.dalFree_cores, State.setCache_cores, ite_self]

@[simp] theorem State.serveHit_cores (r : MemReq) (err : LineErr) (c : CacheLine) : (s.serveHit r err c).1.cores = s.cores := by
  unfold State.serveHit
  split <;> simp only [apply_ite State.cores, State.useLine_cores, State.setCache_cores, State.uncorrectable_cores, State.raise_cores, ite_self]

@[simp] theorem State.serveMiss_cores (r : MemReq) (d : List Byte) (p : Bool) : (s.serveMiss r d p).cores = s.cores := by
  simp only [State.serveMiss, apply_ite State.cores, State.refused_cores, State.setCache_cores, State.dalFree_cores, ite_self]

@[simp] theorem State.serveRead_cores (r : MemReq) (err : LineErr) : (s.serveRead r err).1.cores = s.cores := by
  unfold State.serveRead
  cases Tab.find? s.mem.cache (lineOf r.addr) <;> simp

@[simp] theorem State.readLine_cores (r : MemReq) (err : LineErr) (first : Bool) : (s.readLine r err first).1.cores = s.cores := by
  unfold State.readLine
  split
  · simp
  · split <;> simp

@[simp] theorem State.serveWrite_cores (r : MemReq) (first : Nat) (d : List Byte) (p rel : Bool) :
    (s.serveWrite r first d p rel).cores = s.cores := by
  unfold State.serveWrite
  dsimp only
  split
  · simp
  · simp only [apply_ite State.cores, apply_ite Prod.fst, State.stackWrite_cores, State.stackPatch_cores, State.meter_cores,
      State.bump_cores, State.refused_cores, State.setCache_cores, State.stackRead_cores, ite_self]

@[simp] theorem State.writeLine_cores (r : MemReq) (first : Nat) (d : List Byte) (p rel : Bool) :
    (s.writeLine r first d p rel).cores = s.cores := by
  simp only [State.writeLine, apply_ite State.cores, State.countFault_cores, State.serveWrite_cores, ite_self]

@[simp] theorem State.writeSpan_cores (r : MemReq) (d : List Byte) (p rel : Bool) : (s.writeSpan r d p rel).cores = s.cores :=
  foldl_unchanged State.cores _ (fun s _ => s.writeLine_cores _ _ _ _ _) _ s

@[simp] theorem State.readSpan_cores (r : MemReq) (n : Nat) : (s.readSpan r n).1.cores = s.cores := by
  unfold State.readSpan
  refine List.foldlRecOn (motive := fun (x : State × List Byte × List Nat) => x.1.cores = s.cores) _ _ rfl fun x hx l _ => ?_
  exact (State.readLine_cores ..).trans hx

end MemoryCores

section ReductionCores

variable (s : State)

@[simp] theorem State.queueOn_cores (p : Nat) (k : Packet) : (s.queueOn p k).cores = s.cores := by
  simp [State.queueOn]

@[simp] theorem State.send_cores (q dest cls ty : Nat) (tf pay : List Byte) (poison : Bool) :
    (s.send q dest cls ty tf pay poison).cores = s.cores :=
  foldl_unchanged State.cores _ (fun s p => s.queueOn_cores p _) _ _

@[simp] theorem State.setPartAt_cores (k : PartKey) (x : OpenPart) : (s.setPartAt k x).cores = s.cores := rfl
@[simp] theorem State.redCount_cores (p : Page) (f : Fld) (bit : Nat) : (s.redCount p f bit).cores = s.cores := by simp [State.redCount]

@[simp] theorem State.onStep_cores (q step : Nat) (g : OpenStep → OpenStep) : (s.onStep q step g).cores = s.cores := by
  unfold State.onStep
  cases s.stepAt q step <;> rfl

@[simp] theorem State.noiseFailed_cores (q step : Nat) : (s.noiseFailed q step).cores = s.cores := by simp [State.noiseFailed]

@[simp] theorem State.rootCert_cores (k : PartKey) (o : OpenStep) (x : OpenPart) : (s.rootCert k o x).1.cores = s.cores := by
  simp only [State.rootCert]
  repeat' split
  all_goals simp

@[simp] theorem State.retain_cores (k : PartKey) (o : OpenStep) (c : Cert) (sums : List Int) :
    (s.retain k o c sums).cores = s.cores := by
  simp only [State.retain, State.setRed_cores, State.writeSpan_cores, apply_ite State.cores, ite_self]

@[simp] theorem State.certify_cores (k : PartKey) (o : OpenStep) : (s.certify k o).cores = s.cores := by
  simp only [State.certify, State.retain_cores, State.bump_cores]
  exact (foldl_unchanged State.cores _ (fun s d => s.send_cores ..) _ _).trans (by simp)

@[simp] theorem State.forwardPart_cores (k : PartKey) (o : OpenStep) (t : Tree) (rank : Nat) :
    (s.forwardPart k o t rank).cores = s.cores := by
  simp only [State.forwardPart, State.send_cores, apply_ite State.cores, State.bump_cores, State.setPartAt_cores, ite_self]

@[simp] theorem State.sendOnWhole_cores (k : PartKey) (o : OpenStep) (t : Tree) (rank : Nat) :
    (s.sendOnWhole k o t rank).cores = s.cores := by
  simp only [State.sendOnWhole, State.sendOn, apply_ite State.cores, State.certify_cores, State.forwardPart_cores, ite_self]

@[simp] theorem State.ownPart_cores (k : PartKey) (o : OpenStep) (sums : List Int) (sat poison : Bool) :
    (s.ownPart k o sums sat poison).cores = s.cores := by
  simp only [State.ownPart]
  split
  · rfl
  · simp only [apply_ite State.cores, State.sendOnWhole_cores, State.redCount_cores, State.setPartAt_cores, ite_self]

@[simp] theorem State.contribute_cores (q step desc tile : Nat) (qs : List Int) (sats : List Bool) (poison : Bool) :
    (s.contribute q step desc tile qs sats poison).cores = s.cores := by
  simp only [State.contribute]
  split
  · rfl
  · split
    · rfl
    · exact foldl_unchanged State.cores _ (fun s j => s.ownPart_cores ..) _ s

end ReductionCores

end Sys2Proof.Machine
end

section
/-! PROOFS. The bytes of a span that an engine writes past the cache (R173, R186): every line of it is written at its own bytes. -/

namespace Sys2Proof.Machine

/-! ### What decides where a write goes -/

/-- Fields on which the checks of a write depend (R170, R171, R189). -/
def mapFields : List Fld := .FENCED_MAP :: addressFields

/-- Two states with one map of memory: the same bridges and controllers run, and the same channels are fenced. -/
def State.SameMap (s t : State) : Prop := (∀ p, ∀ g ∈ mapFields, t.get p g = s.get p g) ∧ t.halted = s.halted

namespace State.SameMap

variable {s t u : State}

theorem rfl : SameMap s s := ⟨fun _ _ _ => Eq.refl _, Eq.refl _⟩

theorem trans (h : SameMap s t) (k : SameMap t u) : SameMap s u :=
  ⟨fun p g hg => (k.1 p g hg).trans (h.1 p g hg), k.2.trans h.2⟩

theorem faulty (h : SameMap s t) (b : Nat) (host : Bool) (a : Nat) : t.faulty b host a = s.faulty b host a :=
  State.faulty_congr (fun p g hg => h.1 p g (List.mem_cons_of_mem _ hg)) h.2 b host a

theorem fenced (h : SameMap s t) (a : Nat) : t.fenced a = s.fenced a := by
  have hpc : t.stackPc a = s.stackPc a := State.stackPc_congr (fun p => h.1 p _ (by simp [mapFields, addressFields])) a
  rw [State.fenced, State.stackOf, hpc, h.1 _ _ (by simp [mapFields]), State.fenced, State.stackOf]

/-- A register write elsewhere. -/
theorem put (p : Page) (f : Fld) (v i : Nat) (hf : f ∉ mapFields) : SameMap s (s.put p f v i) :=
  ⟨fun q g hg => State.get_put_fld _ _ _ _ _ _ (by rintro ⟨⟩; exact hf hg), Eq.refl _⟩

@[inherit_doc put]
theorem bump (p : Page) (f : Fld) (n i : Nat) (hf : f ∉ mapFields) : SameMap s (s.bump p f n i) :=
  put p f _ i hf

theorem raise (p : Page) (bit : Nat) (d : List Byte) : SameMap s (s.raise p bit d) := by
  have hrecord : ∀ g ∈ mapFields, recordField g = false := by decide
  have hevt : ∀ g ∈ mapFields, g ≠ .EVT := by decide
  exact ⟨fun q g hg => State.raise_get _ _ _ _ _ _ (hrecord g hg) (hevt g hg), State.raise_halted ..⟩

end State.SameMap

/-! ### The regulators leave memory's content alone (R182) -/

/-- Memory without what the regulators keep. -/
def MemSt.content (m : MemSt) : MemSt := { m with used := [], farUsed := [], overRest := [], waiting := [], served := [] }

theorem MemSt.byte_content (m : MemSt) (a : Nat) : m.content.byte a = m.byte a := rfl
theorem MemSt.cache_content (m : MemSt) : m.content.cache = m.cache := rfl

section Meter

variable (s : State)

/-- Metered: the content and the map stand. -/
def State.Metered (s t : State) : Prop := t.mem.content = s.mem.content ∧ s.SameMap t

theorem State.Metered.trans {s t u : State} (h : s.Metered t) (k : t.Metered u) : s.Metered u := ⟨k.1.trans h.1, h.2.trans k.2⟩

theorem State.setMem_metered (m : MemSt) (h : m.content = s.mem.content) : s.Metered (s.setMem m) := ⟨h, .rfl⟩

theorem State.Metered.step {s t u : State} (h : s.Metered t) (k : t.Metered u) (c : Prop) [Decidable c] : s.Metered (if c then u else t) := by
  split
  · exact h.trans k
  · exact h

theorem State.counted_metered (p : Page) {f : Fld} (n i bit : Nat) (hf : f ∉ mapFields) :
    s.Metered ((s.bump p f n i).raise p bit) :=
  ⟨by simp, (State.SameMap.bump p f n i hf).trans (State.SameMap.raise p bit [])⟩

theorem State.overdraw_metered (b key : Nat) {f : Fld} (i n bit : Nat) (hf : f ∉ mapFields) : s.Metered (s.overdraw b key f i n bit) := by
  simp only [State.overdraw]
  refine State.Metered.step (s.setMem_metered _ ?_) (State.counted_metered _ _ _ _ _ hf) _
  rfl

theorem State.moved_metered (b cls bed : Nat) : s.Metered (s.moved b cls bed) := by
  have hover : Fld.OVERDRAW_C ∉ mapFields := by decide
  have hfar : Fld.FAR_OVERDRAW ∉ mapFields := by decide
  simp only [State.moved]
  refine State.Metered.step (State.Metered.step (s.setMem_metered _ ?_) (State.overdraw_metered _ _ _ _ _ _ hover) _)
    (State.overdraw_metered _ _ _ _ _ _ hfar) _
  rfl

theorem State.serveOver_metered (b cls bed : Nat) : s.Metered (s.serveOver b cls bed) :=
  (s.moved_metered b cls bed).trans ⟨rfl, .rfl⟩

theorem State.meter_metered (b cls bed : Nat) : s.Metered (s.meter b cls bed) := by
  unfold State.meter
  repeat' split
  · exact ⟨rfl, .rfl⟩
  · exact s.moved_metered b cls bed
  · exact ⟨rfl, .rfl⟩
  · exact s.serveOver_metered b cls bed
  · exact ⟨rfl, .rfl⟩
  · exact State.Metered.trans (t := { s with free := s.free + 1 }) ⟨rfl, .rfl⟩ (State.serveOver_metered _ b cls bed)

end Meter

/-! ### One line written (R186) -/

/-- Bytes put over memory from an address. -/
def overlay (old : Nat → Byte) (first : Nat) (data : List Byte) (a : Nat) : Byte :=
  if first ≤ a then data[a - first]?.getD (old a) else old a

theorem MemSt.byte_setBytes (m : MemSt) (first a : Nat) (data : List Byte) :
    (m.setBytes first data).byte a = overlay m.byte first data a := by
  unfold overlay
  split
  next h =>
    by_cases hin : a - first < data.length
    · have := m.byte_setBytes_in first (a - first) data hin
      rw [Nat.add_sub_cancel' h] at this
      rw [this, List.getElem?_eq_getElem hin]
      rfl
    · rw [m.byte_setBytes_out first a data (.inr (by omega)), List.getElem?_eq_none (Nat.not_lt.1 hin)]
      rfl
  next h => exact m.byte_setBytes_out first a data (.inl (Nat.not_le.1 h))

/-- A whole line stored. -/
theorem MemSt.byte_storeLine (m : MemSt) (l a : Nat) (data : List Byte) (p rel : Bool) (h : data.length = 64) :
    (m.storeLine l data p rel).byte a = overlay m.byte (64 * l) data a := by
  have hpad : padTo 64 data = data := by simp [padTo, h]
  have hbytes : (m.storeLine l data p rel).byte a =
      ({ m with cells := cellDrop m.cells (fun a => lineOf a == l), undef := m.undef.del l }.setBytes (64 * l) (padTo 64 data)).byte a := rfl
  rw [hbytes, hpad, MemSt.byte_setBytes]
  by_cases hl : lineOf a = l
  · have hlo : 64 * l ≤ a := by unfold lineOf at hl; omega
    have hin : a - 64 * l < data.length := by unfold lineOf at hl; omega
    simp [overlay, hlo, hin]
  · have hsame : ({ m with cells := cellDrop m.cells (fun a => lineOf a == l), undef := m.undef.del l } : MemSt).byte a = m.byte a := by
      have hcell : cellFind (cellDrop m.cells fun a => lineOf a == l) a = cellFind m.cells a := by simp [cellFind_drop, hl]
      have hundef : Tab.find? (m.undef.del l) (lineOf a) = Tab.find? m.undef (lineOf a) := by simp [Tab.find?_del, hl]
      simp only [MemSt.byte, MemSt.raw, MemSt.unlisted, MemSt.genOf, hcell, hundef]
    simp only [overlay, hsame]

/-- A part of a line patched. -/
theorem MemSt.byte_patchLine (m : MemSt) (l first a : Nat) (data : List Byte) (p rel : Bool) (h : first + data.length ≤ 64) :
    (m.patchLine l first data p rel).byte a = overlay m.byte (64 * l + first) data a := by
  have hbytes : (m.patchLine l first data p rel).byte a = (m.setBytes (64 * l + first) (data.take (64 - first))).byte a := rfl
  rw [hbytes, List.take_of_length_le (by omega), MemSt.byte_setBytes]

theorem MemSt.setBytes_cache (m : MemSt) (a : Nat) (data : List Byte) : (m.setBytes a data).cache = m.cache := by
  induction data generalizing m a with
  | nil => rfl
  | cons b data ih =>
    have hbyte : (m.setByte a b).cache = m.cache := by
      unfold MemSt.setByte
      split <;> rfl
    exact (ih (m.setByte a b) (a + 1)).trans hbyte

theorem MemSt.storeLine_cache (m : MemSt) (l : Nat) (data : List Byte) (p rel : Bool) : (m.storeLine l data p rel).cache = m.cache :=
  MemSt.setBytes_cache ..
theorem MemSt.patchLine_cache (m : MemSt) (l first : Nat) (data : List Byte) (p rel : Bool) :
    (m.patchLine l first data p rel).cache = m.cache := MemSt.setBytes_cache ..

/-- What a write past the cache leaves: bytes over the old ones, no line pinned and the map as before. -/
def State.Overlaid (s : State) (first : Nat) (data : List Byte) (t : State) : Prop :=
  (∀ a, t.mem.byte a = overlay s.mem.byte first data a) ∧ t.mem.cache = [] ∧ s.SameMap t

/-- A line written past an empty cache without a fault. -/
theorem State.writeLine_overlaid (s : State) (r : MemReq) (first : Nat) (data : List Byte) (p rel : Bool) (hc : s.mem.cache = [])
    (hh : r.hint = 0) (hf : s.faulty r.bed.val r.host r.addr = false) (hz : s.fenced r.addr = false) (hlen : first + data.length ≤ 64) :
    s.Overlaid (64 * lineOf r.addr + first) data (s.writeLine r first data p rel) := by
  have hmiss : Tab.find? s.mem.cache (lineOf r.addr) = none := by rw [hc]; rfl
  obtain ⟨t, ht, hmem, hmap⟩ : ∃ t : State, s.writeLine r first data p rel = (if first = 0 ∧ 64 ≤ data.length then t.stackWrite r.addr data p rel
      else t.stackPatch r.addr first data p rel) ∧ t.mem.content = s.mem.content ∧ s.SameMap t := by
    refine ⟨(s.bump (pgCache (homeOf r.addr)) .MISSES).meter (homeOf r.addr) r.cls r.bed.val, ?_, ?_⟩
    · simp [State.writeLine, hf, State.serveWrite, hmiss, hh]
    · exact State.Metered.trans (t := s.bump (pgCache (homeOf r.addr)) .MISSES) ⟨rfl, .bump _ _ _ _ (by decide)⟩
        (State.meter_metered _ _ _ _)
  have hfence : t.fenced r.addr = false := (hmap.fenced _).trans hz
  have hbyte : t.mem.byte = s.mem.byte := by
    funext a
    rw [← MemSt.byte_content t.mem, hmem, MemSt.byte_content]
  have hcache : t.mem.cache = [] := by rw [← MemSt.cache_content t.mem, hmem, MemSt.cache_content, hc]
  rw [ht]
  split
  next hfull =>
    obtain ⟨rfl, h64⟩ := hfull
    simp only [State.stackWrite, hfence, Bool.false_eq_true, if_false]
    refine ⟨fun a => ?_, (MemSt.storeLine_cache ..).trans hcache, hmap.trans ⟨fun _ _ _ => rfl, rfl⟩⟩
    rw [Nat.add_zero, ← hbyte]
    exact t.mem.byte_storeLine _ a data p rel (by omega)
  next =>
    simp only [State.stackPatch, hfence, Bool.false_eq_true, if_false]
    refine ⟨fun a => ?_, (MemSt.patchLine_cache ..).trans hcache, hmap.trans ⟨fun _ _ _ => rfl, rfl⟩⟩
    rw [← hbyte]
    exact t.mem.byte_patchLine _ first a data p rel hlen

/-! ### A span written, line by line -/

/-- The lines of a span are those between its first and its last byte's. -/
theorem mem_spanLines {a n l : Nat} : l ∈ spanLines a n ↔ 0 < n ∧ a < 64 * l + 64 ∧ 64 * l < a + n := by
  unfold spanLines
  split
  next h => simp [h]
  next h =>
    rw [List.mem_map]
    constructor
    · rintro ⟨i, hi, rfl⟩
      rw [List.mem_range] at hi
      omega
    · rintro ⟨hn, hlo, hhi⟩
      exact ⟨l - a / 64, List.mem_range.2 (by omega), by omega⟩

/-- The part of a span that lies in a line. -/
def spanPart (addr : Nat) (data : List Byte) (l : Nat) : List Byte :=
  (data.drop (max (64 * l) addr - addr)).take (min (64 * l + 64) (addr + data.length) - max (64 * l) addr)

theorem length_spanPart (addr : Nat) (data : List Byte) (l : Nat) :
    (spanPart addr data l).length = min (64 * l + 64) (addr + data.length) - max (64 * l) addr := by
  rw [spanPart, List.length_take, List.length_drop]
  omega

/-- Outside the bytes put over it memory is as before. -/
theorem overlay_out (old : Nat → Byte) {first a : Nat} {data : List Byte} (h : a < first ∨ first + data.length ≤ a) :
    overlay old first data a = old a := by
  unfold overlay
  split
  · rw [List.getElem?_eq_none (by omega)]
    rfl
  · rfl

/-- The bytes put over memory are the data. -/
theorem overlay_in (old : Nat → Byte) {first a : Nat} {data : List Byte} (h : first ≤ a) (hd : a - first < data.length) :
    overlay old first data a = data[a - first] := by
  rw [overlay, if_pos h, List.getElem?_eq_getElem hd]
  rfl

/-- What is put over a byte depends on that byte alone. -/
theorem overlay_congr {f g : Nat → Byte} {first a : Nat} {data : List Byte} (h : f a = g a) :
    overlay f first data a = overlay g first data a := by simp only [overlay, h]

/-- The same bytes put over memory once more change nothing. -/
theorem overlay_again {f g : Nat → Byte} {first a : Nat} {data : List Byte} (h : f a = overlay g first data a) :
    overlay f first data a = overlay g first data a := by
  by_cases hin : first ≤ a ∧ a - first < data.length
  · rw [overlay_in f hin.1 hin.2, overlay_in g hin.1 hin.2]
  · rw [overlay_out f (by omega), h]

/-- The part of a span in a line, put over memory, is the span in that line. -/
theorem overlay_spanPart (old : Nat → Byte) (addr : Nat) (data : List Byte) {l a : Nat} (hl : l ∈ spanLines addr data.length) :
    overlay old (64 * l + (max (64 * l) addr - 64 * l)) (spanPart addr data l) a =
      if lineOf a = l then overlay old addr data a else old a := by
  obtain ⟨hn, hlo, hhi⟩ := mem_spanLines.1 hl
  have hlen := length_spanPart addr data l
  have hstart : 64 * l + (max (64 * l) addr - 64 * l) = max (64 * l) addr := by omega
  rw [hstart]
  unfold lineOf
  by_cases hin : max (64 * l) addr ≤ a ∧ a < min (64 * l + 64) (addr + data.length)
  · obtain ⟨hmax, hmin⟩ := hin
    rw [overlay_in old hmax (by omega), if_pos (by omega), overlay_in old (by omega) (by omega)]
    simp only [spanPart, List.getElem_take, List.getElem_drop]
    congr 1
    omega
  · rw [overlay_out old (by omega)]
    split
    · exact (overlay_out old (by omega)).symm
    · rfl

/-- The lines of a span written one after the other, as `State.writeSpan` does. -/
def State.writeParts (s : State) (r : MemReq) (data : List Byte) (p rel : Bool) (lines : List Nat) : State :=
  lines.foldl (fun s l => s.writeLine { r with addr := 64 * l } (max (64 * l) r.addr - 64 * l) (spanPart r.addr data l) p rel) s

theorem State.writeSpan_eq (s : State) (r : MemReq) (data : List Byte) (p rel : Bool) :
    s.writeSpan r data p rel = s.writeParts r data p rel (spanLines r.addr data.length) := rfl

/-- Lines of a span written past an empty cache: their bytes are the span's, every other byte is as before. -/
theorem State.writeParts_overlaid (s : State) (r : MemReq) (data : List Byte) (p rel : Bool) (hc : s.mem.cache = []) (hh : r.hint = 0)
    (lines : List Nat) (hl : ∀ l ∈ lines, l ∈ spanLines r.addr data.length ∧
      s.faulty r.bed.val r.host (64 * l) = false ∧ s.fenced (64 * l) = false) :
    (∀ a, (s.writeParts r data p rel lines).mem.byte a = if lineOf a ∈ lines then overlay s.mem.byte r.addr data a else s.mem.byte a) ∧
      (s.writeParts r data p rel lines).mem.cache = [] ∧ s.SameMap (s.writeParts r data p rel lines) := by
  induction lines generalizing s with
  | nil => exact ⟨fun a => by simp [State.writeParts], hc, .rfl⟩
  | cons l lines ih =>
    rw [List.forall_mem_cons] at hl
    obtain ⟨⟨hspan, hfault, hfence⟩, hrest⟩ := hl
    obtain ⟨-, hlo, hhi⟩ := mem_spanLines.1 hspan
    have hlen := length_spanPart r.addr data l
    have hline : lineOf (64 * l) = l := Nat.mul_div_cancel_left l (by decide)
    obtain ⟨hbyte, hcache, hmap⟩ := s.writeLine_overlaid { r with addr := 64 * l } (max (64 * l) r.addr - 64 * l)
      (spanPart r.addr data l) p rel hc hh hfault hfence (by omega)
    obtain ⟨hbytes, hcaches, hmaps⟩ := ih _ hcache fun m hm => by rw [hmap.faulty, hmap.fenced]; exact hrest m hm
    refine ⟨fun a => ?_, hcaches, hmap.trans hmaps⟩
    have hfirst := hbyte a
    dsimp only at hfirst
    rw [hline, overlay_spanPart _ _ _ hspan] at hfirst
    refine (hbytes a).trans ?_
    by_cases hl : lineOf a = l
    · rw [if_pos hl] at hfirst
      rw [if_pos (List.mem_cons.2 (.inl hl)), overlay_again hfirst, hfirst, ite_self]
    · rw [if_neg hl] at hfirst
      rw [overlay_congr hfirst, hfirst]
      simp [hl]

/-- What a span written past an empty cache leaves: its own bytes, and every other byte as before. -/
theorem State.writeSpan_overlaid (s : State) (r : MemReq) (data : List Byte) (p rel : Bool) (hc : s.mem.cache = []) (hh : r.hint = 0)
    (hok : ∀ l ∈ spanLines r.addr data.length, s.faulty r.bed.val r.host (64 * l) = false ∧ s.fenced (64 * l) = false) :
    s.Overlaid r.addr data (s.writeSpan r data p rel) := by
  obtain ⟨hbyte, hcache, hmap⟩ := s.writeParts_overlaid r data p rel hc hh _ fun l hl => ⟨hl, hok l hl⟩
  refine ⟨fun a => (hbyte a).trans ?_, hcache, hmap⟩
  split
  · rfl
  next h =>
    refine (overlay_out _ ?_).symm
    rw [mem_spanLines] at h
    unfold lineOf at h
    omega

end Sys2Proof.Machine
end

section
/-! PROOFS. Settles QuantisedTiles (O44): a tile leaves the quantiser's input and its slots whatever else becomes of it, and a plain tile is one span put over memory. -/

namespace Sys2Proof.Machine

/-! ### The quantisers' inputs and the accumulator slots -/

/-- The quantisers' inputs and the slots. -/
def State.tiles (s : State) : Tab Nat (List Released) × Tab (Nat × Nat) SlotMeta := (s.cores.released, s.cores.slots)

theorem State.tiles_of_cores {s t : State} (h : t.cores = s.cores) : t.tiles = s.tiles := by rw [State.tiles, h, State.tiles]

theorem State.tiles_released {s t : State} (h : t.tiles = s.tiles) : t.cores.released = s.cores.released := congrArg Prod.fst h
theorem State.tiles_slot {s t : State} (h : t.tiles = s.tiles) (c k : Nat) : t.slot c k = s.slot c k :=
  congrArg (fun x : Tab (Nat × Nat) SlotMeta => x.get (c, k) SlotMeta.reset) (congrArg Prod.snd h)

section Tiles

variable (s : State)

@[simp] theorem State.raiseFlags_tiles (n : Nat) (fl : Flags) : (s.raiseFlags n fl).tiles = s.tiles := by
  unfold State.raiseFlags
  split <;> rfl

@[simp] theorem State.watchNorm_tiles (b c : Nat) (d : Desc) (order x : List Nat) : (s.watchNorm b c d order x).tiles = s.tiles := by
  simp only [State.watchNorm]
  split
  · exact State.raiseFlags_tiles ..
  · rfl

@[simp] theorem State.watchAmax_tiles (b : Nat) (d : Desc) (x : List Nat) : (s.watchAmax b d x).tiles = s.tiles := by
  simp only [State.watchAmax]
  split <;> rfl

@[simp] theorem State.watchAdd_tiles (b : Nat) (d : Desc) (l : List Nat) : (s.watchAdd b d l).tiles = s.tiles := by
  unfold State.watchAdd
  split <;> rfl

@[simp] theorem State.quantEvt_tiles (b : Nat) (d : Desc) (step bit : Nat) (on : Bool) : (s.quantEvt b d step bit on).tiles = s.tiles := by
  apply State.tiles_of_cores
  simp only [State.quantEvt, State.onceDo]
  split
  · rfl
  · split
    · split <;> simp
    · rfl

@[simp] theorem State.writeSpan_tiles (r : MemReq) (data : List Byte) (p rel : Bool) : (s.writeSpan r data p rel).tiles = s.tiles :=
  State.tiles_of_cores (s.writeSpan_cores r data p rel)

@[simp] theorem State.quantWrite_tiles (b : Nat) (d : Desc) (addr : Nat) (bs : List Byte) (p : Bool) :
    (s.quantWrite b d addr bs p).tiles = s.tiles := s.writeSpan_tiles ..

@[simp] theorem State.readSpan_tiles (r : MemReq) (n : Nat) : (s.readSpan r n).1.tiles = s.tiles :=
  State.tiles_of_cores (s.readSpan_cores r n)

theorem State.quantPlain_tiles (b c : Nat) (d : Desc) (r : Released) (x : List Nat) : (s.quantPlain b c d r x).tiles = s.tiles := by
  simp only [State.quantPlain, State.watchAdd_tiles, State.raiseFlags_tiles, State.quantWrite_tiles]

theorem State.quantI16_tiles (b c desc : Nat) (d : Desc) (r : Released) (x : List Nat) (e : Int) :
    (s.quantI16 b c desc d r x e).tiles = s.tiles := by
  simp only [State.quantI16]
  exact (State.tiles_of_cores (State.contribute_cores ..)).trans (by simp only [State.watchAdd_tiles, State.raiseFlags_tiles])

@[simp] theorem State.quantScaled_tiles (b c : Nat) (d : Desc) (r : Released) (x : List Nat) (tee : Nat) :
    (s.quantScaled b c d r x tee).tiles = s.tiles := by
  simp only [State.quantScaled, State.quantEvt_tiles, State.watchAdd_tiles, State.raiseFlags_tiles, apply_ite State.tiles,
    apply_ite Prod.fst, State.quantWrite_tiles, State.writeSpan_tiles, State.readSpan_tiles, State.watchAmax_tiles, ite_self]

@[simp] theorem State.quantCopy_tiles (b c : Nat) (r : Released) (d : Desc) (x : List Nat) : (s.quantCopy b c r d x).tiles = s.tiles := by
  simp only [State.quantCopy, State.quantScaled_tiles, State.watchNorm_tiles]

end Tiles

/-! ### A tile taken from the input -/

theorem State.setSlot_slot (s : State) (n k j : Nat) (x : SlotMeta) : (s.setSlot n k x).slot n j = if j = k then x else s.slot n j := by
  simp [State.setSlot, State.slot, State.setCores, Tab.get_put]

/-- The accumulator slots alone change. -/
theorem State.freeSlots_eq (s : State) (n m : Nat) (d : Desc) :
    s.freeSlots n m d = s.setCores { s.cores with slots := (s.freeSlots n m d).cores.slots } := by
  unfold State.freeSlots
  refine List.foldlRecOn (motive := fun t : State => t = s.setCores { s.cores with slots := t.cores.slots }) _ _ rfl fun t ht i _ => ?_
  rw [ht]
  rfl

/-- Every slot of the tile is free at the end. -/
theorem State.freeSlots_free (s : State) (n m : Nat) (d : Desc) {i : Nat} (hi : i < slotsNeeded d) :
    ((s.freeSlots n m d).slot n (m + i)).busy = false := by
  have hall : ∀ (l : List Nat) (t : State), i ∈ l ∨ (t.slot n (m + i)).busy = false →
      ((l.foldl (fun t j => t.setSlot n (m + j) { t.slot n (m + j) with busy := false }) t).slot n (m + i)).busy = false := by
    intro l
    induction l with
    | nil => exact fun t h => h.resolve_left (List.not_mem_nil)
    | cons j l ih =>
      intro t h
      refine ih _ ?_
      rw [State.setSlot_slot]
      by_cases hj : i = j
      · simp [hj]
      · have hne : m + i ≠ m + j := by omega
        rw [if_neg hne]
        exact h.imp_left fun h => (List.mem_cons.1 h).resolve_left hj
  exact hall _ s (.inl (List.mem_range.2 hi))

/-- The slots of a released tile free again; a tile of STOREs holds none (R115). -/
def State.freeTile (s : State) (n : Nat) (d : Desc) (r : Released) : State := match r.slot with
  | some m => s.freeSlots n m d
  | none => s

/-- The slots alone change. -/
theorem State.freeTile_eq (s : State) (n : Nat) (d : Desc) (r : Released) :
    s.freeTile n d r = s.setCores { s.cores with slots := (s.freeTile n d r).cores.slots } := by
  unfold State.freeTile
  split
  · exact s.freeSlots_eq ..
  · rfl

theorem State.freeTile_released (s : State) (n : Nat) (d : Desc) (r : Released) :
    (s.freeTile n d r).cores.released = s.cores.released := by
  rw [State.freeTile_eq]
  rfl

theorem State.freeTile_mem (s : State) (n : Nat) (d : Desc) (r : Released) : (s.freeTile n d r).mem = s.mem := by
  rw [State.freeTile_eq]
  rfl

theorem State.freeTile_sameMap (s : State) (n : Nat) (d : Desc) (r : Released) : s.SameMap (s.freeTile n d r) := by
  rw [State.freeTile_eq]
  exact ⟨fun _ _ _ => rfl, rfl⟩

theorem State.freeTile_free (s : State) (n : Nat) (d : Desc) (r : Released) {m i : Nat} (hm : r.slot = some m) (hi : i < slotsNeeded d) :
    ((s.freeTile n d r).slot n (m + i)).busy = false := by
  simp only [State.freeTile, hm]
  exact s.freeSlots_free n m d hi

/-! ### A tile quantised (R81) -/

/-- The state in which a released tile is handed to its format: its flags raised, its slots free, its norm watched. -/
def State.tileReady (s : State) (b c : Nat) (d : Desc) (r : Released) : State :=
  ((s.raiseFlags (coreNo b c) (if r.slot.isSome && !r.poisoned then listFlags (s.tileValues (coreNo b c) d r) else Flags.none)).freeTile
    (coreNo b c) d r).watchNorm b c d r.order (s.tileValues (coreNo b c) d r)

section Ready

variable (s : State) (b c : Nat) (d : Desc) (r : Released)

theorem State.tileReady_released : (s.tileReady b c d r).cores.released = s.cores.released := by
  rw [State.tileReady, State.tiles_released (State.watchNorm_tiles ..), State.freeTile_released]
  exact State.tiles_released (s.raiseFlags_tiles ..)

theorem State.tileReady_free {m i : Nat} (hm : r.slot = some m) (hi : i < slotsNeeded d) :
    ((s.tileReady b c d r).slot (coreNo b c) (m + i)).busy = false := by
  rw [State.tileReady, State.tiles_slot (State.watchNorm_tiles ..)]
  exact State.freeTile_free _ _ _ _ hm hi

theorem State.raiseFlags_mem (n : Nat) (fl : Flags) : (s.raiseFlags n fl).mem = s.mem := by
  unfold State.raiseFlags
  split <;> rfl

theorem State.raiseFlags_sameMap (n : Nat) (fl : Flags) : s.SameMap (s.raiseFlags n fl) := by
  unfold State.raiseFlags
  split
  · exact .rfl
  · exact .put _ _ _ _ (by decide)

theorem State.watchNorm_mem (order x : List Nat) : (s.watchNorm b c d order x).mem = s.mem := by
  simp only [State.watchNorm]
  split
  · exact s.raiseFlags_mem ..
  · rfl

theorem State.watchNorm_sameMap (order x : List Nat) : s.SameMap (s.watchNorm b c d order x) := by
  simp only [State.watchNorm]
  split
  · exact (s.raiseFlags_sameMap _ _).trans ⟨fun _ _ _ => rfl, rfl⟩
  · exact .rfl

theorem State.tileReady_mem : (s.tileReady b c d r).mem = s.mem := by
  rw [State.tileReady, State.watchNorm_mem, State.freeTile_mem, State.raiseFlags_mem]

theorem State.tileReady_sameMap : s.SameMap (s.tileReady b c d r) :=
  ((s.raiseFlags_sameMap _ _).trans (State.freeTile_sameMap ..)).trans (State.watchNorm_sameMap ..)

/-- Whatever its format, a tile handed on changes no input and no slot any more. -/
theorem State.quantTile_tiles (e : Int) (hd : d = descAt (s.armIn b r.arm) r.desc) :
    (s.quantTile b c r e).tiles = (s.tileReady b c d r).tiles := by
  subst hd
  unfold State.quantTile
  dsimp only
  split
  · split
    · split
      · exact (State.quantCopy_tiles ..).trans (State.quantScaled_tiles ..)
      · exact State.quantScaled_tiles ..
    · exact State.quantScaled_tiles ..
  · split
    · exact State.quantI16_tiles ..
    · exact State.quantPlain_tiles ..

theorem State.quantTile_plain (e : Int) (hd : d = descAt (s.armIn b r.arm) r.desc) (h3 : 3 < d.format) (hi : d.format ≠ fmtI16) :
    s.quantTile b c r e = (s.tileReady b c d r).quantPlain b c d r (s.tileValues (coreNo b c) d r) := by
  subst hd
  unfold State.quantTile
  dsimp only
  rw [if_neg (Nat.not_le.2 h3), if_neg hi]
  rfl

end Ready

/-- A plain tile's bytes stand in memory (R61 to R63). -/
theorem State.quantPlain_byte (s : State) (b : Bed) (c : Nat) (d : Desc) (r : Released) (x : List Nat) (hh : d.hint = 0)
    (hc : s.mem.cache = []) (hok : ∀ l ∈ spanLines (d.base + tileOf d r * d.tileBytes) (packPlain d x).1.length,
      s.faulty b.val false (64 * l) = false ∧ s.fenced (64 * l) = false) (a : Nat) :
    (s.quantPlain b.val c d r x).mem.byte a = overlay s.mem.byte (d.base + tileOf d r * d.tileBytes) (packPlain d x).1 a := by
  have hbed : (bedOf b.val).val = b.val := Nat.mod_eq_of_lt b.isLt
  have hadd : ∀ (u : State) (l : List Nat), (u.watchAdd b.val d l).mem = u.mem := fun u l => by
    unfold State.watchAdd
    split <;> rfl
  simp only [State.quantPlain, hadd, State.raiseFlags_mem, State.quantWrite]
  obtain ⟨hbyte, -, -⟩ := s.writeSpan_overlaid (engineReq (bedOf b.val) 2 d.hint (1 + Config.storeUses d.tensorId % 255)
    (d.base + tileOf d r * d.tileBytes)) (packPlain d x).1 (intFormat d && r.poisoned) (d.release && !(intFormat d && r.poisoned)) hc hh
    (by simpa [engineReq, hbed] using hok)
  exact hbyte a

/-! ### QUANTISE_TILE (R81, R247) -/

/-- The tile of a released entry stays its armature's while the partitions and the armatures stand. -/
theorem State.armIn_congr {s t : State} (h : s.SameMap t) (ha : t.arms = s.arms) (b : Nat) (slot : Option Nat) :
    t.armIn b slot = s.armIn b slot := by
  have hpart : t.partOf b = s.partOf b := by
    simp only [State.partOf, State.partSize, State.partCount, h.1 _ .PART_LOG2 (by decide)]
  unfold State.armIn State.fileOf State.armSlot
  rw [hpart, ha]

/-- A slip counted changes no armature and no partition. -/
theorem State.slip_armIn (s : State) (n k b : Nat) (slot : Option Nat) : (s.slip n k).armIn b slot = s.armIn b slot := by
  unfold State.slip
  split
  · rfl
  · exact State.armIn_congr (((State.SameMap.bump _ _ _ _ (by decide)).trans (.bump _ _ _ _ (by decide))).trans
      (.put _ _ _ _ (by decide))) rfl b slot

theorem State.setReleased_released (s : State) (n : Nat) (l : List Released) : (s.setReleased n l).cores.released.get n [] = l :=
  Tab.get_put_same ..

/-- The clock cycles that a gradient tile has waited for its exponent (R247). -/
def State.tileWait (s : State) (r : Released) : Nat := r.since.elim 0 fun t => (s.time.now - t) * s.get pgPower .FREQ_MHZ / 1000

/-- A tile that leaves the quantiser: the rest of the input stays, and its slots are free. -/
def State.TileGone (v : State) (n : Nat) (d : Desc) (r : Released) (rest : List Released) : Prop :=
  v.cores.released.get n [] = rest ∧ ∀ m i, r.slot = some m → i < slotsNeeded d → (v.slot n (m + i)).busy = false

theorem State.freeTile_gone {u : State} (n : Nat) (d : Desc) (r : Released) {rest : List Released} (hu : u.cores.released.get n [] = rest) :
    (u.freeTile n d r).TileGone n d r rest :=
  ⟨by rw [State.freeTile_released, hu], fun _ _ hm hi => u.freeTile_free n d r hm hi⟩

theorem State.quantTile_gone {u : State} (b c : Nat) {d : Desc} (r : Released) (e : Int) {rest : List Released}
    (hd : d = descAt (u.armIn b r.arm) r.desc) (hu : u.cores.released.get (coreNo b c) [] = rest) :
    (u.quantTile b c r e).TileGone (coreNo b c) d r rest := by
  have htiles := u.quantTile_tiles b c d r e hd
  refine ⟨by rw [State.tiles_released htiles, State.tileReady_released, hu], fun m i hm hi => ?_⟩
  rw [State.tiles_slot htiles]
  exact u.tileReady_free b c d r hm hi

section Quantise

variable {b : Bed} {c : Core} {s : State} {r : Released} {rest : List Released} {d : Desc}

/-- A stopped quantiser takes no tile (R31). -/
theorem exec_quantiseTile_halted (hh : s.halts (pgQuant b.val) = true) : exec (.quantiseTile b c) s = .next s := by
  have he : exec (.quantiseTile b c) s = execQuantiseTile b c s := rfl
  simp [he, execQuantiseTile, hh]

variable (ht : takeWhole (s.armIn b.val) (s.cores.released.get (coreNo b.val c.val) []) = some (r, rest))
  (hd : d = descAt (s.armIn b.val r.arm) r.desc) (hh : s.halts (pgQuant b.val) = false)
include ht hd hh

/-- A tile without an exponent is quantised at once. -/
theorem exec_quantiseTile_plain (hi : d.format ≠ fmtI16) :
    exec (.quantiseTile b c) s = .next ((s.setReleased (coreNo b.val c.val) rest).quantTile b.val c.val r 0) := by
  have he : exec (.quantiseTile b c) s = execQuantiseTile b c s := rfl
  subst hd
  simp only [he, execQuantiseTile, hh, Bool.false_eq_true, if_false, ht, hi]

/-- A gradient tile of no open bucket is dropped. -/
theorem exec_quantiseTile_noBucket (hi : d.format = fmtI16) (hk : s.bucketOf (s.partOf b.val) r.step r.desc = none) :
    exec (.quantiseTile b c) s = .next ((s.setReleased (coreNo b.val c.val) rest).freeTile (coreNo b.val c.val) d r) := by
  have he : exec (.quantiseTile b c) s = execQuantiseTile b c s := rfl
  subst hd
  simp only [he, execQuantiseTile, hh, Bool.false_eq_true, if_false, ht, hi, if_true, hk]
  rfl

/-- A gradient tile whose exponent is not known waits from then on (R247). -/
theorem exec_quantiseTile_waits (hi : d.format = fmtI16) {k : Nat} (hk : s.bucketOf (s.partOf b.val) r.step r.desc = some k)
    (hx : s.expReady (s.partOf b.val) k r.step (tileOf d r) = none) : exec (.quantiseTile b c) s =
    .next (s.setReleased (coreNo b.val c.val) ({ r with since := some (r.since.getD s.time.now) } :: rest)) := by
  have he : exec (.quantiseTile b c) s = execQuantiseTile b c s := rfl
  subst hd
  simp only [he, execQuantiseTile, hh, Bool.false_eq_true, if_false, ht, hi, if_true, hk, hx]

/-- A gradient tile whose exponent is known is converted, its wait counted as a slip (R247). -/
theorem exec_quantiseTile_ready (hi : d.format = fmtI16) {k : Nat} (hk : s.bucketOf (s.partOf b.val) r.step r.desc = some k) {e : Int}
    (hx : s.expReady (s.partOf b.val) k r.step (tileOf d r) = some e) : exec (.quantiseTile b c) s =
    .next (((s.slip (coreNo b.val c.val) (s.tileWait r)).setReleased (coreNo b.val c.val) rest).quantTile b.val c.val r e) := by
  have he : exec (.quantiseTile b c) s = execQuantiseTile b c s := rfl
  subst hd
  simp only [he, execQuantiseTile, hh, Bool.false_eq_true, if_false, ht, hi, if_true, hk, hx, State.tileWait]
  cases r.since <;> rfl

/-- A tile that need not wait leaves the quantiser. -/
theorem exec_quantiseTile_gone (h : d.format ≠ fmtI16 ∨ s.bucketOf (s.partOf b.val) r.step r.desc = none ∨
      ∃ k e, s.bucketOf (s.partOf b.val) r.step r.desc = some k ∧ s.expReady (s.partOf b.val) k r.step (tileOf d r) = some e) :
    ∃ v : State, exec (.quantiseTile b c) s = .next v ∧ v.TileGone (coreNo b.val c.val) d r rest := by
  by_cases hi : d.format = fmtI16
  · rcases h.resolve_left (not_not.2 hi) with hk | ⟨k, e, hk, hx⟩
    · exact ⟨_, exec_quantiseTile_noBucket ht hd hh hi hk, State.freeTile_gone _ _ _ (State.setReleased_released ..)⟩
    · have harm : ((s.slip (coreNo b.val c.val) (s.tileWait r)).setReleased (coreNo b.val c.val) rest).armIn b.val r.arm =
          s.armIn b.val r.arm := s.slip_armIn (coreNo b.val c.val) (s.tileWait r) b.val r.arm
      exact ⟨_, exec_quantiseTile_ready ht hd hh hi hk hx, State.quantTile_gone _ _ _ _ (by rw [harm, hd]) (State.setReleased_released ..)⟩
  · exact ⟨_, exec_quantiseTile_plain ht hd hh hi, State.quantTile_gone _ _ _ _ hd (State.setReleased_released ..)⟩

end Quantise

/-- Settles O44: the tile leaves by `State.TileGone`, and a plain one's bytes are `State.quantPlain_byte`'s. -/
theorem quantisedTiles : Obligations.QuantisedTiles := by
  unfold Obligations.QuantisedTiles
  intro b c s r rest d ht hd
  refine ⟨exec_quantiseTile_halted, fun hh => ⟨fun hready => ?_, fun hi k hk hx => exec_quantiseTile_waits ht hd hh hi hk hx⟩⟩
  obtain ⟨v, he, hrest, hfree⟩ := exec_quantiseTile_gone ht hd hh hready
  refine ⟨v, he, hrest, hfree, fun hi hk => ?_, fun h3 hi hhint hc hok a => ?_⟩
  · rw [exec_quantiseTile_noBucket ht hd hh hi hk] at he
    rw [← Host.Outcome.next.inj he, State.freeTile_mem]
    rfl
  · rw [exec_quantiseTile_plain ht hd hh hi] at he
    have hmap : s.SameMap ((s.setReleased (coreNo b.val c.val) rest).tileReady b.val c.val d r) :=
      State.SameMap.trans (t := s.setReleased (coreNo b.val c.val) rest) ⟨fun _ _ _ => rfl, rfl⟩ (State.tileReady_sameMap ..)
    have hmem : ((s.setReleased (coreNo b.val c.val) rest).tileReady b.val c.val d r).mem = s.mem := State.tileReady_mem ..
    have hplain := (s.setReleased (coreNo b.val c.val) rest).quantTile_plain b.val c.val d r 0 hd h3 hi
    rw [← Host.Outcome.next.inj he, hplain,
      State.quantPlain_byte _ b _ d r _ hhint (by rw [hmem, hc]) (fun l hl => by rw [hmap.faulty, hmap.fenced]; exact hok l hl) a, hmem]
    rfl

end Sys2Proof.Machine
end

section
/-! PROOFS. Settles F4Rounding (O7): the exact fractions are compared as rationals, and the magnitude's code lies between the midpoints to its neighbours in the table. -/

namespace Sys2Proof.Machine

/-! ### Exact fractions as rationals -/

/-- The rational that a fraction stands for. -/
def Q.toRat (x : Q) : ℚ := x.num / x.den

section Fractions

variable {a b : Q} (ha : 0 < a.den) (hb : 0 < b.den)

theorem Q.toRat_abs (a : Q) : a.abs.toRat = |a.toRat| := by simp [Q.toRat, Q.abs, abs_div]

theorem Q.slim_den_pos (ha : 0 < a.den) : 0 < a.slim.den := by
  have hg : Nat.gcd a.num.natAbs a.den ≠ 0 := (Nat.gcd_pos_of_pos_right _ ha).ne'
  simp only [Q.slim, if_neg hg]
  exact Nat.div_pos (Nat.le_of_dvd ha (Nat.gcd_dvd_right ..)) (Nat.pos_of_ne_zero hg)

/-- Common factors taken out leave the value. -/
theorem Q.toRat_slim (ha : 0 < a.den) : a.slim.toRat = a.toRat := by
  have hg : Nat.gcd a.num.natAbs a.den ≠ 0 := (Nat.gcd_pos_of_pos_right _ ha).ne'
  have hnum : ((Nat.gcd a.num.natAbs a.den : ℕ) : ℤ) ∣ a.num := Int.natCast_dvd.2 (Nat.gcd_dvd_left ..)
  simp only [Q.slim, if_neg hg, Q.toRat]
  rw [Int.cast_div hnum (by exact_mod_cast hg), Nat.cast_div (Nat.gcd_dvd_right ..) (by exact_mod_cast hg)]
  exact div_div_div_cancel_right₀ (by exact_mod_cast hg) _ _

include ha hb

theorem Q.le_iff : Q.le a b = true ↔ a.toRat ≤ b.toRat := by
  have ha' : (0 : ℚ) < a.den := by exact_mod_cast ha
  have hb' : (0 : ℚ) < b.den := by exact_mod_cast hb
  rw [Q.le, decide_eq_true_iff, Q.toRat, Q.toRat, div_le_div_iff₀ ha' hb']
  exact_mod_cast Iff.rfl

theorem Q.lt_iff : Q.lt a b = true ↔ a.toRat < b.toRat := by
  have ha' : (0 : ℚ) < a.den := by exact_mod_cast ha
  have hb' : (0 : ℚ) < b.den := by exact_mod_cast hb
  rw [Q.lt, decide_eq_true_iff, Q.toRat, Q.toRat, div_lt_div_iff₀ ha' hb']
  exact_mod_cast Iff.rfl

theorem Q.sub_den_pos : 0 < (Q.sub a b).den := Q.slim_den_pos (Nat.mul_pos ha hb)

theorem Q.toRat_sub : (Q.sub a b).toRat = a.toRat - b.toRat := by
  have ha' : (a.den : ℚ) ≠ 0 := by exact_mod_cast ha.ne'
  have hb' : (b.den : ℚ) ≠ 0 := by exact_mod_cast hb.ne'
  rw [Q.sub, Q.add, Q.toRat_slim (Nat.mul_pos ha hb)]
  simp only [Q.toRat, Q.neg]
  push_cast
  field_simp
  ring

/-- The distance of two fractions, compared exactly. -/
theorem Q.le_distance {c : Q} (hc : 0 < c.den) :
    Q.le (Q.sub a b).abs (Q.sub a c).abs = true ↔ |a.toRat - b.toRat| ≤ |a.toRat - c.toRat| := by
  rw [Q.le_iff (a := (Q.sub a b).abs) (b := (Q.sub a c).abs) (Q.sub_den_pos ha hb) (Q.sub_den_pos ha hc), Q.toRat_abs, Q.toRat_abs, Q.toRat_sub ha hb, Q.toRat_sub ha hc]

end Fractions

/-! ### The table of F4 (R44, R45) -/

/-- The magnitude of an F4 code. -/
def f4Size (c : Nat) : ℚ := (f4Halves (c % 8) : ℚ) / 2

theorem toRat_f4Val (c : Nat) : (f4Val c).toRat = f4Size c * (if c % 16 < 8 then 1 else -1) := by
  simp only [Q.toRat, f4Val, f4Size]
  split <;> push_cast <;> ring

theorem f4Size_nonneg (c : Nat) : 0 ≤ f4Size c := by unfold f4Size; positivity

/-- A magnitude rounds to code c: it lies between the midpoints from c to the other codes, on a midpoint only where bit 0 of c is 0. -/
def RoundsF4 (x : ℚ) (c : Nat) : Prop :=
  ∀ k < 8, (f4Size k < f4Size c → f4Size k + f4Size c ≤ 2 * x ∧ (2 * x = f4Size k + f4Size c → c % 2 = 0)) ∧
    (f4Size c < f4Size k → 2 * x ≤ f4Size k + f4Size c ∧ (2 * x = f4Size k + f4Size c → c % 2 = 0))

theorem isZero_f4Val {c : Nat} : (f4Val c).isZero = true ↔ c % 8 = 0 := by
  have htable : ∀ k < 8, f4Halves k = 0 ↔ k = 0 := by decide
  rw [← htable (c % 8) (Nat.mod_lt _ (by decide))]
  simp only [Q.isZero, f4Val]
  split <;> simp

theorem f4Size_mono {j k : Nat} (h : j ≤ k) (hk : k < 8) : f4Size j ≤ f4Size k := by
  have htable : ∀ k < 8, ∀ j ≤ k, f4Halves (j % 8) ≤ f4Halves (k % 8) := by decide
  unfold f4Size
  gcongr
  exact htable k hk j h

theorem f4Size_inj {j k : Nat} (hj : j < 8) (hk : k < 8) (h : f4Size j = f4Size k) : j = k := by
  have htable : ∀ k < 8, ∀ j < 8, f4Halves (j % 8) = f4Halves (k % 8) → j = k := by decide
  unfold f4Size at h
  exact htable k hk j hj (by exact_mod_cast (div_left_inj' two_ne_zero).1 h)

/-- The table ascends, so that the midpoints to the two neighbours decide. -/
theorem roundsF4_of_neighbours {x : ℚ} {c : Nat} (hc : c < 8)
    (hlow : 0 < c → f4Size (c - 1) + f4Size c ≤ 2 * x ∧ (2 * x = f4Size (c - 1) + f4Size c → c % 2 = 0))
    (hhigh : c < 7 → 2 * x ≤ f4Size (c + 1) + f4Size c ∧ (2 * x = f4Size (c + 1) + f4Size c → c % 2 = 0)) : RoundsF4 x c := by
  refine fun k hk => ⟨fun h => ?_, fun h => ?_⟩
  · have hkc : k < c := not_le.1 fun hle => h.not_ge (f4Size_mono hle hk)
    have hmono : f4Size k ≤ f4Size (c - 1) := f4Size_mono (by omega) (by omega)
    obtain ⟨hmid, htie⟩ := hlow (by omega)
    exact ⟨by linarith, fun he => htie (by linarith)⟩
  · have hck : c < k := not_le.1 fun hle => h.not_ge (f4Size_mono hle hc)
    have hmono : f4Size (c + 1) ≤ f4Size k := f4Size_mono (by omega) hk
    obtain ⟨hmid, htie⟩ := hhigh (by omega)
    exact ⟨by linarith, fun he => htie (by linarith)⟩

/-- The thresholds of R45 are the midpoints of the table. -/
theorem f4Mag_rounds (m : Q) (hm : 0 < m.den) : (f4Mag m).1 < 8 ∧ RoundsF4 m.toRat (f4Mag m).1 := by
  have hle : ∀ (n d : Nat), 0 < d → (Q.le m ⟨n, d⟩ = true ↔ m.toRat ≤ (n : ℚ) / d) := fun n d hd => by
    rw [Q.le_iff hm hd]; simp [Q.toRat]
  have hlt : ∀ (n d : Nat), 0 < d → (Q.lt m ⟨n, d⟩ = true ↔ m.toRat < (n : ℚ) / d) := fun n d hd => by
    rw [Q.lt_iff hm hd]; simp [Q.toRat]
  simp only [f4Mag, hle, hlt, Nat.zero_lt_succ]
  norm_num only
  split_ifs <;> refine ⟨by norm_num, roundsF4_of_neighbours (by norm_num) ?_ ?_⟩ <;> norm_num [f4Size, f4Halves] <;> grind

theorem Q.six_lt_iff {m : Q} (hm : 0 < m.den) : Q.lt ⟨6, 1⟩ m = true ↔ 6 < m.toRat := by
  rw [Q.lt_iff (by decide) hm]
  norm_num [Q.toRat]

/-- A magnitude saturates exactly where it is above 6, and is then the table's greatest (R45). -/
theorem f4Mag_sat (m : Q) (hm : 0 < m.den) : ((f4Mag m).2 = true ↔ Q.lt ⟨6, 1⟩ m = true) ∧ (Q.lt ⟨6, 1⟩ m = true → (f4Mag m).1 = 7) := by
  by_cases h : (f4Mag m).1 = 7
  · refine ⟨?_, fun _ => h⟩
    unfold f4Mag at h ⊢
    dsimp only at h ⊢
    split_ifs at h ⊢ <;> simp_all
  · have hsmall : (f4Mag m).2 = false := by
      unfold f4Mag at h ⊢
      dsimp only at h ⊢
      split_ifs at h ⊢ <;> simp_all
    obtain ⟨hc, hround⟩ := f4Mag_rounds m hm
    have hfour : f4Size (f4Mag m).1 ≤ 4 := (f4Size_mono (k := 6) (by omega) (by decide)).trans (by norm_num [f4Size, f4Halves])
    have hmax : f4Size 7 = 6 := by norm_num [f4Size, f4Halves]
    have hmid := ((hround 7 (by decide)).2 (by linarith)).1
    have hnot : ¬Q.lt ⟨6, 1⟩ m = true := fun hlt => by linarith [(Q.six_lt_iff hm).1 hlt]
    exact ⟨by simp [hsmall, hnot], fun hlt => absurd hlt hnot⟩

/-- The code that a magnitude rounds to is the nearest, and where another value is as near, its bit 0 is 0. -/
theorem RoundsF4.nearest {x : ℚ} {c k : Nat} (h : RoundsF4 x c) (hk : k < 8) : |x - f4Size c| ≤ |x - f4Size k| ∧
    (|x - f4Size k| = |x - f4Size c| → f4Size k ≠ f4Size c → c % 2 = 0) := by
  obtain ⟨hlow, hhigh⟩ := h k hk
  rcases lt_trichotomy (f4Size k) (f4Size c) with hlt | heq | hgt
  · obtain ⟨hmid, htie⟩ := hlow hlt
    have hnear : |x - f4Size c| ≤ x - f4Size k := abs_le.2 ⟨by linarith, by linarith⟩
    refine ⟨hnear.trans (le_abs_self _), fun he _ => htie ?_⟩
    rcases abs_eq_abs.1 he with h | h <;> linarith
  · exact ⟨by rw [heq], fun _ hne => absurd heq hne⟩
  · obtain ⟨hmid, htie⟩ := hhigh hgt
    have hnear : |x - f4Size c| ≤ -(x - f4Size k) := abs_le.2 ⟨by linarith, by linarith⟩
    refine ⟨hnear.trans (neg_le_abs _), fun he _ => htie ?_⟩
    rcases abs_eq_abs.1 he with h | h <;> linarith

/-! ### A signed quotient (R45) -/

theorem Q.isNeg_iff {y : Q} (hy : 0 < y.den) : y.isNeg = true ↔ y.toRat < 0 := by
  have hd : (0 : ℚ) < y.den := by exact_mod_cast hy
  rw [Q.isNeg, decide_eq_true_iff, Q.toRat, div_lt_iff₀ hd, zero_mul]
  exact_mod_cast Iff.rfl

theorem f4Size_eq_zero {c : Nat} : f4Size c = 0 ↔ c % 8 = 0 := by
  have htable : ∀ k < 8, f4Halves k = 0 ↔ k = 0 := by decide
  rw [← htable (c % 8) (Nat.mod_lt _ (by decide)), f4Size]
  simp

/-- An F4 code of 16: its magnitude, and its sign unless it is zero (R44, R45). -/
theorem f4Enc_fst (y : Q) : (f4Enc y).1 = if (f4Mag y.abs).1 = 0 then 0 else (f4Mag y.abs).1 + if y.isNeg then 8 else 0 := rfl

theorem f4Size_mod (c : Nat) : f4Size (c % 8) = f4Size c := by rw [f4Size, Nat.mod_mod, f4Size]

section Encode

variable {y : Q} (hy : 0 < y.den)
include hy

theorem f4Enc_mag : (f4Enc y).1 < 16 ∧ (f4Enc y).1 ≠ 8 ∧ (f4Enc y).1 % 8 = (f4Mag y.abs).1 := by
  have hc := (f4Mag_rounds y.abs hy).1
  rw [f4Enc_fst]
  split_ifs <;> omega

/-- The code has the quotient's sign and the magnitude's value. -/
theorem toRat_f4Enc : (f4Val (f4Enc y).1).toRat = if y.isNeg then -f4Size (f4Mag y.abs).1 else f4Size (f4Mag y.abs).1 := by
  obtain ⟨-, -, hmag⟩ := f4Enc_mag hy
  have hc := (f4Mag_rounds y.abs hy).1
  rw [toRat_f4Val, ← f4Size_mod, hmag, f4Enc_fst]
  by_cases h0 : (f4Mag y.abs).1 = 0
  · simp [h0, f4Size_eq_zero.2]
  · cases y.isNeg
    · have hpos : (f4Mag y.abs).1 % 16 < 8 := by omega
      simp [h0, hpos]
    · have hneg : ¬((f4Mag y.abs).1 + 8) % 16 < 8 := by omega
      simp [h0, hneg]

/-- The distance to the code's value is that of the magnitudes. -/
theorem distance_f4Enc : |y.toRat - (f4Val (f4Enc y).1).toRat| = |y.abs.toRat - f4Size (f4Mag y.abs).1| := by
  rw [toRat_f4Enc hy, Q.toRat_abs]
  by_cases hn : y.isNeg = true
  · rw [if_pos hn, abs_of_neg ((Q.isNeg_iff hy).1 hn), ← abs_neg]
    congr 1
    ring
  · rw [if_neg hn, abs_of_nonneg (not_lt.1 fun h => hn ((Q.isNeg_iff hy).2 h))]

omit hy in
/-- The distance to a code's value is at least that of the magnitudes. -/
theorem distance_f4Val (k : Nat) : |y.abs.toRat - f4Size (k % 8)| ≤ |y.toRat - (f4Val k).toRat| := by
  have hsize : |(f4Val k).toRat| = f4Size k := by
    rw [toRat_f4Val, abs_mul, abs_of_nonneg (f4Size_nonneg k)]
    split <;> simp
  rw [f4Size_mod, ← hsize, Q.toRat_abs]
  exact abs_abs_sub_abs_le _ _

/-- The code is the nearest of the table. -/
theorem f4Enc_nearest (k : Nat) : |y.toRat - (f4Val (f4Enc y).1).toRat| ≤ |y.toRat - (f4Val k).toRat| := by
  obtain ⟨-, hround⟩ := f4Mag_rounds y.abs hy
  rw [distance_f4Enc hy]
  exact (hround.nearest (Nat.mod_lt _ (by decide))).1.trans (distance_f4Val k)

/-- A code other than zero has a value of the quotient's sign. -/
theorem f4Enc_sameSign (h0 : (f4Mag y.abs).1 ≠ 0) : 0 < y.toRat * (f4Val (f4Enc y).1).toRat := by
  obtain ⟨hc, hround⟩ := f4Mag_rounds y.abs hy
  have hsize : 0 < f4Size (f4Mag y.abs).1 := (f4Size_nonneg _).lt_of_ne fun h => h0 (by have := f4Size_eq_zero.1 h.symm; omega)
  have hzero : f4Size 0 = 0 := f4Size_eq_zero.2 rfl
  have hmid := ((hround 0 (by decide)).1 (by linarith)).1
  have habs : 0 < |y.toRat| := by rw [Q.toRat_abs] at hmid; linarith
  rw [toRat_f4Enc hy]
  by_cases hn : y.isNeg = true
  · rw [abs_of_neg ((Q.isNeg_iff hy).1 hn)] at habs
    rw [if_pos hn]
    exact mul_pos_of_neg_of_neg (by linarith) (by linarith)
  · rw [abs_of_nonneg (not_lt.1 fun h => hn ((Q.isNeg_iff hy).2 h))] at habs
    rw [if_neg hn]
    exact mul_pos habs hsize

/-- Where another code's value is as near, bit 0 is 0. -/
theorem f4Enc_tie {k : Nat} (hk : k < 16) (_h8 : k ≠ 8) (hne : k ≠ (f4Enc y).1)
    (hnear : |y.toRat - (f4Val k).toRat| ≤ |y.toRat - (f4Val (f4Enc y).1).toRat|) : (f4Enc y).1 % 2 = 0 := by
  obtain ⟨hc, hround⟩ := f4Mag_rounds y.abs hy
  obtain ⟨hlt, -, hmag⟩ := f4Enc_mag hy
  obtain ⟨hmin, htie⟩ := hround.nearest (Nat.mod_lt k (by decide : 0 < 8))
  have hsame : |y.abs.toRat - f4Size (k % 8)| = |y.abs.toRat - f4Size (f4Mag y.abs).1| :=
    le_antisymm ((distance_f4Val k).trans (hnear.trans (distance_f4Enc hy).le)) hmin
  by_cases hsize : f4Size (k % 8) = f4Size (f4Mag y.abs).1
  · by_cases h0 : (f4Mag y.abs).1 = 0
    · omega
    have hkmag : k % 8 = (f4Mag y.abs).1 := f4Size_inj (Nat.mod_lt _ (by decide)) hc hsize
    have hsign : k % 16 < 8 ↔ ¬(f4Enc y).1 % 16 < 8 := by omega
    have hopp : (f4Val k).toRat = -(f4Val (f4Enc y).1).toRat := by
      rw [toRat_f4Val, toRat_f4Val, ← f4Size_mod, ← f4Size_mod (f4Enc y).1, hkmag, hmag]
      by_cases hp : (f4Enc y).1 % 16 < 8 <;> simp [hsign, hp]
    have hpos := f4Enc_sameSign hy h0
    have hsq := sq_le_sq.2 hnear
    rw [hopp] at hsq
    linarith
  · have := htie hsame hsize
    omega

end Encode

/-- Settles O7: an element is encoded from its quotient, and the code of a quotient is the nearest of the table. -/
theorem f4Rounding : Obligations.F4Rounding := by
  unfold Obligations.F4Rounding
  refine ⟨fun s x rnd hs => by simp [encodeElem, hs], fun y hy => ?_⟩
  obtain ⟨hlt, h8, hmag⟩ := f4Enc_mag hy
  obtain ⟨hsat, hmax⟩ := f4Mag_sat y.abs hy
  have hval : ∀ k, 0 < (f4Val k).den := fun _ => Nat.zero_lt_two
  have htop : 6 < |y.toRat| → (f4Enc y).1 = 7 + if y.isNeg then 8 else 0 := fun h => by
    rw [f4Enc_fst, hmax ((Q.six_lt_iff (m := y.abs) hy).2 (by rwa [Q.toRat_abs])), if_neg (by decide)]
  refine ⟨hlt, h8, fun k _ _ => ?_, fun k hk hesc hnear hne => ?_, fun hz => ?_, hsat, fun h => ?_, fun h => ?_⟩
  · rw [Q.le_distance hy (hval _) (hval _)]
    exact f4Enc_nearest hy k
  · rw [Q.le_distance hy (hval _) (hval _)] at hnear
    exact f4Enc_tie hy hk hesc hne hnear
  · have hzero := isZero_f4Val.1 hz
    omega
  · have hpos := (Q.six_lt_iff hy).1 h
    rw [htop (lt_abs.2 (.inl hpos)), if_neg fun hn => by linarith [(Q.isNeg_iff hy).1 hn]]
  · have hneg : y.toRat < -6 := by
      rw [Q.lt_iff hy (by decide)] at h
      norm_num [Q.toRat] at h ⊢
      exact h
    rw [htop (lt_abs.2 (.inr (by linarith))), if_pos ((Q.isNeg_iff hy).2 (by linarith))]

end Sys2Proof.Machine
end

section
/-! PROOFS. Settles PartInputs (O58): a REDUCE packet of a gradient bucket is judged once, and an input that is taken waits with its part while this member's own is still to come. -/

namespace Sys2Proof.Machine

/-! ### Parts (R250) -/

@[simp] theorem State.setPartAt_partAt (s : State) (k : PartKey) (x : OpenPart) : (s.setPartAt k x).partAt k = x :=
  Tab.get_put_same ..

theorem State.partAt_of_red {s t : State} (h : t.red = s.red) (k : PartKey) : t.partAt k = s.partAt k := by
  rw [State.partAt, h, State.partAt]

/-- A node whose own part is still to come sends nothing on. -/
theorem State.sendOnWhole_waits (s : State) (k : PartKey) (o : OpenStep) (t : Tree) (rank : Nat) (h : (s.partAt k).own = false) :
    s.sendOnWhole k o t rank = s := by
  simp [State.sendOnWhole, h]

/-! ### REDUCE packets of a gradient bucket (R250, R251, R253) -/

/-- A REDUCE packet of a gradient bucket that the receiver's checks let through. -/
theorem exec_reduceReceive_part {p : Port} {k m : Packet} {s u : State} (hty : k.type = tyReduce) (hin : s.takeIn p.val k = (u, some m))
    (hb : tfAt m 28 2 < vPrecision) : exec (.reduceReceive p k) s = .next (u.reduceIn p.val (u.portPart p.val) m) := by
  have he : exec (.reduceReceive p k) s = execReduceReceive p k s := rfl
  rw [he, execReduceReceive, State.consume, if_neg (not_not.2 hty), hin]
  simp only [if_neg (Nat.not_le.2 hb)]

theorem State.reduceIn_noKey {s : State} {port q : Nat} {k : Packet} (h : s.packetKey q k = none) :
    s.reduceIn port q k = s.redCount (pgRed port) .BAD_PKT 3 := by
  simp only [State.reduceIn, h]

section Named

variable {s : State} {port q r : Nat} {k : Packet} {key : PartKey} {o : OpenStep} (hk : s.packetKey q k = some (key, o))
  (hr : rankOf (gradTree o (bucketAt o.file key.bucket) key.tile) (s.selfIn o.members) = some r)
include hk hr

/-- A packet that is no input of the part: wrong, of no child, or of one already heard. -/
theorem State.reduceIn_bad (h : widthBad k = true ∨ s.expBad key k = true ∨
      (childIds (gradTree o (bucketAt o.file key.bucket) key.tile) r).contains k.src = false ∨ (s.partAt key).from_.contains k.src = true) :
    s.reduceIn port q k = s.redCount (pgRed port) .BAD_PKT 3 := by
  have hbad : (widthBad k || !(childIds (gradTree o (bucketAt o.file key.bucket) key.tile) r).contains k.src ||
      (s.partAt key).from_.contains k.src || s.expBad key k) = true := by
    rcases h with h | h | h | h <;> simp only [h, Bool.or_true, Bool.true_or, Bool.not_false]
  simp only [State.reduceIn, hk, hr, if_pos hbad]

variable (hw : widthBad k = false) (he : s.expBad key k = false)
  (hc : (childIds (gradTree o (bucketAt o.file key.bucket) key.tile) r).contains k.src = true)
  (hf : (s.partAt key).from_.contains k.src = false)
include hw he hc hf

theorem State.reduceIn_late (hsent : (s.partAt key).sentOn = true) : s.reduceIn port q k = s.redCount (pgRed port) .LATE 0 := by
  simp only [State.reduceIn, hk, hr, hw, he, hc, hf, hsent, Bool.not_true, Bool.or_false, Bool.false_eq_true, if_false, if_true]

variable (hsent : (s.partAt key).sentOn = false)
include hsent

theorem State.reduceIn_full (hfull : s.storeFull (s.partAt key).own (!(s.partAt key).from_.isEmpty) = true) :
    s.reduceIn port q k = s.redCount (pgRed port) .STORE_FULL 2 := by
  simp only [State.reduceIn, hk, hr, hw, he, hc, hf, hsent, hfull, Bool.not_true, Bool.or_false, Bool.false_eq_true, if_false, if_true]

variable (hfull : s.storeFull (s.partAt key).own (!(s.partAt key).from_.isEmpty) = false) (hown : (s.partAt key).own = false)
include hfull hown

/-- An input with a sum is added, counted, and waits for this member's own part. -/
theorem State.reduceIn_adds (hp : k.poison = false) : s.reduceIn port q k =
    ((s.takeSums (bits (tfAt k 34 1) 0 2) (partElems (descAt o.file (bucketAt o.file key.bucket).src) key.piece) k.payload).1.setPartAt key
      ({ s.partAt key with from_ := k.src :: (s.partAt key).from_ }.add
        ((unpackSums (bits (tfAt k 34 1) 0 2) (partElems (descAt o.file (bucketAt o.file key.bucket).src) key.piece) k.payload).map
          (readQ (bits (tfAt k 34 1) 0 2)))
        (tfAt k 36 3) (tfAt k 40 8) (bitAt (tfAt k 34 1) 4))).bump (pgRed port) .RX_PARTS := by
  simp only [State.reduceIn, hk, hr, hw, he, hc, hf, hsent, hfull, hp, Bool.not_true, Bool.not_false, Bool.or_false, Bool.false_eq_true,
    if_false, if_true]
  refine State.sendOnWhole_waits _ _ _ _ _ ?_
  rw [State.partAt_of_red (State.bump_red ..), State.setPartAt_partAt]
  exact hown

/-- A poisoned input is dropped or poisons the part, and waits for this member's own part. -/
theorem State.reduceIn_poisoned (hp : k.poison = true) : (s.reduceIn port q k).partAt key = { s.partAt key with
    from_ := k.src :: (s.partAt key).from_, poisoned := (s.partAt key).poisoned || !(bucketAt o.file key.bucket).drop } := by
  simp only [State.reduceIn, hk, hr, hw, he, hc, hf, hsent, hfull, hp, Bool.not_true, Bool.or_false, Bool.false_eq_true, if_false]
  cases hd : (bucketAt o.file key.bucket).drop with
  | true =>
    have hpart : ∀ x : OpenPart, ((s.setPartAt key x).redCount (pgRed port) .POISON_DROP 1).partAt key = x := fun x => by
      rw [State.partAt_of_red (t := State.redCount ..) (State.raise_red ..)]
      exact s.setPartAt_partAt key x
    rw [if_pos rfl, State.sendOnWhole_waits _ _ _ _ _ (by rw [hpart]; exact hown), hpart]
    simp
  | false =>
    rw [if_neg Bool.false_ne_true, State.sendOnWhole_waits _ _ _ _ _ (by rw [State.setPartAt_partAt]; exact hown),
      State.setPartAt_partAt]
    simp

end Named

/-- A poisoned packet has no EXP to be wrong (R253). -/
theorem State.expBad_poisoned (s : State) (key : PartKey) {k : Packet} (h : k.poison = true) : s.expBad key k = false := by
  simp [State.expBad, h]

/-- The first input of a part finds the store full with all its entries taken (R251). -/
theorem State.storeFull_first {s : State} {x : OpenPart} (hown : x.own = false) (hf : x.from_ = []) (h : 4915 ≤ s.storeEntries) :
    s.storeFull x.own (!x.from_.isEmpty) = true := by
  simpa [State.storeFull, hown, hf, b2n, storeLimit] using h

/-- Settles O58: each clause is what `State.reduceIn` does with such a packet. -/
theorem partInputs : Obligations.PartInputs := by
  unfold Obligations.PartInputs
  refine ⟨?added, ?poisoned, ?noKey, ?bad, ?late, ?full⟩
  case added =>
    intro p k m s u key o r hty hin hb hk hr hw he hp hsent hfull hc hf hown
    refine ⟨_, exec_reduceReceive_part hty hin hb, ?_⟩
    rw [State.reduceIn_adds hk hr hw he hc hf hsent hfull hown hp]
    refine ⟨?_, ?_, rfl, rfl⟩
    · rw [State.partAt_of_red (State.bump_red ..), State.setPartAt_partAt]
      rfl
    · exact State.get_bump_same ..
  case poisoned =>
    intro p k m s u key o r hty hin hb hk hr hw hp hsent hfull hc hf hown
    exact ⟨_, exec_reduceReceive_part hty hin hb,
      State.reduceIn_poisoned hk hr hw (u.expBad_poisoned key hp) hc hf hsent hfull hown hp⟩
  case noKey =>
    intro p k m s u hty hin hb hk
    rw [exec_reduceReceive_part hty hin hb, State.reduceIn_noKey hk, State.redCount]
  case bad =>
    intro p k m s u key o r hty hin hb hk hr h
    rw [exec_reduceReceive_part hty hin hb, State.reduceIn_bad hk hr h, State.redCount]
  case late =>
    intro p k m s u key o r hty hin hb hk hr hw he hc hf hsent
    rw [exec_reduceReceive_part hty hin hb, State.reduceIn_late hk hr hw he hc hf hsent, State.redCount]
  case full =>
    intro p k m s u key o r hty hin hb hk hr hw he hc hsent hown hf hentries
    rw [exec_reduceReceive_part hty hin hb, State.reduceIn_full hk hr hw he hc (by simp [hf]) hsent (State.storeFull_first hown hf hentries),
      State.redCount]

end Sys2Proof.Machine
end

section
/-! PROOFS. Settles ScaledTiles (O45): a block-scaled tile under BLOCK_MAX is two spans put over memory, its blocks and then its side list. -/

namespace Sys2Proof.Machine

/-! ### What a tile's counts and events leave of memory (R97, R98, R105, R107) -/

section Watches

variable (s : State)

theorem State.watchAmax_mem (b : Nat) (d : Desc) (x : List Nat) : (s.watchAmax b d x).mem = s.mem := by
  simp only [State.watchAmax]
  split <;> rfl

theorem State.watchAmax_sameMap (b : Nat) (d : Desc) (x : List Nat) : s.SameMap (s.watchAmax b d x) := by
  simp only [State.watchAmax]
  split <;> exact ⟨fun _ _ _ => rfl, rfl⟩

theorem State.watchAdd_mem (b : Nat) (d : Desc) (l : List Nat) : (s.watchAdd b d l).mem = s.mem := by
  unfold State.watchAdd
  split <;> rfl

theorem State.quantEvt_mem (b : Nat) (d : Desc) (step bit : Nat) (on : Bool) : (s.quantEvt b d step bit on).mem = s.mem := by
  simp only [State.quantEvt, State.onceDo]
  split
  · rfl
  · split
    · split <;> simp
    · rfl

end Watches

/-! ### A block-scaled tile's bytes (R50 to R54, R84) -/

/-- A quantiser's write past an empty cache. -/
theorem State.quantWrite_overlaid (s : State) (b : Bed) (d : Desc) (addr : Nat) (data : List Byte) (p : Bool) (hh : d.hint = 0)
    (hc : s.mem.cache = []) (hok : ∀ l ∈ spanLines addr data.length, s.faulty b.val false (64 * l) = false ∧ s.fenced (64 * l) = false) :
    s.Overlaid addr data (s.quantWrite b.val d addr data p) := by
  have hbed : (bedOf b.val).val = b.val := Nat.mod_eq_of_lt b.isLt
  exact s.writeSpan_overlaid (engineReq (bedOf b.val) 2 d.hint (1 + Config.storeUses d.tensorId % 255) addr) data p _ hc hh
    (by simpa [engineReq, hbed] using hok)

theorem length_packSide (l : List (Nat × Nat)) : (packSide l).length = 512 := by
  rw [packSide, List.length_flatMap, List.map_congr_left (g := fun _ => 4) fun i _ => by split <;> rfl]
  simp

/-- A tile's blocks under BLOCK_MAX, in ascending order (R93 to R96). -/
def scaledBlocks (d : Desc) (r : Released) (x : List Nat) (tee : Nat) : List QBlock :=
  quantBlocks d none (d.padding r.tileRow r.tileCol)
    (fun k => srBits (srHash d.seed r.step d.tensorId (srIndex (d.element r.tileRow r.tileCol k) 2 0))) 0 0
    (chunks d.blockSize ((rotateTile d x).map fun v => divF v tee))

/-- The tile's blocks put over memory, then its side list where the descriptor asks for escapes. -/
def State.scaledWrites (s : State) (b : Nat) (d : Desc) (r : Released) (bs : List QBlock) : State :=
  let t := s.quantWrite b d (d.base + tileOf d r * d.tileBytes) (packBlocks d bs) false
  if d.escMult = 0 || 1 < d.format then t else t.quantWrite b d (d.side + 512 * tileOf d r) (packSide (sideOf d.blockSize bs)) false

/-- Under BLOCK_MAX the quantiser reads and writes no calibration entry. -/
theorem State.quantScaled_mem (s : State) (b c : Nat) (d : Desc) (r : Released) (x : List Nat) (tee : Nat) (hp : d.policy = 0) :
    (s.quantScaled b c d r x tee).mem = ((s.watchAmax b d (rotateTile d x)).scaledWrites b d r (scaledBlocks d r x tee)).mem := by
  simp only [State.quantScaled, State.quantEvt_mem, State.watchAdd_mem, State.raiseFlags_mem, hp, if_true, calScale]
  rfl

/-- The bytes that the two writes leave. -/
theorem State.scaledWrites_byte (s : State) (b : Bed) (d : Desc) (r : Released) (bs : List QBlock) (hh : d.hint = 0)
    (hc : s.mem.cache = [])
    (htile : ∀ l ∈ spanLines (d.base + tileOf d r * d.tileBytes) (packBlocks d bs).length,
      s.faulty b.val false (64 * l) = false ∧ s.fenced (64 * l) = false)
    (hside : d.escMult ≠ 0 → d.format ≤ 1 → ∀ l ∈ spanLines (d.side + 512 * tileOf d r) 512,
      s.faulty b.val false (64 * l) = false ∧ s.fenced (64 * l) = false) (a : Nat) :
    (s.scaledWrites b.val d r bs).mem.byte a =
      if d.escMult ≠ 0 ∧ d.format ≤ 1 ∧ d.side + 512 * tileOf d r ≤ a ∧ a < d.side + 512 * tileOf d r + 512 then
        (packSide (sideOf d.blockSize bs))[a - (d.side + 512 * tileOf d r)]?.getD 0
      else overlay s.mem.byte (d.base + tileOf d r * d.tileBytes) (packBlocks d bs) a := by
  obtain ⟨hbyte, hcache, hmap⟩ := s.quantWrite_overlaid b d _ (packBlocks d bs) false hh hc htile
  unfold State.scaledWrites
  by_cases he : d.escMult ≠ 0 ∧ d.format ≤ 1
  · obtain ⟨hesc, hfmt⟩ := he
    have hlen := length_packSide (sideOf d.blockSize bs)
    obtain ⟨hsbyte, -, -⟩ := State.quantWrite_overlaid _ b d (d.side + 512 * tileOf d r) (packSide (sideOf d.blockSize bs)) false hh hcache
      fun l hl => by
        rw [hlen] at hl
        rw [hmap.faulty, hmap.fenced]
        exact hside hesc hfmt l hl
    rw [if_neg (by simp [hesc, hfmt]), hsbyte]
    by_cases hin : d.side + 512 * tileOf d r ≤ a ∧ a < d.side + 512 * tileOf d r + 512
    · have hlt : a - (d.side + 512 * tileOf d r) < (packSide (sideOf d.blockSize bs)).length := by omega
      rw [overlay_in _ hin.1 hlt, if_pos ⟨hesc, hfmt, hin⟩, List.getElem?_eq_getElem hlt]
      rfl
    · rw [overlay_out _ (by omega), hbyte, if_neg fun h => hin h.2.2]
  · rw [if_pos (by simp; omega), hbyte, if_neg fun h => he ⟨h.1, h.2.1⟩]

/-- A block-scaled tile without a second blocking is quantised once (R109). -/
theorem State.quantTile_scaled (s : State) (b c : Nat) (d : Desc) (r : Released) (e : Int) (hd : d = descAt (s.armIn b r.arm) r.desc)
    (h3 : d.format ≤ 3) (hone : secondCopy (s.armIn b r.arm) r.desc = none ∨ r.slot = none) :
    s.quantTile b c r e = (s.tileReady b c d r).quantScaled b c d r (s.tileValues (coreNo b c) d r) r.tee.1 := by
  subst hd
  unfold State.quantTile
  dsimp only
  rw [if_pos h3]
  rcases hone with hone | hone
  · rw [hone]
    rfl
  · simp only [hone, Option.isSome_none, Bool.false_eq_true, if_false]
    split <;> simp [State.tileReady, State.freeTile, hone]

/-- Nothing that comes before its two writes touches memory. -/
theorem State.quantTile_scaledWrites (s : State) (b c : Nat) (d : Desc) (r : Released) (e : Int) (hd : d = descAt (s.armIn b r.arm) r.desc)
    (h3 : d.format ≤ 3) (hp : d.policy = 0) (hone : secondCopy (s.armIn b r.arm) r.desc = none ∨ r.slot = none) :
    ∃ t : State, t.mem = s.mem ∧ s.SameMap t ∧ (s.quantTile b c r e).mem =
      (t.scaledWrites b d r (scaledBlocks d r (s.tileValues (coreNo b c) d r) r.tee.1)).mem :=
  ⟨(s.tileReady b c d r).watchAmax b d (rotateTile d (s.tileValues (coreNo b c) d r)),
    (State.watchAmax_mem ..).trans (State.tileReady_mem ..), (State.tileReady_sameMap ..).trans (State.watchAmax_sameMap ..),
    by rw [s.quantTile_scaled b c d r e hd h3 hone, State.quantScaled_mem _ _ _ _ _ _ _ hp]⟩

/-- Settles O45: the tile leaves by `State.TileGone`, and its bytes are those of `State.scaledWrites`. -/
theorem scaledTiles : Obligations.ScaledTiles := by
  unfold Obligations.ScaledTiles
  intro b c s r rest d bs ht hd hh h3 hp hhint hc hone hbs htile hside
  have hi : d.format ≠ fmtI16 := fun h => by rw [h] at h3; exact absurd h3 (by decide)
  obtain ⟨v, he, hrest, hfree⟩ := exec_quantiseTile_gone ht hd hh (.inl hi)
  refine ⟨v, he, hrest, hfree, fun a => ?_⟩
  rw [exec_quantiseTile_plain ht hd hh hi] at he
  obtain ⟨t, hmem, hready, hwrites⟩ :=
    (s.setReleased (coreNo b.val c.val) rest).quantTile_scaledWrites b.val c.val d r 0 hd h3 hp hone
  have hmap : s.SameMap t := State.SameMap.trans (t := s.setReleased (coreNo b.val c.val) rest) ⟨fun _ _ _ => rfl, rfl⟩ hready
  have hblocks : scaledBlocks d r ((s.setReleased (coreNo b.val c.val) rest).tileValues (coreNo b.val c.val) d r) r.tee.1 = bs := hbs.symm
  rw [← Host.Outcome.next.inj he, hwrites, hblocks, t.scaledWrites_byte b d r bs hhint ((congrArg MemSt.cache hmem).trans hc)
    (fun l hl => by rw [hmap.faulty, hmap.fenced]; exact htile l hl)
    (fun he hf l hl => by rw [hmap.faulty, hmap.fenced]; exact hside he hf l hl), hmem]
  rfl

end Sys2Proof.Machine
end

section
/-! PROOFS. Settles GradientContributions (O46): at a leaf each part of a converted tile is one packet put into the queue of the lowest port up, and nothing else of the device changes but the part. -/

namespace Sys2Proof.Machine

/-! ### Sums and hashes (R248, R253) -/

theorem mix64_lt (z : Nat) : mix64 z < 2 ^ 64 := by
  refine Nat.xor_lt_two_pow (Nat.mod_lt _ (Nat.two_pow_pos 64)) ((Nat.div_le_self _ _).trans_lt (Nat.mod_lt _ (Nat.two_pow_pos 64)))

theorem contributorHash_lt (id : Nat) : contributorHash id < 2 ^ 64 := by
  unfold contributorHash
  split
  · exact Nat.two_pow_pos 64
  · exact mix64_lt _

theorem addSums_nil (l : List Int) : addSums [] l = l := by
  refine List.ext_getElem (by simp [addSums]) fun i h _ => ?_
  have hi : i < l.length := by simpa [addSums] using h
  simp [addSums, hi]

/-! ### A leaf's part (R250, R255) -/

/-- A leaf's part as it is sent on: its own elements with COUNT 1 and its hash, or poisoned. -/
def leafPart (me : Nat) (sums : List Int) (sat poison : Bool) : OpenPart :=
  if poison then { OpenPart.empty with own := true, poisoned := true }
  else ({ OpenPart.empty with own := true }).add sums 1 (contributorHash me) sat

/-- A leaf's packet to its parent, before it has a ticket (R252, R253). -/
def leafPacket (s : State) (key : PartKey) (o : OpenStep) (t : Tree) (rank : Nat) (e : Int) (sums : List Int) (sat poison : Bool) : Packet :=
  newPacket (idAt t (parentOf t rank)) s.myId key.part 1 tyReduce poison
    (if poison then reduceFields key.bucket key.tile key.step 0 key.piece false false e 0 0
      else reduceFields key.bucket key.tile key.step 0 key.piece sat false e 1 (contributorHash (s.selfIn o.members)))
    (if poison then [] else packSums 0 ((List.range (partElems (descAt o.file (bucketAt o.file key.bucket).src) key.piece)).map
      fun i => sums.getD i 0))

/-- A packet put into one port's queue with the next ticket (R231). -/
def State.sendAt (s : State) (p : Nat) (k : Packet) : State :=
  (s.setFab { s.fab with ticket := s.fab.ticket + 1 }).queueOn p { k with seq := s.fab.ticket }

/-- A packet of another class than 0 waits at the lowest port up alone (R231). -/
theorem State.send_lowest (s : State) {q p : Nat} {ps : List Nat} (hp : s.upPorts q = p :: ps) (dest ty : Nat) (tf pay : List Byte) (poison : Bool) :
    s.send q dest 1 ty tf pay poison = s.sendAt p (newPacket dest s.myId q 1 ty poison tf pay) := by
  simp [State.send, State.sendAt, hp]

theorem leafPart_own (me : Nat) (sums : List Int) (sat poison : Bool) : (leafPart me sums sat poison).own = true := by
  unfold leafPart
  split <;> rfl

theorem leafPart_sentOn (me : Nat) (sums : List Int) (sat poison : Bool) : (leafPart me sums sat poison).sentOn = false := by
  unfold leafPart
  split <;> rfl

/-- Without poison a leaf's part is its own contribution. -/
theorem leafPart_sum (me : Nat) (sums : List Int) (sat : Bool) :
    leafPart me sums sat false = ⟨sums, 1, contributorHash me, true, [], false, sat, false⟩ := by
  have hhash : (0 + contributorHash me) % 2 ^ 64 = contributorHash me := by rw [Nat.zero_add, Nat.mod_eq_of_lt (contributorHash_lt me)]
  simp only [leafPart, OpenPart.add, OpenPart.empty, addSums_nil, hhash, Bool.false_eq_true, if_false, Bool.false_or]

section Leaf

variable {s : State} {key : PartKey} {o : OpenStep} {t : Tree} {rank p : Nat} {ps : List Nat} {e : Int}
  (hleaf : (childrenOf t rank).isEmpty = true)
include hleaf

/-- A leaf that holds its own part has nothing to wait for. -/
theorem State.sendOnWhole_leaf (h0 : rank ≠ 0) (hown : (s.partAt key).own = true) (hsent : (s.partAt key).sentOn = false) :
    s.sendOnWhole key o t rank = s.forwardPart key o t rank := by
  have hnone : childIds t rank = [] := by rw [childIds, List.isEmpty_iff.1 hleaf, List.map_nil]
  simp [State.sendOnWhole, State.sendOn, hown, hsent, hnone, h0]

variable (hx : s.expAt key.part key.bucket key.step key.tile = some e) (hp : s.upPorts key.part = p :: ps)
include hx hp

/-- What a leaf forwards of its part. -/
theorem State.forwardPart_leaf {sums : List Int} {sat poison : Bool} (hpart : s.partAt key = leafPart (s.selfIn o.members) sums sat poison) :
    s.forwardPart key o t rank =
      (s.setPartAt key { s.partAt key with sentOn := true }).sendAt p (leafPacket s key o t rank e sums sat poison) := by
  have hexp : (s.setPartAt key { s.partAt key with sentOn := true }).expAt key.part key.bucket key.step key.tile = some e := hx
  have hport : (s.setPartAt key { s.partAt key with sentOn := true }).upPorts key.part = p :: ps := hp
  simp only [State.forwardPart, hleaf, Bool.not_true, Bool.and_false, Bool.false_eq_true, if_false, hexp, State.send_lowest _ hport]
  refine congrArg (State.sendAt _ p) ?_
  cases poison with
  | true =>
    rw [hpart]
    rfl
  | false =>
    rw [hpart, leafPart_sum]
    rfl

variable (ht : t = gradTree o (bucketAt o.file key.bucket) key.tile) (hr : rankOf t (s.selfIn o.members) = some rank) (h0 : rank ≠ 0)
  (hempty : s.partAt key = OpenPart.empty)
include ht hr h0 hempty

/-- A leaf sends its own part on at once. -/
theorem State.ownPart_leaf (sums : List Int) (sat poison : Bool) : s.ownPart key o sums sat poison =
    ((s.setPartAt key (leafPart (s.selfIn o.members) sums sat poison)).setPartAt key
      { leafPart (s.selfIn o.members) sums sat poison with sentOn := true }).sendAt p (leafPacket s key o t rank e sums sat poison) := by
  have hset : s.ownPart key o sums sat poison =
      (s.setPartAt key (leafPart (s.selfIn o.members) sums sat poison)).sendOnWhole key o t rank := by
    subst ht
    simp only [State.ownPart, hr, hempty]
    cases poison <;> simp [leafPart, hleaf, h0, OpenPart.empty]
  have hpart := s.setPartAt_partAt key (leafPart (s.selfIn o.members) sums sat poison)
  rw [hset, State.sendOnWhole_leaf hleaf h0 (by rw [hpart, leafPart_own]) (by rw [hpart, leafPart_sentOn]),
    State.forwardPart_leaf (s := s.setPartAt key _) (sums := sums) (sat := sat) (poison := poison) hleaf hx hp hpart, hpart]
  rfl

end Leaf

/-! ### A tile's parts, one after the other (R246) -/

/-- Only the parts and the ports' queues change. -/
def State.OnlyParts (s t : State) : Prop := t = { s with fab := t.fab, red := { s.red with parts := t.red.parts } }

theorem State.OnlyParts.trans {s t u : State} (h : s.OnlyParts t) (k : t.OnlyParts u) : s.OnlyParts u := by
  unfold State.OnlyParts at h k ⊢
  rw [k, h]

section OnlyParts

variable {s t : State} (h : s.OnlyParts t)
include h

theorem State.OnlyParts.expAt (q b st ti : Nat) : t.expAt q b st ti = s.expAt q b st ti := by
  rw [h]
  rfl

theorem State.OnlyParts.upPorts (q : Nat) : t.upPorts q = s.upPorts q := by
  rw [h]
  rfl

theorem State.OnlyParts.selfIn (l : List Nat) : t.selfIn l = s.selfIn l := by
  rw [h]
  rfl

theorem State.OnlyParts.mem : t.mem = s.mem := by rw [h]

theorem State.OnlyParts.leafPacket : leafPacket t = leafPacket s := by
  rw [h]
  rfl

end OnlyParts

theorem State.setPartAt_partAt_ne (s : State) {k j : PartKey} (x : OpenPart) (h : j ≠ k) : (s.setPartAt k x).partAt j = s.partAt j :=
  Tab.get_put_ne _ _ _ h

theorem State.sendAt_queue (s : State) (p : Nat) (k : Packet) :
    (s.sendAt p k).fab.queue.get p [] = s.fab.queue.get p [] ++ [{ k with seq := s.fab.ticket }] :=
  Tab.get_put_same ..

/-- The packets that parts put into a queue: each its own, under whatever ticket. -/
def LeafPackets (s : State) (key : Nat → PartKey) (o : OpenStep) (t : Tree) (rank : Nat) (e : Int) (sums : Nat → List Int)
    (sat : Nat → Bool) (poison : Bool) : List Nat → List Packet → Prop :=
  List.Forall₂ fun j m => ∃ n, m = { leafPacket s (key j) o t rank e (sums j) (sat j) poison with seq := n }

/-- Parts of a leaf sent on one after the other. -/
theorem State.ownParts_leaf {s : State} {key : Nat → PartKey} (hinj : Function.Injective key) {o : OpenStep} {t : Tree} {rank p : Nat}
    {ps : List Nat} {e : Int} (hleaf : (childrenOf t rank).isEmpty = true) (h0 : rank ≠ 0)
    (hr : rankOf t (s.selfIn o.members) = some rank) (ht : ∀ j, t = gradTree o (bucketAt o.file (key j).bucket) (key j).tile)
    (hx : ∀ j, s.expAt (key j).part (key j).bucket (key j).step (key j).tile = some e) (hp : ∀ j, s.upPorts (key j).part = p :: ps)
    (sums : Nat → List Int) (sat : Nat → Bool) (poison : Bool) {js : List Nat} (hjs : js.Nodup)
    (hempty : ∀ j ∈ js, s.partAt (key j) = OpenPart.empty) :
    let v := js.foldl (fun s j => s.ownPart (key j) o (sums j) (sat j) poison) s
    s.OnlyParts v ∧ (∀ i, i ∉ js → v.partAt (key i) = s.partAt (key i)) ∧ (∀ j ∈ js, (v.partAt (key j)).sentOn = true) ∧
      ∃ ks, v.fab.queue.get p [] = s.fab.queue.get p [] ++ ks ∧ LeafPackets s key o t rank e sums sat poison js ks := by
  induction js generalizing s with
  | nil => exact ⟨rfl, fun _ _ => rfl, fun _ h => absurd h List.not_mem_nil, [], (List.append_nil _).symm, .nil⟩
  | cons j js ih =>
    obtain ⟨hj, hjs⟩ := List.nodup_cons.1 hjs
    obtain ⟨hfirst, hrest⟩ := List.forall_mem_cons.1 hempty
    have hown := State.ownPart_leaf hleaf (hx j) (hp j) (ht j) hr h0 hfirst (sums j) (sat j) poison
    rw [List.foldl_cons]
    generalize s.ownPart (key j) o (sums j) (sat j) poison = u at hown ⊢
    have honly : s.OnlyParts u := by rw [hown]; rfl
    have hother : ∀ i, i ≠ j → u.partAt (key i) = s.partAt (key i) := fun i hi => by
      rw [hown]
      exact (State.setPartAt_partAt_ne _ _ (hinj.ne hi)).trans (State.setPartAt_partAt_ne _ _ (hinj.ne hi))
    have hsent : (u.partAt (key j)).sentOn = true := by
      rw [hown]
      exact congrArg OpenPart.sentOn (State.setPartAt_partAt _ _ _)
    have hqueue : u.fab.queue.get p [] = s.fab.queue.get p [] ++
        [{ leafPacket s (key j) o t rank e (sums j) (sat j) poison with seq := s.fab.ticket }] := by
      rw [hown]
      exact State.sendAt_queue ..
    obtain ⟨hv, hkeep, hall, ks, hks, hpackets⟩ := ih (s := u) (by rw [honly.selfIn]; exact hr) (fun i => by rw [honly.expAt]; exact hx i)
      (fun i => by rw [honly.upPorts]; exact hp i) hjs
      (fun i hi => (hother i fun h => hj (h ▸ hi)).trans (hrest i hi))
    refine ⟨honly.trans hv, fun i hi => ?_, ?_, _ :: ks, ?_, .cons ⟨s.fab.ticket, rfl⟩ ?_⟩
    · obtain ⟨hij, hi⟩ := not_or.1 fun h => hi (List.mem_cons.2 h)
      exact (hkeep i hi).trans (hother i hij)
    · exact List.forall_mem_cons.2 ⟨(congrArg OpenPart.sentOn (hkeep j hj)).trans hsent, hall⟩
    · rw [hks, hqueue, List.append_assoc, List.singleton_append]
    · rwa [LeafPackets, honly.leafPacket] at hpackets

/-! ### What a tile does before it is contributed (R81, R247) -/

/-- Fields that say which links a partition has and who this device is in its groups. -/
def linkFields : List Fld := [.PART_LOG2, .DEVICE_ID, .LINK_STATE, .POS_VALID]

/-- One reduction and one fabric: other registers and the cores may differ. -/
structure State.SameLinks (s t : State) : Prop where
  red : t.red = s.red
  fab : t.fab = s.fab
  mem : t.mem = s.mem
  parts : t.parts = s.parts
  arms : t.arms = s.arms
  regs : ∀ p, ∀ f ∈ linkFields, ∀ i, t.get p f i = s.get p f i

namespace State.SameLinks

variable {s t u : State}

theorem rfl : SameLinks s s := ⟨Eq.refl _, Eq.refl _, Eq.refl _, Eq.refl _, Eq.refl _, fun _ _ _ _ => Eq.refl _⟩

theorem trans (h : SameLinks s t) (k : SameLinks t u) : SameLinks s u :=
  ⟨k.red.trans h.red, k.fab.trans h.fab, k.mem.trans h.mem, k.parts.trans h.parts, k.arms.trans h.arms,
    fun p f hf i => (k.regs p f hf i).trans (h.regs p f hf i)⟩

theorem put (p : Page) (f : Fld) (v i : Nat) (hf : f ∉ linkFields) : SameLinks s (s.put p f v i) :=
  ⟨Eq.refl _, Eq.refl _, Eq.refl _, Eq.refl _, Eq.refl _, fun _ _ hg _ => State.get_put_fld _ _ _ _ _ _ fun h => hf (h ▸ hg)⟩

theorem setCores (c : CoreSt) : SameLinks s (s.setCores c) := ⟨Eq.refl _, Eq.refl _, Eq.refl _, Eq.refl _, Eq.refl _, fun _ _ _ _ => Eq.refl _⟩

theorem raiseFlags (n : Nat) (fl : Flags) : SameLinks s (s.raiseFlags n fl) := by
  unfold State.raiseFlags
  split
  · exact rfl
  · exact put _ _ _ _ (by decide)

theorem slip (n k : Nat) : SameLinks s (s.slip n k) := by
  unfold State.slip
  split
  · exact rfl
  · exact ((put _ _ _ _ (by decide)).trans (put _ _ _ _ (by decide))).trans (put _ _ _ _ (by decide))

theorem freeTile (n : Nat) (d : Desc) (r : Released) : SameLinks s (s.freeTile n d r) := by
  rw [State.freeTile_eq]
  exact setCores _

theorem watchNorm (b c : Nat) (d : Desc) (order x : List Nat) : SameLinks s (s.watchNorm b c d order x) := by
  simp only [State.watchNorm]
  split
  · exact (raiseFlags _ _).trans (setCores _)
  · exact rfl

theorem watchAdd (b : Nat) (d : Desc) (l : List Nat) : SameLinks s (s.watchAdd b d l) := by
  unfold State.watchAdd
  split
  · exact setCores _
  · exact rfl

theorem tileReady (b c : Nat) (d : Desc) (r : Released) : SameLinks s (s.tileReady b c d r) :=
  ((raiseFlags _ _).trans (freeTile _ _ _)).trans (watchNorm _ _ _ _ _)

variable (h : SameLinks s t)
include h

theorem partCount : t.partCount = s.partCount := by rw [State.partCount, h.regs _ _ (by decide), State.partCount]

theorem partOf (b : Nat) : t.partOf b = s.partOf b := by rw [State.partOf, State.partSize, h.partCount, State.partOf, State.partSize]

theorem armIn (b : Nat) (slot : Option Nat) : t.armIn b slot = s.armIn b slot := by
  unfold State.armIn State.fileOf State.armSlot
  rw [h.partOf, h.arms]

theorem selfIn (l : List Nat) : t.selfIn l = s.selfIn l := by
  rw [State.selfIn, State.myId, h.regs _ _ (by decide), State.selfIn, State.myId]

theorem upPorts (q : Nat) : t.upPorts q = s.upPorts q := by
  have hlink : ∀ p, t.link p = s.link p := fun p => h.regs _ _ (by decide) _
  have hpos : ∀ p, t.flag (pgPort p) .POS_VALID = s.flag (pgPort p) .POS_VALID := fun p => congrArg (· == 1) (h.regs _ _ (by decide) _)
  simp only [State.upPorts, State.partPorts, State.partBeds, h.partOf, State.portUp, hlink, hpos]

theorem expAt (q b st ti : Nat) : t.expAt q b st ti = s.expAt q b st ti := by
  simp only [State.expAt, State.stepAt, h.red]

theorem liveMembers (q : Nat) (f : File) : t.liveMembers q f = s.liveMembers q f := by
  simp only [State.liveMembers, State.part, h.parts]

end State.SameLinks

/-- A tile's elements in I16 under E, each with whether it saturated (R64). -/
def State.i16Elems (s : State) (b : Nat) (d : Desc) (r : Released) (x : List Nat) (e : Int) : List (Int × Bool) :=
  (List.range d.positions).map fun i => i16Sr (Q.mul (valF (x.getD i 0)) (Q.pow2 (-e)))
    (srBits (srHash d.seed r.step d.tensorId (srIndex (d.element r.tileRow r.tileCol i) 3
      (s.selfIn (s.liveMembers (s.partOf b) (s.armIn b r.arm))))))

theorem State.SameLinks.i16Elems {s t : State} (h : s.SameLinks t) (b : Nat) (d : Desc) (r : Released) (x : List Nat) (e : Int) :
    t.i16Elems b d r x e = s.i16Elems b d r x e := by
  simp only [State.i16Elems, h.selfIn, h.liveMembers, h.partOf, h.armIn]

/-- A converted tile is contributed with its elements, or as poisoned (R78, R246). -/
theorem State.quantI16_contributes (s : State) (b c desc : Nat) (d : Desc) (r : Released) (x : List Nat) (e : Int) :
    ∃ t : State, s.SameLinks t ∧ s.quantI16 b c desc d r x e =
      t.contribute (s.partOf b) r.step desc (tileOf d r) (if !x.all finiteF then [] else (s.i16Elems b d r x e).map (·.1))
        (if !x.all finiteF then [] else (s.i16Elems b d r x e).map (·.2)) (!x.all finiteF) := by
  refine ⟨_, ?_, rfl⟩
  exact (State.SameLinks.raiseFlags _ _).trans (.watchAdd _ _ _)

theorem State.quantTile_i16 (s : State) (b c : Nat) (d : Desc) (r : Released) (e : Int) (hd : d = descAt (s.armIn b r.arm) r.desc)
    (hi : d.format = fmtI16) :
    s.quantTile b c r e = (s.tileReady b c d r).quantI16 b c r.desc d r (s.tileValues (coreNo b c) d r) e := by
  subst hd
  unfold State.quantTile
  dsimp only
  rw [if_neg (by rw [hi]; decide), if_pos hi]
  rfl

/-- The bucket that a descriptor feeds in an open step (R246). -/
theorem State.bucketOf_eq {s : State} {q step desc k : Nat} {o : OpenStep} (ho : s.stepAt q step = some o)
    (hk : s.bucketOf q step desc = some k) :
    ((buckets o.file).find? fun b => b.2.src == desc) = some (k, bucketAt o.file k) ∧ (bucketAt o.file k).src = desc := by
  simp only [State.bucketOf, ho, Option.map_eq_some_iff] at hk
  obtain ⟨x, hx, rfl⟩ := hk
  obtain ⟨i, -, rfl⟩ := List.mem_map.1 (List.mem_of_find?_eq_some hx)
  exact ⟨hx, by simpa using List.find?_some hx⟩

/-- A leaf contributes a tile: every part of it is sent on. -/
theorem State.contribute_leaf {s : State} {q step desc tile k : Nat} {o : OpenStep} (ho : s.stepAt q step = some o)
    (hk : s.bucketOf q step desc = some k) {rank p : Nat} {ps : List Nat} {e : Int}
    (hleaf : (childrenOf (gradTree o (bucketAt o.file k) tile) rank).isEmpty = true) (h0 : rank ≠ 0)
    (hr : rankOf (gradTree o (bucketAt o.file k) tile) (s.selfIn o.members) = some rank) (hx : s.expAt q k step tile = some e)
    (hp : s.upPorts q = p :: ps) (hempty : ∀ j, s.partAt ⟨q, k, step, tile, j⟩ = OpenPart.empty) (qs : List Int) (sats : List Bool)
    (poison : Bool) :
    let d := descAt o.file desc
    let v := s.contribute q step desc tile qs sats poison
    s.OnlyParts v ∧ (∀ j < tileParts d, (v.partAt ⟨q, k, step, tile, j⟩).sentOn = true) ∧
      ∃ ks, v.fab.queue.get p [] = s.fab.queue.get p [] ++ ks ∧
        LeafPackets s (fun j => ⟨q, k, step, tile, j⟩) o (gradTree o (bucketAt o.file k) tile) rank e
          (fun j => (qs.drop (1024 * j)).take (partElems d j)) (fun j => ((sats.drop (1024 * j)).take (partElems d j)).any id) poison
          (List.range (tileParts d)) ks := by
  obtain ⟨hfind, hsrc⟩ := State.bucketOf_eq ho hk
  have hcontribute : s.contribute q step desc tile qs sats poison = (List.range (tileParts (descAt o.file desc))).foldl (fun s j =>
      s.ownPart ⟨q, k, step, tile, j⟩ o ((qs.drop (1024 * j)).take (partElems (descAt o.file desc) j))
        (((sats.drop (1024 * j)).take (partElems (descAt o.file desc) j)).any id) poison) s := by
    simp only [State.contribute, ho, hfind, hsrc]
  dsimp only
  rw [hcontribute]
  obtain ⟨honly, -, hsent, hqueue⟩ := State.ownParts_leaf (s := s) (key := fun j => ⟨q, k, step, tile, j⟩) (fun i j h => congrArg PartKey.piece h)
    hleaf h0 hr (fun _ => rfl) (fun _ => hx) (fun _ => hp) (fun j => (qs.drop (1024 * j)).take (partElems (descAt o.file desc) j))
    (fun j => ((sats.drop (1024 * j)).take (partElems (descAt o.file desc) j)).any id) poison (List.nodup_range (n := tileParts (descAt o.file desc)))
    (fun j _ => hempty j)
  exact ⟨honly, fun j hj => hsent j (List.mem_range.2 hj), hqueue⟩

/-- What the packets of a tile's parts carry. -/
theorem LeafPackets.fields {s : State} {key : Nat → PartKey} {o : OpenStep} {t : Tree} {rank : Nat} {e : Int} {sums : Nat → List Int}
    {sat : Nat → Bool} {poison : Bool} {n : Nat} {ks : List Packet}
    (h : LeafPackets s key o t rank e sums sat poison (List.range n) ks) : ks.length = n ∧ ∀ j m, ks[j]? = some m →
      m.type = tyReduce ∧ m.cls = 1 ∧ m.dest = idAt t (parentOf t rank) ∧ m.poison = poison ∧
      (poison = true → m.payload = [] ∧
        m.tf = padTo 20 (reduceFields (key j).bucket (key j).tile (key j).step 0 (key j).piece false false e 0 0)) ∧
      (poison = false → m.tf = padTo 20 (reduceFields (key j).bucket (key j).tile (key j).step 0 (key j).piece (sat j) false e 1
          (contributorHash (s.selfIn o.members))) ∧
        m.payload = packSums 0 ((List.range (partElems (descAt o.file (bucketAt o.file (key j).bucket).src) (key j).piece)).map
          fun i => (sums j).getD i 0)) := by
  have hlen : ks.length = n := by rw [← List.Forall₂.length_eq h, List.length_range]
  refine ⟨hlen, fun j m hm => ?_⟩
  obtain ⟨hj, rfl⟩ := List.getElem?_eq_some_iff.1 hm
  obtain ⟨seq, hseq⟩ := List.Forall₂.get h (i := j) (by rw [List.length_range, ← hlen]; exact hj) hj
  rw [List.get_eq_getElem, List.get_eq_getElem, List.getElem_range] at hseq
  rw [hseq]
  refine ⟨rfl, rfl, rfl, rfl, ?_, ?_⟩
  · rintro rfl
    simp only [leafPacket, newPacket, if_true, and_self]
  · rintro rfl
    simp only [leafPacket, newPacket, Bool.false_eq_true, if_false, and_self]

theorem State.slip_tileValues (s : State) (c k : Nat) (n : Nat) (d : Desc) (r : Released) :
    (s.slip c k).tileValues n d r = s.tileValues n d r := by
  unfold State.slip
  split <;> rfl

theorem State.expAt_of_expReady {s : State} {q k st ti : Nat} {e : Int} (h : s.expReady q k st ti = some e) : s.expAt q k st ti = some e := by
  unfold State.expReady at h
  split at h
  · cases h
  · exact h

/-- The elements of a part below its length are the tile's from the part's first on. -/
theorem getD_part (l : List Int) (first n : Nat) :
    ((List.range n).map fun i => ((l.drop first).take n).getD i 0) = (List.range n).map fun i => (l.drop first).getD i 0 := by
  refine List.map_congr_left fun i hi => ?_
  rw [List.getD_eq_getElem?_getD, List.getD_eq_getElem?_getD, List.getElem?_take_of_lt (List.mem_range.1 hi)]

/-- A gradient tile whose exponent is known is contributed, with the links as they were. -/
theorem exec_quantiseTile_contributes {b : Bed} {c : Core} {s : State} {r : Released} {rest : List Released} {d : Desc}
    (ht : takeWhole (s.armIn b.val) (s.cores.released.get (coreNo b.val c.val) []) = some (r, rest))
    (hd : d = descAt (s.armIn b.val r.arm) r.desc) (hh : s.halts (pgQuant b.val) = false) (hi : d.format = fmtI16) {k : Nat}
    (hk : s.bucketOf (s.partOf b.val) r.step r.desc = some k) {e : Int} (he : s.expReady (s.partOf b.val) k r.step (tileOf d r) = some e)
    {x : List Nat} (hx : x = s.tileValues (coreNo b.val c.val) d r) : ∃ w : State, s.SameLinks w ∧ exec (.quantiseTile b c) s =
      .next (w.contribute (s.partOf b.val) r.step r.desc (tileOf d r) (if !x.all finiteF then [] else (s.i16Elems b.val d r x e).map (·.1))
        (if !x.all finiteF then [] else (s.i16Elems b.val d r x e).map (·.2)) (!x.all finiteF)) := by
  have hexec := exec_quantiseTile_ready ht hd hh hi hk he
  generalize hu : (s.slip (coreNo b.val c.val) (s.tileWait r)).setReleased (coreNo b.val c.val) rest = u at hexec
  have hsu : s.SameLinks u := by
    subst hu
    exact (State.SameLinks.slip _ _).trans (.setCores _)
  have hvalues : u.tileValues (coreNo b.val c.val) d r = x := by
    subst hu
    exact (s.slip_tileValues (coreNo b.val c.val) (s.tileWait r) (coreNo b.val c.val) d r).trans hx.symm
  have hready := hsu.trans (State.SameLinks.tileReady b.val c.val d r)
  have htile := u.quantTile_i16 b.val c.val d r e (by rw [hsu.armIn]; exact hd) hi
  obtain ⟨w, hw, hcontribute⟩ := (u.tileReady b.val c.val d r).quantI16_contributes b.val c.val r.desc d r x e
  rw [htile, hvalues, hcontribute, hready.partOf, hready.i16Elems] at hexec
  exact ⟨w, hready.trans hw, hexec⟩

/-- Settles O46: the tile reaches `State.contribute` with the links as they were, and a leaf sends every part on. -/
theorem gradientContributions : Obligations.GradientContributions := by
  unfold Obligations.GradientContributions
  intro b c s r rest d o k rank p ps e t x l ht hd hh hi hk hready ho hfile htree hr h0 hleaf hempty hp hx hl
  subst htree
  obtain ⟨w, hw, hexec⟩ := exec_quantiseTile_contributes ht hd hh hi hk hready hx
  have helems : s.i16Elems b.val d r x e = l := hl.symm
  have hsrc := (State.bucketOf_eq ho hk).2
  have hdesc : descAt o.file r.desc = d := by rw [hfile, hd]
  rw [helems] at hexec
  obtain ⟨honly, hsent, ks, hqueue, hpackets⟩ := State.contribute_leaf (s := w) (q := s.partOf b.val) (by rw [State.stepAt, hw.red]; exact ho)
    (by rw [State.bucketOf, State.stepAt, hw.red]; exact hk) hleaf h0 (by rw [hw.selfIn]; exact hr)
    (by rw [hw.expAt]; exact State.expAt_of_expReady hready) (by rw [hw.upPorts]; exact hp)
    (fun j => by rw [State.partAt, hw.red]; exact hempty j)
    (if !x.all finiteF then [] else l.map (·.1)) (if !x.all finiteF then [] else l.map (·.2)) (!x.all finiteF)
  obtain ⟨hlen, hfields⟩ := hpackets.fields
  rw [hdesc] at hsent hlen
  refine ⟨_, ks, hexec, by rw [hqueue, hw.fab], hlen, honly.mem.trans hw.mem, hsent, fun j m hm => ?_⟩
  obtain ⟨hty, hcls, hdest, hpoison, hbad, hgood⟩ := hfields j m hm
  refine ⟨hty, hcls, hdest, hpoison, fun hx => hbad (by rw [hx]; rfl), fun hx => ?_⟩
  obtain ⟨htf, hpay⟩ := hgood (by rw [hx]; rfl)
  have hfinite : ¬(!x.all finiteF) = true := by rw [hx]; decide
  rw [if_neg hfinite] at hpay
  rw [if_neg hfinite, ← List.map_drop, ← List.map_take, List.any_map] at htf
  simp only [hsrc, hdesc] at htf hpay
  rw [htf, hpay, getD_part, hw.selfIn]
  exact ⟨rfl, rfl⟩

end Sys2Proof.Machine
end

section
/-! PROOFS. What the parts of a matrix block leave of a bed (R111, R115, R122): the relation `State.Beside`, a local store's numbers, and the slots that a block holds. -/

namespace Sys2Proof.Machine

/-! ### What stays beside a block -/

/-- Fields that a block's results and faults leave alone. -/
def besideFields : List Fld := [.PART_LOG2, .STEP_CNT, .BLOCKS_ISSUED]

/-- Memory, the armatures and these registers stay, and of the cores what γ shows. -/
structure State.Beside {β : Type} (γ : CoreSt → β) (s t : State) : Prop where
  mem : t.mem = s.mem
  arms : t.arms = s.arms
  active : ∀ b, (t.bed b).active = (s.bed b).active
  regs : ∀ p, ∀ f ∈ besideFields, ∀ i, t.get p f i = s.get p f i
  cores : γ t.cores = γ s.cores

/-- Nothing of the cores is asked to stay. -/
def noCores (_ : CoreSt) : Unit := ()

namespace State.Beside

variable {β : Type} {γ : CoreSt → β} {s t u : State}

theorem rfl : Beside γ s s := ⟨Eq.refl _, Eq.refl _, fun _ => Eq.refl _, fun _ _ _ _ => Eq.refl _, Eq.refl _⟩

theorem trans (h : Beside γ s t) (k : Beside γ t u) : Beside γ s u :=
  ⟨k.mem.trans h.mem, k.arms.trans h.arms, fun b => (k.active b).trans (h.active b),
    fun p f hf i => (k.regs p f hf i).trans (h.regs p f hf i), k.cores.trans h.cores⟩

/-- What shows less of the cores stays too. -/
theorem map {α : Type} (g : β → α) (h : Beside γ s t) : Beside (g ∘ γ) s t :=
  ⟨h.mem, h.arms, h.active, h.regs, congrArg g h.cores⟩

theorem foldl {ι : Type} {f : State → ι → State} (hf : ∀ s x, Beside γ s (f s x)) (l : List ι) (s : State) : Beside γ s (l.foldl f s) :=
  List.foldlRecOn l f rfl fun _ hu x _ => hu.trans (hf _ x)

theorem ite {c : Prop} [Decidable c] (ht : Beside γ s t) (hu : Beside γ s u) : Beside γ s (if c then t else u) := by
  split
  · exact ht
  · exact hu

theorem setCores {c : CoreSt} (h : γ c = γ s.cores) : Beside γ s (s.setCores c) :=
  ⟨Eq.refl _, Eq.refl _, fun _ => Eq.refl _, fun _ _ _ _ => Eq.refl _, h⟩

theorem put (p : Page) (f : Fld) (v i : Nat) (hf : f ∉ besideFields) : Beside γ s (s.put p f v i) :=
  ⟨Eq.refl _, Eq.refl _, fun _ => Eq.refl _, fun _ _ hg _ => State.get_put_fld _ _ _ _ _ _ fun h => hf (h ▸ hg), Eq.refl _⟩

theorem bump (p : Page) (f : Fld) (n i : Nat) (hf : f ∉ besideFields) : Beside γ s (s.bump p f n i) := put p f _ i hf

theorem record (c : Nat) (p : Page) (d : List Byte) : Beside γ s (s.record c p d) := by
  have hrecord : ∀ f ∈ besideFields, recordField f = false := by decide
  have hevt : ∀ f ∈ besideFields, f ≠ .EVT := by decide
  refine ⟨s.record_mem c p d, s.record_arms c p d, fun b => ?_, fun q f hf i => s.record_get c p d q i (hrecord f hf) fun _ => hevt f hf,
    congrArg γ (s.record_cores c p d)⟩
  rw [State.bed, State.record_beds, State.bed]

theorem setBed (b : Nat) (x : BedSt) (h : x.active = (s.bed b).active) : Beside γ s (s.setBed b x) := by
  refine ⟨Eq.refl _, Eq.refl _, fun c => ?_, fun _ _ _ _ => Eq.refl _, Eq.refl _⟩
  by_cases hc : c = b
  · rw [hc, State.setBed_bed, h]
  · rw [State.setBed_bed_ne _ _ hc]

theorem raiseFlags (n : Nat) (fl : Flags) : Beside γ s (s.raiseFlags n fl) := ite rfl (put _ _ _ _ (by decide))

theorem captureNf (b c : Nat) (fl : Flags) (i : CapInfo) : Beside γ s (s.captureNf b c fl i) := by
  have hput : ∀ {u : State} (p : Page) {f : Fld} (v : Nat), f ∉ besideFields → Beside γ s u → Beside γ s (u.put p f v) :=
    fun p _ v hf h => h.trans (put p _ v 0 hf)
  refine ite rfl (trans (t := State.put ..) ?_ (setBed _ _ (Eq.refl _)))
  iterate 13 refine hput _ _ (by decide) ?_
  exact rfl

theorem result (b c : Nat) (fl : Flags) (i : CapInfo) : Beside γ s (s.result b c fl i) := (raiseFlags _ _).trans (captureNf _ _ _ _)

theorem slip (n k : Nat) : Beside γ s (s.slip n k) :=
  ite rfl (((bump _ _ _ _ (by decide)).trans (bump _ _ _ _ (by decide))).trans (put _ _ _ _ (by decide)))

theorem tileFaulted (b c : Nat) (d : Desc) (t : List Byte) (tile : Nat) : Beside γ s (s.tileFaulted b c d t tile) :=
  foldl (fun _ _ => (raiseFlags _ _).trans (record _ _ _)) _ _

theorem operandFaults (b c : Nat) (o : Operand) : Beside γ s (s.operandFaults b c o) := foldl (fun _ _ => tileFaulted _ _ _ _ _) _ _

theorem countSamples (b n : Nat) : Beside γ s (s.countSamples b n) := by
  simp only [State.countSamples]
  split
  · exact ⟨Eq.refl _, Eq.refl _, fun _ => Eq.refl _, fun _ _ _ _ => Eq.refl _, Eq.refl _⟩
  · exact rfl

section Slots

variable (hslots : ∀ (c : CoreSt) (l : Tab (Nat × Nat) SlotMeta), γ { c with slots := l } = γ c)
include hslots

theorem setSlot (n k : Nat) (x : SlotMeta) : Beside γ s (s.setSlot n k x) := setCores (hslots _ _)

theorem openSlots (n ctx : Nat) (m : MatBlk) (o : Desc) : Beside γ s (s.openSlots n ctx m o) := foldl (fun _ _ => setSlot hslots _ _ _) _ _

theorem abandon (n k i : Nat) : Beside γ s (s.abandon n k i) := foldl (fun _ _ => setSlot hslots _ _ _) _ _

end Slots

section Store

variable (hstore : ∀ (c : CoreSt) (l : List Host.Cell), γ { c with lstore := l } = γ c)
include hstore

theorem localPut (n a : Nat) (bs : List Byte) : Beside γ s (s.localPut n a bs) := setCores (hstore _ _)

theorem poisonNorms (n : Nat) (m : MatBlk) : Beside γ s (s.poisonNorms n m) := foldl (fun _ _ => localPut hstore _ _ _) _ _

theorem normEntry (b c e : Nat) (iss : Issue) (k cycle : Nat) (m : MatBlk) (j : Nat) (bad : Bool) (sums : List (List Nat)) :
    Beside γ s (s.normEntry b c e iss k cycle m j bad sums) := by
  have hfirst : Beside γ s (if m.accMode then s else s.localPut (coreNo b c) (m.normvAddr + 4 * (m.exFirst + j)) (leBytes 4 0)) :=
    ite rfl (localPut hstore _ _ _)
  exact ite hfirst ((hfirst.trans (localPut hstore _ _ _)).trans (result _ _ _ _))

variable (hsats : ∀ (c : CoreSt) (l : Tab Nat Nat), γ { c with intSats := l } = γ c)
include hsats

theorem putAll (b c e : Nat) (i : Issue) (k : Nat) (m : MatBlk) (p : MatProd) (count : Nat) (ends : List Nat) (start : Nat)
    (l : List ((Nat × Nat) × Nat × Nat × Pos)) : Beside γ s (s.putAll b c e i k m p count ends start l) := by
  have hsat : ∀ (u : State) (n k : Nat), Beside γ u (u.countSats n k) := fun u n k => ite rfl (setCores (hsats _ _))
  have hfold : Beside γ s (l.foldl (fun t x => ((t.putPos (coreNo b c) m.slot x.2.1 x.2.2.2).raiseFlags (coreNo b c) x.2.2.2.fl).countSats
      (coreNo b c) x.2.2.2.sats) s) :=
    foldl (fun u x => (((localPut hstore _ _ _).trans (localPut hstore _ _ _)).trans (raiseFlags _ _)).trans (hsat _ _ _)) _ _
  simp only [State.putAll]
  split
  · exact hfold
  · exact hfold.trans (captureNf _ _ _ _)

theorem gramPut (u : State) (b c e : Nat) (iss : Issue) (k : Nat) (m : MatBlk) (i start : Nat) :
    Beside γ u (s.gramPut u b c e iss k m i start).1 :=
  List.foldlRecOn (motive := fun (x : State × Nat × List (List Nat)) => Beside γ u x.1) _ _ rfl fun _ hx _ _ =>
    hx.trans (putAll hstore hsats _ _ _ _ _ _ _ _ _ _ _)

end Store

/-! Entries passed over before one begins (R124, R143, R156). -/

theorem setCores_none (c : CoreSt) : Beside noCores s (s.setCores c) := setCores (Eq.refl _)

theorem skipMatrix (b c : Nat) (arm : Option Nat) (m : MatBlk) : Beside noCores s (s.skipMatrix b c arm m) := by
  refine trans (abandon (fun _ _ => Eq.refl _) _ _ _) (ite (ite (poisonNorms (fun _ _ => Eq.refl _) _ _) rfl) (ite (setCores_none _) rfl))

theorem skipEntry (b c e : Nat) (i : Issue) : Beside noCores s (s.skipEntry b c e i) :=
  ite ((bump _ _ _ _ (by decide)).trans (ite (skipMatrix _ _ _ _) rfl)) rfl

theorem nextEntry (b c e : Nat) (l : List Issue) (k : Nat) (s : State) : Beside noCores s (State.nextEntry b c e l k s).1 := by
  induction l generalizing k s with
  | nil => exact setCores_none _
  | cons i l ih =>
    unfold State.nextEntry
    split
    · exact ih (k + 1) s
    · split
      · exact (skipEntry b c e i).trans (ih (k + 1) _)
      · exact setCores_none _

theorem dueEntry (b c e ready : Nat) : Beside noCores s (s.dueEntry b c e ready).1 := by
  unfold State.dueEntry
  dsimp only
  split
  · exact rfl
  · have hnext := nextEntry b c e ((s.coreList b c e).drop (s.cursor (coreNo b c) e)) (s.cursor (coreNo b c) e) s
    split
    · exact hnext
    · split <;> exact hnext

end State.Beside

/-! ### Numbers in a local store (R113) -/

theorem State.localByte_congr {s t : State} (h : t.cores.lstore = s.cores.lstore) : t.localByte = s.localByte := by
  funext c a
  rw [State.localByte, h, State.localByte]

theorem State.localNum_congr {s t : State} (h : t.cores.lstore = s.cores.lstore) (c a n : Nat) : t.localNum c a n = s.localNum c a n := by
  simp only [State.localNum, State.localBytesAt, State.localByte_congr h]

/-- Bytes put into a list of cells read back. -/
theorem cellFind_cellsPut_in (l : List Host.Cell) (a i : Nat) (bs : List Byte) (h : i < bs.length) :
    cellFind (cellsPut l a bs) (a + i) = some bs[i] := by
  induction bs generalizing l a i with
  | nil => simp at h
  | cons b bs ih =>
    cases i with
    | zero =>
      rw [cellsPut, cellFind_cellsPut_out _ _ _ _ (by omega)]
      exact cellFind_put_same ..
    | succ i =>
      have := ih (cellPut l a b) (a + 1) i (by simpa using h)
      rwa [Nat.add_right_comm] at this

/-- A byte beside those put, in the same core. -/
theorem State.localByte_localPut_out (s : State) {c a x : Nat} {bs : List Byte} (h : x < a ∨ a + bs.length ≤ x) :
    (s.localPut c a bs).localByte c x = s.localByte c x := by
  unfold State.localByte
  split
  · rfl
  · have hlen := List.length_take_le' (localBytes - a) bs
    have hcell : cellFind (s.localPut c a bs).cores.lstore (localKey c x) = cellFind s.cores.lstore (localKey c x) :=
      cellFind_cellsPut_out _ _ _ _ (by unfold localKey; omega)
    rw [hcell]

/-- A byte put inside the store. -/
theorem State.localByte_localPut_in (s : State) {c a i : Nat} {bs : List Byte} (hi : i < bs.length) (h : a + bs.length ≤ localBytes) :
    (s.localPut c a bs).localByte c (a + i) = bs[i] := by
  have htake : bs.take (localBytes - a) = bs := List.take_of_length_le (by omega)
  have hcell : cellFind (s.localPut c a bs).cores.lstore (localKey c a + i) = some bs[i] := by
    simp only [State.localPut, htake]
    exact cellFind_cellsPut_in _ _ _ _ hi
  rw [State.localByte, if_neg (by omega), localKey, ← Nat.add_assoc, ← localKey, hcell]
  rfl

theorem length_leBytes (n x : Nat) : (leBytes n x).length = n := by
  induction n generalizing x with
  | zero => rfl
  | succ n ih => rw [leBytes, List.length_cons, ih]

/-- The bytes of a number spell its low bits. -/
theorem leNat_leBytes (n x : Nat) : leNat (leBytes n x) = x % 256 ^ n := by
  induction n generalizing x with
  | zero => simp [leBytes, leNat, Nat.mod_one]
  | succ n ih =>
    have hbyte : (2 : Nat) ^ 8 = 256 := rfl
    rw [leBytes, leNat, ih, BitVec.toNat_ofNat, hbyte, Nat.pow_succ', ← Nat.mod_mul]

theorem State.localNum_localPut_same (s : State) (c a v : Nat) (h : a + 4 ≤ localBytes) :
    (s.localPut c a (leBytes 4 v)).localNum c a 4 = v % 2 ^ 32 := by
  have hbytes : (s.localPut c a (leBytes 4 v)).localBytesAt c a 4 = leBytes 4 v := by
    refine List.ext_getElem (by simp [State.localBytesAt, length_leBytes]) fun i _ hi => ?_
    simp only [State.localBytesAt, List.getElem_map, List.getElem_range]
    exact s.localByte_localPut_in hi (by rw [length_leBytes]; exact h)
  rw [State.localNum, hbytes, leNat_leBytes]
  norm_num

theorem State.localNum_localPut_other (s : State) {c a x v : Nat} (h : x + 4 ≤ a ∨ a + 4 ≤ x) :
    (s.localPut c a (leBytes 4 v)).localNum c x 4 = s.localNum c x 4 := by
  have hbytes : (s.localPut c a (leBytes 4 v)).localBytesAt c x 4 = s.localBytesAt c x 4 := by
    refine List.map_congr_left fun i hi => ?_
    have := List.mem_range.1 hi
    exact s.localByte_localPut_out (by rw [length_leBytes]; omega)
  rw [State.localNum, hbytes, State.localNum]

/-! ### Positions and slots (R114, R115) -/

/-- A position's sums as its slot holds them. -/
def State.holdsPos (s : State) (n slot j : Nat) (p : Pos) : Prop :=
  s.localNum n (accAddr slot j) 4 = p.acc % 2 ^ 32 ∧ s.localNum n (sumAddr slot j) 4 = p.sum % 2 ^ 32

theorem State.putPos_holds (s : State) (n : Nat) {slot j : Nat} (p : Pos) (h : slot + j / 1024 < 12) :
    (s.putPos n slot j p).holdsPos n slot j p := by
  have hacc : accAddr slot j + 4 ≤ localBytes := by unfold accAddr localBytes; omega
  have hsum : sumAddr slot j + 4 ≤ localBytes := by unfold sumAddr accAddr localBytes; omega
  constructor
  · rw [State.putPos, State.localNum_localPut_other _ (.inl (by unfold sumAddr; omega)), State.localNum_localPut_same _ _ _ _ hacc]
  · rw [State.putPos, State.localNum_localPut_same _ _ _ _ hsum]

/-- Another position's sums lie elsewhere. -/
theorem State.putPos_other {s : State} {n slot i j : Nat} {p q : Pos} (hij : i ≠ j) (h : s.holdsPos n slot j p) :
    (s.putPos n slot i q).holdsPos n slot j p := by
  have hdiv : i / 1024 ≠ j / 1024 ∨ i % 1024 ≠ j % 1024 := by omega
  obtain ⟨hacc, hsum⟩ := h
  constructor
  · rw [State.putPos, State.localNum_localPut_other _ (by unfold sumAddr accAddr; omega),
      State.localNum_localPut_other _ (by unfold accAddr; omega), hacc]
  · rw [State.putPos, State.localNum_localPut_other _ (by unfold sumAddr accAddr; omega),
      State.localNum_localPut_other _ (by unfold sumAddr accAddr; omega), hsum]

theorem State.holdsPos_congr {s t : State} (h : t.cores.lstore = s.cores.lstore) {n slot j : Nat} {p : Pos} (hs : s.holdsPos n slot j p) :
    t.holdsPos n slot j p := by
  rw [State.holdsPos, State.localNum_congr h, State.localNum_congr h]
  exact hs

theorem State.setSlot_busy (s : State) (n k j : Nat) {x : SlotMeta} (h : x.busy = (s.slot n k).busy) :
    ((s.setSlot n k x).slot n j).busy = (s.slot n j).busy := by
  rw [State.setSlot_slot]
  split
  next hj => rw [h, hj]
  next => rfl

/-- One slot of a tile marked for a block (R115, R156). -/
def State.openSlot (s : State) (n ctx : Nat) (m : MatBlk) (i : Nat) : State :=
  let x := s.slot n (m.slot + i)
  let x := if m.accMode then { x with busy := true } else { SlotMeta.reset with busy := true }
  s.setSlot n (m.slot + i) { x with abandoned := x.abandoned || s.cores.taint.contains (n, ctx) }

theorem State.openSlots_eq (s : State) (n ctx : Nat) (m : MatBlk) (o : Desc) :
    s.openSlots n ctx m o = (List.range (slotsNeeded o)).foldl (fun s i => s.openSlot n ctx m i) s := rfl

theorem State.openSlot_busy {s : State} {n : Nat} (ctx : Nat) {m : MatBlk} (i : Nat) {j : Nat}
    (h : i = j ∨ (s.slot n (m.slot + j)).busy = true) : ((s.openSlot n ctx m i).slot n (m.slot + j)).busy = true := by
  simp only [State.openSlot, State.setSlot_slot]
  split
  · cases m.accMode <;> rfl
  · exact h.resolve_left (by omega)

/-- The slots of a block's tile are in use (R115). -/
theorem State.openSlots_busy (s : State) (n ctx : Nat) (m : MatBlk) (o : Desc) {j : Nat} (hj : j < slotsNeeded o) :
    ((s.openSlots n ctx m o).slot n (m.slot + j)).busy = true := by
  have hall : ∀ (l : List Nat) (t : State), j ∈ l ∨ (t.slot n (m.slot + j)).busy = true →
      ((l.foldl (fun s i => s.openSlot n ctx m i) t).slot n (m.slot + j)).busy = true := by
    intro l
    induction l with
    | nil => exact fun t h => h.resolve_left List.not_mem_nil
    | cons i l ih =>
      intro t h
      by_cases hij : i = j
      · exact ih _ (.inr (State.openSlot_busy ctx i (.inl hij)))
      · exact ih _ (h.imp (fun h => (List.mem_cons.1 h).resolve_left (Ne.symm hij)) fun h => State.openSlot_busy ctx i (.inr h))
  rw [State.openSlots_eq]
  exact hall _ s (.inl (List.mem_range.2 hj))

end Sys2Proof.Machine
end

section
/-! PROOFS. Settles MatrixBlocks (O42): a block's operands are those at its begin, its positions lie apart in its slots, and its cycles follow its begin. -/

namespace Sys2Proof.Machine

/-! ### The same operands (R108 to R117) -/

/-- The same armatures, local stores and slots: what a block's products are formed of. -/
structure State.SameOperands (s t : State) : Prop where
  lstore : t.cores.lstore = s.cores.lstore
  slots : t.cores.slots = s.cores.slots
  arms : t.arms = s.arms
  active : ∀ b, (t.bed b).active = (s.bed b).active
  parts : t.get pgGlobals .PART_LOG2 = s.get pgGlobals .PART_LOG2
  step : ∀ b, t.get (pgBed b) .STEP_CNT = s.get (pgBed b) .STEP_CNT

namespace State.SameOperands

variable {s t u : State}

theorem trans (h : SameOperands s t) (k : SameOperands t u) : SameOperands s u :=
  ⟨k.lstore.trans h.lstore, k.slots.trans h.slots, k.arms.trans h.arms, fun b => (k.active b).trans (h.active b),
    k.parts.trans h.parts, fun b => (k.step b).trans (h.step b)⟩

theorem of_beside (h : Beside (fun c => (c.lstore, c.slots)) s t) : SameOperands s t :=
  ⟨congrArg Prod.fst h.cores, congrArg Prod.snd h.cores, h.arms, h.active, h.regs _ _ (by decide) _, fun _ => h.regs _ _ (by decide) _⟩

theorem bump_issued (n : Nat) : SameOperands s (s.bump (pgCore .coreSub2 n) .BLOCKS_ISSUED) :=
  ⟨rfl, rfl, rfl, fun _ => rfl, State.get_put_fld _ _ _ _ _ _ (by decide), fun _ => State.get_put_fld _ _ _ _ _ _ (by decide)⟩

variable (h : SameOperands s t)
include h

theorem armOf (b : Nat) : t.armOf b = s.armOf b := by
  have hpart : t.partOf b = s.partOf b := by simp only [State.partOf, State.partSize, State.partCount, h.parts]
  unfold State.armOf State.fileOf State.armSlot
  rw [h.active, hpart, h.arms]

theorem coreDesc (b c k : Nat) : t.coreDesc b c k = s.coreDesc b c k := by simp only [State.coreDesc, h.armOf]

theorem localByte : t.localByte = s.localByte := State.localByte_congr h.lstore

theorem unitAt : t.unitAt = s.unitAt := by
  funext n o pos k
  simp only [State.unitAt, State.operandTile, State.localBytesAt, h.localByte]

theorem prodOf (b c e : Nat) (m : MatBlk) : t.prodOf b c e m = s.prodOf b c e m := by
  have hmask : t.rowMask (coreNo b c) m = s.rowMask (coreNo b c) m := by
    funext u k i
    simp only [State.rowMask, State.localBit, h.localByte]
  simp only [State.prodOf, State.operands, State.unitsOf, State.localBit, h.coreDesc, h.armOf, h.localByte, hmask]

theorem posAt (n : Nat) (m : MatBlk) (j : Nat) : t.posAt n m j = s.posAt n m j := by
  simp only [State.posAt, State.localNum_congr h.lstore, State.slot, h.slots]

theorem posRun : t.posRun = s.posRun := by
  funext n p key r c from_
  simp only [State.posRun, h.unitAt]

end State.SameOperands

/-! ### Positions put into their slots (R114) -/

theorem State.countSats_lstore (s : State) (n k : Nat) : (s.countSats n k).cores.lstore = s.cores.lstore := by
  unfold State.countSats
  split <;> rfl

/-- A position that the list holds once over stands in its slot. -/
theorem State.putAll_holds (s : State) (b c e : Nat) (i : Issue) (k : Nat) (m : MatBlk) (p : MatProd) (count : Nat) (ends : List Nat)
    (start : Nat) (l : List ((Nat × Nat) × Nat × Nat × Pos)) {j : Nat} {x : Pos} (hslot : m.slot + j / 1024 < 12)
    (hmem : ∃ y ∈ l, y.2.1 = j) (hall : ∀ y ∈ l, y.2.1 = j → y.2.2.2 = x) :
    (s.putAll b c e i k m p count ends start l).holdsPos (coreNo b c) m.slot j x := by
  have hfold : ∀ (l : List ((Nat × Nat) × Nat × Nat × Pos)) (t : State), (∀ y ∈ l, y.2.1 = j → y.2.2.2 = x) →
      (∃ y ∈ l, y.2.1 = j) ∨ t.holdsPos (coreNo b c) m.slot j x →
      (l.foldl (fun t x => ((t.putPos (coreNo b c) m.slot x.2.1 x.2.2.2).raiseFlags (coreNo b c) x.2.2.2.fl).countSats (coreNo b c)
        x.2.2.2.sats) t).holdsPos (coreNo b c) m.slot j x := by
    intro l
    induction l with
    | nil => exact fun t _ h => h.resolve_left fun ⟨_, h, _⟩ => absurd h List.not_mem_nil
    | cons y l ih =>
      intro t hall h
      obtain ⟨hy, hl⟩ := List.forall_mem_cons.1 hall
      have hstore : (((t.putPos (coreNo b c) m.slot y.2.1 y.2.2.2).raiseFlags (coreNo b c) y.2.2.2.fl).countSats (coreNo b c)
          y.2.2.2.sats).cores.lstore = (t.putPos (coreNo b c) m.slot y.2.1 y.2.2.2).cores.lstore :=
        (State.countSats_lstore ..).trans (State.Beside.raiseFlags (γ := CoreSt.lstore) _ _).cores
      refine ih _ hl ?_
      by_cases hj : y.2.1 = j
      · refine .inr (State.holdsPos_congr hstore ?_)
        rw [hj, hy hj]
        exact State.putPos_holds _ _ _ hslot
      · refine h.imp (fun ⟨z, hz, hzj⟩ => ?_) fun h => State.holdsPos_congr hstore (State.putPos_other hj h)
        exact ⟨z, (List.mem_cons.1 hz).resolve_left fun h => hj (h ▸ hzj), hzj⟩
  have hput := hfold l s hall (.inl hmem)
  simp only [State.putAll]
  split
  · exact hput
  · exact State.holdsPos_congr (State.Beside.captureNf (γ := CoreSt.lstore) _ _ _ _).cores hput

/-! ### A matrix block's run (R70, R111, R115) -/

/-- What a block's run must not move: where its engine stands in the frame. -/
def engineCells (c : CoreSt) : Tab (Nat × Nat) Nat × Tab (Nat × Nat) Nat := (c.cursor, c.endCyc)

section Run

variable (s : State) (b c e : Nat) (i : Issue) (k at_ : Nat) (m : MatBlk)

/-- A position of a tile as the block leaves it. -/
def State.tilePos (x : Nat × Nat) : Pos :=
  s.posRun (coreNo b c) (s.prodOf b c e m) (spillKey (s.coreDesc b c m.outDesc) (s.get (pgBed b) .STEP_CNT) ((s.prodOf b c e m).row + x.1)
    ((s.prodOf b c e m).col + x.2)) x.1 x.2 (s.posAt (coreNo b c) m (x.1 * (s.coreDesc b c m.outDesc).ct + x.2))

/-- The positions of a tile, each with its number in its slots. -/
def State.tilePositions : List ((Nat × Nat) × Nat × Nat × Pos) :=
  (s.prodOf b c e m).places.map fun x => (x, x.1 * (s.coreDesc b c m.outDesc).ct + x.2, x.1 * (s.coreDesc b c m.outDesc).ct + x.2,
    s.tilePos b c e m x)

theorem State.mem_tilePositions {y : (Nat × Nat) × Nat × Nat × Pos} : y ∈ s.tilePositions b c e m ↔
    ∃ r q, r < (s.coreDesc b c m.outDesc).rt ∧ q < (s.coreDesc b c m.outDesc).ct ∧
      ((r, q), r * (s.coreDesc b c m.outDesc).ct + q, r * (s.coreDesc b c m.outDesc).ct + q, s.tilePos b c e m (r, q)) = y := by
  simp only [State.tilePositions, MatProd.places, List.mem_map, List.mem_flatMap, List.mem_range]
  constructor
  · rintro ⟨-, ⟨r, hr, q, hq, rfl⟩, rfl⟩
    exact ⟨r, q, hr, hq, rfl⟩
  · rintro ⟨r, q, hr, hq, rfl⟩
    exact ⟨(r, q), ⟨r, hr, q, hq, rfl⟩, rfl⟩

/-- Positions of a tile have their own numbers. -/
theorem tileNumber_inj {r r' q q' w : Nat} (hq : q < w) (hq' : q' < w) (h : r * w + q = r' * w + q') : r = r' ∧ q = q' := by
  have hw : 0 < w := by omega
  have hdiv := congrArg (· / w) h
  have hmod := congrArg (· % w) h
  simp only [Nat.mul_comm _ w, Nat.mul_add_div hw, Nat.mul_add_mod, Nat.div_eq_of_lt hq, Nat.div_eq_of_lt hq', Nat.mod_eq_of_lt hq,
    Nat.mod_eq_of_lt hq'] at hdiv hmod
  exact ⟨hdiv, hmod⟩

/-- A matrix block's run: its slots opened, its positions put into them, then the bookkeeping of its first slot. -/
theorem State.matrixRun_steps : ∃ (t : State) (count : Nat) (ends : List Nat) (x : SlotMeta) (stall : Nat),
    t = ((s.operandFaults b c (s.prodOf b c e m).x).operandFaults b c (s.prodOf b c e m).y).openSlots (coreNo b c) i.ctx m
      (s.coreDesc b c m.outDesc) ∧
    x.busy = ((t.putAll b c e i k m (s.prodOf b c e m) count ends (at_ + 12) (s.tilePositions b c e m)).slot (coreNo b c) m.slot).busy ∧
    s.matrixRun b c e i k at_ m =
      ((t.putAll b c e i k m (s.prodOf b c e m) count ends (at_ + 12) (s.tilePositions b c e m)).setSlot (coreNo b c) m.slot x).bump
        (pgCore .coreSub2 (coreNo b c)) .CORR_STALL stall := by
  refine ⟨_, _, _, _, _, rfl, ?_, rfl⟩
  rfl

theorem State.matrixRun_beside : Beside engineCells s (s.matrixRun b c e i k at_ m) := by
  obtain ⟨t, count, ends, x, stall, ht, -, hrun⟩ := s.matrixRun_steps b c e i k at_ m
  have hopen : Beside engineCells s t := by
    rw [ht]
    exact ((Beside.operandFaults _ _ _).trans (.operandFaults _ _ _)).trans (.openSlots (fun _ _ => rfl) _ _ _ _)
  rw [hrun]
  exact ((hopen.trans (.putAll (fun _ _ => rfl) (fun _ _ => rfl) _ _ _ _ _ _ _ _ _ _ _)).trans (.setSlot (fun _ _ => rfl) _ _ _)).trans
    (.bump _ _ _ _ (by decide))

theorem State.matrixRun_busy {j : Nat} (hj : j < slotsNeeded (s.coreDesc b c m.outDesc)) :
    ((s.matrixRun b c e i k at_ m).slot (coreNo b c) (m.slot + j)).busy = true := by
  obtain ⟨t, count, ends, x, stall, ht, hx, hrun⟩ := s.matrixRun_steps b c e i k at_ m
  have hslots := (Beside.putAll (γ := CoreSt.slots) (fun _ _ => rfl) (fun _ _ => rfl) b c e i k m (s.prodOf b c e m) count ends (at_ + 12)
    (s.tilePositions b c e m) (s := t)).cores
  rw [hrun]
  refine (State.setSlot_busy _ _ _ _ hx).trans ?_
  rw [State.slot, hslots, ht]
  exact State.openSlots_busy _ _ _ _ _ hj

theorem State.matrixRun_holds {r q : Nat} (hr : r < (s.coreDesc b c m.outDesc).rt) (hq : q < (s.coreDesc b c m.outDesc).ct)
    (hslot : m.slot + (r * (s.coreDesc b c m.outDesc).ct + q) / 1024 < 12) :
    (s.matrixRun b c e i k at_ m).holdsPos (coreNo b c) m.slot (r * (s.coreDesc b c m.outDesc).ct + q) (s.tilePos b c e m (r, q)) := by
  obtain ⟨t, count, ends, x, stall, -, -, hrun⟩ := s.matrixRun_steps b c e i k at_ m
  have hput := t.putAll_holds b c e i k m (s.prodOf b c e m) count ends (at_ + 12) (s.tilePositions b c e m) hslot
    ⟨_, (s.mem_tilePositions b c e m).2 ⟨r, q, hr, hq, rfl⟩, rfl⟩ (x := s.tilePos b c e m (r, q)) fun y hy hj => by
      obtain ⟨r', q', -, hq', rfl⟩ := (s.mem_tilePositions b c e m).1 hy
      obtain ⟨rfl, rfl⟩ := tileNumber_inj hq' hq hj
      rfl
  rw [hrun]
  refine State.holdsPos_congr ?_ hput
  rw [State.bump_cores]
  rfl

/-! ### A norm block's run (R118, R119) -/

/-- A norm block's run: its slots opened, its examples in turn, then the bookkeeping of its first slot. -/
theorem State.normRun_steps : ∃ (t v : State) (x : SlotMeta) (stall : Nat),
    t = (((s.gramOperands b c m).foldl (fun (t : State) x => t.operandFaults b c x) s).countSamples b (if m.accMode then 0 else m.exCount)) ∧
    (∀ {β : Type} (γ : CoreSt → β), (∀ (c : CoreSt) (l : List Host.Cell), γ { c with lstore := l } = γ c) →
      (∀ (c : CoreSt) (l : Tab Nat Nat), γ { c with intSats := l } = γ c) →
      Beside γ (t.openSlots (coreNo b c) i.ctx m (s.coreDesc b c m.outDesc)) v) ∧
    x.busy = (v.slot (coreNo b c) m.slot).busy ∧
    s.normRun b c e i k at_ m = (v.setSlot (coreNo b c) m.slot x).bump (pgCore .coreSub2 (coreNo b c)) .CORR_STALL stall := by
  refine ⟨_, _, _, _, rfl, ?_, ?_, rfl⟩
  · intro β γ hstore hsats
    exact List.foldlRecOn (motive := fun (x : State × Nat) => Beside γ _ x.1) _ _ .rfl fun _ hx _ _ =>
      (hx.trans (.gramPut hstore hsats _ _ _ _ _ _ _ _ _)).trans (.normEntry hstore _ _ _ _ _ _ _ _ _ _)
  · rfl

theorem State.normRun_beside : Beside engineCells s (s.normRun b c e i k at_ m) := by
  obtain ⟨t, v, x, stall, ht, hv, -, hrun⟩ := s.normRun_steps b c e i k at_ m
  have hfaults : Beside engineCells s t := by
    rw [ht]
    exact (Beside.foldl (fun _ _ => .operandFaults _ _ _) _ _).trans (.countSamples _ _)
  rw [hrun]
  exact (((hfaults.trans (.openSlots (fun _ _ => rfl) _ _ _ _)).trans (hv engineCells (fun _ _ => rfl) fun _ _ => rfl)).trans
    (.setSlot (fun _ _ => rfl) _ _ _)).trans (.bump _ _ _ _ (by decide))

theorem State.normRun_busy {j : Nat} (hj : j < slotsNeeded (s.coreDesc b c m.outDesc)) :
    ((s.normRun b c e i k at_ m).slot (coreNo b c) (m.slot + j)).busy = true := by
  obtain ⟨t, v, x, stall, -, hv, hx, hrun⟩ := s.normRun_steps b c e i k at_ m
  have hslots := (hv CoreSt.slots (fun _ _ => rfl) fun _ _ => rfl).cores
  rw [hrun]
  refine (State.setSlot_busy _ _ _ _ hx).trans ?_
  rw [State.slot, hslots]
  exact State.openSlots_busy _ _ _ _ _ hj

/-! ### What a block leaves in its slots (R70, R114, R115, R118) -/

/-- A block's slots after its run, from the operands at its begin: they are busy, and outside norm mode they hold the sums of its K-units. -/
structure State.RanBlock (w : State) : Prop where
  busy : ∀ j < slotsNeeded (s.coreDesc b c m.outDesc), (w.slot (coreNo b c) (m.slot + j)).busy = true
  holds : m.normMode = false → ∀ r q, r < (s.coreDesc b c m.outDesc).rt → q < (s.coreDesc b c m.outDesc).ct →
    m.slot + (r * (s.coreDesc b c m.outDesc).ct + q) / 1024 < 12 →
    w.holdsPos (coreNo b c) m.slot (r * (s.coreDesc b c m.outDesc).ct + q) (s.tilePos b c e m (r, q))

theorem State.matrixRun_ran : s.RanBlock b c e m (s.matrixRun b c e i k at_ m) :=
  ⟨fun _ => s.matrixRun_busy b c e i k at_ m, fun _ _ _ => s.matrixRun_holds b c e i k at_ m⟩

theorem State.normRun_ran (h : m.normMode = true) : s.RanBlock b c e m (s.normRun b c e i k at_ m) :=
  ⟨fun _ => s.normRun_busy b c e i k at_ m, fun hnorm => absurd (h.symm.trans hnorm) (by decide)⟩

variable {s}

theorem State.SameOperands.tilePos {t : State} (h : SameOperands s t) : t.tilePos b c e m = s.tilePos b c e m := by
  funext x
  simp only [State.tilePos, h.posRun, h.prodOf, h.coreDesc, h.step, h.posAt]

theorem State.RanBlock.of_sameOperands {t w : State} (h : SameOperands s t) (hran : t.RanBlock b c e m w) : s.RanBlock b c e m w := by
  obtain ⟨hbusy, hholds⟩ := hran
  rw [h.coreDesc] at hbusy hholds
  rw [h.tilePos] at hholds
  exact ⟨hbusy, hholds⟩

end Run

/-! ### A block's begin and its cycles (R111, R122, R123) -/

theorem State.started_steps (s : State) (b c e : Nat) (i : Issue) (k at_ len : Nat) : ∃ t u : State,
    t = (s.slip (coreNo b c) (at_ - i.start)).bump (pgCore .coreSub2 (coreNo b c)) .BLOCKS_ISSUED ∧
    u = t.setCores { t.cores with
      cursor := t.cores.cursor.put (coreNo b c, e) (k + 1), endCyc := t.cores.endCyc.put (coreNo b c, e) (at_ + len) } ∧
    Beside id u (s.started b c e i k at_ len) :=
  ⟨_, _, rfl, rfl, ((Beside.put _ _ _ _ (by decide)).trans (.put _ _ _ _ (by decide))).trans (.put _ _ _ _ (by decide))⟩

/-- What an entry's begin leaves of its state, and where it puts its engine. -/
structure State.Started (s t : State) (n e next ends : Nat) : Prop where
  same : SameOperands s t
  mem : t.mem = s.mem
  cursor : t.cores.cursor.get (n, e) 0 = next
  endCyc : t.cores.endCyc.get (n, e) 0 = ends
  issued : t.get (pgCore .coreSub2 n) .BLOCKS_ISSUED = satAdd 64 (s.get (pgCore .coreSub2 n) .BLOCKS_ISSUED) 1

theorem State.started_started (s : State) (b c e : Nat) (i : Issue) (k at_ len : Nat) :
    s.Started (s.started b c e i k at_ len) (coreNo b c) e (k + 1) (at_ + len) := by
  obtain ⟨t, u, ht, hu, hput⟩ := s.started_steps b c e i k at_ len
  have hslip : ∀ {β : Type} (γ : CoreSt → β), Beside γ s (s.slip (coreNo b c) (at_ - i.start)) := fun _ => .slip _ _
  have hsame : SameOperands s u := by
    rw [hu, ht]
    exact ((SameOperands.of_beside (hslip _)).trans (.bump_issued _)).trans (.of_beside (.setCores rfl))
  have hcores : (s.started b c e i k at_ len).cores = u.cores := hput.cores
  refine ⟨hsame.trans (.of_beside (hput.map fun c => (c.lstore, c.slots))), ?_, ?_, ?_, ?_⟩
  · rw [hput.mem, hu, ht]
    exact (hslip noCores).mem
  · rw [hcores, hu]
    exact Tab.get_put_same ..
  · rw [hcores, hu]
    exact Tab.get_put_same ..
  · rw [hput.regs _ .BLOCKS_ISSUED (by decide), ← (hslip noCores).regs _ .BLOCKS_ISSUED (by decide), hu, ht]
    exact State.get_bump_satAdd ..

theorem State.le_subEnds (s : State) (n : Nat) (p : MatProd) (count : Nat) (endK : Bool) (start : Nat) :
    start ≤ (s.subEnds n p count endK start).getLastD start := by
  obtain ⟨hle, hlast⟩ := List.foldlRecOn (motive := fun x : Nat × List Nat => start ≤ x.1 ∧ x.2.getLastD start = x.1) p.subs
    (fun a sub => (a.1 + s.subCycles n p count endK sub, a.2 ++ [a.1 + s.subCycles n p count endK sub])) (b := (start, [])) ⟨le_rfl, rfl⟩
    fun a ⟨hle, _⟩ sub _ => ⟨Nat.le_add_right_of_le hle, List.getLastD_concat ..⟩
  exact hle.trans hlast.ge

theorem State.le_gramCycles (s : State) (b c : Nat) (m : MatBlk) : 12 ≤ s.gramCycles b c m := by
  have hfold : ∀ {ι : Type} (f : Nat → ι → Nat) (l : List ι) (a : Nat), (∀ a x, a ≤ f a x) → a ≤ l.foldl f a := fun f l a hf =>
    List.foldlRecOn (motive := (a ≤ ·)) l f le_rfl fun x hx y _ => hx.trans (hf x y)
  exact hfold _ _ _ fun a _ => hfold _ _ a fun a _ => hfold _ _ a fun a x => Nat.le_add_right a x

/-- A block that begins: its run from the state in which it has started, and what it notes of it. -/
theorem exec_matrixInstructionBlock_begins {b : Bed} {c : Core} {e : Fin 3} {ready : Nat} {s u : State} {i : Issue} {k t : Nat}
    (hdue : s.dueEntry b.val c.val e.val ready = (u, some (i, k, t))) : ∃ (w : State) (x : Running),
    exec (.matrixInstructionBlock b c e ready) s =
      .next (w.setCores { w.cores with running := w.cores.running.put (coreNo b.val c.val, e.val) x }) ∧
    t + 12 ≤ x.endCycle ∧
    (x.entry = k ∧ x.ctx = i.ctx ∧ x.opId = i.opId ∧ x.layer = i.layer ∧ x.blockOff = i.blockOff ∧ x.arm = (w.bed b.val).active ∧
      x.step = w.get (pgBed b.val) .STEP_CNT) ∧
    State.Beside engineCells (u.started b.val c.val e.val i k t (x.endCycle - t)) w ∧ u.RanBlock b.val c.val e.val (u.blkOf b.val i) w := by
  have hexec : exec (.matrixInstructionBlock b c e ready) s = execMatrixInstructionBlock b c e ready s := rfl
  rw [hexec, execMatrixInstructionBlock, hdue]
  have hsame := fun len => (u.started_started b.val c.val e.val i k t len).same
  cases hnorm : (u.blkOf b.val i).normMode with
  | true =>
    simp only [hnorm, if_true]
    refine ⟨_, _, rfl, Nat.add_le_add_left (u.le_gramCycles _ _ _) t, ⟨rfl, rfl, rfl, rfl, rfl, rfl, rfl⟩, ?_, ?_⟩
    · exact State.normRun_beside ..
    · exact State.RanBlock.of_sameOperands _ _ _ _ (hsame _) (State.normRun_ran _ _ _ _ _ _ _ _ hnorm)
  | false =>
    simp only [hnorm, Bool.false_eq_true, if_false]
    refine ⟨_, _, rfl, u.le_subEnds _ _ _ _ _, ⟨rfl, rfl, rfl, rfl, rfl, rfl, rfl⟩, ?_, ?_⟩
    · exact (State.Beside.result _ _ _ _).trans (State.matrixRun_beside ..)
    · exact State.RanBlock.of_sameOperands _ _ _ _ ((hsame _).trans (.of_beside (.result _ _ _ _))) (State.matrixRun_ran ..)

/-- Settles O42: a block's run is from its begin, which leaves its operands; what follows the run is the engine's own note. -/
theorem matrixBlocks : Obligations.MatrixBlocks := by
  unfold Obligations.MatrixBlocks
  intro b c e ready s u i k t hdue
  have hskip : State.Beside noCores s u := by simpa only [hdue] using State.Beside.dueEntry (s := s) b.val c.val e.val ready
  obtain ⟨w, x, hexec, hlast, ⟨hentry, hctx, hop, hlayer, hblock, harm, hstep⟩, hrun, ⟨hbusy, hholds⟩⟩ :=
    exec_matrixInstructionBlock_begins hdue
  have hstart := u.started_started b.val c.val e.val i k t (x.endCycle - t)
  have hcells := hrun.cores
  refine ⟨_, x, hexec, Tab.find?_put_same .., hlast, hentry, hctx, hop, hlayer, hblock, ?_, ?_, ?_, ?_, ?_, ?_, hbusy, ?_⟩
  · rw [harm, hrun.active, hstart.same.active, hskip.active]
  · rw [hstep, hrun.regs _ _ (by decide), hstart.same.step, hskip.regs _ _ (by decide)]
  · exact (congrArg (Tab.get · _ 0) (congrArg Prod.fst hcells)).trans hstart.cursor
  · refine ((congrArg (Tab.get · _ 0) (congrArg Prod.snd hcells)).trans hstart.endCyc).trans ?_
    omega
  · rw [← hskip.regs _ .BLOCKS_ISSUED (by decide)]
    exact (hrun.regs _ .BLOCKS_ISSUED (by decide) _).trans hstart.issued
  · exact hrun.mem.trans (hstart.mem.trans hskip.mem)
  · intro hnorm r q hr hq hslot
    obtain ⟨hacc, hsum⟩ := hholds hnorm r q hr hq hslot
    exact ⟨_, rfl, hacc, hsum⟩

end Sys2Proof.Machine
end

section
/-! PROOFS. Refutes PrecisionEvents (O38): its last clause asks nothing of the layer precision page, and a boundary evaluates no layer while CTL.RUN has stopped that page. -/

namespace Sys2Proof.Machine

/-- While CTL.RUN has stopped the layer precision page a boundary evaluates no layer: it only spends the certified trips (R31). -/
theorem State.evalLayers_halted {s : State} {q : Nat} (h : s.halts (pgLayer (s.partFirst q)) = true) (step : Nat) :
    s.evalLayers q step = s.setPart q { s.part q with tripped := [] } := by
  simp only [State.evalLayers, h, if_true]

/-- No layer of partition 0 has a certified trip, and the page that shows its layers is halted. -/
theorem layerPageHalted_halts : layerPageHalted.halts (pgLayer (layerPageHalted.partFirst 0)) = true ∧
    (layerPageHalted.part 0).tripped = [] := by
  decide

/-- On its own, the evaluation of layer 0 counts the step just completed (R102). -/
theorem evalLayer_layerPageHalted : (layerPageHalted.evalLayer 0 (layerPageHalted.partArm 0) 0 0).get
    (pgLayer (layerPageHalted.partFirst 0)) .STEPS_IN_STATE 0 = 1 := by
  decide

/-- Before the boundary layer 0 has completed no step. -/
theorem stepsInState_layerPageHalted : layerPageHalted.get (pgLayer (layerPageHalted.partFirst 0)) .STEPS_IN_STATE 0 = 0 := by
  decide

/-- Refutes O38: on `layerPageHalted` no trip is certified, and the boundary leaves STEPS_IN_STATE of layer 0 at 0 (`State.evalLayers_halted`), where the clause has it at 1 as `State.evalLayer` does. -/
theorem not_precisionEvents : ¬ Obligations.PrecisionEvents := by
  rintro ⟨-, -, -, -, -, boundary⟩
  obtain ⟨hhalt, htrips⟩ := layerPageHalted_halts
  have h := boundary 0 0 0 layerPageHalted (by decide) (by simp [htrips]) .STEPS_IN_STATE (by decide)
  rw [evalLayer_layerPageHalted, State.evalLayers_halted hhalt] at h
  exact absurd (stepsInState_layerPageHalted.symm.trans h) (by decide)

end Sys2Proof.Machine
end

section
/-! PROOFS. What the outcome of a vote leaves of the other votes and of the partitions (`State.SameBallots`): beds that are held (R153, R305), switches that are refused (R152), lines that are released (R174), buckets that settle (R258). -/

namespace Sys2Proof.Machine

/-- The votes and their failures are counted as before; a partition has the same losses and plans, joins no group, and is still to rejoin one if it was. -/
structure State.SameBallots (s t : State) : Prop where
  votes : t.red.votes = s.red.votes
  fails : ∀ p, t.get p .VOTE_FAIL = s.get p .VOTE_FAIL
  lost : ∀ q, (t.part q).lost = (s.part q).lost
  changes : ∀ q, (t.part q).changes = (s.part q).changes
  left : ∀ q, (s.part q).member = false → (t.part q).member = false
  rejoin : ∀ q ∈ s.fab.rejoin, q ∈ t.fab.rejoin

namespace State.SameBallots

variable {s t u : State}

theorem refl (s : State) : SameBallots s s := ⟨rfl, fun _ => rfl, fun _ => rfl, fun _ => rfl, fun _ => id, fun _ => id⟩

theorem ite {c : Prop} {_ : Decidable c} (ht : SameBallots s t) (hu : SameBallots s u) : SameBallots s (if c then t else u) := by
  split
  · exact ht
  · exact hu

theorem foldl {α : Type} {f : State → α → State} {l : List α} (h : SameBallots s t)
    (hf : ∀ u a, SameBallots s u → SameBallots s (f u a)) : SameBallots s (l.foldl f t) :=
  List.foldlRecOn l f h fun u hu a _ => hf u a hu

/-- Any state with the registers, partitions, fabric and reduction of one that keeps the ballots keeps them. -/
theorem frame (h : SameBallots s t)
    {pending free out latches coarse staging directory stops halted once time pw beds arms cores mem upd noise evr sec host isl tap} :
    SameBallots s ⟨pending, free, out, t.regs, latches, coarse, staging, directory, stops, halted, once, time, pw, beds, t.parts, arms,
      cores, mem, upd, t.fab, t.red, noise, evr, sec, host, isl, tap⟩ := ⟨h.votes, h.fails, h.lost, h.changes, h.left, h.rejoin⟩

/-! ### Registers and records -/

theorem put (h : SameBallots s t) {p : Page} {f : Fld} {v i : Nat} (hf : .VOTE_FAIL ≠ f := by decide) : SameBallots s (t.put p f v i) where
  votes := h.votes
  fails q := (State.get_put_fld _ _ _ _ _ _ hf).trans (h.fails q)
  lost := h.lost
  changes := h.changes
  left := h.left
  rejoin := h.rejoin

theorem bump (h : SameBallots s t) {p : Page} {f : Fld} {n i : Nat} (hf : .VOTE_FAIL ≠ f := by decide) : SameBallots s (t.bump p f n i) := h.put hf

theorem evt (h : SameBallots s t) {p : Page} {b : Nat} : SameBallots s (t.evt p b) := h.put

theorem record (h : SameBallots s t) {c : Nat} {p : Page} {d : List Byte} : SameBallots s (t.record c p d) where
  votes := (congrArg RedSt.votes (State.record_red ..)).trans h.votes
  fails q := (State.record_get _ _ _ _ _ _ rfl fun _ => by decide).trans (h.fails q)
  lost q := (congrArg (fun l => (Tab.get l q PartSt.reset).lost) (State.record_parts ..)).trans (h.lost q)
  changes q := (congrArg (fun l => (Tab.get l q PartSt.reset).changes) (State.record_parts ..)).trans (h.changes q)
  left q hq := (congrArg (fun l => (Tab.get l q PartSt.reset).member) (State.record_parts ..)).trans (h.left q hq)
  rejoin q hq := by rw [State.record_fab]; exact h.rejoin q hq

theorem raise (h : SameBallots s t) {p : Page} {b : Nat} {d : List Byte} : SameBallots s (t.raise p b d) := h.evt.record

theorem setRed (h : SameBallots s t) {r : RedSt} (hr : r.votes = t.red.votes) : SameBallots s (t.setRed r) :=
  ⟨hr.trans h.votes, h.fails, h.lost, h.changes, h.left, h.rejoin⟩

/-! ### Beds that enter Hold (R153, R305) -/

theorem setCores (h : SameBallots s t) {c : CoreSt} : SameBallots s (t.setCores c) := h.frame

theorem setBed (h : SameBallots s t) {b : Nat} {x : BedSt} : SameBallots s (t.setBed b x) := h.frame

theorem onCores (h : SameBallots s t) {b : Nat} {g : State → Nat → State} (hg : ∀ u c, SameBallots s u → SameBallots s (g u c)) :
    SameBallots s (t.onCores b g) := .ite h (h.foldl hg)

theorem abandon (h : SameBallots s t) {c k n : Nat} : SameBallots s (t.abandon c k n) := h.foldl fun _ _ h => h.setCores

theorem skipMatrix (h : SameBallots s t) {b c : Nat} {arm : Option Nat} {m : MatBlk} : SameBallots s (t.skipMatrix b c arm m) :=
  .ite (.ite (h.abandon.foldl fun _ _ h => h.frame) h.abandon) (.ite h.abandon.setCores h.abandon)

theorem skipEntry (h : SameBallots s t) {b c e : Nat} {i : Issue} : SameBallots s (t.skipEntry b c e i) :=
  .ite (.ite h.bump.skipMatrix h.bump) h

theorem skipEngine (h : SameBallots s t) {b c e : Nat} : SameBallots s (t.skipEngine b c e) :=
  (h.foldl fun _ _ h => h.skipEntry).setCores

theorem skipXfer (h : SameBallots s t) {b c x : Nat} : SameBallots s (t.skipXfer b c x) :=
  .ite h.bump.setCores h.bump.setCores.setCores

theorem skipXfers (h : SameBallots s t) {b c x : Nat} : SameBallots s (t.skipXfers b c x) :=
  (h.foldl fun _ _ h => h.skipXfer).setCores

theorem skipFrame (h : SameBallots s t) {b : Nat} : SameBallots s (t.skipFrame b) :=
  h.onCores fun _ _ h => (h.foldl fun _ _ h => h.skipEngine).foldl fun _ _ h => h.skipXfers

theorem stopEngine (h : SameBallots s t) {b c e : Nat} : SameBallots s (t.stopEngine b c e) := by
  unfold State.stopEngine
  split
  · exact h
  · exact .ite h.setCores.bump.put.skipMatrix h.setCores.bump.put

theorem stopXfer (h : SameBallots s t) {b c x : Nat} : SameBallots s (t.stopXfer b c x) := .ite h.setCores.skipXfer h

theorem stopRunning (h : SameBallots s t) {b : Nat} : SameBallots s (t.stopRunning b) :=
  h.onCores fun _ _ h => (h.foldl fun _ _ h => h.stopEngine).foldl fun _ _ h => h.stopXfer

theorem askUnits (h : SameBallots s t) {b : Nat} : SameBallots s (t.askUnits b) := h.frame

theorem dropPending (h : SameBallots s t) {b : Nat} : SameBallots s (t.dropPending b) := by
  unfold State.dropPending
  split
  · exact h
  · exact .ite h.setBed.put.setBed.put.put h.setBed.put

theorem endStops (h : SameBallots s t) {b : Nat} : SameBallots s (t.endStops b) := h.foldl fun _ _ h => h.frame.put

theorem setSeq (h : SameBallots s t) {b st : Nat} : SameBallots s (t.setSeq b st) :=
  .ite (h.frame.endStops.put.put) (h.put.put)

theorem holdBed (h : SameBallots s t) {b cause : Nat} : SameBallots s (t.holdBed b cause) :=
  .ite h.dropPending.setSeq.record (.ite h.stopRunning.skipFrame.askUnits.dropPending.setSeq.setBed h)

theorem holdBeds (h : SameBallots s t) {l : List Nat} {cause : Nat} : SameBallots s (t.holdBeds l cause) := h.foldl fun _ _ h => h.holdBed

end State.SameBallots

/-- A mark stays when another is set. -/
theorem mem_setMark_of_mem {l : List Nat} {x : Nat} (y : Nat) (h : x ∈ l) : x ∈ setMark l y true := by
  simp only [setMark, if_true]
  split
  · exact h
  · exact List.mem_cons_of_mem _ h

theorem mem_setMark_same (l : List Nat) (x : Nat) : x ∈ setMark l x true :=
  List.contains_iff_mem.1 (contains_setMark_same l x true)

/-- A partition that leaves its group is no member. -/
theorem State.leaveGroup_member (s : State) (q : Nat) : ((s.leaveGroup q).part q).member = false := by
  unfold State.leaveGroup
  split
  · exact congrArg PartSt.member (State.setPart_part ..)
  next h => exact Bool.eq_false_iff.2 h

/-- A partition that leaves its group changes its own membership alone. -/
theorem State.setPart_member (s : State) (q r : Nat) :
    (s.setPart q { s.part q with member := false }).part r = { s.part r with member := (s.part r).member && r != q } := by
  by_cases h : r = q
  · subst h
    simp
  · rw [State.setPart_part_ne _ _ h, bne_iff_ne.2 h, Bool.and_true]

namespace State.SameBallots

variable {s t : State}

theorem leaveGroup (h : SameBallots s t) {p : Nat} : SameBallots s (t.leaveGroup p) := by
  refine .ite ⟨h.votes, h.fails, fun q => ?_, fun q => ?_, fun q hq => ?_, fun q hq => mem_setMark_of_mem p (h.rejoin q hq)⟩ h
  · exact (congrArg PartSt.lost (t.setPart_member p q)).trans (h.lost q)
  · exact (congrArg PartSt.changes (t.setPart_member p q)).trans (h.changes q)
  · exact (congrArg PartSt.member (t.setPart_member p q)).trans (by rw [h.left q hq, Bool.false_and])

theorem leaveAll (h : SameBallots s t) : SameBallots s t.leaveAll := h.foldl fun _ _ h => h.leaveGroup

theorem enterHold (h : SameBallots s t) {cause : Nat} : SameBallots s (t.enterHold cause) :=
  .ite h (.ite (.ite h h.holdBeds.leaveAll.frame.put) (.ite h.frame h))

/-! ### Switches that are refused, lines that are released, buckets that settle (R152, R174, R258) -/

theorem refuseSwitch (h : SameBallots s t) {b : Nat} : SameBallots s (t.refuseSwitch b) := by
  unfold State.refuseSwitch
  split
  · exact h
  · exact (SameBallots.ite h.dropPending h.dropPending.setSeq).evt

theorem releaseLine (h : SameBallots s t) {l : Nat} : SameBallots s (t.releaseLine l) := by
  unfold State.releaseLine
  split
  · exact h
  · exact .ite (.ite h.frame h.frame) h.frame

theorem releaseGrads (h : SameBallots s t) {q step : Nat} : SameBallots s (t.releaseGrads q step) := by
  refine h.foldl fun _ _ h => h.foldl fun _ _ h => ?_
  split
  · exact .ite h.releaseLine h
  · exact h

theorem setNextExps (h : SameBallots s t) {q bucket step : Nat} {ok : Bool} : SameBallots s (t.setNextExps q bucket step ok) := by
  unfold State.setNextExps
  split
  · exact h
  · exact h.foldl fun _ _ h => h.setRed rfl

theorem onStep (h : SameBallots s t) {q step : Nat} {g : OpenStep → OpenStep} : SameBallots s (t.onStep q step g) := by
  unfold State.onStep
  split
  · exact h.setRed rfl
  · exact h

theorem settle (h : SameBallots s t) {q bucket step : Nat} {ok : Bool} : SameBallots s (t.settle q bucket step ok) := by
  unfold State.settle
  refine .ite h ?_
  extract_lets pg u1 _ u2 u3
  have hsettled : SameBallots s u2 := h.setNextExps.setRed rfl
  have hcounted : SameBallots s u3 := .ite hsettled hsettled.bump.evt.record
  split
  · exact .ite hcounted.put.onStep hcounted
  · exact hcounted

end State.SameBallots

end Sys2Proof.Machine
end

section
/-! PROOFS. Settles VoteDeadlines (O60): at a deadline the parts of a vote are acted on (`State.actedOn`), and its outcome follows from their certificates (R261). -/

namespace Sys2Proof.Machine

/-! ### Votes that are due (R261) -/

/-- A vote is due when a part of it is not acted on and two frames have begun since its own. -/
theorem State.mem_voteDue (s : State) (q code n f step : Nat) : (f, step) ∈ s.voteDue q code n ↔
    ∃ k v, (k, v) ∈ s.red.votes ∧ k.part = q ∧ k.code = code ∧ k.frame = f ∧ k.step = step ∧ f + 2 ≤ n ∧ v.acted = false := by
  simp only [State.voteDue, List.mem_eraseDups, List.mem_map, List.mem_filter, Bool.and_eq_true, decide_eq_true_eq, Bool.not_eq_true',
    Prod.mk.injEq]
  constructor
  · rintro ⟨⟨k, v⟩, ⟨hmem, ⟨hq, hcode, hn⟩, hacted⟩, rfl, rfl⟩
    exact ⟨k, v, hmem, hq, hcode, rfl, rfl, hn, hacted⟩
  · rintro ⟨k, v, hmem, hq, hcode, rfl, rfl, hn, hacted⟩
    exact ⟨(k, v), ⟨hmem, ⟨hq, hcode, hn⟩, hacted⟩, rfl, rfl⟩

/-- VOTE_DEADLINE is the lead bed's tick where it is due and some vote of the code is. -/
theorem exec_voteDeadline (q : Bed) (code : Nat) (s : State) : exec (.voteDeadline q code) s =
    .next (if s.tickDue (s.leadBed q.val) && !(s.voteDue q.val code (s.nextFrame (s.leadBed q.val))).isEmpty
      then s.tick (s.leadBed q.val) else s) := rfl

/-! ### Parts acted on -/

/-- A part of a vote acted on, with the certificate that its member used. -/
def Vote.actedOn (v : Vote) : Vote := { v with acted := true, cert := certOf v }

/-- The listed parts of votes acted on. -/
def State.actedOn (s : State) (l : List (VoteKey × Vote)) : State := l.foldl (fun s e => s.setVote e.1 e.2.actedOn) s

/-- Acting on parts changes the reduction's own state alone. -/
theorem State.actedOn_eq (s : State) (l : List (VoteKey × Vote)) : ∃ r, s.actedOn l = s.setRed r :=
  List.foldlRecOn (motive := fun t => ∃ r, t = s.setRed r) l _ ⟨s.red, rfl⟩ fun t ht e _ => by
    obtain ⟨r, rfl⟩ := ht
    exact ⟨_, rfl⟩

/-- A part that is in the list, or was acted on before, is acted on. -/
theorem State.actedOn_find {l : List (VoteKey × Vote)} {k : VoteKey} {v : Vote} (hsame : ∀ e ∈ l, e.1 = k → e.2 = v) {s : State}
    (h : s.red.votes.find? k = some v.actedOn ∨ (k, v) ∈ l) : (s.actedOn l).red.votes.find? k = some v.actedOn := by
  induction l generalizing s with
  | nil => exact h.resolve_right List.not_mem_nil
  | cons e l ih =>
    obtain ⟨hfirst, hrest⟩ := List.forall_mem_cons.1 hsame
    refine ih hrest (s := s.setVote e.1 e.2.actedOn) ?_
    by_cases hk : e.1 = k
    · left
      rw [← hk, ← hfirst hk]
      exact Tab.find?_put_same ..
    · refine h.imp (fun h => (Tab.find?_put_ne _ _ (Ne.symm hk)).trans h) fun h => ?_
      exact (List.mem_cons.1 h).resolve_left fun he => hk (congrArg Prod.fst he).symm

/-- Every part of a vote that is held is acted on at its deadline. -/
theorem State.actedOn_voteParts {s : State} {q code f step j : Nat} {v : Vote} (hj : j < 8)
    (hv : s.red.votes.find? ⟨q, code, f, step, j⟩ = some v) :
    (s.actedOn (s.voteParts q code f step)).red.votes.find? ⟨q, code, f, step, j⟩ = some v.actedOn := by
  refine State.actedOn_find (fun e he hk => ?_) (.inr ?_)
  · obtain ⟨i, -, hi⟩ := List.mem_filterMap.1 he
    obtain ⟨w, hw, rfl⟩ := Option.map_eq_some_iff.1 hi
    exact Option.some.inj (hw.symm.trans ((congrArg s.red.votes.find? hk).trans hv))
  · exact List.mem_filterMap.2 ⟨j, List.mem_range.2 hj, by rw [hv]; rfl⟩

/-! ### The outcome of a vote leaves every vote as it is -/

/-- The devices whose loss a certificate names and that were not lost before (R160). -/
def State.newLosses (s : State) (q : Nat) (l : List Int) : List Nat :=
  (onesOf l).filter fun d => decide (d < 8191) && !(s.part q).lost.contains d

/-- Losses noted with the partition, its plans and its open steps (R160, R239, R249). -/
def State.noteLosses (s : State) (q v : Nat) (ids : List Nat) : State :=
  (s.setPart q { s.part q with lost := (s.part q).lost ++ ids, changes := (s.part q).changes ++ [⟨ids, none, v + 5, none⟩] }).setRed
    { s.red with openStep := s.red.openStep.map fun e => (e.1, if e.1.1 = q then { e.2 with lost := e.2.lost ++ ids } else e.2) }

theorem State.mem_newLosses {s : State} {q d : Nat} {l : List Int} (hone : l.getD d 0 = 1) (hlen : d < l.length) (hd : d < 8191)
    (hnew : (s.part q).lost.contains d = false) : d ∈ s.newLosses q l := by
  refine List.mem_filter.2 ⟨List.mem_filter.2 ⟨List.mem_range.2 hlen, ?_⟩, ?_⟩
  · rw [hone]
    decide
  · rw [hnew, decide_eq_true hd]
    rfl

section Outcome

variable (s : State) (q : Nat)

/-- With losses certified that were not noted before, they are noted; what follows of them leaves the ballots (R160, R239). -/
theorem State.actLoss_noted (v : Nat) {l : List Int} (h : s.newLosses q l ≠ []) :
    (s.noteLosses q v (s.newLosses q l)).SameBallots (s.actLoss q v l) := by
  unfold State.actLoss
  extract_lets ids _ _ _ u
  have hsome : ¬ids.isEmpty = true := mt List.isEmpty_iff.1 h
  rw [if_neg hsome]
  exact .ite (State.SameBallots.refl u).record.leaveGroup.enterHold (.refl u)

theorem State.actLoss_votes (v : Nat) (l : List Int) : (s.actLoss q v l).red.votes = s.red.votes := by
  by_cases h : s.newLosses q l = []
  · exact congrArg (fun t : State => t.red.votes) (if_pos (List.isEmpty_iff.2 h))
  · exact (s.actLoss_noted q v h).votes

theorem State.SameBallots.actActivation (c : VoteSum) : s.SameBallots (s.actActivation q c) := by
  unfold State.actActivation
  split
  · exact .refl s
  · refine .ite ((State.SameBallots.refl s).foldl fun _ _ h => ?_) ((State.SameBallots.refl s).foldl fun _ _ h => h.refuseSwitch).record
    split
    · exact h.setBed
    · exact h

theorem State.actCommit_votes (step : Nat) (sum : Int) : (s.actCommit q step sum).red.votes = s.red.votes := by
  unfold State.actCommit
  dsimp only
  split
  · exact ((State.SameBallots.refl s).foldl fun _ _ h => h.releaseGrads).votes
  · rfl

theorem State.actGraft_votes (v step count : Nat) : (s.actGraft q v step count).red.votes = s.red.votes := by
  unfold State.actGraft
  split
  · rfl
  · dsimp only
    split
    · rfl
    · exact (State.SameBallots.refl _).raise.votes

theorem State.SameBallots.actClose (l : List (Nat × Nat)) (c : VoteSum) : s.SameBallots (s.actClose q l c) :=
  (State.SameBallots.refl s).foldl fun _ _ h => h.settle

theorem State.actVote_votes (code v step : Nat) (about : List (Nat × Nat)) (c : VoteSum) :
    (s.actVote q code v step about c).red.votes = s.red.votes := by
  unfold State.actVote
  split_ifs
  · rfl
  · exact s.actLoss_votes ..
  · exact (State.SameBallots.actActivation ..).votes
  · exact s.actCommit_votes ..
  · exact s.actGraft_votes ..
  · exact (State.SameBallots.actClose ..).votes

end Outcome

/-! ### A member that leaves its group over a vote (R261, R351) -/

/-- The state in which such a member enters Hold. -/
def State.voteLeft (s : State) (q : Nat) : State :=
  let t := (((s.bump (s.redPage q) .VOTE_FAIL).evt (s.redPage q) 5).record 0x0B11 (s.redPage q)).leaveGroup q
  { t with fab := { t.fab with rejoin := setMark t.fab.rejoin q true } }

theorem State.voteFail_eq (s : State) (q : Nat) : s.voteFail q = (s.voteLeft q).enterHold 7 := rfl

theorem State.leaveGroup_pw (s : State) (q : Nat) : (s.leaveGroup q).pw = s.pw := (SameRun.refl s).leaveGroup.pw

theorem State.voteLeft_pw (s : State) (q : Nat) : (s.voteLeft q).pw = s.pw :=
  (State.leaveGroup_pw ..).trans (State.record_pw ..)

/-- Once the failure is counted, nothing but the member's own place changes. -/
theorem State.voteLeft_counted (s : State) (q : Nat) : (s.bump (s.redPage q) .VOTE_FAIL).SameBallots (s.voteLeft q) := by
  have h : (s.bump (s.redPage q) .VOTE_FAIL).SameBallots
      ((((s.bump (s.redPage q) .VOTE_FAIL).evt (s.redPage q) 5).record 0x0B11 (s.redPage q)).leaveGroup q) :=
    (State.SameBallots.refl _).evt.record.leaveGroup
  exact ⟨h.votes, h.fails, h.lost, h.changes, h.left, fun r hr => mem_setMark_of_mem q (h.rejoin r hr)⟩

/-- It is no member, rejoins only by graft, is on its way to Hold, and its failure is counted. -/
theorem State.voteFail_leaves {s : State} (q : Nat) (hr : s.inRun = true) (ht : s.pw.transition = none) :
    ((s.voteFail q).part q).member = false ∧ q ∈ (s.voteFail q).fab.rejoin ∧ (s.voteFail q).pw.transition = some .hold ∧
      (s.voteFail q).get (s.redPage q) .VOTE_FAIL = satAdd 16 (s.get (s.redPage q) .VOTE_FAIL) 1 := by
  have hheld : (s.voteLeft q).SameBallots ((s.voteLeft q).enterHold 7) := (State.SameBallots.refl _).enterHold
  have hpw := s.voteLeft_pw q
  obtain ⟨hhold, -⟩ := (s.voteLeft q).enterHold_begun (cause := 7) (by rw [State.inRun, hpw]; exact hr) (by rw [hpw]; exact ht)
  rw [State.voteFail_eq]
  exact ⟨hheld.left q (State.leaveGroup_member ..), hheld.rejoin q (mem_setMark_same ..), congrArg PowerSt.transition hhold,
    (hheld.fails _).trans (((s.voteLeft_counted q).fails _).trans (State.get_bump_satAdd ..))⟩

/-! ### The deadline of a vote (R261) -/

/-- A missing certificate leaves every vote as it is. -/
theorem State.noCert_votes (s : State) (q code v step : Nat) : (s.noCert q code v step).red.votes = s.red.votes := by
  unfold State.noCert
  split_ifs
  · exact (State.SameBallots.refl _).enterHold.votes.trans (s.voteLeft_counted q).votes
  · exact s.actGraft_votes ..
  · rfl

theorem State.closeVote_votes (s : State) (q code f step : Nat) :
    (s.closeVote q code f step).red.votes = (s.actedOn (s.voteParts q code f step)).red.votes := by
  unfold State.closeVote
  extract_lets +onlyGivenNames l u
  show _ = u.red.votes
  clear_value u l
  split
  · rfl
  · split_ifs
    · rfl
    · exact State.actVote_votes ..
    · exact State.actVote_votes ..
    · exact State.noCert_votes ..

/-- A vote that concerns this member: with the certificates of all parts it acts on their elements, in part order; without one the vote has failed. -/
theorem State.closeVote_concerned {s : State} {q code f step : Nat} {v : Vote}
    (hhead : (s.voteParts q code f step).head?.map (·.2) = some v) (hin : s.votesIn q code v = true) :
    ∃ (t : State) (about : List (Nat × Nat)) (c : VoteSum), t.parts = s.parts ∧
      (c.sums = (s.voteParts q code f step).flatMap fun e =>
        (List.range e.2.elems).map fun i => ((certOf e.2).getD VoteSum.zero).sums.getD i 0) ∧
      s.closeVote q code f step = if (s.voteParts q code f step).all fun e => (certOf e.2).isSome then t.actVote q code f step about c
        else (s.actedOn (s.voteParts q code f step)).noCert q code f step := by
  obtain ⟨r, hr⟩ := s.actedOn_eq (s.voteParts q code f step)
  rw [hr]
  unfold State.closeVote
  extract_lets +onlyGivenNames l u
  have hu : u = s.setRed r := hr
  clear_value u
  have hl : l = s.voteParts q code f step := rfl
  rw [← hl] at hhead ⊢
  clear_value l
  subst hu
  cases l with
  | nil => cases hhead
  | cons x l =>
    have hx : x.2 = v := Option.some.inj hhead
    subst hx
    dsimp only
    rw [if_neg (by rw [show (s.setRed r).votesIn q code x.2 = true from hin]; decide)]
    refine ⟨_, _, _, ?_, List.flatMap_map .., rfl⟩
    split <;> rfl

/-- The layers that a certificate names as tripped are noted with their step (R100). -/
theorem State.closeVote_precision {s : State} {q f step : Nat} {v : Vote} {c : VoteSum}
    (hparts : s.voteParts q vPrecision f step = [(⟨q, vPrecision, f, step, 0⟩, v)]) (hin : s.votesIn q vPrecision v = true)
    (hc : certOf v = some c) : ((s.closeVote q vPrecision f step).part q).tripped = (s.part q).tripped ++
      (onesOf ((List.range v.elems).map fun i => c.sums.getD i 0)).map fun i => (i, step) := by
  obtain ⟨t, about, d, hsame, hsums, hclose⟩ := State.closeVote_concerned (f := f) (step := step) (by rw [hparts]; rfl) hin
  rw [hparts] at hclose hsums
  have hd : d.sums = (List.range v.elems).map fun i => c.sums.getD i 0 := by simpa [hc] using hsums
  have hpart : t.part q = s.part q := congrArg (Tab.get · q PartSt.reset) hsame
  rw [hclose, if_pos (by simp [hc]), ← hd, ← hpart]
  exact congrArg PartSt.tripped (State.setPart_part ..)

/-- A member that lacks a certificate of a vote at its deadline fails it (R261). -/
theorem State.closeVote_fails {s : State} {q code f step : Nat} {v : Vote} (hmember : (s.part q).member = true ∨ code = vActivation)
    (hhead : (s.voteParts q code f step).head?.map (·.2) = some v) (hin : s.votesIn q code v = true)
    (hnone : ∃ e ∈ s.voteParts q code f step, certOf e.2 = none) : ∃ r, s.closeVote q code f step = (s.setRed r).voteFail q := by
  obtain ⟨e, he, hnone⟩ := hnone
  have hall : ¬((s.voteParts q code f step).all fun e => (certOf e.2).isSome) = true := fun h => by
    simpa [hnone] using List.all_eq_true.1 h e he
  obtain ⟨_, _, _, -, -, hclose⟩ := State.closeVote_concerned hhead hin
  obtain ⟨r, hr⟩ := s.actedOn_eq (s.voteParts q code f step)
  have hleaves : ((s.setRed r).part q).member = true ∨ code = vActivation := hmember
  rw [hclose, if_neg hall, hr]
  exact ⟨r, if_pos (by simpa using hleaves)⟩

/-- Settles O60: the deadline is the lead bed's tick, and a vote closed is acted on, with its certificates (`State.closeVote_precision`, `State.actLoss_noted`) or as a failed one (`State.voteFail_leaves`). -/
theorem voteDeadlines : Obligations.VoteDeadlines := by
  refine ⟨fun q code s => ⟨fun hdue hvotes => ?_, fun hnot => ?_⟩, fun q code n f step s => s.mem_voteDue q code n f step,
    fun q code f step s j hj v hv => ?_, fun q f step v c s => State.closeVote_precision, fun q v d l s hone hlen hd hnew => ?_,
    fun q code f step v s hmember hhead hin hnone hr ht => ?_⟩
  · rw [exec_voteDeadline, if_pos (by simp [hdue, hvotes])]
  · rw [exec_voteDeadline, if_neg (by rcases hnot with h | h <;> simp [h])]
  · exact ⟨v.actedOn, by rw [State.closeVote_votes, State.actedOn_voteParts hj hv], rfl, rfl, rfl⟩
  · have hids := State.mem_newLosses hone hlen hd hnew
    have hact := s.actLoss_noted q v (List.ne_nil_of_mem hids)
    have hpart : (s.noteLosses q v (s.newLosses q l)).part q = { s.part q with
        lost := (s.part q).lost ++ s.newLosses q l, changes := (s.part q).changes ++ [⟨s.newLosses q l, none, v + 5, none⟩] } :=
      State.setPart_part ..
    rw [hact.lost, hact.changes, hpart]
    exact ⟨List.mem_append_right _ hids, _, List.mem_append_right _ (List.mem_singleton.2 rfl), hids, rfl, rfl⟩
  · obtain ⟨r, hclose⟩ := State.closeVote_fails hmember hhead hin hnone
    rw [hclose]
    exact State.voteFail_leaves (s := s.setRed r) q hr ht

end Sys2Proof.Machine
end

section
/-! PROOFS. How a step changes the bytes that the canonical forms speak of (R113, R170): the relation `Writes`, under which memory and the local stores keep their form, and its rules. -/

namespace Sys2Proof.Machine
/-- What the canonical forms speak of: device memory's listed bytes, with what decides how an unlisted byte reads, and the local stores' bytes. -/
def State.content (s : State) : List Host.Cell × List Nat × Tab Nat Nat × List Host.Cell :=
  (s.mem.cells, s.mem.zeroed, s.mem.undef, s.cores.lstore)

/-- How a later state comes from an earlier one as far as bytes go: memory's lines are stored, patched or lost (R178, R186), whole bridges are scrubbed or forgotten (R185, R192, R382), bytes are stored in the local stores, or these are lost with the clusters' power (R113, R302); any other change leaves the content as it was. -/
inductive Writes (s : State) : State → Prop
  | refl : Writes s s
  | same {t u : State} (h : Writes s t) (hu : u.content = t.content) : Writes s u
  | storeLine {t : State} (h : Writes s t) {l : Nat} {data : List Byte} {poison rel : Bool} :
    Writes s (t.setMem (t.mem.storeLine l data poison rel))
  | patchLine {t : State} (h : Writes s t) {l first : Nat} {data : List Byte} {poison rel : Bool} :
    Writes s (t.setMem (t.mem.patchLine l first data poison rel))
  | loseLine {t : State} (h : Writes s t) {l : Nat} : Writes s (t.setMem (t.mem.loseLine l))
  | scrub {t : State} (h : Writes s t) {b : Nat} : Writes s (t.setMem (t.mem.scrub b))
  | forget {t : State} (h : Writes s t) {b : Nat} : Writes s (t.setMem (t.mem.forget b))
  | localPut {t : State} (h : Writes s t) {c a : Nat} {bs : List Byte} : Writes s (t.localPut c a bs)
  | loseLocal {t u : State} (h : Writes s t) (hu : u.content = (t.mem.cells, t.mem.zeroed, t.mem.undef, [])) : Writes s u

/-- An outcome's next state, if it has one, comes from the state before by such writes. -/
def WritesNext (s : State) : Host.Outcome State Fault Refusal → Prop
  | .next t => Writes s t
  | .fault _ => True
  | .refused _ => True

section
variable {s t u : State}

/-- Writes leave memory in canonical form (R170). -/
theorem Writes.mem_wf (h : Writes s t) (hs : s.mem.wf = true) : t.mem.wf = true := by
  induction h with
  | refl => exact hs
  | same _ hu ih =>
    obtain ⟨hcells, hzeroed, hundef, -⟩ : _ ∧ _ ∧ _ ∧ _ := by simpa [State.content] using hu
    exact (MemSt.wf_congr hcells hzeroed hundef).trans ih
  | storeLine _ ih => exact MemSt.wf_storeLine ih ..
  | patchLine _ ih => exact MemSt.wf_patchLine ih ..
  | loseLine _ ih => exact MemSt.wf_loseLine ih _
  | scrub _ ih => exact MemSt.wf_scrub ih _
  | forget _ ih => exact MemSt.wf_forget ih _
  | localPut _ ih => exact ih
  | loseLocal _ hu ih =>
    obtain ⟨hcells, hzeroed, hundef, -⟩ : _ ∧ _ ∧ _ ∧ _ := by simpa [State.content] using hu
    exact (MemSt.wf_congr hcells hzeroed hundef).trans ih

/-- Writes leave the local stores in canonical form (R113). -/
theorem Writes.localWf (h : Writes s t) (hs : s.localWf = true) : t.localWf = true := by
  induction h with
  | refl => exact hs
  | same _ hu ih => exact (congrArg (fun x : _ × _ × _ × _ => cellsFrom x.2.2.2 0) hu).trans ih
  | localPut _ ih => exact cellsFrom_cellsPut ih _ _
  | loseLocal _ hu => exact congrArg (fun x : _ × _ × _ × _ => cellsFrom x.2.2.2 0) hu
  | storeLine _ ih | patchLine _ ih | loseLine _ ih | scrub _ ih | forget _ ih => exact ih

/-- A state that agrees with one reached in all the content; the updates of anything else are cases of it by unfolding. -/
theorem Writes.frame (h : Writes s t)
    {pending free out regs latches coarse staging directory stops halted once time pw beds parts arms upd fab red noise evr sec host isl tap
      gen bridgeGen poison rel cache used farUsed overRest waiting served chErrors chFails chBusy budgetZero denyCount
      scalars vregs slots comp taint skip cursor endCyc running xcursor xbusy released watch watchDone normPart normDone tscale amax intSats} :
    Writes s ⟨pending, free, out, regs, latches, coarse, staging, directory, stops, halted, once, time, pw, beds, parts, arms,
      ⟨t.cores.lstore, scalars, vregs, slots, comp, taint, skip, cursor, endCyc, running, xcursor, xbusy, released, watch, watchDone, normPart,
        normDone, tscale, amax, intSats⟩,
      ⟨t.mem.cells, t.mem.zeroed, gen, bridgeGen, t.mem.undef, poison, rel, cache, used, farUsed, overRest, waiting, served, chErrors, chFails,
        chBusy, budgetZero, denyCount⟩,
      upd, fab, red, noise, evr, sec, host, isl, tap⟩ := h.same rfl

/-- Memory changed beside its bytes. -/
theorem Writes.setMem (h : Writes s t)
    {gen bridgeGen poison rel cache used farUsed overRest waiting served chErrors chFails chBusy budgetZero denyCount} :
    Writes s (t.setMem ⟨t.mem.cells, t.mem.zeroed, gen, bridgeGen, t.mem.undef, poison, rel, cache, used, farUsed, overRest, waiting, served,
      chErrors, chFails, chBusy, budgetZero, denyCount⟩) := h.frame

/-- Cores changed beside their local stores. -/
theorem Writes.setCores (h : Writes s t)
    {scalars vregs slots comp taint skip cursor endCyc running xcursor xbusy released watch watchDone normPart normDone tscale amax intSats} :
    Writes s (t.setCores ⟨t.cores.lstore, scalars, vregs, slots, comp, taint, skip, cursor, endCyc, running, xcursor, xbusy, released, watch,
      watchDone, normPart, normDone, tscale, amax, intSats⟩) := h.frame

theorem Writes.next (h : Writes s t) : WritesNext s (.next t) := h

theorem WritesNext.fault {r : Fault} : WritesNext s (.fault r) := trivial

theorem WritesNext.refused {r : Refusal} : WritesNext s (.refused r) := trivial

theorem Writes.ite {c : Prop} {_ : Decidable c} (ht : Writes s t) (hu : Writes s u) : Writes s (if c then t else u) := by
  split
  · exact ht
  · exact hu

theorem WritesNext.ite {c : Prop} {_ : Decidable c} {x y : Host.Outcome State Fault Refusal} (hx : WritesNext s x) (hy : WritesNext s y) :
    WritesNext s (if c then x else y) := by
  split
  · exact hx
  · exact hy

/-- The next state of an outcome that only writes. -/
theorem WritesNext.out {x : Host.Outcome State Fault Refusal} (h : WritesNext s x) (he : x = .next t) : Writes s t := by
  subst he
  exact h

/-- The state of an operation that gives it with something more. -/
theorem Writes.of_fst {α : Type} {x : State × α} {a : α} (h : Writes s x.1) (he : x = (t, a)) : Writes s t := by
  subst he
  exact h

/-- A fold of an operation that only writes. -/
theorem Writes.foldl {α : Type} {f : State → α → State} {l : List α} (h : Writes s t) (hf : ∀ u a, Writes s u → Writes s (f u a)) :
    Writes s (l.foldl f t) :=
  List.foldlRecOn l f h fun u hu a _ => hf u a hu

/-- The same of a fold that carries a value beside the state. -/
theorem Writes.foldlPair {α γ : Type} {f : State × γ → α → State × γ} {l : List α} {c : γ} (h : Writes s t)
    (hf : ∀ y a, Writes s y.1 → Writes s (f y a).1) : Writes s (l.foldl f (t, c)).1 :=
  List.foldlRecOn (motive := fun y => Writes s y.1) l f h fun y hy a _ => hf y a hy

end
end Sys2Proof.Machine
end


section
/-! PROOFS. What each operation of the model writes of memory's and the local stores' bytes (`Writes`): the state's operations, device memory and the cores. -/

namespace Sys2Proof.Machine

variable {s t : State}

/-! ### Records, events, counters and the registers' read and write side (R31 to R37) -/

theorem Writes.put (h : Writes s t) {p : Page} {f : Fld} {v i : Nat} : Writes s (t.put p f v i) := h.frame

theorem Writes.setStaging (h : Writes s t) {p : Page} {x : Staging} : Writes s (t.setStaging p x) := h.frame

theorem Writes.stage (h : Writes s t) {p : Page} {k : FieldKey} {v : Nat} : Writes s (t.stage p k v) := h.frame

theorem Writes.doAbort (h : Writes s t) {p : Page} : Writes s (t.doAbort p) := h.frame

theorem Writes.dueSets (h : Writes s t) {b : Nat} : Writes s (t.dueSets b) := h.frame

theorem Writes.bump (h : Writes s t) {p : Page} {f : Fld} {n i : Nat} : Writes s (t.bump p f n i) := h.put

theorem Writes.resetFields (h : Writes s t) {p : Page} {fs : List Fld} : Writes s (t.resetFields p fs) := h.frame

theorem Writes.setBed (h : Writes s t) {b : Nat} {x : BedSt} : Writes s (t.setBed b x) := h.frame

theorem Writes.setPart (h : Writes s t) {p : Nat} {x : PartSt} : Writes s (t.setPart p x) := h.frame

theorem Writes.setSession (h : Writes s t) {p : Nat} {x : Session} : Writes s (t.setSession p x) := h.frame

theorem Writes.enqueue (h : Writes s t) {r : Record} : Writes s (t.enqueue r) := .ite h.frame h.frame

theorem Writes.capture (h : Writes s t) {code : Nat} {p : Page} {frame : Nat} : Writes s (t.capture code p frame) := .ite h h.put.put.put

theorem Writes.queueGeneral (h : Writes s t) {r : Record} : Writes s (t.queueGeneral r) := .ite h.enqueue h.frame.bump.put

theorem Writes.postGeneral (h : Writes s t) {r : Record} : Writes s (t.postGeneral r) :=
  .ite h.frame.bump (.ite h.frame.queueGeneral h.queueGeneral)

theorem Writes.postProtected (h : Writes s t) {r : Record} : Writes s (t.postProtected r) := .ite h.enqueue (.ite h.bump h.frame)

theorem Writes.recordAt (h : Writes s t) {code : Nat} {p : Page} {payload : List Byte} {frame : Nat} :
    Writes s (t.recordAt code p payload frame) :=
  .ite (Writes.ite h.postProtected h.postGeneral).capture h

theorem Writes.record (h : Writes s t) {code : Nat} {p : Page} {payload : List Byte} : Writes s (t.record code p payload) := h.recordAt

theorem Writes.evt (h : Writes s t) {p : Page} {bit : Nat} : Writes s (t.evt p bit) := h.put

theorem Writes.raise (h : Writes s t) {p : Page} {bit : Nat} {payload : List Byte} : Writes s (t.raise p bit payload) := h.evt.record

theorem Writes.common (h : Writes s t) {p : Page} {loc : Nat} {payload : List Byte} : Writes s (t.common p loc payload) := h.record

theorem Writes.onceDo (h : Writes s t) {k : Nat × Nat × Nat} {f : State → State}
    (hf : ∀ u, Writes s u → Writes s (f u)) :
    Writes s (t.onceDo k f) :=
  .ite h (hf _ h).frame

theorem Writes.answer (h : Writes s t) {d : Nat} {ep : Bool} : Writes s (t.answer d ep) := h.frame

theorem Writes.onBar (h : Writes s t) {f : State → State}
    (hf : ∀ u, Writes s u → Writes s (f u)) : Writes s (t.onBar f) :=
  .ite (hf _ h) h.frame

theorem Writes.applyOne (h : Writes s t) {k : FieldKey} {v : Nat} : Writes s (t.applyOne k v) := by
  unfold State.applyOne
  dsimp only
  split
  · exact .ite h.put.common h.put
  · exact h.put
  · exact .ite h.put h.common
  · exact h.put

theorem Writes.applySet (h : Writes s t) {p : Page} {set : List (FieldKey × Nat)} : Writes s (t.applySet p set) :=
  (h.foldl (fun _ _ h => h.applyOne)).put.put

theorem Writes.tickPage (h : Writes s t) {p : Page} : Writes s (t.tickPage p) := by
  unfold State.tickPage
  dsimp only
  split
  · exact h
  · exact h.setStaging.applySet
  · exact h.setStaging

theorem Writes.flushPage (h : Writes s t) {p : Page} : Writes s (t.flushPage p) :=
  h.setStaging.foldl fun _ _ h => h.applySet

theorem Writes.halt (h : Writes s t) {p : Page} : Writes s (t.halt p) := h.frame.put

theorem Writes.endStops (h : Writes s t) {b : Nat} : Writes s (t.endStops b) := h.foldl (fun _ _ h => h.halt)

theorem Writes.lockedOut (h : Writes s t) {p : Page} {off value : Nat} : Writes s (t.lockedOut p off value) := h.put.common

theorem Writes.hostWriteL (h : Writes s t) {p : Page} {off value : Nat} {f : State → State}
    (hf : ∀ u, Writes s u → Writes s (f u)) :
    Writes s (t.hostWriteL p off value f) :=
  h.onBar (fun _ h => .ite h.lockedOut (hf _ h))

theorem Writes.doCommit (h : Writes s t) {p : Page} : Writes s (t.doCommit p) := .ite h.put.common h.setStaging

theorem Writes.doLock (h : Writes s t) {p : Page} : Writes s (t.doLock p) := h.doAbort.put

theorem Writes.doUnlock (h : Writes s t) {p : Page} : Writes s (t.doUnlock p) := h.put

theorem Writes.reply (h : Writes s t) {st : Nat} {data : List Byte} : Writes s (t.reply st data) := h.frame

theorem Writes.refuse (h : Writes s t) {p : Page} {st code : Nat} {path : Sys2Proof.Path} {arg : Nat} :
    Writes s (t.refuse p st code path arg) :=
  .ite h.reply h.reply.common

theorem Writes.draw (h : Writes s t) : Writes s t.draw.2 := h.frame

/-! ### Device memory and its lines -/

theorem Writes.countFault (h : Writes s t) {a : Nat} : Writes s (t.countFault a) := h.bump.put.raise

theorem Writes.overdraw (h : Writes s t) {b key : Nat} {fld : Fld} {idx n bit : Nat} : Writes s (t.overdraw b key fld idx n bit) :=
  .ite h.setMem.bump.raise h.setMem

theorem Writes.moved (h : Writes s t) {b cls bed : Nat} : Writes s (t.moved b cls bed) :=
  .ite (Writes.ite h.setMem.overdraw h.setMem).overdraw (.ite h.setMem.overdraw h.setMem)

theorem Writes.serveOver (h : Writes s t) {b cls bed : Nat} : Writes s (t.serveOver b cls bed) := h.moved.setMem

theorem Writes.delayOver (h : Writes s t) {b cls bed : Nat} : Writes s (t.delayOver b cls bed) := h.setMem

theorem Writes.meter (h : Writes s t) {b cls bed : Nat} : Writes s (t.meter b cls bed) :=
  .ite h (.ite h.moved (.ite h.delayOver (.ite h.serveOver (.ite h.frame.delayOver h.frame.serveOver))))

theorem Writes.meterN (h : Writes s t) {b cls bed n : Nat} : Writes s (t.meterN b cls bed n) := by
  induction n generalizing t with
  | zero => exact h
  | succ n ih => exact ih h.meter

theorem Writes.clipWaiting (h : Writes s t) {b : Nat} : Writes s (t.clipWaiting b) := h.setMem.foldl (fun _ _ h => h.overdraw.meterN)

theorem Writes.corrected (h : Writes s t) {mc : Nat} : Writes s (t.corrected mc) := h.bump.raise

theorem Writes.uncorrectable (h : Writes s t) {a : Nat} : Writes s (t.uncorrectable a) := h.setMem.bump.put.raise

theorem Writes.stackRead (h : Writes s t) {a : Nat} {err : LineErr} : Writes s (t.stackRead a err).1 := by
  unfold State.stackRead
  extract_lets l
  split
  · exact h
  · cases err with
    | corrected => exact h.corrected
    | uncorrectable => exact h.uncorrectable
    | none => exact h
    | sram => exact h

theorem Writes.stackWrite (h : Writes s t) {a : Nat} {data : List Byte} {poison rel : Bool} : Writes s (t.stackWrite a data poison rel) :=
  .ite h h.storeLine

theorem Writes.stackPatch (h : Writes s t) {a first : Nat} {data : List Byte} {poison rel : Bool} :
    Writes s (t.stackPatch a first data poison rel) :=
  .ite h h.patchLine

theorem Writes.setCache (h : Writes s t) {l : Nat} {c : CacheLine} : Writes s (t.setCache l c) := h.setMem

theorem Writes.freeCache (h : Writes s t) {l : Nat} : Writes s (t.freeCache l) := h.setMem

theorem Writes.dalFree (h : Writes s t) {l : Nat} : Writes s (t.dalFree l) := h.freeCache.loseLine.bump

theorem Writes.releaseLine (h : Writes s t) {l : Nat} : Writes s (t.releaseLine l) := by
  unfold State.releaseLine
  split
  · exact h
  · exact .ite h.freeCache.stackWrite h.freeCache

theorem Writes.staleLine (h : Writes s t) {l : Nat} {c : CacheLine} : Writes s (t.staleLine l c) := .ite h.releaseLine.meter h.releaseLine

theorem Writes.dropLine (h : Writes s t) {l : Nat} : Writes s (t.dropLine l) := by
  unfold State.dropLine
  split
  · exact h
  · exact h.freeCache.loseLine

theorem Writes.refused (h : Writes s t) {b : Nat} : Writes s (t.refused b) := h.bump.raise

theorem Writes.useLine (h : Writes s t) {l : Nat} {c : CacheLine} : Writes s (t.useLine l c) := by
  unfold State.useLine
  split
  · exact h
  · exact .ite h.dalFree h.setCache

theorem Writes.serveHit (h : Writes s t) {r : MemReq} {err : LineErr} {c : CacheLine} : Writes s (t.serveHit r err c).1 := by
  unfold State.serveHit
  split
  · exact .ite h.raise.uncorrectable.setCache h.raise.uncorrectable.setCache.useLine
  · exact .ite h h.useLine

theorem Writes.serveMiss (h : Writes s t) {r : MemReq} {d : List Byte} {p : Bool} : Writes s (t.serveMiss r d p) :=
  .ite h (.ite h.refused (.ite h.setCache (.ite h.dalFree h.setCache)))

theorem Writes.serveRead (h : Writes s t) {r : MemReq} {err : LineErr} : Writes s (t.serveRead r err).1 := by
  unfold State.serveRead
  split
  · exact h.bump.serveHit
  · exact h.bump.meter.stackRead.serveMiss

theorem Writes.serveWrite (h : Writes s t) {r : MemReq} {first : Nat} {data : List Byte} {poison rel : Bool} :
    Writes s (t.serveWrite r first data poison rel) := by
  unfold State.serveWrite
  extract_lets l b full hint
  split
  · exact h.bump.setCache
  · refine .ite (.ite h.bump.meter.stackWrite h.bump.meter.stackPatch)
      (.ite (.ite h.refused.bump.meter.stackWrite h.refused.bump.meter.stackPatch) ?_)
    have ho : Writes s (if full then (t, data, false)
        else ((t.bump (pgCache b) .MISSES).meter b r.cls r.bed.val).stackRead r.addr .none).1 := by
      split
      · exact h
      · exact h.bump.meter.stackRead
    exact ho.setCache

theorem Writes.denyRead (h : Writes s t) {a : Nat} {first : Bool} : Writes s (t.denyRead a first) :=
  .ite h.bump.put.setMem.raise h.bump.put.evt

theorem Writes.denyWrite (h : Writes s t) {a kind : Nat} : Writes s (t.denyWrite a kind) := .ite h.bump.setMem.record h.bump

theorem Writes.readLine (h : Writes s t) {r : MemReq} {err : LineErr} {first : Bool} : Writes s (t.readLine r err first).1 := by
  unfold State.readLine
  split
  · exact h.countFault
  · split
    · exact h.denyRead
    · exact h.serveRead

theorem Writes.writeLine (h : Writes s t) {r : MemReq} {first : Nat} {data : List Byte} {poison rel : Bool} :
    Writes s (t.writeLine r first data poison rel) :=
  .ite h.countFault h.serveWrite

theorem Writes.readSpan (h : Writes s t) {r : MemReq} {n : Nat} : Writes s (t.readSpan r n).1 := h.foldlPair (fun _ _ h => h.readLine)

theorem Writes.writeSpan (h : Writes s t) {r : MemReq} {data : List Byte} {poison rel : Bool} : Writes s (t.writeSpan r data poison rel) :=
  h.foldl (fun _ _ h => h.writeLine)

theorem Writes.hostRead (h : Writes s t) {part a : Nat} {err : LineErr} {first : Bool} : Writes s (t.hostRead part a err first).1 := by
  unfold State.hostRead
  split
  · exact h.countFault
  · exact h.readLine

theorem Writes.hostWrite (h : Writes s t) {part a first : Nat} {data : List Byte} {poison sealed : Bool} {kind : Nat} :
    Writes s (t.hostWrite part a first data poison sealed kind) :=
  .ite h.countFault (.ite h.denyWrite h.writeLine)

theorem Writes.hold (h : Writes s t) {w : HostWait} : Writes s (t.hold w) := h.frame

theorem Writes.serveHost (h : Writes s t) {w : HostWait} : Writes s (t.serveHost w) := by
  unfold State.serveHost
  split
  · exact h.hostRead.answer
  · exact h.hostWrite

theorem Writes.serveWaits (h : Writes s t) : Writes s t.serveWaits := h.frame.foldl (fun _ _ h => h.serveHost)

theorem Writes.copyLists (h : Writes s t) {b slot : Nat} : Writes s (t.copyLists b slot) := h.readSpan

/-! ### The cores' slots, engines and transfers -/

theorem Writes.setSlot (h : Writes s t) {c k : Nat} {m : SlotMeta} : Writes s (t.setSlot c k m) := h.setCores

theorem Writes.freeSlots (h : Writes s t) {c k : Nat} {d : Desc} : Writes s (t.freeSlots c k d) := h.foldl (fun _ _ h => h.setSlot)

theorem Writes.abandon (h : Writes s t) {c k n : Nat} : Writes s (t.abandon c k n) := h.foldl (fun _ _ h => h.setSlot)

theorem Writes.compUp (h : Writes s t) {c x : Nat} : Writes s (t.compUp c x) := h.setCores

theorem Writes.taint (h : Writes s t) {c x : Nat} : Writes s (t.taint c x) := .ite h h.setCores

theorem Writes.setCursor (h : Writes s t) {c e k : Nat} : Writes s (t.setCursor c e k) := h.setCores

theorem Writes.onCores (h : Writes s t) {b : Nat} {g : State → Nat → State}
    (hg : ∀ u a1, Writes s u → Writes s (g u a1)) :
    Writes s (t.onCores b g) :=
  .ite h (h.foldl (fun _ _ h => hg _ _ h))

theorem Writes.release (h : Writes s t) {c : Nat} {r : Released} : Writes s (t.release c r) := h.setCores

theorem Writes.poisonNorms (h : Writes s t) {n : Nat} {m : MatBlk} : Writes s (t.poisonNorms n m) := h.foldl (fun _ _ h => h.localPut)

theorem Writes.skipMatrix (h : Writes s t) {b c : Nat} {arm : Option Nat} {m : MatBlk} : Writes s (t.skipMatrix b c arm m) :=
  .ite (.ite h.abandon.poisonNorms h.abandon) (.ite h.abandon.release h.abandon)

theorem Writes.skipEntry (h : Writes s t) {b c e : Nat} {i : Issue} :
    Writes s (t.skipEntry b c e i) :=
  .ite (.ite h.bump.skipMatrix h.bump) h

theorem Writes.skipEngine (h : Writes s t) {b c e : Nat} : Writes s (t.skipEngine b c e) := (h.foldl (fun _ _ h => h.skipEntry)).setCursor

theorem Writes.skipXfer (h : Writes s t) {b c x : Nat} : Writes s (t.skipXfer b c x) := h.bump.compUp.taint

theorem Writes.skipXfers (h : Writes s t) {b c x : Nat} : Writes s (t.skipXfers b c x) := (h.foldl (fun _ _ h => h.skipXfer)).setCores

theorem Writes.skipFrame (h : Writes s t) {b : Nat} : Writes s (t.skipFrame b) :=
  h.onCores (fun _ _ h => (h.foldl (fun _ _ h => h.skipEngine)).foldl (fun _ _ h => h.skipXfers))

theorem Writes.stopEngine (h : Writes s t) {b c e : Nat} : Writes s (t.stopEngine b c e) := by
  unfold State.stopEngine
  split
  · exact h
  · exact .ite h.setCores.bump.put.skipMatrix h.setCores.bump.put

theorem Writes.stopXfer (h : Writes s t) {b c x : Nat} : Writes s (t.stopXfer b c x) := .ite h.setCores.skipXfer h

theorem Writes.stopRunning (h : Writes s t) {b : Nat} : Writes s (t.stopRunning b) :=
  h.onCores (fun _ _ h => (h.foldl (fun _ _ h => h.stopEngine)).foldl (fun _ _ h => h.stopXfer))

theorem Writes.openFrame (h : Writes s t) {b : Nat} : Writes s (t.openFrame b) := h.setBed.setCores

theorem Writes.openStep (h : Writes s t) {b : Nat} : Writes s (t.openStep b) := (h.foldl (fun _ _ h => .ite h.put h)).setCores

theorem Writes.ctxReset (h : Writes s t) {b c x code : Nat} : Writes s (t.ctxReset b c x code) := by
  unfold State.ctxReset
  extract_lets n rest u1 _ u2 u3 u4
  have h1 : Writes s u1 := by
    dsimp only [u1]
    exact h.foldl (fun _ _ h => by split; exacts [.ite h.stopEngine h, h])
  have h2 : Writes s u2 := h1.setCores
  have h3 : Writes s u3 := h2.put.put
  have h4 : Writes s u4 := h3.bump.put
  exact h4.record

/-! ### Stopping, unloading and Hold -/

theorem Writes.setSeq (h : Writes s t) {b st : Nat} : Writes s (t.setSeq b st) := .ite h.dueSets.endStops.put.put h.put.put

theorem Writes.showArm (h : Writes s t) {b : Nat} : Writes s (t.showArm b) := h.put

theorem Writes.clearOrigin (h : Writes s t) {b : Nat} : Writes s (t.clearOrigin b) := h.setBed.put.put

theorem Writes.dropPending (h : Writes s t) {b : Nat} : Writes s (t.dropPending b) := by
  unfold State.dropPending
  split
  · exact h
  · exact .ite h.setBed.put.clearOrigin h.setBed.put

theorem Writes.cancelArmed (h : Writes s t) {b st cause : Nat} : Writes s (t.cancelArmed b st cause) := h.dropPending.setSeq.record

theorem Writes.askUnits (h : Writes s t) {b : Nat} : Writes s (t.askUnits b) := h.frame

theorem Writes.holdBed (h : Writes s t) {b cause : Nat} : Writes s (t.holdBed b cause) :=
  .ite h.cancelArmed (.ite h.stopRunning.skipFrame.askUnits.dropPending.setSeq.setBed h)

theorem Writes.holdBeds (h : Writes s t) {l : List Nat} {cause : Nat} : Writes s (t.holdBeds l cause) := h.foldl (fun _ _ h => h.holdBed)

theorem Writes.idleBed (h : Writes s t) {b : Nat} : Writes s (t.idleBed b) :=
  h.stopRunning.skipFrame.askUnits.dropPending.setSeq.setBed.showArm

theorem Writes.unloadSlot (h : Writes s t) {p k : Nat} : Writes s (t.unloadSlot p k) := h.frame.foldl (fun _ _ h => .ite h.setBed.showArm h)

theorem Writes.unloadAll (h : Writes s t) {p : Nat} : Writes s (t.unloadAll p) := h.foldl (fun _ _ h => h.unloadSlot)

theorem Writes.leaveGroup (h : Writes s t) {p : Nat} : Writes s (t.leaveGroup p) := .ite h.frame h

theorem Writes.leaveAll (h : Writes s t) : Writes s t.leaveAll := h.foldl (fun _ _ h => h.leaveGroup)

theorem Writes.setDomains (h : Writes s t) {w : Nat × Nat × Nat} : Writes s (t.setDomains w) := h.put.put.put

theorem Writes.setPower (h : Writes s t) {p : PowerState} : Writes s (t.setPower p) := h.frame.put.setDomains

theorem Writes.beginTransition (h : Writes s t) {p : PowerState} {cause : Nat} : Writes s (t.beginTransition p cause) := h.frame.put

theorem Writes.enterHold (h : Writes s t) {cause : Nat} : Writes s (t.enterHold cause) :=
  .ite h (.ite (.ite h h.holdBeds.leaveAll.beginTransition) (.ite h.frame h))

theorem Writes.dropStage (h : Writes s t) {cause : Nat} : Writes s (t.dropStage cause) := h.frame.put.setDomains

theorem Writes.enterOff (h : Writes s t) {cause : Nat} : Writes s (t.enterOff cause) :=
  .ite (.ite h.dropStage h) h.holdBeds.leaveAll.beginTransition

theorem Writes.floorCause (h : Writes s t) {c : FloorCause} {cause code : Nat} {payload : List Byte} :
    Writes s (t.floorCause c cause code payload) := by
  unfold State.floorCause
  refine .ite ?_ (.ite h.frame h.frame.record)
  refine .ite (Writes.ite h.frame.setPower.put h.frame).raise ?_
  exact (Writes.ite h.frame.setPower.put h.frame).evt.record

theorem Writes.floorClear (h : Writes s t) {c : FloorCause} : Writes s (t.floorClear c) := h.frame

theorem Writes.startScrub (h : Writes s t) {b : Nat} : Writes s (t.startScrub b) := .ite h.scrub.put.unloadAll h.scrub.put

theorem Writes.failDma (h : Writes s t) {p : Nat} : Writes s (t.failDma p) := h.frame

theorem Writes.setSessionState (h : Writes s t) {p st : Nat} : Writes s (t.setSessionState p st) := h.put.put.put

theorem Writes.eraseKeys (h : Writes s t) {p : Nat} : Writes s (t.eraseKeys p) :=
  ((h.setSession.foldl (fun _ _ h => h.put.put)).foldl (fun _ _ h => h.put)).put.put.raise.frame.put.put

theorem Writes.finishClose (h : Writes s t) {p : Nat} : Writes s (t.finishClose p) :=
  ((h.foldl (fun _ _ h => h.put)).foldl (fun _ _ h => h.doUnlock)).setSession.setSessionState.put.raise

theorem Writes.closeBeds (h : Writes s t) {p : Nat} : Writes s (t.closeBeds p) := h.foldl (fun _ _ h => .ite h.setSeq h.holdBed)

theorem Writes.beginClose (h : Writes s t) {p : Nat} : Writes s (t.beginClose p) := by
  unfold State.beginClose
  refine .ite h.closeBeds.failDma.eraseKeys.setSessionState.setSession ?_
  exact h.closeBeds.failDma.eraseKeys.setSessionState.foldl (fun _ _ h => h.startScrub)

theorem Writes.endSessionNow (h : Writes s t) {p : Nat} : Writes s (t.endSessionNow p) := .ite h h.closeBeds.failDma.eraseKeys.finishClose

theorem Writes.endSessions (h : Writes s t) : Writes s t.endSessions := h.foldl (fun _ _ h => h.endSessionNow)

/-! ### The issue of armature entries -/

theorem Writes.nextEntry (h : Writes s t) {b c e : Nat} {l : List Issue} {k : Nat} : Writes s (State.nextEntry b c e l k t).1 := by
  induction l generalizing k t with
  | nil => exact h.setCursor
  | cons i l ih =>
    unfold State.nextEntry
    split
    · exact ih h
    · split
      · exact ih h.skipEntry
      · exact h.setCursor

theorem Writes.slip (h : Writes s t) {n d : Nat} : Writes s (t.slip n d) := .ite h h.bump.bump.put

theorem Writes.started (h : Writes s t) {b c e : Nat} {i : Issue} {k at_ len : Nat} : Writes s (t.started b c e i k at_ len) :=
  h.slip.bump.setCores.put.put.put

theorem Writes.dueEntry (h : Writes s t) {b c e ready : Nat} : Writes s (t.dueEntry b c e ready).1 := by
  unfold State.dueEntry
  dsimp only
  split
  · exact h
  · split
    · exact h.nextEntry
    · split
      · exact h.nextEntry
      · exact h.nextEntry

/-! ### Flags of the engines -/

theorem Writes.raiseFlags (h : Writes s t) {n : Nat} {fl : Flags} : Writes s (t.raiseFlags n fl) := .ite h h.put

theorem Writes.latchCapture (h : Writes s t) {b : Nat} {c : Capture} : Writes s (t.latchCapture b c) := h.setBed

theorem Writes.captureNf (h : Writes s t) {b c : Nat} {fl : Flags} {i : CapInfo} : Writes s (t.captureNf b c fl i) :=
  .ite h h.put.put.put.put.put.put.put.put.put.put.put.put.put.latchCapture

theorem Writes.result (h : Writes s t) {b c : Nat} {fl : Flags} {i : CapInfo} : Writes s (t.result b c fl i) := h.raiseFlags.captureNf

end Sys2Proof.Machine
end

section
/-! PROOFS. What each operation of the model writes of memory's and the local stores' bytes (`Writes`): the engines and the clocks. -/

namespace Sys2Proof.Machine

variable {s t : State}

/-! ### Tiles -/

theorem Writes.tileFaulted (h : Writes s t) {b c : Nat} {d : Desc} {t' : List Byte} {tile : Nat} : Writes s (t.tileFaulted b c d t' tile) :=
  h.foldl (fun _ _ h => h.raiseFlags.record)

/-! ### The matrix engine -/

theorem Writes.putPos (h : Writes s t) {n slot j : Nat} {p : Pos} : Writes s (t.putPos n slot j p) := h.localPut.localPut

theorem Writes.operandFaults (h : Writes s t) {b c : Nat} {o : Operand} : Writes s (t.operandFaults b c o) :=
  h.foldl (fun _ _ h => h.tileFaulted)

theorem Writes.openSlots (h : Writes s t) {n ctx : Nat} {m : MatBlk} {o : Desc} : Writes s (t.openSlots n ctx m o) :=
  h.foldl (fun _ _ h => h.setSlot)

theorem Writes.countSats (h : Writes s t) {n k : Nat} : Writes s (t.countSats n k) := .ite h h.setCores

theorem Writes.putAll (h : Writes s t) {b c e : Nat} {i : Issue} {k : Nat} {m : MatBlk} {p : MatProd} {count : Nat}
    {ends : List Nat} {start : Nat} {l : List ((Nat × Nat) × Nat × Nat × Pos)} :
    Writes s (t.putAll b c e i k m p count ends start l) := by
  unfold State.putAll
  dsimp only
  split
  · exact h.foldl (fun _ _ h => h.putPos.raiseFlags.countSats)
  · exact (h.foldl (fun _ _ h => h.putPos.raiseFlags.countSats)).captureNf

theorem Writes.matrixRun (h : Writes s t) {b c e : Nat} {i : Issue} {k at_ : Nat} {m : MatBlk} : Writes s (t.matrixRun b c e i k at_ m) :=
  h.operandFaults.operandFaults.openSlots.putAll.setSlot.bump

theorem Writes.countSamples (h : Writes s t) {b n : Nat} : Writes s (t.countSamples b n) := by
  unfold State.countSamples
  dsimp only
  split
  · exact h.frame
  · exact h

theorem Writes.gramPut (h : Writes s u) {b c e : Nat} {iss : Issue} {k : Nat} {m : MatBlk} {i start : Nat} :
    Writes s (t.gramPut u b c e iss k m i start).1 := h.foldlPair fun _ _ h => h.putAll

theorem Writes.normEntry (h : Writes s t) {b c e : Nat} {iss : Issue} {k cycle : Nat} {m : MatBlk} {j : Nat}
    {bad : Bool} {sums : List (List Nat)} :
    Writes s (t.normEntry b c e iss k cycle m j bad sums) :=
  .ite (.ite h h.localPut) (Writes.ite h h.localPut).localPut.result

theorem Writes.normRun (h : Writes s t) {b c e : Nat} {i : Issue} {k at_ : Nat} {m : MatBlk} : Writes s (t.normRun b c e i k at_ m) := by
  unfold State.normRun
  extract_lets n o l z0 u1 u2 bad r parts spills z u3
  have h1 : Writes s u1 := (h.foldl (fun _ _ h => h.operandFaults)).countSamples
  have h2 : Writes s u2 := h1.openSlots
  have h3 : Writes s u3 := (h2.foldlPair (fun _ _ h => h.gramPut.normEntry)).setSlot
  exact h3.bump

theorem execMatrixInstructionBlock_writes (h : Writes s t) {bed : Bed} {core : Core} {engine : Fin 3} {ready : Nat} :
    WritesNext s (execMatrixInstructionBlock bed core engine ready t) := by
  unfold execMatrixInstructionBlock
  extract_lets b c e n
  split
  next hu => exact (h.dueEntry.of_fst hu).next
  next u i k at_ hu =>
    extract_lets m p ends last u1 tt u2 u3
    have h1 : Writes s u1 := (h.dueEntry.of_fst hu).started
    have h2 : Writes s u2 := .ite h1 h1.result
    have h3 : Writes s u3 := .ite h2.normRun h2.matrixRun
    exact h3.setCores.next

theorem Writes.endSpill (h : Writes s t) {b c e : Nat} {r : Running} {m : MatBlk} : Writes s (t.endSpill b c e r m) :=
  (Writes.ite h (h.foldl (fun _ _ h => h.putPos.result))).setSlot

theorem execMatrixBlockEnd_writes (h : Writes s t) {bed : Bed} {core : Core} {engine : Fin 3} :
    WritesNext s (execMatrixBlockEnd bed core engine t) := by
  unfold execMatrixBlockEnd
  dsimp only
  split
  · exact h.next
  · refine .ite h.setCores.put.next ?_
    refine .ite (Writes.ite h.setCores.put.endSpill h.setCores.put).release.next ?_
    exact (Writes.ite h.setCores.put.endSpill h.setCores.put).next

/-! ### Clocks, time and armed starts -/

theorem Writes.showSteps (h : Writes s t) : Writes s t.showSteps := h.put.put.put

theorem Writes.setStack (h : Writes s t) {l : List Nat} : Writes s (t.setStack l) := h.frame.showSteps

theorem Writes.takePlan (h : Writes s t) : Writes s t.takePlan := by
  unfold State.takePlan
  refine .ite ((Writes.ite h.put.raise h).frame.put.foldl (fun _ _ h => h.record)) ?_
  exact (Writes.ite h.put.raise h).frame.put

theorem Writes.takeCap (h : Writes s t) : Writes s t.takeCap := by
  unfold State.takeCap
  refine .ite h ?_
  split
  · exact h.setStack.raise
  · exact h.raise

theorem Writes.setClock (h : Writes s t) : Writes s t.setClock := (Writes.ite h.setPower h).frame.put.put

theorem Writes.applyClock (h : Writes s t) : Writes s t.applyClock := by
  unfold State.applyClock
  extract_lets b _ _ u1
  have h1 : Writes s u1 := h.takePlan.frame
  exact h1.takeCap.setClock.frame.put

theorem Writes.openStretch (h : Writes s t) {forced : Bool} : Writes s (t.openStretch forced) := h.frame

theorem Writes.sampleWatts (h : Writes s t) : Writes s t.sampleWatts := h.draw.put

theorem Writes.raiseTrim (h : Writes s t) : Writes s t.raiseTrim := .ite h.frame.raise h.frame

theorem Writes.trimTick (h : Writes s t) : Writes s t.trimTick := .ite h.raiseTrim h

theorem Writes.clockTick (h : Writes s t) : Writes s t.clockTick := by
  unfold State.clockTick
  refine .ite h.put.openStretch ?_
  exact .ite h.applyClock.openStretch (.ite h.applyClock.bump.raise.bump.openStretch h.bump.raise.openStretch)

/-! ### Operands -/

theorem Writes.setVreg (h : Writes s t) {n r l : Nat} {v : W32} : Writes s (t.setVreg n r l v) := h.setCores

theorem Writes.laneOut (h : Writes s t) {w : VWhere} {i : VArgs} {source l : Nat} {r : LaneResult} : Writes s (t.laneOut w i source l r) :=
  h.setVreg.result

theorem Writes.vectorOp (h : Writes s t) {w : VWhere} {i : VArgs} {f : Nat → Nat → Nat → LaneResult} :
    WritesNext s (t.vectorOp w i f) :=
  .ite (h.foldl (fun _ _ h => h.laneOut)).next .fault

/-! ### The vector engine -/

theorem Writes.vecLoad (h : Writes s t) {w : VWhere} {i : VArgs} : Writes s (t.vecLoad w i) :=
  (h.foldl (fun _ _ h => h.tileFaulted)).foldl (fun _ _ h => h.laneOut)

theorem Writes.vecStore (h : Writes s t) {w : VWhere} {i : VArgs} : Writes s (t.vecStore w i) := h.foldl (fun _ _ h => .ite h h.setCores)

/-- What a vector instruction does: a function of its lanes, LOAD, or STORE (R126, R128). -/
inductive VecKind : (VWhere → VArgs → State → Host.Outcome State Fault Refusal) → Prop
  | lanes (g : Nat → Nat → Nat → LaneResult) : VecKind fun w i s => s.vectorOp w i g
  | load : VecKind execVectorLoad
  | store : VecKind execVectorStore

theorem VecKind.ite {c : Prop} {_ : Decidable c} {f : VWhere → VArgs → State → Host.Outcome State Fault Refusal}
    {o : Option (VWhere → VArgs → State → Host.Outcome State Fault Refusal)} (hf : VecKind f) (ho : ∀ g ∈ o, VecKind g) :
    ∀ g ∈ (if c then some f else o), VecKind g := by
  split
  · exact fun g hg => Option.mem_some_iff.mp hg ▸ hf
  · exact ho

/-- Every OP that R145 does not reserve names one of them. -/
theorem vecExec_kind (op : Nat) : ∀ f ∈ vecExec op, VecKind f := by
  unfold vecExec
  iterate 24 refine VecKind.ite (.lanes _) ?_
  exact .ite .load (.ite .store fun _ hg => nomatch hg)

theorem VecKind.writes {f : VWhere → VArgs → State → Host.Outcome State Fault Refusal} (hf : VecKind f) (h : Writes s t) {w : VWhere}
    {i : VArgs} : WritesNext s (f w i t) := by
  cases hf with
  | lanes => exact h.vectorOp
  | load => exact .ite h.vecLoad.next .fault
  | store => exact .ite h.vecStore.next .fault

theorem runProgram_writes (h : Writes s t) {w : VWhere} {at_ : Nat} {l : List (Nat × VArgs)} : WritesNext s (runProgram w at_ l t) := by
  induction l generalizing at_ t with
  | nil => exact h.next
  | cons x l ih =>
    obtain ⟨op, i⟩ := x
    unfold runProgram
    split
    next => exact .fault
    next f hf =>
      have hx : WritesNext s (f { w with cycle := at_ } i t) := (vecExec_kind op f hf).writes h
      split
      next hu => exact ih (hx.out hu)
      next => exact .fault
      next => exact .refused

theorem execVectorInstructionBlock_writes (h : Writes s t) {bed : Bed} {core : Core} {backward : Bool} {ready : Nat} :
    WritesNext s (execVectorInstructionBlock bed core backward ready t) := by
  unfold execVectorInstructionBlock
  extract_lets b c e
  split
  next hu => exact (h.dueEntry.of_fst hu).next
  next u i k at_ hu =>
    extract_lets p w
    have hp : WritesNext s (runProgram w at_ p (u.started b c e i k at_ (programCycles p))) :=
      runProgram_writes (h.dueEntry.of_fst hu).started
    split
    next hv => exact (hp.out hv).put.next
    next => exact hp

/-! ### Time references -/

theorem Writes.opTime (h : Writes s t) : Writes s t.opTime := .ite h h.frame

theorem Writes.count (h : Writes s t) : Writes s t.count := .ite h.frame h.frame

theorem Writes.idle (h : Writes s t) : Writes s t.idle := .ite h.count.opTime h

theorem Writes.moveTime (h : Writes s t) {d : Int} : Writes s (t.moveTime d) :=
  .ite h ((Writes.ite h.frame h.frame).foldl (fun _ _ h => h.clearOrigin)).record

theorem Writes.steerRate (h : Writes s t) {off : Int} : Writes s (t.steerRate off) := h.frame

theorem Writes.seqFromTime (h : Writes s t) : Writes s t.seqFromTime := h.frame

theorem Writes.setAligned (h : Writes s t) {on : Bool} : Writes s (t.setAligned on) := .ite h.put.seqFromTime h.put

theorem Writes.alignOffset (h : Writes s t) {off : Int} : Writes s (t.alignOffset off) := by
  unfold State.alignOffset
  refine .ite h.moveTime.put.setAligned ?_
  extract_lets e u1 u2 u3
  have h1 : Writes s u1 := h.put.steerRate
  have h2 : Writes s u2 := h1.setAligned
  have h3 : Writes s u3 := .ite (h2.put.onceDo (fun _ h => h.record)) h2
  exact h3.frame

theorem Writes.setTref (h : Writes s t) {v : Nat} : Writes s (t.setTref v) := .ite h.put h.frame.put.put

theorem Writes.setHoldover (h : Writes s t) {on : Bool} : Writes s (t.setHoldover on) := .ite h h.put.record

theorem execTimeRefEdge_writes (h : Writes s t) : WritesNext s (execTimeRefEdge t) := by
  unfold execTimeRefEdge
  refine .ite h.next ?_
  extract_lets now bad _ u1 u2
  have h1 : Writes s u1 := h.frame
  have h2 : Writes s u2 := h1.setHoldover
  exact .ite h1.put.setHoldover.next (.ite h2.put.steerRate.next (.ite h2.put.steerRate.next h2.frame.moveTime.put.next))

end Sys2Proof.Machine
end

section
/-! PROOFS. What each operation of the model writes of memory's and the local stores' bytes (`Writes`): the fabric. -/

namespace Sys2Proof.Machine

variable {s t : State}

/-! ### The fabric's ports, packets and heartbeats -/

theorem Writes.setFab (h : Writes s t) {f : FabricSt} : Writes s (t.setFab f) := h.frame

theorem Writes.queueOn (h : Writes s t) {p : Nat} {k : Packet} : Writes s (t.queueOn p k) := h.setFab

theorem Writes.takeSeq (h : Writes s t) {q : Nat} : Writes s (t.takeSeq q).2 := h.setFab

theorem Writes.send (h : Writes s t) {q dest cls ty : Nat} {tf payload : List Byte} {poison : Bool} :
    Writes s (t.send q dest cls ty tf payload poison) :=
  h.setFab.foldl (fun _ _ h => h.queueOn)

theorem Writes.numbered (h : Writes s t) {k : Packet} : Writes s (t.numbered k).1 := by
  unfold State.numbered
  split
  · exact h
  · split
    · exact h.setFab
    · exact .ite h.takeSeq.setFab h.takeSeq

theorem Writes.transmit (h : Writes s t) {p : Nat} {k : Packet} : Writes s (t.transmit p k) := (Writes.ite h.setFab.setFab h.setFab).bump

theorem Writes.askedFor (h : Writes s t) {p n : Nat} : Writes s (t.askedFor p n) := by
  unfold State.askedFor
  split
  · exact h.setFab
  · exact h

theorem Writes.sendBeat (h : Writes s t) {p : Nat} : Writes s (t.sendBeat p) := h.transmit

theorem Writes.sendPicked (h : Writes s t) {p : Nat} {k : Packet} {rest : List Packet} : Writes s (t.sendPicked p k rest) := by
  unfold State.sendPicked
  dsimp only
  split
  · exact h.setFab.numbered.transmit
  · exact h.setFab.bump

theorem Writes.countDiscard (h : Writes s t) {p : Nat} : Writes s (t.countDiscard p) := h.setFab

theorem Writes.openPacket (h : Writes s t) {p : Nat} {k : Packet} : Writes s (t.openPacket p k).1 := by
  unfold State.openPacket
  dsimp only
  split
  · exact h
  · split
    · split
      · exact h.bump
      · exact h
    · split
      · exact h
      · exact h.bump.raise

theorem Writes.countLate (h : Writes s t) {p : Nat} {k : Packet} : Writes s (t.countLate p k) := .ite h.bump.raise h

theorem Writes.takeIn (h : Writes s t) {p : Nat} {k : Packet} : Writes s (t.takeIn p k).1 := by
  unfold State.takeIn
  extract_lets q
  split
  · exact h
  split
  · exact h.countDiscard
  split
  · exact h
  split
  · exact h
  split
  next hu => exact h.openPacket.of_fst hu
  next hu =>
    have h1 := h.openPacket.of_fst hu
    split
    · exact h1.countLate
    split
    · exact h1
    · exact h1.setFab.countLate

theorem Writes.consume (h : Writes s t) {p : Nat} {k : Packet} {ty : Nat} {f : State → Packet → State}
    (hf : ∀ u a1, Writes s u → Writes s (f u a1)) : WritesNext s (t.consume p k ty f) := by
  unfold State.consume
  refine .ite h.next ?_
  split
  next hu => exact (hf _ _ (h.takeIn.of_fst hu)).next
  next hu => exact (h.takeIn.of_fst hu).next

theorem Writes.dataIn (h : Writes s t) {p : Nat} {k : Packet} : Writes s (t.dataIn p k) := h.writeSpan

theorem execDataReceive_writes (h : Writes s t) {port : Port} {packet : Packet} : WritesNext s (execDataReceive port packet t) :=
  h.consume (fun _ _ h => h.dataIn)

theorem Writes.heartbeatIn (h : Writes s t) {p : Nat} {k : Packet} : Writes s (t.heartbeatIn p k) := h.setFab.bump

theorem execHeartbeatReceive_writes (h : Writes s t) {port : Port} {packet : Packet} : WritesNext s (execHeartbeatReceive port packet t) :=
  h.consume (fun _ _ h => h.heartbeatIn)

theorem Writes.portDown (h : Writes s t) {p st : Nat} : Writes s (t.portDown p st) := h.setFab.put.put

theorem Writes.timeRequestIn (h : Writes s t) {p : Nat} {k : Packet} : Writes s (t.timeRequestIn p k) := .ite h h.queueOn

theorem execTimeRequestReceive_writes (h : Writes s t) {port : Port} {packet : Packet} :
    WritesNext s (execTimeRequestReceive port packet t) :=
  h.consume (fun _ _ h => h.timeRequestIn)

theorem Writes.timeResponseIn (h : Writes s t) {p : Nat} {k : Packet} : Writes s (t.timeResponseIn p k) := .ite h h.alignOffset

theorem Writes.fencePort (h : Writes s t) {p : Nat} : Writes s (t.fencePort p) := h.portDown.put.evt

theorem Writes.mismatch (h : Writes s t) {p : Nat} : Writes s (t.mismatch p) := h.raise

theorem Writes.deriveId (h : Writes s t) : Writes s t.deriveId := by
  unfold State.deriveId
  split
  · exact h.foldl (fun _ _ h => h.put.put)
  · exact (h.foldl (fun _ _ h => h.put.put)).foldl (fun _ _ h => .ite h.put.fencePort.mismatch h)

theorem Writes.positionIn (h : Writes s t) {p : Nat} {k : Packet} : Writes s (t.positionIn p k) :=
  .ite h (.ite h.put.mismatch.deriveId h.put.put.put.put.deriveId)

theorem Writes.applyTopo (h : Writes s t) : Writes s t.applyTopo := by
  unfold State.applyTopo
  split
  · exact h
  · exact (h.setFab.foldl (fun _ _ h => h.put.put.raise)).foldl (fun _ _ h => .ite h h.raise)

theorem Writes.reportIn (h : Writes s t) {k : Packet} : Writes s (t.reportIn k) := .ite h.setFab h.setFab.applyTopo

theorem Writes.topologyIn (h : Writes s t) {p : Nat} {k : Packet} : Writes s (t.topologyIn p k) := .ite h.positionIn (.ite h.reportIn h)

theorem execTopologyReceive_writes (h : Writes s t) {port : Port} {packet : Packet} : WritesNext s (execTopologyReceive port packet t) :=
  h.consume (fun _ _ h => h.topologyIn)

theorem Writes.train (h : Writes s t) {p : Nat} : Writes s (t.train p) := h.portDown.setFab

/-! ### Reductions -/

theorem Writes.setRed (h : Writes s t) {r : RedSt} : Writes s (t.setRed r) := h.frame

theorem Writes.openBuckets (h : Writes s t) {q step frame epoch : Nat} {anew grafted : Bool} :
    Writes s (t.openBuckets q step frame epoch anew grafted) :=
  .ite h h.setRed

theorem Writes.setPartAt (h : Writes s t) {k : PartKey} {x : OpenPart} : Writes s (t.setPartAt k x) := h.setRed

theorem Writes.redCount (h : Writes s t) {p : Page} {f : Fld} {bit : Nat} : Writes s (t.redCount p f bit) := h.bump.raise

theorem Writes.setNoise (h : Writes s t) {q : Nat} {n : Noise} : Writes s (t.setNoise q n) := h.frame

theorem Writes.onStep (h : Writes s t) {q step : Nat} {g : OpenStep → OpenStep} : Writes s (t.onStep q step g) := by
  unfold State.onStep
  split
  · exact h.setRed
  · exact h

theorem Writes.noiseFailed (h : Writes s t) {q step : Nat} : Writes s (t.noiseFailed q step) := h.bump.raise.onStep

theorem Writes.retain (h : Writes s t) {k : PartKey} {o : OpenStep} {c : Cert} {sums : List Int} : Writes s (t.retain k o c sums) :=
  (Writes.ite h.writeSpan h).writeSpan.writeSpan.setRed

theorem Writes.rootCert (h : Writes s t) {k : PartKey} {o : OpenStep} {x : OpenPart} : Writes s (t.rootCert k o x).1 := by
  unfold State.rootCert
  dsimp only
  split
  · exact h
  · split
    · exact h
    · split
      · exact h
      · split
        · exact h
        · split
          · exact h.noiseFailed
          · exact h.setNoise.bump.bump.onStep

theorem Writes.certify (h : Writes s t) {k : PartKey} {o : OpenStep} : Writes s (t.certify k o) :=
  (h.setPartAt.rootCert.foldl (fun _ _ h => h.send)).bump.retain

theorem Writes.forwardPart (h : Writes s t) {k : PartKey} {o : OpenStep} {t' : Machine.Tree} {rank : Nat} :
    Writes s (t.forwardPart k o t' rank) :=
  (Writes.ite h.setPartAt.bump h.setPartAt).send

theorem Writes.sendOn (h : Writes s t) {k : PartKey} {o : OpenStep} {t' : Machine.Tree} {rank : Nat} : Writes s (t.sendOn k o t' rank) :=
  .ite h.certify h.forwardPart

theorem Writes.sendOnWhole (h : Writes s t) {k : PartKey} {o : OpenStep} {t' : Machine.Tree} {rank : Nat} :
    Writes s (t.sendOnWhole k o t' rank) :=
  .ite h.sendOn h

theorem Writes.ownPart (h : Writes s t) {k : PartKey} {o : OpenStep} {sums : List Int} {sat poison : Bool} :
    Writes s (t.ownPart k o sums sat poison) := by
  unfold State.ownPart
  dsimp only
  split
  · exact h
  · exact .ite h.redCount (Writes.ite h.setPartAt (.ite h.setPartAt.redCount h.setPartAt)).sendOnWhole

theorem Writes.contribute (h : Writes s t) {q step desc tile : Nat} {qs : List Int} {sats : List Bool} {poison : Bool} :
    Writes s (t.contribute q step desc tile qs sats poison) := by
  unfold State.contribute
  split
  · exact h
  · split
    · exact h
    · exact h.foldl (fun _ _ h => h.ownPart)

theorem Writes.takeSums (h : Writes s t) {w n : Nat} {payload : List Byte} : Writes s (t.takeSums w n payload).1 := h.setRed

theorem Writes.reduceIn (h : Writes s t) {port q : Nat} {k : Packet} : Writes s (t.reduceIn port q k) := by
  unfold State.reduceIn
  extract_lets pg
  split
  · exact h.redCount
  · extract_lets b t' x
    split
    · exact h.redCount
    · refine .ite h.redCount ?_
      refine .ite h.redCount ?_
      exact .ite h.redCount (Writes.ite h.takeSums.setPartAt.bump (.ite h.setPartAt.redCount h.setPartAt)).sendOnWhole

theorem Writes.certIn (h : Writes s t) {port q : Nat} {k : Packet} : Writes s (t.certIn port q k) := by
  unfold State.certIn
  dsimp only
  split
  · exact h.redCount
  · exact .ite h.redCount (.ite h.redCount (.ite h.redCount (Writes.retain (by split; exacts [h, h.takeSums]))))

theorem Writes.cutoff (h : Writes s t) {q bucket step tile piece : Nat} {root : Bool} :
    Writes s (t.cutoff q bucket step tile piece root) := by
  unfold State.cutoff
  split
  · exact h
  · dsimp only
    split
    · exact h
    · exact .ite h h.sendOn

theorem Writes.setNextExps (h : Writes s t) {q bucket step : Nat} {ok : Bool} : Writes s (t.setNextExps q bucket step ok) := by
  unfold State.setNextExps
  split
  · exact h
  · exact h.foldl (fun _ _ h => h.setRed)

theorem Writes.settle (h : Writes s t) {q bucket step : Nat} {ok : Bool} : Writes s (t.settle q bucket step ok) := by
  unfold State.settle
  refine .ite h ?_
  extract_lets pg u1 _ u2 u3
  have h1 : Writes s u1 := h.setNextExps
  have h2 : Writes s u2 := h1.setRed
  have h3 : Writes s u3 := .ite h2 h2.bump.evt.record
  split
  · exact .ite h3.put.onStep h3
  · exact h3

/-! ### Keys of the fabric -/

theorem Writes.drawBytes (h : Writes s t) {n : Nat} : Writes s (t.drawBytes n).2 := h.frame

theorem Writes.seqNow (h : Writes s t) {p : Nat} : Writes s (t.seqNow p) := h.setFab

theorem Writes.sendKa (h : Writes s t) {p dest code : Nat} {body : List Byte} : Writes s (t.sendKa p dest code body) := h.send

theorem Writes.installLink (h : Writes s t) {p : Nat} {gk : List Byte} : Writes s (t.installLink p gk) := by
  unfold State.installLink
  split
  · exact h
  · exact .ite h h.setSession.seqNow.put

theorem Writes.encPorts (h : Writes s t) {p : Nat} : Writes s (t.encPorts p) := h.foldl (fun _ _ h => h.put)

theorem Writes.kaFail (h : Writes s t) {p peer : Nat} : Writes s (t.kaFail p peer) := h.raise.sendKa

theorem Writes.sendSigned (h : Writes s t) {p src : Nat} : Writes s (t.sendSigned p src) := by
  unfold State.sendSigned
  split
  · exact h
  · exact h.sendKa

theorem Writes.notePeer (h : Writes s t) {p src : Nat} {key : List Byte} : Writes s (t.notePeer p src key) := h.frame.setSession

theorem Writes.takeEarly (h : Writes s t) {p : Nat} : Writes s (t.takeEarly p) := h.frame.foldl (fun _ _ h => .ite h.notePeer h.kaFail)

theorem Writes.startKeying (h : Writes s t) {p : Nat} : Writes s (t.startKeying p) := by
  unfold State.startKeying
  refine .ite ?_ h.frame.setSession.sendKa
  refine .ite (h.takeEarly.drawBytes.installLink.foldl (fun _ _ h => h.sendSigned)).encPorts ?_
  exact h.takeEarly.drawBytes.installLink.foldl (fun _ _ h => h.sendSigned)

theorem Writes.tryKey (h : Writes s t) {p : Nat} : Writes s (t.tryKey p) := by
  unfold State.tryKey
  refine .ite h ?_
  split
  · exact .ite h.startKeying h.installLink.encPorts
  · exact h

theorem Writes.kaKeyIn (h : Writes s t) {p src : Nat} {key : List Byte} : Writes s (t.kaKeyIn p src key) :=
  .ite h (.ite h.notePeer.sendSigned h.notePeer)

theorem Writes.kaSignedIn (h : Writes s t) {p src : Nat} {key sig hash : List Byte} : Writes s (t.kaSignedIn p src key sig hash) := by
  unfold State.kaSignedIn
  split
  · exact h
  · exact .ite h.setSession.sendKa h.kaFail

theorem Writes.kaProofIn (h : Writes s t) {p src : Nat} {sig hash : List Byte} : Writes s (t.kaProofIn p src sig hash) := by
  unfold State.kaProofIn
  split
  · exact .ite (.ite h.sendKa.setSession.encPorts h.sendKa.setSession) h.kaFail
  · exact h

theorem Writes.kaGroupIn (h : Writes s t) {p src : Nat} {sealed : List Byte} : Writes s (t.kaGroupIn p src sealed) := by
  unfold State.kaGroupIn
  split
  · exact h
  · dsimp only
    split
    · exact h.kaFail
    · exact .ite h.installLink.encPorts h.installLink

theorem Writes.keyMessage (h : Writes s t) {p src code : Nat} {body : List Byte} : Writes s (t.keyMessage p src code body) := by
  unfold State.keyMessage
  refine .ite (.ite h.frame h) ?_
  refine .ite h.raise ?_
  split
  · exact h.kaFail
  · exact .ite h.kaKeyIn (.ite h.kaSignedIn (.ite h.kaProofIn h.kaGroupIn))

theorem Writes.keyAnew (h : Writes s t) {p : Nat} : Writes s (t.keyAnew p) := by
  unfold State.keyAnew
  split
  · exact h
  · exact .ite h h.setSession.put.tryKey

theorem Writes.setTimeRef (h : Writes s t) {q : Nat} : Writes s (t.setTimeRef q) := .ite h (.ite h.put.put.setAligned h.put.put)

theorem Writes.askTime (h : Writes s t) {q : Nat} : Writes s (t.askTime q) := by
  unfold State.askTime
  refine .ite h.setTimeRef.tryKey ?_
  split
  · exact h.setTimeRef.tryKey.queueOn
  · exact h.setTimeRef.tryKey

/-! ### Votes and certificates -/

theorem Writes.sendVote (h : Writes s t) {k : VoteKey} {v : Vote} {ty dest : Nat} {x : VoteSum} :
    Writes s (t.sendVote k v ty dest x) :=
  h.send

theorem Writes.setVote (h : Writes s t) {k : VoteKey} {v : Vote} : Writes s (t.setVote k v) := h.setRed

theorem Writes.openVote (h : Writes s t) {b : Ballot} {piece : Nat} {elems : List Int} : Writes s (t.openVote b piece elems) := by
  unfold State.openVote
  dsimp only
  split
  · exact h
  · exact .ite h.setVote (.ite h.setVote.sendVote (.ite (h.setVote.foldl (fun _ _ h => h.sendVote)) h.setVote))

theorem Writes.openParts (h : Writes s t) {b : Ballot} {elems : List Int} :
    Writes s (t.openParts b elems) :=
  h.foldl (fun _ _ h => h.openVote)

theorem Writes.openRunVotes (h : Writes s t) {q v : Nat} : Writes s (t.openRunVotes q v) := by
  unfold State.openRunVotes
  refine .ite h ?_
  refine .ite (Writes.ite (Writes.ite h.openParts h).openParts (.ite h.openParts h)).openParts ?_
  exact .ite (Writes.ite h.openParts h).openParts (.ite h.openParts h)

theorem Writes.openCloseVotes (h : Writes s t) {q v : Nat} : Writes s (t.openCloseVotes q v) := h.foldl (fun _ _ h => h.openParts)

theorem Writes.openActivationVote (h : Writes s t) {q v : Nat} : Writes s (t.openActivationVote q v) := by
  unfold State.openActivationVote
  split
  · exact h
  · exact .ite h h.openParts

theorem Writes.openGraftVote (h : Writes s t) {q v : Nat} : Writes s (t.openGraftVote q v) := h.foldl (fun _ _ h => h.openParts)

theorem Writes.openVotes (h : Writes s t) {q v : Nat} : Writes s (t.openVotes q v) :=
  .ite h.setRed h.setRed.openRunVotes.openCloseVotes.openActivationVote.openGraftVote

theorem Writes.voteAct (h : Writes s t) {k : VoteKey} {v : Vote} {res : List Nat} {slot : Nat} : Writes s (t.voteAct k v res slot) := by
  unfold State.voteAct
  extract_lets tree d due x
  split
  next => exact h
  next rank _ =>
    extract_lets u1 v'
    have h1 : Writes s u1 := .ite h (.ite (.ite h.setVote.sendVote h) (.ite (h.setVote.foldl fun _ _ h => h.sendVote) h))
    exact .ite h1.setVote.sendVote h1

theorem Writes.voteSlot (h : Writes s t) {p slot : Nat} : Writes s (t.voteSlot p slot) := .ite (h.foldl (fun _ _ h => h.voteAct)) h

theorem Writes.slotZero (h : Writes s t) {p : Nat} : Writes s (t.slotZero p) := .ite (.ite h.sendBeat h) (Writes.ite h.sendBeat h).askTime

theorem Writes.slotOther (h : Writes s t) {p slot : Nat} : Writes s (t.slotOther p slot) := by
  unfold State.slotOther
  dsimp only
  split
  · exact h.voteSlot.setFab.transmit.bump
  · split
    · exact h.voteSlot.sendPicked
    · exact h.voteSlot

theorem Writes.voteInput (h : Writes s t) {v : Vote} {k : Packet} : Writes s (t.voteInput v k).1 := h.takeSums

theorem Writes.voteIn (h : Writes s t) {port q : Nat} {k : Packet} : Writes s (t.voteIn port q k) := by
  unfold State.voteIn
  dsimp only
  split
  · exact h.redCount
  · split
    · refine .ite h.redCount ?_
      refine .ite (.ite h.redCount (.ite h.redCount h.voteInput.setVote.bump)) ?_
      exact .ite (.ite h.redCount h.voteInput.setVote.bump) h.redCount
    · exact h.redCount

theorem Writes.voteFail (h : Writes s t) {q : Nat} : Writes s (t.voteFail q) := h.bump.evt.record.leaveGroup.frame.enterHold

theorem Writes.voteCertIn (h : Writes s t) {port q : Nat} {k : Packet} : Writes s (t.voteCertIn port q k) := by
  unfold State.voteCertIn
  dsimp only
  split
  · exact h.redCount
  · refine .ite h.redCount ?_
    split
    · exact .ite h h.voteInput.setVote
    · exact .ite h h.voteFail

theorem execReduceReceive_writes (h : Writes s t) {port : Port} {packet : Packet} : WritesNext s (execReduceReceive port packet t) :=
  h.consume (fun _ _ h => .ite h.voteIn h.reduceIn)

theorem execCertReceive_writes (h : Writes s t) {port : Port} {packet : Packet} : WritesNext s (execCertReceive port packet t) :=
  h.consume (fun _ _ h => .ite h.voteCertIn h.certIn)

theorem Writes.actPrecision (h : Writes s t) {q step : Nat} {l : List Int} : Writes s (t.actPrecision q step l) := h.setPart

theorem Writes.actLoss (h : Writes s t) {q v : Nat} {l : List Int} : Writes s (t.actLoss q v l) :=
  .ite h (.ite h.setPart.setRed.record.leaveGroup.enterHold h.setPart.setRed)

theorem Writes.refuseSwitch (h : Writes s t) {b : Nat} : Writes s (t.refuseSwitch b) := by
  unfold State.refuseSwitch
  split
  · exact h
  · exact (Writes.ite h.dropPending h.dropPending.setSeq).evt

theorem Writes.actActivation (h : Writes s t) {q : Nat} {c : VoteSum} : Writes s (t.actActivation q c) := by
  unfold State.actActivation
  split
  · exact h
  · extract_lets id same beds
    refine .ite (h.foldl (fun _ _ h => by split; exacts [h.setBed, h])) ?_
    exact (h.foldl (fun _ _ h => h.refuseSwitch)).record

theorem Writes.releaseGrads (h : Writes s t) {q step : Nat} : Writes s (t.releaseGrads q step) := by
  unfold State.releaseGrads
  extract_lets f
  exact h.foldl (fun _ _ h => h.foldl (fun _ _ h => by split; exacts [.ite h.releaseLine h, h]))

theorem Writes.actCommit (h : Writes s t) {q step : Nat} {sum : Int} : Writes s (t.actCommit q step sum) :=
  .ite (h.foldl (fun _ _ h => h.releaseGrads)).setPart h.setPart

theorem Writes.actGraft (h : Writes s t) {q v step count : Nat} : Writes s (t.actGraft q v step count) := by
  unfold State.actGraft
  split
  · exact h
  · exact .ite h.setPart h.setPart.raise

theorem Writes.actClose (h : Writes s t) {q : Nat} {l : List (Nat × Nat)} {c : VoteSum} : Writes s (t.actClose q l c) :=
  h.foldl (fun _ _ h => h.settle)

theorem Writes.actVote (h : Writes s t) {q code v step : Nat} {about : List (Nat × Nat)} {c : VoteSum} :
    Writes s (t.actVote q code v step about c) := by
  unfold State.actVote
  refine .ite h.actPrecision ?_
  exact .ite h.actLoss (.ite h.actActivation (.ite h.actCommit (.ite h.actGraft h.actClose)))

theorem Writes.noCert (h : Writes s t) {q code v step : Nat} : Writes s (t.noCert q code v step) := .ite h.voteFail (.ite h.actGraft h)

theorem Writes.closeVote (h : Writes s t) {q code frame step : Nat} : Writes s (t.closeVote q code frame step) := by
  unfold State.closeVote
  have h1 : Writes s ((t.voteParts q code frame step).foldl
      (fun s e => s.setVote e.1 { e.2 with acted := true, cert := certOf e.2 }) t) := h.foldl fun _ _ h => h.setVote
  dsimp only
  split
  · exact h1
  · exact .ite h1 (.ite (Writes.ite h1.bump h1).actVote h1.noCert)

theorem Writes.actVotes (h : Writes s t) {q n : Nat} : Writes s (t.actVotes q n) := h.foldl (fun _ _ h => h.foldl (fun _ _ h => h.closeVote))

end Sys2Proof.Machine
end

section
/-! PROOFS. What each operation of the model writes of memory's and the local stores' bytes (`Writes`): tiles, layers and frame ticks. -/

namespace Sys2Proof.Machine

variable {s t : State}

/-! ### Quantised tiles -/

theorem Writes.watchAdd (h : Writes s t) {b : Nat} {d : Desc} {counts : List Nat} : Writes s (t.watchAdd b d counts) := .ite h.setCores h

theorem Writes.quantEvt (h : Writes s t) {b : Nat} {d : Desc} {step bit : Nat} {on : Bool} : Writes s (t.quantEvt b d step bit on) :=
  .ite h (.ite (h.evt.onceDo (fun _ h => h.record)) h.evt)

theorem Writes.watchNorm (h : Writes s t) {b c : Nat} {d : Desc} {order x : List Nat} : Writes s (t.watchNorm b c d order x) :=
  .ite h.raiseFlags.setCores h

theorem Writes.watchAmax (h : Writes s t) {b : Nat} {d : Desc} {x : List Nat} : Writes s (t.watchAmax b d x) := .ite h.setCores h

theorem Writes.quantWrite (h : Writes s t) {b : Nat} {d : Desc} {addr : Nat} {bs : List Byte} {poison : Bool} :
    Writes s (t.quantWrite b d addr bs poison) :=
  h.writeSpan

theorem Writes.quantScaled (h : Writes s t) {b c : Nat} {d : Desc} {r : Released} {x : List Nat} {tee : Nat} :
    Writes s (t.quantScaled b c d r x tee) := by
  unfold State.quantScaled
  extract_lets t' turned x u1 y blocks pad req rd entry cal u2 rnd bs v mis sum sat esc ovf poi u3 u4 u5
  have h2 : Writes s u2 := by
    dsimp only [u2, rd]
    split
    · exact h.watchAmax
    · exact h.watchAmax.readSpan
  have h3 : Writes s u3 := .ite h2 h2.writeSpan
  have h5 : Writes s u5 := .ite h3.quantWrite h3.quantWrite.quantWrite
  exact h5.raiseFlags.watchAdd.quantEvt.quantEvt.quantEvt.quantEvt

theorem Writes.quantPlain (h : Writes s t) {b c : Nat} {d : Desc} {r : Released} {x : List Nat} : Writes s (t.quantPlain b c d r x) :=
  h.quantWrite.raiseFlags.watchAdd

theorem Writes.quantI16 (h : Writes s t) {b c desc : Nat} {d : Desc} {r : Released} {x : List Nat} {e : Int} :
    Writes s (t.quantI16 b c desc d r x e) :=
  h.raiseFlags.watchAdd.contribute

theorem Writes.quantCopy (h : Writes s t) {b c : Nat} {r : Released} {d : Desc} {x : List Nat} : Writes s (t.quantCopy b c r d x) :=
  h.watchNorm.quantScaled

theorem Writes.quantTile (h : Writes s t) {b c : Nat} {r : Released} {e : Int} : Writes s (t.quantTile b c r e) := by
  unfold State.quantTile
  extract_lets u1 n f d x u2 u3 u4
  have h1 : Writes s u1 := h
  have h2 : Writes s u2 := h.raiseFlags
  have h3 : Writes s u3 := by
    dsimp only [u3]
    split
    · exact h2.freeSlots
    · exact h2
  have h4 : Writes s u4 := h3.watchNorm
  refine .ite ?_ (.ite h4.quantI16 h4.quantPlain)
  split
  · exact .ite h4.quantScaled.quantCopy h4.quantScaled
  · exact h4.quantScaled

theorem Writes.setReleased (h : Writes s t) {n : Nat} {l : List Released} : Writes s (t.setReleased n l) := h.setCores

theorem execQuantiseTile_writes (h : Writes s t) {bed : Bed} {core : Core} : WritesNext s (execQuantiseTile bed core t) := by
  unfold execQuantiseTile
  refine .ite h.next ?_
  split
  · exact h.next
  · refine .ite ?_ h.setReleased.quantTile.next
    split
    · exact Writes.next (by split; exacts [h.setReleased.freeSlots, h.setReleased])
    · split
      · exact h.setReleased.next
      · exact h.slip.setReleased.quantTile.next

/-! ### Layers and their precision -/

theorem Writes.closeWatch (h : Writes s t) {b : Nat} : Writes s (t.closeWatch b) := h.setCores

theorem Writes.normFlags (h : Writes s t) {b : Nat} : Writes s (t.normFlags b) := h.foldl (fun _ _ h => h.raiseFlags)

theorem Writes.watchSnap (h : Writes s t) {b step : Nat} : Writes s (t.watchSnap b step) :=
  (h.closeWatch.normFlags.resetFields.foldl (fun _ _ h => h.foldl (fun _ _ h => h.put))).put.put

theorem Writes.normSlot (h : Writes s t) {q : Nat} {beds : List Nat} {slot : Nat} : Writes s (t.normSlot q beds slot).1 := by
  unfold State.normSlot
  split
  · exact h
  · exact .ite (h.foldl (fun _ _ h => h.put.put)).setPart.raise (h.foldl (fun _ _ h => h.put.put)).setPart

theorem Writes.norms (h : Writes s t) {q : Nat} {beds : List Nat} : Writes s (t.norms q beds).1 :=
  (h.foldl (fun _ _ h => h.resetFields)).foldlPair (fun _ _ h => h.normSlot)

theorem Writes.localTrips (h : Writes s t) {q : Nat} {beds jumps : List Nat} : Writes s (t.localTrips q beds jumps) := by
  unfold State.localTrips
  refine .ite h.setPart (Writes.setPart (Writes.foldlPair h fun y l hy => ?_))
  extract_lets tests u1 u2 u3
  have h1 : Writes s u1 := .ite hy.raise hy
  have h2 : Writes s u2 := .ite h1.raise h1
  have h3 : Writes s u3 := .ite h2.raise h2
  split
  · exact h3
  · exact hy

theorem Writes.nextScale (h : Writes s t) {k : Nat × Nat} {amax : Nat} : Writes s (t.nextScale k amax) := by
  unfold State.nextScale
  dsimp only
  split
  · exact h.setCores
  · exact .ite h h.setCores

theorem Writes.nextScales (h : Writes s t) {j : Nat} : Writes s (t.nextScales j) := (h.foldl (fun _ _ h => h.nextScale)).setCores

theorem Writes.moveState (h : Writes s t) {lp : Page} {layer st step : Nat} : Writes s (t.moveState lp layer st step) := .ite h h.put.put.put

theorem Writes.enterLayer (h : Writes s t) {lp : Page} {layer st step byRetry shift : Nat} :
    Writes s (t.enterLayer lp layer st step byRetry shift) :=
  h.put.put.put.put.put

theorem Writes.noteMove (h : Writes s t) {q layer step : Nat} : Writes s (t.noteMove q layer step) := h.setPart

theorem Writes.moveLayer (h : Writes s t) {q : Nat} {f : File} {layer st step byRetry shift : Nat} :
    Writes s (t.moveLayer q f layer st step byRetry shift) :=
  .ite h.enterLayer.noteMove h.record

theorem Writes.evalLayer (h : Writes s t) {q : Nat} {f : File} {layer step : Nat} : Writes s (t.evalLayer q f layer step) := by
  unfold State.evalLayer
  refine .ite (.ite h.bump.record (.ite h.bump.put h.bump)) ?_
  exact .ite (.ite h.bump.put.record h.bump.moveLayer) (.ite h.bump.moveLayer (.ite h.bump.put h.bump))

theorem Writes.evalLayers (h : Writes s t) {q step : Nat} : Writes s (t.evalLayers q step) :=
  (Writes.ite h (h.foldl (fun _ _ h => h.evalLayer))).setPart

/-! ### Frame ticks: due sets, switches, starts and steps -/

theorem Writes.passSkipped (h : Writes s t) {b : Nat} : Writes s (t.passSkipped b) :=
  .ite h (h.onCores (fun _ _ h => h.foldl (fun _ _ h => h.nextEntry)))

theorem Writes.countStalls (h : Writes s t) {b : Nat} : Writes s (t.countStalls b) :=
  h.onCores (fun _ _ h => h.foldl (fun _ _ h => .ite h.bump.put h))

theorem Writes.realign (h : Writes s t) {b : Nat} : Writes s (t.realign b) := by
  unfold State.realign
  extract_lets u1 u2 u3 u4
  have h1 : Writes s u1 := h.bump
  have h2 : Writes s u2 := .ite h1.evt h1.raise
  have h3 : Writes s u3 := h2.onCores (fun _ _ h => h.foldl (fun _ _ h => .ite h.ctxReset h))
  have h4 : Writes s u4 := h3.stopRunning.setSeq
  exact h4.setBed

theorem Writes.overrun (h : Writes s t) {b : Nat} : Writes s (t.overrun b) := h.bump.raise.skipFrame.setSeq.setBed

theorem Writes.noteSlack (h : Writes s t) {b : Nat} : Writes s (t.noteSlack b) := h.setBed

theorem Writes.closeRun (h : Writes s t) {b : Nat} : Writes s (t.closeRun b) := by
  unfold State.closeRun
  refine .ite h.passSkipped.countStalls.noteSlack.idleBed ?_
  refine .ite h.passSkipped.countStalls.noteSlack.realign ?_
  exact .ite h.passSkipped.countStalls.noteSlack.overrun h.passSkipped.countStalls.noteSlack

theorem Writes.coarseSnap (h : Writes s t) {b : Nat} : Writes s (t.coarseSnap b) := h.frame

theorem Writes.tickPages (h : Writes s t) {b : Nat} : Writes s (t.tickPages b) := h.foldl (fun _ _ h => .ite h.tickPage h)

theorem Writes.dalStale (h : Writes s t) {b : Nat} : Writes s (t.dalStale b) := by
  unfold State.dalStale
  extract_lets l u1
  have h1 : Writes s u1 := by
    dsimp only [u1]
    exact h.foldl (fun _ _ h => by split; exacts [h.staleLine.bump, h.setCache])
  exact .ite h1.raise h1

theorem Writes.nfStep (h : Writes s t) {b step : Nat} : Writes s (t.nfStep b step) := by
  unfold State.nfStep
  dsimp only
  split
  · exact h.put.put.put.put
  · exact h.put.put.put.put.recordAt.setBed

theorem Writes.bedBoundary (h : Writes s t) {b : Nat} : Writes s (t.bedBoundary b) := by
  unfold State.bedBoundary
  extract_lets p step u1 _ u2 u3 u4
  have h1 : Writes s u1 := h.nfStep.dalStale.put
  have h2 : Writes s u2 := h1.setBed
  have h3 : Writes s u3 := h2.frame
  have h4 : Writes s u4 := .ite h3 h3.nextScales
  exact h4.put.put.openStep

theorem Writes.creditUnit (h : Writes s t) {q : Nat} {f : File} {u' step : Nat} : Writes s (t.creditUnit q f u' step) := .ite h.put h

theorem Writes.creditUnits (h : Writes s t) {q step : Nat} : Writes s (t.creditUnits q step) := h.foldl (fun _ _ h => h.creditUnit)

theorem Writes.forgetUpdates (h : Writes s t) {q : Nat} : Writes s (t.forgetUpdates q) := h.frame

theorem Writes.latchGroups (h : Writes s t) {q step : Nat} : Writes s (t.latchGroups q step) := h.frame

theorem Writes.reseedFail (h : Writes s t) {q : Nat} : Writes s (t.reseedFail q) := h.setNoise.put.record

theorem Writes.reseedOk (h : Writes s t) {q : Nat} : Writes s (t.reseedOk q) := h.frame.bump.put.put.put

theorem Writes.retryNoise (h : Writes s t) {q : Nat} : Writes s (t.retryNoise q) := .ite h (.ite h.reseedFail h.reseedOk)

theorem Writes.partWatch (h : Writes s t) {q : Nat} : Writes s (t.partWatch q) := h.norms.localTrips.setCores

theorem Writes.partBoundary (h : Writes s t) {q step : Nat} : Writes s (t.partBoundary q step) := by
  unfold State.partBoundary
  refine .ite h.nextScales.put.put.creditUnits.evalLayers.setPart.latchGroups.retryNoise.holdBeds.raise ?_
  exact h.nextScales.put.put.creditUnits.evalLayers.setPart.latchGroups.retryNoise

theorem Writes.putOwned (h : Writes s t) {p : Page} {f : Fld} {v step : Nat} : Writes s (t.putOwned p f v step) :=
  .ite (.ite h.moveState h.moveState.noteMove) h.put

theorem Writes.writeOwned (h : Writes s t) {mine : Page → Bool} {states : Bool} {step off v : Nat} :
    Writes s (t.writeOwned mine states step off v) := by
  unfold State.writeOwned
  split
  · exact h
  · exact .ite (h.foldl (fun _ _ h => .ite h.putOwned h)) h

theorem Writes.writeAllOwned (h : Writes s t) {b : Nat} {f : File} {states : Bool} {step : Nat} :
    Writes s (t.writeAllOwned b f states step) :=
  h.foldl (fun _ _ h => h.writeOwned)

theorem Writes.loadGroups (h : Writes s t) {q : Nat} {f : File} : Writes s (t.loadGroups q f) :=
  .ite h ((h.resetFields.foldl (fun _ _ h => .ite h h.put)).foldl (fun _ _ h => h.put))

theorem Writes.zeroCounters (h : Writes s t) {b : Nat} : Writes s (t.zeroCounters b) := by
  unfold State.zeroCounters
  extract_lets q u1 u2 u3 u4
  have h1 : Writes s u1 := h.resetFields
  have h2 : Writes s u2 := h1.frame
  have h3 : Writes s u3 := h2.foldl (fun _ _ h => h.resetFields)
  have h4 : Writes s u4 := h3.foldl (fun _ _ h => h.resetFields)
  exact .ite h4.resetFields.put.put.put h4

theorem Writes.seedNoise (h : Writes s t) {q : Nat} : Writes s (t.seedNoise q) :=
  .ite h.put.setNoise.put.reseedFail h.put.draw.setNoise.put.put

theorem Writes.setHeader (h : Writes s t) {b n : Nat} {f : File} : Writes s (t.setHeader b n f) := (Writes.ite h h.put.put.setBed).put.put.put

theorem Writes.switchBed (h : Writes s t) {b slot step epoch n : Nat} : Writes s (t.switchBed b slot step epoch n) := by
  unfold State.switchBed
  extract_lets q f x u1 _ u2 u3 u4 p u5 u6 u7
  have h1 : Writes s u1 := h.setBed
  have h2 : Writes s u2 := h1.setCores
  have h3 : Writes s u3 := h2.copyLists.setHeader.showArm
  have h4 : Writes s u4 := h3.zeroCounters
  have h5 : Writes s u5 := h4.put.put.put
  have h6 : Writes s u6 := h5.setSeq.openStep
  have h7 : Writes s u7 := h6.foldl (fun _ _ h => h.put)
  exact h7.raise

theorem Writes.newJob (h : Writes s t) {q : Nat} : Writes s (t.newJob q) := .ite h.frame h

theorem Writes.dropScales (h : Writes s t) {j : Nat} : Writes s (t.dropScales j) := h.setCores

theorem Writes.switchPart (h : Writes s t) {q slot step : Nat} {job : Bool} : Writes s (t.switchPart q slot step job) := by
  unfold State.switchPart
  extract_lets f x u1 u2 u3
  have h1 : Writes s u1 := h.setPart
  have h2 : Writes s u2 := .ite h1.forgetUpdates.dropScales h1
  have h3 : Writes s u3 := (Writes.ite h2.newJob.seedNoise h2).setTimeRef
  exact h3.loadGroups.latchGroups

theorem Writes.activateAt (h : Writes s t) {b n : Nat} : Writes s (t.activateAt b n) := by
  unfold State.activateAt
  split
  · exact h
  · refine .ite h (.ite h.refuseSwitch.record ?_)
    extract_lets lead _ u1 u2 u3
    have h1 : Writes s u1 := h.setBed.put
    have h2 : Writes s u2 := .ite h1 h1.dropScales
    have h3 : Writes s u3 := .ite h2.switchPart h2
    exact h3.switchBed.writeAllOwned

theorem Writes.epochBoundary (h : Writes s t) {q n step : Nat} : Writes s (t.epochBoundary q n step) := by
  unfold State.epochBoundary
  split
  · exact h
  · extract_lets beds ids v epoch _ u1 u2
    have h1 : Writes s u1 := h.setPart
    have h2 : Writes s u2 := h1.foldl fun _ _ h => h.put
    refine .ite h2.holdBeds.setPart ?_
    cases v with
    | none => exact h2.holdBeds.raise
    | some x => exact (Writes.ite h2.switchPart h2.switchPart.setPart).foldl fun _ _ h => h.switchBed.writeAllOwned

theorem Writes.graftLayer (h : Writes s t) {lp : Page} {h' step l : Nat} : Writes s (t.graftLayer lp h' step l) := h.put.put.put.put.put

theorem Writes.joinGraft (h : Writes s t) {q n : Nat} : Writes s (t.joinGraft q n) := by
  unfold State.joinGraft
  split
  · exact h
  · extract_lets f epoch lp beds u1 u2 u3 _ u4
    have h1 : Writes s u1 := h.switchPart.foldl (fun _ _ h => h.switchBed)
    have h2 : Writes s u2 := h1.foldl (fun _ _ h => h.writeAllOwned)
    have h3 : Writes s u3 := h2.foldl (fun _ _ h => h.graftLayer)
    have h4 : Writes s u4 := h3.setPart
    exact h4.setFab

theorem Writes.newBudgets (h : Writes s t) {b : Nat} :
    Writes s (t.newBudgets b) :=
  .ite h.setMem (h.setMem.foldl (fun _ _ h => h.put)).put.put

theorem Writes.openBudgets (h : Writes s t) {b : Nat} : Writes s (t.openBudgets b) := h.newBudgets.clipWaiting

theorem Writes.openBed (h : Writes s t) {b : Nat} : Writes s (t.openBed b) := .ite h.openFrame.openBudgets.skipFrame h.openFrame.openBudgets

theorem Writes.streamLines (h : Writes s t) {q dest a len : Nat} {place : Nat → Nat} : Writes s (t.streamLines q dest a len place) :=
  h.foldl (fun _ _ h => h.readSpan.send)

theorem Writes.streamWard (h : Writes s t) {q n : Nat} : Writes s (t.streamWard q n) := by
  unfold State.streamWard
  dsimp only
  split
  · exact h
  · exact .ite h.streamLines h

theorem Writes.streamStep (h : Writes s t) {q : Nat} {f : File} {dest step : Nat} : Writes s (t.streamStep q f dest step) :=
  (h.foldl (fun _ _ h => h.streamLines)).streamLines

theorem Writes.streamSource (h : Writes s t) {q n : Nat} : Writes s (t.streamSource q n) := by
  unfold State.streamSource
  dsimp only
  split
  · exact h
  · refine .ite h ?_
    split
    · exact h
    · exact h.foldl (fun _ _ h => h.streamStep)

theorem Writes.openPart (h : Writes s t) {q n : Nat} {anew grafted : Bool} : Writes s (t.openPart q n anew grafted) :=
  (Writes.ite h.openBuckets h).openVotes.askTime.streamWard.streamSource

theorem Writes.closeBed (h : Writes s t) {b n : Nat} {boundary : Bool} : Writes s (t.closeBed b n boundary) := by
  unfold State.closeBed
  refine .ite (Writes.ite h.closeRun h).setBed.put.coarseSnap.endStops.tickPages.watchSnap ?_
  exact (Writes.ite h.closeRun h).setBed.put.coarseSnap.endStops.tickPages

theorem Writes.countStep (h : Writes s t) {b : Nat} {boundary : Bool} :
    Writes s (t.countStep b boundary) :=
  .ite h.bedBoundary (.ite h.put h)

theorem Writes.tickPart (h : Writes s t) {q n : Nat} {boundary : Bool} : Writes s (t.tickPart q n boundary) :=
  .ite (Writes.ite h.partBoundary h).epochBoundary (Writes.ite h.partBoundary h).joinGraft

theorem Writes.tick (h : Writes s t) {b : Nat} : Writes s (t.tick b) := by
  unfold State.tick
  extract_lets q n beds lead first edge u1 u2 u3 u4 anew grafted u5 u6 u7 u8
  have h1 : Writes s u1 := h.foldl (fun _ _ h => h.closeBed)
  have h2 : Writes s u2 := .ite h1.partWatch h1
  have h3 : Writes s u3 := h2.foldl (fun _ _ h => h.countStep)
  have h4 : Writes s u4 := .ite h3.actVotes h3
  have h5 : Writes s u5 := .ite h4.tickPart h4
  have h6 : Writes s u6 := h5.foldl (fun _ _ h => h.activateAt)
  have h7 : Writes s u7 := .ite h6.sampleWatts.clockTick.trimTick h6
  have h8 : Writes s u8 := (h7.foldl (fun _ _ h => h.openBed)).applyTopo
  exact .ite h8.openPart h8

theorem Writes.tickIf (h : Writes s t) {b : Nat} {on : Bool} : Writes s (t.tickIf b on) := .ite h.tick h

theorem Writes.leadTick (h : Writes s t) {q : Nat} {on : Nat → Bool} : Writes s (t.leadTick q on) := h.tickIf

end Sys2Proof.Machine
end

section
/-! PROOFS. What each operation of the model writes of memory's and the local stores' bytes (`Writes`): the recorder, power, commands, transfers and the update units. -/

namespace Sys2Proof.Machine

variable {s t : State}

/-! ### The event recorder -/

theorem Writes.showHoldup (h : Writes s t) : Writes s t.showHoldup := h.put.put

theorem Writes.holdupLow (h : Writes s t) : Writes s t.holdupLow := .ite h.bump h.bump.raise

theorem Writes.beginStore (h : Writes s t) {kind : Nat} : Writes s (t.beginStore kind) := h.put.put

theorem Writes.spend (h : Writes s t) {kind : Nat} : Writes s (t.spend kind) := h.frame.showHoldup

theorem Writes.setRec (h : Writes s t) {r : RecSt} : Writes s (t.setRec r) := h.frame

theorem Writes.storeRecord (h : Writes s t) {r : Record} : Writes s (t.storeRecord r) := by
  unfold State.storeRecord
  refine .ite ?_ h.setRec.put
  split
  · exact h
  · exact h.setRec.put

theorem Writes.noteLedger (h : Writes s t) {r : Record} : Writes s (t.noteLedger r) := by
  unfold State.noteLedger
  refine .ite ?_ h
  split
  · exact h
  · exact Writes.put (by split; exacts [h.frame, h])

theorem Writes.checkProt (h : Writes s t) : Writes s t.checkProt := .ite h.put.raise h.put

theorem Writes.enqueueAll (h : Writes s t) {l : List Record} : Writes s (t.enqueueAll l) := h.foldl (fun _ _ h => h.enqueue)

theorem Writes.feedPending (h : Writes s t) : Writes s t.feedPending := h.foldl (fun _ _ h => .ite h.setRec.enqueue h)

theorem Writes.feedLedger (h : Writes s t) {q : Nat} : Writes s (t.feedLedger q) := h.foldl (fun _ _ h => .ite h.frame.enqueueAll h)

theorem Writes.feedAudit (h : Writes s t) : Writes s t.feedAudit := h.foldl (fun _ _ h => .ite h.setRec.enqueueAll h)

theorem Writes.feedDropped (h : Writes s t) : Writes s t.feedDropped := by
  unfold State.feedDropped
  split
  · exact h
  · exact .ite h.setRec.postGeneral h

theorem Writes.feed (h : Writes s t) : Writes s t.feed := (h.feedPending.feedAudit.foldl (fun _ _ h => h.feedLedger)).feedDropped

theorem Writes.takeBatch (h : Writes s t) : Writes s t.takeBatch := h.setRec

theorem Writes.writeBatch (h : Writes s t) : Writes s t.writeBatch := (h.foldl (fun _ _ h => h.storeRecord.noteLedger)).setRec.checkProt.feed

theorem Writes.beginBatch (h : Writes s t) : Writes s t.beginBatch := h.takeBatch.beginStore.put.put

theorem Writes.tryStore (h : Writes s t) {kind : Nat} : Writes s (t.tryStore kind) :=
  .ite h (.ite (Writes.ite h.put h).holdupLow (.ite h.beginBatch h.beginStore))

theorem Writes.writeHdr (h : Writes s t) : Writes s t.writeHdr := h.frame

theorem Writes.readHdr (h : Writes s t) : Writes s t.readHdr := by
  unfold State.readHdr
  split
  · exact h
  · exact h.frame.put

theorem Writes.storeDone (h : Writes s t) {kind : Nat} : Writes s (t.storeDone kind) :=
  .ite (Writes.ite h h.writeBatch).put (.ite h.frame (.ite h.frame h.writeHdr))

theorem Writes.finishStore (h : Writes s t) : Writes s t.finishStore := .ite h.storeDone.put.spend h

theorem Writes.askFreeze (h : Writes s t) : Writes s t.askFreeze := .ite h h.setRec

theorem Writes.endFreeze (h : Writes s t) : Writes s t.endFreeze := h.setRec.put.put

theorem Writes.markRead (h : Writes s t) {k : Nat} : Writes s (t.markRead k) := .ite h.setRec h

/-! ### The ledger -/

theorem execLedgerEntryWrite_writes (h : Writes s t) {part : Bed} : WritesNext s (execLedgerEntryWrite part t) := by
  unfold execLedgerEntryWrite
  dsimp only
  split
  · exact h.next
  · exact h.setNoise.onStep.feed.next

theorem execEntropyHealthFail_writes (h : Writes s t) : WritesNext s (execEntropyHealthFail t) := by
  unfold execEntropyHealthFail
  refine .ite ?_ h.next
  extract_lets u1
  have h1 : Writes s u1 := h.foldl (fun _ _ h => .ite h.setNoise.put h)
  clear_value u1
  exact (Writes.put h1.frame).raise.next

/-! ### Sessions -/

theorem Writes.clearSealed (h : Writes s t) {p : Nat} : Writes s (t.clearSealed p) := h.foldl (fun _ _ h => h.put)

theorem Writes.keyBridges (h : Writes s t) {p : Nat} : Writes s (t.keyBridges p) := h.foldl (fun _ _ h => h.put.bump.put.startScrub)

theorem Writes.beginSession (h : Writes s t) {p grantSeq : Nat} {group tenant exportSecret : List Byte}
    {roster : List (Nat × List Byte)} {digest : List Byte} :
    Writes s (t.beginSession p grantSeq group tenant exportSecret roster digest) := by
  unfold State.beginSession
  refine .ite h.drawBytes.drawBytes.setSession.setSessionState.put.put.clearSealed.keyBridges.seqNow ?_
  exact h.drawBytes.drawBytes.setSession.setSessionState.put.put.clearSealed.keyBridges

theorem Writes.finishOpen (h : Writes s t) {p : Nat} : Writes s (t.finishOpen p) := by
  unfold State.finishOpen
  extract_lets u1 u2
  have h1 : Writes s u1 := h.foldl (fun _ _ h => h.put.put)
  have h2 : Writes s u2 := h1.foldl (fun _ _ h => h.doLock)
  exact h2.seedNoise.setSessionState.raise.tryKey

theorem execScrubDone_writes (h : Writes s t) {bridge : Bed} : WritesNext s (execScrubDone bridge t) := by
  unfold execScrubDone
  refine .ite h.next ?_
  refine .ite h.put.raise.next ?_
  exact .ite h.put.raise.finishOpen.next (.ite h.put.raise.finishClose.next h.put.raise.next)

/-! ### Power, Hold and recovery -/

theorem Writes.setPw (h : Writes s t) {p : PowerSt} : Writes s (t.setPw p) := h.frame

theorem Writes.setIsl (h : Writes s t) {x : IslandSt} : Writes s (t.setIsl x) := h.frame

theorem execConverterFault_writes (h : Writes s t) {modules regulators : List Nat} :
    WritesNext s (execConverterFault modules regulators t) := by
  unfold execConverterFault
  refine .ite h.next ?_
  dsimp only
  split
  · exact h.floorClear.next
  · exact (Writes.ite (h.floorCause.foldl (fun _ _ h => h.record)).enterOff (h.floorCause.foldl (fun _ _ h => h.record))).next

theorem Writes.enterDormant (h : Writes s t) {cause : Nat} : Writes s (t.enterDormant cause) :=
  (h.foldl (fun _ _ h => h.releaseLine)).beginTransition

theorem Writes.thermStep (h : Writes s t) : Writes s t.thermStep := by
  unfold State.thermStep
  extract_lets _ u1 _ u2 u3
  have h1 : Writes s u1 := h.setPw
  have h2 : Writes s u2 := .ite h1.setPw (.ite h1.setPw h1)
  have h3 : Writes s u3 := .ite h2 h2.put.raise
  exact .ite h3.setClock h3

theorem execJunctionSensorRead_writes (h : Writes s t) {sensor celsius : Nat} : WritesNext s (execJunctionSensorRead sensor celsius t) := by
  unfold execJunctionSensorRead
  refine .ite h.setPw.next ?_
  refine .ite h.setPw.put.put.setPw.next ?_
  refine .ite h.setPw.put.put.next ?_
  split
  · exact h.setPw.put.put.thermStep.next
  · exact (Writes.ite h.setPw.put.put.thermStep h.setPw.put.put).next

theorem Writes.wipeCores (h : Writes s t) : Writes s t.wipeCores := h.loseLocal rfl

theorem Writes.wipeDevice (h : Writes s t) : Writes s t.wipeDevice := by
  unfold State.wipeDevice
  extract_lets u1 m trim
  have h1 : Writes s u1 := h.foldl fun _ _ h => h.forget
  clear_value u1
  exact (h1.loseLocal rfl).put

theorem Writes.reachOff (h : Writes s t) : Writes s t.reachOff := by
  unfold State.reachOff
  extract_lets parts cause regs beds u1 u2 _ u3
  have h2 : Writes s u2 := h.wipeDevice.frame
  have h3 : Writes s u3 := h2.setPw.put
  exact h3.put.setDomains

theorem Writes.sleepBridges (h : Writes s t) : Writes s t.sleepBridges := h.foldl (fun _ _ h => h.put.put.foldl (fun _ _ h => h.put))

theorem Writes.wakeBridges (h : Writes s t) : Writes s t.wakeBridges := by
  unfold State.wakeBridges
  extract_lets u1
  have h1 : Writes s u1 := h.foldl (fun _ _ h => h.put.put.foldl (fun _ _ h => h.put))
  exact h1.foldl (fun _ _ h => .ite (h.setSession.foldl (fun _ _ h => h.startScrub)) h)

/-- A context whose anchor does not hold is refused and unloaded. -/
theorem Writes.badAnchor (h : Writes s t) {p b k : Nat} {a : Anchor} :
    Writes s (if t.anchored p k a then t.copyLists b k
      else (((t.dropPending b).unloadSlot p k).setSeq b seqHeld).record 0x0440 (pgBed b) (leBytes 4 a.armId)) :=
  .ite h.copyLists h.dropPending.unloadSlot.setSeq.record

theorem Writes.checkAnchor (h : Writes s t) {b : Nat} : Writes s (t.checkAnchor b) := by
  unfold State.checkAnchor
  extract_lets p bad u1
  have h1 : Writes s u1 := by
    dsimp only [u1]
    split
    · exact h.badAnchor
    · exact h
  split
  · exact h1
  · split
    · exact h1.badAnchor
    · exact h1

theorem Writes.dormantPorts (h : Writes s t) : Writes s t.dormantPorts := h.foldl (fun _ _ h => .ite h.put.put (.ite h.portDown h))

theorem Writes.wakePorts (h : Writes s t) :
    Writes s t.wakePorts :=
  h.foldl (fun _ _ h => .ite (Writes.ite h.sendBeat h).train (.ite h.train h))

theorem Writes.resetEndpoint (h : Writes s t) : Writes s t.resetEndpoint := h.frame.resetFields.raise

theorem Writes.linkTrained (h : Writes s t) : Writes s t.linkTrained := h.put.put

theorem execPowerTransitionComplete_writes (h : Writes s t) : WritesNext s (execPowerTransitionComplete t) := by
  unfold execPowerTransitionComplete
  split
  · exact h.next
  · exact h.next
  · exact h.next
  · refine .ite h.next ?_
    refine .ite ?_ h.wipeCores.setPower.next
    extract_lets u1
    have h1 : Writes s u1 := h.setPower.wakeBridges.wakePorts.linkTrained
    exact (h1.foldl (fun _ _ h => h.checkAnchor)).next
  · extract_lets u1
    have h1 : Writes s u1 := h.sleepBridges.dormantPorts.setPower.resetEndpoint
    clear_value u1
    exact h1.frame.put.put.next
  · exact (Writes.ite h h.reachOff).next

theorem Writes.askPower (h : Writes s t) {target : Nat} : Writes s (t.askPower target).2 := by
  unfold State.askPower
  split
  · exact h
  · split
    · split
      · exact h
      · exact h.enterOff
    · split
      · exact h
      · split
        · exact h.enterHold
        · split
          · exact h.beginTransition
          · split
            · exact h.beginTransition
            · split
              · exact h.enterDormant
              · exact h

theorem Writes.markFailed (h : Writes s t) {k : Nat} : Writes s (t.markFailed k) := h.setPw

theorem Writes.fallBack (h : Writes s t) {k : Nat} : Writes s (t.fallBack k) := h.frame.put.raise.markFailed

theorem Writes.failSlot (h : Writes s t) {k : Nat} : Writes s (t.failSlot k) := .ite (.ite h.frame h.frame.fallBack) h.markFailed

theorem Writes.bootPages (h : Writes s t) : Writes s t.bootPages := by
  unfold State.bootPages
  extract_lets u1 u2
  have h1 : Writes s u1 := h.foldl (fun _ _ h => h.put.put.foldl (fun _ _ h => h.put))
  have h2 : Writes s u2 := h1.foldl (fun _ _ h => h.put.train)
  exact h2.foldl (fun _ _ h => h.put)

theorem Writes.bootSession (h : Writes s t) {p : Nat} : Writes s (t.bootSession p) := by
  unfold State.bootSession
  refine .ite h ?_
  refine .ite (h.setSession.foldl (fun _ _ h => h.startScrub)) ?_
  extract_lets u1 u2
  have h1 : Writes s u1 := h.foldl (fun _ _ h => h.put.bump.put.put.startScrub)
  have h2 : Writes s u2 := .ite (h1.foldl (fun _ _ h => h.doLock)) h1
  exact h2.setSession.put

theorem Writes.bootWith (h : Writes s t) {k : Nat} : Writes s (t.bootWith k) := by
  unfold State.bootWith
  extract_lets f fresh _ u1 u2 u3 _ u4 _ u5 u6 _ u7 u8
  have h1 : Writes s u1 := h.frame
  have h2 : Writes s u2 := h1.put.put.put
  have h3 : Writes s u3 := .ite h2.put h2
  have h4 : Writes s u4 := h3.bootPages.frame
  have h5 : Writes s u5 := h4.setPw.setPower
  have h6 : Writes s u6 := h5.seqFromTime.foldl (fun _ _ h => h.bootSession)
  clear_value u6
  have h7 : Writes s u7 := h6.frame
  have h8 : Writes s u8 := h7.linkTrained.put
  exact h8.record

theorem Writes.enterRecovery (h : Writes s t) : Writes s t.enterRecovery := h.frame.setPw.put

theorem Writes.trySlot (h : Writes s t) {k : Nat} {complete : Bool} : Writes s (t.trySlot k complete) :=
  .ite h.bootWith (.ite h.failSlot.enterRecovery h.failSlot)

theorem execBoot_writes (h : Writes s t) {complete : Bool} : WritesNext s (execBoot t complete) := by
  unfold execBoot
  refine .ite ?_ h.next
  split
  · exact h.trySlot.next
  · exact h.enterRecovery.next

theorem Writes.resetSecurity (h : Writes s t) : Writes s t.resetSecurity := h.frame

theorem execDeviceReset_writes (h : Writes s t) {sysReset : Bool} : WritesNext s (execDeviceReset sysReset t) := by
  unfold execDeviceReset
  refine .ite h.next ?_
  extract_lets _ _ _ _ u1 u2 _ u3 u4
  have h3 : Writes s u3 := h.endSessions.finishStore.wipeDevice.resetSecurity.seqFromTime
  clear_value u3
  exact (Writes.setPw h3.frame).setDomains.next

theorem Writes.keeperUp (h : Writes s t) : Writes s t.keeperUp := h.setPw.setDomains.put.put.put.setRec.put.checkProt

/-! ### Commands of the control processor -/

theorem Writes.turnDown (h : Writes s t) {c : Cmd} {req : Req} {authOk : Bool} {arg st : Nat} : Writes s (t.turnDown c req authOk arg st) :=
  .ite h.reply.raise (.ite h.bump.evt.refuse h.refuse)

theorem Writes.command (h : Writes s t) {c : Cmd} {req : Req} {authOk : Bool} {own : List (Bool × Nat)} {ok : State → State} {arg : Nat}
    (hok : ∀ u, Writes s u → Writes s (ok u)) :
    WritesNext s (t.command c req authOk own ok arg) := by
  unfold State.command
  refine .ite h.next ?_
  split
  · exact h.turnDown.next
  · exact (hok _ h).next

theorem Writes.done (h : Writes s t) {data : List Byte} : Writes s (t.done data) := h.reply

theorem Writes.useNonce (h : Writes s t) {req : Req} : Writes s (t.useNonce req) := by
  unfold State.useNonce
  split
  · exact h.frame
  · exact h

theorem execGetStatus_writes (h : Writes s t) {req : Req} : WritesNext s (execGetStatus req t) := h.command (fun _ h => h.done)

theorem execGetNonce_writes (h : Writes s t) {req : Req} : WritesNext s (execGetNonce req t) := h.command fun _ h => h.frame.done

theorem execReadPower_writes (h : Writes s t) {req : Req} : WritesNext s (execReadPower req t) := h.command (fun _ h => h.draw.done)

theorem execSetPowerState_writes (h : Writes s t) {req : Req} {target : Nat} : WritesNext s (execSetPowerState req target t) :=
  h.command (fun _ h => h.askPower.done)

theorem execHaltAndHold_writes (h : Writes s t) {req : Req} : WritesNext s (execHaltAndHold req t) := .ite h.enterHold.done.next h.next

theorem execEvrRead_writes (h : Writes s t) {req : Req} {first : Nat} : WritesNext s (execEvrRead req first t) :=
  h.command (fun _ h => (h.foldl (fun _ _ h => h.markRead)).done)

theorem execEvrFreeze_writes (h : Writes s t) {req : Req} : WritesNext s (execEvrFreeze req t) := h.command (fun _ h => h.askFreeze.done)

theorem execEvrUnfreeze_writes (h : Writes s t) {req : Req} : WritesNext s (execEvrUnfreeze req t) := h.command (fun _ h => h.endFreeze.done)

theorem Writes.clearSlots (h : Writes s t) {scope upTo : Nat} : Writes s (t.clearSlots scope upTo) :=
  h.setRec.enqueue.setRec.writeBatch.evt.spend

theorem execEvrClear_writes (h : Writes s t) {req : Req} {scope upToSeq : Nat} : WritesNext s (execEvrClear req scope upToSeq t) :=
  h.command (fun _ h => h.useNonce.finishStore.clearSlots.done)

/-! ### Armatures -/

theorem Writes.holdArm (h : Writes s t) {p addr : Nat} {f : File} : Writes s (t.holdArm p addr f) := by
  unfold State.holdArm
  split
  · exact h.readSpan.writeSpan.frame
  · exact h

theorem execArmatureLoad_writes (h : Writes s t) {req : Req} {addr len : Nat} : WritesNext s (execArmatureLoad req addr len t) :=
  h.command (fun _ h => h.holdArm.done)

theorem execArmatureUnload_writes (h : Writes s t) {req : Req} {armId : Nat} : WritesNext s (execArmatureUnload req armId t) :=
  h.command (fun _ h => Writes.done (by split; exacts [h.unloadSlot, h]))

theorem Writes.setOrigin (h : Writes s t) {b : Nat} {f : File} {a : Start} : Writes s (t.setOrigin b f a) := .ite h h.setBed.put.put

theorem Writes.armBed (h : Writes s t) {slot : Nat} {f : File} {a : Start} {b : Nat} : Writes s (t.armBed slot f a b) :=
  .ite h.setOrigin.setBed.put h.setOrigin.setBed.put.setSeq

theorem execArmatureActivate_writes (h : Writes s t) {req : Req} {armId startFrame startStep startEpoch startTime : Nat} :
    WritesNext s (execArmatureActivate req armId startFrame startStep startEpoch startTime t) := by
  unfold execArmatureActivate
  extract_lets p a slot f
  exact h.command (fun _ h => (h.foldl (fun _ _ h => h.armBed)).done)

theorem Writes.joinOrigin (h : Writes s t) {q hash step : Nat} :
    Writes s (t.joinOrigin q hash step) :=
  h.foldl (fun _ _ h => h.setBed.put.put)

theorem Writes.joinOrigins (h : Writes s t) : Writes s t.joinOrigins := h.foldl (fun _ _ h => by split; exacts [.ite h h.joinOrigin, h])

theorem execTimeResponseReceive_writes (h : Writes s t) {port : Port} {packet : Packet} :
    WritesNext s (execTimeResponseReceive port packet t) :=
  h.consume (fun _ _ h => .ite (h.timeResponseIn.joinOrigins.foldl (fun _ _ h => h.tryKey)) h.timeResponseIn)

theorem execGraftPlan_writes (h : Writes s t) {req : Req} {memberHash step : Nat} : WritesNext s (execGraftPlan req memberHash step t) :=
  h.command (fun _ h => (Writes.ite h.setPart.joinOrigin.keyAnew h.setPart).done)

theorem execRegrow_writes (h : Writes s t) {req : Req} {partner source cutStep : Nat} {partnerValid sourceHolds : Bool} :
    WritesNext s (execRegrow req partner source cutStep partnerValid sourceHolds t) :=
  h.command (fun _ h => h.forgetUpdates.setPart.done)

/-! ### Configuration space -/

theorem Writes.writeConfig (h : Writes s t) {w v : Nat} : Writes s (t.writeConfig w v) := .ite h.resetEndpoint h.frame

/-! ### Transfers -/

theorem Writes.beginTransfer (h : Writes s t) {b c x : Nat} : Writes s (t.beginTransfer b c x) := h.setCores

theorem Writes.loadTile (h : Writes s t) {b c : Nat} {x : Transfer} {d : Desc} {i : Nat} : Writes s (t.loadTile b c x d i) := by
  unfold State.loadTile
  extract_lets n t' a r sd side bad bytes u1
  have h1 : Writes s side.1 := by
    dsimp only [side]
    split
    · exact h.readSpan.readSpan
    · exact h.readSpan
  exact .ite h1.localPut h1.localPut.raiseFlags

theorem Writes.prefetchTile (h : Writes s t) {b : Nat} {x : Transfer} {d : Desc} {i : Nat} : Writes s (t.prefetchTile b x d i) :=
  .ite h.readSpan.readSpan h.readSpan

theorem Writes.unpinLine (h : Writes s t) {b cls l : Nat} {drop : Bool} : Writes s (t.unpinLine b cls l drop) := by
  unfold State.unpinLine
  refine .ite h.countFault ?_
  refine .ite h.dropLine ?_
  split
  · exact .ite h.releaseLine.meter h.releaseLine
  · exact h

theorem Writes.transfer (h : Writes s t) {bed : Bed} {core : Core} {ctx : Sys2Proof.Ctx} {op : Nat}
    {f : State → Transfer → Desc → State}
    (hf : ∀ u a1 a2, Writes s u → Writes s (f u a1 a2)) :
    WritesNext s (t.transfer bed core ctx op f) := by
  unfold State.transfer
  dsimp only
  split
  · exact .ite (hf _ _ _ h.beginTransfer).next h.next
  · exact h.next

theorem Writes.retrain (h : Writes s t) {u' ch : Nat} : Writes s (t.retrain u' ch) := h.setMem.bump.put

theorem Writes.fenceChannel (h : Writes s t) {u' ch : Nat} : Writes s (t.fenceChannel u' ch) := h.put.put.evt.raise

theorem execRetrainEnd_writes (h : Writes s t) {stack : Stack} {channel : Fin 32} {ok : Bool} :
    WritesNext s (execRetrainEnd stack channel ok t) := by
  unfold execRetrainEnd
  refine .ite h.next ?_
  exact .ite h.setMem.bump.next (Writes.ite h.setMem.setMem.put h.setMem.setMem.put.fenceChannel).next

/-! ### The update units -/

theorem Writes.readGrad (h : Writes s t) {b : Nat} {f : File} {e : Pass} {step g : Nat} : Writes s (t.readGrad b f e step g).1 :=
  h.readSpan.readSpan

theorem Writes.readRing (h : Writes s t) {b : Nat} {f : File} {layer step : Nat} : Writes s (t.readRing b f layer step).1 := h.readSpan

theorem Writes.readGroup (h : Writes s t) {b : Nat} {e : Pass} {g : Nat} : Writes s (t.readGroup b e g).1 := h.readSpan

theorem Writes.readOld (h : Writes s t) {b : Nat} {f : File} {e : Pass} {step g : Nat} : Writes s (t.readOld b f e step g).st := by
  unfold State.readOld
  extract_lets r
  have hr : Writes s r.1 := h.readRing
  split
  · exact hr
  · split
    · exact hr
    · exact hr.readGrad

theorem Writes.runGroup (h : Writes s t) {b : Nat} {f : File} {e : Pass} {step g ratio : Nat} {skip : Bool} :
    Writes s (t.runGroup b f e step g ratio skip).1 := by
  unfold State.runGroup
  extract_lets q x gr p old
  have hgr : Writes s gr.1 := by
    dsimp only [gr]
    split
    · exact h.readGroup
    · exact h.readGroup.readGrad
  dsimp only [old]
  split
  · exact hgr.readOld
  · exact hgr

theorem Writes.writeGroup (h : Writes s t) {b : Nat} {x : GroupIn} {bs : List Byte} {lines : List Nat} :
    Writes s (t.writeGroup b x bs lines) :=
  h.foldl (fun _ _ h => h.writeLine)

theorem Writes.countN (h : Writes s t) {p : Page} {f : Fld} {n : Nat} : Writes s (t.countN p f n) := .ite h h.bump

/-- A group whose tag does not hold is recorded once a step. -/
theorem Writes.groupChecked (h : Writes s t) {ok : Bool} {key : Nat × Nat × Nat} {p : Page} {pay : List Byte} :
    Writes s (if ok then t else t.onceDo key fun s => s.record 0x0841 p pay) :=
  .ite h (h.onceDo fun _ h => h.record)

theorem Writes.countBlock (h : Writes s t) {u' q layer step : Nat} {o : BlkOut} : Writes s (t.countBlock u' q layer step o) := by
  unfold State.countBlock
  extract_lets p key rs held bad u1 u2 u3 u4 u5 no
  have h1 : Writes s u1 := h.countN
  have h2 : Writes s u2 := .ite h1.raise h1
  have h3 : Writes s u3 := .ite h2.raise h2
  have h4 : Writes s u4 := .ite (h3.bump.onceDo fun _ h => h.raise) h3
  have h5 : Writes s u5 := .ite h4 (h4.bump.onceDo fun _ h => h.raise)
  exact h5.groupChecked.groupChecked

theorem Writes.countGroup (h : Writes s t) {u' q layer step : Nat} {x : GroupIn} {e : Pass} {g : Nat} {os : List BlkOut} :
    Writes s (t.countGroup u' q layer step x e g os) :=
  .ite h.bump.raise (h.foldl (fun _ _ h => h.countBlock))

theorem Writes.countRsv (h : Writes s t) {u' n : Nat} : Writes s (t.countRsv u' n) := .ite h h.frame

theorem Writes.readNorm (h : Writes s t) {b : Nat} {f : File} {layer : Nat} : Writes s (t.readNorm b f layer).1 := h.readSpan

theorem Writes.layerRatio (h : Writes s t) {b : Nat} {f : File} {layer step : Nat} {skip : Bool} :
    Writes s (t.layerRatio b f layer step skip).1 := by
  unfold State.layerRatio
  extract_lets q sums norm x u1
  cases t.upd.ratio.find? (q, layer, step) with
  | some r => exact h
  | none =>
    have hx : Writes s x.1 := by
      dsimp only [x]
      split
      · exact h
      · exact h.readNorm
    exact hx.writeSpan.frame

theorem Writes.writeNorm (h : Writes s t) {b : Nat} {f : File} {layer step r : Nat} : Writes s (t.writeNorm b f layer step r) :=
  h.readNorm.writeSpan

theorem Writes.mirror (h : Writes s t) {u' : Nat} {f : File} {step : Nat} {x : GroupIn} {bs : List Byte} :
    Writes s (t.mirror u' f step x bs) :=
  .ite h (h.foldl (fun _ _ h => h.send)).frame.bump

theorem Writes.writeWork (h : Writes s t) {b : Nat} {d : Desc} {tile : Nat} {vals : List Nat} {lo hi : Nat} :
    Writes s (t.writeWork b d tile vals lo hi) :=
  .ite (h.foldl (fun _ _ h => h.writeSpan)) (h.foldl (fun _ _ h => h.writeSpan)).writeSpan

theorem Writes.passOne (h : Writes s t) {u' : Nat} {f : File} {e : Pass} {step g ratio : Nat} {skip : Bool} {vals : List Nat} :
    Writes s (t.passOne u' f e step g ratio skip vals).1 := by
  unfold State.passOne
  extract_lets b q r x os d has old vals bs f4 work bytes u1 u2 u3 k _ u4 u5 n
  have h1 : Writes s u1 := h.runGroup.writeGroup
  have h2 : Writes s u2 := h1.countGroup.countN.countRsv
  have h3 : Writes s u3 := h2.put
  have h4 : Writes s u4 := h3.frame
  have h5 : Writes s u5 := h4.mirror
  exact .ite h5.writeWork h5

theorem Writes.setRun (h : Writes s t) {u' : Nat} {r : Option UnitRun} : Writes s (t.setRun u' r) := h.frame

theorem Writes.endPass (h : Writes s t) {u' : Nat} {f : File} {k : Nat} {e : Pass} {step ratio : Nat} {skip : Bool} :
    Writes s (t.endPass u' f k e step ratio skip) :=
  (Writes.ite h.frame.setRun.put.put.writeNorm h.frame.setRun.put.put).creditUnit

theorem Writes.advance (h : Writes s t) {u' : Nat} {r : UnitRun} {e : Pass} : Writes s (t.advance u' r e) :=
  .ite h.layerRatio.put.put.passOne.endPass h.layerRatio.put.put.passOne.setRun

theorem execUpdateEntry_writes (h : Writes s t) {unit : Stack} : WritesNext s (execUpdateEntry unit t) := by
  unfold execUpdateEntry
  refine .ite h.next ?_
  split
  · exact h.advance.next
  · split
    · exact h.advance.next
    · exact h.next

theorem Writes.prepass (h : Writes s t) {u' : Nat} {f : File} {k : Nat} {e : Pass} {step : Nat} : Writes s (t.prepass u' f k e step) := by
  unfold State.prepass
  extract_lets q key r _ _ u1
  have hr : Writes s r.1 := h.foldlPair fun _ _ h => h.runGroup (ratio := oneF)
  have h1 : Writes s u1 := hr.frame
  exact h1.put.put

theorem execUpdatePrepass_writes (h : Writes s t) {unit : Stack} : WritesNext s (execUpdatePrepass unit t) := by
  unfold execUpdatePrepass
  refine .ite h.next ?_
  split
  · exact h.prepass.next
  · exact h.next

theorem Writes.replayEntry (h : Writes s t) {f : File} {k : Nat} {e : Pass} {step : Nat} : Writes s (t.replayEntry f k e step) := by
  unfold State.replayEntry
  extract_lets u' ring
  split
  · exact h.readRing
  · extract_lets r
    exact (h.readRing.foldlPair (fun _ _ h => h.passOne)).endPass

end Sys2Proof.Machine
end

section
/-! PROOFS. What each operation of the model writes of memory's and the local stores' bytes (`Writes`): ownership, raw commands and the host's side. -/

namespace Sys2Proof.Machine

variable {s t : State}

/-! ### Cuttings -/

theorem Writes.rejectCut (h : Writes s t) {q src off : Nat} : Writes s (t.rejectCut q src off) := h.bump.record

theorem Writes.setWard (h : Writes s t) {q k : Nat} {x : Option (Nat × List Nat)} : Writes s (t.setWard q k x) := h.frame

theorem Writes.beginWard (h : Writes s t) {q k step : Nat} : Writes s (t.beginWard q k step) :=
  .ite h.setWard.setWard.put.raise h.setWard.setWard.put

theorem Writes.wardLine (h : Writes s t) {port q : Nat} {f : File} {k : Packet} : Writes s (t.wardLine port q f k) := by
  unfold State.wardLine
  extract_lets step off n p r whole u1 u2
  have h1 : Writes s u1 := by
    dsimp only [u1]
    split
    · exact .ite h h.beginWard
    · exact .ite h h.beginWard
  have h2 : Writes s u2 := h1.writeSpan
  split
  · exact h2
  · extract_lets l
    exact .ite h2.setWard.put.put.send h2.setWard

theorem Writes.cuttingIn (h : Writes s t) {port : Nat} {k : Packet} : Writes s (t.cuttingIn port k) := .ite h.rejectCut h.wardLine

theorem execCuttingReceive_writes (h : Writes s t) {port : Port} {packet : Packet} : WritesNext s (execCuttingReceive port packet t) :=
  h.consume (fun _ _ h => h.cuttingIn)

theorem Writes.cutAckIn (h : Writes s t) {port : Nat} {k : Packet} : Writes s (t.cutAckIn port k) := .ite h.put.raise h

theorem execCutAckReceive_writes (h : Writes s t) {port : Port} {packet : Packet} : WritesNext s (execCutAckReceive port packet t) :=
  h.consume (fun _ _ h => h.cutAckIn)

/-! ### Device ownership -/

theorem Writes.setSec (h : Writes s t) {x : SecSt} : Writes s (t.setSec x) := h.frame

theorem Writes.showOwner (h : Writes s t) : Writes s t.showOwner := h.put.put

theorem execOwnerEnroll_writes (h : Writes s t) {req : Req} {keyHash : List Byte} : WritesNext s (execOwnerEnroll req keyHash t) :=
  h.command (fun _ h => h.useNonce.setSec.showOwner.done)

theorem execOwnerRevoke_writes (h : Writes s t) {req : Req} : WritesNext s (execOwnerRevoke req t) :=
  h.command (fun _ h => h.useNonce.setSec.showOwner.done)

theorem execSessionOpen_writes (h : Writes s t) {req : Req} {payload : List Byte} : WritesNext s (execSessionOpen req payload t) := by
  unfold execSessionOpen
  exact h.command (fun _ h => h.readSpan.beginSession.done)

theorem execSessionClose_writes (h : Writes s t) {req : Req} : WritesNext s (execSessionClose req t) :=
  h.command (fun _ h => (Writes.ite h.useNonce.endSessionNow h.useNonce.beginClose).done)

theorem Writes.writeChunk (h : Writes s t) {slot image offset : Nat} {chunk : List Byte} : Writes s (t.writeChunk slot image offset chunk) :=
  (Writes.ite h.setSec.setSec.put h.setSec).beginStore

theorem Writes.passSlot (h : Writes s t) {k : Nat} : Writes s (t.passSlot k) := h.setSec

theorem Writes.markPending (h : Writes s t) {k : Nat} : Writes s (t.markPending k) := h.setSec.put

theorem execFwUpdate_writes (h : Writes s t) {req : Req} {image offset : Nat} {chunk : List Byte} {last : Bool} :
    WritesNext s (execFwUpdate req image offset chunk last t) := by
  unfold execFwUpdate
  extract_lets slot
  exact h.command (fun _ h => .ite h.useNonce.writeChunk.done
    (.ite h.useNonce.writeChunk.passSlot.markPending.done h.useNonce.writeChunk.refuse))

theorem execFwCommit_writes (h : Writes s t) {req : Req} : WritesNext s (execFwCommit req t) := h.command (fun _ h => h.useNonce.put.done)

theorem execPageUnlock_writes (h : Writes s t) {req : Req} {page : Page} : WritesNext s (execPageUnlock req page t) :=
  h.command (fun _ h => h.useNonce.doUnlock.done)

theorem execRecoveryWrite_writes (h : Writes s t) {req : Req} {image offset : Nat} {chunk : List Byte} {last : Bool} :
    WritesNext s (execRecoveryWrite req image offset chunk last t) :=
  h.command (fun _ h => .ite h.writeChunk.done (.ite h.writeChunk.passSlot.setSec.setPw.done h.writeChunk.refuse))

theorem execUnknownCommand_writes (h : Writes s t) {req : Req} {code : Nat} : WritesNext s (execUnknownCommand req code t) :=
  .ite h.next h.refuse.next

/-! ### Commands as raw bytes -/

theorem Writes.runOwner (h : Writes s t) {path : Sys2Proof.Path} {c : RawCmd} : WritesNext s (t.runOwner path c) := by
  unfold State.runOwner
  refine .ite (execEvrClear_writes h) ?_
  refine .ite (.ite (execOwnerEnroll_writes h) (execOwnerEnroll_writes h)) ?_
  refine .ite (execOwnerRevoke_writes h) ?_
  refine .ite (execSessionOpen_writes h) ?_
  refine .ite (execSessionClose_writes h) ?_
  exact .ite (execFwUpdate_writes h) (.ite (execFwCommit_writes h) (execPageUnlock_writes h))

theorem Writes.runRecovery (h : Writes s t) {path : Sys2Proof.Path} {c : RawCmd} : WritesNext s (t.runRecovery path c) :=
  execRecoveryWrite_writes h

theorem Writes.runRegrow (h : Writes s t) {path : Sys2Proof.Path} {c : RawCmd} : WritesNext s (t.runRegrow path c) := execRegrow_writes h.draw

theorem Writes.runRaw (h : Writes s t) {path : Sys2Proof.Path} {c : RawCmd} : WritesNext s (t.runRaw path c) := by
  unfold State.runRaw
  refine .ite (execGetStatus_writes h) ?_
  refine .ite (execGetNonce_writes h) ?_
  refine .ite (execReadPower_writes h) ?_
  refine .ite (execArmatureLoad_writes h) ?_
  refine .ite (execArmatureActivate_writes h) ?_
  refine .ite (execArmatureUnload_writes h) ?_
  refine .ite (execSetPowerState_writes h) ?_
  refine .ite (execHaltAndHold_writes h) ?_
  refine .ite (execGraftPlan_writes h) ?_
  refine .ite h.runRegrow ?_
  refine .ite (execEvrRead_writes h) ?_
  refine .ite (execEvrFreeze_writes h) ?_
  exact .ite (execEvrUnfreeze_writes h) (.ite h.runRecovery (.ite h.runOwner (execUnknownCommand_writes h)))

theorem Writes.onMctp (h : Writes s t) {f : State → State}
    (hf : ∀ u, Writes s u → Writes s (f u)) : WritesNext s (t.onMctp f) :=
  .ite (hf _ h).next h.next

theorem Writes.replyPacket (h : Writes s t) {q : Nat} {k : Packet} : Writes s (t.replyPacket q k) := h.send

theorem Writes.mgmtIn (h : Writes s t) {p : Nat} {k : Packet} : WritesNext s (t.mgmtIn p k) := by
  unfold State.mgmtIn
  extract_lets q c
  refine .ite h.keyMessage.next (.ite h.next ?_)
  split
  next hu => exact (WritesNext.out h.runRaw hu).replyPacket.next
  next => exact .fault
  next => exact .refused

theorem execMgmtReceive_writes (h : Writes s t) {port : Port} {packet : Packet} : WritesNext s (execMgmtReceive port packet t) := by
  unfold execMgmtReceive
  refine .ite h.next ?_
  split
  next hu => exact (h.takeIn.of_fst hu).mgmtIn
  next hu => exact (h.takeIn.of_fst hu).next

theorem Writes.deliver (h : Writes s t) {port : Port} {k : Packet} : WritesNext s (t.deliver port k) := by
  unfold State.deliver
  refine .ite (execDataReceive_writes h) ?_
  refine .ite (execHeartbeatReceive_writes h) ?_
  refine .ite (.ite (execTimeRequestReceive_writes h) (execTimeResponseReceive_writes h)) ?_
  refine .ite (execTopologyReceive_writes h) ?_
  refine .ite (execReduceReceive_writes h) ?_
  refine .ite (execCertReceive_writes h) ?_
  refine .ite (execCuttingReceive_writes h) ?_
  exact .ite (execCutAckReceive_writes h) (.ite (execMgmtReceive_writes h) h.takeIn.next)

theorem Writes.countSlot (h : Writes s t) {p corrected uncorrectable : Nat} {asked : Option Nat} :
    Writes s (t.countSlot p corrected uncorrectable asked) := by
  unfold State.countSlot
  dsimp only
  split
  · exact h.setFab.bump.bump.askedFor
  · exact h.setFab.bump.bump

theorem execSlotReceive_writes (h : Writes s t) {port : Port} {corrected uncorrectable : Nat} {packet : Packet} {asked : Option Nat} :
    WritesNext s (execSlotReceive port corrected uncorrectable packet t asked) := by
  unfold execSlotReceive
  refine .ite h.next ?_
  refine .ite ?_ (.ite h.countSlot.next h.countSlot.deliver)
  split
  · exact h.next
  · exact h.setFab.deliver

/-! ### The host's queues and mailbox -/

theorem Writes.hostAccess (h : Writes s t) {w : HostWait} : Writes s (t.hostAccess w) := .ite h.hold h.serveHost

theorem Writes.setFlying (h : Writes s t) {q : Nat} {l : List InFlight} : Writes s (t.setFlying q l) := h.frame.put

theorem Writes.beginDesc (h : Writes s t) {q : Nat} {d : DmaDesc} : Writes s (t.beginDesc q d) := by
  unfold State.beginDesc
  extract_lets i k st n _ u1 u2 u3 u4
  have h1 : Writes s u1 := h.frame.put
  have h2 : Writes s u2 := .ite h1.put h1
  have h3 : Writes s u3 := .ite h2.denyWrite h2
  have h4 : Writes s u4 := by
    dsimp only [u4]
    refine .ite ?_ h3
    split
    · exact h3.countFault
    · exact h3
  exact h4.setFlying

theorem Writes.fetch (h : Writes s t) {n q : Nat} : Writes s (State.fetch n t q) := by
  induction n generalizing t with
  | zero => exact h
  | succ n ih =>
    unfold State.fetch
    split
    · exact h
    · exact .ite (ih h.frame.beginDesc) h

theorem Writes.runQueue (h : Writes s t) {q : Nat} : Writes s (t.runQueue q) := h.fetch

theorem Writes.ring (h : Writes s t) {q tail : Nat} {descs : List (List Byte)} : Writes s (t.ring q tail descs) := h.frame.runQueue

theorem Writes.dmaWrite (h : Writes s t) {part a : Nat} {data : List Byte} {sealed : Bool} : Writes s (t.dmaWrite part a data sealed) :=
  h.foldl (fun _ _ h => h.hostWrite)

theorem Writes.dmaRead (h : Writes s t) {part a len : Nat} : Writes s (t.dmaRead part a len).1 := by
  unfold State.dmaRead
  exact List.foldlRecOn (motive := fun (x : (State × List Byte × Bool) × Bool) => Writes s x.1.1) _ _ h fun _ hx _ _ => hx.hostRead

theorem Writes.onDesc (h : Writes s t) {q op : Nat} {f : InFlight → State → State}
    (hf : ∀ a0 u, Writes s u → Writes s (f a0 u)) :
    Writes s (t.onDesc q op f) := by
  unfold State.onDesc
  split
  · exact .ite (hf _ _ h) h
  · exact h

theorem Writes.complete (h : Writes s t) {q : Nat} {x : InFlight} {st : Nat} : Writes s (t.complete q x st) := .ite h.frame h.frame.raise

theorem execDmaCompletion_writes (h : Writes s t) {queue : Queue} : WritesNext s (execDmaCompletion queue t) := by
  unfold execDmaCompletion
  dsimp only
  split
  · exact h.next
  · split
    · exact h.next
    · exact .ite h.setFlying.complete.runQueue.next h.next

theorem execDmaDescriptorTimeout_writes (h : Writes s t) {queue : Queue} {moved : List Byte} :
    WritesNext s (execDmaDescriptorTimeout queue moved t) := by
  unfold execDmaDescriptorTimeout
  dsimp only
  split
  · exact h.next
  · exact .ite h.next (Writes.ite h.dmaRead.frame h.dmaWrite).setFlying.evt.record.next

theorem Writes.fillMailbox (h : Writes s t) {bs : List Byte} : Writes s (t.fillMailbox bs) := h.foldl (fun _ _ h => h.put)

theorem Writes.mailboxDone (h : Writes s t) : Writes s t.mailboxDone := h.fillMailbox.put.put.put.raise

theorem Writes.mailboxGo (h : Writes s t) : WritesNext s t.mailboxGo := by
  unfold State.mailboxGo
  refine .ite h.reply.put.next ?_
  extract_lets n c u1
  have h1 : Writes s u1 := h.put
  refine .ite h1.refuse.mailboxDone.next (.ite h1.next ?_)
  split
  next hu => exact (WritesNext.out h1.runRaw hu).mailboxDone.next
  next => exact .fault
  next => exact .refused

theorem Writes.configAnswer (h : Writes s t) {retry : Bool} {word : Nat} : Writes s (t.configAnswer retry word) := h.frame

theorem Writes.linkDuringBoot (h : Writes s t) : Writes s t.linkDuringBoot := .ite h h.frame

theorem execPcieConfigRequest_writes (h : Writes s t) {dword : Nat} {write : Option Nat} :
    WritesNext s (execPcieConfigRequest t dword write) := by
  unfold execPcieConfigRequest
  refine .ite (Writes.next (by split; exacts [h.configAnswer, h.writeConfig.configAnswer])) ?_
  exact .ite (Writes.ite h.linkDuringBoot.configAnswer h.linkDuringBoot).next h.next

/-! ### Reads of the registers -/

theorem Writes.readWord (h : Writes s t) {p : Page} {o : Nat} : Writes s (t.readWord p o).1 := by
  unfold State.readWord
  split
  · exact h
  · exact .ite h.frame h

theorem Writes.badOffset (h : Writes s t) {p : Page} {off size : Nat} : Writes s (t.badOffset p off size) := h.common

theorem Writes.readPage (h : Writes s t) {p : Page} {o : Nat} : Writes s (t.readPage p o).1 := by
  unfold State.readPage
  split
  · exact h
  · split
    · exact h.markRead.readWord
    · split
      · exact h.draw.readWord
      · exact h.readWord

theorem Writes.readSize (h : Writes s t) {p : Page} {o size : Nat} : Writes s (t.readSize p o size).1 := by
  unfold State.readSize
  dsimp only
  split
  · exact h.readPage
  · exact h.readPage.readPage

theorem Writes.readBar (h : Writes s t) {off size : Nat} : Writes s (t.readBar off size).1 := by
  unfold State.readBar
  split
  · exact h.badOffset
  · split
    · split
      · exact h.badOffset
      · exact h.readSize
    · exact h.readSize

theorem Writes.unimplemented (h : Writes s t) {off size : Nat} {write : Bool} : Writes s (t.unimplemented off size write) := by
  unfold State.unimplemented
  refine .ite h.badOffset.answer ?_
  split
  · exact h.badOffset
  · exact h.badOffset

end Sys2Proof.Machine
end

section
/-! PROOFS. What each operation of the model writes of memory's and the local stores' bytes (`Writes`): writes on the bus. -/

namespace Sys2Proof.Machine

variable {s t : State}

/-! ### Register writes -/

theorem Writes.noteRefusal (h : Writes s t) {hp : Page} {pay : List Byte} {code : Nat} : Writes s (t.noteRefusal hp pay code) :=
  (Writes.ite h.put (.ite h.put (.ite h.put h))).common

theorem Writes.partsGone (h : Writes s t) {regs staging parts red} :
    Writes s { t with regs := regs, staging := staging, parts := parts, red := red } := h.frame

theorem Writes.setParts (h : Writes s t) {v : Nat} : Writes s (t.setParts v) :=
  ((h.foldl fun _ _ h => h.unloadAll).foldl fun _ _ h => h.clearOrigin).partsGone.put

theorem Writes.setLocalGib (h : Writes s t) {b v : Nat} : Writes s (t.setLocalGib b v) := .ite h.forget.put.unloadAll h.forget.put

theorem Writes.setEnc (h : Writes s t) {b v : Nat} : Writes s (t.setEnc b v) := h.put.startScrub

theorem Writes.setPortEnc (h : Writes s t) {p v : Nat} : Writes s (t.setPortEnc p v) := h.put

theorem Writes.setTestPower (h : Writes s t) {v : Nat} : Writes s (t.setTestPower v) := h.put.put

theorem Writes.stopBed (h : Writes s t) {b : Nat} : Writes s (t.stopBed b) := .ite h.cancelArmed (.ite h.setBed.askUnits.put h)

theorem Writes.runPort (h : Writes s t) {p v : Nat} : Writes s (t.runPort p v) := .ite h.put.portDown h.put.put.train

theorem Writes.runBlock (h : Writes s t) {p : Page} {v : Nat} : Writes s (t.runBlock p v) :=
  .ite h.frame.put (.ite h.frame.halt h.frame)

theorem Writes.setCtlRun (h : Writes s t) {p : Page} {v : Nat} : Writes s (t.setCtlRun p v) := by
  unfold State.setCtlRun
  split
  · exact .ite h.stopBed h.record
  · exact h.runPort
  · exact h.put
  · exact h
  · exact h
  · exact h
  · exact h
  · exact h.runBlock

theorem Writes.applyField (h : Writes s t) {hp : Page} {k : FieldKey} {v mask : Nat} :
    Writes s (t.applyField hp k v mask) := by
  unfold State.applyField
  dsimp only
  split
  · exact h.setCtlRun
  · exact h.put.put
  · exact h.doCommit
  · exact h.doAbort
  · exact h.doLock
  · exact h.doUnlock
  · exact h.setParts
  · exact h.setLocalGib
  · exact h.setEnc
  · exact h.setPortEnc
  · exact h.setTestPower
  · exact h.setTref
  · exact h.put.runQueue
  · exact h.ring
  · exact h
  · exact h.enterHold
  · exact h.moveState
  · exact h.askFreeze
  · exact h.endFreeze
  · split
    · exact h.stage
    · exact .ite h.put h.put

theorem Writes.writeReg (h : Writes s t) {a : Agent} {hp p : Page} {bar word o lo n value : Nat} :
    WritesNext s (t.writeReg a hp p bar word o lo n value) := by
  unfold State.writeReg
  extract_lets l ok codes pay u1 u2
  have h1 : Writes s u1 := h.foldl fun _ _ h => h.applyField
  have h2 : Writes s u2 := h1.foldl fun _ _ h => h.noteRefusal
  exact .ite h2.mailboxGo h2.next

theorem Writes.writeWord (h : Writes s t) {a : Agent} {hp p : Page} {bar o value : Nat} :
    WritesNext s (t.writeWord a hp p bar o value) :=
  .ite h.writeReg h.writeReg

theorem Writes.writePage (h : Writes s t) {a : Agent} {hp p : Page} {bar o size value : Nat} :
    WritesNext s (t.writePage a hp p bar o size value) := by
  unfold State.writePage
  refine .ite h.writeWord (.ite h.writeReg ?_)
  split
  next hu => exact (h.writeWord.out hu).writeWord
  next => exact .fault
  next => exact .refused

theorem Writes.dirWrite (h : Writes s t) {off size : Nat} : Writes s (t.dirWrite off size) := h.badOffset

theorem Writes.mirrorNote (h : Writes s t) {off value : Nat} : Writes s (t.mirrorNote off value) := h.record

theorem Writes.writeBar (h : Writes s t) {a : Agent} {off size value : Nat} : WritesNext s (t.writeBar a off size value) := by
  unfold State.writeBar
  refine .ite h.badOffset.next ?_
  split
  · exact h.unimplemented.next
  · refine .ite h.dirWrite.next (.ite h.mirrorNote.next (.ite ?_ h.writePage))
    split
    next => exact h.badOffset.next
    next => exact h.writePage

theorem Writes.onBus (h : Writes s t) {a : Agent} {f : State → Host.Outcome State Fault Refusal}
    (hf : ∀ u, Writes s u → WritesNext s (f u)) : WritesNext s (t.onBus a f) :=
  .ite (h.onBar fun _ h => h).next (hf _ h)

theorem Writes.writeField (h : Writes s t) {a : Agent} {p : Page} {f : Fld} {v e : Nat} : WritesNext s (t.writeField a p f v e) := by
  unfold State.writeField
  exact h.onBus fun _ h => h.writeReg

theorem execCoreWindowAccess_writes (h : Writes s t) {bed : Bed} {off size : Nat} {write : Option Nat} :
    WritesNext s (execCoreWindowAccess bed off size write t) := by
  unfold execCoreWindowAccess
  refine .ite h.next ?_
  dsimp only
  split
  · exact h.onBus (fun _ h => h.writeBar)
  · exact (h.onBar (fun _ h => .ite h.badOffset.answer h.readBar.answer)).next

end Sys2Proof.Machine
end

section
/-! PROOFS. What each operation of the model writes of memory's and the local stores' bytes (`Writes`): the metering island, SPDM and the tap; then every command. -/

namespace Sys2Proof.Machine

variable {s t : State}

/-! ### The metering island -/

theorem Writes.copyAudit (h : Writes s t) : Writes s t.copyAudit := h.setIsl.setRec.feedAudit

theorem Writes.mirrorPage (h : Writes s t) : Writes s t.mirrorPage :=
  (h.put.put.put.put.put.put.put.put.foldl (fun _ _ h => h.put)).put.put.put.put

theorem Writes.followVersion (h : Writes s t) : Writes s t.followVersion := .ite h h.frame.record

theorem Writes.onPort (h : Writes s t) {pec : Bool} {bad : List (Bool × Nat)} {ok : State → State}
    (hok : ∀ u, Writes s u → Writes s (ok u)) :
    WritesNext s (t.onPort pec bad ok) := by
  unfold State.onPort
  refine .ite h.next ?_
  split
  · exact h.reply.next
  · exact (hok _ h).next

theorem execIslandUnknownCommand_writes (h : Writes s t) {code : Nat} {pec : Bool} : WritesNext s (execIslandUnknownCommand code t pec) := by
  unfold execIslandUnknownCommand
  split
  · exact h.onPort (fun _ h => h.reply)
  · exact h.next

/-! ### SPDM -/

theorem Writes.spdmError (h : Writes s t) {code : Nat} : Writes s (t.spdmError code) := h.reply

theorem Writes.onSpdm (h : Writes s t) {f : State → State}
    (hf : ∀ u, Writes s u → Writes s (f u)) : WritesNext s (t.onSpdm f) :=
  .ite (hf _ h).next h.next

theorem Writes.onNegotiated (h : Writes s t) {f : State → State}
    (hf : ∀ u, Writes s u → Writes s (f u)) : WritesNext s (t.onNegotiated f) :=
  h.onSpdm (fun _ h => .ite (hf _ h) h.spdmError)

theorem Writes.onSession (h : Writes s t) {k : Nat} {f : State → SpdmSession → State}
    (hf : ∀ u a1, Writes s u → Writes s (f u a1)) :
    WritesNext s (t.onSession k f) :=
  h.onSpdm (fun _ h => by split; exacts [.ite (hf _ _ h) h.spdmError, h.spdmError])

theorem execVendorDefinedRequest_writes (h : Writes s t) {session : Nat} {cmd : RawCmd} :
    WritesNext s (execVendorDefinedRequest session cmd t) := by
  unfold execVendorDefinedRequest
  split
  · exact .ite h.runRaw (h.onSpdm (fun _ h => h.spdmError))
  · exact h.onSpdm (fun _ h => h.spdmError)

/-! ### The tap -/

theorem Writes.onTap (h : Writes s t) {f : State → State}
    (hf : ∀ u, Writes s u → Writes s (f u)) : WritesNext s (t.onTap f) :=
  .ite (hf _ h).next h.next

theorem Writes.setInstr (h : Writes s t) {n : Nat} : Writes s (t.setInstr n) := h.frame

theorem Writes.loadDriving (h : Writes s t) {n : Nat} : WritesNext s (t.loadDriving n) :=
  h.onTap (fun _ h => .ite h.setInstr h.setInstr.record)

/-! ### Every command -/

theorem exec_writes (h : Writes s t) {i : Instr} : WritesNext s (exec i t) := by
  cases i with dsimp only [exec]
  | badAccess => exact .ite h.next (h.onBar (fun _ h => .ite h.badOffset h.badOffset.answer)).next
  | unimplementedAccess => exact .ite h.next (h.onBar (fun _ h => h.unimplemented)).next
  | lowWordRead => exact .ite h.next (Writes.ite h.readBar.answer (h.onBar (fun _ h => h.readBar.answer))).next
  | registerWrite => exact h.onBus (fun _ h => h.writeBar)
  | directoryWrite => exact .ite (h.onBus (fun _ h => h.writeBar)) h.next
  | ctlRunWrite | cntClr | commit | abort => exact .ite h.writeField h.next
  | stagingSetFlush => exact (Writes.ite h.flushPage.takePlan.setClock h.flushPage).next
  | pageLock => exact .ite h.writeField h.next
  | coreWindowAccess => exact execCoreWindowAccess_writes h
  | partCfgWrite => exact h.writeField
  | layerStateWrite => exact .ite (h.onBus (fun _ h => h.writeBar)) h.next
  | inactivePageWrite => exact .ite h.next (h.onBus (fun _ h => h.writeBar))
  | groupWordWrite | brMapWrite | bridgeRunStop | portRunWrite | encCtlWrite | bedRunStop | runWriteIgnored => exact h.writeField
  | mirrorWrite => exact .ite h.next (h.onBus (fun _ h => h.writeBar))
  | recordRead => exact (h.onBar (fun _ h => h.markRead.answer)).next
  | freeze => exact (h.hostWriteL (fun _ h => h.askFreeze)).next
  | unfreeze => exact (h.hostWriteL (fun _ h => h.endFreeze)).next
  | freezeEffective => exact .ite h.setRec.put.put.next h.next
  | freezeTimeout => exact .ite h.endFreeze.evt.record.next h.next
  | doorbell => exact (Writes.ite h (h.hostWriteL (fun _ h => h.ring))).next
  | mbxGo => exact .ite (h.onBar (fun _ h => h.lockedOut)).next h.mailboxGo
  | mbxHalt => exact (h.hostWriteL (fun _ h => h.enterHold)).next
  | frameTick | stepBoundary => exact h.tickIf.next
  | precisionRetry | precisionShiftReset => exact h.leadTick.next
  | changeForced => exact h.tickIf.next
  | capRelease => exact .ite (Writes.ite h.setStack.setClock h.setStack).next h.next
  | matrixInstructionBlock => exact execMatrixInstructionBlock_writes h
  | matrixBlockEnd => exact execMatrixBlockEnd_writes h
  | vectorInstructionBlock => exact execVectorInstructionBlock_writes h
  | vAdd | vSub | vMul | vFma | vMin | vMax | vAbs | vNeg | vCmplt | vCmpeq | vSel | vSqrt
  | vRcp | vRsqrt | vExp2 | vLog2 | vCvtInt32 | vCvtBf16 | vIadd | vAnd | vOr | vXor | vShl | vShr => exact h.vectorOp
  | vectorLoad => exact VecKind.load.writes h
  | vectorStore => exact VecKind.store.writes h
  | quantiseTile => exact execQuantiseTile_writes h
  | nfTrap => exact .ite h.setBed.next h.next
  | contextStallTimeout => exact .ite h.ctxReset.next h.next
  | sequencerAckTimeout => exact .ite h.record.skipFrame.setSeq.setBed.next h.next
  | transferLoad => exact h.transfer (fun _ _ _ h => h.foldl (fun _ _ h => h.loadTile))
  | transferPrefetch => exact h.transfer (fun _ _ _ h => h.foldl (fun _ _ h => h.prefetchTile))
  | transferRelease | transferDrop => exact h.transfer (fun _ _ _ h => h.foldl (fun _ _ h => h.unpinLine))
  | transferComplete => exact .ite h.setCores.compUp.next h.next
  | lineRead => exact h.readLine.frame.next
  | lineWrite => exact .ite h.denyWrite.next h.writeLine.next
  | scrubDone => exact execScrubDone_writes h
  | patrolScrub => exact .ite h.next (Writes.ite (Writes.ite h h.stackRead).bump (.ite h h.stackRead)).next
  | memoryTrainingCheck => exact .ite h.next h.retrain.evt.record.next
  | channelRetrain => exact .ite h.next h.setMem.retrain.raise.next
  | retrainEnd => exact execRetrainEnd_writes h
  | refreshLate _ channel => exact h.bump.evt.record.next
  | updateEntry => exact execUpdateEntry_writes h
  | updatePrepass => exact execUpdatePrepass_writes h
  | unitStop => exact .ite (Writes.ite h.frame h.frame.setRun).put.put.put.next h.next
  | slotSend => exact (Writes.ite (.ite h.sendBeat h) (.ite h (.ite h.slotZero h.slotOther))).next
  | slotReceive => exact execSlotReceive_writes h
  | dataReceive => exact execDataReceive_writes h
  | heartbeatReceive => exact execHeartbeatReceive_writes h
  | heartbeatTimeout => exact .ite h.next h.setFab.bump.bump.portDown.evt.evt.record.next
  | timeRequestReceive => exact execTimeRequestReceive_writes h
  | timeResponseReceive => exact execTimeResponseReceive_writes h
  | groupAlignTimeout => exact .ite h.frame.record.leaveGroup.enterHold.next h.next
  | timeRefEdge => exact execTimeRefEdge_writes h
  | trefHoldoverTimeout => exact .ite h.put.setHoldover.next h.next
  | topologyReceive => exact execTopologyReceive_writes h
  | reduceReceive => exact execReduceReceive_writes h
  | levelCutoff | rootDeadline => exact h.cutoff.next
  | certReceive => exact execCertReceive_writes h
  | voteDeadline => exact h.leadTick.next
  | cuttingReceive => exact execCuttingReceive_writes h
  | cutAckReceive => exact execCutAckReceive_writes h
  | mgmtReceive => exact execMgmtReceive_writes h
  | portRetrain => exact (Writes.ite h.train h).next
  | portTrainingTimeout => exact .ite h.next (.ite h.record.fencePort.next h.record.setFab.next)
  | linkUp => exact .ite h.next (Writes.ite h.put.put.setFab.raise.raise h.put.put.setFab.raise).queueOn.next
  | d2dFlitRetry => exact h.bump.next
  | d2dTrainingLost => exact h.frame.next
  | d2dTrainingTimeout => exact .ite h.frame.record.enterHold.next h.next
  | ledgerEntryWrite => exact execLedgerEntryWrite_writes h
  | ledgerStall => exact .ite h.put.evt.record.enterHold.next h.next
  | drbgReseed => exact (Writes.ite (.ite h.frame.tick h) (.ite (.ite h.reseedOk h.reseedFail) h)).next
  | entropyHealthFail => exact execEntropyHealthFail_writes h
  | armatureLoad => exact execArmatureLoad_writes h
  | armatureActivate => exact execArmatureActivate_writes h
  | armatureUnload => exact execArmatureUnload_writes h
  | graftPlan => exact execGraftPlan_writes h
  | regrow => exact execRegrow_writes h
  | regrowReplay => exact .ite (h.foldl (fun _ _ h => .ite h.replayEntry h)).setPart.next h.next
  | getStatus => exact execGetStatus_writes h
  | getNonce => exact execGetNonce_writes h
  | readPower => exact execReadPower_writes h
  | setPowerState => exact execSetPowerState_writes h
  | haltAndHold => exact execHaltAndHold_writes h
  | evrRead => exact execEvrRead_writes h
  | evrFreeze => exact execEvrFreeze_writes h
  | evrUnfreeze => exact execEvrUnfreeze_writes h
  | evrClear => exact execEvrClear_writes h
  | ownerEnroll => exact execOwnerEnroll_writes h
  | ownerRevoke => exact execOwnerRevoke_writes h
  | sessionOpen => exact execSessionOpen_writes h
  | sessionClose => exact execSessionClose_writes h
  | fwUpdate => exact execFwUpdate_writes h
  | fwCommit => exact execFwCommit_writes h
  | pageUnlock => exact execPageUnlock_writes h
  | recoveryWrite => exact execRecoveryWrite_writes h
  | unknownCommand => exact execUnknownCommand_writes h
  | managementCommandTimeout => exact .ite h.next h.refuse.next
  | setEndpointId => exact h.onMctp (fun _ h => .ite h.frame.done h.reply)
  | getEndpointId => exact h.onMctp (fun _ h => h.done)
  | getMctpVersionSupport => exact h.onMctp (fun _ h => .ite h.done h.reply)
  | getMessageTypeSupport => exact h.onMctp (fun _ h => h.done)
  | getVendorDefinedMessageSupport => exact h.onMctp (fun _ h => .ite h.done h.reply)
  | getVersion => exact h.onSpdm (fun _ h => h.setSec.done)
  | getCapabilities => exact h.onSpdm (fun _ h => h.done)
  | negotiateAlgorithms => exact h.onSpdm (fun _ h => h.setSec.done)
  | getDigests => exact h.onNegotiated (fun _ h => h.done)
  | getCertificate => exact h.onNegotiated (fun _ h => .ite h.spdmError (.ite h.spdmError h.done))
  | challenge => exact h.onNegotiated (fun _ h => .ite h.spdmError h.drawBytes.done)
  | getMeasurements => exact h.onNegotiated (fun _ h => .ite h.done (.ite h.spdmError h.done))
  | keyExchange => exact h.onNegotiated (fun _ h => .ite h.spdmError (by split; exacts [h.spdmError, h.setSec.done]))
  | finish => exact h.onSpdm (fun _ h => by split; exacts [h.spdmError, .ite h.spdmError (.ite h.setSec.done h.setSec.spdmError)])
  | endSession | keyUpdate => exact h.onSession (fun _ _ h => h.setSec.done)
  | vendorDefinedRequest => exact execVendorDefinedRequest_writes h
  | spdmUnsupportedRequest => exact .ite h.next (h.onSpdm (fun _ h => h.spdmError))
  | bar2Read | bar2Write => exact .ite h.next (h.onBar (fun _ h => h.hostAccess)).next
  | dmaHostToDevice => exact (h.onDesc (fun _ _ h => .ite h.denyWrite.setFlying h.dmaWrite.setFlying)).next
  | dmaDeviceToHost => exact (h.onDesc (fun _ _ h => h.dmaRead.frame.setFlying)).next
  | dmaSealedWrite =>
    refine Writes.next (h.onDesc fun _ _ h => ?_)
    extract_lets q part
    split
    · exact h.setFlying
    · exact h.dmaWrite.setFlying
  | dmaCompletion => exact execDmaCompletion_writes h
  | dmaDescriptorTimeout => exact execDmaDescriptorTimeout_writes h
  | pcieConfigRequest => exact execPcieConfigRequest_writes h
  | flr => exact .ite h.resetEndpoint.next h.next
  | deviceReset => exact execDeviceReset_writes h
  | powerUp => exact .ite h.setPw.readHdr.next h.next
  | boot => exact execBoot_writes h
  | cpWatchdogTimeout => exact .ite h.next h.setPw.record.next
  | cpRestartComplete => exact h.setPw.next
  | cpRestartLimit => exact .ite h.setPw.record.enterHold.next h.next
  | vinExcursion => exact .ite h.next (.ite h.setPw.next (.ite h.setPw.enterOff.next (.ite h.setPw.next h.setPw.floorCause.next)))
  | inputOvercurrent => exact .ite h.setPw.put.next h.next
  | vauxLow => exact .ite h.setPw.setIsl.endSessions.enterOff.next h.next
  | converterFault => exact execConverterFault_writes h
  | pwrAlert => exact .ite h.setPw.floorCause.next h.next
  | floorExit => exact .ite h.next (Writes.ite h.setPw.setClock h.setPw).next
  | flowFault => exact .ite h.setPw.setMem.raise.enterHold.next h.next
  | flowFaultDormant => exact .ite h.enterDormant.next h.next
  | thermTrip => exact .ite h.next h.setPw.put.put.record.enterOff.next
  | junctionSensorRead => exact execJunctionSensorRead_writes h
  | throttleRestore => exact .ite (Writes.ite (Writes.ite h.setPw.put h.setPw).setClock (.ite h.setPw.put h.setPw)).next h.next
  | droopDetect => exact .ite (h.setPw.foldl (fun _ _ h => h.setBed)).bump.bump.next h.next
  | sustainedDroop => exact .ite h.floorCause.evt.next h.next
  | marginCheck => exact .ite h.next (.ite h.put.next (Writes.ite h.put.raiseTrim h.put.setPw).next)
  | clustersOn => exact .ite h.setPower.setClock.next h.next
  | holdupSample => exact .ite h.frame.showHoldup.next h.next
  | durableStoreStart => exact h.tryStore.next
  | durableStoreComplete => exact h.finishStore.next
  | durableStoreRetry => exact (Writes.ite h.tryStore h).next
  | eventBatchStore => exact (Writes.ite (Writes.ite h.tryStore h).writeBatch (.ite h.tryStore h)).next
  | hours => exact .ite h.record.next h.next
  | opSecond => exact .ite h.next h.setRec.bump.next
  | repeatSecond => exact (h.foldl (fun _ _ h => h.queueGeneral)).frame.next
  | meterReady => exact .ite h.setIsl.next h.next
  | meterNotReady => exact .ite h.record.next h.next
  | attributionInterval | metPulse | overrange | meterCommit | selfTestFail => exact .ite h.setIsl.next h.next
  | snapshot => exact .ite h.next (.ite h.bump.next h.mirrorPage.setIsl.followVersion.copyAudit.next)
  | snapshotStale => exact .ite h.put.next h.next
  | sealChange => exact .ite h.setIsl.next h.next
  | readEnergy | readStatus | readSwId | readAudit | readCfg => exact h.onPort (fun _ h => h.reply)
  | cfgWrite | fwBegin | fwChunk => exact h.onPort (fun _ h => h.setIsl.reply)
  | fwEnd => exact h.onPort (fun _ h => by split; exacts [h.setIsl.reply, h.setIsl.reply])
  | islandUnknownCommand => exact execIslandUnknownCommand_writes h
  | bypass => exact h.onTap (fun _ h => .ite h.setInstr h)
  | idcode => exact h.onTap (fun _ h => h.setInstr.answer)
  | samplePreload => exact h.onTap (fun _ h => by split; exacts [h.frame, h.frame])
  | extest | extestPulse | extestTrain | clamp | highz => exact h.loadDriving
  | boardOtp => exact h.onTap (fun _ h => .ite h.setInstr.record h.frame.put.showHoldup)
  | vauxRise => exact .ite h.keeperUp.next (.ite h.next h.setPw.next)
  | vinRestore => exact .ite h.setPw.floorClear.next h.next
  | keeperStop => exact .ite h.next h.finishStore.wipeDevice.frame.next
  | flowFaultClear => exact h.setPw.setMem.serveWaits.next
  | d2dTrainingRecovered | timeHoldEnd => exact h.frame.next
  | stackHot => exact (Writes.ite h.put.put.raise h.put.put).next
  | powerTransitionComplete => exact execPowerTransitionComplete_writes h

end Sys2Proof.Machine
end

section
/-! PROOFS. Settles StepKeepsMemoryForms (O4). -/

namespace Sys2Proof.Machine

/-- A step reaches its next state by writes alone. -/
theorem step_writes (s : State) : WritesNext s (step s) := by
  unfold step
  split
  · exact Writes.refl.idle.next
  · exact exec_writes Writes.refl.frame

/-- Settles O4: every command reaches its next state by writes (`exec_writes`), each of which keeps the two canonical forms (`Writes.mem_wf`, `Writes.localWf`). -/
theorem stepKeepsMemoryForms : Obligations.StepKeepsMemoryForms :=
  ⟨fun s _ hst => ((step_writes s).out hst).mem_wf, fun s _ hst => ((step_writes s).out hst).localWf⟩

end Sys2Proof.Machine
end

section
/-! PROOFS. Settles MatrixBlockEnds (O43): a block's end frees its engine, and its spill stays beside the quantisers' inputs and the slots' ABANDONED. -/

namespace Sys2Proof.Machine

/-! ### The end-of-K spill (R70, R115) -/

/-- The engines' running blocks, the quantisers' inputs and the slots. -/
def blockCells (c : CoreSt) : Tab (Nat × Nat) Running × Tab Nat (List Released) × Tab (Nat × Nat) SlotMeta := (c.running, c.released, c.slots)

/-- The spill writes its positions into local store, then resets the partial count of the tile's first slot. -/
theorem State.endSpill_steps (s : State) (b c e : Nat) (r : Running) (m : MatBlk) : ∃ (t : State) (spill : Nat), State.Beside blockCells s t ∧
    s.endSpill b c e r m = t.setSlot (coreNo b c) m.slot { t.slot (coreNo b c) m.slot with spill := spill, count := 0 } := by
  refine ⟨_, _, ?_, rfl⟩
  exact .ite .rfl (.foldl (fun _ _ => ((State.Beside.localPut (fun _ _ => rfl) ..).trans (.localPut (fun _ _ => rfl) ..)).trans (.result ..)) _ _)

/-- What the end of a K range leaves (R115): the engines, the quantisers' inputs and memory as before, no partial count in the slot, and every slot's ABANDONED as before. -/
structure State.Spilled (s t : State) (n k : Nat) : Prop where
  mem : t.mem = s.mem
  running : t.cores.running = s.cores.running
  released : t.cores.released = s.cores.released
  count : (t.slot n k).count = 0
  abandoned : ∀ j, (t.slot n j).abandoned = (s.slot n j).abandoned

theorem State.endSpill_spilled (s : State) (b c e : Nat) (r : Running) (m : MatBlk) :
    s.Spilled (s.endSpill b c e r m) (coreNo b c) m.slot := by
  obtain ⟨t, spill, hbeside, heq⟩ := s.endSpill_steps b c e r m
  obtain ⟨hrunning, hreleased, hslots⟩ : t.cores.running = s.cores.running ∧ t.cores.released = s.cores.released ∧
    t.cores.slots = s.cores.slots := by simpa [blockCells] using hbeside.cores
  have hslot : ∀ j, t.slot (coreNo b c) j = s.slot (coreNo b c) j := fun j => by rw [State.slot, hslots, State.slot]
  rw [heq]
  refine ⟨hbeside.mem, hrunning, hreleased, ?_, fun j => ?_⟩
  · rw [State.setSlot_slot, if_pos rfl]
  · rw [State.setSlot_slot, ← hslot]
    split
    next hj => rw [hj]
    next => rfl

/-! ### MATRIX_BLOCK_END (R115, R124) -/

/-- The engine of a block free again. -/
def State.freeEngine (s : State) (n e ctx : Nat) : State :=
  (s.setCores { s.cores with running := s.cores.running.del (n, e) }).put (pgCore .coreSub3 n) .CTX_STATE 0 ctx

theorem State.freeEngine_running (s : State) (n e ctx : Nat) : Tab.find? (s.freeEngine n e ctx).cores.running (n, e) = none := by
  refine (Tab.find?_del ..).trans (if_pos rfl)

/-- The tile of a block's slot as its end hands it to the quantiser. -/
def blockTile (s t : State) (b c : Nat) (r : Running) (m : MatBlk) : Released :=
  ⟨m.outDesc + descBias (s.armIn b r.arm) b c, m.tileRow, m.tileCol, some m.slot,
    (List.range (slotsNeeded (coreDescIn (s.armIn b r.arm) b c m.outDesc))).any fun i => (t.slot (coreNo b c) (m.slot + i)).abandoned,
    [], r.scale, r.step, r.tee, none, r.order, r.arm⟩

section End

variable {b : Bed} {c : Core} {e : Fin 3} {s : State} {r : Running} {m : MatBlk}

theorem exec_matrixBlockEnd (hr : Tab.find? s.cores.running (coreNo b.val c.val, e.val) = some r)
    (hm : m = matBlk (s.armIn b.val r.arm) r.blockOff) : exec (.matrixBlockEnd b c e) s = .next
      (if m.normMode then s.freeEngine (coreNo b.val c.val) e.val r.ctx else
        let t := if m.endK then (s.freeEngine (coreNo b.val c.val) e.val r.ctx).endSpill b.val c.val e.val r m
          else s.freeEngine (coreNo b.val c.val) e.val r.ctx
        if m.release then t.release (coreNo b.val c.val) (blockTile s t b.val c.val r m) else t) := by
  have harm : (s.freeEngine (coreNo b.val c.val) e.val r.ctx).armIn b.val r.arm = s.armIn b.val r.arm :=
    State.armIn_congr (State.SameMap.put _ _ _ _ (by decide)) rfl _ _
  have hexec : exec (.matrixBlockEnd b c e) s = execMatrixBlockEnd b c e s := rfl
  rw [hexec, execMatrixBlockEnd, hr]
  dsimp only
  rw [← State.freeEngine, harm, ← hm]
  split
  · rfl
  · split <;> rfl

/-- Outside norm mode the end hands the tile on after its spill, if it has one. -/
theorem exec_matrixBlockEnd_ends (hr : Tab.find? s.cores.running (coreNo b.val c.val, e.val) = some r)
    (hm : m = matBlk (s.armIn b.val r.arm) r.blockOff) (hnorm : m.normMode = false) : ∃ t : State, exec (.matrixBlockEnd b c e) s =
      .next (if m.release then t.release (coreNo b.val c.val) (blockTile s s b.val c.val r m) else t) ∧
    Tab.find? t.cores.running (coreNo b.val c.val, e.val) = none ∧ t.mem = s.mem ∧ t.cores.released = s.cores.released ∧
    (m.endK = true → (t.slot (coreNo b.val c.val) m.slot).count = 0) := by
  rw [exec_matrixBlockEnd hr hm, if_neg (by simp [hnorm])]
  cases hend : m.endK with
  | true =>
    have hspill := (s.freeEngine (coreNo b.val c.val) e.val r.ctx).endSpill_spilled b.val c.val e.val r m
    refine ⟨_, ?_, ?_, hspill.mem, hspill.released, fun _ => hspill.count⟩
    · simp only [if_true, blockTile, hspill.abandoned]
      rfl
    · rw [hspill.running]
      exact State.freeEngine_running ..
  | false => exact ⟨_, rfl, State.freeEngine_running .., rfl, rfl, nofun⟩

end End

/-- Settles O43: the end is the engine's freeing, then the spill and the release that the block asks for. -/
theorem matrixBlockEnds : Obligations.MatrixBlockEnds := by
  intro b c e s r m hr hm
  refine ⟨fun h => ?_, fun hnorm => ?_⟩
  · rw [exec_matrixBlockEnd hr hm]
    rcases h with hnorm | ⟨hend, hrel⟩
    · rw [if_pos hnorm]
      rfl
    · simp only [hend, hrel, Bool.false_eq_true, if_false, ite_self]
      rfl
  · obtain ⟨t, hexec, hrunning, hmem, hreleased, hcount⟩ := exec_matrixBlockEnd_ends hr hm hnorm
    refine ⟨_, hexec, ?_⟩
    cases hrel : m.release with
    | true =>
      refine ⟨hrunning, hmem, hcount, fun _ => ⟨blockTile s s b.val c.val r m, rfl, rfl, rfl, rfl, rfl, rfl, rfl, ?_⟩, nofun⟩
      rw [← hreleased]
      exact Tab.get_put_same ..
    | false => exact ⟨hrunning, hmem, hcount, nofun, fun _ => hreleased⟩

end Sys2Proof.Machine
end

section
/-! PROOFS. Settles Transfers (O47): a transfer's accesses change registers, memory and records alone, and its tiles the local store. -/

namespace Sys2Proof.Machine

/-! ### What an access changes -/

/-- Registers, memory, the recorder and the count of free values are all that changed. -/
def State.Accessed (s t : State) : Prop := t = { s with regs := t.regs, mem := t.mem, evr := t.evr, free := t.free }

namespace State.Accessed

variable {s t u : State}

theorem refl (s : State) : Accessed s s := Eq.refl s

theorem cores (h : Accessed s t) : t.cores = s.cores := (congrArg State.cores (show t = _ from h) :)

theorem beds (h : Accessed s t) : t.beds = s.beds := (congrArg State.beds (show t = _ from h) :)

theorem frame (h : Accessed s t) {regs mem evr free} : Accessed s { t with regs := regs, mem := mem, evr := evr, free := free } :=
  (congrArg (fun u : State => { u with regs := regs, mem := mem, evr := evr, free := free }) (show t = _ from h) :)

theorem ite {c : Prop} {_ : Decidable c} (ht : Accessed s t) (hu : Accessed s u) : Accessed s (if c then t else u) := by
  split
  · exact ht
  · exact hu

theorem foldl {α : Type} {f : State → α → State} {l : List α} (h : Accessed s t) (hf : ∀ u a, Accessed s u → Accessed s (f u a)) :
    Accessed s (l.foldl f t) :=
  List.foldlRecOn l f h fun u hu a _ => hf u a hu

theorem put (h : Accessed s t) {p : Page} {f : Fld} {v i : Nat} : Accessed s (t.put p f v i) := h.frame

theorem bump (h : Accessed s t) {p : Page} {f : Fld} {n i : Nat} : Accessed s (t.bump p f n i) := h.frame

theorem setMem (h : Accessed s t) {m : MemSt} : Accessed s (t.setMem m) := h.frame

theorem enqueue (h : Accessed s t) {r : Record} : Accessed s (t.enqueue r) := .ite h.frame h.frame

theorem queueGeneral (h : Accessed s t) {r : Record} : Accessed s (t.queueGeneral r) := .ite h.enqueue h.frame

theorem postGeneral (h : Accessed s t) {r : Record} : Accessed s (t.postGeneral r) := .ite h.frame (.ite h.frame.queueGeneral h.queueGeneral)

theorem postProtected (h : Accessed s t) {r : Record} : Accessed s (t.postProtected r) := .ite h.enqueue (.ite h.frame h.frame)

theorem capture (h : Accessed s t) {code : Nat} {p : Page} {frame : Nat} : Accessed s (t.capture code p frame) := .ite h h.frame

theorem recordAt (h : Accessed s t) {code : Nat} {p : Page} {payload : List Byte} {frame : Nat} :
    Accessed s (t.recordAt code p payload frame) :=
  .ite (Accessed.ite h.postProtected h.postGeneral).capture h

theorem raise (h : Accessed s t) {p : Page} {bit : Nat} {payload : List Byte} : Accessed s (t.raise p bit payload) := h.put.recordAt

/-! Accesses of a bridge, its regulators and its cache (R170 to R187). -/

theorem countFault (h : Accessed s t) {a : Nat} : Accessed s (t.countFault a) := h.bump.put.raise

theorem overdraw (h : Accessed s t) {b key : Nat} {fld : Fld} {idx n bit : Nat} : Accessed s (t.overdraw b key fld idx n bit) :=
  .ite h.setMem.bump.raise h.setMem

theorem moved (h : Accessed s t) {b cls bed : Nat} : Accessed s (t.moved b cls bed) :=
  .ite (Accessed.ite h.setMem.overdraw h.setMem).overdraw (.ite h.setMem.overdraw h.setMem)

theorem meter (h : Accessed s t) {b cls bed : Nat} : Accessed s (t.meter b cls bed) :=
  .ite h (.ite h.moved (.ite h.setMem (.ite h.moved.setMem (.ite h.frame (Accessed.moved h.frame).setMem))))

theorem uncorrectable (h : Accessed s t) {a : Nat} : Accessed s (t.uncorrectable a) := h.setMem.bump.put.raise

theorem stackRead (h : Accessed s t) {a : Nat} {err : LineErr} : Accessed s (t.stackRead a err).1 := by
  unfold State.stackRead
  extract_lets l
  split
  · exact h
  · cases err with
    | corrected => exact h.bump.raise
    | uncorrectable => exact h.uncorrectable
    | none | sram => exact h

theorem stackWrite (h : Accessed s t) {a : Nat} {data : List Byte} {poison rel : Bool} : Accessed s (t.stackWrite a data poison rel) :=
  .ite h h.setMem

theorem dalFree (h : Accessed s t) {l : Nat} : Accessed s (t.dalFree l) := h.frame

theorem useLine (h : Accessed s t) {l : Nat} {c : CacheLine} : Accessed s (t.useLine l c) := by
  unfold State.useLine
  split
  · exact h
  · exact .ite h.dalFree h.setMem

theorem serveHit (h : Accessed s t) {r : MemReq} {err : LineErr} {c : CacheLine} : Accessed s (t.serveHit r err c).1 := by
  unfold State.serveHit
  split
  · exact .ite h.raise.uncorrectable.setMem (Accessed.useLine h.raise.uncorrectable.setMem)
  · exact .ite h h.useLine

theorem serveMiss (h : Accessed s t) {r : MemReq} {d : List Byte} {p : Bool} : Accessed s (t.serveMiss r d p) :=
  .ite h (.ite h.bump.raise (.ite h.setMem (.ite h.dalFree h.setMem)))

theorem readLine (h : Accessed s t) {r : MemReq} {err : LineErr} {first : Bool} : Accessed s (t.readLine r err first).1 := by
  unfold State.readLine
  split
  · exact h.countFault
  · split
    · exact .ite h.frame.raise h.frame
    · unfold State.serveRead
      split
      · exact h.bump.serveHit
      · exact h.bump.meter.stackRead.serveMiss

theorem readSpan (h : Accessed s t) {r : MemReq} {n : Nat} : Accessed s (t.readSpan r n).1 :=
  List.foldlRecOn (motive := fun y : State × List Byte × List Nat => Accessed s y.1) _ _ h fun _ hy _ _ => hy.readLine

theorem releaseLine (h : Accessed s t) {l : Nat} : Accessed s (t.releaseLine l) := by
  unfold State.releaseLine
  split
  · exact h
  · exact .ite (Accessed.stackWrite h.setMem) h.setMem

theorem dropLine (h : Accessed s t) {l : Nat} : Accessed s (t.dropLine l) := by
  unfold State.dropLine
  split
  · exact h
  · exact h.setMem.setMem

theorem unpinLine (h : Accessed s t) {b cls l : Nat} {drop : Bool} : Accessed s (t.unpinLine b cls l drop) := by
  refine .ite h.countFault (.ite h.dropLine ?_)
  split
  · exact .ite h.releaseLine.meter h.releaseLine
  · exact h

theorem prefetchTile (h : Accessed s t) {b : Nat} {x : Transfer} {d : Desc} {i : Nat} : Accessed s (t.prefetchTile b x d i) :=
  .ite h.readSpan.readSpan h.readSpan

end State.Accessed

/-! ### Tiles brought into local store (R181) -/

/-- The beds and all of the cores but the local stores stay. -/
def State.LoadedTo (s t : State) : Prop := t.beds = s.beds ∧ t.cores = { s.cores with lstore := t.cores.lstore }

theorem State.Accessed.loadedTo {s t : State} (h : s.Accessed t) : s.LoadedTo t := ⟨h.beds, by rw [h.cores]⟩

theorem State.LoadedTo.trans {s t u : State} (h : s.LoadedTo t) (k : t.LoadedTo u) : s.LoadedTo u :=
  ⟨k.1.trans h.1, k.2.trans (by rw [h.2])⟩

theorem State.loadTile_loadedTo (s : State) (b c : Nat) (x : Transfer) (d : Desc) (i : Nat) : s.LoadedTo (s.loadTile b c x d i) := by
  unfold State.loadTile
  extract_lets n t a r sd side bad bytes u
  have hside : s.Accessed side.1 := by
    dsimp only [side]
    split
    · exact (State.Accessed.refl s).readSpan.readSpan
    · exact (State.Accessed.refl s).readSpan
  have hput : s.LoadedTo u := hside.loadedTo.trans ⟨rfl, rfl⟩
  split
  · exact hput
  · unfold State.raiseFlags
    split
    · exact hput
    · exact hput.trans ⟨rfl, rfl⟩

/-! ### Lines freed without write-back (R174, R178) -/

/-- A line lost leaves the bytes of every other. -/
theorem MemSt.line_loseLine (m : MemSt) {l j : Nat} (h : j ≠ l) : (m.loseLine l).line j = m.line j := by
  unfold MemSt.line MemSt.bytes
  refine List.map_congr_left fun i hi => ?_
  have hi := List.mem_range.1 hi
  have hj : lineOf (64 * j + i) ≠ l := by unfold lineOf; omega
  have hundef : Tab.find? (m.loseLine l).undef (lineOf (64 * j + i)) = Tab.find? m.undef (lineOf (64 * j + i)) :=
    Tab.find?_put_ne _ _ hj
  have hraw : (m.loseLine l).raw (64 * j + i) = m.raw (64 * j + i) := by
    have hcell : cellFind (m.loseLine l).cells (64 * j + i) = cellFind m.cells (64 * j + i) := by
      rw [MemSt.loseLine, cellFind_drop, if_neg (by simpa using hj)]
    rw [MemSt.raw, hcell, MemSt.unlisted_congr (m := m.loseLine l) (n := m) rfl hundef, MemSt.raw]
  have hgen : (m.loseLine l).genOf (64 * j + i) = m.genOf (64 * j + i) := by
    unfold MemSt.genOf
    rw [hundef]
    rfl
  rw [MemSt.byte, hraw, hgen, MemSt.byte]

/-- Lines dropped: none of them is cached, and every other is cached as before, with its bytes in memory as before. -/
structure State.Dropped (s t : State) (ls : List Nat) : Prop where
  gone : ∀ l ∈ ls, Tab.find? t.mem.cache l = none
  cache : ∀ l, l ∉ ls → Tab.find? t.mem.cache l = Tab.find? s.mem.cache l
  line : ∀ l, l ∉ ls → t.mem.line l = s.mem.line l

theorem State.dropLine_dropped (s : State) (l : Nat) : s.Dropped (s.dropLine l) [l] := by
  unfold State.dropLine
  split
  next hl => exact ⟨fun j hj => List.mem_singleton.1 hj ▸ hl, fun _ _ => rfl, fun _ _ => rfl⟩
  next =>
    have hcache : ∀ j, Tab.find? ((s.freeCache l).mem.loseLine l).cache j = if j = l then none else Tab.find? s.mem.cache j :=
      fun j => Tab.find?_del s.mem.cache l j
    refine ⟨fun j hj => ?_, fun j hj => ?_, fun j hj => ?_⟩
    · exact (hcache j).trans (if_pos (List.mem_singleton.1 hj))
    · exact (hcache j).trans (if_neg fun h => hj (List.mem_singleton.2 h))
    · exact MemSt.line_loseLine (s.freeCache l).mem fun h => hj (List.mem_singleton.2 h)

theorem State.Dropped.cons {s t u : State} {l : Nat} {ls : List Nat} (h : s.Dropped t [l]) (k : t.Dropped u ls) : s.Dropped u (l :: ls) where
  gone j hj := by
    by_cases hmem : j ∈ ls
    · exact k.gone j hmem
    · rw [k.cache j hmem]
      exact h.gone j (List.mem_singleton.2 ((List.mem_cons.1 hj).resolve_right hmem))
  cache j hj := by
    rw [List.mem_cons, not_or] at hj
    rw [k.cache j hj.2, h.cache j (by simpa using hj.1)]
  line j hj := by
    rw [List.mem_cons, not_or] at hj
    rw [k.line j hj.2, h.line j (by simpa using hj.1)]

/-- The lines of a DROP that its bridges accept (R170). -/
theorem State.unpinLines_dropped (b cls : Nat) (ls : List Nat) (s : State) (h : ∀ l ∈ ls, s.faulty b false (64 * l) = false) :
    s.Dropped (ls.foldl (fun s l => s.unpinLine b cls l true) s) ls := by
  induction ls generalizing s with
  | nil => exact ⟨nofun, fun _ _ => rfl, fun _ _ => rfl⟩
  | cons l ls ih =>
    have hl : s.unpinLine b cls l true = s.dropLine l := by simp [State.unpinLine, h l List.mem_cons_self]
    have hmap : s.SameMap (s.dropLine l) := by
      unfold State.dropLine
      split <;> exact .rfl
    rw [List.foldl_cons, hl]
    exact (s.dropLine_dropped l).cons (ih _ fun j hj => (hmap.faulty b false (64 * j)).trans (h j (List.mem_cons_of_mem _ hj)))

/-! ### The commands -/

/-- What a transfer's begin leaves, whatever it then moves (R122). -/
structure State.BegunTransfer (s t : State) (n x : Nat) : Prop where
  cursor : t.xcursor n x = s.xcursor n x + 1
  busy : t.cores.xbusy.contains (n, x) = true
  comp : t.comp n x = s.comp n x
  vregs : t.cores.vregs = s.cores.vregs
  beds : t.beds = s.beds

theorem State.beginTransfer_begun {s t : State} (b c x : Nat) (h : (s.beginTransfer b c x).LoadedTo t) :
    s.BegunTransfer t (coreNo b c) x := by
  obtain ⟨hbeds, hcores⟩ := h
  refine ⟨?_, ?_, ?_, ?_, hbeds⟩
  · rw [State.xcursor, hcores]
    exact Tab.get_put_same ..
  · rw [hcores]
    simp [State.beginTransfer]
  · rw [State.comp, hcores]
    rfl
  · rw [hcores]
    rfl

/-- What an entry of each operation moves (R174, R181). -/
def transferMove (b c : Nat) : Nat → State → Transfer → Desc → State
  | 0, s, e, d => (List.range e.count).foldl (fun s i => s.loadTile b c e d i) s
  | 1, s, e, d => (List.range e.count).foldl (fun s i => s.prefetchTile b e d i) s
  | 2, s, e, d => (xferLines e d).foldl (fun s l => s.unpinLine b e.cls l false) s
  | _, s, e, d => (xferLines e d).foldl (fun s l => s.unpinLine b e.cls l true) s

theorem transferMove_loadedTo (b c op : Nat) (s : State) (e : Transfer) (d : Desc) : s.LoadedTo (transferMove b c op s e d) := by
  match op with
  | 0 => exact List.foldlRecOn _ _ (State.Accessed.refl s).loadedTo fun t ht i _ => ht.trans (t.loadTile_loadedTo b c e d i)
  | 1 => exact ((State.Accessed.refl s).foldl fun _ _ h => h.prefetchTile).loadedTo
  | 2 | _ + 3 => exact ((State.Accessed.refl s).foldl fun _ _ h => h.unpinLine).loadedTo

/-- Only a LOAD writes local store. -/
theorem transferMove_lstore (b c : Nat) {op : Nat} (hop : 0 < op) (s : State) (e : Transfer) (d : Desc) :
    (transferMove b c op s e d).cores.lstore = s.cores.lstore := by
  match op with
  | 1 => exact congrArg CoreSt.lstore ((State.Accessed.refl s).foldl fun _ _ h => h.prefetchTile).cores
  | 2 | _ + 3 => exact congrArg CoreSt.lstore ((State.Accessed.refl s).foldl fun _ _ h => h.unpinLine).cores

/-- The state in which a due entry has begun and moved what it moves. -/
def State.transferred (s : State) (b c x : Nat) (e : Transfer) : State :=
  transferMove b c e.op (s.beginTransfer b c x) e (s.coreDesc b c e.desc)

section Begin

variable {b : Bed} {c : Core} {x : Ctx} {s : State} {e : Transfer} (he : s.dueTransfer b.val c.val x.val = some e)
include he

theorem State.transfer_due {op : Nat} (hop : e.op = op) :
    s.transfer b c x op (transferMove b.val c.val op) = .next (s.transferred b.val c.val x.val e) := by
  subst hop
  simp only [State.transfer, he, if_true, State.transferred]

theorem exec_transferLoad (hop : e.op = 0) : exec (.transferLoad b c x) s = .next (s.transferred b.val c.val x.val e) :=
  State.transfer_due he hop

theorem exec_transferPrefetch (hop : e.op = 1) : exec (.transferPrefetch b c x) s = .next (s.transferred b.val c.val x.val e) :=
  State.transfer_due he hop

theorem exec_transferRelease (hop : e.op = 2) : exec (.transferRelease b c x) s = .next (s.transferred b.val c.val x.val e) :=
  State.transfer_due he hop

theorem exec_transferDrop (hop : e.op = 3) : exec (.transferDrop b c x) s = .next (s.transferred b.val c.val x.val e) :=
  State.transfer_due he hop

end Begin

/-- Settles O47: an entry's begin stands through what it moves (`transferMove_loadedTo`), a DROP frees its lines one by one (`State.unpinLines_dropped`), and completion is the core's own bookkeeping. -/
theorem transfers : Obligations.Transfers := by
  refine ⟨fun b c x s e he => ?_, fun b c x s e he hop hok => ?_, fun b c x s hbusy => ?_⟩
  · have hbegun := State.beginTransfer_begun b.val c.val x.val
      (transferMove_loadedTo b.val c.val e.op (s.beginTransfer b.val c.val x.val) e (s.coreDesc b.val c.val e.desc))
    exact ⟨s.transferred b.val c.val x.val e, exec_transferLoad he, exec_transferPrefetch he, exec_transferRelease he, exec_transferDrop he,
      fun _ => ⟨hbegun.cursor, hbegun.busy, hbegun.comp, hbegun.vregs, hbegun.beds, fun hop => transferMove_lstore _ _ hop _ _ _⟩⟩
  · have hdrop := State.unpinLines_dropped b.val e.cls (xferLines e (s.coreDesc b.val c.val e.desc)) (s.beginTransfer b.val c.val x.val) hok
    have hmoved : s.transferred b.val c.val x.val e = (xferLines e (s.coreDesc b.val c.val e.desc)).foldl
        (fun s l => s.unpinLine b.val e.cls l true) (s.beginTransfer b.val c.val x.val) := by rw [State.transferred, hop]; rfl
    refine ⟨_, (exec_transferDrop he hop).trans (congrArg _ hmoved), hdrop.gone, fun l hl => ⟨hdrop.cache l hl, hdrop.line l hl⟩⟩
  · have hexec : exec (.transferComplete b c x) s = execTransferComplete b c x s := rfl
    rw [hexec, execTransferComplete, if_pos hbusy]
    refine ⟨_, rfl, Tab.get_put_same .., ?_, rfl⟩
    simp [State.compUp]

end Sys2Proof.Machine
end

section
/-! PROOFS. Settles VectorArithmetic (O39): what a vector instruction's results write, lane by lane, and what they leave (R125, R126, R129, R130). -/

namespace Sys2Proof.Machine

/-! ### What results and faults leave -/

/-- Memory, the power state, BLOCKS_ISSUED and SLIP_EVENTS stay, and of the cores what γ shows. -/
structure State.Calm {β : Type} (γ : CoreSt → β) (s t : State) : Prop where
  beside : Beside γ s t
  pw : t.pw = s.pw
  slips : ∀ p, t.get p .SLIP_EVENTS = s.get p .SLIP_EVENTS

namespace State.Calm

variable {β : Type} {γ : CoreSt → β} {s t u : State}

theorem rfl : Calm γ s s := ⟨.rfl, Eq.refl _, fun _ => Eq.refl _⟩

theorem trans (h : Calm γ s t) (k : Calm γ t u) : Calm γ s u :=
  ⟨h.beside.trans k.beside, k.pw.trans h.pw, fun p => (k.slips p).trans (h.slips p)⟩

theorem map {α : Type} (g : β → α) (h : Calm γ s t) : Calm (g ∘ γ) s t := ⟨h.beside.map g, h.pw, h.slips⟩

theorem foldl {ι : Type} {f : State → ι → State} (hf : ∀ s x, Calm γ s (f s x)) (l : List ι) (s : State) : Calm γ s (l.foldl f s) :=
  List.foldlRecOn l f rfl fun _ hu x _ => hu.trans (hf _ x)

theorem ite {c : Prop} {_ : Decidable c} (ht : Calm γ s t) (hu : Calm γ s u) : Calm γ s (if c then t else u) := by
  split
  · exact ht
  · exact hu

theorem setCores {c : CoreSt} (h : γ c = γ s.cores) : Calm γ s (s.setCores c) := ⟨.setCores h, Eq.refl _, fun _ => Eq.refl _⟩

theorem put (p : Page) (f : Fld) (v i : Nat) (hf : f ∉ besideFields) (hs : .SLIP_EVENTS ≠ f) : Calm γ s (s.put p f v i) :=
  ⟨.put p f v i hf, Eq.refl _, fun _ => State.get_put_fld _ _ _ _ _ _ hs⟩

theorem record (c : Nat) (p : Page) (d : List Byte) : Calm γ s (s.record c p d) :=
  ⟨.record c p d, s.record_pw c p d, fun _ => State.record_get _ _ _ _ _ _ (Eq.refl _) fun _ => by decide⟩

theorem raiseFlags (n : Nat) (fl : Flags) : Calm γ s (s.raiseFlags n fl) := ite rfl (put _ _ _ _ (by decide) (by decide))

theorem latchCapture (b : Nat) (c : Capture) : Calm γ s (s.latchCapture b c) := ⟨.setBed _ _ (Eq.refl _), Eq.refl _, fun _ => Eq.refl _⟩

theorem captureNf (b c : Nat) (fl : Flags) (i : CapInfo) : Calm γ s (s.captureNf b c fl i) := by
  have hput : ∀ {u : State} (p : Page) {f : Fld} (v : Nat), f ∉ besideFields → .SLIP_EVENTS ≠ f → Calm γ s u → Calm γ s (u.put p f v) :=
    fun p _ v hf hs h => h.trans (put p _ v 0 hf hs)
  refine ite rfl (trans (t := State.put ..) ?_ (latchCapture _ _))
  iterate 13 refine hput _ _ (by decide) (by decide) ?_
  exact rfl

theorem result (b c : Nat) (fl : Flags) (i : CapInfo) : Calm γ s (s.result b c fl i) := (raiseFlags _ _).trans (captureNf _ _ _ _)

theorem tileFaulted (b c : Nat) (d : Desc) (t : List Byte) (tile : Nat) : Calm γ s (s.tileFaulted b c d t tile) :=
  foldl (fun _ _ => (raiseFlags _ _).trans (record _ _ _)) _ _

theorem laneOut (hregs : ∀ (c : CoreSt) (l : Tab (Nat × Nat × Nat) W32), γ { c with vregs := l } = γ c) (w : VWhere) (i : VArgs)
    (source l : Nat) (r : LaneResult) : Calm γ s (s.laneOut w i source l r) :=
  (setCores (hregs _ _)).trans (result _ _ _ _)

end State.Calm

/-! ### Results written lane by lane -/

/-- One lane's result changes that lane of DST alone of the cores. -/
theorem State.laneOut_cores (s : State) (w : VWhere) (i : VArgs) (source l : Nat) (r : LaneResult) :
    (s.laneOut w i source l r).cores = { s.cores with
      vregs := s.cores.vregs.put (coreNo w.bed.val w.core.val, i.dst, l) (BitVec.ofNat 32 r.1) } :=
  (State.Calm.result (γ := id) _ _ _ _).beside.cores

theorem State.laneOut_vreg_same (s : State) (w : VWhere) (i : VArgs) (source l : Nat) (r : LaneResult) :
    (s.laneOut w i source l r).vreg (coreNo w.bed.val w.core.val) i.dst l = BitVec.ofNat 32 r.1 := by
  rw [State.vreg, s.laneOut_cores]
  exact Tab.get_put_same ..

theorem State.laneOut_vreg_ne (s : State) (w : VWhere) (i : VArgs) (source : Nat) {l n r j : Nat} (x : LaneResult)
    (h : (n, r, j) ≠ (coreNo w.bed.val w.core.val, i.dst, l)) : (s.laneOut w i source l x).vreg n r j = s.vreg n r j := by
  rw [State.vreg, s.laneOut_cores]
  exact Tab.get_put_ne _ _ _ h

/-- A vector register's lanes written: each of them holds its value, and nothing else of the registers changed. -/
structure State.LanesWritten (s t : State) (n dst : Nat) (ls : List Nat) (v : Nat → Nat) : Prop where
  written : ∀ l ∈ ls, t.vreg n dst l = BitVec.ofNat 32 (v l)
  others : ∀ m r l, m ≠ n ∨ r ≠ dst ∨ l ∉ ls → t.vreg m r l = s.vreg m r l

theorem State.laneOuts_written (w : VWhere) (i : VArgs) (source : Nat) (g : Nat → LaneResult) (ls : List Nat) (s : State) :
    s.LanesWritten (ls.foldl (fun t l => t.laneOut w i source l (g l)) s) (coreNo w.bed.val w.core.val) i.dst ls fun l => (g l).1 := by
  induction ls generalizing s with
  | nil => exact ⟨nofun, fun _ _ _ _ => rfl⟩
  | cons l ls ih =>
    obtain ⟨hwritten, hothers⟩ := ih (s.laneOut w i source l (g l))
    refine ⟨fun j hj => ?_, fun m r j hj => ?_⟩
    · by_cases hmem : j ∈ ls
      · exact hwritten j hmem
      · obtain rfl := (List.mem_cons.1 hj).resolve_right hmem
        exact (hothers _ _ _ (.inr (.inr hmem))).trans (s.laneOut_vreg_same ..)
    · rw [List.mem_cons, not_or] at hj
      refine (hothers m r j (by tauto)).trans (s.laneOut_vreg_ne _ _ _ _ ?_)
      simp only [ne_eq, Prod.mk.injEq]
      tauto

theorem State.laneOuts_calm {β : Type} {γ : CoreSt → β} (hregs : ∀ (c : CoreSt) (l : Tab (Nat × Nat × Nat) W32), γ { c with vregs := l } = γ c)
    (w : VWhere) (i : VArgs) (source : Nat) (g : Nat → LaneResult) (ls : List Nat) (s : State) :
    Calm γ s (ls.foldl (fun t l => t.laneOut w i source l (g l)) s) :=
  .foldl (fun _ _ => .laneOut hregs _ _ _ _ _) ls s

/-! ### An operation on every lane (R126) -/

/-- The state after an operation whose codes are none of the reserved ones. -/
def State.laned (s : State) (w : VWhere) (i : VArgs) (g : Nat → Nat → Nat → LaneResult) : State :=
  (s.lanes w.bed.val w.core.val w.backward).foldl (fun t l =>
    t.laneOut w i 3 l (g (s.source w i i.a l) (s.source w i i.b l) (s.source w i i.c l))) s

section Operation

variable {c : Instr} {w : VWhere} {i : VArgs} {g : Nat → Nat → Nat → LaneResult} {s : State}
  (hexec : exec c s = s.vectorOp w i g) (hok : argsOk i = true)
include hexec hok

theorem exec_laned : exec c s = .next (s.laned w i g) := hexec.trans (if_pos hok)

/-- An instruction gives in every lane what its operation forms, cut to 32 bits. -/
theorem vectorGives_of_mod {f : Nat → Nat → Nat → Nat} (hval : ∀ x y z, (g x y z).1 = f x y z ∨ (g x y z).1 = f x y z % 2 ^ 32) :
    vectorGives c w i f s := by
  obtain ⟨hwritten, hothers⟩ := s.laneOuts_written w i 3
    (fun l => g (s.source w i i.a l) (s.source w i i.b l) (s.source w i i.c l)) (s.lanes w.bed.val w.core.val w.backward)
  have hcalm : State.Calm (fun c => (c.scalars, c.lstore)) s (s.laned w i g) := s.laneOuts_calm (fun _ _ => rfl) ..
  refine ⟨_, exec_laned hexec hok, fun l hl => (hwritten l hl).trans ?_, hothers, congrArg Prod.fst hcalm.beside.cores,
    congrArg Prod.snd hcalm.beside.cores, hcalm.beside.mem, hcalm.pw⟩
  rcases hval (s.source w i i.a l) (s.source w i i.b l) (s.source w i i.c l) with h | h
  · rw [h]
  · exact BitVec.eq_of_toNat_eq (by simp [h])

/-- A result without flags writes its lane and nothing else. -/
theorem vectorQuiet_of_flagless (hflags : ∀ x y z, (g x y z).2 = Flags.none) : vectorQuiet c s := by
  intro t ht
  obtain rfl := Host.Outcome.next.inj ((exec_laned hexec hok).symm.trans ht)
  refine List.foldlRecOn (motive := fun t : State => t.regs = s.regs ∧ t.beds = s.beds) _ _ ⟨rfl, rfl⟩ fun t ht l _ => ?_
  rw [State.laneOut, hflags]
  exact ht

end Operation

/-- A floating operation. -/
theorem vectorGives_fpLane {c : Instr} {w : VWhere} {i : VArgs} {f : Nat → Nat → Nat → Nat} {s : State} (hok : argsOk i = true)
    (hexec : exec c s = s.vectorOp w i fun x y z => fpLane (f x y z)) : vectorGives c w i f s :=
  vectorGives_of_mod hexec hok fun _ _ _ => .inl rfl

/-- A mask, integer or bitwise operation raises no flag (R76). -/
theorem vectorGives_intLane {c : Instr} {w : VWhere} {i : VArgs} {f g : Nat → Nat → Nat → Nat} {s : State} (hok : argsOk i = true)
    (hexec : exec c s = s.vectorOp w i fun x y z => intLane (g x y z))
    (hval : ∀ x y z, g x y z = f x y z ∨ g x y z = f x y z % 2 ^ 32) : vectorGives c w i f s ∧ vectorQuiet c s :=
  ⟨vectorGives_of_mod hexec hok hval, vectorQuiet_of_flagless hexec hok fun _ _ _ => rfl⟩

/-- SHL's lane is the product modulo 2^32 (R126). -/
theorem shl_mod (x y : Nat) :
    (if y < 32 then x * 2 ^ y % 2 ^ 32 else 0) = (if y < 32 then x * 2 ^ y else 0) % 2 ^ 32 := by
  split
  · rfl
  · rfl

/-- Settles O39: each instruction's lanes are written one by one (`State.laneOuts_written`) and the values named are computed. -/
theorem vectorArithmetic : Obligations.VectorArithmetic := by
  refine ⟨⟨fun w i s hok => ?_, by decide +kernel⟩, fun w i s hok => ?_⟩
  · have hfp : ∀ {c : Instr} {f : Nat → Nat → Nat → Nat}, exec c s = s.vectorOp w i (fun x y z => fpLane (f x y z)) →
        vectorGives c w i f s := vectorGives_fpLane hok
    exact ⟨hfp rfl, hfp rfl, hfp rfl, hfp rfl, hfp rfl, hfp rfl, hfp rfl, hfp rfl, hfp rfl, hfp rfl, hfp rfl, hfp rfl, hfp rfl, hfp rfl,
      vectorGives_of_mod (g := fun x _ _ => cvtInt x) rfl hok fun _ _ _ => .inl rfl, hfp rfl⟩
  · have hint : ∀ {c : Instr} {f : Nat → Nat → Nat → Nat} (g : Nat → Nat → Nat → Nat),
        exec c s = s.vectorOp w i (fun x y z => intLane (g x y z)) → (∀ x y z, g x y z = f x y z ∨ g x y z = f x y z % 2 ^ 32) →
        vectorGives c w i f s ∧ vectorQuiet c s := fun _ => vectorGives_intLane hok
    obtain ⟨hlt, qlt⟩ := hint (c := .vCmplt w i) (fun x y _ => maskOf (ltF x y)) rfl fun _ _ _ => .inl rfl
    obtain ⟨heq, qeq⟩ := hint (c := .vCmpeq w i) (fun x y _ => maskOf (eqF x y)) rfl fun _ _ _ => .inl rfl
    obtain ⟨hadd, qadd⟩ := hint (c := .vIadd w i) (fun x y _ => (x + y) % 2 ^ 32) rfl fun _ _ _ => .inr rfl
    obtain ⟨hand, qand⟩ := hint (c := .vAnd w i) (fun x y _ => x &&& y) rfl fun _ _ _ => .inl rfl
    obtain ⟨hor, qor⟩ := hint (c := .vOr w i) (fun x y _ => x ||| y) rfl fun _ _ _ => .inl rfl
    obtain ⟨hxor, qxor⟩ := hint (c := .vXor w i) (fun x y _ => x ^^^ y) rfl fun _ _ _ => .inl rfl
    obtain ⟨hshl, qshl⟩ := hint (c := .vShl w i) (fun x y _ => if y < 32 then x * 2 ^ y % 2 ^ 32 else 0) rfl fun x y _ => .inr (shl_mod x y)
    obtain ⟨hshr, qshr⟩ := hint (c := .vShr w i) (fun x y _ => if y < 32 then x / 2 ^ y else 0) rfl fun _ _ _ => .inl rfl
    exact ⟨hlt, heq, hadd, hand, hor, hxor, hshl, hshr, by
      simpa only [List.forall_mem_cons, List.not_mem_nil, false_imp_iff, implies_true, and_true] using
        ⟨qlt, qeq, qadd, qand, qor, qxor, qshl, qshr⟩⟩

end Sys2Proof.Machine
end

section
/-! PROOFS. Settles VectorLoadStoreAndReservedCodes (O40): the tiles that a LOAD reads, and the quantiser's input that a STORE fills (R128, R145, R147). -/

namespace Sys2Proof.Machine

/-! ### LOAD -/

theorem State.loadFaults_calm {β : Type} {γ : CoreSt → β} (s : State) (w : VWhere) (i : VArgs) (ts : List Nat) :
    Calm γ s (ts.foldl (fun u k => u.tileFaulted w.bed.val w.core.val (s.vecDesc w i)
      (s.localTile (coreNo w.bed.val w.core.val) (i.imm.toNat / 65536) (s.vecDesc w i) k) k) s) :=
  .foldl (fun _ _ => .tileFaulted _ _ _ _ _) ts s

theorem State.vecLoad_calm {β : Type} {γ : CoreSt → β} (hregs : ∀ (c : CoreSt) (l : Tab (Nat × Nat × Nat) W32), γ { c with vregs := l } = γ c)
    (s : State) (w : VWhere) (i : VArgs) : Calm γ s (s.vecLoad w i) :=
  (s.loadFaults_calm w i (s.loadTiles w i)).trans (laneOuts_calm hregs _ _ _ _ _ _)

/-! ### STORE -/

/-- A list of the quantiser's input holds value v for position k of tile t of a tensor C tiles wide. -/
def Feeds (l : List Released) (C t k v : Nat) : Prop := ∃ r ∈ l, r.tileRow * C + r.tileCol = t ∧ (k, v) ∈ r.values

theorem Feeds.cons {l : List Released} {C t k v : Nat} (r : Released) (h : Feeds l C t k v) : Feeds (r :: l) C t k v :=
  h.imp fun _ hx => ⟨List.mem_cons_of_mem _ hx.1, hx.2⟩

section Feed

variable (d : Desc) (step desc row col k v : Nat) (tee : Nat × Nat) (order : List Nat) (arm : Option Nat)

theorem storesTo_tile {r : Released} (h : storesTo arm desc row col r = true) : r.tileRow = row ∧ r.tileCol = col := by
  simp only [storesTo, Bool.and_eq_true, beq_iff_eq] at h
  exact ⟨h.1.1.2, h.1.2⟩

/-- The value fed is there. -/
theorem feedTile_feeds {C t : Nat} (ht : row * C + col = t) (l : List Released) :
    Feeds (feedTile d step desc row col k v tee order arm l) C t k v := by
  induction l with
  | nil => exact ⟨_, List.mem_singleton_self _, ht, List.mem_singleton_self _⟩
  | cons r l ih =>
    unfold feedTile
    split
    next h =>
      obtain ⟨hrow, hcol⟩ := storesTo_tile desc row col arm (Bool.and_eq_true_iff.1 h).1
      exact ⟨_, List.mem_cons_self, by rw [hrow, hcol, ht], List.mem_append_right _ (List.mem_singleton_self _)⟩
    next => exact ih.cons r

/-- A value fed leaves the values of other positions and other tiles. -/
theorem Feeds.feedTile {C t j x : Nat} {l : List Released} (hne : (t, j) ≠ (row * C + col, k)) (h : Feeds l C t j x) :
    Feeds (feedTile d step desc row col k v tee order arm l) C t j x := by
  induction l with
  | nil =>
    obtain ⟨_, hr, _⟩ := h
    exact absurd hr List.not_mem_nil
  | cons r l ih =>
    obtain ⟨q, hq, htile, hval⟩ := h
    unfold Machine.feedTile
    rcases List.mem_cons.1 hq with rfl | hq
    · split
      next hto =>
        obtain ⟨hrow, hcol⟩ := storesTo_tile desc row col arm (Bool.and_eq_true_iff.1 hto).1
        have hjk : j ≠ k := fun hjk => hne (by rw [← htile, hrow, hcol, hjk])
        exact ⟨_, List.mem_cons_self, htile, List.mem_append_left _ (List.mem_filter.2 ⟨hval, by simpa using hjk⟩)⟩
      next => exact ⟨q, List.mem_cons_self, htile, hval⟩
    · split
      next => exact ⟨q, List.mem_cons_of_mem _ hq, htile, hval⟩
      next => exact (ih ⟨q, hq, htile, hval⟩).cons r

end Feed

/-- One lane of a STORE, in the state u that the lanes before it leave. -/
def State.storeLane (s : State) (w : VWhere) (i : VArgs) (u : State) (l : Nat) : State :=
  if (s.vecDesc w i).tiles ≤ s.vecElem w i l / (s.vecDesc w i).positions then u
  else u.setCores { u.cores with
    released := u.cores.released.put (coreNo w.bed.val w.core.val)
      (feedTile (s.vecDesc w i) (s.get (pgBed w.bed.val) .STEP_CNT) (i.imm.toNat % 65536 + descBias (s.armOf w.bed.val) w.bed.val w.core.val)
        (s.vecElem w i l / (s.vecDesc w i).positions / (s.vecDesc w i).tilesC)
        (s.vecElem w i l / (s.vecDesc w i).positions % (s.vecDesc w i).tilesC) (s.vecElem w i l % (s.vecDesc w i).positions) (s.source w i i.b l)
        (s.outT w.bed.val (i.imm.toNat % 65536 + descBias (s.armOf w.bed.val) w.bed.val w.core.val)) (s.vecOrder w) (s.bed w.bed.val).active
        (u.cores.released.get (coreNo w.bed.val w.core.val) [])) }

theorem State.vecStore_eq (s : State) (w : VWhere) (i : VArgs) :
    s.vecStore w i = (s.lanes w.bed.val w.core.val w.backward).foldl (s.storeLane w i) s := rfl

/-- A lane's value stands in the quantiser's input. -/
def State.LaneFed (s : State) (w : VWhere) (i : VArgs) (u : State) (l : Nat) : Prop :=
  Feeds (u.cores.released.get (coreNo w.bed.val w.core.val) []) (s.vecDesc w i).tilesC (s.vecElem w i l / (s.vecDesc w i).positions)
    (s.vecElem w i l % (s.vecDesc w i).positions) (s.source w i i.b l)

/-- Only the quantiser's input of the core changed. -/
def State.OnlyReleased (s u : State) (n : Nat) : Prop :=
  u = { s with cores := { s.cores with released := u.cores.released } } ∧
    ∀ m, m ≠ n → u.cores.released.get m [] = s.cores.released.get m []

section Store

variable (s : State) (w : VWhere) (i : VArgs) {u : State} {l m : Nat}

theorem State.storeLane_onlyReleased (h : s.OnlyReleased u (coreNo w.bed.val w.core.val)) :
    s.OnlyReleased (s.storeLane w i u l) (coreNo w.bed.val w.core.val) := by
  obtain ⟨hu, hothers⟩ := h
  unfold State.storeLane
  split
  · exact ⟨hu, hothers⟩
  · refine ⟨?_, fun m hm => (Tab.get_put_ne _ _ _ hm).trans (hothers m hm)⟩
    rw [hu]
    rfl

theorem State.vecStore_onlyReleased : s.OnlyReleased (s.vecStore w i) (coreNo w.bed.val w.core.val) :=
  List.foldlRecOn (motive := fun u => s.OnlyReleased u _) _ (s.storeLane w i) ⟨rfl, fun _ _ => rfl⟩
    fun _ hu _ _ => s.storeLane_onlyReleased w i hu

theorem State.storeLane_fed (hl : s.vecElem w i l / (s.vecDesc w i).positions < (s.vecDesc w i).tiles) :
    s.LaneFed w i (s.storeLane w i u l) l := by
  rw [State.LaneFed, State.storeLane, if_neg (Nat.not_le.2 hl), State.setCores, Tab.get_put_same]
  exact feedTile_feeds _ _ _ _ _ _ _ _ _ _ (Nat.div_add_mod' ..) _

/-- A lane fed stays so when another element is fed after it. -/
theorem State.storeLane_keepsFed (hne : s.vecElem w i l ≠ s.vecElem w i m) (h : s.LaneFed w i u l) :
    s.LaneFed w i (s.storeLane w i u m) l := by
  unfold State.storeLane
  split
  · exact h
  · rw [State.LaneFed, State.setCores, Tab.get_put_same]
    refine h.feedTile _ _ _ _ _ _ _ _ _ _ fun heq => hne ?_
    rw [Nat.div_add_mod', Prod.mk.injEq] at heq
    rw [← Nat.div_add_mod (s.vecElem w i l) (s.vecDesc w i).positions, heq.1, heq.2, Nat.div_add_mod]

theorem State.storeLanes_fed {ls : List Nat} (hinj : ∀ l ∈ ls, ∀ m ∈ ls, s.vecElem w i l = s.vecElem w i m → l = m) (hl : l ∈ ls)
    (htile : s.vecElem w i l / (s.vecDesc w i).positions < (s.vecDesc w i).tiles) : s.LaneFed w i (ls.foldl (s.storeLane w i) u) l := by
  obtain ⟨before, after, hls⟩ := List.append_of_mem hl
  rw [hls, List.foldl_append, List.foldl_cons]
  refine List.foldlRecOn (motive := fun v => s.LaneFed w i v l) _ _ (s.storeLane_fed w i htile) fun v hv m hm => ?_
  by_cases heq : s.vecElem w i l = s.vecElem w i m
  · obtain rfl := hinj l hl m (by simp [hls, hm]) heq
    exact s.storeLane_fed w i htile
  · exact s.storeLane_keepsFed w i heq hv

end Store

/-- Settles O40: a LOAD writes lane by lane after its tiles' faults, a STORE feeds lane by lane, and R145's check of the codes stands before each instruction. -/
theorem vectorLoadStoreAndReservedCodes : Obligations.VectorLoadStoreAndReservedCodes := by
  refine ⟨⟨fun w i s hok => ?_, fun w i s hok => ?_⟩, fun w i s hbad => ?_⟩
  · have hcalm : State.Calm (·.lstore) s (s.vecLoad w i) := s.vecLoad_calm (fun _ _ => rfl) w i
    have hvregs := congrArg CoreSt.vregs (s.loadFaults_calm (γ := id) w i (s.loadTiles w i)).beside.cores
    obtain ⟨hwritten, hothers⟩ := State.laneOuts_written w i 4 (fun l => fpLane (loadElem (s.vecDesc w i) (s.tensorT w.bed.val (s.vecDesc w i))
        (s.localTile (coreNo w.bed.val w.core.val) (i.imm.toNat / 65536) (s.vecDesc w i) (s.vecElem w i l / (s.vecDesc w i).positions))
        (s.vecElem w i l % (s.vecDesc w i).positions)))
      (s.lanes w.bed.val w.core.val w.backward) _
    exact ⟨s.vecLoad w i, if_pos hok, hwritten, fun n r l h => (hothers n r l h).trans (congrArg (Tab.get · (n, r, l) 0) hvregs),
      hcalm.beside.cores, hcalm.beside.mem⟩
  · obtain ⟨honly, hothers⟩ := s.vecStore_onlyReleased w i
    exact ⟨s.vecStore w i, if_pos hok, honly, hothers, fun hinj l hl htile => s.storeLanes_fed w i hinj hl htile⟩
  · iterate 26 refine List.forall_mem_cons.2 ⟨if_neg (by simp [hbad]), ?_⟩
    exact List.forall_mem_nil _

end Sys2Proof.Machine
end

section
/-! PROOFS. Settles VectorBlocks (O41): the entry that is due, its begin, and the program run instruction by instruction (R122, R123, R145). -/

namespace Sys2Proof.Machine

/-! ### Entries passed over on a vector half (R143, R156) -/

/-- Passing over entries of the vector halves counts them and leaves the local stores. -/
theorem State.nextEntry_calm (b c : Nat) {e : Nat} (he : 2 < e) (l : List Issue) (k : Nat) (s : State) :
    Calm (·.lstore) s (State.nextEntry b c e l k s).1 := by
  induction l generalizing k s with
  | nil => exact .setCores rfl
  | cons i l ih =>
    unfold State.nextEntry
    split
    · exact ih (k + 1) s
    · split
      · have hskip : Calm (·.lstore) s (s.skipEntry b c e i) := by
          simp only [State.skipEntry, if_neg (Nat.not_le.2 he)]
          exact .ite (.put _ _ _ _ (by decide) (by decide)) .rfl
        exact hskip.trans (ih (k + 1) _)
      · exact .setCores rfl

theorem State.dueEntry_calm (s : State) (b c : Nat) {e : Nat} (he : 2 < e) (ready : Nat) :
    Calm (·.lstore) s (s.dueEntry b c e ready).1 := by
  unfold State.dueEntry
  dsimp only
  split
  · exact .rfl
  · have hnext := State.nextEntry_calm b c he ((s.coreList b c e).drop (s.cursor (coreNo b c) e)) (s.cursor (coreNo b c) e) s
    split
    · exact hnext
    · split <;> exact hnext

/-! ### A block's slip (R123) -/

theorem State.slip_slipEvents (s : State) (n d : Nat) : (s.slip n d).get (pgCore .coreSub2 n) .SLIP_EVENTS =
    if d = 0 then s.get (pgCore .coreSub2 n) .SLIP_EVENTS else satAdd 32 (s.get (pgCore .coreSub2 n) .SLIP_EVENTS) 1 := by
  unfold State.slip
  split
  · rfl
  · rw [State.get_put_fld _ _ _ _ _ _ (by decide), State.get_bump_fld _ _ _ _ _ (by decide)]
    exact State.get_bump_satAdd ..

theorem State.started_slipEvents (s : State) (b c e : Nat) (i : Issue) (k at_ len : Nat) :
    (s.started b c e i k at_ len).get (pgCore .coreSub2 (coreNo b c)) .SLIP_EVENTS =
      if at_ ≤ i.start then s.get (pgCore .coreSub2 (coreNo b c)) .SLIP_EVENTS
      else satAdd 32 (s.get (pgCore .coreSub2 (coreNo b c)) .SLIP_EVENTS) 1 := by
  unfold State.started
  rw [State.get_put_fld _ _ _ _ _ _ (by decide), State.get_put_fld _ _ _ _ _ _ (by decide), State.get_put_fld _ _ _ _ _ _ (by decide),
    State.setCores_get, State.get_bump_fld _ _ _ _ _ (by decide), State.slip_slipEvents]
  simp only [Nat.sub_eq_zero_iff_le]

/-! ### The program (R145) -/

/-- Where the engines stand, and the local stores. -/
def programCells (c : CoreSt) : (Tab (Nat × Nat) Nat × Tab (Nat × Nat) Nat) × List Host.Cell := (engineCells c, c.lstore)

theorem State.OnlyReleased.calm {s t : State} {n : Nat} (h : s.OnlyReleased t n) : Calm programCells s t := by
  rw [h.1]
  exact .setCores rfl

/-- Every instruction that R145 does not reserve has an effect, which leaves where the engines stand. -/
theorem VecKind.calm {f : VWhere → VArgs → State → Host.Outcome State Fault Refusal} (hf : VecKind f) (w : VWhere) {i : VArgs}
    (hok : argsOk i = true) (s : State) : ∃ t : State, f w i s = .next t ∧ State.Calm programCells s t := by
  cases hf with
  | lanes g => exact ⟨_, if_pos hok, s.laneOuts_calm (fun _ _ => rfl) _ _ _ _ _⟩
  | load => exact ⟨_, if_pos hok, s.vecLoad_calm (fun _ _ => rfl) w i⟩
  | store => exact ⟨_, if_pos hok, (s.vecStore_onlyReleased w i).calm⟩

/-- A program without reserved codes runs to its end. -/
theorem runProgram_calm (w : VWhere) (p : List (Nat × VArgs)) (hp : ∀ x ∈ p, vecExec x.1 ≠ none ∧ argsOk x.2 = true) (at_ : Nat) (s : State) :
    ∃ t : State, runProgram w at_ p s = .next t ∧ State.Calm programCells s t := by
  induction p generalizing at_ s with
  | nil => exact ⟨s, rfl, .rfl⟩
  | cons x p ih =>
    obtain ⟨op, i⟩ := x
    obtain ⟨hop, hargs⟩ := hp _ List.mem_cons_self
    obtain ⟨f, hf⟩ := Option.ne_none_iff_exists'.1 hop
    obtain ⟨t, ht, hcalm⟩ := (vecExec_kind op f hf).calm { w with cycle := at_ } hargs s
    obtain ⟨u, hu, hrest⟩ := ih (fun y hy => hp y (List.mem_cons_of_mem _ hy)) (at_ + vecCycles op) t
    refine ⟨u, ?_, hcalm.trans hrest⟩
    simp only [runProgram, hf, ht, hu]

/-- Settles O41: the entries passed over and the program leave the counters and the engines (`State.Calm`), so both are as the block's begin puts them. -/
theorem vectorBlocks : Obligations.VectorBlocks := by
  intro b c bw ready s u i k t hdue hp
  have hskip : State.Calm (·.lstore) s u := by
    simpa only [hdue] using s.dueEntry_calm b.val c.val (e := if bw then 4 else 3) (by cases bw <;> decide) ready
  have hstart := u.started_started b.val c.val (if bw then 4 else 3) i k t (programCycles (programOf (u.armOf b.val) i.blockOff))
  obtain ⟨v, hv, hrun⟩ := runProgram_calm ⟨b, c, Fin.ofNat 8 i.ctx, bw, k, i.opId, i.layer, t⟩ _ hp t
    (u.started b.val c.val (if bw then 4 else 3) i k t (programCycles (programOf (u.armOf b.val) i.blockOff)))
  have hexec : exec (.vectorInstructionBlock b c bw ready) s = execVectorInstructionBlock b c bw ready s := rfl
  have hcells := hrun.beside.cores
  refine ⟨v.put (pgCore .coreSub3 (coreNo b.val c.val)) .CTX_STATE 0 i.ctx, ?_, ?_, ?_, ?_, ?_, State.get_put_same .., ?_, ?_⟩
  · simp only [hexec, execVectorInstructionBlock, hdue, hv]
  · exact (congrArg (fun x => Tab.get x.1.1 _ 0) hcells).trans hstart.cursor
  · exact (congrArg (fun x => Tab.get x.1.2 _ 0) hcells).trans hstart.endCyc
  · rw [State.get_put_fld _ _ _ _ _ _ (by decide), hrun.beside.regs _ _ (by decide), hstart.issued, hskip.beside.regs _ _ (by decide)]
  · rw [State.get_put_fld _ _ _ _ _ _ (by decide), hrun.slips, u.started_slipEvents, hskip.slips]
  · exact hrun.beside.mem.trans (hstart.mem.trans hskip.beside.mem)
  · exact (congrArg Prod.snd hcells).trans (hstart.same.lstore.trans hskip.beside.cores)

end Sys2Proof.Machine
end

section
/-! PROOFS. Settles TrapsTimeoutsRestarts (O29): what blocks that are stopped or skipped leave (R124, R153, R156), and the restarts of the control processor (R352). -/

namespace Sys2Proof.Machine

/-! ### What stopping and skipping leave -/

/-- Fields that count what is skipped or show a context's state. -/
def skipFields : List Fld := [.SKIP_CNT, .CTX_STATE]

/-- Beds, memory and every other register stay when blocks are stopped or skipped. -/
structure State.Skipped (s t : State) : Prop where
  beds : t.beds = s.beds
  mem : t.mem = s.mem
  regs : ∀ g, g ∉ skipFields → ∀ p i, t.get p g i = s.get p g i

namespace State.Skipped

variable {s t u : State}

theorem refl (s : State) : Skipped s s := ⟨rfl, rfl, fun _ _ _ _ => rfl⟩

theorem ite {c : Prop} {_ : Decidable c} (ht : Skipped s t) (hu : Skipped s u) : Skipped s (if c then t else u) := by
  split
  · exact ht
  · exact hu

theorem foldl {α : Type} {f : State → α → State} {l : List α} (h : Skipped s t) (hf : ∀ u a, Skipped s u → Skipped s (f u a)) :
    Skipped s (l.foldl f t) :=
  List.foldlRecOn l f h fun u hu a _ => hf u a hu

theorem setCores (h : Skipped s t) {c : CoreSt} : Skipped s (t.setCores c) := ⟨h.beds, h.mem, h.regs⟩

theorem put (h : Skipped s t) {p : Page} {f : Fld} {v i : Nat} (hf : f ∈ skipFields) : Skipped s (t.put p f v i) where
  beds := h.beds
  mem := h.mem
  regs g hg p i := (State.get_put_fld _ _ _ _ _ _ fun (heq : g = f) => hg (heq ▸ hf)).trans (h.regs g hg p i)

theorem bump (h : Skipped s t) {p : Page} {f : Fld} {n i : Nat} (hf : f ∈ skipFields) : Skipped s (t.bump p f n i) := h.put hf

theorem onCores (h : Skipped s t) {b : Nat} {g : State → Nat → State} (hg : ∀ u c, Skipped s u → Skipped s (g u c)) :
    Skipped s (t.onCores b g) := .ite h (h.foldl hg)

theorem abandon (h : Skipped s t) {c k n : Nat} : Skipped s (t.abandon c k n) := h.foldl fun _ _ h => h.setCores

theorem skipMatrix (h : Skipped s t) {b c : Nat} {arm : Option Nat} {m : MatBlk} : Skipped s (t.skipMatrix b c arm m) :=
  .ite (.ite (h.abandon.foldl fun _ _ h => h.setCores) h.abandon) (.ite h.abandon.setCores h.abandon)

theorem skipEntry (h : Skipped s t) {b c e : Nat} {i : Issue} : Skipped s (t.skipEntry b c e i) :=
  .ite (.ite (h.bump (by decide)).skipMatrix (h.bump (by decide))) h

theorem skipEngine (h : Skipped s t) {b c e : Nat} : Skipped s (t.skipEngine b c e) := (h.foldl fun _ _ h => h.skipEntry).setCores

theorem skipXfer (h : Skipped s t) {b c x : Nat} : Skipped s (t.skipXfer b c x) :=
  .ite (h.bump (by decide)).setCores (h.bump (by decide)).setCores.setCores

theorem skipXfers (h : Skipped s t) {b c x : Nat} : Skipped s (t.skipXfers b c x) := (h.foldl fun _ _ h => h.skipXfer).setCores

theorem skipFrame (h : Skipped s t) {b : Nat} : Skipped s (t.skipFrame b) :=
  h.onCores fun _ _ h => (h.foldl fun _ _ h => h.skipEngine).foldl fun _ _ h => h.skipXfers

theorem stopEngine (h : Skipped s t) {b c e : Nat} : Skipped s (t.stopEngine b c e) := by
  unfold State.stopEngine
  split
  · exact h
  · extract_lets _ stopped counted shown
    have hshown : Skipped s shown := (h.setCores.bump (by decide)).put (by decide)
    exact .ite hshown.skipMatrix hshown

end State.Skipped

/-! ### A context that is reset (R124) -/

/-- A skipped matrix block leaves the engines' running blocks. -/
theorem State.skipMatrix_running (s : State) (b c : Nat) (arm : Option Nat) (m : MatBlk) :
    (s.skipMatrix b c arm m).cores.running = s.cores.running := by
  have hmatrix : Beside CoreSt.running s (s.skipMatrix b c arm m) :=
    Beside.trans (.abandon (fun _ _ => rfl) _ _ _) (.ite (.ite (.poisonNorms (fun _ _ => rfl) _ _) .rfl) (.ite (.setCores rfl) .rfl))
  exact hmatrix.cores

/-- A stopped engine has no running block; the others keep theirs. -/
theorem State.stopEngine_running (s : State) (b c e : Nat) (j : Nat × Nat) :
    Tab.find? (s.stopEngine b c e).cores.running j = if j = (coreNo b c, e) then none else Tab.find? s.cores.running j := by
  unfold State.stopEngine
  split
  next hnone =>
    split
    next hj => rw [hj, hnone]
    next => rfl
  next =>
    have hcells : ∀ {u v : State}, v.cores.running = u.cores.running → Tab.find? v.cores.running j = Tab.find? u.cores.running j :=
      fun h => by rw [h]
    refine Eq.trans ?_ (Tab.find?_del s.cores.running (coreNo b c, e) j)
    split
    · rw [State.skipMatrix_running]
      rfl
    · rfl

/-- An engine of a core stopped if its block is of a context. -/
def State.stopIf (s : State) (b c x e : Nat) : State :=
  match Tab.find? s.cores.running (coreNo b c, e) with
  | some r => if r.ctx = x then s.stopEngine b c e else s
  | none => s

/-- An engine runs no block of a context. -/
def State.FreeOf (s : State) (b c x e : Nat) : Prop := ∀ r, Tab.find? s.cores.running (coreNo b c, e) = some r → r.ctx ≠ x

section Stop

variable (s : State) (b c x : Nat)

theorem State.stopIf_skipped {t : State} (h : t.Skipped s) (e : Nat) : t.Skipped (s.stopIf b c x e) := by
  unfold State.stopIf
  split
  · exact .ite h.stopEngine h
  · exact h

/-- What runs after a stop ran before it. -/
theorem State.stopIf_sub {e : Nat} {j : Nat × Nat} {r : Running} (h : Tab.find? (s.stopIf b c x e).cores.running j = some r) :
    Tab.find? s.cores.running j = some r := by
  unfold State.stopIf at h
  split at h
  · split at h
    · rw [State.stopEngine_running] at h
      split at h
      · cases h
      · exact h
    · exact h
  · exact h

theorem State.stopIf_freeOf (e : Nat) : (s.stopIf b c x e).FreeOf b c x e := by
  intro r hr
  have hrun := s.stopIf_sub b c x hr
  rintro rfl
  rw [State.stopIf, hrun] at hr
  simp [State.stopEngine_running] at hr

/-- Every engine that was stopped runs no block of the context. -/
theorem State.stopIfs_freeOf {l : List Nat} {e : Nat} (he : e ∈ l) : (l.foldl (fun s e => s.stopIf b c x e) s).FreeOf b c x e := by
  obtain ⟨before, after, hl⟩ := List.append_of_mem he
  rw [hl, List.foldl_append, List.foldl_cons]
  exact List.foldlRecOn (motive := fun t : State => t.FreeOf b c x e) _ _ (State.stopIf_freeOf _ b c x e)
    fun t ht _ _ r hr => ht r (t.stopIf_sub b c x hr)

/-- The engines of a context that is reset, stopped. -/
def State.ctxStopped : State := [0, 1, 2, 3, 4].foldl (fun s e => s.stopIf b c x e) s

/-- The context put among those that skip (R124). -/
def State.ctxSkips : State :=
  s.setCores { s.cores with skip := if s.cores.skip.contains (coreNo b c, x) then s.cores.skip else (coreNo b c, x) :: s.cores.skip }

/-- A context's reset shown in its core's registers. -/
def State.showReset : State :=
  ((((s.put (pgCore .coreSub3 (coreNo b c)) .CTX_STATE 3 x).put (pgCore .coreSub3 (coreNo b c)) .STALL_FRAMES 0 x).bump
    (pgCore .coreSub2 (coreNo b c)) .CTX_RESETS).put (pgCore .coreSub0 (coreNo b c)) .CORE_ABANDONED 1)

theorem State.ctxReset_eq (code : Nat) : s.ctxReset b c x code = (((s.ctxStopped b c x).ctxSkips b c x).showReset b c x).record code
    (pgCore .coreSub0 (coreNo b c)) (leBytes 2 c ++ leBytes 1 x ++ [0] ++ leBytes 4 (((s.skippedEntries b c x).map (·.opId)).headD 0)) := rfl

theorem State.ctxSkips_contains : (s.ctxSkips b c x).cores.skip.contains (coreNo b c, x) = true := by
  unfold State.ctxSkips State.setCores
  dsimp only
  split
  next h => exact h
  next => simp

theorem State.showReset_unchanged : (s.showReset b c x).cores = s.cores ∧ (s.showReset b c x).beds = s.beds ∧ (s.showReset b c x).mem = s.mem :=
  ⟨rfl, rfl, rfl⟩

theorem State.ctxSkips_unchanged : (s.ctxSkips b c x).cores.running = s.cores.running ∧ (s.ctxSkips b c x).beds = s.beds ∧
    (s.ctxSkips b c x).mem = s.mem ∧ ∀ p g i, (s.ctxSkips b c x).get p g i = s.get p g i := ⟨rfl, rfl, rfl, fun _ _ _ => rfl⟩

theorem State.showReset_get : (s.showReset b c x).get (pgCore .coreSub3 (coreNo b c)) .CTX_STATE x = 3 ∧
    (s.showReset b c x).get (pgCore .coreSub3 (coreNo b c)) .STALL_FRAMES x = 0 ∧
    (s.showReset b c x).get (pgCore .coreSub2 (coreNo b c)) .CTX_RESETS = satAdd 16 (s.get (pgCore .coreSub2 (coreNo b c)) .CTX_RESETS) 1 ∧
    (s.showReset b c x).get (pgCore .coreSub0 (coreNo b c)) .CORE_ABANDONED = 1 := by
  unfold State.showReset
  refine ⟨?_, ?_, ?_, State.get_put_same ..⟩
  · rw [State.get_put_fld _ _ _ _ _ _ (by decide), State.get_bump_fld _ _ _ _ _ (by decide), State.get_put_fld _ _ _ _ _ _ (by decide)]
    exact State.get_put_same ..
  · rw [State.get_put_fld _ _ _ _ _ _ (by decide), State.get_bump_fld _ _ _ _ _ (by decide)]
    exact State.get_put_same ..
  · rw [State.get_put_fld _ _ _ _ _ _ (by decide), State.get_bump_satAdd, State.get_put_fld _ _ _ _ _ _ (by decide),
      State.get_put_fld _ _ _ _ _ _ (by decide)]
    rfl

end Stop

/-! ### A sequencer that restarts (R351) -/

/-- A bed put to PAUSED: its SEQ_STATE, and what stays. -/
theorem State.setSeq_paused (s : State) (b : Nat) : (s.setSeq b seqPaused).seq b = seqPaused ∧
    (∀ x, x ≠ b → (s.setSeq b seqPaused).seq x = s.seq x) ∧ (s.setSeq b seqPaused).beds = s.beds ∧
    ∀ p g i, g ≠ .SEQ_STATE → g ≠ .RUN → (s.setSeq b seqPaused).get p g i = s.get p g i := by
  have hset : s.setSeq b seqPaused = (s.put (pgBed b) .SEQ_STATE seqPaused).put (pgBed b) .RUN 1 := if_neg (by decide)
  rw [hset]
  refine ⟨?_, fun x hx => ?_, rfl, fun p g i hs hr => ?_⟩
  · rw [State.seq, State.get_put_fld _ _ _ _ _ _ (by decide), State.get_put_same]
    rfl
  · have hp : pgBed x ≠ pgBed b := fun e => hx (congrArg Page.inst e)
    rw [State.seq, State.get_put_fld _ _ _ _ _ _ (by decide), State.get_put_page _ _ _ _ _ _ hp, State.seq]
  · rw [State.get_put_fld _ _ _ _ _ _ hr, State.get_put_fld _ _ _ _ _ _ hs]

theorem State.setBed_seq (s : State) (b : Nat) (y : BedSt) (x : Nat) : (s.setBed b y).seq x = s.seq x := rfl

/-- A bed that skips its frame and is put to PAUSED. -/
def State.pausedFrame (s : State) (b : Nat) : State := (s.skipFrame b).setSeq b seqPaused

theorem State.pausedFrame_unchanged (s : State) (b : Nat) : (s.pausedFrame b).seq b = seqPaused ∧
    (∀ x, x ≠ b → (s.pausedFrame b).seq x = s.seq x) ∧ (s.pausedFrame b).bed b = s.bed b ∧
    (s.pausedFrame b).get (pgBed b) .STEP_CNT = s.get (pgBed b) .STEP_CNT := by
  have hskip := (State.Skipped.refl s).skipFrame (b := b)
  obtain ⟨hseq, hothers, hbeds, hregs⟩ := (s.skipFrame b).setSeq_paused b
  refine ⟨hseq, fun x hx => (hothers x hx).trans (hskip.regs _ (by decide) _ _), ?_, ?_⟩
  · rw [State.bed, State.pausedFrame, hbeds, hskip.beds, State.bed]
  · exact (hregs _ _ _ (by decide) (by decide)).trans (hskip.regs _ (by decide) _ _)

theorem execSequencerAckTimeout_pauses {b : Bed} {s : State} (h : s.runsArm b.val = true) : ∃ t : State,
    execSequencerAckTimeout b s = .next t ∧ t.seq b.val = seqPaused ∧ (t.bed b.val).skipping = true ∧ (t.bed b.val).heldUpdates = true ∧
    (t.bed b.val).pend = (s.bed b.val).pend ∧ (t.bed b.val).active = (s.bed b.val).active ∧
    t.get (pgBed b.val) .STEP_CNT = s.get (pgBed b.val) .STEP_CNT ∧ ∀ x < 8, x ≠ b.val → t.seq x = s.seq x := by
  obtain ⟨hseq, hothers, hbed, hstep⟩ := (s.record 0x0410 (pgBed b.val)).pausedFrame_unchanged b.val
  have hrecorded : (s.record 0x0410 (pgBed b.val)).bed b.val = s.bed b.val := by rw [State.bed, State.record_beds, State.bed]
  have hexec : execSequencerAckTimeout b s = .next (((s.record 0x0410 (pgBed b.val)).pausedFrame b.val).setBed b.val
      { ((s.record 0x0410 (pgBed b.val)).pausedFrame b.val).bed b.val with skipping := true, heldUpdates := true, restarted := true }) :=
    if_pos h
  refine ⟨_, hexec, ?_, ?_, ?_, ?_, ?_, ?_, fun x _ hx => ?_⟩
  · rw [State.setBed_seq, hseq]
  · rw [State.setBed_bed]
  · rw [State.setBed_bed]
  · rw [State.setBed_bed, hbed, hrecorded]
  · rw [State.setBed_bed, hbed, hrecorded]
  · rw [State.setBed_get, hstep]
    exact State.record_get _ _ _ _ _ _ rfl fun _ => by decide
  · rw [State.setBed_seq, hothers x hx]
    exact State.record_get _ _ _ _ _ _ rfl fun _ => by decide

theorem execContextStallTimeout_resets {b : Bed} {c : Core} {x : Ctx} {s : State}
    (h : 2 ≤ s.get (pgCore .coreSub3 (coreNo b.val c.val)) .STALL_FRAMES x.val) : ∃ t : State,
    execContextStallTimeout b c x s = .next t ∧ t.get (pgCore .coreSub3 (coreNo b.val c.val)) .CTX_STATE x.val = 3 ∧
    t.get (pgCore .coreSub3 (coreNo b.val c.val)) .STALL_FRAMES x.val = 0 ∧
    t.get (pgCore .coreSub2 (coreNo b.val c.val)) .CTX_RESETS = satAdd 16 (s.get (pgCore .coreSub2 (coreNo b.val c.val)) .CTX_RESETS) 1 ∧
    t.get (pgCore .coreSub0 (coreNo b.val c.val)) .CORE_ABANDONED = 1 ∧ t.cores.skip.contains (coreNo b.val c.val, x.val) = true ∧
    (∀ e < 5, t.FreeOf b.val c.val x.val e) ∧ t.beds = s.beds ∧ t.mem = s.mem := by
  have hskip : s.Skipped (s.ctxStopped b.val c.val x.val) := (State.Skipped.refl s).foldl fun u e hu => u.stopIf_skipped _ _ _ hu e
  obtain ⟨hstate, hstall, hresets, habandoned⟩ := ((s.ctxStopped b.val c.val x.val).ctxSkips b.val c.val x.val).showReset_get b.val c.val x.val
  obtain ⟨hrunning, hskips, hskipsMem, hregs⟩ := (s.ctxStopped b.val c.val x.val).ctxSkips_unchanged b.val c.val x.val
  obtain ⟨hcores, hbeds, hmem⟩ := ((s.ctxStopped b.val c.val x.val).ctxSkips b.val c.val x.val).showReset_unchanged b.val c.val x.val
  rw [execContextStallTimeout, if_pos h, s.ctxReset_eq]
  refine ⟨_, rfl, ?_, ?_, ?_, ?_, ?_, fun e he => ?_, ?_, ?_⟩
  · exact (State.record_get _ _ _ _ _ _ rfl fun _ => by decide).trans hstate
  · exact (State.record_get _ _ _ _ _ _ rfl fun _ => by decide).trans hstall
  · refine (State.record_get _ _ _ _ _ _ rfl fun _ => by decide).trans (hresets.trans ?_)
    rw [hregs, hskip.regs _ (by decide)]
  · exact (State.record_get _ _ _ _ _ _ rfl fun _ => by decide).trans habandoned
  · rw [State.record_cores, hcores]
    exact State.ctxSkips_contains ..
  · rw [State.FreeOf, State.record_cores, hcores, hrunning]
    have hengine : e ∈ [0, 1, 2, 3, 4] := by
      simp only [List.mem_cons, List.not_mem_nil, or_false]
      omega
    exact s.stopIfs_freeOf b.val c.val x.val hengine
  · rw [State.record_beds, hbeds, hskips, hskip.beds]
  · rw [State.record_mem, hmem, hskipsMem, hskip.mem]

/-- Settles O29: the control processor's restarts and the trap are their guards, a reset is the stops of the context's engines (`State.stopIfs_freeOf`) and its registers, and a restarted sequencer has skipped its frame (`State.Skipped.skipFrame`). -/
theorem trapsTimeoutsRestarts : Obligations.TrapsTimeoutsRestarts := by
  refine ⟨⟨fun s hboot hpower hrestarting => ?_, fun s => rfl, fun s hlatch hmany => ?_⟩, fun b s hen hfirst htrapped => ?_,
    fun b c x s h => execContextStallTimeout_resets h, fun b s h => execSequencerAckTimeout_pauses h⟩
  · exact if_neg (by simp [hboot, hpower, hrestarting])
  · exact if_pos (by simp [hlatch, hmany])
  · exact if_pos (by simp [hen, hfirst, htrapped])

end Sys2Proof.Machine
end

section
/-! PROOFS. What a bed's tick leaves (R134, R163): the relation `State.Paced`, under which the time, the queue of commands and the watched counters of the beds stay, and its rules for the operations of a tick: registers, records, memory, cores and beds that stop. -/

namespace Sys2Proof.Machine

/-- The registers of a bed sequencer by which its frames and steps are counted (R134, R155, R156, R167). -/
def pacedFields : List Fld := [.FRAME_NUMBER, .STEP_CNT, .FRAME_IN_STEP, .SEQ_STATE, .OVERRUN_CNT, .REALIGN_CNT]

/-- What is watched over a part of a tick: some of the beds' counters and, where it is to be calm, the votes, the partitions without planned changes and the beds without a pending activation. -/
structure Watch where
  reg : Nat → Fld → Prop
  fields : ∀ b f, reg b f → f ∈ pacedFields
  calm : Prop

/-- Of a bed FRAME_NUMBER alone is watched, if anything. -/
def Watch.free (w : Watch) (b : Nat) : Prop := ∀ f, w.reg b f → f = .FRAME_NUMBER

/-- No bed's SEQ_STATE is watched. -/
def Watch.anySeq (w : Watch) : Prop := ∀ b, ¬ w.reg b .SEQ_STATE

theorem Watch.free.not {w : Watch} {b : Nat} (h : w.free b) {f : Fld} (hf : f ≠ .FRAME_NUMBER) : ¬ w.reg b f :=
  fun hr => hf (h f hr)

/-- The time and the queue of commands stay, and of the rest what is watched. -/
structure State.Paced (w : Watch) (s t : State) : Prop where
  time : t.time = s.time
  pending : t.pending = s.pending
  regs : ∀ b f, w.reg b f → t.get (pgBed b) f = s.get (pgBed b) f
  votes : w.calm → t.red.votes = s.red.votes
  changes : w.calm → ∀ q, (s.part q).changes = [] → (t.part q).changes = []
  pend : w.calm → ∀ b, (s.bed b).pend = none → (t.bed b).pend = none

namespace State.Paced

variable {w : Watch} {s t u : State}

/-! ### Rules (R134) -/

theorem refl (s : State) : Paced w s s := ⟨rfl, rfl, fun _ _ _ => rfl, fun _ => rfl, fun _ _ => id, fun _ _ => id⟩

theorem trans (h : Paced w s t) (k : Paced w t u) : Paced w s u where
  time := k.time.trans h.time
  pending := k.pending.trans h.pending
  regs b f hr := (k.regs b f hr).trans (h.regs b f hr)
  votes hc := (k.votes hc).trans (h.votes hc)
  changes hc q hq := k.changes hc q (h.changes hc q hq)
  pend hc b hb := k.pend hc b (h.pend hc b hb)

theorem ite {c : Prop} {_ : Decidable c} (ht : Paced w s t) (hu : Paced w s u) : Paced w s (if c then t else u) := by
  split
  · exact ht
  · exact hu

theorem foldl {α : Type} {f : State → α → State} {l : List α} (h : Paced w s t) (hf : ∀ u a, Paced w s u → Paced w s (f u a)) :
    Paced w s (l.foldl f t) :=
  List.foldlRecOn l f h fun u hu a _ => hf u a hu

/-- The same of an operation that leaves what is watched for the members of the list. -/
theorem foldlMem {α : Type} {f : State → α → State} {l : List α} (h : Paced w s t)
    (hf : ∀ u, ∀ a ∈ l, Paced w s u → Paced w s (f u a)) : Paced w s (l.foldl f t) :=
  List.foldlRecOn l f h fun u hu a ha => hf u a ha hu

/-- The same of a fold that carries a value beside the state. -/
theorem foldlPair {α γ : Type} {f : State × γ → α → State × γ} {l : List α} {c : γ} (h : Paced w s t)
    (hf : ∀ y a, Paced w s y.1 → Paced w s (f y a).1) : Paced w s (l.foldl f (t, c)).1 :=
  List.foldlRecOn (motive := fun y => Paced w s y.1) l f h fun y hy a _ => hf y a hy

/-- Any state with the queue, the time, the registers, beds, partitions and the reduction of one that leaves what is watched. -/
theorem frame (h : Paced w s t)
    {free out latches coarse staging directory stops halted once pw arms cores mem upd fab noise evr sec host isl tap} :
    Paced w s ⟨t.pending, free, out, t.regs, latches, coarse, staging, directory, stops, halted, once, t.time, pw, t.beds, t.parts, arms, cores,
      mem, upd, fab, t.red, noise, evr, sec, host, isl, tap⟩ := ⟨h.time, h.pending, h.regs, h.votes, h.changes, h.pend⟩

/-! ### Registers and records -/

/-- A write of a register that is not watched. -/
theorem putBed (h : Paced w s t) {b : Nat} {f : Fld} {v i : Nat} (hf : ¬ w.reg b f) : Paced w s (t.put (pgBed b) f v i) where
  time := h.time
  pending := h.pending
  regs x g hr := by
    refine Eq.trans ?_ (h.regs x g hr)
    by_cases hg : g = f
    · subst hg
      exact State.get_put_page _ _ _ _ _ _ fun he => hf ((show x = b from congrArg Page.inst he) ▸ hr)
    · exact State.get_put_fld _ _ _ _ _ _ hg
  votes := h.votes
  changes := h.changes
  pend := h.pend

theorem put (h : Paced w s t) {p : Page} {f : Fld} {v i : Nat} (hf : f ∉ pacedFields) : Paced w s (t.put p f v i) where
  time := h.time
  pending := h.pending
  regs x g hr := (State.get_put_fld _ _ _ _ _ _ fun (he : g = f) => hf (he ▸ w.fields x g hr)).trans (h.regs x g hr)
  votes := h.votes
  changes := h.changes
  pend := h.pend

theorem bumpBed (h : Paced w s t) {b : Nat} {f : Fld} {n i : Nat} (hf : ¬ w.reg b f) : Paced w s (t.bump (pgBed b) f n i) := h.putBed hf

theorem bump (h : Paced w s t) {p : Page} {f : Fld} {n i : Nat} (hf : f ∉ pacedFields) : Paced w s (t.bump p f n i) := h.put hf

/-- Registers that are not watched put back at their reset values. -/
theorem delRegs (h : Paced w s t) {f : FieldKey → Bool} (hf : ∀ b g, w.reg b g → f ⟨pgBed b, g, 0⟩ = false) :
    Paced w s { t with regs := t.regs.delIf f } where
  time := h.time
  pending := h.pending
  regs x g hr := by
    refine Eq.trans ?_ (h.regs x g hr)
    simp only [State.get, Tab.get, Tab.find?_delIf, hf x g hr]
    rfl
  votes := h.votes
  changes := h.changes
  pend := h.pend

theorem resetFields (h : Paced w s t) {p : Page} {fs : List Fld} (hf : ∀ f ∈ fs, f ∉ pacedFields) :
    Paced w s (t.resetFields p fs) := by
  refine h.delRegs fun b g hr => ?_
  have hg : g ∉ fs := fun hm => hf g hm (w.fields b g hr)
  simp [hg]

theorem recordAt (h : Paced w s t) {code : Nat} {p : Page} {payload : List Byte} {frame : Nat} :
    Paced w s (t.recordAt code p payload frame) where
  time := (State.recordAt_time ..).trans h.time
  pending := (State.recordAt_pending ..).trans h.pending
  regs b f hr := by
    have hrec : ∀ f ∈ pacedFields, recordField f = false := by decide
    have hevt : ∀ f ∈ pacedFields, f ≠ .EVT := by decide
    exact (State.recordAt_get _ _ _ _ _ _ _ (hrec f (w.fields b f hr)) fun _ => hevt f (w.fields b f hr)).trans (h.regs b f hr)
  votes hc := (congrArg RedSt.votes (State.recordAt_red ..)).trans (h.votes hc)
  changes hc q hq := (congrArg (fun l => (Tab.get l q PartSt.reset).changes) (State.recordAt_parts ..)).trans (h.changes hc q hq)
  pend hc b hb := (congrArg (fun l => (Tab.get l b BedSt.reset).pend) (State.recordAt_beds ..)).trans (h.pend hc b hb)

theorem record (h : Paced w s t) {code : Nat} {p : Page} {payload : List Byte} : Paced w s (t.record code p payload) := h.recordAt

theorem evt (h : Paced w s t) {p : Page} {bit : Nat} : Paced w s (t.evt p bit) := h.put (by decide)

theorem raise (h : Paced w s t) {p : Page} {bit : Nat} {payload : List Byte} : Paced w s (t.raise p bit payload) := h.evt.record

theorem common (h : Paced w s t) {p : Page} {loc : Nat} {payload : List Byte} : Paced w s (t.common p loc payload) := h.record

/-! ### Beds and partitions -/

/-- A bed changed that has no pending activation but one that it had. -/
theorem setBed (h : Paced w s t) {b : Nat} {x : BedSt} (hx : (t.bed b).pend = none → x.pend = none) : Paced w s (t.setBed b x) where
  time := h.time
  pending := h.pending
  regs := h.regs
  votes := h.votes
  changes := h.changes
  pend hc a ha := by
    by_cases hab : a = b
    · subst hab
      rw [State.setBed_bed]
      exact hx (h.pend hc a ha)
    · rw [State.setBed_bed_ne _ _ hab]
      exact h.pend hc a ha

/-- A partition changed that has no planned change where it had none. -/
theorem setPart (h : Paced w s t) {p : Nat} {x : PartSt} (hx : (t.part p).changes = [] → x.changes = []) :
    Paced w s (t.setPart p x) where
  time := h.time
  pending := h.pending
  regs := h.regs
  votes := h.votes
  changes hc q hq := by
    by_cases hqp : q = p
    · subst hqp
      rw [State.setPart_part]
      exact hx (h.changes hc q hq)
    · rw [State.setPart_part_ne _ _ hqp]
      exact h.changes hc q hq
  pend := h.pend

theorem setSession (h : Paced w s t) {p : Nat} {x : Session} : Paced w s (t.setSession p x) := h.frame

/-! ### Staging (R33) -/

theorem applyOne (h : Paced w s t) {k : FieldKey} {v : Nat} (hk : k.fld ∉ pacedFields) : Paced w s (t.applyOne k v) := by
  unfold State.applyOne
  dsimp only
  split
  · exact .ite (h.put hk).common (h.put hk)
  · exact h.put hk
  · exact .ite (h.put hk) h.common
  · exact h.put hk

/-- A set of values of frame-committed fields; none of these is watched (R33). -/
theorem applySet (h : Paced w s t) {p : Page} {set : List (FieldKey × Nat)} (hset : ∀ e ∈ set, (fieldInfo e.1.fld).kind = .frame) :
    Paced w s (t.applySet p set) := by
  have hpaced : ∀ f ∈ pacedFields, (fieldInfo f).kind ≠ .frame := by decide
  exact ((h.foldlMem fun _ e he h => h.applyOne fun hf => hpaced _ hf (hset e he)).put (by decide)).put (by decide)

theorem setStaging (h : Paced w s t) {p : Page} {x : Staging} : Paced w s (t.setStaging p x) := h.frame

/-- A page's tick where its staged values are of frame-committed fields (R32, R33). -/
theorem tickPage (h : Paced w s t) {p : Page} (hp : stagedLegal p (t.stagingOf p)) : Paced w s (t.tickPage p) := by
  unfold State.tickPage
  dsimp only
  split
  next => exact h
  next set l hw =>
    refine h.setStaging.applySet fun e he => (hp e (List.mem_append_right _ (List.mem_flatMap.mpr ⟨(set, 0), ?_, he⟩))).2
    rw [hw]
    exact List.mem_cons_self
  next => exact h.setStaging

theorem dueSets (h : Paced w s t) {b : Nat} : Paced w s (t.dueSets b) := h.frame

theorem halt (h : Paced w s t) {p : Page} : Paced w s (t.halt p) := h.frame.put (by decide)

theorem endStops (h : Paced w s t) {b : Nat} : Paced w s (t.endStops b) := h.foldl (fun _ _ h => h.halt)

theorem draw (h : Paced w s t) : Paced w s t.draw.2 := h.frame

/-! ### Memory (R170 to R187) -/

theorem countFault (h : Paced w s t) {a : Nat} : Paced w s (t.countFault a) := ((h.bump (by decide)).put (by decide)).raise

theorem setMem (h : Paced w s t) {m : MemSt} : Paced w s (t.setMem m) := h.frame

theorem overdraw (h : Paced w s t) {b key : Nat} {fld : Fld} {idx n bit : Nat} (hf : fld ∉ pacedFields) :
    Paced w s (t.overdraw b key fld idx n bit) :=
  .ite (h.setMem.bump hf).raise h.setMem

theorem moved (h : Paced w s t) {b cls bed : Nat} : Paced w s (t.moved b cls bed) :=
  .ite ((Paced.ite (h.setMem.overdraw (by decide)) h.setMem).overdraw (by decide)) (.ite (h.setMem.overdraw (by decide)) h.setMem)

theorem serveOver (h : Paced w s t) {b cls bed : Nat} : Paced w s (t.serveOver b cls bed) := h.moved.setMem

theorem delayOver (h : Paced w s t) {b cls bed : Nat} : Paced w s (t.delayOver b cls bed) := h.setMem

theorem meter (h : Paced w s t) {b cls bed : Nat} : Paced w s (t.meter b cls bed) :=
  .ite h (.ite h.moved (.ite h.delayOver (.ite h.serveOver (.ite h.frame.delayOver h.frame.serveOver))))

theorem meterN (h : Paced w s t) {b cls bed n : Nat} : Paced w s (t.meterN b cls bed n) := by
  induction n generalizing t with
  | zero => exact h
  | succ n ih => exact ih h.meter

theorem clipWaiting (h : Paced w s t) {b : Nat} : Paced w s (t.clipWaiting b) := h.setMem.foldl (fun _ _ h => (h.overdraw (by decide)).meterN)

theorem corrected (h : Paced w s t) {mc : Nat} : Paced w s (t.corrected mc) := (h.bump (by decide)).raise

theorem uncorrectable (h : Paced w s t) {a : Nat} : Paced w s (t.uncorrectable a) := ((h.setMem.bump (by decide)).put (by decide)).raise

theorem stackRead (h : Paced w s t) {a : Nat} {err : LineErr} : Paced w s (t.stackRead a err).1 := by
  unfold State.stackRead
  extract_lets l
  split
  · exact h
  · cases err with
    | corrected => exact h.corrected
    | uncorrectable => exact h.uncorrectable
    | none => exact h
    | sram => exact h

theorem stackWrite (h : Paced w s t) {a : Nat} {data : List Byte} {poison rel : Bool} : Paced w s (t.stackWrite a data poison rel) :=
  .ite h h.setMem

theorem setCache (h : Paced w s t) {l : Nat} {c : CacheLine} : Paced w s (t.setCache l c) := h.setMem

theorem freeCache (h : Paced w s t) {l : Nat} : Paced w s (t.freeCache l) := h.setMem

theorem dalFree (h : Paced w s t) {l : Nat} : Paced w s (t.dalFree l) := h.freeCache.setMem.bump (by decide)

theorem releaseLine (h : Paced w s t) {l : Nat} : Paced w s (t.releaseLine l) := by
  unfold State.releaseLine
  split
  · exact h
  · exact .ite h.freeCache.stackWrite h.freeCache

theorem staleLine (h : Paced w s t) {l : Nat} {c : CacheLine} : Paced w s (t.staleLine l c) := .ite h.releaseLine.meter h.releaseLine

theorem refused (h : Paced w s t) {b : Nat} : Paced w s (t.refused b) := (h.bump (by decide)).raise

theorem useLine (h : Paced w s t) {l : Nat} {c : CacheLine} : Paced w s (t.useLine l c) := by
  unfold State.useLine
  split
  · exact h
  · exact .ite h.dalFree h.setCache

theorem serveHit (h : Paced w s t) {r : MemReq} {err : LineErr} {c : CacheLine} : Paced w s (t.serveHit r err c).1 := by
  unfold State.serveHit
  split
  · exact .ite h.raise.uncorrectable.setCache h.raise.uncorrectable.setCache.useLine
  · exact .ite h h.useLine

theorem serveMiss (h : Paced w s t) {r : MemReq} {d : List Byte} {p : Bool} : Paced w s (t.serveMiss r d p) :=
  .ite h (.ite h.refused (.ite h.setCache (.ite h.dalFree h.setCache)))

theorem serveRead (h : Paced w s t) {r : MemReq} {err : LineErr} : Paced w s (t.serveRead r err).1 := by
  unfold State.serveRead
  split
  · exact (h.bump (by decide)).serveHit
  · exact (h.bump (by decide)).meter.stackRead.serveMiss

theorem denyRead (h : Paced w s t) {a : Nat} {first : Bool} : Paced w s (t.denyRead a first) :=
  .ite ((h.bump (by decide)).put (by decide)).setMem.raise ((h.bump (by decide)).put (by decide)).evt

theorem readLine (h : Paced w s t) {r : MemReq} {err : LineErr} {first : Bool} : Paced w s (t.readLine r err first).1 := by
  unfold State.readLine
  split
  · exact h.countFault
  · split
    · exact h.denyRead
    · exact h.serveRead

theorem readSpan (h : Paced w s t) {r : MemReq} {n : Nat} : Paced w s (t.readSpan r n).1 := h.foldlPair (fun _ _ h => h.readLine)

theorem copyLists (h : Paced w s t) {b slot : Nat} : Paced w s (t.copyLists b slot) := h.readSpan

/-! ### Cores (R113 to R124) -/

theorem localPut (h : Paced w s t) {c a : Nat} {bs : List Byte} : Paced w s (t.localPut c a bs) := h.frame

theorem setCores (h : Paced w s t) {c : CoreSt} : Paced w s (t.setCores c) := h.frame

theorem setSlot (h : Paced w s t) {c k : Nat} {m : SlotMeta} : Paced w s (t.setSlot c k m) := h.setCores

theorem abandon (h : Paced w s t) {c k n : Nat} : Paced w s (t.abandon c k n) := h.foldl (fun _ _ h => h.setSlot)

theorem compUp (h : Paced w s t) {c x : Nat} : Paced w s (t.compUp c x) := h.setCores

theorem taint (h : Paced w s t) {c x : Nat} : Paced w s (t.taint c x) := .ite h h.setCores

theorem setCursor (h : Paced w s t) {c e k : Nat} : Paced w s (t.setCursor c e k) := h.setCores

theorem onCores (h : Paced w s t) {b : Nat} {g : State → Nat → State}
    (hg : ∀ u a1, Paced w s u → Paced w s (g u a1)) :
    Paced w s (t.onCores b g) :=
  .ite h (h.foldl (fun _ _ h => hg _ _ h))

theorem release (h : Paced w s t) {c : Nat} {r : Released} : Paced w s (t.release c r) := h.setCores

theorem poisonNorms (h : Paced w s t) {n : Nat} {m : MatBlk} : Paced w s (t.poisonNorms n m) := h.foldl (fun _ _ h => h.localPut)

theorem skipMatrix (h : Paced w s t) {b c : Nat} {arm : Option Nat} {m : MatBlk} : Paced w s (t.skipMatrix b c arm m) :=
  .ite (.ite h.abandon.poisonNorms h.abandon) (.ite h.abandon.release h.abandon)

theorem skipEntry (h : Paced w s t) {b c e : Nat} {i : Issue} :
    Paced w s (t.skipEntry b c e i) :=
  .ite (.ite (h.bump (by decide)).skipMatrix (h.bump (by decide))) h

theorem skipEngine (h : Paced w s t) {b c e : Nat} : Paced w s (t.skipEngine b c e) := (h.foldl (fun _ _ h => h.skipEntry)).setCursor

theorem skipXfer (h : Paced w s t) {b c x : Nat} : Paced w s (t.skipXfer b c x) := (h.bump (by decide)).compUp.taint

theorem skipXfers (h : Paced w s t) {b c x : Nat} : Paced w s (t.skipXfers b c x) := (h.foldl (fun _ _ h => h.skipXfer)).setCores

theorem skipFrame (h : Paced w s t) {b : Nat} : Paced w s (t.skipFrame b) :=
  h.onCores (fun _ _ h => (h.foldl (fun _ _ h => h.skipEngine)).foldl (fun _ _ h => h.skipXfers))

theorem stopEngine (h : Paced w s t) {b c e : Nat} : Paced w s (t.stopEngine b c e) := by
  unfold State.stopEngine
  split
  · exact h
  · exact .ite ((h.setCores.bump (by decide)).put (by decide)).skipMatrix ((h.setCores.bump (by decide)).put (by decide))

theorem stopXfer (h : Paced w s t) {b c x : Nat} : Paced w s (t.stopXfer b c x) := .ite h.setCores.skipXfer h

theorem stopRunning (h : Paced w s t) {b : Nat} : Paced w s (t.stopRunning b) :=
  h.onCores (fun _ _ h => (h.foldl (fun _ _ h => h.stopEngine)).foldl (fun _ _ h => h.stopXfer))

theorem openFrame (h : Paced w s t) {b : Nat} : Paced w s (t.openFrame b) := (h.setBed (by exact id)).setCores

theorem openStep (h : Paced w s t) {b : Nat} : Paced w s (t.openStep b) := (h.foldl (fun _ _ h => .ite (h.put (by decide)) h)).setCores

theorem ctxReset (h : Paced w s t) {b c x code : Nat} : Paced w s (t.ctxReset b c x code) := by
  have hstopped : Paced w s (t.ctxStopped b c x) := h.foldl fun u e hu => by
    unfold State.stopIf
    split
    · exact .ite hu.stopEngine hu
    · exact hu
  have hskips : Paced w s ((t.ctxStopped b c x).ctxSkips b c x) := hstopped.setCores
  have hshown : Paced w s (((t.ctxStopped b c x).ctxSkips b c x).showReset b c x) :=
    (((hskips.put (by decide)).put (by decide)).bump (by decide)).put (by decide)
  rw [State.ctxReset_eq]
  exact hshown.record

/-! ### Beds that stop, groups that are left, power (R153, R304, R305) -/

theorem setSeq (h : Paced w s t) {b st : Nat} (hb : ¬ w.reg b .SEQ_STATE) :
    Paced w s (t.setSeq b st) :=
  .ite ((h.dueSets.endStops.putBed hb).put (by decide)) ((h.putBed hb).put (by decide))

theorem showArm (h : Paced w s t) {b : Nat} : Paced w s (t.showArm b) := h.put (by decide)

theorem clearOrigin (h : Paced w s t) {b : Nat} : Paced w s (t.clearOrigin b) := ((h.setBed (by exact id)).put (by decide)).put (by decide)

theorem dropPending (h : Paced w s t) {b : Nat} : Paced w s (t.dropPending b) := by
  unfold State.dropPending
  split
  · exact h
  · exact .ite ((h.setBed fun _ => rfl).put (by decide)).clearOrigin ((h.setBed fun _ => rfl).put (by decide))

theorem cancelArmed (h : Paced w s t) {b st cause : Nat} (hb : ¬ w.reg b .SEQ_STATE) :
    Paced w s (t.cancelArmed b st cause) :=
  (h.dropPending.setSeq hb).record

theorem askUnits (h : Paced w s t) {b : Nat} : Paced w s (t.askUnits b) := h.frame

theorem holdBed (h : Paced w s t) {b cause : Nat} (hb : ¬ w.reg b .SEQ_STATE) : Paced w s (t.holdBed b cause) :=
  .ite (h.cancelArmed hb) (.ite ((h.stopRunning.skipFrame.askUnits.dropPending.setSeq hb).setBed (by exact id)) h)

theorem holdBeds (h : Paced w s t) {l : List Nat} {cause : Nat} (hw : w.anySeq) : Paced w s (t.holdBeds l cause) :=
  h.foldl (fun _ _ h => h.holdBed (hw _))

theorem idleBed (h : Paced w s t) {b : Nat} (hb : ¬ w.reg b .SEQ_STATE) : Paced w s (t.idleBed b) :=
  ((h.stopRunning.skipFrame.askUnits.dropPending.setSeq hb).setBed (by exact id)).showArm

theorem leaveGroup (h : Paced w s t) {p : Nat} : Paced w s (t.leaveGroup p) := .ite (h.setPart (by exact id)).frame h

theorem leaveAll (h : Paced w s t) : Paced w s t.leaveAll := h.foldl (fun _ _ h => h.leaveGroup)

theorem setDomains (h : Paced w s t) {d : Nat × Nat × Nat} : Paced w s (t.setDomains d) := ((h.put (by decide)).put (by decide)).put (by decide)

theorem setPower (h : Paced w s t) {p : PowerState} : Paced w s (t.setPower p) := (h.frame.put (by decide)).setDomains

theorem beginTransition (h : Paced w s t) {p : PowerState} {cause : Nat} : Paced w s (t.beginTransition p cause) := h.frame.put (by decide)

theorem enterHold (h : Paced w s t) {cause : Nat} (hw : w.anySeq) : Paced w s (t.enterHold cause) :=
  .ite h (.ite (.ite h (h.holdBeds hw).leaveAll.beginTransition) (.ite h.frame h))

theorem nextEntry (h : Paced w s t) {b c e : Nat} {l : List Issue} {k : Nat} : Paced w s (State.nextEntry b c e l k t).1 := by
  induction l generalizing k t with
  | nil => exact h.setCursor
  | cons i l ih =>
    unfold State.nextEntry
    split
    · exact ih h
    · split
      · exact ih h.skipEntry
      · exact h.setCursor

theorem raiseFlags (h : Paced w s t) {n : Nat} {fl : Flags} : Paced w s (t.raiseFlags n fl) := .ite h (h.put (by decide))

end State.Paced

end Sys2Proof.Machine
end

section
/-! PROOFS. What a bed's tick leaves (`State.Paced`): the clock, the fabric, the keys and the votes. -/

namespace Sys2Proof.Machine

namespace State.Paced

variable {w : Watch} {s t : State}

/-! ### The clock (R310 to R316) -/

theorem showSteps (h : Paced w s t) : Paced w s t.showSteps := ((h.put (by decide)).put (by decide)).put (by decide)

theorem setStack (h : Paced w s t) {l : List Nat} : Paced w s (t.setStack l) := h.frame.showSteps

theorem takePlan (h : Paced w s t) : Paced w s t.takePlan := by
  unfold State.takePlan
  refine .ite (((Paced.ite (h.put (by decide)).raise h).frame.put (by decide)).foldl (fun _ _ h => h.record)) ?_
  exact (Paced.ite (h.put (by decide)).raise h).frame.put (by decide)

theorem takeCap (h : Paced w s t) : Paced w s t.takeCap := by
  unfold State.takeCap
  refine .ite h ?_
  split
  · exact h.setStack.raise
  · exact h.raise

theorem setClock (h : Paced w s t) : Paced w s t.setClock := ((Paced.ite h.setPower h).frame.put (by decide)).put (by decide)

theorem applyClock (h : Paced w s t) : Paced w s t.applyClock := by
  unfold State.applyClock
  extract_lets b _ _ boosted
  have hboosted : Paced w s boosted := h.takePlan.frame
  exact hboosted.takeCap.setClock.frame.put (by decide)

theorem openStretch (h : Paced w s t) {forced : Bool} : Paced w s (t.openStretch forced) := h.frame

theorem sampleWatts (h : Paced w s t) : Paced w s t.sampleWatts := h.draw.put (by decide)

theorem raiseTrim (h : Paced w s t) : Paced w s t.raiseTrim := .ite (h.put (by decide)).frame.raise (h.put (by decide)).frame

theorem trimTick (h : Paced w s t) : Paced w s t.trimTick := .ite h.raiseTrim h

theorem clockTick (h : Paced w s t) : Paced w s t.clockTick := by
  unfold State.clockTick
  refine .ite (h.put (by decide)).openStretch ?_
  exact .ite h.applyClock.openStretch (.ite ((h.applyClock.bump (by decide)).raise.bump (by decide)).openStretch
    (h.bump (by decide)).raise.openStretch)

/-! ### The fabric (R226, R231, R234) -/

theorem seqFromTime (h : Paced w s t) : Paced w s t.seqFromTime := h.frame

theorem setAligned (h : Paced w s t) {on : Bool} : Paced w s (t.setAligned on) := .ite (h.put (by decide)).seqFromTime (h.put (by decide))

theorem setFab (h : Paced w s t) {f : FabricSt} : Paced w s (t.setFab f) := h.frame

theorem queueOn (h : Paced w s t) {p : Nat} {k : Packet} : Paced w s (t.queueOn p k) := h.setFab

theorem send (h : Paced w s t) {q dest cls ty : Nat} {tf payload : List Byte} {poison : Bool} :
    Paced w s (t.send q dest cls ty tf payload poison) :=
  h.setFab.foldl (fun _ _ h => h.queueOn)

theorem applyTopo (h : Paced w s t) : Paced w s t.applyTopo := by
  unfold State.applyTopo
  split
  · exact h
  · exact (h.setFab.foldl (fun _ _ h => ((h.put (by decide)).put (by decide)).raise)).foldl (fun _ _ h => .ite h h.raise)

/-! ### Buckets and noise (R249, R258, R270) -/

/-- The reduction changed but for its votes. -/
theorem setRed (h : Paced w s t) {r : RedSt} (hr : r.votes = t.red.votes) : Paced w s (t.setRed r) :=
  ⟨h.time, h.pending, h.regs, fun hc => hr.trans (h.votes hc), h.changes, h.pend⟩

/-- The reduction changed where the votes are not watched. -/
theorem anyRed (h : Paced w s t) {r : RedSt} (hc : ¬ w.calm) : Paced w s (t.setRed r) :=
  ⟨h.time, h.pending, h.regs, fun k => absurd k hc, h.changes, h.pend⟩

theorem openBuckets (h : Paced w s t) {q step frame epoch : Nat} {anew grafted : Bool} :
    Paced w s (t.openBuckets q step frame epoch anew grafted) :=
  .ite h (h.setRed (by rfl))

theorem setNoise (h : Paced w s t) {q : Nat} {n : Noise} : Paced w s (t.setNoise q n) := h.frame

theorem onStep (h : Paced w s t) {q step : Nat} {g : OpenStep → OpenStep} : Paced w s (t.onStep q step g) := by
  unfold State.onStep
  split
  · exact h.setRed (by rfl)
  · exact h

theorem setNextExps (h : Paced w s t) {q bucket step : Nat} {ok : Bool} : Paced w s (t.setNextExps q bucket step ok) := by
  unfold State.setNextExps
  split
  · exact h
  · exact h.foldl (fun _ _ h => h.setRed (by rfl))

theorem settle (h : Paced w s t) {q bucket step : Nat} {ok : Bool} : Paced w s (t.settle q bucket step ok) := by
  unfold State.settle
  refine .ite h ?_
  extract_lets pg next _ settled counted
  have hnext : Paced w s next := h.setNextExps
  have hsettled : Paced w s settled := hnext.setRed (by rfl)
  have hcounted : Paced w s counted := .ite hsettled (hsettled.bump (by decide)).evt.record
  split
  · exact .ite (hcounted.put (by decide)).onStep hcounted
  · exact hcounted

/-! ### Keys (R291) -/

theorem drawBytes (h : Paced w s t) {n : Nat} : Paced w s (t.drawBytes n).2 := h.frame

theorem seqNow (h : Paced w s t) {p : Nat} : Paced w s (t.seqNow p) := h.setFab

theorem sendKa (h : Paced w s t) {p dest code : Nat} {body : List Byte} : Paced w s (t.sendKa p dest code body) := h.send

theorem installLink (h : Paced w s t) {p : Nat} {gk : List Byte} : Paced w s (t.installLink p gk) := by
  unfold State.installLink
  split
  · exact h
  · exact .ite h (h.setSession.seqNow.put (by decide))

theorem encPorts (h : Paced w s t) {p : Nat} : Paced w s (t.encPorts p) := h.foldl (fun _ _ h => h.put (by decide))

theorem kaFail (h : Paced w s t) {p peer : Nat} : Paced w s (t.kaFail p peer) := h.raise.sendKa

theorem sendSigned (h : Paced w s t) {p src : Nat} : Paced w s (t.sendSigned p src) := by
  unfold State.sendSigned
  split
  · exact h
  · exact h.sendKa

theorem notePeer (h : Paced w s t) {p src : Nat} {key : List Byte} : Paced w s (t.notePeer p src key) := h.frame.setSession

theorem takeEarly (h : Paced w s t) {p : Nat} : Paced w s (t.takeEarly p) := h.frame.foldl (fun _ _ h => .ite h.notePeer h.kaFail)

theorem startKeying (h : Paced w s t) {p : Nat} : Paced w s (t.startKeying p) := by
  unfold State.startKeying
  refine .ite ?_ h.frame.setSession.sendKa
  refine .ite (h.takeEarly.drawBytes.installLink.foldl (fun _ _ h => h.sendSigned)).encPorts ?_
  exact h.takeEarly.drawBytes.installLink.foldl (fun _ _ h => h.sendSigned)

theorem tryKey (h : Paced w s t) {p : Nat} : Paced w s (t.tryKey p) := by
  unfold State.tryKey
  refine .ite h ?_
  split
  · exact .ite h.startKeying h.installLink.encPorts
  · exact h

theorem setTimeRef (h : Paced w s t) {q : Nat} : Paced w s (t.setTimeRef q) :=
  .ite h (.ite ((h.put (by decide)).put (by decide)).setAligned ((h.put (by decide)).put (by decide)))

theorem askTime (h : Paced w s t) {q : Nat} : Paced w s (t.askTime q) := by
  unfold State.askTime
  refine .ite h.setTimeRef.tryKey ?_
  split
  · exact h.setTimeRef.tryKey.queueOn
  · exact h.setTimeRef.tryKey

/-! ### Votes (R261) -/

theorem sendVote (h : Paced w s t) {k : VoteKey} {v : Vote} {ty dest : Nat} {x : VoteSum} :
    Paced w s (t.sendVote k v ty dest x) :=
  h.send

theorem setVote (h : Paced w s t) {k : VoteKey} {v : Vote} (hc : ¬ w.calm) : Paced w s (t.setVote k v) := h.anyRed hc

theorem openVote (h : Paced w s t) {b : Ballot} {piece : Nat} {elems : List Int} (hc : ¬ w.calm) : Paced w s (t.openVote b piece elems) := by
  unfold State.openVote
  dsimp only
  split
  · exact h
  · exact .ite (h.setVote hc) (.ite (h.setVote hc).sendVote (.ite ((h.setVote hc).foldl (fun _ _ h => h.sendVote)) (h.setVote hc)))

theorem openParts (h : Paced w s t) {b : Ballot} {elems : List Int} (hc : ¬ w.calm) :
    Paced w s (t.openParts b elems) :=
  h.foldl (fun _ _ h => h.openVote hc)

theorem openRunVotes (h : Paced w s t) {q v : Nat} (hc : ¬ w.calm) : Paced w s (t.openRunVotes q v) := by
  unfold State.openRunVotes
  refine .ite h ?_
  extract_lets ms ar step fr lossVotes done trips units
  have hloss : Paced w s lossVotes := .ite (h.openParts hc) h
  have htrips : Paced w s trips := .ite (hloss.openParts hc) hloss
  exact .ite (htrips.openParts hc) htrips

theorem openCloseVotes (h : Paced w s t) {q v : Nat} (hc : ¬ w.calm) : Paced w s (t.openCloseVotes q v) := h.foldl (fun _ _ h => h.openParts hc)

theorem openActivationVote (h : Paced w s t) {q v : Nat} (hc : ¬ w.calm) : Paced w s (t.openActivationVote q v) := by
  unfold State.openActivationVote
  split
  · exact h
  · exact .ite h (h.openParts hc)

theorem openGraftVote (h : Paced w s t) {q v : Nat} (hc : ¬ w.calm) : Paced w s (t.openGraftVote q v) := h.foldl (fun _ _ h => h.openParts hc)

theorem openVotes (h : Paced w s t) {q v : Nat} (hc : ¬ w.calm) : Paced w s (t.openVotes q v) :=
  .ite (h.anyRed hc) (((((h.anyRed hc).openRunVotes hc).openCloseVotes hc).openActivationVote hc).openGraftVote hc)

theorem voteFail (h : Paced w s t) {q : Nat} (hw : w.anySeq) : Paced w s (t.voteFail q) :=
  (h.bump (by decide)).evt.record.leaveGroup.frame.enterHold hw

/-- A partition changed where its planned changes are not watched. -/
theorem anyPart (h : Paced w s t) {p : Nat} {x : PartSt} (hc : ¬ w.calm) : Paced w s (t.setPart p x) :=
  ⟨h.time, h.pending, h.regs, h.votes, fun k => absurd k hc, h.pend⟩

theorem actPrecision (h : Paced w s t) {q step : Nat} {l : List Int} : Paced w s (t.actPrecision q step l) := h.setPart (by exact id)

theorem actLoss (h : Paced w s t) {q v : Nat} {l : List Int} (hc : ¬ w.calm) (hw : w.anySeq) : Paced w s (t.actLoss q v l) :=
  .ite h (.ite (((h.anyPart hc).setRed (by rfl)).record.leaveGroup.enterHold hw) ((h.anyPart hc).setRed (by rfl)))

theorem refuseSwitch (h : Paced w s t) {b : Nat} (hb : ¬ w.reg b .SEQ_STATE) : Paced w s (t.refuseSwitch b) := by
  unfold State.refuseSwitch
  split
  · exact h
  · exact (Paced.ite h.dropPending (h.dropPending.setSeq hb)).evt

theorem actActivation (h : Paced w s t) {q : Nat} {c : VoteSum} (hw : w.anySeq) : Paced w s (t.actActivation q c) := by
  unfold State.actActivation
  split
  · exact h
  · extract_lets id same beds
    refine .ite (h.foldl fun u b hu => ?_) (h.foldl fun _ _ h => h.refuseSwitch (hw _)).record
    split
    next hpend => exact hu.setBed fun hnone => nomatch hpend.symm.trans hnone
    next => exact hu

theorem releaseGrads (h : Paced w s t) {q step : Nat} : Paced w s (t.releaseGrads q step) := by
  unfold State.releaseGrads
  extract_lets f
  exact h.foldl (fun _ _ h => h.foldl (fun _ _ h => by split; exacts [.ite h.releaseLine h, h]))

theorem actCommit (h : Paced w s t) {q step : Nat} {sum : Int} : Paced w s (t.actCommit q step sum) :=
  .ite ((h.foldl (fun _ _ h => h.releaseGrads)).setPart (by exact id)) (h.setPart (by exact id))

theorem actGraft (h : Paced w s t) {q v step count : Nat} (hc : ¬ w.calm) : Paced w s (t.actGraft q v step count) := by
  unfold State.actGraft
  split
  · exact h
  · exact .ite (h.anyPart hc) (h.anyPart hc).raise

theorem actClose (h : Paced w s t) {q : Nat} {l : List (Nat × Nat)} {c : VoteSum} : Paced w s (t.actClose q l c) :=
  h.foldl (fun _ _ h => h.settle)

theorem actVote (h : Paced w s t) {q code v step : Nat} {about : List (Nat × Nat)} {c : VoteSum} (hc : ¬ w.calm) (hw : w.anySeq) :
    Paced w s (t.actVote q code v step about c) := by
  unfold State.actVote
  refine .ite h.actPrecision ?_
  exact .ite (h.actLoss hc hw) (.ite (h.actActivation hw) (.ite h.actCommit (.ite (h.actGraft hc) h.actClose)))

theorem noCert (h : Paced w s t) {q code v step : Nat} (hc : ¬ w.calm) (hw : w.anySeq) : Paced w s (t.noCert q code v step) :=
  .ite (h.voteFail hw) (.ite (h.actGraft hc) h)

theorem closeVote (h : Paced w s t) {q code frame step : Nat} (hc : ¬ w.calm) (hw : w.anySeq) : Paced w s (t.closeVote q code frame step) := by
  unfold State.closeVote
  have hacted : Paced w s ((t.voteParts q code frame step).foldl
      (fun s e => s.setVote e.1 { e.2 with acted := true, cert := certOf e.2 }) t) := h.foldl fun _ _ h => h.setVote hc
  dsimp only
  split
  · exact hacted
  · exact .ite hacted (.ite ((Paced.ite (hacted.bump (by decide)) hacted).actVote hc hw) (hacted.noCert hc hw))

theorem actVotes (h : Paced w s t) {q n : Nat} (hc : ¬ w.calm) (hw : w.anySeq) : Paced w s (t.actVotes q n) :=
  h.foldl fun _ _ h => h.foldl fun _ _ h => h.closeVote hc hw

end State.Paced

end Sys2Proof.Machine
end

section
/-! PROOFS. What a bed's tick leaves (`State.Paced`): watches, layers, switches and the parts of a tick. -/

namespace Sys2Proof.Machine

/-- A realignment once it is counted (R156): contexts with a running block reset, every other block stopped, the bed RUNNING. -/
def State.realigned (s : State) (b : Nat) : State :=
  let s := if (s.bed b).restarted then s.evt (pgBed b) 1 else s.raise (pgBed b) 1
  let s := s.onCores b fun s c => (List.range 8).foldl (fun s x =>
    if s.cores.running.any fun e => e.1.1 == coreNo b c && e.2.ctx == x then s.ctxReset b c x 0x0542 else s) s
  let s := (s.stopRunning b).setSeq b seqRunning
  s.setBed b { s.bed b with skipping := false, heldUpdates := false, restarted := false }

theorem State.realign_eq (s : State) (b : Nat) : s.realign b = (s.bump (pgBed b) .REALIGN_CNT).realigned b := rfl

/-- An overrun once it is counted (R155): what has not begun skipped, the bed PAUSED. -/
def State.overran (s : State) (b : Nat) : State :=
  let s := ((s.raise (pgBed b) 0).skipFrame b).setSeq b seqPaused
  s.setBed b { s.bed b with skipping := true, heldUpdates := true }

theorem State.overrun_eq (s : State) (b : Nat) : s.overrun b = (s.bump (pgBed b) .OVERRUN_CNT).overran b := rfl

namespace State.Paced

variable {w : Watch} {s t : State}

/-! ### Watches and layers (R97 to R107) -/

theorem closeWatch (h : Paced w s t) {b : Nat} : Paced w s (t.closeWatch b) := h.setCores

theorem normFlags (h : Paced w s t) {b : Nat} : Paced w s (t.normFlags b) := h.foldl (fun _ _ h => h.raiseFlags)

theorem watchSnap (h : Paced w s t) {b step : Nat} : Paced w s (t.watchSnap b step) := by
  have hwatch : ∀ e ∈ (List.range 6).zip watchFields, e.2 ∉ pacedFields := by decide
  exact (((h.closeWatch.normFlags.resetFields (by decide)).foldl fun _ _ h => h.foldlMem fun _ e he h =>
    h.put (hwatch e he)).put (by decide)).put (by decide)

theorem normSlot (h : Paced w s t) {q : Nat} {beds : List Nat} {slot : Nat} : Paced w s (t.normSlot q beds slot).1 := by
  unfold State.normSlot
  split
  · exact h
  · extract_lets lp old jump a shown x averaged
    have hshown : Paced w s shown := h.foldl fun _ _ h => (h.put (by decide)).put (by decide)
    clear_value shown
    have haveraged : Paced w s averaged := hshown.setPart (by exact id)
    exact .ite haveraged.raise haveraged

theorem norms (h : Paced w s t) {q : Nat} {beds : List Nat} : Paced w s (t.norms q beds).1 :=
  (h.foldl (fun _ _ h => h.resetFields (by decide))).foldlPair (fun _ _ h => h.normSlot)

theorem setTrips (h : Paced w s t) {q : Nat} {l : List Nat} : Paced w s (t.setPart q { t.part q with trips := l }) := h.setPart (by exact id)

theorem localTrips (h : Paced w s t) {q : Nat} {beds jumps : List Nat} : Paced w s (t.localTrips q beds jumps) := by
  unfold State.localTrips
  refine .ite h.setTrips (Paced.setTrips (Paced.foldlPair h fun y l hy => ?_))
  extract_lets tests first second third
  have hfirst : Paced w s first := .ite hy.raise hy
  have hsecond : Paced w s second := .ite hfirst.raise hfirst
  have hthird : Paced w s third := .ite hsecond.raise hsecond
  split
  · exact hthird
  · exact hy

theorem nextScale (h : Paced w s t) {k : Nat × Nat} {amax : Nat} : Paced w s (t.nextScale k amax) := by
  unfold State.nextScale
  dsimp only
  split
  · exact h.setCores
  · exact .ite h h.setCores

theorem nextScales (h : Paced w s t) {j : Nat} : Paced w s (t.nextScales j) := (h.foldl (fun _ _ h => h.nextScale)).setCores

theorem moveState (h : Paced w s t) {lp : Page} {layer st step : Nat} : Paced w s (t.moveState lp layer st step) :=
  .ite h (((h.put (by decide)).put (by decide)).put (by decide))

theorem enterLayer (h : Paced w s t) {lp : Page} {layer st step byRetry shift : Nat} :
    Paced w s (t.enterLayer lp layer st step byRetry shift) :=
  (((((h.put (by decide)).put (by decide)).put (by decide)).put (by decide)).put (by decide))

theorem noteMove (h : Paced w s t) {q layer step : Nat} : Paced w s (t.noteMove q layer step) := h.setPart (by exact id)

theorem moveLayer (h : Paced w s t) {q : Nat} {f : File} {layer st step byRetry shift : Nat} :
    Paced w s (t.moveLayer q f layer st step byRetry shift) :=
  .ite h.enterLayer.noteMove h.record

theorem evalLayer (h : Paced w s t) {q : Nat} {f : File} {layer step : Nat} : Paced w s (t.evalLayer q f layer step) := by
  unfold State.evalLayer
  refine .ite (.ite (h.bump (by decide)).record (.ite ((h.bump (by decide)).put (by decide)) (h.bump (by decide)))) ?_
  exact .ite (.ite ((h.bump (by decide)).put (by decide)).record (h.bump (by decide)).moveLayer)
    (.ite (h.bump (by decide)).moveLayer (.ite ((h.bump (by decide)).put (by decide)) (h.bump (by decide))))

theorem evalLayers (h : Paced w s t) {q step : Nat} : Paced w s (t.evalLayers q step) :=
  (Paced.ite h (h.foldl (fun _ _ h => h.evalLayer))).setPart (by exact id)

/-! ### The closing frame (R155, R156) -/

theorem passSkipped (h : Paced w s t) {b : Nat} : Paced w s (t.passSkipped b) :=
  .ite h (h.onCores (fun _ _ h => h.foldl (fun _ _ h => h.nextEntry)))

theorem countStalls (h : Paced w s t) {b : Nat} : Paced w s (t.countStalls b) :=
  h.onCores (fun _ _ h => h.foldl (fun _ _ h => .ite ((h.bump (by decide)).put (by decide)) h))

/-- What a realignment does once it is counted. -/
theorem realigned (h : Paced w s t) {b : Nat} (hs : ¬ w.reg b .SEQ_STATE) : Paced w s (t.realigned b) := by
  unfold State.realigned
  extract_lets shown reset stopped
  have hshown : Paced w s shown := .ite h.evt h.raise
  have hreset : Paced w s reset := hshown.onCores fun _ _ h => h.foldl fun _ _ h => .ite h.ctxReset h
  exact (hreset.stopRunning.setSeq hs).setBed (by exact id)

theorem realign (h : Paced w s t) {b : Nat} (hr : ¬ w.reg b .REALIGN_CNT) (hs : ¬ w.reg b .SEQ_STATE) : Paced w s (t.realign b) := by
  rw [State.realign_eq]
  exact (h.bumpBed hr).realigned hs

/-- What an overrun does once it is counted. -/
theorem overran (h : Paced w s t) {b : Nat} (hs : ¬ w.reg b .SEQ_STATE) : Paced w s (t.overran b) :=
  (h.raise.skipFrame.setSeq hs).setBed (by exact id)

theorem overrun (h : Paced w s t) {b : Nat} (ho : ¬ w.reg b .OVERRUN_CNT) (hs : ¬ w.reg b .SEQ_STATE) : Paced w s (t.overrun b) := by
  rw [State.overrun_eq]
  exact (h.bumpBed ho).overran hs

theorem noteSlack (h : Paced w s t) {b : Nat} : Paced w s (t.noteSlack b) := h.setBed (by exact id)

theorem closeRun (h : Paced w s t) {b : Nat} (hb : w.free b) : Paced w s (t.closeRun b) := by
  have hnoted : Paced w s (((t.passSkipped b).countStalls b).noteSlack b) := h.passSkipped.countStalls.noteSlack
  have hs : ¬ w.reg b .SEQ_STATE := hb.not (by decide)
  exact .ite (hnoted.idleBed hs) (.ite (hnoted.realign (hb.not (by decide)) hs) (.ite (hnoted.overrun (hb.not (by decide)) hs) hnoted))

theorem coarseSnap (h : Paced w s t) {b : Nat} : Paced w s (t.coarseSnap b) := h.frame

/-- The ticks of a bed's pages where the staging is legal (R32, R33). -/
theorem tickPages (h : Paced w s t) {b : Nat} (hl : t.stagingLegal) : Paced w s (t.tickPages b) := by
  have hpages : Paced w s (t.tickPages b) ∧ Keeps t (t.tickPages b) :=
    List.foldlRecOn (motive := fun u : State => Paced w s u ∧ Keeps t u) _ _ ⟨h, .refl t⟩ fun u hu p _ => by
      refine ⟨?_, .ite hu.2.tickPage hu.2⟩
      split
      · exact hu.1.tickPage ((hu.2.staging hl).of p)
      · exact hu.1
  exact hpages.1

theorem dalStale (h : Paced w s t) {b : Nat} : Paced w s (t.dalStale b) := by
  unfold State.dalStale
  extract_lets l freed
  have hfreed : Paced w s freed := h.foldl fun u e hu => by
    split
    · exact hu.staleLine.bump (by decide)
    · exact hu.setCache
  exact .ite hfreed.raise hfreed

theorem nfStep (h : Paced w s t) {b step : Nat} : Paced w s (t.nfStep b step) := by
  unfold State.nfStep
  dsimp only
  split
  · exact (((h.put (by decide)).put (by decide)).put (by decide)).put (by decide)
  · exact ((((h.put (by decide)).put (by decide)).put (by decide)).put (by decide)).recordAt.setBed (by exact id)

theorem bedBoundary (h : Paced w s t) {b : Nat} (hb : w.free b) : Paced w s (t.bedBoundary b) := by
  unfold State.bedBoundary
  extract_lets p step noted _ forgot once scaled
  have hnoted : Paced w s noted := h.nfStep.dalStale.put (by decide)
  have honce : Paced w s once := (hnoted.setBed (by exact id)).frame
  have hscaled : Paced w s scaled := .ite honce honce.nextScales
  exact ((hscaled.putBed (hb.not (by decide))).putBed (hb.not (by decide))).openStep

/-! ### Step boundaries (R102 to R105, R198, R213) -/

theorem creditUnit (h : Paced w s t) {q : Nat} {f : File} {u' step : Nat} : Paced w s (t.creditUnit q f u' step) := .ite (h.put (by decide)) h

theorem creditUnits (h : Paced w s t) {q step : Nat} : Paced w s (t.creditUnits q step) := h.foldl (fun _ _ h => h.creditUnit)

theorem forgetUpdates (h : Paced w s t) {q : Nat} : Paced w s (t.forgetUpdates q) := h.frame

theorem latchGroups (h : Paced w s t) {q step : Nat} : Paced w s (t.latchGroups q step) := h.frame

theorem reseedFail (h : Paced w s t) {q : Nat} : Paced w s (t.reseedFail q) := (h.setNoise.put (by decide)).record

theorem reseedOk (h : Paced w s t) {q : Nat} : Paced w s (t.reseedOk q) :=
  (((h.frame.bump (by decide)).put (by decide)).put (by decide)).put (by decide)

theorem retryNoise (h : Paced w s t) {q : Nat} : Paced w s (t.retryNoise q) := .ite h (.ite h.reseedFail h.reseedOk)

theorem partWatch (h : Paced w s t) {q : Nat} : Paced w s (t.partWatch q) := h.norms.localTrips.setCores

theorem partBoundary (h : Paced w s t) {q step : Nat} (hw : w.anySeq) : Paced w s (t.partBoundary q step) := by
  unfold State.partBoundary
  extract_lets beds lp scaled shown layers x counted latched
  have hlayers : Paced w s layers := ((h.nextScales.put (by decide)).put (by decide)).creditUnits.evalLayers
  clear_value layers
  have hcounted : Paced w s counted := hlayers.setPart (by exact id)
  have hlatched : Paced w s latched := hcounted.latchGroups.retryNoise
  exact .ite (hlatched.holdBeds hw).raise hlatched

/-! ### Switches (R151, R153, R160) -/

theorem putOwned (h : Paced w s t) {p : Page} {f : Fld} {v step : Nat} (hf : f ∉ pacedFields) : Paced w s (t.putOwned p f v step) :=
  .ite (.ite h.moveState h.moveState.noteMove) (h.put hf)

theorem writeOwned (h : Paced w s t) {mine : Page → Bool} {states : Bool} {step off v : Nat} :
    Paced w s (t.writeOwned mine states step off v) := by
  have howned : ∀ f ∈ ownedFields, f ∉ pacedFields := by decide
  unfold State.writeOwned
  split
  · exact h
  · exact .ite (h.foldlMem fun _ f hf h => .ite (h.putOwned (howned f hf)) h) h

theorem writeAllOwned (h : Paced w s t) {b : Nat} {f : File} {states : Bool} {step : Nat} :
    Paced w s (t.writeAllOwned b f states step) :=
  h.foldl (fun _ _ h => h.writeOwned)

theorem loadGroups (h : Paced w s t) {q : Nat} {f : File} : Paced w s (t.loadGroups q f) :=
  .ite h (((h.resetFields (by decide)).foldl (fun _ _ h => .ite h (h.put (by decide)))).foldl (fun _ _ h => h.put (by decide)))

/-- The counters that a switch zeroes are a bed's own (R167). -/
theorem zeroCounters (h : Paced w s t) {b : Nat} (hb : w.free b) : Paced w s (t.zeroCounters b) := by
  unfold State.zeroCounters
  extract_lets q own cores units ports
  have hown : Paced w s own := h.delRegs fun x g hr => by
    by_cases hx : x = b
    · subst hx
      simp [hb g hr]
    · have hp : pgBed x ≠ pgBed b := fun e => hx (congrArg Page.inst e)
      simp [hp]
  have hcores : Paced w s cores := hown.delRegs fun x g hr => rfl
  have hunits : Paced w s units := hcores.foldl fun _ _ h => h.resetFields (by decide)
  have hports : Paced w s ports := hunits.foldl fun _ _ h => h.resetFields (by decide)
  exact .ite ((((hports.resetFields (by decide)).put (by decide)).put (by decide)).put (by decide)) hports

theorem seedNoise (h : Paced w s t) {q : Nat} : Paced w s (t.seedNoise q) :=
  .ite ((h.put (by decide)).setNoise.put (by decide)).reseedFail (((h.put (by decide)).draw.setNoise.put (by decide)).put (by decide))

theorem setHeader (h : Paced w s t) {b n : Nat} {f : File} : Paced w s (t.setHeader b n f) :=
  (((Paced.ite h (((h.put (by decide)).put (by decide)).setBed (by exact id))).put (by decide)).put (by decide)).put (by decide)

theorem switchBed (h : Paced w s t) {b slot step epoch n : Nat} (hb : w.free b) : Paced w s (t.switchBed b slot step epoch n) := by
  unfold State.switchBed
  extract_lets q f x named _ cleared shown zeroed p counted opened exact
  have hcleared : Paced w s cleared := (h.setBed (by exact id)).setCores
  have hzeroed : Paced w s zeroed := hcleared.copyLists.setHeader.showArm.zeroCounters hb
  have hcounted : Paced w s counted := ((hzeroed.putBed (hb.not (by decide))).put (by decide)).putBed (hb.not (by decide))
  have hopened : Paced w s opened := (hcounted.setSeq (hb.not (by decide))).openStep
  have hexact : Paced w s exact := hopened.foldl fun _ _ h => h.put (by decide)
  exact hexact.raise

theorem newJob (h : Paced w s t) {q : Nat} : Paced w s (t.newJob q) := .ite h.frame h

theorem dropScales (h : Paced w s t) {j : Nat} : Paced w s (t.dropScales j) := h.setCores

theorem switchPart (h : Paced w s t) {q slot step : Nat} {job : Bool} : Paced w s (t.switchPart q slot step job) := by
  unfold State.switchPart
  extract_lets f x joined forgot seeded
  have hjoined : Paced w s joined := h.setPart (by exact id)
  have hforgot : Paced w s forgot := .ite hjoined.forgetUpdates.dropScales hjoined
  have hseeded : Paced w s seeded := (Paced.ite hforgot.newJob.seedNoise hforgot).setTimeRef
  exact hseeded.loadGroups.latchGroups

theorem activateAt (h : Paced w s t) {b n : Nat} (hb : w.free b) : Paced w s (t.activateAt b n) := by
  unfold State.activateAt
  split
  · exact h
  · refine .ite h (.ite (h.refuseSwitch (hb.not (by decide))).record ?_)
    extract_lets lead _ dropped scaled joined
    have hdropped : Paced w s dropped := (h.setBed fun _ => rfl).put (by decide)
    have hscaled : Paced w s scaled := .ite hdropped hdropped.dropScales
    have hjoined : Paced w s joined := .ite hscaled.switchPart hscaled
    exact (hjoined.switchBed hb).writeAllOwned

theorem epochBoundary (h : Paced w s t) {q n step : Nat} (hw : ∀ b, w.free b) : Paced w s (t.epochBoundary q n step) := by
  have hseq : w.anySeq := fun b => (hw b).not (by decide)
  unfold State.epochBoundary
  split
  · exact h
  · extract_lets beds ids v epoch _ planned counted
    have hplanned : Paced w s planned := h.setPart fun hnone => by simp [hnone]
    have hcounted : Paced w s counted := hplanned.foldl fun _ _ h => h.put (by decide)
    refine .ite ((hcounted.holdBeds hseq).setPart (by exact id)) ?_
    cases v with
    | none => exact (hcounted.holdBeds hseq).raise
    | some x =>
      exact (Paced.ite hcounted.switchPart (hcounted.switchPart.setPart (by exact id))).foldl fun _ _ h =>
        (h.switchBed (hw _)).writeAllOwned

theorem graftLayer (h : Paced w s t) {lp : Page} {h' step l : Nat} : Paced w s (t.graftLayer lp h' step l) :=
  ((((h.put (by decide)).put (by decide)).put (by decide)).put (by decide)).put (by decide)

theorem joinGraft (h : Paced w s t) {q n : Nat} (hw : ∀ b, w.free b) : Paced w s (t.joinGraft q n) := by
  unfold State.joinGraft
  split
  · exact h
  · extract_lets f epoch lp beds switched owned layers _ joined
    have hswitched : Paced w s switched := h.switchPart.foldl fun _ _ h => h.switchBed (hw _)
    have howned : Paced w s owned := hswitched.foldl fun _ _ h => h.writeAllOwned
    have hlayers : Paced w s layers := howned.foldl fun _ _ h => h.graftLayer
    have hjoined : Paced w s joined := hlayers.setPart fun hnone => by simp [hnone]
    exact hjoined.setFab

/-! ### The new frame (R163) -/

theorem newBudgets (h : Paced w s t) {b : Nat} :
    Paced w s (t.newBudgets b) :=
  .ite h.setMem (((h.setMem.foldl (fun _ _ h => h.put (by decide))).put (by decide)).put (by decide))

theorem openBudgets (h : Paced w s t) {b : Nat} : Paced w s (t.openBudgets b) := h.newBudgets.clipWaiting

theorem openBed (h : Paced w s t) {b : Nat} : Paced w s (t.openBed b) := .ite h.openFrame.openBudgets.skipFrame h.openFrame.openBudgets

theorem streamLines (h : Paced w s t) {q dest a len : Nat} {place : Nat → Nat} : Paced w s (t.streamLines q dest a len place) :=
  h.foldl (fun _ _ h => h.readSpan.send)

theorem streamWard (h : Paced w s t) {q n : Nat} : Paced w s (t.streamWard q n) := by
  unfold State.streamWard
  dsimp only
  split
  · exact h
  · exact .ite h.streamLines h

theorem streamStep (h : Paced w s t) {q : Nat} {f : File} {dest step : Nat} : Paced w s (t.streamStep q f dest step) :=
  (h.foldl (fun _ _ h => h.streamLines)).streamLines

theorem streamSource (h : Paced w s t) {q n : Nat} : Paced w s (t.streamSource q n) := by
  unfold State.streamSource
  dsimp only
  split
  · exact h
  · refine .ite h ?_
    split
    · exact h
    · exact h.foldl (fun _ _ h => h.streamStep)

theorem openPart (h : Paced w s t) {q n : Nat} {anew grafted : Bool} (hc : ¬ w.calm) : Paced w s (t.openPart q n anew grafted) := by
  unfold State.openPart
  extract_lets b opened
  have hopened : Paced w s opened := .ite h.openBuckets h
  exact (hopened.openVotes hc).askTime.streamWard.streamSource

/-! ### The parts of a tick (R163) -/

/-- What follows a tick's count of the frame on a bed: its staging takes effect, and at a step boundary the totals (R33, R97). -/
theorem closePages (h : Paced w s t) {b : Nat} (hl : t.stagingLegal) : Paced w s (((t.coarseSnap b).endStops b).tickPages b) := by
  have hkeeps : Keeps t ((t.coarseSnap b).endStops b) := (Keeps.refl t).coarseSnap.endStops
  exact h.coarseSnap.endStops.tickPages (hkeeps.staging hl)

theorem closeBed (h : Paced w s t) {b n : Nat} {boundary : Bool} (hb : ∀ f, ¬ w.reg b f) (hl : t.stagingLegal) :
    Paced w s (t.closeBed b n boundary) := by
  have hfree : w.free b := fun f hr => absurd hr (hb f)
  unfold State.closeBed
  extract_lets closed _ started paged
  have hclosed : Paced w s closed := .ite (h.closeRun hfree) h
  have hkeeps : Keeps t (started.put (pgBed b) .FRAME_NUMBER n) := (Keeps.ite (Keeps.refl t).closeRun (.refl t)).setBed.put
  have hstarted : Paced w s started := hclosed.setBed (by exact id)
  have hpaged : Paced w s paged := (hstarted.putBed (hb _)).closePages (hkeeps.staging hl)
  exact .ite hpaged.watchSnap hpaged

theorem countStep (h : Paced w s t) {b : Nat} {boundary : Bool} (hb : w.free b) : Paced w s (t.countStep b boundary) :=
  .ite (h.bedBoundary hb) (.ite (h.putBed (hb.not (by decide))) h)

theorem tickPart (h : Paced w s t) {q n : Nat} {boundary : Bool} (hw : ∀ b, w.free b) : Paced w s (t.tickPart q n boundary) := by
  have hseq : w.anySeq := fun b => (hw b).not (by decide)
  exact .ite ((Paced.ite (h.partBoundary hseq) h).epochBoundary hw) ((Paced.ite (h.partBoundary hseq) h).joinGraft hw)

end State.Paced

end Sys2Proof.Machine
end

section
/-! PROOFS. The parts of a tick in their order (R163), and with them TicksBeginTheNextFrame (O35): a tick is its beds' closes, which alone write FRAME_NUMBER, and operations that leave it (`State.Paced`). -/

namespace Sys2Proof.Machine

/-! ### The parts of a tick (R163) -/

/-- Actions 1 and 2 of a tick: its beds' frames are closed and counted, and their staging has taken effect. -/
def State.tickClosed (s : State) (b : Nat) : State :=
  (s.tickBeds b).foldl (fun t x => t.closeBed x (s.nextFrame b) (s.atBoundary x)) s

/-- The partition's lead bed ticks too. -/
def State.leadTicks (s : State) (b : Nat) : Bool := (s.tickBeds b).contains (s.leadBed (s.partOf b))

/-- The partition's norm watch, at its lead bed's step boundary (R98). -/
def State.tickWatched (s : State) (b : Nat) : State :=
  if s.leadTicks b && s.atBoundary (s.leadBed (s.partOf b)) && (s.tickClosed b).runsArm ((s.tickClosed b).leadBed (s.partOf b)) then
    (s.tickClosed b).partWatch (s.partOf b)
  else s.tickClosed b

/-- The rest of action 3 of the tick's beds. -/
def State.tickCounted (s : State) (b : Nat) : State :=
  (s.tickBeds b).foldl (fun t x => t.countStep x (s.atBoundary x)) (s.tickWatched b)

/-- The votes that end with the tick acted on (R261). -/
def State.tickActed (s : State) (b : Nat) : State :=
  if s.leadTicks b then (s.tickCounted b).actVotes (s.partOf b) (s.nextFrame b) else s.tickCounted b

/-- The partition's own part of actions 3 to 5. -/
def State.tickParted (s : State) (b : Nat) : State :=
  if s.leadTicks b then (s.tickActed b).tickPart (s.partOf b) (s.nextFrame b) (s.atBoundary (s.leadBed (s.partOf b))) else s.tickActed b

/-- The planned activations of the tick's beds (R153). -/
def State.tickSwitched (s : State) (b : Nat) : State :=
  (s.tickBeds b).foldl (fun t x => t.activateAt x (s.nextFrame b)) (s.tickParted b)

namespace State.Paced

variable {w : Watch} {s : State} {b : Nat}

/-- The clock and the new frame count no frame and no step. -/
theorem opened (hc : ¬ w.calm) : Paced w (s.tickSwitched b) (s.tick b) := by
  unfold State.tick
  extract_lets q n beds lead first edge closed watched counted acted anew grafted parted switched clocked opened
  have hclocked : Paced w (s.tickSwitched b) clocked :=
    .ite (refl (s.tickSwitched b)).sampleWatts.clockTick.trimTick (refl (s.tickSwitched b))
  have hopened : Paced w (s.tickSwitched b) opened := (hclocked.foldl fun _ _ h => h.openBed).applyTopo
  exact .ite (hopened.openPart hc) hopened

/-- After its beds' closes a tick leaves FRAME_NUMBER. -/
theorem closedToTick (hw : ∀ x, w.free x) (hc : ¬ w.calm) : Paced w (s.tickClosed b) (s.tick b) := by
  have hwatched : Paced w (s.tickClosed b) (s.tickWatched b) := .ite (refl _).partWatch (refl _)
  have hcounted : Paced w (s.tickClosed b) (s.tickCounted b) := hwatched.foldl fun _ _ h => h.countStep (hw _)
  have hacted : Paced w (s.tickClosed b) (s.tickActed b) := .ite (hcounted.actVotes hc fun x => (hw x).not (by decide)) hcounted
  have hparted : Paced w (s.tickClosed b) (s.tickParted b) := .ite (hacted.tickPart hw) hacted
  have hswitched : Paced w (s.tickClosed b) (s.tickSwitched b) := hparted.foldl fun _ _ h => h.activateAt (hw _)
  exact hswitched.trans (opened hc)

end State.Paced

/-! ### FRAME_NUMBER (R134) -/

/-- A bed's FRAME_NUMBER watched, and nothing else. -/
def Watch.frameOf (b : Nat) : Watch where
  reg x f := x = b ∧ f = .FRAME_NUMBER
  fields _ _ h := h.2 ▸ List.mem_cons_self
  calm := False

theorem Watch.frameOf_free (b x : Nat) : (Watch.frameOf b).free x := fun _ h => h.2

/-- A bed's close writes the frame that begins into its FRAME_NUMBER of 48 bits. -/
theorem State.closeBed_frameNumber {s : State} (b n : Nat) (boundary : Bool) (hl : s.stagingLegal) :
    (s.closeBed b n boundary).get (pgBed b) .FRAME_NUMBER = n % 2 ^ 48 := by
  unfold State.closeBed
  extract_lets closed _ started paged
  have hkeeps : Keeps s (started.put (pgBed b) .FRAME_NUMBER n) := (Keeps.ite (Keeps.refl s).closeRun (.refl s)).setBed.put
  have hpaged : State.Paced (Watch.frameOf b) (started.put (pgBed b) .FRAME_NUMBER n) paged := (State.Paced.refl _).closePages (hkeeps.staging hl)
  have hsnap : State.Paced (Watch.frameOf b) (started.put (pgBed b) .FRAME_NUMBER n)
      (if boundary && paged.runsArm b then paged.watchSnap b (paged.get (pgBed b) .STEP_CNT) else paged) := .ite hpaged.watchSnap hpaged
  exact (hsnap.regs b .FRAME_NUMBER ⟨rfl, rfl⟩).trans (State.get_put_same ..)

/-- A fold that reaches a condition at one member and keeps it at the others, under what every operation of it keeps. -/
theorem foldl_reaches {α : Type} {f : State → α → State} {P Q : State → Prop} {a : α} (hkeep : ∀ t x, Q t → Q (f t x))
    (hself : ∀ t, Q t → P (f t a)) (hother : ∀ t x, x ≠ a → Q t → P t → P (f t x)) {l : List α} {s : State} (hs : Q s) (ha : a ∈ l ∨ P s) :
    P (l.foldl f s) := by
  induction l generalizing s with
  | nil => exact ha.resolve_left List.not_mem_nil
  | cons x l ih =>
    refine ih (hkeep s x hs) ?_
    by_cases hx : x = a
    · exact .inr (hx ▸ hself s hs)
    · rcases ha with ha | ha
      · exact .inl ((List.mem_cons.1 ha).resolve_left (Ne.symm hx))
      · exact .inr (hother s x hx hs ha)

theorem bed_mem_allBeds (b : Bed) : b.val ∈ allBeds := by
  revert b
  decide

/-- A due bed is among those that tick together (R136). -/
theorem State.mem_tickBeds {s : State} (b : Bed) (hdue : s.tickDue b.val = true) : b.val ∈ s.tickBeds b.val := by
  have hbed : b.val ∈ allBeds := bed_mem_allBeds b
  unfold State.tickBeds
  dsimp only
  split
  · simp [State.partBeds, hbed, hdue]
  · exact List.mem_singleton_self _

/-- The closes of the beds that tick together number the frame of each of them. -/
theorem State.tickClosed_frameNumber {s : State} {b x : Nat} (hl : s.stagingLegal) (hx : x ∈ s.tickBeds b) :
    (s.tickClosed b).get (pgBed x) .FRAME_NUMBER = s.nextFrame b % 2 ^ 48 := by
  unfold State.tickClosed
  generalize s.nextFrame b = n, s.atBoundary = boundary at *
  generalize hn : n % 2 ^ 48 = v
  refine foldl_reaches (P := fun t => t.get (pgBed x) .FRAME_NUMBER = v) (Q := State.stagingLegal)
    (fun t y ht => (Keeps.refl t).closeBed.staging ht) (fun t ht => hn ▸ t.closeBed_frameNumber x n _ ht) (fun t y hy ht hv => ?_) hl (.inl hx)
  have hclose : State.Paced (Watch.frameOf x) t (t.closeBed y n (boundary y)) := (State.Paced.refl t).closeBed (fun f h => hy h.1) ht
  exact (hclose.regs x .FRAME_NUMBER ⟨rfl, rfl⟩).trans hv

/-- Nothing but the time and the queue of commands watched. -/
def Watch.clock : Watch := ⟨fun _ _ => False, fun _ _ h => h.elim, False⟩

/-- No time passes in a tick, and no command joins or leaves the queue. -/
theorem State.tick_clock {s : State} {b : Nat} (hl : s.stagingLegal) : State.Paced Watch.clock s (s.tick b) := by
  have hclosed : State.Paced Watch.clock s (s.tickClosed b) ∧ Keeps s (s.tickClosed b) :=
    List.foldlRecOn (motive := fun t : State => State.Paced Watch.clock s t ∧ Keeps s t) _ _ ⟨.refl s, .refl s⟩ fun t ht x _ =>
      ⟨ht.1.closeBed (fun _ h => h) (ht.2.staging hl), ht.2.closeBed⟩
  exact hclosed.1.trans (State.Paced.closedToTick (fun _ _ h => h.elim) id)

/-- Settles O35: the closes number the frame (`State.tickClosed_frameNumber`), and what follows in the tick leaves it (`State.Paced.closedToTick`). -/
theorem ticksBeginTheNextFrame : Obligations.TicksBeginTheNextFrame := by
  intro b s hdue hl _
  have hclock : State.Paced Watch.clock s (s.tick b.val) := State.tick_clock hl
  have hframe : State.Paced (Watch.frameOf b.val) (s.tickClosed b.val) (s.tick b.val) := State.Paced.closedToTick (Watch.frameOf_free _) id
  refine ⟨s.tick b.val, congrArg Host.Outcome.next (if_pos (by simp [hdue])), ?_, congrArg TimeSt.now hclock.time, hclock.pending⟩
  exact (hframe.regs b.val .FRAME_NUMBER ⟨rfl, rfl⟩).trans (State.tickClosed_frameNumber hl (State.mem_tickBeds b hdue))

end Sys2Proof.Machine
end

section
/-! PROOFS. Settles GroupAndReferenceTime (O56): a time message through the receiver's checks, group time, and the time reference (R133, R138, R139, R234). -/

namespace Sys2Proof.Machine

/-! ### Flags -/

theorem State.flag_put_same (s : State) (p : Page) (f : Fld) (v : Nat) : (s.put p f v).flag p f = (v % 2 ^ (fieldInfo f).width == 1) :=
  congrArg (· == 1) (State.get_put_same ..)

theorem State.flag_put_fld (s : State) (p q : Page) {f g : Fld} (v : Nat) (h : g ≠ f) : (s.put p f v).flag q g = s.flag q g :=
  congrArg (· == 1) (State.get_put_fld _ _ _ _ _ _ h)

theorem State.flag_record (s : State) (c : Nat) (p : Page) (d : List Byte) (q : Page) {g : Fld} (h : recordField g = false)
    (he : q = pgRec → g ≠ .EVT) : (s.record c p d).flag q g = s.flag q g :=
  congrArg (· == 1) (State.record_get _ _ _ _ _ _ h he)

/-! ### A time message through the receiver's checks (R231, R234, R236) -/

/-- A time message that is not late passes the receiver's checks unchanged: it belongs to one link. -/
theorem State.takeIn_time {s : State} {p : Nat} {k : Packet} (hw : s.pw.wedged = false) (hp : s.portUp p = true)
    (hpos : s.flag (pgPort p) .POS_VALID = true) (ht : k.type = tyTime) (hr : k.rsv = false) (hf : tfReserved k = false)
    (hlate : s.late0 p k = false) : s.takeIn p k = (s, some k) := by
  have ht2 : k.type = 2 := ht
  have hl : linkType 2 = true := rfl
  have ho : s.openPacket p k = (s, some k) := by simp [State.openPacket, encType, ht2, hl]
  have hc : s.countLate p k = s := by simp [State.countLate, hlate]
  simp [State.takeIn, hw, hp, hpos, hr, hf, ho, hc, ht2, hl]

/-- Such a message reaches its consumer in the state as it is. -/
theorem State.consume_time {s : State} {p : Nat} {k : Packet} {f : State → Packet → State} (hw : s.pw.wedged = false) (hp : s.portUp p = true)
    (hpos : s.flag (pgPort p) .POS_VALID = true) (ht : k.type = tyTime) (hr : k.rsv = false) (hf : tfReserved k = false)
    (hlate : s.late0 p k = false) : s.consume p k tyTime f = .next (f s k) := by
  unfold State.consume
  rw [if_neg (not_not_intro ht), State.takeIn_time hw hp hpos ht hr hf hlate]

/-! ### DEVICE_TIME moved or steered (R133) -/

@[simp] theorem State.steerRate_get (s : State) (off : Int) (q : Page) (g : Fld) (j : Nat) : (s.steerRate off).get q g j = s.get q g j := rfl
@[simp] theorem State.steerRate_flag (s : State) (off : Int) (q : Page) (g : Fld) (j : Nat) : (s.steerRate off).flag q g j = s.flag q g j := rfl

theorem State.clearOrigin_time (s : State) (b : Nat) : (s.clearOrigin b).time = s.time := rfl

/-- An origin cleared is cleared; one that was stays so. -/
theorem State.clearOrigin_origin {s : State} {b c : Nat} (h : b = c ∨ (s.bed b).origin = false) : ((s.clearOrigin c).bed b).origin = false := by
  show ((s.setBed c { s.bed c with origin := false, started := false }).bed b).origin = false
  by_cases hb : b = c
  · rw [hb, State.setBed_bed]
  · rw [State.setBed_bed_ne _ _ hb, h.resolve_left hb]

theorem State.clearOrigins_time (l : List Nat) (s : State) : (l.foldl (fun s b => s.clearOrigin b) s).time = s.time :=
  List.foldlRecOn (motive := fun t : State => t.time = s.time) l _ rfl fun t ht c _ => (t.clearOrigin_time c).trans ht

theorem State.clearOrigins_origin {l : List Nat} {s : State} {b : Nat} (h : b ∈ l ∨ (s.bed b).origin = false) :
    ((l.foldl (fun s b => s.clearOrigin b) s).bed b).origin = false := by
  induction l generalizing s with
  | nil => exact h.resolve_left List.not_mem_nil
  | cons c l ih =>
    refine ih ?_
    rcases h with h | h
    · exact (List.mem_cons.1 h).elim (fun e => .inr (State.clearOrigin_origin (.inl e))) .inl
    · exact .inr (State.clearOrigin_origin (.inr h))

/-- A step forward of DEVICE_TIME. -/
theorem State.moveTime_pos {d : Int} (s : State) (h : 0 < d) :
    (s.moveTime d).time.now = (s.time.now + d.toNat) % 2 ^ 64 ∧ ∀ b ∈ allBeds, ((s.moveTime d).bed b).origin = false := by
  unfold State.moveTime
  rw [if_neg (by omega), if_pos h]
  dsimp only
  refine ⟨?_, fun b hb => ?_⟩
  · rw [State.record_time, State.clearOrigins_time]
  · unfold State.bed
    rw [State.record_beds]
    exact State.clearOrigins_origin (.inl hb)

/-! ### GROUP_ALIGNED (R138, R231) -/

theorem State.setAligned_time (s : State) (on : Bool) : (s.setAligned on).time = s.time := by
  unfold State.setAligned
  extract_lets rise t
  exact (apply_ite State.time ..).trans (ite_self _)

theorem State.setAligned_beds (s : State) (on : Bool) : (s.setAligned on).beds = s.beds := by
  unfold State.setAligned
  extract_lets rise t
  exact (apply_ite State.beds ..).trans (ite_self _)

/-- The rise of GROUP_ALIGNED sets SEQ, which is no register. -/
theorem State.setAligned_get (s : State) (on : Bool) (q : Page) (g : Fld) :
    (s.setAligned on).get q g = (s.put pgGlobals .GROUP_ALIGNED (b2n on)).get q g := by
  unfold State.setAligned
  extract_lets rise t
  split <;> rfl

theorem State.setAligned_aligned (s : State) (on : Bool) : (s.setAligned on).flag pgGlobals .GROUP_ALIGNED = on := by
  unfold State.flag
  rw [State.setAligned_get, State.get_put_same]
  cases on <;> rfl

/-- A joiner's step forward: the counter moves, the origins go, the device is aligned. -/
theorem State.alignOffset_joins {s : State} {off : Int} (hr : s.anyBedRuns = false) (ha : s.flag pgGlobals .GROUP_ALIGNED = false) :
    s.alignOffset off = ((s.moveTime off).put pgGlobals .ALIGN_ERR 0).setAligned true := by
  unfold State.alignOffset
  rw [hr, ha]
  rfl

/-! ### A member that runs (R138) -/

/-- The warning of an offset beyond 10 ns, once per step. -/
def State.warnAlign (s : State) (off : Int) (e : Nat) : State :=
  if 10 < off.natAbs then
    (s.put pgGlobals .ALIGN_WARN 1).onceDo (0x0142, s.anyStep, 0) fun s => s.record 0x0142 pgGlobals (leBytes 2 e)
  else s

theorem State.alignOffset_runs {s : State} {off : Int} (hr : s.anyBedRuns = true) :
    let e := wrap 16 (clampI (-32767) 32767 off)
    let t := (((s.put pgGlobals .ALIGN_ERR e).steerRate off).setAligned (decide (off.natAbs ≤ 10))).warnAlign off e
    s.alignOffset off = { t with time := { t.time with alignFrames := if 50 < off.natAbs then t.time.alignFrames + 1 else 0 } } := by
  unfold State.alignOffset
  rw [hr]
  rfl

/-- A record made once per cause keeps the time, the beds and every register that records do not write. -/
theorem State.onceRecord_keeps (s : State) (key : Nat × Nat × Nat) (c : Nat) (p : Page) (d : List Byte) :
    (s.onceDo key fun s => s.record c p d).time = s.time ∧ (s.onceDo key fun s => s.record c p d).beds = s.beds ∧
    ∀ q g, recordField g = false → g ≠ .EVT → (s.onceDo key fun s => s.record c p d).get q g = s.get q g := by
  unfold State.onceDo
  split
  · exact ⟨rfl, rfl, fun _ _ _ _ => rfl⟩
  · exact ⟨State.record_time .., State.record_beds .., fun q g hg he => s.record_get c p d q 0 hg fun _ => he⟩

theorem State.warnAlign_keeps (s : State) (off : Int) (e : Nat) :
    (s.warnAlign off e).time = s.time ∧ (s.warnAlign off e).beds = s.beds ∧
    ∀ q g, recordField g = false → g ≠ .EVT → g ≠ .ALIGN_WARN → (s.warnAlign off e).get q g = s.get q g := by
  unfold State.warnAlign
  split
  · obtain ⟨htime, hbeds, hregs⟩ := (s.put pgGlobals .ALIGN_WARN 1).onceRecord_keeps (0x0142, s.anyStep, 0) 0x0142 pgGlobals (leBytes 2 e)
    exact ⟨htime, hbeds, fun q g hg he hn => (hregs q g hg he).trans (State.get_put_fld _ _ _ _ _ _ hn)⟩
  · exact ⟨rfl, rfl, fun _ _ _ _ _ => rfl⟩

/-- A member that runs shows the offset and counts the frames beyond 50 ns; its counter and its beds stay. -/
theorem State.alignOffset_member {s : State} (off : Int) (hr : s.anyBedRuns = true) :
    (s.alignOffset off).time.now = s.time.now ∧ (s.alignOffset off).beds = s.beds ∧
    (s.alignOffset off).get pgGlobals .ALIGN_ERR = wrap 16 (clampI (-32767) 32767 off) ∧
    (s.alignOffset off).flag pgGlobals .GROUP_ALIGNED = decide (off.natAbs ≤ 10) ∧
    (s.alignOffset off).time.alignFrames = (if 50 < off.natAbs then s.time.alignFrames + 1 else 0) := by
  have he := s.alignOffset_runs (off := off) hr
  dsimp only at he
  generalize hw : wrap 16 (clampI (-32767) 32767 off) = e at he
  have hlt : e % 2 ^ 16 = e := Nat.mod_eq_of_lt (by rw [← hw, wrap]; omega)
  generalize hu : ((s.put pgGlobals .ALIGN_ERR e).steerRate off).setAligned (decide (off.natAbs ≤ 10)) = u at he
  obtain ⟨htime, hbeds, hregs⟩ := u.warnAlign_keeps off e
  have hut : u.time.now = s.time.now ∧ u.time.alignFrames = s.time.alignFrames := by rw [← hu, State.setAligned_time]; exact ⟨rfl, rfl⟩
  rw [he]
  refine ⟨?_, ?_, ?_, ?_, ?_⟩
  · exact (congrArg TimeSt.now htime).trans hut.1
  · exact hbeds.trans (by rw [← hu, State.setAligned_beds]; rfl)
  · refine (hregs pgGlobals .ALIGN_ERR rfl (by decide) (by decide)).trans ?_
    rw [← hu, State.setAligned_get, State.get_put_fld _ _ _ _ _ _ (by decide), State.steerRate_get, State.get_put_same]
    exact hlt
  · refine (congrArg (· == 1) (hregs pgGlobals .GROUP_ALIGNED rfl (by decide) (by decide))).trans ?_
    rw [← hu]
    exact State.setAligned_aligned ..
  · show (if 50 < off.natAbs then (u.warnAlign off e).time.alignFrames + 1 else 0) = _
    rw [htime, hut.2]

/-- After four frames beyond 50 ns the member leaves its group and is on its way to Hold, with no bed running. -/
theorem State.groupAlignTimeout_leaves {s : State} (q : Bed) (h4 : 4 ≤ s.time.alignFrames) (hr : s.inRun = true)
    (ht : s.pw.transition = none) : ∃ t : State, exec (.groupAlignTimeout q) s = .next t ∧ (t.part q.val).member = false ∧
      t.pw.transition = some .hold ∧ t.time.alignFrames = 0 ∧ ∀ b < 8, t.bedRuns b = false := by
  generalize hu : ({ s with time := { s.time with alignFrames := 0 } } : State).record 0x0111 pgGlobals = u
  have hpw : (u.leaveGroup q.val).pw = s.pw := (u.leaveGroup_pw _).trans (hu ▸ State.record_pw ..)
  obtain ⟨hhold, hstop⟩ := (u.leaveGroup q.val).enterHold_begun (cause := 7) (by rw [State.inRun, hpw]; exact hr) (by rw [hpw]; exact ht)
  have hpaced : State.Paced Watch.clock u ((u.leaveGroup q.val).enterHold 7) := (State.Paced.refl u).leaveGroup.enterHold fun _ h => h
  have hheld : (u.leaveGroup q.val).SameBallots ((u.leaveGroup q.val).enterHold 7) := (State.SameBallots.refl _).enterHold
  refine ⟨(u.leaveGroup q.val).enterHold 7, ?_, hheld.left _ (State.leaveGroup_member ..), congrArg PowerSt.transition hhold, ?_,
    fun b hb => hstop b (List.mem_range.2 hb)⟩
  · rw [← hu]
    exact if_pos h4
  · rw [hpaced.time, ← hu, State.record_time]

/-! ### TIME_REF (R139) -/

theorem State.setHoldover_time (s : State) (on : Bool) : (s.setHoldover on).time = s.time := by
  unfold State.setHoldover
  split
  · rfl
  · exact State.record_time ..

theorem State.setHoldover_holdover (s : State) (on : Bool) : (s.setHoldover on).flag pgGlobals .HOLDOVER = on := by
  unfold State.setHoldover
  split
  next h => exact h
  · rw [State.flag_record _ _ _ _ _ rfl (by decide), State.flag_put_same]
    cases on <;> rfl

theorem State.setHoldover_locked (s : State) (on : Bool) : (s.setHoldover on).flag pgGlobals .TREF_LOCKED = s.flag pgGlobals .TREF_LOCKED := by
  unfold State.setHoldover
  split
  · rfl
  · rw [State.flag_record _ _ _ _ _ rfl (by decide), State.flag_put_fld _ _ _ _ (by decide)]

/-- Holdover begun: TREF_LOCKED is 0, HOLDOVER is 1 and no time is touched. -/
theorem State.toHoldover (s : State) : ((s.put pgGlobals .TREF_LOCKED 0).setHoldover true).flag pgGlobals .TREF_LOCKED = false ∧
    ((s.put pgGlobals .TREF_LOCKED 0).setHoldover true).flag pgGlobals .HOLDOVER = true ∧
    ((s.put pgGlobals .TREF_LOCKED 0).setHoldover true).time = s.time :=
  ⟨(State.setHoldover_locked ..).trans (State.flag_put_same ..), State.setHoldover_holdover .., State.setHoldover_time ..⟩

/-- The rate stays within ±100 ppm. -/
theorem State.steerRate_rate (s : State) (off : Int) : -100 ≤ (s.steerRate off).time.rate ∧ (s.steerRate off).time.rate ≤ 100 := by
  show -100 ≤ clampI (-100) 100 (Config.steer off) ∧ clampI (-100) 100 (Config.steer off) ≤ 100
  unfold clampI
  omega

/-- The signed distance of an instant from the nearest second. -/
def secondOff (now : Nat) : Int :=
  if 2 * (now % 1000000000) ≤ 1000000000 then -((now % 1000000000 : Nat) : Int) else 1000000000 - ((now % 1000000000 : Nat) : Int)

/-- The state with the edge time-stamped. -/
def State.stamped (s : State) : State := { s with time := { s.time with trefLast := some s.time.now } }

theorem secondOff_near {now : Nat} (h : now % 1000000000 ≤ 50 ∨ 999999950 ≤ now % 1000000000) : (secondOff now).natAbs ≤ 50 := by
  unfold secondOff
  split <;> omega

/-- An edge in time and within 50 ns of its second locks. -/
theorem State.timeRefEdge_locks {s : State} {t0 : Nat} (hen : s.flag pgGlobals .TREF_EN = true) (hlast : s.time.trefLast = some t0)
    (hlo : t0 + 999900000 ≤ s.time.now) (hhi : s.time.now ≤ t0 + 1000100000)
    (hnear : s.time.now % 1000000000 ≤ 50 ∨ 999999950 ≤ s.time.now % 1000000000) :
    exec .timeRefEdge s = .next (((s.stamped.setHoldover false).put pgGlobals .TREF_LOCKED 1).steerRate (secondOff s.time.now)) := by
  have hin : ¬ (s.time.now < t0 + 1000000000 - 100000 ∨ t0 + 1000000000 + 100000 < s.time.now) := by omega
  show execTimeRefEdge s = _
  unfold execTimeRefEdge
  simp only [hen, hlast, hin, decide_false, Bool.not_true, Bool.false_eq_true, if_false]
  exact if_pos (secondOff_near hnear)

/-- An edge more than 100 µs off its second goes into holdover. -/
theorem State.timeRefEdge_bad {s : State} {t0 : Nat} (hen : s.flag pgGlobals .TREF_EN = true) (hlast : s.time.trefLast = some t0)
    (hoff : s.time.now < t0 + 999900000 ∨ t0 + 1000100000 < s.time.now) :
    exec .timeRefEdge s = .next ((s.stamped.put pgGlobals .TREF_LOCKED 0).setHoldover true) := by
  have hbad : s.time.now < t0 + 1000000000 - 100000 ∨ t0 + 1000000000 + 100000 < s.time.now := by omega
  show execTimeRefEdge s = _
  unfold execTimeRefEdge
  simp only [hen, hlast, hbad, decide_true, Bool.not_true, Bool.false_eq_true, if_false, if_true]
  rfl

/-- No edge for 2.5 s goes into holdover. -/
theorem State.trefHoldoverTimeout_quiet {s : State} {t0 : Nat} (hen : s.flag pgGlobals .TREF_EN = true) (hlast : s.time.trefLast = some t0)
    (hquiet : t0 + 2500000000 ≤ s.time.now) :
    exec .trefHoldoverTimeout s = .next ((s.put pgGlobals .TREF_LOCKED 0).setHoldover true) := by
  show execTrefHoldoverTimeout s = _
  unfold execTrefHoldoverTimeout
  simp only [hen, hlast, hquiet, decide_true, Bool.and_self, if_true]

/-- TREF_EN cleared ends the lock and the holdover. -/
theorem State.setTref_zero (s : State) : s.setTref 0 =
    ((({ s.put pgGlobals .TREF_EN 0 with time := { s.time with trefLast := none } } : State).put pgGlobals .TREF_LOCKED 0).put
      pgGlobals .HOLDOVER 0) := rfl

/-- Settles O56: time messages pass the checks unchanged (`State.consume_time`); then each clause is the rule of its case. -/
theorem groupAndReferenceTime : Obligations.GroupAndReferenceTime := by
  refine ⟨⟨?request, ?response, ?joiner, ?member, ?timeout⟩, ?locks, ?badEdge, ?quiet, ?cleared, ?holdEnd⟩
  case request =>
    intro p k s hw hp hpos ht hr hf hlate hreq href
    refine (State.consume_time hw hp hpos ht hr hf hlate).trans (congrArg Host.Outcome.next ?_)
    unfold State.timeRequestIn
    rw [if_neg (by simp [href, hreq])]
  case response =>
    intro p k s t hw hp hpos ht hr hf hlate hresp hgroup href htdef
    have hin : s.timeResponseIn p.val k = t := by
      rw [htdef]
      simp only [State.timeResponseIn, hresp, href, List.isEmpty_eq_false_iff.2 hgroup, Nat.cast_mul, Nat.cast_ofNat]
      simp
    have hexec : exec (.timeResponseReceive p k) s =
        .next (if t.flag pgGlobals .GROUP_ALIGNED then allBeds.foldl (fun u q => u.tryKey q) t.joinOrigins else t) := by
      rw [← hin]
      exact State.consume_time hw hp hpos ht hr hf hlate
    exact ⟨fun ha => by rw [hexec, ha]; rfl, fun ha => by rw [hexec, ha]; rfl⟩
  case joiner =>
    intro off s hr ha hoff
    obtain ⟨hnow, horigin⟩ := s.moveTime_pos hoff
    rw [State.alignOffset_joins hr ha]
    refine ⟨(congrArg TimeSt.now (State.setAligned_time ..)).trans hnow, State.setAligned_aligned .., fun b hb => ?_⟩
    unfold State.bed
    rw [State.setAligned_beds]
    exact horigin b (List.mem_range.2 hb)
  case member => exact fun off s hr => s.alignOffset_member off hr
  case timeout => exact fun q s h4 hr ht => s.groupAlignTimeout_leaves q h4 hr ht
  case locks =>
    intro t0 s hen hlast hlo hhi hnear
    refine ⟨_, State.timeRefEdge_locks hen hlast hlo hhi hnear, ?_, ?_, ?_, ?_, State.steerRate_rate ..⟩
    · rw [State.steerRate_flag, State.flag_put_same]
      rfl
    · rw [State.steerRate_flag, State.flag_put_fld _ _ _ _ (by decide), State.setHoldover_holdover]
    · exact congrArg TimeSt.trefLast (State.setHoldover_time ..)
    · exact (congrArg TimeSt.now (State.setHoldover_time s.stamped false)).trans rfl
  case badEdge =>
    intro t0 s hen hlast hoff
    obtain ⟨hlock, hhold, htime⟩ := s.stamped.toHoldover
    exact ⟨_, State.timeRefEdge_bad hen hlast hoff, hlock, hhold, (congrArg TimeSt.now htime).trans rfl⟩
  case quiet =>
    intro t0 s hen hlast hquiet
    exact ⟨_, State.trefHoldoverTimeout_quiet hen hlast hquiet, s.toHoldover⟩
  case cleared =>
    intro s
    rw [State.setTref_zero]
    refine ⟨?_, ?_, State.flag_put_same .., rfl⟩
    · rw [State.flag_put_fld _ _ _ _ (by decide), State.flag_put_fld _ _ _ _ (by decide)]
      exact State.flag_put_same ..
    · rw [State.flag_put_fld _ _ _ _ (by decide)]
      exact State.flag_put_same ..
  case holdEnd => exact fun s => rfl

end Sys2Proof.Machine
end

section
/-! PROOFS. What an engine's accesses leave of the memory and cache lines that they do not touch (R173, R174, R186). -/

namespace Sys2Proof.Machine

/-! ### One line's bytes in memory -/

/-- A line whose bytes are as before reads as before. -/
theorem MemSt.line_congr {m n : MemSt} {l : Nat} (h : ∀ a, lineOf a = l → n.byte a = m.byte a) : n.line l = m.line l :=
  List.map_congr_left fun i hi => h (64 * l + i) (by have := List.mem_range.1 hi; unfold lineOf; omega)

/-- Bytes stored within one line leave every other. -/
theorem MemSt.byte_setBytes_line (m : MemSt) {l a first : Nat} {data : List Byte} (h : lineOf a ≠ l) (hd : data.length ≤ 64 - first) :
    (m.setBytes (64 * l + first) data).byte a = m.byte a := by
  unfold lineOf at h
  exact m.byte_setBytes_out _ _ _ (by omega)

/-- The cells of one line dropped, with its generation, leave the bytes of every other. -/
theorem MemSt.byte_dropLine (m : MemSt) {l a : Nat} (h : lineOf a ≠ l) :
    ({ m with cells := cellDrop m.cells (fun a => lineOf a == l), undef := m.undef.del l } : MemSt).byte a = m.byte a := by
  have hcell : cellFind (cellDrop m.cells fun a => lineOf a == l) a = cellFind m.cells a := by simp [cellFind_drop, h]
  have hundef : Tab.find? (m.undef.del l) (lineOf a) = Tab.find? m.undef (lineOf a) := by simp [Tab.find?_del, h]
  simp only [MemSt.byte, MemSt.raw, MemSt.unlisted, MemSt.genOf, hcell, hundef]

/-- A line stored leaves every other. -/
theorem MemSt.line_storeLine (m : MemSt) {l j : Nat} (data : List Byte) (p rel : Bool) (h : j ≠ l) :
    (m.storeLine l data p rel).line j = m.line j :=
  MemSt.line_congr fun _ ha => (MemSt.byte_setBytes_line (first := 0) _ (ha ▸ h) (by simp [padTo])).trans (m.byte_dropLine (ha ▸ h))

/-- A line patched leaves every other. -/
theorem MemSt.line_patchLine (m : MemSt) {l j : Nat} (first : Nat) (data : List Byte) (p rel : Bool) (h : j ≠ l) :
    (m.patchLine l first data p rel).line j = m.line j :=
  MemSt.line_congr fun _ ha => MemSt.byte_setBytes_line _ (ha ▸ h) (by rw [List.length_take]; omega)

theorem lineOf_lineAddr (l : Nat) : lineOf (64 * l) = l := by
  unfold lineOf
  omega

/-! ### Lines that are not touched -/

/-- Every line that is not listed is cached as before and reads as before in memory. -/
structure State.Elsewhere (ls : List Nat) (s t : State) : Prop where
  cache : ∀ l, l ∉ ls → Tab.find? t.mem.cache l = Tab.find? s.mem.cache l
  line : ∀ l, l ∉ ls → t.mem.line l = s.mem.line l

namespace State.Elsewhere

variable {ls : List Nat} {s t u : State}

theorem refl (s : State) : Elsewhere ls s s := ⟨fun _ _ => rfl, fun _ _ => rfl⟩

theorem trans (h : Elsewhere ls s t) (k : Elsewhere ls t u) : Elsewhere ls s u where
  cache l hl := (k.cache l hl).trans (h.cache l hl)
  line l hl := (k.line l hl).trans (h.line l hl)

theorem ite {c : Prop} {_ : Decidable c} (ht : Elsewhere ls s t) (hu : Elsewhere ls s u) : Elsewhere ls s (if c then t else u) := by
  split
  · exact ht
  · exact hu

/-- What the control processor finds in such a line is as before (R176). -/
theorem peekLine (h : Elsewhere ls s t) {l : Nat} (hl : l ∉ ls) : t.peekLine l = s.peekLine l := by
  unfold State.peekLine
  rw [h.cache l hl, h.line l hl]

/-- Any state with the same memory. -/
theorem congr (h : Elsewhere ls s t) (hm : u.mem = t.mem) : Elsewhere ls s u where
  cache l hl := by rw [hm, h.cache l hl]
  line l hl := by rw [hm, h.line l hl]

theorem put (h : Elsewhere ls s t) {p : Page} {f : Fld} {v i : Nat} : Elsewhere ls s (t.put p f v i) := h.congr rfl

theorem bump (h : Elsewhere ls s t) {p : Page} {f : Fld} {n i : Nat} : Elsewhere ls s (t.bump p f n i) := h.congr rfl

theorem raise (h : Elsewhere ls s t) {p : Page} {b : Nat} {d : List Byte} : Elsewhere ls s (t.raise p b d) := h.congr (State.raise_mem ..)

/-- The regulators keep the content. -/
theorem metered (h : Elsewhere ls s t) (k : t.Metered u) : Elsewhere ls s u := by
  obtain ⟨hcontent, -⟩ := k
  refine h.trans ⟨fun l _ => ?_, fun l _ => MemSt.line_congr fun a _ => ?_⟩
  · rw [← MemSt.cache_content u.mem, hcontent, MemSt.cache_content]
  · rw [← MemSt.byte_content u.mem, hcontent, MemSt.byte_content]

theorem meter (h : Elsewhere ls s t) {b cls bed : Nat} : Elsewhere ls s (t.meter b cls bed) := h.metered (State.meter_metered ..)

/-- Memory changed in a listed line alone. -/
theorem setMem (h : Elsewhere ls s t) {m : MemSt} {l : Nat} (hl : l ∈ ls) (hcache : ∀ j, j ≠ l → Tab.find? m.cache j = Tab.find? t.mem.cache j)
    (hline : ∀ j, j ≠ l → m.line j = t.mem.line j) : Elsewhere ls s (t.setMem m) :=
  h.trans ⟨fun j hj => hcache j fun he => hj (he ▸ hl), fun j hj => hline j fun he => hj (he ▸ hl)⟩

theorem setCache (h : Elsewhere ls s t) {l : Nat} {c : CacheLine} (hl : l ∈ ls) : Elsewhere ls s (t.setCache l c) :=
  h.setMem hl (fun _ hj => Tab.find?_put_ne _ _ hj) fun _ _ => rfl

theorem dalFree (h : Elsewhere ls s t) {l : Nat} (hl : l ∈ ls) : Elsewhere ls s (t.dalFree l) := by
  have hfree : Elsewhere ls s (t.freeCache l) := h.setMem hl (fun j hj => (Tab.find?_del _ l j).trans (if_neg hj)) fun _ _ => rfl
  exact (hfree.setMem (m := (t.freeCache l).mem.loseLine l) hl (fun _ _ => rfl) fun j hj => MemSt.line_loseLine _ hj).bump

theorem stackWrite (h : Elsewhere ls s t) {a : Nat} {d : List Byte} {p rel : Bool} (hl : lineOf a ∈ ls) :
    Elsewhere ls s (t.stackWrite a d p rel) :=
  .ite h (h.setMem hl (fun _ _ => congrArg (Tab.find? · _) (MemSt.storeLine_cache ..)) fun _ hj => MemSt.line_storeLine _ _ _ _ hj)

theorem stackPatch (h : Elsewhere ls s t) {a first : Nat} {d : List Byte} {p rel : Bool} (hl : lineOf a ∈ ls) :
    Elsewhere ls s (t.stackPatch a first d p rel) :=
  .ite h (h.setMem hl (fun _ _ => congrArg (Tab.find? · _) (MemSt.patchLine_cache ..)) fun _ hj => MemSt.line_patchLine _ _ _ _ _ hj)

/-! Accesses of a bridge (R170 to R187). -/

theorem countFault (h : Elsewhere ls s t) {a : Nat} : Elsewhere ls s (t.countFault a) := h.bump.put.raise

/-- A line's poison tag is none of its bytes. -/
theorem uncorrectable (h : Elsewhere ls s t) {a : Nat} : Elsewhere ls s (t.uncorrectable a) :=
  ((h.trans ⟨fun _ _ => rfl, fun _ _ => rfl⟩ : Elsewhere ls s (t.setMem { t.mem with poison := setMark t.mem.poison (lineOf a) true })).bump.put).raise

theorem stackRead (h : Elsewhere ls s t) {a : Nat} {err : LineErr} : Elsewhere ls s (t.stackRead a err).1 := by
  unfold State.stackRead
  extract_lets l
  split
  · exact h
  · cases err with
    | corrected => exact h.bump.raise
    | uncorrectable => exact h.uncorrectable
    | none | sram => exact h

theorem useLine (h : Elsewhere ls s t) {l : Nat} {c : CacheLine} (hl : l ∈ ls) : Elsewhere ls s (t.useLine l c) := by
  unfold State.useLine
  split
  · exact h
  · exact .ite (h.dalFree hl) (h.setCache hl)

theorem serveHit (h : Elsewhere ls s t) {r : MemReq} {err : LineErr} {c : CacheLine} (hl : lineOf r.addr ∈ ls) :
    Elsewhere ls s (t.serveHit r err c).1 := by
  unfold State.serveHit
  split
  · exact .ite (h.raise.uncorrectable.setCache hl) ((h.raise.uncorrectable.setCache hl).useLine hl)
  · exact .ite h (h.useLine hl)

theorem serveMiss (h : Elsewhere ls s t) {r : MemReq} {d : List Byte} {p : Bool} (hl : lineOf r.addr ∈ ls) : Elsewhere ls s (t.serveMiss r d p) :=
  .ite h (.ite h.bump.raise (.ite (h.setCache hl) (.ite (h.dalFree hl) (h.setCache hl))))

theorem serveRead (h : Elsewhere ls s t) {r : MemReq} {err : LineErr} (hl : lineOf r.addr ∈ ls) : Elsewhere ls s (t.serveRead r err).1 := by
  unfold State.serveRead
  split
  · exact h.bump.serveHit hl
  · exact h.bump.meter.stackRead.serveMiss hl

/-- A read by an engine of the device: the egress guard is the host's. -/
theorem readLine (h : Elsewhere ls s t) {r : MemReq} {err : LineErr} {first : Bool} (hr : r.host = false) (hl : lineOf r.addr ∈ ls) :
    Elsewhere ls s (t.readLine r err first).1 := by
  unfold State.readLine
  rw [hr]
  split
  · exact h.countFault
  · exact h.serveRead hl

theorem serveWrite (h : Elsewhere ls s t) {r : MemReq} {first : Nat} {d : List Byte} {p rel : Bool} (hl : lineOf r.addr ∈ ls) :
    Elsewhere ls s (t.serveWrite r first d p rel) := by
  have hstream : ∀ u, Elsewhere ls s u → Elsewhere ls s
      (if (decide (first = 0 ∧ 64 ≤ d.length)) = true then u.stackWrite r.addr d p rel else u.stackPatch r.addr first d p rel) :=
    fun u hu => .ite (hu.stackWrite hl) (hu.stackPatch hl)
  unfold State.serveWrite
  extract_lets l b full hint reach stream
  split
  · exact h.bump.setCache hl
  · refine .ite (hstream _ h.bump.meter) (.ite (hstream _ h.bump.raise.bump.meter) (Elsewhere.setCache ?_ hl))
    show Elsewhere ls s (if full = true then (t, d, false) else (reach t).stackRead r.addr .none).1
    split
    · exact h
    · exact h.bump.meter.stackRead

theorem writeLine (h : Elsewhere ls s t) {r : MemReq} {first : Nat} {d : List Byte} {p rel : Bool} (hl : lineOf r.addr ∈ ls) :
    Elsewhere ls s (t.writeLine r first d p rel) :=
  .ite h.countFault (h.serveWrite hl)

/-- A span read touches its own lines alone. -/
theorem readSpan (h : Elsewhere ls s t) {r : MemReq} {n : Nat} (hr : r.host = false) (hl : spanLines r.addr n ⊆ ls) :
    Elsewhere ls s (t.readSpan r n).1 :=
  List.foldlRecOn (motive := fun y : State × List Byte × List Nat => Elsewhere ls s y.1) _ _ h fun _ hy l hm =>
    hy.readLine hr ((lineOf_lineAddr l).symm ▸ hl hm)

/-- A span written touches its own lines alone. -/
theorem writeSpan (h : Elsewhere ls s t) {r : MemReq} {d : List Byte} {p rel : Bool} (hl : spanLines r.addr d.length ⊆ ls) :
    Elsewhere ls s (t.writeSpan r d p rel) :=
  List.foldlRecOn (motive := fun y : State => Elsewhere ls s y) _ _ h fun _ hy l hm => hy.writeLine ((lineOf_lineAddr l).symm ▸ hl hm)

end State.Elsewhere

namespace State.Accessed

variable {s t : State}

theorem stackPatch (h : Accessed s t) {a first : Nat} {data : List Byte} {poison rel : Bool} :
    Accessed s (t.stackPatch a first data poison rel) :=
  .ite h h.setMem

theorem writeLine (h : Accessed s t) {r : MemReq} {first : Nat} {d : List Byte} {p rel : Bool} :
    Accessed s (t.writeLine r first d p rel) := by
  have hstream : ∀ u, Accessed s u → Accessed s
      (if (decide (first = 0 ∧ 64 ≤ d.length)) = true then u.stackWrite r.addr d p rel else u.stackPatch r.addr first d p rel) :=
    fun u hu => .ite hu.stackWrite hu.stackPatch
  refine .ite h.countFault ?_
  unfold State.serveWrite
  extract_lets l b full hint reach stream
  split
  · exact h.bump.setMem
  · refine .ite (hstream _ h.bump.meter) (.ite (hstream _ h.bump.raise.bump.meter) (Accessed.setMem ?_))
    show Accessed s (if full = true then (t, d, false) else (reach t).stackRead r.addr .none).1
    split
    · exact h
    · exact h.bump.meter.stackRead

theorem writeSpan (h : Accessed s t) {r : MemReq} {d : List Byte} {p rel : Bool} : Accessed s (t.writeSpan r d p rel) :=
  h.foldl fun _ _ hu => hu.writeLine

theorem arms (h : Accessed s t) : t.arms = s.arms := (congrArg State.arms (show t = _ from h) :)

end State.Accessed

end Sys2Proof.Machine
end

section
/-! PROOFS. Settles ArmatureCommands (O21): each command under the rule for what nothing stands against (`State.command_authorised`). -/

namespace Sys2Proof.Machine

/-! ### ARMATURE_LOAD and ARMATURE_UNLOAD (R147, R150) -/

/-- A file held: its slot and the lines of its source and of its slot are all that changed of armatures, beds and memory. -/
theorem State.holdArm_held {s : State} {p k : Nat} (addr : Nat) (f : File) (hk : s.freeArmSlot p = some k) :
    (s.holdArm p addr f).arms = s.arms.put (p, k) ⟨f, Config.sha384 f⟩ ∧ (s.holdArm p addr f).beds = s.beds ∧
      State.Elsewhere (spanLines addr f.length ++ spanLines (s.slotAddr p k) f.length) s (s.holdArm p addr f) := by
  generalize ht : (s.readSpan (engineReq (bedOf (s.partFirst p)) 0 0 0 addr) f.length).1.writeSpan
    (engineReq (bedOf (s.partFirst p)) 0 0 0 (s.slotAddr p k)) f = t
  have hheld : s.holdArm p addr f = { t with arms := t.arms.put (p, k) ⟨f, Config.sha384 f⟩ } := by
    rw [State.holdArm, hk, ← ht]
  have haccessed : s.Accessed t := ht ▸ (State.Accessed.refl s).readSpan.writeSpan
  have helsewhere : State.Elsewhere (spanLines addr f.length ++ spanLines (s.slotAddr p k) f.length) s t :=
    ht ▸ ((State.Elsewhere.refl s).readSpan (r := engineReq (bedOf (s.partFirst p)) 0 0 0 addr) rfl
      (List.subset_append_left ..)).writeSpan (r := engineReq (bedOf (s.partFirst p)) 0 0 0 (s.slotAddr p k))
      (List.subset_append_right (spanLines addr f.length) _)
  rw [hheld]
  exact ⟨congrArg (fun (m : Tab (Nat × Nat) ArmSlot) => m.put (p, k) _) haccessed.arms, haccessed.beds, helsewhere.congr rfl⟩

theorem State.armBusy_of_slot {s : State} {p id k : Nat} (h : s.slotOfId p id = some k) : s.armBusy p id = s.slotInUse p k := by
  rw [State.armBusy, h]

/-- A file that passes every check is held. -/
theorem exec_armatureLoad_held {req : Req} {addr len k : Nat} {s : State} (h : s.admits ⟨0x10, false, true, true, false⟩ req)
    (hlen : len ≤ 6291456) (hrange : s.rangeOk req.part addr len = true) (hfile : armLenOk (s.peek addr len) len = true)
    (hok : s.armOk req.part (s.peek addr len) = true) (hfree : s.freeArmSlot req.part = some k)
    (hbusy : s.armBusy req.part (armId (s.peek addr len)) = false) (hclean : (spanLines addr len).any s.linePoisoned = false) :
    exec (.armatureLoad req addr len) s = .next ((s.holdArm req.part addr (s.peek addr len)).reply 0) := by
  show execArmatureLoad req addr len s = _
  have hthere : (decide (len ≤ 6291456) && s.rangeOk req.part addr len) = true := by simp [hlen, hrange]
  unfold execArmatureLoad
  dsimp only
  rw [hthere, if_pos rfl, State.command_authorised true h (by simp [hlen, hfile, hok, hfree, hbusy, hclean])]
  rfl

/-- An armature that is neither active nor pending leaves its slot. -/
theorem exec_armatureUnload_unloads {req : Req} {id k : Nat} {s : State} (h : s.admits ⟨0x12, false, true, true, false⟩ req)
    (hk : s.slotOfId req.part id = some k) (hfree : s.slotInUse req.part k = false) :
    exec (.armatureUnload req id) s = .next ((s.unloadSlot req.part k).reply 0) := by
  show execArmatureUnload req id s = _
  unfold execArmatureUnload
  rw [State.command_authorised true h (by simp [hk, State.armBusy_of_slot hk, hfree]), if_pos rfl, hk]
  rfl

/-! ### ARMATURE_ACTIVATE (R151, R153) -/

/-- An accepted activation arms every bed of the armature. -/
theorem exec_armatureActivate_arms {req : Req} {id k : Nat} {a : Start} {s : State} (h : s.admits ⟨0x11, false, true, true, false⟩ req)
    (hk : s.slotOfId req.part id = some k) (hfits : a.fits = true) (hstart : ∀ b ∈ armBeds (s.fileOf req.part k), s.startOk b a = true)
    (hconflict : s.activateConflict req.part (s.fileOf req.part k) a = false) :
    exec (.armatureActivate req id a.frame a.step a.epoch a.time) s =
      .next (((armBeds (s.fileOf req.part k)).foldl (fun t b => t.armBed k (s.fileOf req.part k) a b) s).reply 0) := by
  show execArmatureActivate req id a.frame a.step a.epoch a.time s = _
  unfold execArmatureActivate
  dsimp only
  rw [hk, Option.getD_some, State.command_authorised true h (by simpa [hfits, hconflict] using hstart)]
  rfl

/-- The activation that a bed is armed with. -/
def State.activation (s : State) (slot : Nat) (f : File) (a : Start) (b : Nat) : Activation :=
  ⟨slot, armId f, a.frame, a.step, a.epoch, !(s.bed b).origin, s.seq b, s.runsArm b, false, s.anchorOf (s.partOf b) slot⟩

/-- A bed that runs no armature becomes ARMED with its activation pending. -/
theorem State.armBed_armed {s : State} (slot : Nat) (f : File) (a : Start) {b : Nat} (hr : s.runsArm b = false) :
    (s.armBed slot f a b).seq b = seqArmed ∧ (s.armBed slot f a b).get (pgBed b) .SWITCH_PENDING = 1 ∧
      (s.armBed slot f a b).get (pgBed b) .RUN = 1 ∧ ((s.armBed slot f a b).bed b).pend = some (s.activation slot f a b) := by
  generalize hu : (s.setOrigin b f a).setBed b { (s.setOrigin b f a).bed b with pend := some (s.activation slot f a b) } = u
  have harm : s.armBed slot f a b = ((u.put (pgBed b) .SWITCH_PENDING 1).put (pgBed b) .SEQ_STATE seqArmed).put (pgBed b) .RUN 1 := by
    rw [← hu]
    unfold State.armBed State.activation
    dsimp only
    rw [hr, if_neg Bool.false_ne_true]
    rfl
  rw [harm]
  refine ⟨?_, ?_, State.get_put_same .., ?_⟩
  · unfold State.seq
    rw [State.get_put_fld _ _ _ _ _ _ (by decide), State.get_put_same]
    rfl
  · rw [State.get_put_fld _ _ _ _ _ _ (by decide), State.get_put_fld _ _ _ _ _ _ (by decide), State.get_put_same]
    rfl
  · show (u.bed b).pend = _
    rw [← hu, State.setBed_bed]

/-! ### What a plan's key agreement and origin leave of the partitions (R242, R291) -/

section Parts

variable (s : State)

theorem State.send_parts (q dest cls ty : Nat) (tf d : List Byte) (p : Bool) : (s.send q dest cls ty tf d p).parts = s.parts := by
  refine (foldl_unchanged State.parts _ (fun _ _ => ?_) _ _).trans ?_ <;> rfl

theorem State.sendKa_parts (p dest code : Nat) (d : List Byte) : (s.sendKa p dest code d).parts = s.parts := State.send_parts ..

theorem State.kaFail_parts (p peer : Nat) : (s.kaFail p peer).parts = s.parts :=
  (State.sendKa_parts ..).trans (State.raise_parts ..)

theorem State.sendSigned_parts (p src : Nat) : (s.sendSigned p src).parts = s.parts := by
  unfold State.sendSigned
  split
  · rfl
  · exact State.sendKa_parts ..

theorem State.takeEarly_parts (p : Nat) : (s.takeEarly p).parts = s.parts := by
  refine foldl_unchanged State.parts _ (fun t e => ?_) _ _
  split
  · rfl
  · exact State.kaFail_parts ..

theorem State.installLink_parts (p : Nat) (gk : List Byte) : (s.installLink p gk).parts = s.parts := by
  unfold State.installLink
  split
  · rfl
  · split <;> rfl

theorem State.encPorts_parts (p : Nat) : (s.encPorts p).parts = s.parts := by
  refine foldl_unchanged State.parts _ (fun _ _ => ?_) _ _
  rfl

theorem State.startKeying_parts (p : Nat) : (s.startKeying p).parts = s.parts := by
  have hsigned : ∀ (t : State) (l : List Nat), (l.foldl (fun s d => s.sendSigned p d) t).parts = t.parts :=
    fun t l => foldl_unchanged State.parts _ (fun u d => u.sendSigned_parts p d) l t
  unfold State.startKeying
  extract_lets lead r t u n v w
  have hu : u.parts = s.parts := (hsigned t _).trans ((State.installLink_parts ..).trans (s.takeEarly_parts p))
  split
  · split
    · exact (u.encPorts_parts p).trans hu
    · exact hu
  · exact State.sendKa_parts ..

theorem State.tryKey_parts (p : Nat) : (s.tryKey p).parts = s.parts := by
  unfold State.tryKey
  extract_lets x
  split
  · rfl
  · split
    · split
      · exact s.startKeying_parts p
      · exact (State.encPorts_parts ..).trans (State.installLink_parts ..)
    · rfl

theorem State.keyAnew_parts (p : Nat) : (s.keyAnew p).parts = s.parts := by
  unfold State.keyAnew
  split
  · rfl
  · split
    · rfl
    · exact State.tryKey_parts ..

theorem State.joinOrigin_parts (q hash step : Nat) : (s.joinOrigin q hash step).parts = s.parts := by
  refine foldl_unchanged State.parts _ (fun _ _ => ?_) _ _
  rfl

end Parts

/-! ### GRAFT_PLAN and REGROW (R217, R241) -/

/-- A plan kept for its vote; one for the same step is replaced. -/
def State.graftPlanned (s : State) (q hash step : Nat) : State :=
  s.setPart q { s.part q with graft := (s.part q).graft.filter (fun g => g.2 != step) ++ [(hash, step)] }

/-- A partition that is to join also takes the group's origin and begins its key agreement anew. -/
theorem exec_graftPlan_keeps {req : Req} {hash step : Nat} {s : State} (h : s.admits ⟨0x30, false, true, true, false⟩ req)
    (hhash : hash < 2 ^ 64) (hstep : step < 2 ^ 32) (hconflict : s.planConflict req.part hash step = false) :
    exec (.graftPlan req hash step) s = .next ((if (s.graftPlanned req.part hash step).joins req.part then
      ((s.graftPlanned req.part hash step).joinOrigin req.part hash step).keyAnew req.part else s.graftPlanned req.part hash step).reply 0) := by
  show execGraftPlan req hash step s = _
  unfold execGraftPlan
  dsimp only
  rw [State.command_authorised true h (by simp [hconflict]; omega)]
  rfl

/-- The plan is in the partition, whether it joins or not. -/
theorem State.graftPlanned_mem (s : State) (q hash step : Nat) (c : Prop) [Decidable c] : (hash, step) ∈
    ((if c then ((s.graftPlanned q hash step).joinOrigin q hash step).keyAnew q else s.graftPlanned q hash step).part q).graft := by
  have hparts : (if c then ((s.graftPlanned q hash step).joinOrigin q hash step).keyAnew q else s.graftPlanned q hash step).parts =
      (s.graftPlanned q hash step).parts := by
    split
    · exact (State.keyAnew_parts ..).trans (State.joinOrigin_parts ..)
    · rfl
  unfold State.part
  rw [hparts]
  show (hash, step) ∈ ((s.graftPlanned q hash step).part q).graft
  rw [State.graftPlanned, State.setPart_part]
  exact List.mem_append_right _ (List.mem_singleton_self _)

/-- Whether a partition joins does not depend on its plans. -/
theorem State.graftPlanned_joins (s : State) (q hash step : Nat) : (s.graftPlanned q hash step).joins q = s.joins q := by
  unfold State.joins
  congr 2

theorem exec_regrow_begins {req : Req} {partner source cut : Nat} {s : State} (h : s.admits ⟨0x31, false, true, true, false⟩ req)
    (hpartner : partner < 8191) (hsource : source < 8191) (hcut : cut < 2 ^ 32) (hmember : s.sourceMember req.part source = true)
    (hruns : s.anyBedRuns = false) :
    exec (.regrow req partner source cut true true) s = .next (((s.forgetUpdates req.part).setPart req.part
      { s.part req.part with regrowing := true, regrowFrom := cut, regrowSrc := source, regrowStep := cut }).reply 0) := by
  show execRegrow req partner source cut true true s = _
  unfold execRegrow
  dsimp only
  rw [State.command_authorised true h (by simp [hmember, hruns]; omega)]
  rfl

/-- A bad argument is answered before a conflict (R41). -/
theorem pickStatus_badArg_first (c : Bool) : pickStatus [(true, stBadArg), (c, stConflict)] = some stBadArg := by
  cases c <;> rfl

/-- A source outside the group is refused, and the record shows the first bad argument (R350). -/
theorem exec_regrow_noMember {req : Req} {partner source cut : Nat} {v h : Bool} {s : State} (hadm : s.admits ⟨0x31, false, true, true, false⟩ req)
    (hmember : s.sourceMember req.part source = false) :
    exec (.regrow req partner source cut v h) s = .next (s.refuse pgCp 0x01 0x31 req.path (if 8191 ≤ partner then partner else source)) := by
  show execRegrow req partner source cut v h s = _
  unfold execRegrow
  dsimp only
  rw [hmember, Bool.not_false, Bool.or_true]
  exact State.command_badArg hadm (pickStatus_badArg_first _)

/-- Settles O21: each clause is the rule of its command. -/
theorem armatureCommands : Obligations.ArmatureCommands := by
  refine ⟨?load, ?held, ?unload, ?activate, ?armed, ?plan, ?regrow, ?noMember⟩
  case load => exact fun req addr len k s h hlen hr hf hok hk hb hc => exec_armatureLoad_held h hlen hr hf hok hk hb hc
  case held =>
    intro p addr k f s hk
    obtain ⟨harms, hbeds, helsewhere⟩ := s.holdArm_held addr f hk
    refine ⟨harms, hbeds, fun l hsource hslot => ?_⟩
    have hl : l ∉ spanLines addr f.length ++ spanLines (s.slotAddr p k) f.length := by simp [hsource, hslot]
    exact ⟨helsewhere.line l hl, helsewhere.peekLine hl⟩
  case unload => exact fun req id k s h hk hf => exec_armatureUnload_unloads h hk hf
  case activate =>
    intro req id k frame step epoch time s h hk hframe hstep hepoch htime hstart hconflict
    exact exec_armatureActivate_arms (a := ⟨frame, step, epoch, time⟩) h hk (by simp [Start.fits]; omega) hstart hconflict
  case armed =>
    intro slot f a b s hr
    obtain ⟨hseq, hpending, hrun, hpend⟩ := s.armBed_armed slot f a hr
    exact ⟨hseq, hpending, hrun, _, hpend, rfl, rfl, rfl, rfl⟩
  case plan =>
    intro req hash step s h hhash hstep hconflict
    have hexec := exec_graftPlan_keeps h hhash hstep hconflict
    refine ⟨fun hj => ?_, _, hexec, rfl, s.graftPlanned_mem ..⟩
    rw [hexec, State.graftPlanned_joins, hj]
    rfl
  case regrow => exact fun req partner source cut s h hp hs hc hm hr => exec_regrow_begins h hp hs hc hm hr
  case noMember => exact fun req partner source cut v h s hadm hm => exec_regrow_noMember hadm hm

end Sys2Proof.Machine
end

section
/-! PROOFS. What the closing frame of one bed leaves of another bed's work (R155, R156): the relation `State.Apart` and its rules for the operations of a close. -/

namespace Sys2Proof.Machine

/-! ### A core's work -/

/-- What runs and is moved on a core, and where its lists stand in the frame. -/
structure CoreWork where
  running : Nat → Option Running
  cursor : Nat → Nat
  endCyc : Nat → Nat
  skip : Nat → Bool
  xbusy : Nat → Bool
  xcursor : Nat → Nat

def CoreSt.work (c : CoreSt) (n : Nat) : CoreWork where
  running e := Tab.find? c.running (n, e)
  cursor e := c.cursor.get (n, e) 0
  endCyc e := c.endCyc.get (n, e) 0
  skip x := c.skip.contains (n, x)
  xbusy x := c.xbusy.contains (n, x)
  xcursor x := c.xcursor.get (n, x) 0

/-- A core's device-wide number names its bed. -/
theorem coreNo_div {b c : Nat} (h : c < 384) : coreNo b c / 384 = b := by
  unfold coreNo
  omega

section Work

variable (c : CoreSt) {n m : Nat}

theorem CoreSt.work_delRunning (e : Nat) (h : m ≠ n) : ({ c with running := c.running.del (n, e) } : CoreSt).work m = c.work m := by
  have hrunning : (fun i => Tab.find? (c.running.del (n, e)) (m, i)) = fun i => Tab.find? c.running (m, i) :=
    funext fun i => (Tab.find?_del c.running (n, e) (m, i)).trans (if_neg fun hk => h (congrArg Prod.fst hk))
  exact congrArg (fun g => { c.work m with running := g }) hrunning

theorem CoreSt.work_putCursor (e k : Nat) (h : m ≠ n) : ({ c with cursor := c.cursor.put (n, e) k } : CoreSt).work m = c.work m := by
  have hcursor : (fun i => (c.cursor.put (n, e) k).get (m, i) 0) = fun i => c.cursor.get (m, i) 0 :=
    funext fun i => Tab.get_put_ne _ _ _ fun hk => h (congrArg Prod.fst hk)
  exact congrArg (fun g => { c.work m with cursor := g }) hcursor

theorem CoreSt.work_putXcursor (x k : Nat) (h : m ≠ n) : ({ c with xcursor := c.xcursor.put (n, x) k } : CoreSt).work m = c.work m := by
  have hcursor : (fun i => (c.xcursor.put (n, x) k).get (m, i) 0) = fun i => c.xcursor.get (m, i) 0 :=
    funext fun i => Tab.get_put_ne _ _ _ fun hk => h (congrArg Prod.fst hk)
  exact congrArg (fun g => { c.work m with xcursor := g }) hcursor

theorem CoreSt.work_consSkip (x : Nat) (h : m ≠ n) : ({ c with skip := (n, x) :: c.skip } : CoreSt).work m = c.work m := by
  have hskip : (fun i => ((n, x) :: c.skip).contains (m, i)) = fun i => c.skip.contains (m, i) := funext fun i => by simp [h]
  exact congrArg (fun g => { c.work m with skip := g }) hskip

theorem CoreSt.work_filterXbusy (x : Nat) (h : m ≠ n) :
    ({ c with xbusy := c.xbusy.filter (· != (n, x)) } : CoreSt).work m = c.work m := by
  have hbusy : (fun i => (c.xbusy.filter (· != (n, x))).contains (m, i)) = fun i => c.xbusy.contains (m, i) := by
    funext i
    rw [Bool.eq_iff_iff]
    simp [h]
  exact congrArg (fun g => { c.work m with xbusy := g }) hbusy

end Work

/-! ### Another bed's work -/

/-- The registers on which a bed's lists and the length of its frame depend. -/
def workFields : List Fld := [.PART_LOG2, .LAYER_ST, .FREQ_MHZ, .FRAME_US, .FRAME_IN_STEP]

/-- Bed b, the armatures and the work of the bed's cores are as before. -/
structure State.Apart (b : Nat) (s t : State) : Prop where
  bed : t.bed b = s.bed b
  arms : t.arms = s.arms
  regs : ∀ f ∈ workFields, ∀ p i, t.get p f i = s.get p f i
  work : ∀ n, n / 384 = b → t.cores.work n = s.cores.work n

namespace State.Apart

variable {b : Nat} {s t u : State}

theorem refl (s : State) : Apart b s s := ⟨rfl, rfl, fun _ _ _ _ => rfl, fun _ _ => rfl⟩

theorem trans (h : Apart b s t) (k : Apart b t u) : Apart b s u where
  bed := k.bed.trans h.bed
  arms := k.arms.trans h.arms
  regs f hf p i := (k.regs f hf p i).trans (h.regs f hf p i)
  work n hn := (k.work n hn).trans (h.work n hn)

theorem ite {c : Prop} {_ : Decidable c} (ht : Apart b s t) (hu : Apart b s u) : Apart b s (if c then t else u) := by
  split
  · exact ht
  · exact hu

theorem foldl {α : Type} {f : State → α → State} {l : List α} (h : Apart b s t) (hf : ∀ u a, Apart b s u → Apart b s (f u a)) :
    Apart b s (l.foldl f t) :=
  List.foldlRecOn l f h fun u hu a _ => hf u a hu

/-- The same of an operation that leaves the bed's work for the members of the list. -/
theorem foldlMem {α : Type} {f : State → α → State} {l : List α} (h : Apart b s t)
    (hf : ∀ u, ∀ a ∈ l, Apart b s u → Apart b s (f u a)) : Apart b s (l.foldl f t) :=
  List.foldlRecOn l f h fun u hu a ha => hf u a ha hu

/-- Any state with the beds, armatures, registers and cores of one that leaves the bed's work. -/
theorem frame (h : Apart b s t)
    {pending free out latches coarse staging directory stops halted once time pw parts mem upd fab red noise evr sec host isl tap} :
    Apart b s ⟨pending, free, out, t.regs, latches, coarse, staging, directory, stops, halted, once, time, pw, t.beds, parts, t.arms, t.cores,
      mem, upd, fab, red, noise, evr, sec, host, isl, tap⟩ := ⟨h.bed, h.arms, h.regs, h.work⟩

/-! ### Registers and records -/

theorem put (h : Apart b s t) {p : Page} {f : Fld} {v i : Nat} (hf : f ∉ workFields) : Apart b s (t.put p f v i) where
  bed := h.bed
  arms := h.arms
  regs g hg q j := (State.get_put_fld _ _ _ _ _ _ fun (he : g = f) => hf (he ▸ hg)).trans (h.regs g hg q j)
  work := h.work

theorem bump (h : Apart b s t) {p : Page} {f : Fld} {n i : Nat} (hf : f ∉ workFields) : Apart b s (t.bump p f n i) := h.put hf

theorem resetFields (h : Apart b s t) {p : Page} {fs : List Fld} (hf : ∀ f ∈ fs, f ∉ workFields) : Apart b s (t.resetFields p fs) where
  bed := h.bed
  arms := h.arms
  regs g hg q j := by
    have hg' : g ∉ fs := fun hm => hf g hm hg
    refine Eq.trans ?_ (h.regs g hg q j)
    simp [State.get, Tab.get, State.resetFields, Tab.find?_delIf, hg']
  work := h.work

theorem recordAt (h : Apart b s t) {code : Nat} {p : Page} {payload : List Byte} {frame : Nat} :
    Apart b s (t.recordAt code p payload frame) where
  bed := (congrArg (fun l => Tab.get l b BedSt.reset) (State.recordAt_beds ..)).trans h.bed
  arms := (State.recordAt_arms ..).trans h.arms
  regs f hf q i := by
    have hrec : ∀ f ∈ workFields, recordField f = false := by decide
    have hevt : ∀ f ∈ workFields, f ≠ .EVT := by decide
    exact (State.recordAt_get _ _ _ _ _ _ _ (hrec f hf) fun _ => hevt f hf).trans (h.regs f hf q i)
  work n hn := (congrArg (fun c => CoreSt.work c n) (State.recordAt_cores ..)).trans (h.work n hn)

theorem record (h : Apart b s t) {code : Nat} {p : Page} {payload : List Byte} : Apart b s (t.record code p payload) := h.recordAt

theorem evt (h : Apart b s t) {p : Page} {bit : Nat} : Apart b s (t.evt p bit) := h.put (by decide)

theorem raise (h : Apart b s t) {p : Page} {bit : Nat} {payload : List Byte} : Apart b s (t.raise p bit payload) := h.evt.record

theorem raiseFlags (h : Apart b s t) {n : Nat} {fl : Flags} : Apart b s (t.raiseFlags n fl) := .ite h (h.put (by decide))

/-! ### Beds and staging -/

/-- Another bed changed. -/
theorem setBed (h : Apart b s t) {x : Nat} {y : BedSt} (hx : b ≠ x) : Apart b s (t.setBed x y) where
  bed := (State.setBed_bed_ne _ _ hx).trans h.bed
  arms := h.arms
  regs := h.regs
  work := h.work

/-- A set of values of frame-committed fields; a bed's work depends on none of these (R33). -/
theorem applySet (h : Apart b s t) {p : Page} {set : List (FieldKey × Nat)} (hset : ∀ e ∈ set, (fieldInfo e.1.fld).kind = .frame) :
    Apart b s (t.applySet p set) := by
  have hwork : ∀ f ∈ workFields, (fieldInfo f).kind ≠ .frame := by decide
  have hone : ∀ u, ∀ e ∈ set, Apart b s u → Apart b s (u.applyOne e.1 e.2) := fun u e he hu => by
    have hk : e.1.fld ∉ workFields := fun hf => hwork _ hf (hset e he)
    unfold State.applyOne
    dsimp only
    split
    · exact .ite (hu.put hk).record (hu.put hk)
    · exact hu.put hk
    · exact .ite (hu.put hk) hu.record
    · exact hu.put hk
  exact ((h.foldlMem hone).put (by decide)).put (by decide)

theorem setStaging (h : Apart b s t) {p : Page} {x : Staging} : Apart b s (t.setStaging p x) := h.frame

/-- A page's tick where its staged values are of frame-committed fields (R32, R33). -/
theorem tickPage (h : Apart b s t) {p : Page} (hp : stagedLegal p (t.stagingOf p)) : Apart b s (t.tickPage p) := by
  unfold State.tickPage
  dsimp only
  split
  next => exact h
  next set l hw =>
    refine h.setStaging.applySet fun e he => (hp e (List.mem_append_right _ (List.mem_flatMap.mpr ⟨(set, 0), ?_, he⟩))).2
    rw [hw]
    exact List.mem_cons_self
  next => exact h.setStaging

/-- The ticks of a bed's pages where the staging is legal (R32, R33). -/
theorem tickPages (h : Apart b s t) {x : Nat} (hl : t.stagingLegal) : Apart b s (t.tickPages x) := by
  have hpages : Apart b s (t.tickPages x) ∧ Keeps t (t.tickPages x) :=
    List.foldlRecOn (motive := fun u : State => Apart b s u ∧ Keeps t u) _ _ ⟨h, .refl t⟩ fun u hu p _ => by
      refine ⟨?_, .ite hu.2.tickPage hu.2⟩
      split
      · exact hu.1.tickPage ((hu.2.staging hl).of p)
      · exact hu.1
  exact hpages.1

theorem endStops (h : Apart b s t) {x : Nat} : Apart b s (t.endStops x) := h.foldl fun _ _ h => h.frame.put (by decide)

/-! ### Cores -/

theorem setCores (h : Apart b s t) {c : CoreSt} (hc : ∀ n, n / 384 = b → c.work n = t.cores.work n) : Apart b s (t.setCores c) where
  bed := h.bed
  arms := h.arms
  regs := h.regs
  work n hn := (hc n hn).trans (h.work n hn)

/-- A core changed in what is no work of it. -/
theorem sameWork (h : Apart b s t) {c : CoreSt} (hc : c.work = t.cores.work) : Apart b s (t.setCores c) := h.setCores fun n _ => congrFun hc n

theorem abandon (h : Apart b s t) {n k m : Nat} : Apart b s (t.abandon n k m) := h.foldl fun _ _ h => h.sameWork rfl

theorem poisonNorms (h : Apart b s t) {n : Nat} {m : MatBlk} : Apart b s (t.poisonNorms n m) := h.foldl fun _ _ h => h.sameWork rfl

theorem skipMatrix (h : Apart b s t) {x c : Nat} {arm : Option Nat} {m : MatBlk} : Apart b s (t.skipMatrix x c arm m) :=
  .ite (.ite h.abandon.poisonNorms h.abandon) (.ite (h.abandon.sameWork rfl) h.abandon)

/-- An entry skipped, on whatever bed: only its slots and a count change (R124). -/
theorem skipEntry (h : Apart b s t) {x c e : Nat} {i : Issue} : Apart b s (t.skipEntry x c e i) :=
  .ite (.ite (h.bump (by decide)).skipMatrix (h.bump (by decide))) h

theorem skipXfer (h : Apart b s t) {x c k : Nat} : Apart b s (t.skipXfer x c k) :=
  .ite ((h.bump (by decide)).sameWork rfl) (((h.bump (by decide)).sameWork rfl).sameWork rfl)

theorem setCursor (h : Apart b s t) {n e k : Nat} (hn : n / 384 ≠ b) : Apart b s (t.setCursor n e k) :=
  h.setCores fun _ hm => CoreSt.work_putCursor _ e k fun he => hn (he ▸ hm)

theorem nextEntry (h : Apart b s t) {x c e : Nat} {l : List Issue} {k : Nat} (hn : coreNo x c / 384 ≠ b) :
    Apart b s (State.nextEntry x c e l k t).1 := by
  induction l generalizing k t with
  | nil => exact h.setCursor hn
  | cons i l ih =>
    unfold State.nextEntry
    split
    · exact ih h
    · split
      · exact ih h.skipEntry
      · exact h.setCursor hn

theorem skipEngine (h : Apart b s t) {x c e : Nat} (hn : coreNo x c / 384 ≠ b) : Apart b s (t.skipEngine x c e) :=
  (h.foldl fun _ _ h => h.skipEntry).setCursor hn

theorem skipXfers (h : Apart b s t) {x c k : Nat} (hn : coreNo x c / 384 ≠ b) : Apart b s (t.skipXfers x c k) :=
  (h.foldl fun _ _ h => h.skipXfer).setCores fun _ hm => CoreSt.work_putXcursor _ k _ (by rintro rfl; exact hn hm)

theorem stopEngine (h : Apart b s t) {x c e : Nat} (hn : coreNo x c / 384 ≠ b) : Apart b s (t.stopEngine x c e) := by
  unfold State.stopEngine
  split
  · exact h
  · extract_lets _ stopped counted shown
    have hstopped : Apart b s stopped := h.setCores fun _ hm => CoreSt.work_delRunning _ e fun he => hn (he ▸ hm)
    have hshown : Apart b s shown := (hstopped.bump (by decide)).put (by decide)
    exact .ite hshown.skipMatrix hshown

theorem stopXfer (h : Apart b s t) {x c k : Nat} (hn : coreNo x c / 384 ≠ b) : Apart b s (t.stopXfer x c k) :=
  .ite (h.setCores fun _ hm => CoreSt.work_filterXbusy _ k (by rintro rfl; exact hn hm)).skipXfer h

theorem ctxReset (h : Apart b s t) {x c k code : Nat} (hn : coreNo x c / 384 ≠ b) : Apart b s (t.ctxReset x c k code) := by
  have hstopped : Apart b s (t.ctxStopped x c k) := h.foldl fun u e hu => by
    unfold State.stopIf
    split
    · exact .ite (hu.stopEngine hn) hu
    · exact hu
  have hskips : Apart b s ((t.ctxStopped x c k).ctxSkips x c k) := hstopped.setCores fun _ hm => by
    dsimp only
    split
    · rfl
    · exact CoreSt.work_consSkip _ k fun he => hn (he ▸ hm)
  have hshown : Apart b s (((t.ctxStopped x c k).ctxSkips x c k).showReset x c k) :=
    (((hskips.put (by decide)).put (by decide)).bump (by decide)).put (by decide)
  rw [State.ctxReset_eq]
  exact hshown.record

/-- An operation on the cores of another bed. -/
theorem onCores (h : Apart b s t) {x : Nat} {g : State → Nat → State} (hx : b ≠ x)
    (hg : ∀ u c, coreNo x c / 384 ≠ b → Apart b s u → Apart b s (g u c)) : Apart b s (t.onCores x g) :=
  .ite h (h.foldlMem fun u c hc hu => hg u c (by rw [coreNo_div (List.mem_range.1 hc)]; exact hx.symm) hu)

theorem skipFrame (h : Apart b s t) {x : Nat} (hx : b ≠ x) : Apart b s (t.skipFrame x) :=
  h.onCores hx fun _ _ hn h => (h.foldl fun _ _ h => h.skipEngine hn).foldl fun _ _ h => h.skipXfers hn

theorem stopRunning (h : Apart b s t) {x : Nat} (hx : b ≠ x) : Apart b s (t.stopRunning x) :=
  h.onCores hx fun _ _ hn h => (h.foldl fun _ _ h => h.stopEngine hn).foldl fun _ _ h => h.stopXfer hn

/-! ### Another bed that closes its frame (R153, R155, R156) -/

theorem setSeq (h : Apart b s t) {x st : Nat} : Apart b s (t.setSeq x st) :=
  .ite ((h.frame.endStops.put (by decide)).put (by decide)) ((h.put (by decide)).put (by decide))

theorem dropPending (h : Apart b s t) {x : Nat} (hx : b ≠ x) : Apart b s (t.dropPending x) := by
  unfold State.dropPending
  split
  · exact h
  · have hdropped := (h.setBed (y := { t.bed x with pend := none }) hx).put (p := pgBed x) (f := .SWITCH_PENDING) (v := 0) (i := 0) (by decide)
    exact .ite (((hdropped.setBed hx).put (by decide)).put (by decide)) hdropped

theorem idleBed (h : Apart b s t) {x : Nat} (hx : b ≠ x) : Apart b s (t.idleBed x) := by
  have hasked : Apart b s (((t.stopRunning x).skipFrame x).askUnits x) := ((h.stopRunning hx).skipFrame hx).frame
  exact (((hasked.dropPending hx).setSeq).setBed hx).put (by decide)

theorem passSkipped (h : Apart b s t) {x : Nat} (hx : b ≠ x) : Apart b s (t.passSkipped x) :=
  .ite h (h.onCores hx fun _ _ hn h => h.foldl fun _ _ h => h.nextEntry hn)

/-- The stalls of a bed counted, whichever bed it is (R124). -/
theorem countStalls (h : Apart b s t) {x : Nat} : Apart b s (t.countStalls x) :=
  .ite h (h.foldl fun _ _ h => h.foldl fun _ _ h => .ite ((h.bump (by decide)).put (by decide)) h)

theorem realign (h : Apart b s t) {x : Nat} (hx : b ≠ x) : Apart b s (t.realign x) := by
  unfold State.realign
  extract_lets counted shown reset stopped
  have hcounted : Apart b s counted := h.bump (by decide)
  have hshown : Apart b s shown := .ite hcounted.evt hcounted.raise
  have hreset : Apart b s reset := hshown.onCores hx fun _ _ hn h => h.foldl fun _ _ h => .ite (h.ctxReset hn) h
  exact ((hreset.stopRunning hx).setSeq).setBed hx

theorem overrun (h : Apart b s t) {x : Nat} (hx : b ≠ x) : Apart b s (t.overrun x) :=
  (((h.bump (by decide)).raise.skipFrame hx).setSeq).setBed hx

theorem closeRun (h : Apart b s t) {x : Nat} (hx : b ≠ x) : Apart b s (t.closeRun x) := by
  have hnoted : Apart b s (((t.passSkipped x).countStalls x).noteSlack x) := ((h.passSkipped hx).countStalls).setBed hx
  exact .ite (hnoted.idleBed hx) (.ite (hnoted.realign hx) (.ite (hnoted.overrun hx) hnoted))

theorem coarseSnap (h : Apart b s t) {x : Nat} : Apart b s (t.coarseSnap x) := h.frame

theorem watchSnap (h : Apart b s t) {x step : Nat} : Apart b s (t.watchSnap x step) := by
  have hwatch : ∀ e ∈ (List.range 6).zip watchFields, e.2 ∉ workFields := by decide
  have hclosed : Apart b s (t.closeWatch x) := h.sameWork rfl
  have hflags : Apart b s ((t.closeWatch x).normFlags x) := hclosed.foldl fun _ _ h => h.raiseFlags
  exact (((hflags.resetFields (by decide)).foldl fun _ _ h => h.foldlMem fun _ e he h => h.put (hwatch e he)).put (by decide)).put (by decide)

/-- The close of another bed's frame leaves the bed's work. -/
theorem closeBed (h : Apart b s t) {x n : Nat} {boundary : Bool} (hx : b ≠ x) (hl : t.stagingLegal) : Apart b s (t.closeBed x n boundary) := by
  unfold State.closeBed
  extract_lets closed _ started paged
  have hclosed : Apart b s closed := .ite (h.closeRun hx) h
  have hkeeps : Keeps t (((started.put (pgBed x) .FRAME_NUMBER n).coarseSnap x).endStops x) :=
    (Keeps.ite (Keeps.refl t).closeRun (.refl t)).setBed.put.coarseSnap.endStops
  have hstarted : Apart b s started := hclosed.setBed hx
  have hpaged : Apart b s paged := ((hstarted.put (by decide)).coarseSnap.endStops).tickPages (hkeeps.staging hl)
  exact .ite hpaged.watchSnap hpaged

end State.Apart

end Sys2Proof.Machine
end

section
/-! PROOFS. What a bed's own close leaves of what it waits for (R155): the relation `State.SameWork`, in which an engine's next entry may move past entries that are not waited for (R124, R143). -/

namespace Sys2Proof.Machine

/-! ### What a bed's lists depend on -/

/-- The bed's armature, the length of its frame and whether it stops are as before, and the registers on which its lists depend. -/
structure State.SameLists (b : Nat) (s t : State) : Prop where
  active : (t.bed b).active = (s.bed b).active
  stretched : (t.bed b).stretched = (s.bed b).stretched
  stopping : (t.bed b).stopping = (s.bed b).stopping
  arms : t.arms = s.arms
  regs : ∀ f ∈ workFields, ∀ p i, t.get p f i = s.get p f i

namespace State.SameLists

variable {b : Nat} {s t u : State}

theorem refl (s : State) : SameLists b s s := ⟨rfl, rfl, rfl, rfl, fun _ _ _ _ => rfl⟩

theorem trans (h : SameLists b s t) (k : SameLists b t u) : SameLists b s u where
  active := k.active.trans h.active
  stretched := k.stretched.trans h.stretched
  stopping := k.stopping.trans h.stopping
  arms := k.arms.trans h.arms
  regs f hf p i := (k.regs f hf p i).trans (h.regs f hf p i)

theorem partSize (h : SameLists b s t) : t.partSize = s.partSize := by
  unfold State.partSize State.partCount
  rw [h.regs .PART_LOG2 (by decide)]

theorem partOf (h : SameLists b s t) (x : Nat) : t.partOf x = s.partOf x := by
  unfold State.partOf
  rw [h.partSize]

theorem armOf (h : SameLists b s t) : t.armOf b = s.armOf b := by
  unfold State.armOf State.fileOf State.armSlot
  rw [h.active, h.partOf, h.arms]

theorem frameIn (h : SameLists b s t) : t.frameIn b = s.frameIn b := h.regs .FRAME_IN_STEP (by decide) _ _

theorem coreList (h : SameLists b s t) (c e : Nat) : t.coreList b c e = s.coreList b c e := by
  unfold State.coreList
  rw [h.armOf, h.frameIn]

theorem coreXfers (h : SameLists b s t) (c : Nat) : t.coreXfers b c = s.coreXfers b c := by
  unfold State.coreXfers
  rw [h.armOf, h.frameIn]

theorem maskAllows (h : SameLists b s t) (layer mask : Nat) : t.maskAllows b layer mask = s.maskAllows b layer mask := by
  unfold State.maskAllows State.layerState State.partFirst
  rw [h.partOf, h.partSize, h.regs .LAYER_ST (by decide)]

theorem frameCycles (h : SameLists b s t) : t.frameCycles b = s.frameCycles b := by
  unfold State.frameCycles
  rw [h.regs .FREQ_MHZ (by decide), h.regs .FRAME_US (by decide), h.stretched]

end State.SameLists

theorem State.Apart.lists {b : Nat} {s t : State} (h : s.Apart b t) : s.SameLists b t where
  active := congrArg BedSt.active h.bed
  stretched := congrArg BedSt.stretched h.bed
  stopping := congrArg BedSt.stopping h.bed
  arms := h.arms
  regs := h.regs

/-! ### What a bed waits for -/

/-- An entry that is waited for: STATE_MASK lets it issue and its context does not skip (R124, R143). -/
def State.awaited (s : State) (b c : Nat) (i : Issue) : Bool :=
  !(s.cores.work (coreNo b c)).skip i.ctx && s.maskAllows b i.layer i.mask

/-- From an index on, an engine's list holds an entry that is waited for. -/
def State.awaitsFrom (s : State) (b c e k : Nat) : Bool := ((s.coreList b c e).drop k).any fun i => s.awaited b c i

/-- What a core has not finished of the bed's frame. -/
def State.coreUnfinished (s : State) (b c : Nat) : Bool :=
  let w := s.cores.work (coreNo b c)
  ([0, 1, 2, 3, 4].any fun e => (w.running e).isSome || s.awaitsFrom b c e (w.cursor e)) ||
    ([3, 4].any fun e => decide (s.frameCycles b < w.endCyc e)) ||
    (List.range 8).any fun x => w.xbusy x || decide (w.xcursor x < ((s.coreXfers b c).filter (·.ctx == x)).length)

theorem State.unfinished_eq (s : State) (b : Nat) : s.unfinished b = (!(s.armOf b).isEmpty && (List.range 384).any fun c => s.coreUnfinished b c) :=
  rfl

/-- The bed's lists are as before, and so is what its cores wait for. -/
structure State.SameWork (b : Nat) (s t : State) : Prop extends State.SameLists b s t where
  work : ∀ n, n / 384 = b → ∃ k, t.cores.work n = { s.cores.work n with cursor := k }
  awaits : ∀ c < 384, ∀ e, t.awaitsFrom b c e ((t.cores.work (coreNo b c)).cursor e) = s.awaitsFrom b c e ((s.cores.work (coreNo b c)).cursor e)

/-- Where the lists and the skipping contexts stay, so do the entries that are waited for. -/
theorem State.SameLists.awaitsFrom {b : Nat} {s t : State} (h : s.SameLists b t) {c : Nat}
    (hskip : (t.cores.work (coreNo b c)).skip = (s.cores.work (coreNo b c)).skip) (e k : Nat) : t.awaitsFrom b c e k = s.awaitsFrom b c e k := by
  unfold State.awaitsFrom State.awaited
  simp only [h.coreList, h.maskAllows, hskip]

namespace State.SameWork

variable {b : Nat} {s t u : State}

theorem trans (h : SameWork b s t) (k : SameWork b t u) : SameWork b s u where
  toSameLists := h.toSameLists.trans k.toSameLists
  work n hn := by
    obtain ⟨i, hi⟩ := h.work n hn
    obtain ⟨j, hj⟩ := k.work n hn
    exact ⟨j, by rw [hj, hi]⟩
  awaits c hc e := (k.awaits c hc e).trans (h.awaits c hc e)

/-- With its cores untouched a bed's work is as before. -/
theorem of_work (h : SameLists b s t) (hw : ∀ n, n / 384 = b → t.cores.work n = s.cores.work n) : SameWork b s t where
  toSameLists := h
  work n hn := ⟨_, hw n hn⟩
  awaits c hc e := by
    have hcore := hw (coreNo b c) (coreNo_div hc)
    rw [hcore]
    exact h.awaitsFrom (congrArg CoreWork.skip hcore) e _

theorem refl (s : State) : SameWork b s s := of_work (.refl s) fun _ _ => rfl

theorem foldlMem {α : Type} {f : State → α → State} {l : List α} (hf : ∀ u, ∀ a ∈ l, SameWork b u (f u a)) : SameWork b s (l.foldl f s) :=
  List.foldlRecOn l f (refl s) fun u hu a ha => hu.trans (hf u a ha)

/-- A bed that has the same work has finished as much of its frame. -/
theorem unfinished (h : SameWork b s t) : t.unfinished b = s.unfinished b := by
  have hcore : ∀ c ∈ List.range 384, t.coreUnfinished b c = s.coreUnfinished b c := fun c hc => by
    have hc := List.mem_range.1 hc
    obtain ⟨k, hk⟩ := h.work (coreNo b c) (coreNo_div hc)
    have hawaits := h.awaits c hc
    simp only [hk] at hawaits
    unfold State.coreUnfinished
    simp only [hk, hawaits, h.frameCycles, h.coreXfers]
  rw [State.unfinished_eq, State.unfinished_eq, h.armOf, Bool.eq_iff_iff]
  simp only [Bool.and_eq_true, List.any_eq_true]
  exact and_congr_right fun _ => exists_congr fun c => and_congr_right fun hc => by rw [hcore c hc]

end State.SameWork

theorem State.Apart.sameWorkOf {b : Nat} {s t : State} (h : s.Apart b t) : s.SameWork b t := .of_work h.lists h.work

/-! ### Entries of reset contexts passed over (R124) -/

/-- An engine's next entry moved to where the rest of its list is waited for as before. -/
theorem State.SameWork.setCursor {b c e k : Nat} {s : State} (hc : c < 384)
    (hk : s.awaitsFrom b c e k = s.awaitsFrom b c e ((s.cores.work (coreNo b c)).cursor e)) : s.SameWork b (s.setCursor (coreNo b c) e k) where
  toSameLists := ⟨rfl, rfl, rfl, rfl, fun _ _ _ _ => rfl⟩
  work n _ := ⟨fun i => (s.cores.cursor.put (coreNo b c, e) k).get (n, i) 0, rfl⟩
  awaits d hd i := by
    have hlists : s.SameLists b (s.setCursor (coreNo b c) e k) := ⟨rfl, rfl, rfl, rfl, fun _ _ _ _ => rfl⟩
    refine (hlists.awaitsFrom (by rfl) i _).trans ?_
    show s.awaitsFrom b d i ((s.cores.cursor.put (coreNo b c, e) k).get (coreNo b d, i) 0) = _
    rw [Tab.get_put]
    split
    next hkey =>
      obtain ⟨hn, rfl⟩ := Prod.mk.inj hkey
      obtain rfl : d = c := by unfold coreNo at hn; omega
      exact hk
    next => rfl

/-- The search for an engine's next entry skips and passes over entries that are not waited for. -/
theorem State.nextEntry_passes {b c e : Nat} (hc : c < 384) {l : List Issue} {k : Nat} {s : State} (hl : (s.coreList b c e).drop k = l) :
    ∃ u j, s.Apart b u ∧ (State.nextEntry b c e l k s).1 = u.setCursor (coreNo b c) e j ∧ s.awaitsFrom b c e j = s.awaitsFrom b c e k := by
  induction l generalizing k s with
  | nil => exact ⟨s, k, .refl s, rfl, rfl⟩
  | cons i l ih =>
    have htail : (s.coreList b c e).drop (k + 1) = l := by rw [← List.tail_drop, hl, List.tail_cons]
    have hpass : s.awaited b c i = false → s.awaitsFrom b c e (k + 1) = s.awaitsFrom b c e k := fun hi => by
      unfold State.awaitsFrom
      rw [hl, htail, List.any_cons, hi, Bool.false_or]
    unfold State.nextEntry
    split
    next hmask =>
      obtain ⟨u, j, hu, hnext, hj⟩ := ih htail
      exact ⟨u, j, hu, hnext, hj.trans (hpass (by simpa [State.awaited] using fun _ => hmask))⟩
    next hmask =>
      split
      next hskip =>
        have hskipped : s.Apart b (s.skipEntry b c e i) := (State.Apart.refl s).skipEntry
        obtain ⟨u, j, hu, hnext, hj⟩ := ih ((congrArg (List.drop (k + 1)) (hskipped.lists.coreList c e)).trans htail)
        have hawaits := hskipped.lists.awaitsFrom (congrArg CoreWork.skip (hskipped.work _ (coreNo_div hc))) e
        have hi : s.awaited b c i = false := by
          show (!s.cores.skip.contains (coreNo b c, i.ctx) && _) = false
          rw [hskip]
          rfl
        exact ⟨u, j, hskipped.trans hu, hnext, by rw [← hawaits j, hj, hawaits, hpass hi]⟩
      next => exact ⟨s, k, .refl s, rfl, rfl⟩

/-- The search for an engine's next entry leaves the bed's work. -/
theorem State.SameWork.nextEntry {b c : Nat} (hc : c < 384) (e : Nat) (s : State) : s.SameWork b
    (State.nextEntry b c e ((s.coreList b c e).drop (s.cursor (coreNo b c) e)) (s.cursor (coreNo b c) e) s).1 := by
  obtain ⟨u, j, hu, hnext, hj⟩ := State.nextEntry_passes (b := b) (s := s) (e := e) (k := s.cursor (coreNo b c) e) hc rfl
  have hcore := hu.work _ (coreNo_div hc)
  have hawaits := hu.lists.awaitsFrom (congrArg CoreWork.skip hcore) e
  rw [hnext]
  refine hu.sameWorkOf.trans (.setCursor hc ?_)
  rw [hawaits, hawaits, hj, hcore]
  rfl

/-! ### A bed whose close begins (R155) -/

/-- A running bed once the entries of its reset contexts are passed over, its stalls are counted and its spare cycles are noted. -/
def State.noted (s : State) (b : Nat) : State := ((s.passSkipped b).countStalls b).noteSlack b

theorem State.passSkipped_sameWork (s : State) (b : Nat) : s.SameWork b (s.passSkipped b) := by
  unfold State.passSkipped State.onCores
  split
  · exact .refl s
  · split
    · exact .refl s
    · exact .foldlMem fun u c hc => .foldlMem fun v e _ => .nextEntry (List.mem_range.1 hc) e v

theorem State.noteSlack_sameWork (s : State) (b : Nat) : s.SameWork b (s.noteSlack b) := by
  have hlists : s.SameLists b (s.noteSlack b) := by
    unfold State.noteSlack
    exact ⟨by rw [State.setBed_bed], by rw [State.setBed_bed], by rw [State.setBed_bed], rfl, fun _ _ _ _ => rfl⟩
  exact .of_work hlists fun _ _ => rfl

theorem State.noted_sameWork (s : State) (b : Nat) : s.SameWork b (s.noted b) :=
  ((s.passSkipped_sameWork b).trans (State.Apart.refl _).countStalls.sameWorkOf).trans (State.noteSlack_sameWork ..)

end Sys2Proof.Machine
end

section
/-! PROOFS. The close of a bed that runs an armature (R155, R156): an overrun pauses it, the next close realigns it, and its steps and frames are counted later in the tick. -/

namespace Sys2Proof.Machine

/-! ### Watches of one bed -/

/-- Some counters of one bed watched. -/
def Watch.ofBed (b : Nat) (fs : List Fld) (hfs : ∀ f ∈ fs, f ∈ pacedFields) (calm : Prop) : Watch where
  reg x f := x = b ∧ f ∈ fs
  fields _ f h := hfs f h.2
  calm := calm

/-- Everything that a close may leave of a bed: its counters but FRAME_NUMBER, calm. -/
def Watch.counters (b : Nat) : Watch :=
  .ofBed b [.STEP_CNT, .FRAME_IN_STEP, .SEQ_STATE, .OVERRUN_CNT, .REALIGN_CNT] (by decide) True

/-- A bed's place in its step, calm. -/
def Watch.place (b : Nat) : Watch := .ofBed b [.STEP_CNT, .FRAME_IN_STEP] (by decide) True

/-- One counter of a bed. -/
def Watch.one (b : Nat) (f : Fld) (hf : f ∈ pacedFields) : Watch := .ofBed b [f] (by simpa using hf) False

section Watches

variable {b : Nat} {fs gs : List Fld} {hfs : ∀ f ∈ fs, f ∈ pacedFields} {hgs : ∀ f ∈ gs, f ∈ pacedFields} {calm : Prop} {s t : State}

/-- Of other beds such a watch asks nothing. -/
theorem Watch.ofBed_other {x : Nat} (hx : x ≠ b) (f : Fld) : ¬ (Watch.ofBed b fs hfs calm).reg x f := fun h => hx h.1

theorem Watch.ofBed_not {x : Nat} {f : Fld} (hf : f ∉ fs) : ¬ (Watch.ofBed b fs hfs calm).reg x f := fun h => hf h.2

theorem State.Paced.field (h : Paced (.ofBed b fs hfs calm) s t) {f : Fld} (hf : f ∈ fs) : t.get (pgBed b) f = s.get (pgBed b) f :=
  h.regs b f ⟨rfl, hf⟩

/-- Fewer counters watched, or calm no longer asked for. -/
theorem State.Paced.weaken (h : Paced (.ofBed b fs hfs True) s t) (hsub : gs ⊆ fs) : Paced (.ofBed b gs hgs calm) s t where
  time := h.time
  pending := h.pending
  regs x f hr := h.regs x f ⟨hr.1, hsub hr.2⟩
  votes _ := h.votes trivial
  changes _ := h.changes trivial
  pend _ := h.pend trivial

end Watches

/-! ### SEQ_STATE -/

theorem State.setSeq_seq (s : State) (b : Nat) {st : Nat} (h : st < 8) : (s.setSeq b st).seq b = st := by
  have hput : ∀ (u : State) (v : Nat), ((u.put (pgBed b) .SEQ_STATE st).put (pgBed b) .RUN v).seq b = st := fun u v => by
    unfold State.seq
    rw [State.get_put_fld _ _ _ _ _ _ (by decide), State.get_put_same]
    exact Nat.mod_eq_of_lt h
  unfold State.setSeq
  split
  · exact hput _ _
  · exact hput _ _

theorem State.runsArm_iff (s : State) (b : Nat) : s.runsArm b = true ↔ s.seq b = seqRunning ∨ s.seq b = seqPaused := by
  simp [State.runsArm]

/-! ### The close of a running bed -/

/-- What the close of a running bed leaves: its place in the step, an armature still running, and an overrun or a realignment where one is due. -/
structure State.ClosedRun (b : Nat) (s t : State) : Prop where
  place : State.Paced (Watch.place b) s t
  runs : t.runsArm b = true
  overrun : s.seq b = seqRunning → s.unfinished b = true → t.seq b = seqPaused ∧
    t.get (pgBed b) .OVERRUN_CNT = satAdd 32 (s.get (pgBed b) .OVERRUN_CNT) 1
  finished : s.seq b = seqRunning → s.unfinished b = false → t.seq b = seqRunning ∧
    t.get (pgBed b) .OVERRUN_CNT = s.get (pgBed b) .OVERRUN_CNT
  realigned : s.seq b = seqPaused → t.seq b = seqRunning ∧ t.get (pgBed b) .REALIGN_CNT = satAdd 32 (s.get (pgBed b) .REALIGN_CNT) 1

namespace State.ClosedRun

variable {b : Nat} {s t u : State}

/-- What happens before, if it leaves the bed's counters and its work. -/
theorem before (h : State.Paced (Watch.counters b) s t) (hwork : t.unfinished b = s.unfinished b) (k : ClosedRun b t u) : ClosedRun b s u := by
  have hseq : t.seq b = s.seq b := h.field (by decide)
  have hover : t.get (pgBed b) .OVERRUN_CNT = s.get (pgBed b) .OVERRUN_CNT := h.field (by decide)
  have hrealign : t.get (pgBed b) .REALIGN_CNT = s.get (pgBed b) .REALIGN_CNT := h.field (by decide)
  refine ⟨(h.weaken (by decide)).trans k.place, k.runs, ?_, ?_, ?_⟩
  · rw [← hseq, ← hwork, ← hover]
    exact k.overrun
  · rw [← hseq, ← hwork, ← hover]
    exact k.finished
  · rw [← hseq, ← hrealign]
    exact k.realigned

/-- What happens after, if it leaves the bed's counters. -/
theorem after (h : ClosedRun b s t) (k : State.Paced (Watch.counters b) t u) : ClosedRun b s u := by
  have hseq : u.seq b = t.seq b := k.field (by decide)
  have hover : u.get (pgBed b) .OVERRUN_CNT = t.get (pgBed b) .OVERRUN_CNT := k.field (by decide)
  have hrealign : u.get (pgBed b) .REALIGN_CNT = t.get (pgBed b) .REALIGN_CNT := k.field (by decide)
  refine ⟨h.place.trans (k.weaken (by decide)), ?_, ?_, ?_, ?_⟩
  · rw [State.runsArm, hseq]
    exact h.runs
  · rw [hseq, hover]
    exact h.overrun
  · rw [hseq, hover]
    exact h.finished
  · rw [hseq, hrealign]
    exact h.realigned

end State.ClosedRun

/-- A paused bed realigns (R156). -/
theorem State.realign_closed {s : State} {b : Nat} (h : s.seq b = seqPaused) : s.ClosedRun b (s.realign b) := by
  have hseq : (s.realign b).seq b = seqRunning := State.setSeq_seq _ b (by decide)
  have hcount : (s.realign b).get (pgBed b) .REALIGN_CNT = (s.bump (pgBed b) .REALIGN_CNT).get (pgBed b) .REALIGN_CNT :=
    ((State.Paced.refl _).realigned (w := .one b .REALIGN_CNT (by decide)) (Watch.ofBed_not (by decide))).field (by decide)
  refine ⟨(State.Paced.refl s).realign (Watch.ofBed_not (by decide)) (Watch.ofBed_not (by decide)), (State.runsArm_iff ..).2 (.inl hseq),
    fun hr => ?_, fun hr => ?_, fun _ => ⟨hseq, hcount.trans (State.get_bump_satAdd ..)⟩⟩
  · exact absurd (h.symm.trans hr) (by decide)
  · exact absurd (h.symm.trans hr) (by decide)

/-- A running bed with unfinished work overruns (R155). -/
theorem State.overrun_closed {s : State} {b : Nat} (h : s.seq b = seqRunning) (hu : s.unfinished b = true) : s.ClosedRun b (s.overrun b) := by
  have hseq : (s.overrun b).seq b = seqPaused := State.setSeq_seq _ b (by decide)
  have hcount : (s.overrun b).get (pgBed b) .OVERRUN_CNT = (s.bump (pgBed b) .OVERRUN_CNT).get (pgBed b) .OVERRUN_CNT :=
    ((State.Paced.refl _).overran (w := .one b .OVERRUN_CNT (by decide)) (Watch.ofBed_not (by decide))).field (by decide)
  refine ⟨(State.Paced.refl s).overrun (Watch.ofBed_not (by decide)) (Watch.ofBed_not (by decide)), (State.runsArm_iff ..).2 (.inr hseq),
    fun _ _ => ⟨hseq, hcount.trans (State.get_bump_satAdd ..)⟩, fun _ hf => ?_, fun hp => ?_⟩
  · exact absurd (hu.symm.trans hf) (by decide)
  · exact absurd (h.symm.trans hp) (by decide)

/-- A running bed whose work is done runs on. -/
theorem State.finished_closed {s : State} {b : Nat} (h : s.seq b = seqRunning) (hu : s.unfinished b = false) : s.ClosedRun b s := by
  refine ⟨.refl s, (State.runsArm_iff ..).2 (.inl h), fun _ ht => ?_, fun _ _ => ⟨h, rfl⟩, fun hp => ?_⟩
  · exact absurd (hu.symm.trans ht) (by decide)
  · exact absurd (h.symm.trans hp) (by decide)

theorem State.closeRun_eq (s : State) (b : Nat) : s.closeRun b =
    if ((s.noted b).bed b).stopping then (s.noted b).idleBed b
    else if (s.noted b).seq b = seqPaused then (s.noted b).realign b
    else if (s.noted b).unfinished b then (s.noted b).overrun b else s.noted b := rfl

/-- Action 1 of a tick on a bed that runs an armature and does not stop. -/
theorem State.closeRun_closed {s : State} {b : Nat} (hr : s.runsArm b = true) (hstop : (s.bed b).stopping = false) :
    s.ClosedRun b (s.closeRun b) := by
  have hwork : s.SameWork b (s.noted b) := s.noted_sameWork b
  have hnoted : State.Paced (Watch.counters b) s (s.noted b) := (State.Paced.refl s).passSkipped.countStalls.noteSlack
  have hseq : (s.noted b).seq b = s.seq b := hnoted.field (by decide)
  have hruns : (s.noted b).seq b = seqRunning ∨ (s.noted b).seq b = seqPaused := by
    rw [hseq]
    exact (State.runsArm_iff ..).1 hr
  refine State.ClosedRun.before hnoted hwork.unfinished ?_
  rw [State.closeRun_eq, hwork.stopping, hstop, if_neg Bool.false_ne_true]
  by_cases hpaused : (s.noted b).seq b = seqPaused
  · rw [if_pos hpaused]
    exact State.realign_closed hpaused
  · rw [if_neg hpaused]
    have hrunning := hruns.resolve_right hpaused
    cases hu : (s.noted b).unfinished b with
    | true => exact State.overrun_closed hrunning hu
    | false => exact State.finished_closed hrunning hu

/-- After action 1 the close of a bed leaves its counters but FRAME_NUMBER. -/
theorem State.closeBed_afterRun {s : State} {b n : Nat} {boundary : Bool} (hr : s.runsArm b = true) (hl : s.stagingLegal) :
    State.Paced (Watch.counters b) (s.closeRun b) (s.closeBed b n boundary) := by
  unfold State.closeBed
  extract_lets closed _ started paged
  have hkeeps : Keeps s (started.put (pgBed b) .FRAME_NUMBER n) := (Keeps.ite (Keeps.refl s).closeRun (.refl s)).setBed.put
  have hclosed : closed = s.closeRun b := if_pos hr
  have hstarted : State.Paced (Watch.counters b) (s.closeRun b) started := hclosed ▸ (State.Paced.refl closed).setBed (by exact id)
  have hpaged : State.Paced (Watch.counters b) (s.closeRun b) paged :=
    (hstarted.putBed (Watch.ofBed_not (by decide))).closePages (hkeeps.staging hl)
  exact .ite hpaged.watchSnap hpaged

/-- The close of a bed that runs an armature and does not stop. -/
theorem State.closeBed_closed {s : State} {b n : Nat} {boundary : Bool} (hr : s.runsArm b = true) (hstop : (s.bed b).stopping = false)
    (hl : s.stagingLegal) : s.ClosedRun b (s.closeBed b n boundary) :=
  (State.closeRun_closed hr hstop).after (State.closeBed_afterRun hr hl)

/-! ### The beds that tick together (R136) -/

theorem State.tickBeds_nodup (s : State) (b : Nat) : (s.tickBeds b).Nodup := by
  have hall : allBeds.Nodup := by decide
  unfold State.tickBeds
  dsimp only
  split
  · exact (hall.filter _).filter _
  · exact List.nodup_singleton b

/-- The closes of other beds leave the bed's counters and its work. -/
theorem State.closeBeds_apart {s : State} {b n : Nat} {boundary : Nat → Bool} {l : List Nat} (hb : b ∉ l) (hl : s.stagingLegal) :
    State.Paced (Watch.counters b) s (l.foldl (fun t x => t.closeBed x n (boundary x)) s) ∧
      s.Apart b (l.foldl (fun t x => t.closeBed x n (boundary x)) s) ∧ (l.foldl (fun t x => t.closeBed x n (boundary x)) s).stagingLegal := by
  refine List.foldlRecOn (motive := fun t : State => State.Paced (Watch.counters b) s t ∧ s.Apart b t ∧ t.stagingLegal) l _
    ⟨.refl s, .refl s, hl⟩ fun t ht x hx => ?_
  obtain ⟨hpaced, hapart, hlegal⟩ := ht
  have hne : x ≠ b := fun he => hb (he ▸ hx)
  exact ⟨hpaced.closeBed (Watch.ofBed_other hne) hlegal, hapart.closeBed hne.symm hlegal, (Keeps.refl t).closeBed.staging hlegal⟩

/-- Actions 1 and 2 of a tick on a due bed that runs an armature and does not stop. -/
theorem State.tickClosed_closed {s : State} (b : Bed) (hdue : s.tickDue b.val = true) (hl : s.stagingLegal) (hr : s.runsArm b.val = true)
    (hstop : (s.bed b.val).stopping = false) : s.ClosedRun b.val (s.tickClosed b.val) := by
  obtain ⟨before, after, hbeds⟩ := List.append_of_mem (s.mem_tickBeds b hdue)
  have hnodup := s.tickBeds_nodup b.val
  rw [hbeds, List.nodup_middle, List.nodup_cons, List.mem_append, not_or] at hnodup
  unfold State.tickClosed
  rw [hbeds, List.foldl_append, List.foldl_cons]
  obtain ⟨hpaced, hapart, hlegal⟩ := s.closeBeds_apart (n := s.nextFrame b.val) (boundary := s.atBoundary) hnodup.1.1 hl
  generalize before.foldl (fun t x => t.closeBed x (s.nextFrame b.val) (s.atBoundary x)) s = u at hpaced hapart hlegal
  have hseq : u.seq b.val = s.seq b.val := hpaced.field (by decide)
  have hclosed : u.ClosedRun b.val (u.closeBed b.val (s.nextFrame b.val) (s.atBoundary b.val)) :=
    State.closeBed_closed (by rw [State.runsArm, hseq]; exact hr) (by rw [hapart.bed]; exact hstop) hlegal
  obtain ⟨hrest, -, -⟩ := State.closeBeds_apart (s := u.closeBed b.val (s.nextFrame b.val) (s.atBoundary b.val)) (n := s.nextFrame b.val)
    (boundary := s.atBoundary) hnodup.1.2 ((Keeps.refl u).closeBed.staging hlegal)
  exact (hclosed.before hpaced hapart.sameWorkOf.unfinished).after hrest

end Sys2Proof.Machine
end

section
/-! PROOFS. Settles RunningTicks (O37): a bed that runs closes its frame (`State.ClosedRun`), counts its step or frame, and keeps both through the rest of a tick in which no vote, plan or activation is due. -/

namespace Sys2Proof.Machine

/-! ### Nothing planned (R153, R160, R241, R261) -/

/-- Without a vote at its deadline nothing is acted on. -/
theorem State.actVotes_none {s : State} {q n : Nat} (h : ∀ code, s.voteDue q code n = []) : s.actVotes q n = s := by
  refine List.foldlRecOn (motive := fun t : State => t = s) voteCodes _ rfl fun t ht code _ => ?_
  rw [ht, h code, List.foldl_nil]

theorem State.voteDue_congr {s t : State} (h : t.red.votes = s.red.votes) (q code n : Nat) : t.voteDue q code n = s.voteDue q code n := by
  unfold State.voteDue
  rw [h]

theorem State.epochBoundary_unplanned {s : State} {q n step : Nat} (h : (s.part q).changes = []) : s.epochBoundary q n step = s := by
  have hdue : s.dueChanges q n step = [] := by rw [State.dueChanges, h, List.filter_nil]
  rw [State.epochBoundary, hdue]

theorem State.joinGraft_unplanned {s : State} {q n : Nat} (h : (s.part q).changes = []) : s.joinGraft q n = s := by
  have hdue : s.joinDue q n = none := by
    rw [State.joinDue, h, List.findSome?_nil, ite_self]
  rw [State.joinGraft, hdue]

theorem State.activateAt_none {s : State} {b n : Nat} (h : (s.bed b).pend = none) : s.activateAt b n = s := by
  rw [State.activateAt, h]

/-! ### The parts of a tick after its closes -/

section Parts

variable {s : State} {b : Nat}

/-- Calm: no counter watched. -/
def Watch.calmly : Watch := ⟨fun _ _ => False, fun _ _ h => h.elim, True⟩

/-- The counts of a tick's beds leave votes, plans and pending activations as they were. -/
theorem State.tickCounted_calm (hl : s.stagingLegal) : State.Paced Watch.calmly s (s.tickCounted b) := by
  have hclosed : State.Paced Watch.calmly s (s.tickClosed b) ∧ Keeps s (s.tickClosed b) :=
    List.foldlRecOn (motive := fun t : State => State.Paced Watch.calmly s t ∧ Keeps s t) _ _ ⟨.refl s, .refl s⟩ fun t ht x _ =>
      ⟨ht.1.closeBed (fun _ h => h) (ht.2.staging hl), ht.2.closeBed⟩
  have hwatched : State.Paced Watch.calmly s (s.tickWatched b) := .ite hclosed.1.partWatch hclosed.1
  exact hwatched.foldl fun _ _ h => h.countStep fun _ hr => hr.elim

/-- No vote is due at the tick's acting either. -/
theorem State.tickActed_eq (hl : s.stagingLegal) (hv : ∀ code, s.voteDue (s.partOf b) code (s.nextFrame b) = []) :
    s.tickActed b = s.tickCounted b := by
  have hvotes := (State.tickCounted_calm (b := b) hl).votes trivial
  unfold State.tickActed
  rw [State.actVotes_none fun code => (State.voteDue_congr hvotes ..).trans (hv code), ite_self]

/-- The partition's part of a tick without planned changes: its step boundary, if that. -/
theorem State.tickPart_paced {w : Watch} {t : State} {q n : Nat} {edge : Bool} (hc : w.calm) (hch : (t.part q).changes = [])
    (hw : edge = true → w.anySeq) : State.Paced w t (t.tickPart q n edge) := by
  unfold State.tickPart
  extract_lets lead step parted
  cases hedge : edge && t.runsArm lead with
  | true =>
    have hparted : State.Paced w t parted := .ite ((State.Paced.refl t).partBoundary (hw (Bool.and_eq_true_iff.1 hedge).1)) (.refl t)
    rw [State.epochBoundary_unplanned (hparted.changes hc q hch), State.joinGraft_unplanned (hparted.changes hc q hch), ite_self]
    exact hparted
  | false =>
    have hparted : parted = t := by simp [parted, hedge]
    rw [hparted, State.epochBoundary_unplanned hch, State.joinGraft_unplanned hch, ite_self]
    exact .refl t

/-- Activations of other beds leave a bed that has none pending. -/
theorem State.activateAll_paced {w : Watch} {t : State} {l : List Nat} {n : Nat} (hc : w.calm) (hpend : (t.bed b).pend = none)
    (hw : ∀ x, x ≠ b → w.free x) : State.Paced w t (l.foldl (fun t x => t.activateAt x n) t) := by
  refine (State.Paced.refl t).foldl fun u x hu => ?_
  by_cases hx : x = b
  · rw [hx, State.activateAt_none (hu.pend hc b hpend)]
    exact hu
  · exact hu.activateAt (hw x hx)

/-- Once its beds are counted, a tick with nothing planned leaves a bed's counters; a partition's step boundary may yet hold the bed. -/
theorem State.tick_afterCounts {fs : List Fld} {hfs : ∀ f ∈ fs, f ∈ pacedFields} (hl : s.stagingLegal) (hch : ∀ q, (s.part q).changes = [])
    (hpend : (s.bed b).pend = none) (hv : ∀ code, s.voteDue (s.partOf b) code (s.nextFrame b) = [])
    (hw : s.atBoundary (s.leadBed (s.partOf b)) = true → .SEQ_STATE ∉ fs) :
    State.Paced (.ofBed b fs hfs False) (s.tickCounted b) (s.tick b) := by
  have hcalm := State.tickCounted_calm (b := b) hl
  have hparted : State.Paced (.ofBed b fs hfs True) (s.tickCounted b) (s.tickParted b) := by
    unfold State.tickParted
    rw [State.tickActed_eq hl hv]
    exact .ite (State.tickPart_paced trivial (hcalm.changes trivial _ (hch _)) fun hedge _ => Watch.ofBed_not (hw hedge)) (.refl _)
  have hnone : ((s.tickParted b).bed b).pend = none := hparted.pend trivial b (hcalm.pend trivial b hpend)
  have hswitched : State.Paced (.ofBed b fs hfs True) (s.tickCounted b) (s.tickSwitched b) :=
    hparted.trans (State.activateAll_paced trivial hnone fun x hx f hr => absurd hr (Watch.ofBed_other hx f))
  exact (hswitched.weaken fun _ h => h).trans (State.Paced.opened id)

end Parts

/-! ### The counts of a tick (R134, R163) -/

/-- Action 3 of other beds leaves the bed's counters. -/
theorem State.countSteps_others {s : State} {b : Nat} {boundary : Nat → Bool} {l : List Nat} (hb : b ∉ l) :
    State.Paced (Watch.counters b) s (l.foldl (fun t x => t.countStep x (boundary x)) s) :=
  (State.Paced.refl s).foldlMem fun _ x hx h =>
    have hne : x ≠ b := fun he => hb (he ▸ hx)
    h.countStep fun f hr => absurd hr (Watch.ofBed_other hne f)

/-- A bed among those that tick is counted once, and the others before and after leave its counters. -/
theorem State.tickCounted_split {s : State} (b : Bed) (hdue : s.tickDue b.val = true) :
    ∃ u, State.Paced (Watch.counters b.val) (s.tickClosed b.val) u ∧
      State.Paced (Watch.counters b.val) (u.countStep b.val (s.atBoundary b.val)) (s.tickCounted b.val) := by
  obtain ⟨before, after, hbeds⟩ := List.append_of_mem (s.mem_tickBeds b hdue)
  have hnodup := s.tickBeds_nodup b.val
  rw [hbeds, List.nodup_middle, List.nodup_cons, List.mem_append, not_or] at hnodup
  have hwatched : State.Paced (Watch.counters b.val) (s.tickClosed b.val) (s.tickWatched b.val) :=
    .ite (State.Paced.refl _).partWatch (.refl _)
  refine ⟨_, hwatched.trans (State.countSteps_others (boundary := s.atBoundary) hnodup.1.1), ?_⟩
  unfold State.tickCounted
  rw [hbeds, List.foldl_append, List.foldl_cons]
  exact State.countSteps_others hnodup.1.2

/-- A step boundary counts STEP and restarts FRAME_IN_STEP. -/
theorem State.bedBoundary_counts (s : State) (b : Nat) :
    (s.bedBoundary b).get (pgBed b) .STEP_CNT = nextStep (s.get (pgBed b) .STEP_CNT) ∧ (s.bedBoundary b).get (pgBed b) .FRAME_IN_STEP = 0 := by
  unfold State.bedBoundary
  extract_lets p step noted _ forgot once scaled
  have hopened : State.Paced (Watch.place b) ((scaled.put p .STEP_CNT (nextStep step)).put p .FRAME_IN_STEP 0)
      (((scaled.put p .STEP_CNT (nextStep step)).put p .FRAME_IN_STEP 0).openStep b) := (State.Paced.refl _).openStep
  refine ⟨(hopened.field (by decide)).trans ?_, (hopened.field (by decide)).trans (State.get_put_same ..)⟩
  rw [State.get_put_fld _ _ _ _ _ _ (by decide), State.get_put_same]
  exact Nat.mod_eq_of_lt (Nat.mod_lt _ (by decide))

theorem State.countStep_boundary {s : State} {b : Nat} (h : s.runsArm b = true) : s.countStep b true = s.bedBoundary b := by
  unfold State.countStep
  rw [h]
  rfl

theorem State.countStep_frame {s : State} {b : Nat} (h : s.runsArm b = true) :
    s.countStep b false = s.put (pgBed b) .FRAME_IN_STEP (s.get (pgBed b) .FRAME_IN_STEP + 1) := by
  unfold State.countStep
  rw [h]
  rfl

/-! ### The two ticks of the statement -/

section Ticks

variable {s : State} (b : Bed)

/-- A step boundary (R134). -/
theorem State.tick_boundary (hclosed : s.ClosedRun b.val (s.tickClosed b.val)) (hdue : s.tickDue b.val = true)
    (hedge : s.atBoundary b.val = true)
    (hrest : State.Paced (.ofBed b.val [.STEP_CNT, .FRAME_IN_STEP] (by decide) False) (s.tickCounted b.val) (s.tick b.val)) :
    (s.tick b.val).get (pgBed b.val) .STEP_CNT = nextStep (s.get (pgBed b.val) .STEP_CNT) ∧
      (s.tick b.val).get (pgBed b.val) .FRAME_IN_STEP = 0 := by
  obtain ⟨u, hbefore, hafter⟩ := State.tickCounted_split b hdue
  have hu : s.ClosedRun b.val u := hclosed.after hbefore
  have hstep : u.get (pgBed b.val) .STEP_CNT = s.get (pgBed b.val) .STEP_CNT := hu.place.field (by decide)
  rw [hedge, State.countStep_boundary hu.runs] at hafter
  obtain ⟨hcount, hframe⟩ := u.bedBoundary_counts b.val
  have htick := (hafter.weaken (by decide)).trans hrest
  exact ⟨by rw [htick.field (by decide), hcount, hstep], (htick.field (by decide)).trans hframe⟩

/-- Any other tick (R134, R155, R156). -/
theorem State.tick_frame (hclosed : s.ClosedRun b.val (s.tickClosed b.val)) (hdue : s.tickDue b.val = true)
    (hedge : s.atBoundary b.val = false)
    (hrest : State.Paced (.ofBed b.val [.STEP_CNT, .FRAME_IN_STEP, .SEQ_STATE, .OVERRUN_CNT, .REALIGN_CNT] (by decide) False)
      (s.tickCounted b.val) (s.tick b.val)) :
    (s.tick b.val).get (pgBed b.val) .STEP_CNT = s.get (pgBed b.val) .STEP_CNT ∧
      (s.tick b.val).get (pgBed b.val) .FRAME_IN_STEP = (s.get (pgBed b.val) .FRAME_IN_STEP + 1) % 65536 ∧
      (s.seq b.val = seqRunning → s.unfinished b.val = true → (s.tick b.val).seq b.val = seqPaused ∧
        (s.tick b.val).get (pgBed b.val) .OVERRUN_CNT = satAdd 32 (s.get (pgBed b.val) .OVERRUN_CNT) 1) ∧
      (s.seq b.val = seqRunning → s.unfinished b.val = false → (s.tick b.val).seq b.val = seqRunning ∧
        (s.tick b.val).get (pgBed b.val) .OVERRUN_CNT = s.get (pgBed b.val) .OVERRUN_CNT) ∧
      (s.seq b.val = seqPaused → (s.tick b.val).seq b.val = seqRunning ∧
        (s.tick b.val).get (pgBed b.val) .REALIGN_CNT = satAdd 32 (s.get (pgBed b.val) .REALIGN_CNT) 1) := by
  obtain ⟨u, hbefore, hafter⟩ := State.tickCounted_split b hdue
  have hu : s.ClosedRun b.val u := hclosed.after hbefore
  rw [hedge, State.countStep_frame hu.runs] at hafter
  have htick := (hafter.weaken fun _ h => h).trans hrest
  have hkept : ∀ f ∈ [Fld.STEP_CNT, .SEQ_STATE, .OVERRUN_CNT, .REALIGN_CNT], (s.tick b.val).get (pgBed b.val) f = u.get (pgBed b.val) f := by
    intro f hf
    have hne : ∀ f ∈ [Fld.STEP_CNT, .SEQ_STATE, .OVERRUN_CNT, .REALIGN_CNT], f ≠ .FRAME_IN_STEP := by decide
    have hsub : [Fld.STEP_CNT, .SEQ_STATE, .OVERRUN_CNT, .REALIGN_CNT] ⊆
        [.STEP_CNT, .FRAME_IN_STEP, .SEQ_STATE, .OVERRUN_CNT, .REALIGN_CNT] := by decide
    exact (htick.field (hsub hf)).trans (State.get_put_fld _ _ _ _ _ _ (hne f hf))
  have hseq : (s.tick b.val).seq b.val = u.seq b.val := hkept _ (by decide)
  have hframe : u.get (pgBed b.val) .FRAME_IN_STEP = s.get (pgBed b.val) .FRAME_IN_STEP := hu.place.field (by decide)
  refine ⟨(hkept _ (by decide)).trans (hu.place.field (by decide)), ?_, ?_, ?_, ?_⟩
  · rw [htick.field (f := .FRAME_IN_STEP) (by decide), State.get_put_same, hframe]
    rfl
  · rw [hseq, hkept .OVERRUN_CNT (by decide)]
    exact hu.overrun
  · rw [hseq, hkept .OVERRUN_CNT (by decide)]
    exact hu.finished
  · rw [hseq, hkept .REALIGN_CNT (by decide)]
    exact hu.realigned

end Ticks

/-- Settles O37: the close of the running bed (`State.tickClosed_closed`), its count, and what the rest of the tick leaves (`State.tick_afterCounts`). -/
theorem runningTicks : Obligations.RunningTicks := by
  intro b s hdue hl _ hch hpend hstop hv
  have hexec : ∀ on, on = true → s.tickIf b.val on = s.tick b.val := fun on hon => if_pos (by simp [hdue, hon])
  refine ⟨fun hedge => ?_, fun hr hedge hlead => ?_⟩
  · have hr : s.runsArm b.val = true := by
      unfold State.atBoundary at hedge
      simp only [Bool.and_eq_true] at hedge
      exact hedge.1.1
    have hclosed := State.tickClosed_closed b hdue hl hr hstop
    exact ⟨s.tick b.val, congrArg Host.Outcome.next (hexec _ hedge), congrArg Host.Outcome.next (hexec _ rfl),
      State.tick_boundary b hclosed hdue hedge (State.tick_afterCounts hl hch hpend hv fun _ => by decide)⟩
  · have hclosed := State.tickClosed_closed b hdue hl hr hstop
    exact ⟨s.tick b.val, congrArg Host.Outcome.next (hexec _ rfl), State.tick_frame b hclosed hdue hedge
      (State.tick_afterCounts hl hch hpend hv fun h => absurd (hlead.symm.trans h) (by decide))⟩

end Sys2Proof.Machine
end

section
/-! PROOFS. The rules of one line read or written at a bridge (R170 to R178, R182, R186): the registers that an access leaves, the regulators' meter, and one equation for each way in which a bridge answers. -/

namespace Sys2Proof.Machine

/-! ### One field on every page -/

/-- A field reads as before on every page. -/
structure State.SameField (g : Fld) (s t : State) : Prop where
  get : ∀ q j, t.get q g j = s.get q g j

/-- A field that neither an event nor its record writes (R31, R350). -/
def quietField (g : Fld) : Bool := !recordField g && decide (g ≠ .EVT)

/-- A quiet field that the regulators do not count in (R182). -/
def unmetered (g : Fld) : Bool := quietField g && decide (g ≠ .OVERDRAW_C) && decide (g ≠ .FAR_OVERDRAW)

theorem quietField_iff {g : Fld} : quietField g = true ↔ recordField g = false ∧ g ≠ .EVT := by simp [quietField]

theorem unmetered_iff {g : Fld} : unmetered g = true ↔ quietField g = true ∧ g ≠ .OVERDRAW_C ∧ g ≠ .FAR_OVERDRAW := by
  simp [unmetered, and_assoc]

namespace State.SameField

variable {g : Fld} {s t u : State}

theorem rfl : SameField g s s := ⟨fun _ _ => Eq.refl _⟩

theorem trans (h : SameField g s t) (k : SameField g t u) : SameField g s u :=
  ⟨fun q j => (k.get q j).trans (h.get q j)⟩

theorem ite {c : Prop} {_ : Decidable c} (ht : SameField g s t) (hu : SameField g s u) : SameField g s (if c then t else u) := by
  split
  · exact ht
  · exact hu

theorem foldl {α : Type} {f : State → α → State} {l : List α} (h : SameField g s t) (hf : ∀ u a, SameField g s u → SameField g s (f u a)) :
    SameField g s (l.foldl f t) :=
  List.foldlRecOn l f h fun u hu a _ => hf u a hu

/-- Any state with the same registers. -/
theorem congr (h : SameField g s t) (hr : u.regs = t.regs) : SameField g s u :=
  ⟨fun q j => (congrArg (Tab.get · _ _) hr).trans (h.get q j)⟩

theorem setMem (h : SameField g s t) {m : MemSt} : SameField g s (t.setMem m) := h.congr (Eq.refl _)

theorem put (h : SameField g s t) {p : Page} {f : Fld} {v i : Nat} (hf : g ≠ f) : SameField g s (t.put p f v i) :=
  ⟨fun q j => (State.get_put_fld _ _ _ _ _ _ hf).trans (h.get q j)⟩

theorem bump (h : SameField g s t) {p : Page} {f : Fld} {n i : Nat} (hf : g ≠ f) : SameField g s (t.bump p f n i) := h.put hf

theorem record (h : SameField g s t) {c : Nat} {p : Page} {d : List Byte} (hq : quietField g = true) : SameField g s (t.record c p d) := by
  obtain ⟨hrec, hevt⟩ := quietField_iff.1 hq
  exact ⟨fun q j => (State.record_get _ _ _ _ _ _ hrec fun _ => hevt).trans (h.get q j)⟩

theorem evt (h : SameField g s t) {p : Page} {b : Nat} (hq : quietField g = true) : SameField g s (t.evt p b) :=
  h.put (quietField_iff.1 hq).2

theorem raise (h : SameField g s t) {p : Page} {b : Nat} {d : List Byte} (hq : quietField g = true) : SameField g s (t.raise p b d) :=
  (h.evt hq).record hq

theorem overdraw (h : SameField g s t) {b key : Nat} {f : Fld} {i n bit : Nat} (hq : quietField g = true) (hf : g ≠ f) :
    SameField g s (t.overdraw b key f i n bit) :=
  .ite ((h.setMem.bump hf).raise hq) h.setMem

theorem moved (h : SameField g s t) {b cls bed : Nat} (hg : unmetered g = true) : SameField g s (t.moved b cls bed) := by
  obtain ⟨hq, hclass, hfar⟩ := unmetered_iff.1 hg
  have hown : ∀ {m : MemSt} {c : Prop} {_ : Decidable c} {i n : Nat},
      SameField g s (if c then (t.setMem m).overdraw b cls .OVERDRAW_C i n 0 else t.setMem m) :=
    .ite (h.setMem.overdraw hq hclass) h.setMem
  exact .ite (hown.overdraw hq hfar) hown

/-- The regulators write their own counters alone (R182). -/
theorem meter (h : SameField g s t) {b cls bed : Nat} (hg : unmetered g = true) : SameField g s (t.meter b cls bed) := by
  have hdraw : SameField g s { t with free := t.free + 1 } := h.congr (Eq.refl _)
  unfold State.meter
  repeat' split
  · exact h
  · exact h.moved hg
  · exact h.setMem
  · exact (h.moved hg).setMem
  · exact hdraw.setMem
  · exact (hdraw.moved hg).setMem

end State.SameField

/-- A counter raised by n, under its width's name. -/
theorem State.get_bump_sat (s : State) (p : Page) (f : Fld) (n i : Nat) :
    (s.bump p f n i).get p f i = satAdd (fieldInfo f).width (s.get p f i) n := State.get_bump_same ..

/-! ### What a metered request leaves of memory (R182) -/

namespace State.Metered

variable {s t : State} (h : s.Metered t)
include h

theorem byte (a : Nat) : t.mem.byte a = s.mem.byte a := (congrArg (MemSt.byte · a) h.1 :)
theorem line (l : Nat) : t.mem.line l = s.mem.line l := (congrArg (MemSt.line · l) h.1 :)
theorem cache : t.mem.cache = s.mem.cache := (congrArg MemSt.cache h.1 :)
theorem poison : t.mem.poison = s.mem.poison := (congrArg MemSt.poison h.1 :)
theorem rel : t.mem.rel = s.mem.rel := (congrArg MemSt.rel h.1 :)
theorem setFull (l : Nat) : t.setFull l = s.setFull l := by rw [State.setFull, h.cache, State.setFull]
theorem halts (p : Page) : t.halts p = s.halts p := by
  obtain ⟨-, -, hhalted⟩ := h
  rw [State.halts, hhalted, State.halts]

end State.Metered

theorem State.SameMap.stackOf {s t : State} (h : s.SameMap t) (a : Nat) : t.stackOf a = s.stackOf a := by
  rw [State.stackOf, State.stackPc_congr fun p => h.1 p _ (by simp [mapFields, addressFields]), State.stackOf]

section Used

variable (s : State)

theorem State.overdraw_used (b key : Nat) (f : Fld) (i n bit : Nat) : (s.overdraw b key f i n bit).mem.used = s.mem.used := by
  unfold State.overdraw
  dsimp only
  split
  · simp
  · rfl

/-- A request that is served moves its 64 bytes under its class. -/
theorem State.moved_used (b cls bed : Nat) : (s.moved b cls bed).mem.used.get (b, cls) 0 = s.mem.used.get (b, cls) 0 + 64 := by
  have hover : ∀ {t : State} {c : Prop} {_ : Decidable c} {b key i n : Nat} {f : Fld},
      (if c then t.overdraw b key f i n 0 else t).mem.used = t.mem.used := by
    intros
    split
    · exact State.overdraw_used ..
    · rfl
  unfold State.moved
  dsimp only
  rw [hover, hover]
  exact Tab.get_put_same ..

/-- A request within its budgets is served at once. -/
theorem State.meter_used {b cls bed : Nat} (hh : s.halts (pgReg b) = false) (ho : s.isOverdraw b cls bed = false) :
    (s.meter b cls bed).mem.used.get (b, cls) 0 = s.mem.used.get (b, cls) 0 + 64 := by
  have hmeter : s.meter b cls bed = s.moved b cls bed := by simp [State.meter, hh, ho]
  rw [hmeter, s.moved_used]

end Used

/-! ### A request that reaches the stacks (R174, R182) -/

/-- The state in which a request that the cache does not answer has been counted and metered. -/
def State.reached (s : State) (r : MemReq) : State := (s.bump (pgCache (homeOf r.addr)) .MISSES).meter (homeOf r.addr) r.cls r.bed.val

section Reached

variable (s : State) (r : MemReq)

theorem State.reached_metered : s.Metered (s.reached r) :=
  State.Metered.trans (t := s.bump (pgCache (homeOf r.addr)) .MISSES) ⟨rfl, .bump _ _ _ _ (by decide)⟩ (State.meter_metered ..)

theorem State.reached_field {g : Fld} (hg : unmetered g = true) (hm : g ≠ .MISSES) : s.SameField g (s.reached r) :=
  (State.SameField.rfl.bump hm).meter hg

theorem State.reached_misses : (s.reached r).get (pgCache (homeOf r.addr)) .MISSES = satAdd 64 (s.get (pgCache (homeOf r.addr)) .MISSES) 1 :=
  ((State.SameField.rfl.meter (by decide)).get _ _).trans (State.get_bump_sat ..)

theorem State.isOverdraw_bump_misses (p : Page) (b cls bed : Nat) : (s.bump p .MISSES).isOverdraw b cls bed = s.isOverdraw b cls bed := by
  simp [State.isOverdraw, State.budget, State.get_bump]

theorem State.reached_used (hh : s.halts (pgReg (homeOf r.addr)) = false) (ho : s.isOverdraw (homeOf r.addr) r.cls r.bed.val = false) :
    (s.reached r).mem.used.get (homeOf r.addr, r.cls) 0 = s.mem.used.get (homeOf r.addr, r.cls) 0 + 64 :=
  State.meter_used _ hh ((s.isOverdraw_bump_misses ..).trans ho)

end Reached

/-! ### Errors of a line (R170, R186) -/

/-- An address that keeps R169 is below 2^43. -/
theorem addr_lt_of_good {a : Nat} (h : badAddr a = false) : a < 2 ^ 43 := by
  simp only [badAddr, Bool.or_eq_false_iff, decide_eq_false_iff_not, not_le] at h
  exact h.1

theorem State.addr_lt {s : State} {b a : Nat} {host : Bool} (h : s.faulty b host a = false) : a < 2 ^ 43 := by
  simp only [State.faulty, Bool.or_assoc, Bool.or_eq_false_iff] at h
  exact addr_lt_of_good h.1

theorem lineOf_mul_lt {a : Nat} (h : a < 2 ^ 43) : 64 * lineOf a < 2 ^ 64 := by
  unfold lineOf
  omega

section Errors

variable (s : State) (a : Nat)

@[simp] theorem State.countFault_mem : (s.countFault a).mem = s.mem := by simp [State.countFault]

theorem State.countFault_counted :
    (s.countFault a).get (pgBridge (homeOf a)) .ADDR_FAULTS = satAdd 32 (s.get (pgBridge (homeOf a)) .ADDR_FAULTS) 1 :=
  (((State.SameField.rfl.put (by decide)).raise (by decide)).get _ _).trans (State.get_bump_sat ..)

@[simp] theorem State.corrected_mem (mc : Nat) : (s.corrected mc).mem = s.mem := by simp [State.corrected]

theorem State.corrected_counted (mc : Nat) : (s.corrected mc).get (pgMc mc) .ERR_CORR = satAdd 16 (s.get (pgMc mc) .ERR_CORR) 1 :=
  ((State.SameField.rfl.raise (by decide)).get _ _).trans (State.get_bump_sat ..)

@[simp] theorem State.uncorrectable_mem : (s.uncorrectable a).mem = { s.mem with poison := setMark s.mem.poison (lineOf a) true } := by
  simp [State.uncorrectable]

theorem State.uncorrectable_poison : (s.uncorrectable a).mem.poison.contains (lineOf a) = true := by
  simp only [State.uncorrectable_mem, contains_setMark_same]

theorem State.uncorrectable_counted :
    (s.uncorrectable a).get (pgMc (s.stackOf a)) .ERR_UNCORR = satAdd 16 (s.get (pgMc (s.stackOf a)) .ERR_UNCORR) 1 :=
  (((State.SameField.rfl.put (by decide)).raise (by decide)).get _ _).trans (State.get_bump_sat ..)

theorem State.uncorrectable_captured {a : Nat} (ha : a < 2 ^ 43) : (s.uncorrectable a).get (pgMc (s.stackOf a)) .UE_ADDR = 64 * lineOf a :=
  ((State.SameField.rfl.raise (by decide)).get _ _).trans ((State.get_put_same ..).trans (Nat.mod_eq_of_lt (lineOf_mul_lt ha)))

end Errors

/-! ### The stacks' answer (R186, R189) -/

section Stacks

variable {s : State} {a : Nat} (hz : s.fenced a = false)
include hz

theorem State.stackRead_none : s.stackRead a .none = (s, s.mem.line (lineOf a), s.mem.poison.contains (lineOf a)) := by
  simp [State.stackRead, hz]

theorem State.stackRead_corrected :
    s.stackRead a .corrected = (s.corrected (s.stackOf a), s.mem.line (lineOf a), s.mem.poison.contains (lineOf a)) := by
  simp [State.stackRead, hz]

theorem State.stackRead_uncorrectable : s.stackRead a .uncorrectable = (s.uncorrectable a, s.mem.line (lineOf a), true) := by
  simp [State.stackRead, hz]

end Stacks

/-! ### The bytes of a line that is lost, and of one that is kept (R178) -/

/-- A byte depends on its line alone. -/
theorem MemSt.byte_of_line {m n : MemSt} {a : Nat} (h : n.line (lineOf a) = m.line (lineOf a)) : n.byte a = m.byte a := by
  have hmem : a % 64 ∈ List.range 64 := List.mem_range.2 (Nat.mod_lt _ (by decide))
  simp only [MemSt.line, MemSt.bytes] at h
  have hbyte : n.byte (64 * lineOf a + a % 64) = m.byte (64 * lineOf a + a % 64) := List.map_inj_left.1 h _ hmem
  rwa [lineOf, Nat.div_add_mod] at hbyte

theorem MemSt.length_line (m : MemSt) (l : Nat) : (m.line l).length = 64 := by simp [MemSt.line, MemSt.bytes]

/-! ### Lines of the bridge cache (R174, R175) -/

section Cache

variable (s : State) (l : Nat) (c : CacheLine)

theorem State.setCache_find : Tab.find? (s.setCache l c).mem.cache l = some c := Tab.find?_put_same ..

theorem State.dalFree_find : Tab.find? (s.dalFree l).mem.cache l = none := (Tab.find?_del ..).trans (if_pos rfl)

theorem State.dalFree_byte {a : Nat} (h : lineOf a ≠ l) : (s.dalFree l).mem.byte a = s.mem.byte a :=
  MemSt.byte_of_line (((State.Elsewhere.refl s).dalFree (List.mem_singleton.2 rfl)).line _ (by simpa using h))

@[simp] theorem State.refused_mem (b : Nat) : (s.refused b).mem = s.mem := by simp [State.refused]

theorem State.refused_counted (b : Nat) : (s.refused b).get (pgCache b) .ALLOC_REFUSED = satAdd 32 (s.get (pgCache b) .ALLOC_REFUSED) 1 :=
  ((State.SameField.rfl.raise (by decide)).get _ _).trans (State.get_bump_sat ..)

variable {c}

/-- A pinned line that is not counted is not used up. -/
theorem State.useLine_kept (h : c.dal = none) : s.useLine l c = s := by simp [State.useLine, h]

theorem State.useLine_last (h : c.dal = some 1) : s.useLine l c = s.dalFree l := by simp [State.useLine, h]

theorem State.useLine_counts {n : Nat} (h : c.dal = some (n + 2)) : s.useLine l c = s.setCache l { c with dal := some (n + 1) } := by
  simp [State.useLine, h]

/-- A use writes the cache, the line's bytes where it is the last one, and DAL_FREED. -/
theorem State.useLine_field {g : Fld} (hg : g ≠ .DAL_FREED) : s.SameField g (s.useLine l c) := by
  unfold State.useLine
  split
  · exact .rfl
  · exact .ite (State.SameField.rfl.setMem.setMem.bump hg) State.SameField.rfl.setMem

theorem State.useLine_poison : (s.useLine l c).mem.poison = s.mem.poison := by
  unfold State.useLine
  split
  · rfl
  · split <;> rfl

theorem State.useLine_used : (s.useLine l c).mem.used = s.mem.used := by
  unfold State.useLine
  split
  · rfl
  · split <;> rfl

end Cache

/-! ### What a bridge does with a read that it answers from the stacks (R173 to R175) -/

section Miss

variable {s : State} {r : MemReq} (d : List Byte) (p : Bool)

/-- The cache entry that a read of a line puts there. -/
def State.readEntry (s : State) (r : MemReq) (d : List Byte) (p : Bool) : CacheLine :=
  ⟨if r.hint = 1 then none else some (r.uses - 1), d, false, p, s.mem.rel.contains (lineOf r.addr), false, r.cls, r.bed.val⟩

/-- Class 3 and the other hints pin nothing (R173, R176). -/
theorem State.serveMiss_stream (h : r.hint = 0 ∨ r.hint = 3 ∨ r.cls = 3) : s.serveMiss r d p = s := by
  rcases h with h | h | h <;> simp [State.serveMiss, h]

variable (hc : r.cls ≠ 3) (hh : r.hint = 1 ∨ r.hint = 2) (hrun : s.halts (pgCache (homeOf r.addr)) = false)
include hc hh hrun

/-- A read whose hint pins its line. -/
theorem State.serveMiss_pins : s.serveMiss r d p = if s.setFull (lineOf r.addr) then s.refused (homeOf r.addr)
    else if r.hint = 1 ∨ 1 < r.uses then s.setCache (lineOf r.addr) (s.readEntry r d p) else s.dalFree (lineOf r.addr) := by
  rcases hh with h | h
  · simp [State.serveMiss, State.readEntry, hc, h, hrun]
  · by_cases hu : r.uses ≤ 1
    · simp [State.serveMiss, hc, h, hrun, hu, Nat.not_lt.2 hu]
    · simp [State.serveMiss, State.readEntry, hc, h, hrun, hu, Nat.not_le.1 hu]

end Miss

end Sys2Proof.Machine
end

section
/-! PROOFS. Settles LineReads (O48): each way in which a bridge answers a read is one equation of `State.readLine`, and the registers and bytes are read off it (R170 to R176, R182, R186, R276). -/

namespace Sys2Proof.Machine

/-! ### The answer of LINE_READ (R170) -/

/-- The state in which a requester has been handed data and EP. -/
def State.handed (x : State × List Byte × Bool) : State := { x.1 with out := { x.1.out with data := x.2.1, ep := x.2.2 } }

theorem exec_lineRead (r : MemReq) (err : LineErr) (s : State) :
    exec (.lineRead r err) s = .next (State.handed (s.readLine r err)) := rfl

@[simp] theorem State.handed_mem (x : State × List Byte × Bool) : (State.handed x).mem = x.1.mem := rfl
@[simp] theorem State.handed_get (x : State × List Byte × Bool) (p : Page) (f : Fld) (i : Nat) :
    (State.handed x).get p f i = x.1.get p f i := rfl

/-! ### The checks of a read (R170, R276) -/

/-- What a denied read writes beside its event: the count and the address (R276). -/
def State.denied (s : State) (a : Nat) : State :=
  (s.bump (pgBridge (homeOf a)) .EGRESS_DENY).put (pgBridge (homeOf a)) .DENY_ADDR (64 * lineOf a)

theorem State.denyRead_field (s : State) (a : Nat) (first : Bool) {g : Fld} (hq : quietField g = true) :
    (s.denied a).SameField g (s.denyRead a first) := by
  unfold State.denyRead
  exact .ite (State.SameField.rfl.setMem.raise hq) (State.SameField.rfl.evt hq)

theorem State.denyRead_byte (s : State) (a : Nat) (first : Bool) (x : Nat) : (s.denyRead a first).mem.byte x = s.mem.byte x := by
  unfold State.denyRead
  dsimp only
  split
  · rw [State.raise_mem]
    rfl
  · rfl

section Unserved

variable {s : State} {r : MemReq} (err : LineErr)

theorem State.readLine_fault (hf : s.faulty r.bed.val r.host r.addr = true) :
    s.readLine r err = (s.countFault r.addr, List.replicate 64 0, true) := by
  simp [State.readLine, hf]

theorem State.readLine_denied (hf : s.faulty r.bed.val true r.addr = false) (hh : r.host = true) (hg : s.guardDenies r.addr = true) :
    s.readLine r err = (s.denyRead r.addr true, List.replicate 64 0, false) := by
  simp [State.readLine, hf, hh, hg]

/-- An engine of the device is served by the bridge: the egress guard is the host's. -/
theorem State.readLine_served (hf : s.faulty r.bed.val r.host r.addr = false) (hh : r.host = false) : s.readLine r err = s.serveRead r err := by
  rw [State.readLine, if_neg (by simp [hf]), if_neg (by simp [hh])]

end Unserved

/-! ### Reads of a pinned line (R174, R176) -/

/-- The state in which an access has been counted as a hit. -/
def State.hit (s : State) (r : MemReq) : State := s.bump (pgCache (homeOf r.addr)) .HITS

theorem State.hit_counted (s : State) (r : MemReq) :
    (s.hit r).get (pgCache (homeOf r.addr)) .HITS = satAdd 64 (s.get (pgCache (homeOf r.addr)) .HITS) 1 := State.get_bump_sat ..

/-- The state in which a request has used a pinned line: class 3 uses no count (R176). -/
def State.usedBy (s : State) (r : MemReq) (c : CacheLine) : State := if r.cls = 3 then s else s.useLine (lineOf r.addr) c

section UsedBy

variable (s : State) (r : MemReq) (c : CacheLine)

theorem State.usedBy_field {g : Fld} (hg : g ≠ .DAL_FREED) : s.SameField g (s.usedBy r c) := .ite .rfl (s.useLine_field _ hg)

theorem State.usedBy_used : (s.usedBy r c).mem.used = s.mem.used := by
  unfold State.usedBy
  split
  · rfl
  · exact s.useLine_used _

theorem State.usedBy_poison : (s.usedBy r c).mem.poison = s.mem.poison := by
  unfold State.usedBy
  split
  · rfl
  · exact s.useLine_poison _

variable {c}

theorem State.usedBy_kept (h : c.dal = none) : s.usedBy r c = s := by rw [State.usedBy, s.useLine_kept _ h, ite_self]

end UsedBy

/-- A pinned line whose SRAM failed: the event of the cache, the line poisoned where it stands and in the cache (R186). -/
def State.sramFailed (s : State) (r : MemReq) (c : CacheLine) : State :=
  (((s.hit r).raise (pgCache (homeOf r.addr)) 2).uncorrectable r.addr).setCache (lineOf r.addr) c

section Hit

variable {s : State} {r : MemReq} {c : CacheLine} (hf : s.faulty r.bed.val r.host r.addr = false) (hh : r.host = false)
  (hc : Tab.find? s.mem.cache (lineOf r.addr) = some c)
include hf hh hc

theorem State.readLine_hit {err : LineErr} (he : err ≠ .sram) : s.readLine r err = ((s.hit r).usedBy r c, c.data, c.poison) := by
  simp only [State.readLine_served err hf hh, State.serveRead, hc, State.serveHit, if_neg he]
  rfl

theorem State.readLine_sram : s.readLine r .sram =
    ((s.sramFailed r { c with poison := true }).usedBy r { c with poison := true }, c.data, true) := by
  simp only [State.readLine_served .sram hf hh, State.serveRead, hc]
  rfl

end Hit

/-- What an SRAM error leaves: the line's poison tag and the controller's capture and count. -/
theorem State.sramFailed_reports (s : State) {r : MemReq} (c : CacheLine) (ha : r.addr < 2 ^ 43) :
    (s.sramFailed r c).mem.poison.contains (lineOf r.addr) = true ∧
    (s.sramFailed r c).get (pgMc (s.stackOf r.addr)) .UE_ADDR = 64 * lineOf r.addr ∧
    (s.sramFailed r c).get (pgMc (s.stackOf r.addr)) .ERR_UNCORR = satAdd 16 (s.get (pgMc (s.stackOf r.addr)) .ERR_UNCORR) 1 := by
  have hmap : s.SameMap ((s.hit r).raise (pgCache (homeOf r.addr)) 2) :=
    (State.SameMap.bump _ _ _ _ (by decide)).trans (.raise _ _ _)
  have hfield : s.SameField .ERR_UNCORR ((s.hit r).raise (pgCache (homeOf r.addr)) 2) :=
    (State.SameField.rfl.bump (by decide)).raise (by decide)
  rw [← hmap.stackOf, ← hfield.get]
  exact ⟨State.uncorrectable_poison .., State.uncorrectable_captured _ ha, State.uncorrectable_counted ..⟩

/-! ### Reads from the stacks (R173 to R175, R182, R186) -/

section Miss

variable {s : State} {r : MemReq} (hf : s.faulty r.bed.val r.host r.addr = false) (hh : r.host = false)
  (hc : Tab.find? s.mem.cache (lineOf r.addr) = none)
include hf hh hc

theorem State.readLine_miss (err : LineErr) : s.readLine r err =
    (((s.reached r).stackRead r.addr err).1.serveMiss r ((s.reached r).stackRead r.addr err).2.1 ((s.reached r).stackRead r.addr err).2.2,
      ((s.reached r).stackRead r.addr err).2.1, ((s.reached r).stackRead r.addr err).2.2) := by
  simp only [State.readLine_served err hf hh, State.serveRead, hc, State.reached]

variable (hz : s.fenced r.addr = false)
include hz

/-- A line without an error arrives as memory holds it. -/
theorem State.readLine_clean : s.readLine r .none =
    ((s.reached r).serveMiss r (s.mem.line (lineOf r.addr)) (s.mem.poison.contains (lineOf r.addr)), s.mem.line (lineOf r.addr),
      s.mem.poison.contains (lineOf r.addr)) := by
  have hmeter := s.reached_metered r
  rw [State.readLine_miss hf hh hc, State.stackRead_none ((hmeter.2.fenced _).trans hz), hmeter.line, hmeter.poison]

theorem State.readLine_corrected (hs : r.hint = 0) : s.readLine r .corrected =
    ((s.reached r).corrected (s.stackOf r.addr), s.mem.line (lineOf r.addr), s.mem.poison.contains (lineOf r.addr)) := by
  have hmeter := s.reached_metered r
  rw [State.readLine_miss hf hh hc, State.stackRead_corrected ((hmeter.2.fenced _).trans hz), State.serveMiss_stream _ _ (.inl hs),
    hmeter.2.stackOf, hmeter.line, hmeter.poison]

theorem State.readLine_uncorrectable (hs : r.hint = 0) :
    s.readLine r .uncorrectable = ((s.reached r).uncorrectable r.addr, s.mem.line (lineOf r.addr), true) := by
  have hmeter := s.reached_metered r
  rw [State.readLine_miss hf hh hc, State.stackRead_uncorrectable ((hmeter.2.fenced _).trans hz), State.serveMiss_stream _ _ (.inl hs),
    hmeter.line]

end Miss

/-- Settles O48: each clause is the equation of its kind of read (`State.readLine_hit`, `State.readLine_clean` and their companions), with the registers that the regulators leave (`State.SameField.meter`). -/
theorem lineReads : Obligations.LineReads := by
  refine ⟨?fault, ?hit, ?stream, ?errors, ?sram, ?pins, ?guard⟩
  case fault =>
    intro r err s hf
    rw [exec_lineRead, State.readLine_fault err hf]
    exact ⟨_, rfl, rfl, rfl, State.countFault_mem .., State.countFault_counted ..⟩
  case hit =>
    intro r err c s hf hh he hc
    rw [exec_lineRead, State.readLine_hit hf hh hc he]
    refine ⟨_, rfl, rfl, rfl, (((s.hit r).usedBy_field r c (by decide)).get _ _).trans (s.hit_counted r), (s.hit r).usedBy_used r c,
      fun n hd h3 => ?_, fun hd h3 => ?_, fun hd => ?_⟩
    · rw [State.handed_mem, State.usedBy, if_neg h3, State.useLine_counts _ _ hd, State.setCache_find]
    · rw [State.handed_mem, State.usedBy, if_neg h3, State.useLine_last _ _ hd, State.dalFree_find]
    · rw [State.handed_mem, State.usedBy_kept _ _ hd]
      rfl
  case stream =>
    intro r s hf hh hc hz hs
    have hmeter := s.reached_metered r
    rw [exec_lineRead, State.readLine_clean hf hh hc hz, State.serveMiss_stream _ _ hs]
    exact ⟨_, rfl, rfl, rfl, hmeter.cache, s.reached_misses r, s.reached_used r, hmeter.byte⟩
  case errors =>
    intro r s hf hh hc hz hs
    have hmeter := s.reached_metered r
    refine ⟨?_, ?_⟩
    · rw [exec_lineRead, State.readLine_corrected hf hh hc hz hs]
      refine ⟨_, rfl, rfl, rfl, ?_, fun a => ?_, ?_⟩
      · rw [State.handed_mem, State.corrected_mem, hmeter.poison]
      · rw [State.handed_mem, State.corrected_mem, hmeter.byte]
      · rw [State.handed_get, State.corrected_counted, (s.reached_field r (by decide) (by decide)).get]
    · rw [exec_lineRead, State.readLine_uncorrectable hf hh hc hz hs]
      refine ⟨_, rfl, rfl, State.uncorrectable_poison .., fun a => ?_, ?_, ?_⟩
      · rw [State.handed_mem, State.uncorrectable_mem]
        exact hmeter.byte a
      · rw [State.handed_get, ← hmeter.2.stackOf, State.uncorrectable_captured _ (State.addr_lt hf)]
      · rw [State.handed_get, ← hmeter.2.stackOf, State.uncorrectable_counted, (s.reached_field r (by decide) (by decide)).get]
  case sram =>
    intro r c s hf hh hc
    obtain ⟨hpoison, haddr, hcount⟩ := s.sramFailed_reports { c with poison := true } (State.addr_lt hf)
    have hfield : ∀ {g : Fld}, g ≠ .DAL_FREED → (s.sramFailed r { c with poison := true }).SameField g _ :=
      State.usedBy_field _ r { c with poison := true }
    rw [exec_lineRead, State.readLine_sram hf hh hc]
    refine ⟨_, rfl, rfl, ?_, ((hfield (by decide)).get _ _).trans haddr, ((hfield (by decide)).get _ _).trans hcount, fun hd => ?_⟩
    · rw [State.handed_mem, State.usedBy_poison, hpoison]
    · rw [State.handed_mem, State.usedBy_kept _ _ (c := { c with poison := true }) hd]
      refine ⟨State.setCache_find .., fun a => ?_⟩
      have hmem : (((s.hit r).raise (pgCache (homeOf r.addr)) 2).uncorrectable r.addr).mem.byte a = s.mem.byte a := by
        rw [State.uncorrectable_mem, State.raise_mem]
        rfl
      exact hmem
  case pins =>
    intro r s hf hh hc hz h3 hint hrun
    have hmeter := s.reached_metered r
    have helse : State.Elsewhere [lineOf r.addr] s (s.readLine r .none).1 :=
      (State.Elsewhere.refl s).readLine hh (List.mem_singleton.2 rfl)
    have hpins := State.serveMiss_pins (s.mem.line (lineOf r.addr)) (s.mem.poison.contains (lineOf r.addr)) h3 hint
      ((hmeter.halts _).trans hrun)
    rw [hmeter.setFull] at hpins
    rw [State.readLine_clean hf hh hc hz, hpins] at helse
    rw [exec_lineRead, State.readLine_clean hf hh hc hz, hpins]
    refine ⟨_, rfl, rfl, rfl, fun l hl => helse.cache l (by simpa using hl), fun hfull => ?_, fun hfull hkeep => ?_, fun hfull h2 hu => ?_⟩
    · simp only [State.handed_mem, State.handed_get, hfull, if_true, State.refused_mem, hmeter.cache, State.refused_counted,
        (s.reached_field r (g := .ALLOC_REFUSED) (by decide) (by decide)).get, true_and]
    · simp only [State.handed_mem, hfull, Bool.false_eq_true, if_false, hkeep, if_true, State.setCache_find]
      refine ⟨?_, hmeter.byte⟩
      rw [State.readEntry, hmeter.rel]
    · have hlast : ¬(r.hint = 1 ∨ 1 < r.uses) := by omega
      simp only [State.handed_mem, hfull, Bool.false_eq_true, if_false, hlast, State.dalFree_find, true_and]
      exact fun a ha => ((s.reached r).dalFree_byte _ ha).trans (hmeter.byte a)
  case guard =>
    intro r err s hf hh hg
    rw [exec_lineRead, State.readLine_denied err hf hh hg]
    refine ⟨_, rfl, rfl, rfl, ?_, ?_, s.denyRead_byte r.addr true⟩
    · rw [State.handed_get, (s.denyRead_field r.addr true (by decide)).get, State.denied, State.get_put_fld _ _ _ _ _ _ (by decide)]
      exact State.get_bump_sat ..
    · rw [State.handed_get, (s.denyRead_field r.addr true (by decide)).get, State.denied, State.get_put_same]
      exact Nat.mod_eq_of_lt (lineOf_mul_lt (State.addr_lt hf))

end Sys2Proof.Machine
end

section
/-! PROOFS. Settles LineWrites (O49): a served write is one equation for a pinned line, for a line that streams past the cache and for a line that its hint puts there (R174, R175, R186), and the host's denied write changes no byte (R294). -/

namespace Sys2Proof.Machine

/-! ### The checks of LINE_WRITE (R170, R294) -/

section Checks

variable {s : State} {r : MemReq} (first : Nat) (d : List Byte) (p : Bool)

/-- An address fault comes before the check of the session (R170). -/
theorem exec_lineWrite_fault (hf : s.faulty r.bed.val r.host r.addr = true) :
    exec (.lineWrite r first d p) s = .next (s.countFault r.addr) := by
  have hwrite : execLineWrite r first d p s = .next (s.countFault r.addr) := by simp [execLineWrite, State.writeLine, hf]
  exact hwrite

theorem exec_lineWrite_denied (hf : s.faulty r.bed.val true r.addr = false) (hh : r.host = true)
    (ho : s.sessionOpen (s.partOf (homeOf r.addr)) = true) : exec (.lineWrite r first d p) s = .next (s.denyWrite r.addr 1) := by
  have hwrite : execLineWrite r first d p s = .next (s.denyWrite r.addr 1) := by simp [execLineWrite, hf, hh, ho]
  exact hwrite

theorem exec_lineWrite_served (hf : s.faulty r.bed.val r.host r.addr = false)
    (ho : r.host = true → s.sessionOpen (s.partOf (homeOf r.addr)) = false) :
    exec (.lineWrite r first d p) s = .next (s.serveWrite r (first % 64) (d.take (64 - first % 64)) p false) := by
  have hopen : (r.host && !s.faulty r.bed.val r.host r.addr && s.sessionOpen (s.partOf (homeOf r.addr))) = false := by
    cases hh : r.host with
    | false => rfl
    | true => rw [ho hh, Bool.and_false]
  have hwrite : execLineWrite r first d p s = .next (s.serveWrite r (first % 64) (d.take (64 - first % 64)) p false) := by
    rw [execLineWrite, hopen, if_neg (by decide), State.writeLine, hf, if_neg (by decide)]
  exact hwrite

end Checks

/-- A denied write is counted at the security engine (R294). -/
theorem State.denyWrite_counted (s : State) (a kind : Nat) : (s.denyWrite a kind).get pgSec .INGRESS_DENY (s.partOf (homeOf a)) =
    satAdd 32 (s.get pgSec .INGRESS_DENY (s.partOf (homeOf a))) 1 := by
  have hfield : (s.bump pgSec .INGRESS_DENY 1 (s.partOf (homeOf a))).SameField .INGRESS_DENY (s.denyWrite a kind) := by
    unfold State.denyWrite
    exact .ite (State.SameField.rfl.setMem.record (by decide)) .rfl
  rw [hfield.get]
  exact State.get_bump_sat ..

theorem State.denyWrite_byte (s : State) (a kind x : Nat) : (s.denyWrite a kind).mem.byte x = s.mem.byte x := by
  unfold State.denyWrite
  dsimp only
  split
  · rw [State.record_mem]
    rfl
  · rfl

/-! ### Where a write goes (R174, R175) -/

/-- The cache entry that a write leaves, over the old line's data and poison (R174, R186). -/
def writtenEntry (r : MemReq) (first : Nat) (d : List Byte) (p : Bool) (dal : Option Nat) (old : List Byte) (bad : Bool) : CacheLine :=
  { dal := dal, data := spliceLine old first d, dirty := true, poison := p || bad, rel := false, written := true, cls := r.cls,
    bed := r.bed.val }

section Write

variable {s : State} {r : MemReq} {first : Nat} (d : List Byte) (p : Bool)

theorem State.serveWrite_hit {c : CacheLine} (hc : Tab.find? s.mem.cache (lineOf r.addr) = some c) :
    s.serveWrite r first d p false = (s.hit r).setCache (lineOf r.addr)
      (writtenEntry r first d p (dalAfterWrite (if r.cls = 3 then 0 else r.hint) r.uses c.dal) c.data
        (c.poison && !decide (first = 0 ∧ 64 ≤ d.length))) := by
  simp only [State.serveWrite, hc]
  rfl

section Miss

variable (hc : Tab.find? s.mem.cache (lineOf r.addr) = none)
include hc

/-- A write without a hint streams past the cache. -/
theorem State.serveWrite_stream (hh : r.hint = 0) : s.serveWrite r first d p false =
    if first = 0 ∧ 64 ≤ d.length then (s.reached r).stackWrite r.addr d p false else (s.reached r).stackPatch r.addr first d p false := by
  simp only [State.serveWrite, hc, hh, ite_self, State.reached]
  simp

variable (h3 : r.cls ≠ 3) (hh : r.hint = 1 ∨ r.hint = 2) (hrun : s.halts (pgCache (homeOf r.addr)) = false)
  (hroom : s.setFull (lineOf r.addr) = false)
include h3 hh hrun hroom

/-- A whole line that its hint puts into the cache reaches no memory (R182). -/
theorem State.serveWrite_whole (hfull : first = 0 ∧ 64 ≤ d.length) : s.serveWrite r first d p false = s.setCache (lineOf r.addr)
    (writtenEntry r first d p (if r.hint = 2 then some r.uses else none) (padTo 64 d) false) := by
  have hhint : ((r.hint != 1 && r.hint != 2) || s.halts (pgCache (homeOf r.addr))) = false := by
    rcases hh with h | h <;> simp [h, hrun]
  simp [State.serveWrite, hc, h3, hhint, hroom, hfull, writtenEntry]

/-- A part of a line that its hint puts into the cache is written over what the stacks hold. -/
theorem State.serveWrite_part (hz : s.fenced r.addr = false) (hpart : ¬(first = 0 ∧ 64 ≤ d.length)) :
    s.serveWrite r first d p false = (s.reached r).setCache (lineOf r.addr)
      (writtenEntry r first d p (if r.hint = 2 then some r.uses else none) (padTo 64 (s.mem.line (lineOf r.addr)))
        (s.mem.poison.contains (lineOf r.addr))) := by
  have hhint : ((r.hint != 1 && r.hint != 2) || s.halts (pgCache (homeOf r.addr))) = false := by
    rcases hh with h | h <;> simp [h, hrun]
  have hmeter := s.reached_metered r
  have hread : ((s.bump (pgCache (homeOf r.addr)) .MISSES).meter (homeOf r.addr) r.cls r.bed.val).stackRead r.addr .none =
      (s.reached r, s.mem.line (lineOf r.addr), s.mem.poison.contains (lineOf r.addr)) := by
    rw [← State.reached, State.stackRead_none ((hmeter.2.fenced _).trans hz), hmeter.line, hmeter.poison]
  simp only [State.serveWrite, hc, if_neg h3, hhint, hroom, decide_eq_false hpart, hread, Bool.false_eq_true, if_false, writtenEntry]

end Miss

end Write

/-! ### The bytes of a write that streams past the cache (R186, R189) -/

section Stream

variable {s : State} {r : MemReq} {first : Nat} (d : List Byte) (p : Bool) (hc : Tab.find? s.mem.cache (lineOf r.addr) = none)
  (hh : r.hint = 0)
include hc hh

theorem State.serveWrite_bytes (hz : s.fenced r.addr = false) (hlen : first + d.length ≤ 64) (a : Nat) :
    (s.serveWrite r first d p false).mem.byte a = overlay s.mem.byte (64 * lineOf r.addr + first) d a := by
  have hmeter := s.reached_metered r
  have hfence : (s.reached r).fenced r.addr = false := (hmeter.2.fenced _).trans hz
  have hbyte : (s.reached r).mem.byte = s.mem.byte := funext hmeter.byte
  rw [State.serveWrite_stream d p hc hh, ← hbyte]
  split
  next hfull =>
    obtain ⟨rfl, h64⟩ := hfull
    rw [State.stackWrite, hfence, if_neg (by decide)]
    exact MemSt.byte_storeLine _ _ a d p false (by omega)
  next =>
    rw [State.stackPatch, hfence, if_neg (by decide)]
    exact MemSt.byte_patchLine _ _ first a d p false hlen

/-- A fenced channel discards the write (R189). -/
theorem State.serveWrite_fenced (hz : s.fenced r.addr = true) : s.serveWrite r first d p false = s.reached r := by
  have hfence : (s.reached r).fenced r.addr = true := ((s.reached_metered r).2.fenced _).trans hz
  rw [State.serveWrite_stream d p hc hh, State.stackWrite, State.stackPatch, hfence, if_pos rfl, if_pos rfl, ite_self]

end Stream

/-- Bytes cut at a line's end and put over memory are the write's bytes in that line. -/
theorem overlay_take_line (old : Nat → Byte) {l first : Nat} (d : List Byte) (hfirst : first < 64) (a : Nat) :
    overlay old (64 * l + first) (d.take (64 - first)) a =
      if l = lineOf a ∧ first ≤ a % 64 then d[a % 64 - first]?.getD (old a) else old a := by
  unfold overlay lineOf
  by_cases hin : l = a / 64 ∧ first ≤ a % 64
  · have hindex : a - (64 * l + first) = a % 64 - first := by omega
    rw [if_pos (by omega), if_pos hin, hindex, List.getElem?_take_of_lt (by omega)]
  · rw [if_neg hin]
    split
    · rw [List.getElem?_eq_none (by rw [List.length_take]; omega)]
      rfl
    · rfl

/-- A write is a whole line before and after it is cut at the line's end. -/
theorem whole_take_iff {first : Nat} {d : List Byte} : (first = 0 ∧ 64 ≤ (d.take (64 - first)).length) ↔ (first = 0 ∧ 64 ≤ d.length) := by
  rw [List.length_take]
  omega

/-- A whole line spliced over any other is that line. -/
theorem spliceLine_whole (old d : List Byte) (h : d.length = 64) : spliceLine old 0 d = d := by
  simp [spliceLine, ← h]

theorem padTo_of_length {n : Nat} {d : List Byte} (h : d.length = n) : padTo n d = d := by simp [padTo, ← h]

/-- Settles O49: each clause is the equation of its kind of write (`State.serveWrite_hit`, `State.serveWrite_stream` and their companions), and what a metered request leaves of memory (`State.reached_metered`). -/
theorem lineWrites : Obligations.LineWrites := by
  refine ⟨?fault, ?stream, ?fenced, ?hit, ?allocates, ?denied⟩
  case fault =>
    intro r first d p s hf
    rw [exec_lineWrite_fault first d p hf]
    exact ⟨_, rfl, State.countFault_mem .., State.countFault_counted ..⟩
  case stream =>
    intro r first d p s hf ho hc hh hfirst hz
    rw [exec_lineWrite_served first d p hf ho, Nat.mod_eq_of_lt hfirst]
    refine ⟨_, rfl, fun a => ?_⟩
    rw [State.serveWrite_bytes _ p hc hh hz (by rw [List.length_take]; omega), overlay_take_line _ d hfirst]
  case fenced =>
    intro r first d p s hf ho hc hh hz
    rw [exec_lineWrite_served first d p hf ho, State.serveWrite_fenced _ p hc hh hz]
    exact ⟨_, rfl, (s.reached_metered r).byte⟩
  case hit =>
    intro r first d p c s hf ho hc hfirst
    rw [exec_lineWrite_served first d p hf ho, Nat.mod_eq_of_lt hfirst, State.serveWrite_hit _ p hc]
    simp only [whole_take_iff]
    exact ⟨_, rfl, State.setCache_find .., fun l hl => Tab.find?_put_ne _ _ hl, s.hit_counted r, rfl, fun _ => rfl⟩
  case allocates =>
    intro r first d p s hf hh hc hfirst hz h3 hint hrun hroom
    rw [exec_lineWrite_served first d p hf (fun h => absurd (hh.symm.trans h) (by decide)), Nat.mod_eq_of_lt hfirst]
    by_cases hfull : first = 0 ∧ 64 ≤ d.length
    · have hlen : (d.take (64 - first)).length = 64 := by
        rw [List.length_take]
        omega
      rw [State.serveWrite_whole _ p hc h3 hint hrun hroom (whole_take_iff.2 hfull)]
      obtain ⟨rfl, h64⟩ := hfull
      refine ⟨_, rfl, ?_, fun _ _ => rfl, fun _ => rfl⟩
      rw [State.setCache_find, writtenEntry, spliceLine_whole _ _ hlen]
      simp [h64]
    · rw [State.serveWrite_part _ p hc h3 hint hrun hroom hz (mt whole_take_iff.1 hfull)]
      refine ⟨_, rfl, ?_, fun h0 h64 => absurd ⟨h0, h64⟩ hfull, (s.reached_metered r).byte⟩
      rw [State.setCache_find, writtenEntry, padTo_of_length (MemSt.length_line ..)]
      simp [hfull]
  case denied =>
    intro r first d p s hf hh ho
    rw [exec_lineWrite_denied first d p hf hh ho]
    exact ⟨_, rfl, s.denyWrite_counted r.addr 1, s.denyWrite_byte r.addr 1⟩

end Sys2Proof.Machine
end

section
/-! PROOFS. Settles MemoryUpkeep (O50): the end of a scrub and of the close that waits for it (R185, R295), patrol scrubs (R188), stack temperature (R168) and the retraining and fencing of channels (R189; log 19). -/

namespace Sys2Proof.Machine

/-! ### The end of a scrub (R185, R295) -/

/-- The state in which one bridge's scrub has ended. -/
def State.scrubbed (s : State) (b : Nat) : State := (s.put (pgBridge b) .SCRUB_BUSY 0).raise (pgBridge b) 1

section Scrub

variable (s : State) (b : Nat)

theorem State.scrubbed_field {g : Fld} (hq : quietField g = true) (hg : g ≠ .SCRUB_BUSY) : s.SameField g (s.scrubbed b) :=
  (State.SameField.rfl.put hg).raise hq

theorem State.scrubbed_partOf (x : Nat) : (s.scrubbed b).partOf x = s.partOf x := by
  rw [State.partOf, State.partSize, State.partCount, (s.scrubbed_field b (by decide) (by decide)).get, State.partOf, State.partSize,
    State.partCount]

theorem State.scrubbed_partBeds (q : Nat) : (s.scrubbed b).partBeds q = s.partBeds q := by
  simp only [State.partBeds, State.scrubbed_partOf]

theorem State.scrubbed_sessionState (q : Nat) : (s.scrubbed b).sessionState q = s.sessionState q :=
  (s.scrubbed_field b (by decide) (by decide)).get _ _

/-- SCRUB_BUSY clears at the bridge and stays at the others. -/
theorem State.scrubbed_busy (x : Nat) : (s.scrubbed b).get (pgBridge x) .SCRUB_BUSY = if x = b then 0 else s.get (pgBridge x) .SCRUB_BUSY := by
  have hraise : (s.put (pgBridge b) .SCRUB_BUSY 0).SameField .SCRUB_BUSY (s.scrubbed b) := State.SameField.rfl.raise (by decide)
  rw [hraise.get, State.get_put]
  simp [pgBridge]

end Scrub

/-- SCRUB_DONE of a bridge that a scrub holds: the partition's last one lets a session go on. -/
theorem exec_scrubDone {b : Bed} {s : State} (h : s.flag (pgBridge b.val) .SCRUB_BUSY = true) :
    exec (.scrubDone b) s =
      if (s.partBeds (s.partOf b.val)).any fun x => (s.scrubbed b.val).flag (pgBridge x) .SCRUB_BUSY then .next (s.scrubbed b.val)
      else if s.sessionState (s.partOf b.val) = 1 then .next ((s.scrubbed b.val).finishOpen (s.partOf b.val))
      else if s.sessionState (s.partOf b.val) = 3 then .next ((s.scrubbed b.val).finishClose (s.partOf b.val))
      else .next (s.scrubbed b.val) := by
  rw [← s.scrubbed_sessionState b.val, ← s.scrubbed_partBeds b.val, ← s.scrubbed_partOf b.val]
  have hdone : execScrubDone b s = _ := if_neg (by simp [h])
  exact hdone

/-- The state of a session reads back. -/
theorem State.setSessionState_same (s : State) (p st : Nat) : (s.setSessionState p st).sessionState p = st % 4 := by
  unfold State.setSessionState State.sessionState
  rw [State.get_put_fld _ _ _ _ _ _ (by decide), State.get_put_fld _ _ _ _ _ _ (by decide)]
  exact State.get_put_same ..

section Close

variable (s : State) (p : Nat)

/-- The end of a close leaves SCRUB_BUSY as it is. -/
theorem State.finishClose_scrubBusy : s.SameField .SCRUB_BUSY (s.finishClose p) := by
  have hguards : s.SameField .SCRUB_BUSY ((s.partBeds p).foldl (fun s b => s.put (pgBridge b) .GUARD_ACTIVE 0) s) :=
    State.SameField.rfl.foldl fun _ _ h => h.put (by decide)
  unfold State.finishClose State.setSessionState
  dsimp only
  refine State.SameField.raise ?_ (by decide)
  refine (((State.SameField.put ?_ (by decide)).put (by decide)).put (by decide)).put (by decide)
  exact (hguards.foldl fun _ _ h => h.put (by decide)).congr rfl

/-- A close ends with the session closed (R295). -/
theorem State.finishClose_closed : (s.finishClose p).sessionState p = 0 := by
  unfold State.finishClose
  dsimp only
  rw [State.sessionState, State.raise_get _ _ _ _ _ _ rfl (by decide), State.get_put_fld _ _ _ _ _ _ (by decide)]
  exact State.setSessionState_same ..

end Close

/-! ### Patrol scrubs (R188) -/

/-- PATROL_SCRUB of a line of the stack reads it, and counts a pass that is complete. -/
theorem exec_patrolScrub {u : Stack} {a : Nat} {s : State} (err : LineErr) (pass : Bool) (hon : s.memoryOn = true) (ha : badAddr a = false)
    (hu : s.stackOf a = u.val) : exec (.patrolScrub u a err pass) s =
      .next (if pass then (s.stackRead a err).1.bump (pgMc u.val) .SCRUB_PASS else (s.stackRead a err).1) := by
  have hscrub : execPatrolScrub u a err pass s = _ := if_neg (by simp [hon])
  refine hscrub.trans ?_
  simp [ha, hu]

theorem State.uncorrectable_field (s : State) (a : Nat) {g : Fld} (hq : quietField g = true) (hc : g ≠ .ERR_UNCORR) (ha : g ≠ .UE_ADDR) :
    s.SameField g (s.uncorrectable a) :=
  ((State.SameField.rfl.setMem.bump hc).put ha).raise hq

/-! ### Channels (R189) -/

/-- What the begin of a retraining leaves of a state, its events beside. -/
structure State.Retraining (s t : State) (u ch : Nat) : Prop where
  busy : t.mem.chBusy.contains (u, ch) = true
  shown : t.get (pgMc u) .RETRAINING = 1
  counted : t.get (pgMc u) .RETRAIN_CNT = satAdd 16 (s.get (pgMc u) .RETRAIN_CNT) 1
  cells : t.mem.cells = s.mem.cells

theorem State.retrain_retraining (s : State) (u ch : Nat) : s.Retraining (s.retrain u ch) u ch where
  busy := by by_cases h : (u, ch) ∈ s.mem.chBusy <;> simp [State.retrain, h]
  shown := State.get_put_same ..
  counted := (State.get_put_fld _ _ _ _ _ _ (by decide)).trans (State.get_bump_sat ..)
  cells := rfl

/-- Events and records leave a retraining as it is. -/
theorem State.Retraining.congr {s t v : State} {u ch : Nat} (h : s.Retraining t u ch) (hm : v.mem = t.mem)
    (hf : ∀ {g : Fld}, quietField g = true → t.SameField g v) : s.Retraining v u ch where
  busy := hm ▸ h.busy
  shown := ((hf (by decide)).get _ _).trans h.shown
  counted := ((hf (by decide)).get _ _).trans h.counted
  cells := hm ▸ h.cells

theorem exec_memoryTrainingCheck_failed (u : Stack) (ch : Fin 32) {s : State} (hon : s.memoryOn = true) :
    exec (.memoryTrainingCheck u ch false) s =
      .next (((s.retrain u.val ch.val).evt (pgMc u.val) 2).record 0x0910 (pgMc u.val)) := by
  have hcheck : execMemoryTrainingCheck u ch false s = _ := if_neg (by simp [hon])
  exact hcheck

/-- The state in which the errors of a channel are counted. -/
def State.countErrors (s : State) (u ch n : Nat) : State := s.setMem { s.mem with chErrors := s.mem.chErrors.put (u, ch) n }

theorem exec_channelRetrain (u : Stack) (ch : Fin 32) {n : Nat} {s : State} (hon : s.memoryOn = true) (hn : 16 < n) :
    exec (.channelRetrain u ch n) s =
      .next (((s.countErrors u.val ch.val n).retrain u.val ch.val).raise (pgMc u.val) 2) := by
  have hretrain : execChannelRetrain u ch n s = _ := if_neg (by simp [hon, hn])
  exact hretrain

/-- The state in which the failures in a row of a channel are counted. -/
def State.countFails (s : State) (u ch n : Nat) : State := s.setMem { s.mem with chFails := s.mem.chFails.put (u, ch) n }

/-- The state in which a channel is no longer in training. -/
def State.trained (s : State) (u ch : Nat) : State :=
  let t := s.setMem { s.mem with chBusy := s.mem.chBusy.filter (· != (u, ch)), chErrors := s.mem.chErrors.put (u, ch) 0 }
  t.put (pgMc u) .RETRAINING (b2n (t.mem.chBusy.any fun k => k.1 == u))

theorem State.trained_idle (s : State) (u ch : Nat) : (s.trained u ch).mem.chBusy.contains (u, ch) = false := by
  simp [State.trained]

theorem State.trained_field (s : State) (u ch : Nat) {g : Fld} (hg : g ≠ .RETRAINING) : s.SameField g (s.trained u ch) :=
  State.SameField.rfl.setMem.put hg

section End

variable {u : Stack} {ch : Fin 32} {s : State} (h : s.mem.chBusy.contains (u.val, ch.val) = true)
include h

theorem exec_retrainEnd_ok : exec (.retrainEnd u ch true) s = .next ((s.countFails u.val ch.val 0).trained u.val ch.val) := by
  have hend : execRetrainEnd u ch true s = _ := if_neg (by simpa using h)
  exact hend

theorem exec_retrainEnd_again (hn : s.mem.chFails.get (u.val, ch.val) 0 < 2) : exec (.retrainEnd u ch false) s =
    .next ((s.countFails u.val ch.val (s.mem.chFails.get (u.val, ch.val) 0 + 1)).bump (pgMc u.val) .RETRAIN_CNT) := by
  have hend : execRetrainEnd u ch false s = _ := if_neg (by simpa using h)
  exact hend.trans (if_pos (by simp; omega))

theorem exec_retrainEnd_fences (hn : 2 ≤ s.mem.chFails.get (u.val, ch.val) 0) : exec (.retrainEnd u ch false) s =
    .next (((s.countFails u.val ch.val (s.mem.chFails.get (u.val, ch.val) 0 + 1)).trained u.val ch.val).fenceChannel u.val ch.val) := by
  have hend : execRetrainEnd u ch false s = _ := if_neg (by simpa using h)
  exact hend.trans (if_neg (by simp; omega))

end End

section Fence

variable (s : State) (u ch : Nat)

@[simp] theorem State.fenceChannel_mem : (s.fenceChannel u ch).mem = s.mem := by simp [State.fenceChannel]

theorem State.fenceChannel_degraded : (s.fenceChannel u ch).get (pgBridge (u / 4)) .DEGRADED = 1 :=
  (((State.SameField.rfl.evt (by decide)).raise (by decide)).get _ _).trans (State.get_put_same ..)

/-- The two pseudo-channels of a channel are added to the map (log 19). -/
theorem State.fenceChannel_map (hm : s.get (pgMc u) .FENCED_MAP < 2 ^ 64) (hch : ch < 32) :
    (s.fenceChannel u ch).get (pgMc u) .FENCED_MAP = s.get (pgMc u) .FENCED_MAP ||| 3 * 4 ^ ch := by
  have hbits : 3 * 4 ^ ch < 2 ^ 64 := calc
    3 * 4 ^ ch ≤ 3 * 4 ^ 31 := Nat.mul_le_mul_left 3 (Nat.pow_le_pow_right (by decide) (by omega))
    _ < 2 ^ 64 := by decide
  have hfield : (s.put (pgMc u) .FENCED_MAP (s.get (pgMc u) .FENCED_MAP ||| 3 * 4 ^ ch)).SameField .FENCED_MAP (s.fenceChannel u ch) :=
    ((State.SameField.rfl.put (by decide)).evt (by decide)).raise (by decide)
  rw [hfield.get, State.get_put_same]
  exact Nat.mod_eq_of_lt (Nat.or_lt_two_pow hm hbits)

end Fence

/-- Settles O50: each command is one equation, and its registers are read through the events that it raises (`State.SameField.raise`). -/
theorem memoryUpkeep : Obligations.MemoryUpkeep := by
  refine ⟨?scrubEnds, ?closeEnds, ?patrolPoisons, ?patrolCorrects, ?late, ?hot, ?cool, ?check, ?errors, ?trained, ?again, ?fenced⟩
  case scrubEnds =>
    intro b s hbusy hopening hclosing
    rw [exec_scrubDone hbusy, if_neg hopening, if_neg hclosing, ite_self]
    rfl
  case closeEnds =>
    intro b s hbusy hclosing hothers
    have hlast : ((s.partBeds (s.partOf b.val)).any fun x => (s.scrubbed b.val).flag (pgBridge x) .SCRUB_BUSY) = false := by
      refine List.any_eq_false.2 fun x hx => ?_
      rw [State.flag, s.scrubbed_busy]
      split
      · decide
      next hne => exact Bool.eq_false_iff.1 (hothers x hx hne)
    rw [exec_scrubDone hbusy, hlast, if_neg (by decide), if_neg (by omega), if_pos hclosing]
    refine ⟨_, rfl, ?_, State.finishClose_closed ..⟩
    rw [(State.finishClose_scrubBusy ..).get, s.scrubbed_busy, if_pos rfl]
  case patrolPoisons =>
    intro u a s hon ha hu hz
    rw [exec_patrolScrub .uncorrectable true hon ha hu, State.stackRead_uncorrectable hz, ← hu]
    refine ⟨_, rfl, s.uncorrectable_poison a, fun x => ?_, ?_, ?_, ?_⟩
    · rw [if_pos rfl, State.bump_mem, State.uncorrectable_mem]
      rfl
    · exact ((State.SameField.rfl.bump (by decide)).get _ _).trans (s.uncorrectable_counted a)
    · exact ((State.SameField.rfl.bump (by decide)).get _ _).trans (s.uncorrectable_captured (addr_lt_of_good ha))
    · rw [if_pos rfl, State.get_bump_sat, (s.uncorrectable_field a (by decide) (by decide) (by decide)).get]
      rfl
  case patrolCorrects =>
    intro u a s hon ha hu hz
    rw [exec_patrolScrub .corrected false hon ha hu, State.stackRead_corrected hz, hu]
    exact ⟨_, rfl, s.corrected_mem u.val, s.corrected_counted u.val⟩
  case late => exact fun _ _ _ => rfl
  case hot =>
    intro u c s hc hwas
    have hhot : execStackHot u c s = .next (((s.put (pgMc u.val) .TEMP c).put (pgMc u.val) .HOT 1).raise (pgMc u.val) 5) := by
      simp [execStackHot, hc, hwas, b2n]
    exact hhot
  case cool =>
    intro u c s hc
    have hcool : execStackHot u c s = .next ((s.put (pgMc u.val) .TEMP c).put (pgMc u.val) .HOT 0) := by
      simp [execStackHot, Nat.not_lt.2 hc, b2n]
    exact hcool
  case check =>
    intro u ch s hon
    have hretrain := (s.retrain_retraining u.val ch.val).congr
      (v := ((s.retrain u.val ch.val).evt (pgMc u.val) 2).record 0x0910 (pgMc u.val)) (by simp)
      fun hq => (State.SameField.rfl.evt hq).record hq
    exact ⟨_, exec_memoryTrainingCheck_failed u ch hon, hretrain.busy, hretrain.shown, hretrain.counted, hretrain.cells⟩
  case errors =>
    intro u ch n s hon hn
    have hretrain := ((s.countErrors u.val ch.val n).retrain_retraining u.val ch.val).congr
      (v := ((s.countErrors u.val ch.val n).retrain u.val ch.val).raise (pgMc u.val) 2) (by simp) fun hq => State.SameField.rfl.raise hq
    exact ⟨_, exec_channelRetrain u ch hon hn, hretrain.busy, hretrain.shown, hretrain.counted, hretrain.cells⟩
  case trained =>
    intro u ch s hbusy
    exact ⟨_, exec_retrainEnd_ok hbusy, State.trained_idle .., (State.trained_field _ _ _ (by decide)).get _ _, Tab.get_put_same ..⟩
  case again =>
    intro u ch s hbusy hn
    exact ⟨_, exec_retrainEnd_again hbusy hn, hbusy, State.get_bump_sat .., Tab.get_put_same ..⟩
  case fenced =>
    intro u ch s hbusy hn hmap
    have hfield : s.SameField .FENCED_MAP ((s.countFails u.val ch.val (s.mem.chFails.get (u.val, ch.val) 0 + 1)).trained u.val ch.val) :=
      State.SameField.rfl.setMem.trans (State.trained_field _ _ _ (by decide))
    refine ⟨_, exec_retrainEnd_fences hbusy hn, ?_, ?_, State.fenceChannel_degraded ..⟩
    · rw [State.fenceChannel_mem, State.trained_idle]
    · rw [State.fenceChannel_map _ _ _ (by rw [hfield.get]; exact hmap) ch.isLt, hfield.get]

end Sys2Proof.Machine
end

section
/-! PROOFS. Settles BlockStamps (O51): the rules of a block's step (R204, R210) give each way of its STAMP (R209), and the bytes of a held block are read off one splice after another (R193, R194). -/

namespace Sys2Proof.Machine

/-! ### A step of a block (R204, R210) -/

section StepBlock

variable (c : StepCtx) (h : Hdr) (n : Nat) (rs : List Rec)

@[simp] theorem length_mapRecs (f : Nat → Rec → Rec) : (mapRecs n f rs).length = rs.length := by simp [mapRecs]

/-- What no way of a step changes. -/
structure SteppedFrom (x : Hdr × List Rec × Bool) : Prop where
  stamp : x.1.stamp = c.step
  group : x.1.group = h.group
  length : x.2.1.length = rs.length

theorem stepBlock_steppedFrom : SteppedFrom c h rs (stepBlock c h n rs) := by
  unfold stepBlock
  dsimp only
  repeat' split
  all_goals exact ⟨rfl, rfl, by simp⟩

/-- A skipped step, a group that is not in force and a frozen group change no scale, weight or moment. -/
theorem stepBlock_idle (hidle : c.skip = true ∨ groupOk (c.group h.group) = false ∨ (c.group h.group).frozen = true) :
    (stepBlock c h n rs).1.mScale = h.mScale ∧ (stepBlock c h n rs).1.vScale = h.vScale ∧
      (stepBlock c h n rs).2.1.map (fun r => (r.w, r.m, r.v)) = rs.map fun r => (r.w, r.m, r.v) := by
  unfold stepBlock
  dsimp only
  split
  · exact ⟨rfl, rfl, by simp⟩
  next hskip =>
    split
    · exact ⟨rfl, rfl, by simp⟩
    next hok =>
      have hin : groupOk (c.group h.group) ≠ false := by simpa using hok
      have hfrozen : (c.group h.group).frozen = true := (hidle.resolve_left hskip).resolve_left hin
      rw [if_pos hfrozen]
      exact ⟨rfl, rfl, by simp⟩

/-- A group that is not in force holds every record that can be read. -/
theorem stepBlock_holds (hskip : c.skip = false) (hok : groupOk (c.group h.group) = false) :
    ∀ r ∈ (stepBlock c h n rs).2.1, r.bad = false → r.held = true := by
  simp [stepBlock, hskip, hok]

end StepBlock

/-! ### The way of a block by its STAMP (R209) -/

/-- Some record of a block is held, or in a poisoned line (R209, R210). -/
def heldAny (rs : List Rec) : Nat := b2n (rs.any fun r => r.held || r.bad)

section PassBlock

variable {c : StepCtx} (p : StepCtx) {h : Hdr} (n : Nat) (rs : List Rec) (hnew : h.stamp ≠ c.step)

theorem passBlock_same (heq : h.stamp = c.step) : passBlock c p h n rs = ⟨.same, [], true, true, h, rs⟩ := if_pos heq

include hnew

theorem passBlock_step (hprev : h.stamp = prevStep c.step) : passBlock c p h n rs =
    ⟨.stepped, [], true, (stepBlock c h n rs).2.2, { (stepBlock c h n rs).1 with hflags := heldAny (stepBlock c h n rs).2.1 },
      (stepBlock c h n rs).2.1⟩ :=
  (if_neg hnew).trans (if_pos hprev)

/-- Two steps behind: the step before, then the step. -/
theorem passBlock_roll (hprev : h.stamp ≠ prevStep c.step) (hroll : h.stamp = prevStep (prevStep c.step)) : passBlock c p h n rs =
    ⟨.stepped, (stepBlock p h n rs).2.1, (stepBlock p h n rs).2.2, (stepBlock c (stepBlock p h n rs).1 n (stepBlock p h n rs).2.1).2.2,
      { (stepBlock c (stepBlock p h n rs).1 n (stepBlock p h n rs).2.1).1 with
        hflags := heldAny (stepBlock c (stepBlock p h n rs).1 n (stepBlock p h n rs).2.1).2.1 + 2 },
      (stepBlock c (stepBlock p h n rs).1 n (stepBlock p h n rs).2.1).2.1⟩ :=
  (if_neg hnew).trans ((if_neg hprev).trans (if_pos hroll))

theorem passBlock_stale (hprev : h.stamp ≠ prevStep c.step) (hroll : h.stamp ≠ prevStep (prevStep c.step)) :
    passBlock c p h n rs = ⟨.stale, [], true, true, { h with hflags := h.hflags ||| 1 }, rs⟩ :=
  (if_neg hnew).trans ((if_neg hprev).trans (if_neg hroll))

end PassBlock

theorem heldAny_rolled (rs : List Rec) : (heldAny rs + 2) / 2 = 1 := by
  unfold heldAny b2n
  split <;> rfl

/-! ### Bytes spliced into a group (R193, R194) -/

section Splice

variable {l x : List Byte} {o : Nat} (h : o + x.length ≤ l.length)
include h

theorem length_spliceAt : (spliceAt l o x).length = l.length := by
  simp only [spliceAt, List.length_append, List.length_take, List.length_drop]
  omega

/-- A byte outside the splice stays. -/
theorem spliceAt_out {a : Nat} (ha : a < o ∨ o + x.length ≤ a) : (spliceAt l o x)[a]? = l[a]? := by
  have hlen : (l.take o).length = o := by rw [List.length_take]; omega
  rw [spliceAt, List.append_assoc]
  rcases ha with ha | ha
  · rw [List.getElem?_append_left (by omega), List.getElem?_take_of_lt ha]
  · rw [List.getElem?_append_right (by omega), List.getElem?_append_right (by omega), List.getElem?_drop]
    congr 1
    omega

/-- A byte of the splice. -/
theorem spliceAt_in {k : Nat} (hk : k < x.length) : (spliceAt l o x)[o + k]? = x[k]? := by
  have hlen : (l.take o).length = o := by rw [List.length_take]; omega
  rw [spliceAt, List.append_assoc, List.getElem?_append_right (by omega), List.getElem?_append_left (by omega), hlen,
    Nat.add_sub_cancel_left]

end Splice

/-- Records written one after the other at eight bytes each; those of a poisoned line stay (R211). -/
def writeRecords (base : Nat) (enc : Nat → Rec → List Byte) (l : List Byte) (rs : List Rec) : List Byte :=
  ((List.range rs.length).zip rs).foldl (fun l e => if e.2.bad then l else spliceAt l (base + 8 * e.1) (enc e.1 e.2)) l

theorem writeBlock_records (f4 : Bool) (work : Nat → Nat × Bool) (l : List Byte) (j : Nat) {o : BlkOut} (h : o.way ≠ .same) :
    writeBlock f4 work l j o = writeRecords (64 + 512 * j) (fun i r => recBytes o.way f4 r (work (64 * j + i)))
      (spliceAt l (16 * j) (hdrBytes o.hdr)) o.recs := if_neg h

section Records

variable {base : Nat} {enc : Nat → Rec → List Byte}

theorem writeRecords_concat (l : List Byte) (rs : List Rec) (r : Rec) : writeRecords base enc l (rs ++ [r]) =
    if r.bad then writeRecords base enc l rs else spliceAt (writeRecords base enc l rs) (base + 8 * rs.length) (enc rs.length r) := by
  rw [writeRecords, List.length_append, List.length_singleton, List.range_succ, List.zip_append (by simp), List.foldl_append]
  rfl

/-- What records written leave: the length, the bytes beside them, and at each record its new bytes or, in a poisoned line, the old ones. -/
structure RecordsWritten (base : Nat) (enc : Nat → Rec → List Byte) (l : List Byte) (rs : List Rec) (t : List Byte) : Prop where
  length : t.length = l.length
  out : ∀ a, (a < base ∨ base + 8 * rs.length ≤ a) → t[a]? = l[a]?
  record : ∀ i r, rs[i]? = some r → ∀ k < 8, t[base + 8 * i + k]? = if r.bad then l[base + 8 * i + k]? else (enc i r)[k]?

theorem writeRecords_written (henc : ∀ i r, (enc i r).length = 8) {l : List Byte} {rs : List Rec} (hl : base + 8 * rs.length ≤ l.length) :
    RecordsWritten base enc l rs (writeRecords base enc l rs) := by
  induction rs using List.reverseRecOn with
  | nil => exact ⟨rfl, fun _ _ => rfl, nofun⟩
  | append_singleton rs r ih =>
    rw [List.length_append, List.length_singleton] at hl
    obtain ⟨hlen, hout, hrec⟩ := ih (by omega)
    have hfit : base + 8 * rs.length + (enc rs.length r).length ≤ (writeRecords base enc l rs).length := by rw [henc, hlen]; omega
    have hprev : ∀ a, (a < base + 8 * rs.length ∨ base + 8 * rs.length + 8 ≤ a) →
        (writeRecords base enc l (rs ++ [r]))[a]? = (writeRecords base enc l rs)[a]? := by
      intro a ha
      rw [writeRecords_concat]
      split
      · rfl
      · exact spliceAt_out hfit (by rwa [henc])
    refine ⟨?_, fun a ha => ?_, fun i q hq k hk => ?_⟩
    · rw [writeRecords_concat]
      split
      · exact hlen
      · exact (length_spliceAt hfit).trans hlen
    · rw [List.length_append, List.length_singleton] at ha
      rw [hprev a (by omega), hout a (by omega)]
    · rcases Nat.lt_trichotomy i rs.length with hi | rfl | hi
      · rw [List.getElem?_append_left hi] at hq
        rw [hprev _ (by omega), hrec i q hq k hk]
      · obtain rfl : r = q := by simpa using hq
        rw [writeRecords_concat]
        split
        · exact hout _ (by omega)
        · exact spliceAt_in hfit (by rw [henc]; exact hk)
      · rw [List.getElem?_eq_none (by simp; omega)] at hq
        exact absurd hq nofun

end Records

/-! ### The bytes of a record (R193) -/

/-- The bytes of a number that bytes spell are those bytes. -/
theorem leBytes_leNat (bs : List Byte) : leBytes bs.length (leNat bs) = bs := by
  induction bs with
  | nil => rfl
  | cons b bs ih =>
    have hlow : BitVec.ofNat 8 (b.toNat + 256 * leNat bs) = b := by
      refine BitVec.eq_of_toNat_eq ?_
      have hb := b.isLt
      rw [BitVec.toNat_ofNat]
      omega
    have hhigh : (b.toNat + 256 * leNat bs) / 256 = leNat bs := by
      have hb := b.isLt
      omega
    rw [List.length_cons, leBytes, leNat, hlow, hhigh, ih]

theorem leBytes_fieldAt {bs : List Byte} {i n : Nat} (h : i + n ≤ bs.length) : leBytes n (fieldAt bs i n) = (bs.drop i).take n := by
  have hlen : ((bs.drop i).take n).length = n := by
    rw [List.length_take, List.length_drop]
    omega
  have hbytes := leBytes_leNat ((bs.drop i).take n)
  rwa [hlen] at hbytes

theorem length_recBytes (way : BlkWay) (f4 : Bool) (r : Rec) (w : Nat × Bool) : (recBytes way f4 r w).length = 8 := by
  simp [recBytes, length_leBytes]

theorem length_hdrBytes (h : Hdr) : (hdrBytes h).length = 8 := by simp [hdrBytes, length_leBytes]

/-- A held record's bytes: those that it was read from, with HELD set in the last. -/
theorem recBytes_stale (f4 bad : Bool) (w : Nat × Bool) {bs : List Byte} (h : 8 ≤ bs.length) :
    recBytes .stale f4 (recOf bs bad) w = bs.take 7 ++ [BitVec.ofNat 8 ((recOf bs bad).b7 ||| 64)] := by
  have hbytes : bs.take 7 = (bs.drop 0).take 5 ++ (bs.drop 5).take 1 ++ (bs.drop 6).take 1 := by
    rw [List.drop_zero, ← List.take_add, ← List.take_add]
  rw [hbytes, ← leBytes_fieldAt (i := 0) (n := 5) (by omega), ← leBytes_fieldAt (i := 5) (n := 1) (by omega),
    ← leBytes_fieldAt (i := 6) (n := 1) (by omega)]
  rfl

/-! ### The bytes of a held block (R209) -/

section Held

variable (f4 : Bool) (work : Nat → Nat × Bool) {l : List Byte} {j : Nat} {o : BlkOut} (hway : o.way = .stale) (hl : l.length = 2112) (hj : j < 4)
  (hn : o.recs.length ≤ 64)
include hway hl hj hn

/-- A held block's records are written over its header's. -/
theorem writeBlock_stale : RecordsWritten (64 + 512 * j) (fun i r => recBytes .stale f4 r (work (64 * j + i)))
    (spliceAt l (16 * j) (hdrBytes o.hdr)) o.recs (writeBlock f4 work l j o) := by
  rw [writeBlock_records f4 work l j (by simp [hway]), hway]
  refine writeRecords_written (fun _ _ => length_recBytes ..) ?_
  rw [length_spliceAt (by rw [length_hdrBytes]; omega)]
  omega

theorem writeBlock_stale_held {i : Nat} {r : Rec} (hr : o.recs[i]? = some r) (hgood : r.bad = false) :
    (writeBlock f4 work l j o)[64 + 512 * j + 8 * i + 7]? = some (BitVec.ofNat 8 (r.b7 ||| 64)) := by
  rw [(writeBlock_stale f4 work hway hl hj hn).record i r hr 7 (by decide), hgood]
  rfl

/-- The other bytes of a record are those that it was read from. -/
theorem writeBlock_stale_rest {i : Nat} {bad : Bool} (hr : o.recs[i]? = some (recOf (l.drop (64 + 512 * j + 8 * i)) bad)) {k : Nat} (hk : k < 7) :
    (writeBlock f4 work l j o)[64 + 512 * j + 8 * i + k]? = l[64 + 512 * j + 8 * i + k]? := by
  obtain ⟨hi, -⟩ := List.getElem?_eq_some_iff.1 hr
  rw [(writeBlock_stale f4 work hway hl hj hn).record i _ hr k (by omega)]
  split
  · exact spliceAt_out (by rw [length_hdrBytes]; omega) (.inr (by rw [length_hdrBytes]; omega))
  · have hlen : 8 ≤ (l.drop (64 + 512 * j + 8 * i)).length := by
      rw [List.length_drop]
      omega
    rw [recBytes_stale f4 bad _ hlen, List.getElem?_append_left (by rw [List.length_take]; omega), List.getElem?_take_of_lt hk,
      List.getElem?_drop]

/-- Beside its header's first eight bytes and its records a held block leaves its group as it is. -/
theorem writeBlock_stale_out {a : Nat} (hhdr : a < 16 * j ∨ 16 * j + 8 ≤ a) (hrec : a < 64 + 512 * j ∨ 64 + 512 * j + 8 * o.recs.length ≤ a) :
    (writeBlock f4 work l j o)[a]? = l[a]? := by
  rw [(writeBlock_stale f4 work hway hl hj hn).out a hrec]
  exact spliceAt_out (by rw [length_hdrBytes]; omega) (by rw [length_hdrBytes]; exact hhdr)

end Held

/-! ### What a held block counts (R209, R218) -/

/-- Records of poisoned lines counted as held, with their event (R210). -/
def State.countPoisoned (s : State) (u n : Nat) : State :=
  if 0 < n then (s.countN (pgUnit u) .HELD_REC n).raise (pgUnit u) 0 else s.countN (pgUnit u) .HELD_REC n

theorem State.countBlock_stale (s : State) (u q layer step : Nat) (h : Hdr) (rs : List Rec) :
    s.countBlock u q layer step ⟨.stale, [], true, true, h, rs⟩ =
      ((s.countPoisoned u (rs.filter (·.bad)).length).bump (pgUnit u) .STALE_BLK).onceDo (0x0821, 1024 * q + layer, step)
        fun t => t.raise (pgUnit u) 1 := by
  simp [State.countBlock, State.countPoisoned]

theorem State.countPoisoned_field (s : State) (u n : Nat) {g : Fld} (hq : quietField g = true) (hg : g ≠ .HELD_REC) :
    s.SameField g (s.countPoisoned u n) := by
  have hcount : s.SameField g (s.countN (pgUnit u) .HELD_REC n) := .ite .rfl (State.SameField.rfl.bump hg)
  exact .ite (hcount.raise hq) hcount

theorem State.SameField.onceDo {g : Fld} {s t : State} (h : s.SameField g t) {k : Nat × Nat × Nat} {f : State → State}
    (hf : ∀ u, s.SameField g u → s.SameField g (f u)) : s.SameField g (t.onceDo k f) :=
  .ite h ((hf t h).congr (Eq.refl _))

theorem State.onceDo_done (s : State) (k : Nat × Nat × Nat) (f : State → State) : (s.onceDo k f).once.contains k = true := by
  unfold State.onceDo
  split
  next h => exact h
  next => simp

/-- Settles O51: the way of a block follows its STAMP (`passBlock_step` and its companions), and a held block's bytes are its header's and its records' splices (`writeBlock_stale`). -/
theorem blockStamps : Obligations.BlockStamps := by
  intro c p h n rs
  refine ⟨passBlock_same p n rs, ?step, ?roll, ?stale, ?counted⟩
  case step =>
    intro hnew hprev
    obtain ⟨hstamp, hgroup, hlength⟩ := stepBlock_steppedFrom c h n rs
    rw [passBlock_step p n rs hnew hprev]
    exact ⟨rfl, hstamp, rfl, hgroup, hlength, stepBlock_idle c h n rs, stepBlock_holds c h n rs⟩
  case roll =>
    intro hnew hprev hroll
    rw [passBlock_roll p n rs hnew hprev hroll]
    exact ⟨rfl, (stepBlock_steppedFrom c _ n _).stamp, heldAny_rolled _, rfl, rfl⟩
  case stale =>
    intro hnew hprev hroll
    rw [passBlock_stale p n rs hnew hprev hroll]
    refine ⟨rfl, fun f4 work l j hl hj hn hread => ⟨fun i r hr hgood => ?_, fun i hi k hk => ?_, fun a hhdr hrec => ?_⟩⟩
    · exact writeBlock_stale_held f4 work rfl hl hj hn hr hgood
    · obtain ⟨bad, hr⟩ := (hread i).resolve_left (by simp [hi])
      exact writeBlock_stale_rest f4 work rfl hl hj hn hr hk
    · exact writeBlock_stale_out f4 work rfl hl hj hn hhdr hrec
  case counted =>
    intro hnew hprev hroll s u q layer
    have hraised : ∀ t : State, t.SameField .STALE_BLK (t.onceDo (0x0821, 1024 * q + layer, c.step) fun t => t.raise (pgUnit u) 1) :=
      fun t => State.SameField.rfl.onceDo fun _ hu => hu.raise (by decide)
    rw [passBlock_stale p n rs hnew hprev hroll, State.countBlock_stale]
    refine ⟨?_, State.onceDo_done ..⟩
    rw [(hraised _).get, State.get_bump_sat, (s.countPoisoned_field u _ (by decide) (by decide)).get]
    rfl

end Sys2Proof.Machine
end

section
/-! PROOFS. What the update units' accesses and passes leave (R193 to R206): the registers that a line's access writes, the spans read past an empty cache (`State.ReadOnly`), and a state group's pass (`State.Passed`). -/

namespace Sys2Proof.Machine

/-! ### The registers of an access (R170 to R178, R182, R186) -/

/-- The fields in which bridges, caches and controllers count and capture an access. -/
def accessFields : List Fld :=
  [.ADDR_FAULTS, .FAULT_ADDR, .EGRESS_DENY, .DENY_ADDR, .HITS, .MISSES, .ALLOC_REFUSED, .DAL_FREED, .ERR_CORR, .ERR_UNCORR, .UE_ADDR]

/-- A field that no access writes. -/
def unaccessed (g : Fld) : Bool := unmetered g && !accessFields.contains g

theorem unmetered_of_unaccessed {g : Fld} (h : unaccessed g = true) : unmetered g = true := (Bool.and_eq_true_iff.1 h).1

theorem quietField_of_unaccessed {g : Fld} (h : unaccessed g = true) : quietField g = true :=
  (unmetered_iff.1 (unmetered_of_unaccessed h)).1

theorem ne_of_unaccessed {f g : Fld} (h : unaccessed g = true) (hf : unaccessed f = false) : g ≠ f := by
  rintro rfl
  simp [h] at hf

namespace State.SameField

variable {g : Fld} {s t : State} (hg : unaccessed g = true)
include hg

theorem countFault (h : SameField g s t) {a : Nat} : SameField g s (t.countFault a) :=
  ((h.bump (ne_of_unaccessed hg (by decide))).put (ne_of_unaccessed hg (by decide))).raise (quietField_of_unaccessed hg)

theorem refused (h : SameField g s t) {b : Nat} : SameField g s (t.refused b) :=
  (h.bump (ne_of_unaccessed hg (by decide))).raise (quietField_of_unaccessed hg)

theorem uncorrectable (h : SameField g s t) {a : Nat} : SameField g s (t.uncorrectable a) :=
  h.trans (t.uncorrectable_field a (quietField_of_unaccessed hg) (ne_of_unaccessed hg (by decide)) (ne_of_unaccessed hg (by decide)))

theorem stackRead (h : SameField g s t) {a : Nat} {err : LineErr} : SameField g s (t.stackRead a err).1 := by
  unfold State.stackRead
  extract_lets l
  split
  · exact h
  · cases err with
    | corrected => exact (h.bump (ne_of_unaccessed hg (by decide))).raise (quietField_of_unaccessed hg)
    | uncorrectable => exact h.uncorrectable hg
    | none | sram => exact h

theorem reached (h : SameField g s t) {r : MemReq} : SameField g s (t.reached r) :=
  h.trans (t.reached_field r (unmetered_of_unaccessed hg) (ne_of_unaccessed hg (by decide)))

theorem useLine (h : SameField g s t) {l : Nat} {c : CacheLine} : SameField g s (t.useLine l c) :=
  h.trans (t.useLine_field l (ne_of_unaccessed hg (by decide)))

theorem serveHit (h : SameField g s t) {r : MemReq} {err : LineErr} {c : CacheLine} : SameField g s (t.serveHit r err c).1 := by
  unfold State.serveHit
  split
  · have hfailed : SameField g s (((t.raise (pgCache (homeOf r.addr)) 2).uncorrectable r.addr).setCache (lineOf r.addr) { c with poison := true }) :=
      ((h.raise (quietField_of_unaccessed hg)).uncorrectable hg).setMem
    exact .ite hfailed (hfailed.useLine hg)
  · exact .ite h (h.useLine hg)

theorem serveMiss (h : SameField g s t) {r : MemReq} {d : List Byte} {p : Bool} : SameField g s (t.serveMiss r d p) :=
  .ite h (.ite (h.refused hg) (.ite h.setMem (.ite (h.setMem.setMem.bump (ne_of_unaccessed hg (by decide))) h.setMem)))

theorem readLine (h : SameField g s t) {r : MemReq} {err : LineErr} {first : Bool} : SameField g s (t.readLine r err first).1 := by
  unfold State.readLine
  split
  · exact h.countFault hg
  · split
    · exact ((h.bump (ne_of_unaccessed hg (by decide))).put (ne_of_unaccessed hg (by decide))).trans
        (t.denyRead_field r.addr first (quietField_of_unaccessed hg))
    · unfold State.serveRead
      split
      · exact (h.bump (ne_of_unaccessed hg (by decide))).serveHit hg
      · exact ((h.reached hg).stackRead hg).serveMiss hg

theorem writeLine (h : SameField g s t) {r : MemReq} {first : Nat} {d : List Byte} {p rel : Bool} :
    SameField g s (t.writeLine r first d p rel) := by
  refine .ite (h.countFault hg) ?_
  unfold State.serveWrite
  extract_lets l b full hint reach stream
  have hreach : ∀ u, SameField g s u → SameField g s (reach u) := fun u hu => hu.reached hg
  have hstream : ∀ u, SameField g s u → SameField g s (stream u) := fun u hu => .ite (.ite hu hu.setMem) (.ite hu hu.setMem)
  split
  · exact (h.bump (ne_of_unaccessed hg (by decide))).setMem
  · refine .ite (hstream _ (hreach _ h)) (.ite (hstream _ (hreach _ (h.refused hg))) (SameField.setMem ?_))
    show SameField g s (if full = true then (t, d, false) else (reach t).stackRead r.addr .none).1
    split
    · exact h
    · exact (hreach _ h).stackRead hg

theorem readSpan (h : SameField g s t) {r : MemReq} {n : Nat} : SameField g s (t.readSpan r n).1 :=
  List.foldlRecOn (motive := fun y : State × List Byte × List Nat => SameField g s y.1) _ _ h fun _ hy _ _ => hy.readLine hg

theorem writeSpan (h : SameField g s t) {r : MemReq} {d : List Byte} {p rel : Bool} : SameField g s (t.writeSpan r d p rel) :=
  h.foldl fun _ _ hu => hu.writeLine hg

end State.SameField

theorem State.Accessed.parts {s t : State} (h : s.Accessed t) : t.parts = s.parts := (congrArg State.parts (show t = _ from h) :)

theorem State.Accessed.upd {s t : State} (h : s.Accessed t) : t.upd = s.upd := (congrArg State.upd (show t = _ from h) :)

/-! ### Reading past the cache (R173, R182) -/

/-- A line that the check code passes is read from the stacks without a trace. -/
theorem State.stackRead_leaves (s : State) (a : Nat) : (s.stackRead a .none).1 = s := by
  cases hz : s.fenced a with
  | true => simp [State.stackRead, hz]
  | false => rw [State.stackRead_none hz]

/-- An engine's read that pins nothing leaves memory's content, where no line is cached. -/
theorem State.readLine_content {s : State} {r : MemReq} (hhost : r.host = false) (hhint : r.hint = 0) (hc : s.mem.cache = []) :
    (s.readLine r).1.mem.content = s.mem.content := by
  cases hf : s.faulty r.bed.val r.host r.addr with
  | true => rw [State.readLine_fault _ hf, State.countFault_mem]
  | false =>
    have hmiss : Tab.find? s.mem.cache (lineOf r.addr) = none := by rw [hc]; rfl
    have hread := congrArg Prod.fst (State.readLine_miss hf hhost hmiss .none)
    have hreached : (s.readLine r).1 = s.reached r :=
      hread.trans ((State.serveMiss_stream _ _ (.inl hhint)).trans (State.stackRead_leaves ..))
    rw [hreached]
    exact (s.reached_metered r).1

/-- Reads by an engine: registers, memory and records alone changed, none but an access's fields, and no content where no line was cached. -/
structure State.ReadOnly (s t : State) : Prop where
  accessed : s.Accessed t
  field : ∀ {g}, unaccessed g = true → s.SameField g t
  content : s.mem.cache = [] → t.mem.content = s.mem.content

namespace State.ReadOnly

variable {s t u : State}

theorem refl (s : State) : ReadOnly s s := ⟨.refl s, fun _ => .rfl, fun _ => rfl⟩

theorem readSpan (h : ReadOnly s t) {b : Bed} {cls uses a n : Nat} : ReadOnly s (t.readSpan (engineReq b cls 0 uses a) n).1 where
  accessed := h.accessed.readSpan
  field hg := (h.field hg).readSpan hg
  content hc := List.foldlRecOn (motive := fun y : State × List Byte × List Nat => y.1.mem.content = s.mem.content) _ _ (h.content hc)
    fun y hy l _ => by
      have hempty : y.1.mem.cache = [] := by rw [← MemSt.cache_content, hy, MemSt.cache_content, hc]
      exact (State.readLine_content rfl rfl hempty).trans hy

variable {b : Nat} {f : File} {e : Pass} {step g : Nat}

theorem readGrad (h : ReadOnly s t) : ReadOnly s (t.readGrad b f e step g).1 := h.readSpan.readSpan

theorem readRing (h : ReadOnly s t) {layer : Nat} : ReadOnly s (t.readRing b f layer step).1 := h.readSpan

theorem readNorm (h : ReadOnly s t) {layer : Nat} : ReadOnly s (t.readNorm b f layer).1 := h.readSpan

theorem readGroup (h : ReadOnly s t) : ReadOnly s (t.readGroup b e g).1 := h.readSpan

theorem readOld (h : ReadOnly s t) : ReadOnly s (t.readOld b f e step g).st := by
  unfold State.readOld
  extract_lets r
  have hr : ReadOnly s r.1 := h.readRing
  split
  · exact hr
  · split
    · exact hr
    · exact hr.readGrad

/-- A state group run through its step is read alone (R194, R209). -/
theorem runGroup (h : ReadOnly s t) {ratio : Nat} {skip : Bool} : ReadOnly s (t.runGroup b f e step g ratio skip).1 := by
  unfold State.runGroup
  extract_lets q x gr p old
  have hgr : ReadOnly s gr.1 := by
    dsimp only [gr]
    split
    · exact h.readGroup
    · exact h.readGroup.readGrad
  dsimp only [old]
  split
  · exact hgr.readOld
  · exact hgr

end State.ReadOnly

/-! ### A state group's pass (R202 to R206) -/

/-- The fields in which a unit counts its passes (R218). -/
def passFields : List Fld := [.HELD_REC, .STALE_BLK, .ROLLED_BLK, .SAT_STORE, .ROLLING, .MIRROR_KIB, .LAST_STEP]

/-- A field that no state group's pass writes. -/
def unpassed (g : Fld) : Bool := unaccessed g && !passFields.contains g

theorem unaccessed_of_unpassed {g : Fld} (h : unpassed g = true) : unaccessed g = true := (Bool.and_eq_true_iff.1 h).1

theorem ne_of_unpassed {f g : Fld} (h : unpassed g = true) (hf : unpassed f = false) : g ≠ f := by
  rintro rfl
  simp [h] at hf

theorem State.SameField.partOf {s t : State} (h : s.SameField .PART_LOG2 t) (b : Nat) : t.partOf b = s.partOf b := by
  rw [State.partOf, State.partSize, State.partCount, h.get, State.partOf, State.partSize, State.partCount]

/-- What the pass of a state group leaves: the beds and partitions, the entries that run and that are done, and the fields of others. -/
structure State.Passed (s t : State) : Prop where
  beds : t.beds = s.beds
  parts : t.parts = s.parts
  run : t.upd.run = s.upd.run
  done : t.upd.done = s.upd.done
  field : ∀ {g}, unpassed g = true → s.SameField g t

namespace State.Passed

variable {s t u : State}

theorem refl (s : State) : Passed s s := ⟨rfl, rfl, rfl, rfl, fun _ => .rfl⟩

theorem trans (h : Passed s t) (k : Passed t u) : Passed s u where
  beds := k.beds.trans h.beds
  parts := k.parts.trans h.parts
  run := k.run.trans h.run
  done := k.done.trans h.done
  field hg := (h.field hg).trans (k.field hg)

theorem ite {c : Prop} {_ : Decidable c} (ht : Passed s t) (hu : Passed s u) : Passed s (if c then t else u) := by
  split
  · exact ht
  · exact hu

theorem foldl {α : Type} {f : State → α → State} {l : List α} (h : Passed s t) (hf : ∀ u a, Passed s u → Passed s (f u a)) :
    Passed s (l.foldl f t) :=
  List.foldlRecOn l f h fun u hu a _ => hf u a hu

/-- Updates of the fabric, of what was done once, and of a unit's sums and remainders. -/
theorem frame (h : Passed s t) {fab once sums ratio mirrorRest rsv} :
    Passed s { t with fab := fab, once := once, upd := { t.upd with sums := sums, ratio := ratio, mirrorRest := mirrorRest, rsv := rsv } } :=
  ⟨h.beds, h.parts, h.run, h.done, fun hg => (h.field hg).congr rfl⟩

theorem put (h : Passed s t) {p : Page} {f : Fld} {v i : Nat} (hf : unpassed f = false) : Passed s (t.put p f v i) :=
  ⟨h.beds, h.parts, h.run, h.done, fun hg => (h.field hg).put (ne_of_unpassed hg hf)⟩

theorem bump (h : Passed s t) {p : Page} {f : Fld} {n i : Nat} (hf : unpassed f = false) : Passed s (t.bump p f n i) := h.put hf

theorem record (h : Passed s t) {c : Nat} {p : Page} {d : List Byte} : Passed s (t.record c p d) where
  beds := (State.record_beds ..).trans h.beds
  parts := (State.record_parts ..).trans h.parts
  run := (congrArg UpdSt.run (State.record_upd ..)).trans h.run
  done := (congrArg UpdSt.done (State.record_upd ..)).trans h.done
  field hg := (h.field hg).record (quietField_of_unaccessed (unaccessed_of_unpassed hg))

theorem raise (h : Passed s t) {p : Page} {b : Nat} {d : List Byte} : Passed s (t.raise p b d) := (h.put (by decide)).record

theorem onceDo (h : Passed s t) {k : Nat × Nat × Nat} {f : State → State} (hf : ∀ u, Passed s u → Passed s (f u)) :
    Passed s (t.onceDo k f) :=
  .ite h (hf t h).frame

/-- An engine's accesses. -/
theorem access (h : Passed s t) (ha : t.Accessed u) (hf : ∀ {g}, unaccessed g = true → t.SameField g u) : Passed s u :=
  h.trans ⟨ha.beds, ha.parts, congrArg UpdSt.run ha.upd, congrArg UpdSt.done ha.upd, fun hg => hf (unaccessed_of_unpassed hg)⟩

theorem read (h : Passed s t) (k : t.ReadOnly u) : Passed s u := h.access k.accessed k.field

theorem writeLine (h : Passed s t) {r : MemReq} {first : Nat} {d : List Byte} {p rel : Bool} : Passed s (t.writeLine r first d p rel) :=
  h.access (State.Accessed.refl t).writeLine fun hg => State.SameField.rfl.writeLine hg

theorem writeSpan (h : Passed s t) {r : MemReq} {d : List Byte} {p rel : Bool} : Passed s (t.writeSpan r d p rel) :=
  h.foldl fun _ _ hu => hu.writeLine

/-! Counters (R209 to R211, R218). -/

theorem countN (h : Passed s t) {p : Page} {f : Fld} {n : Nat} (hf : unpassed f = false) : Passed s (t.countN p f n) := .ite h (h.bump hf)

variable {w q layer step : Nat}

theorem countBlock (h : Passed s t) {o : BlkOut} : Passed s (t.countBlock w q layer step o) := by
  have hgroup : ∀ {u : State} {ok : Bool} {k : Nat × Nat × Nat} {p : Page} {d : List Byte}, Passed s u →
      Passed s (if ok then u else u.onceDo k fun s => s.record 0x0841 p d) := fun hu => .ite hu (hu.onceDo fun _ h => h.record)
  unfold State.countBlock
  extract_lets p key rs held bad u1 u2 u3 u4 u5 no
  have h1 : Passed s u1 := h.countN (by decide)
  have h2 : Passed s u2 := .ite h1.raise h1
  have h3 : Passed s u3 := .ite h2.raise h2
  have h4 : Passed s u4 := .ite ((h3.bump (by decide)).onceDo fun _ h => h.raise) h3
  have h5 : Passed s u5 := .ite h4 ((h4.bump (by decide)).onceDo fun _ h => h.raise)
  exact hgroup (hgroup h5)

theorem countGroup (h : Passed s t) {x : GroupIn} {e : Pass} {g : Nat} {os : List BlkOut} :
    Passed s (t.countGroup w q layer step x e g os) :=
  .ite (h.bump (by decide)).raise (h.foldl fun _ _ hu => hu.countBlock)

theorem countRsv (h : Passed s t) {n : Nat} : Passed s (t.countRsv w n) := .ite h h.frame

theorem creditUnit (h : Passed s t) {f : File} : Passed s (t.creditUnit q f w step) := .ite (h.put (by decide)) h

/-! What a pass writes to memory and sends (R202, R203, R206, R215). -/

variable {b : Nat} {f : File}

theorem writeGroup (h : Passed s t) {x : GroupIn} {bs : List Byte} {lines : List Nat} : Passed s (t.writeGroup b x bs lines) :=
  h.foldl fun _ _ hu => hu.writeLine

theorem send (h : Passed s t) {dest cls ty : Nat} {tf d : List Byte} {p : Bool} : Passed s (t.send q dest cls ty tf d p) :=
  h.frame.foldl fun _ _ hu => hu.frame

theorem mirror (h : Passed s t) {x : GroupIn} {bs : List Byte} : Passed s (t.mirror w f step x bs) :=
  .ite h ((h.foldl fun _ _ hu => hu.send).frame.bump (by decide))

theorem writeWork (h : Passed s t) {d : Desc} {tile : Nat} {vals : List Nat} {lo hi : Nat} :
    Passed s (t.writeWork b d tile vals lo hi) := by
  have hspans : Passed s ((workSpans d lo hi).foldl (fun s x => s.writeSpan (engineReq (bedOf b) 1 d.hint (1 + Config.storeUses d.tensorId % 255)
      (d.base + tile * d.tileBytes + x.1)) (((workTile d vals).1.drop x.1).take x.2) false d.release) t) := h.foldl fun _ _ hu => hu.writeSpan
  exact .ite hspans hspans.writeSpan

theorem layerRatio (h : Passed s t) {skip : Bool} : Passed s (t.layerRatio b f layer step skip).1 := by
  unfold State.layerRatio
  extract_lets q sums norm x u1
  cases t.upd.ratio.find? (q, layer, step) with
  | some r => exact h
  | none =>
    have hx : Passed s x.1 := by
      dsimp only [x]
      split
      · exact h
      · exact h.read (State.ReadOnly.refl t).readNorm
    exact hx.writeSpan.frame

theorem writeNorm (h : Passed s t) {r : Nat} : Passed s (t.writeNorm b f layer step r) :=
  (h.read (State.ReadOnly.refl t).readNorm).writeSpan

theorem passOne (h : Passed s t) {e : Pass} {g ratio : Nat} {skip : Bool} {vals : List Nat} :
    Passed s (t.passOne w f e step g ratio skip vals).1 := by
  unfold State.passOne
  extract_lets b q r x os d has old vals bs f4 work bytes u1 u2 u3 k _ u4 u5 n
  have h1 : Passed s u1 := (h.read (State.ReadOnly.refl t).runGroup).writeGroup
  have h2 : Passed s u2 := (h1.countGroup.countN (by decide)).countRsv
  have h3 : Passed s u3 := h2.put (by decide)
  have h4 : Passed s u4 := h3.frame
  have h5 : Passed s u5 := h4.mirror
  exact .ite h5.writeWork h5

end State.Passed

/-! ### The end of an entry (R203, R218) -/

/-- The state in which an entry is marked done and its unit runs none. -/
def State.entryEnded (s : State) (u k step : Nat) : State :=
  ((({ s with upd := { s.upd with done := (s.partOf (u / 4), step, k) :: s.upd.done } }).setRun u none).put (pgUnit u) .PASS_ACTIVE 0).put
    (pgUnit u) .ROLLING 0

theorem State.entryEnded_field (s : State) (u k step : Nat) {g : Fld} (ha : g ≠ .PASS_ACTIVE) (hr : g ≠ .ROLLING) :
    s.SameField g (s.entryEnded u k step) := by
  have hrun : s.SameField g (({ s with upd := { s.upd with done := (s.partOf (u / 4), step, k) :: s.upd.done } }).setRun u none) :=
    State.SameField.rfl.congr (Eq.refl _)
  exact (hrun.put ha).put hr

/-- A unit that has ended its entry shows no pass (R218). -/
theorem State.entryEnded_active (s : State) (u k step : Nat) : (s.entryEnded u k step).get (pgUnit u) .PASS_ACTIVE = 0 :=
  (State.get_put_fld _ _ _ _ _ _ (by decide)).trans (State.get_put_same ..)

/-- Beside that an entry's end writes the norm table and LAST_STEP. -/
theorem State.endPass_passed (s : State) (u : Nat) (f : File) (k : Nat) (e : Pass) (step ratio : Nat) (skip : Bool) :
    (s.entryEnded u k step).Passed (s.endPass u f k e step ratio skip) :=
  (State.Passed.ite (State.Passed.refl (s.entryEnded u k step)).writeNorm (State.Passed.refl (s.entryEnded u k step))).creditUnit

end Sys2Proof.Machine
end

section
/-! PROOFS. Settles UpdatesAndCuttings (O52): an entry's progress stands beside what its state group's pass writes (`State.Passed`), a pre-pass only reads (`State.ReadOnly`), and a cutting's line is judged once (R216). -/

namespace Sys2Proof.Machine

/-! ### UPDATE_ENTRY (R201, R202) -/

section Entry

variable (s : State) (u : Nat) (r : UnitRun) (e : Pass)

/-- The bucket of the entry's step is skipped (R210). -/
def State.groupSkip : Bool := s.skipped (s.partOf (u / 4)) e.bucket r.step

/-- R of the entry's layer in its step, and the state in which the ratio ring holds it (R203). -/
def State.groupRatio : State × Nat := s.layerRatio (u / 4) (s.stepFile (s.partOf (u / 4)) r.step) e.layer r.step (s.groupSkip u r e)

/-- The state in which an entry's next group begins: PASS_ACTIVE and UU_LAYER shown. -/
def State.groupBegun : State := ((s.groupRatio u r e).1.put (pgUnit u) .PASS_ACTIVE 1).put (pgUnit u) .UU_LAYER e.layer

/-- The pass of that group. -/
def State.groupPassed : State × List Nat :=
  (s.groupBegun u r e).passOne u (s.stepFile (s.partOf (u / 4)) r.step) e r.step r.next (s.groupRatio u r e).2 (s.groupSkip u r e) r.values

/-- What a group of an entry leaves of the device and shows of the entry. -/
structure State.GroupDone (t : State) : Prop where
  layer : t.get (pgUnit u) .UU_LAYER = e.layer % 1024
  active : t.get (pgUnit u) .PASS_ACTIVE = 1
  parted : ∀ b, t.partOf b = s.partOf b
  beds : t.beds = s.beds
  parts : t.parts = s.parts
  run : t.upd.run = s.upd.run
  done : t.upd.done = s.upd.done

theorem State.groupPassed_done : s.GroupDone u e (s.groupPassed u r e).1 := by
  have hratio : s.Passed (s.groupRatio u r e).1 := (State.Passed.refl s).layerRatio
  have hpass : (s.groupBegun u r e).Passed (s.groupPassed u r e).1 := (State.Passed.refl _).passOne
  have hparts : s.SameField .PART_LOG2 (s.groupBegun u r e) := ((hratio.field (by decide)).put (by decide)).put (by decide)
  exact {
    layer := ((hpass.field (by decide)).get _ _).trans (State.get_put_same ..)
    active := ((hpass.field (by decide)).get _ _).trans ((State.get_put_fld _ _ _ _ _ _ (by decide)).trans (State.get_put_same ..))
    parted := (hparts.trans (hpass.field (by decide))).partOf
    beds := hpass.beds.trans hratio.beds
    parts := hpass.parts.trans hratio.parts
    run := hpass.run.trans hratio.run
    done := hpass.done.trans hratio.done }

/-- An entry with records left goes on to its next group. -/
theorem State.advance_more (h : ¬ e.records ≤ 256 * (r.next + 1)) : s.advance u r e =
    (s.groupPassed u r e).1.setRun u (some { r with next := r.next + 1, values := (s.groupPassed u r e).2 }) := if_neg h

/-- The last group of an entry ends it. -/
theorem State.advance_last (h : e.records ≤ 256 * (r.next + 1)) :
    ((s.groupPassed u r e).1.entryEnded u r.entry r.step).Passed (s.advance u r e) := by
  have hend : s.advance u r e = (s.groupPassed u r e).1.endPass u (s.stepFile (s.partOf (u / 4)) r.step) r.entry e r.step
      (s.groupRatio u r e).2 (s.groupSkip u r e) := if_pos h
  rw [hend]
  exact State.endPass_passed ..

end Entry

/-- UPDATE_ENTRY of a unit that runs no entry begins the next ready one. -/
theorem exec_updateEntry_begin {u : Stack} {s : State} {t k : Nat} {e : Pass} (hmay : s.unitMay u.val = true)
    (hrun : s.upd.run.find? u.val = none)
    (hnext : s.nextPass u.val s.upd.done (fun t f e => !updExact f || s.skipped (s.partOf (u.val / 4)) e.bucket t ||
      s.prepassed (s.partOf (u.val / 4)) f e.layer t) = some (t, k, e)) :
    exec (.updateEntry u) s = .next (s.advance u.val ⟨t, k, 0, []⟩ e) := by
  have hidle : s.runningPass u.val = none := by rw [State.runningPass, hrun]
  have hentry : exec (.updateEntry u) s = execUpdateEntry u s := rfl
  rw [hentry, execUpdateEntry, hmay, hidle, hnext]
  rfl

/-! ### UPDATE_PREPASS (R203) -/

/-- The reads of a pre-pass and the norms that it sums. -/
def State.prepassRead (s : State) (u : Nat) (f : File) (e : Pass) (step : Nat) : State × Nat × Nat :=
  (List.range (ceilDiv e.records 256)).foldl (fun (a : State × Nat × Nat) g =>
    let y := a.1.runGroup (u / 4) f e step g oneF false
    (y.1, sumGroup true a.2 y.2.2)) (s, s.upd.preSums.get (u, e.layer, step) (0, 0))

theorem State.prepassRead_readOnly (s : State) (u : Nat) (f : File) (e : Pass) (step : Nat) : s.ReadOnly (s.prepassRead u f e step).1 :=
  List.foldlRecOn (motive := fun y : State × Nat × Nat => s.ReadOnly y.1) _ _ (.refl s) fun _ hy _ _ => hy.runGroup (ratio := oneF)

/-- What a pre-pass leaves: its entry marked, and beside that the state that was read. -/
structure State.PrepassDone (s t : State) (u k step layer : Nat) : Prop where
  marked : t.upd.preDone = (s.partOf (u / 4), step, k) :: s.upd.preDone
  layer : t.get (pgUnit u) .UU_LAYER = layer % 1024
  done : t.upd.done = s.upd.done
  beds : t.beds = s.beds
  byte : s.mem.cache = [] → ∀ a, t.mem.byte a = s.mem.byte a

theorem State.prepass_done (s : State) (u : Nat) (f : File) (k : Nat) (e : Pass) (step : Nat) :
    s.PrepassDone (s.prepass u f k e step) u k step e.layer := by
  obtain ⟨haccessed, -, hcontent⟩ := s.prepassRead_readOnly u f e step
  exact {
    marked := congrArg (fun x : UpdSt => (s.partOf (u / 4), step, k) :: x.preDone) haccessed.upd
    layer := (State.get_put_fld _ _ _ _ _ _ (by decide)).trans (State.get_put_same ..)
    done := (congrArg UpdSt.done haccessed.upd :)
    beds := haccessed.beds
    byte := fun hc a => (congrArg (MemSt.byte · a) (hcontent hc) :) }

theorem exec_updatePrepass_due {u : Stack} {s : State} {t k : Nat} {e : Pass} (hmay : s.unitMay u.val = true)
    (hnext : s.nextPass u.val s.upd.preDone (fun t f e => updExact f && !s.skipped (s.partOf (u.val / 4)) e.bucket t) = some (t, k, e)) :
    exec (.updatePrepass u) s = .next (s.prepass u.val (s.stepFile (s.partOf (u.val / 4)) t) k e t) := by
  have hentry : exec (.updatePrepass u) s = execUpdatePrepass u s := rfl
  rw [hentry, execUpdatePrepass, hmay, hnext]
  rfl

/-! ### UNIT_STOP (R202) -/

/-- The state in which a unit that was asked has stopped: its entry stays where its bed's armature runs. -/
def State.unitStopped (s : State) (u : Nat) : State :=
  let t := { s with upd := { s.upd with stopReq := setMark s.upd.stopReq u false } }
  (((if s.runsArm (u / 4) then t else t.setRun u none).put (pgUnit u) .PASS_ACTIVE 0).put (pgUnit u) .PREPASS 0).put (pgUnit u) .ROLLING 0

/-- What a stop leaves beside the registers. -/
theorem State.unitStopped_leaves (s : State) (u : Nat) : (s.unitStopped u).upd.stopReq.contains u = false ∧
    (s.unitStopped u).upd.run = (if s.runsArm (u / 4) then s.upd.run else s.upd.run.del u) ∧ (s.unitStopped u).mem = s.mem ∧
    (s.unitStopped u).upd.done = s.upd.done := by
  unfold State.unitStopped
  dsimp only
  split <;> exact ⟨by simp [State.setRun, setMark], rfl, rfl, rfl⟩

/-- What a stopped unit shows (R218). -/
theorem State.unitStopped_shows (s : State) (u : Nat) : (s.unitStopped u).get (pgUnit u) .PASS_ACTIVE = 0 ∧
    (s.unitStopped u).get (pgUnit u) .PREPASS = 0 ∧ (s.unitStopped u).get (pgUnit u) .ROLLING = 0 := by
  simp [State.unitStopped, State.get_put]

theorem exec_unitStop_asked {u : Stack} {s : State} (h : s.upd.stopReq.contains u.val = true) :
    exec (.unitStop u) s = .next (s.unitStopped u.val) := by
  have hstop : execUnitStop u s = .next (s.unitStopped u.val) := if_pos h
  exact hstop

/-! ### REGROW_REPLAY (R217) -/

/-- A replay leaves the beds and the partitions' own parts. -/
theorem State.replayEntry_places (s : State) (f : File) (k : Nat) (e : Pass) (step : Nat) :
    (s.replayEntry f k e step).beds = s.beds ∧ (s.replayEntry f k e step).parts = s.parts := by
  have hring : s.Passed (s.readRing (e.unit / 4) f e.layer step).1 := (State.Passed.refl s).read (State.ReadOnly.refl s).readRing
  unfold State.replayEntry
  extract_lets u ring
  split
  · exact ⟨hring.beds, hring.parts⟩
  next y _ =>
    extract_lets r
    have hgroups : s.Passed r.1 :=
      List.foldlRecOn (motive := fun a : State × List Nat => s.Passed a.1) _ _ hring fun _ ha _ _ => ha.passOne
    have hend := r.1.endPass_passed u f k e step y.1 y.2
    exact ⟨hend.beds.trans hgroups.beds, hend.parts.trans hgroups.parts⟩

/-- The state in which every entry of a step has been replayed. -/
def State.replayed (s : State) (q step : Nat) : State :=
  (passes (s.regrowFile q)).foldl (fun t e =>
    if t.passAllows q step e.2 && t.partOf (e.2.unit / 4) == q then t.replayEntry (s.regrowFile q) e.1 e.2 step else t) s

theorem State.replayed_places (s : State) (q step : Nat) : (s.replayed q step).beds = s.beds ∧ (s.replayed q step).parts = s.parts := by
  refine List.foldlRecOn (motive := fun t : State => t.beds = s.beds ∧ t.parts = s.parts) _ _ ⟨rfl, rfl⟩ fun t ht e _ => ?_
  obtain ⟨hbeds, hparts⟩ := t.replayEntry_places (s.regrowFile q) e.1 e.2 step
  split
  · exact ⟨hbeds.trans ht.1, hparts.trans ht.2⟩
  · exact ht

theorem exec_regrowReplay_next {q : Bed} {s : State} (hr : (s.part q.val).regrowing = true) (hs : hasSec (s.regrowFile q.val) 0x08 = true) :
    exec (.regrowReplay q (nextStep (s.part q.val).regrowStep)) s =
      .next ((s.replayed q.val (nextStep (s.part q.val).regrowStep)).setPart q.val
        { (s.replayed q.val (nextStep (s.part q.val).regrowStep)).part q.val with regrowStep := nextStep (s.part q.val).regrowStep }) := by
  have hreplay : execRegrowReplay q (nextStep (s.part q.val).regrowStep) s = _ := if_pos (by simp [hr, hs])
  exact hreplay

/-! ### CUTTING_RECEIVE and CUT_ACK_RECEIVE (R216, R218) -/

/-- A command that brings a packet which passes the receiver's checks hands it to its consumer. -/
theorem State.consume_taken {s t : State} {p ty : Nat} {k m : Packet} {f : State → Packet → State} (hty : k.type = ty)
    (hin : s.takeIn p k = (t, some m)) : s.consume p k ty f = .next (f t m) := by
  rw [State.consume, if_neg (not_not.2 hty), hin]

/-! The begin of a ward slot. -/

theorem unaccessed_wardValid (k : Nat) : unaccessed (wardValid k) = true := by
  unfold wardValid
  split <;> rfl

theorem wardValid_ne_rejected (k : Nat) : Fld.WARD_REJECTED ≠ wardValid k := by
  unfold wardValid
  split <;> decide

/-- A ward slot opened for a step. -/
def State.wardOpened (s : State) (q k step : Nat) : State :=
  ((s.setWard q (1 - k) none).setWard q k (some (step, []))).put (s.wardPage q) (wardValid k) 0

section BeginWard

variable (s : State) (q k step : Nat)

/-- The begin of a slot is its opening, with CUT_FAIL where a slot was incomplete. -/
theorem State.beginWard_opened : s.beginWard q k step = s.wardOpened q k step ∨
    s.beginWard q k step = (s.wardOpened q k step).raise (s.wardPage q) 5 := by
  unfold State.beginWard
  extract_lets p torn t u
  by_cases h : torn = true
  · exact .inr (if_pos h)
  · exact .inl (if_neg h)

/-- The slot counts no line yet. -/
theorem State.beginWard_lines : (s.beginWard q k step).upd.wardLines.find? (q, k) = some (step, []) := by
  have hopened : (s.wardOpened q k step).upd.wardLines.find? (q, k) = some (step, []) := Tab.find?_put_same ..
  rcases s.beginWard_opened q k step with h | h <;> rw [h]
  · exact hopened
  · rw [State.raise_upd, hopened]

theorem State.beginWard_raised {g : Fld} (hq : quietField g = true) : (s.wardOpened q k step).SameField g (s.beginWard q k step) := by
  rcases s.beginWard_opened q k step with h | h <;> rw [h]
  · exact .rfl
  · exact State.SameField.rfl.raise hq

theorem State.beginWard_field {g : Fld} (hq : quietField g = true) (hg : g ≠ wardValid k) : s.SameField g (s.beginWard q k step) := by
  have hslots : s.SameField g ((s.setWard q (1 - k) none).setWard q k (some (step, []))) := State.SameField.rfl.congr (Eq.refl _)
  exact (hslots.put hg).trans (s.beginWard_raised q k step hq)

/-- The slot is invalid from its first line on (R216). -/
theorem State.beginWard_invalid : (s.beginWard q k step).get (s.wardPage q) (wardValid k) = 0 := by
  rw [(s.beginWard_raised q k step (quietField_of_unaccessed (unaccessed_wardValid k))).get, State.wardOpened, State.get_put_same,
    Nat.zero_mod]

end BeginWard

/-! A line. -/

/-- The slot that a cutting's step goes to: 0 A, 1 B. -/
def cutSlot (f : File) (m : Packet) : Nat := tfAt m 28 4 / max 1 (cutInterval f) % 2

/-- The request that writes a cutting's line to its slot. -/
def cutReq (f : File) (p : Nat) (m : Packet) : MemReq :=
  ⟨bedOf (p / 2), 2, 0, 0, wardBase f + cutSlot f m * cutSlotBytes f + tfAt m 32 8, false⟩

section Cutting

variable {s : State} {p : Nat} {m : Packet}

/-- A line from elsewhere, outside the slot or off its grid. -/
theorem State.cuttingIn_rejected (h : hasSec (s.partArm (s.portPart p)) 0x08 = false ∨ m.src ≠ cutWard (s.partArm (s.portPart p)) ∨
    cutSlotBytes (s.partArm (s.portPart p)) < tfAt m 32 8 + m.payload.length ∨ tfAt m 32 8 % 64 ≠ 0) :
    s.cuttingIn p m = s.rejectCut (s.portPart p) m.src (tfAt m 32 8) :=
  if_pos (by simpa [or_assoc] using h)

theorem State.cuttingIn_accepted (hs : hasSec (s.partArm (s.portPart p)) 0x08 = true) (hsrc : m.src = cutWard (s.partArm (s.portPart p)))
    (hin : tfAt m 32 8 + m.payload.length ≤ cutSlotBytes (s.partArm (s.portPart p))) (hgrid : tfAt m 32 8 % 64 = 0) :
    s.cuttingIn p m = s.wardLine p (s.portPart p) (s.partArm (s.portPart p)) m :=
  if_neg (by simp [hs, hsrc, hgrid, hin])

/-- The first line of a step, in a slot of more lines than one: the slot begins, and counts the line once it is written. -/
theorem State.wardLine_first {q : Nat} {f : File} (hroom : 64 < cutSlotBytes f) (hnone : s.upd.wardLines = [])
    (hvalid : s.flag (s.wardPage q) (wardValid (cutSlot f m)) = false) : s.wardLine p q f m =
      ((s.beginWard q (cutSlot f m) (tfAt m 28 4)).writeSpan (cutReq f p m) m.payload m.poison).setWard q (cutSlot f m)
        (some (tfAt m 28 4, [tfAt m 32 8])) := by
  unfold State.wardLine
  extract_lets step off n pg r whole s1 s2
  have hbegun : s1 = s.beginWard q n step := by
    have hwhole : whole = false := Bool.and_eq_false_iff.2 (.inl hvalid)
    dsimp only [s1]
    rw [hnone, hwhole]
    rfl
  have hwritten : s2 = (s.beginWard q n step).writeSpan r m.payload m.poison := congrArg (State.writeSpan · r m.payload m.poison) hbegun
  have hlines : s2.upd.wardLines.find? (q, n) = some (step, []) := by
    rw [hwritten, (State.Accessed.refl _).writeSpan.upd, State.beginWard_lines]
  have hmore : ¬ cutSlotBytes f ≤ 64 * [off].length := by
    rw [List.length_singleton]
    omega
  rw [hlines]
  refine (if_neg hmore).trans ?_
  rw [hwritten]
  rfl

end Cutting

theorem exec_cuttingReceive_taken {p : Port} {k m : Packet} {s u : State} (hty : k.type = tyCutting) (hin : s.takeIn p.val k = (u, some m)) :
    exec (.cuttingReceive p k) s = .next (u.cuttingIn p.val m) :=
  State.consume_taken hty hin

theorem exec_cutAckReceive_partner {p : Port} {k m : Packet} {s u : State} (hty : k.type = tyCutAck) (hin : s.takeIn p.val k = (u, some m))
    (hs : hasSec (u.partArm (u.portPart p.val)) 0x08 = true) (hsrc : m.src = cutPartner (u.partArm (u.portPart p.val))) :
    exec (.cutAckReceive p k) s = .next ((u.put (u.wardPage (u.portPart p.val)) .CUT_DONE_STEP (tfAt m 28 4)).raise
      (u.wardPage (u.portPart p.val)) 4) := by
  have hack : u.cutAckIn p.val m = _ := if_pos (by simp [hs, hsrc])
  exact (State.consume_taken hty hin).trans (congrArg _ hack)

/-- Settles O52: each command is one equation, and what it leaves is read off the pass or the reads that it is made of. -/
theorem updatesAndCuttings : Obligations.UpdatesAndCuttings := by
  unfold Obligations.UpdatesAndCuttings
  refine ⟨?entry, ?prepass, ?stop, ?replay, ?reject, ?line, ?ack⟩
  case entry =>
    intro u s t k e hmay hrun hnext
    obtain ⟨hlayer, hactive, hparted, hbeds, hparts, hruns, hdone⟩ := s.groupPassed_done u.val ⟨t, k, 0, []⟩ e
    rw [exec_updateEntry_begin hmay hrun hnext]
    refine ⟨_, rfl, ?_⟩
    by_cases hlast : e.records ≤ 256
    · have hend := s.advance_last u.val ⟨t, k, 0, []⟩ e hlast
      refine ⟨?_, hend.beds.trans hbeds, hend.parts.trans hparts, fun hmore => absurd hlast (Nat.not_le.2 hmore), fun _ => ⟨?_, ?_, ?_⟩⟩
      · rw [(hend.field (by decide)).get, (State.entryEnded_field _ _ _ _ (by decide) (by decide)).get, hlayer]
      · rw [(hend.field (by decide)).get, State.entryEnded_active]
      · rw [hend.run]
        exact (Tab.find?_del ..).trans (if_pos rfl)
      · rw [hend.done, ← hdone, ← hparted]
        rfl
    · rw [State.advance_more _ _ _ _ hlast]
      exact ⟨hlayer, hbeds, hparts, fun _ => ⟨hactive, ⟨_, Tab.find?_put_same .., rfl, rfl, rfl⟩, hdone⟩, fun h => absurd h hlast⟩
  case prepass =>
    intro u s t k e hmay hnext
    obtain ⟨hmarked, hlayer, hdone, hbeds, hbyte⟩ := s.prepass_done u.val (s.stepFile (s.partOf (u.val / 4)) t) k e t
    exact ⟨_, exec_updatePrepass_due hmay hnext, hmarked, hlayer, hdone, hbeds, hbyte⟩
  case stop =>
    intro u s h
    obtain ⟨hasked, hrun, hmem, hdone⟩ := s.unitStopped_leaves u.val
    obtain ⟨hactive, hpre, hrolling⟩ := s.unitStopped_shows u.val
    refine ⟨_, exec_unitStop_asked h, hasked, hactive, hpre, hrolling, fun harm => ?_, fun harm => ?_, hmem, hdone⟩
    · rw [hrun, if_neg (by simp [harm]), Tab.find?_del, if_pos rfl]
    · rw [hrun, if_pos harm]
  case replay =>
    intro q s hr hs
    obtain ⟨hbeds, hparts⟩ := s.replayed_places q.val (nextStep (s.part q.val).regrowStep)
    refine ⟨_, exec_regrowReplay_next hr hs, ?_, (State.setPart_beds ..).trans hbeds⟩
    rw [State.setPart_part, State.part, hparts, State.part]
  case reject =>
    intro p k m s u hty hin hbad
    rw [exec_cuttingReceive_taken hty hin, State.cuttingIn_rejected hbad]
    rfl
  case line =>
    intro p k m s u hty hin hs hsrc hroom hgrid hlen hnone hA hB
    have hvalid : ∀ n, u.flag (u.wardPage (u.portPart p.val)) (wardValid n) = false := fun n => by
      unfold wardValid
      split
      · exact hA
      · exact hB
    have hfield : ∀ {g : Fld} {t : State} {r : MemReq}, unaccessed g = true → t.SameField g (t.writeSpan r m.payload m.poison) :=
      fun hg => State.SameField.rfl.writeSpan hg
    rw [exec_cuttingReceive_taken hty hin, State.cuttingIn_accepted hs hsrc (by omega) hgrid, State.wardLine_first (by omega) hnone (hvalid _)]
    refine ⟨_, rfl, Tab.find?_put_same .., ?_, ?_⟩
    · exact ((hfield (by decide)).get _ _).trans ((u.beginWard_field _ _ _ (by decide) (wardValid_ne_rejected _)).get _ _)
    · exact ((hfield (unaccessed_wardValid _)).get _ _).trans (u.beginWard_invalid ..)
  case ack => exact fun _ _ _ _ _ => exec_cutAckReceive_partner

end Sys2Proof.Machine
end
